-- ==== Sys2Proof/Word.lean ====
section
/-! DEFINITION. The word and byte types of the device (R8, R13). -/

namespace Sys2Proof

/-- A 32-bit register or memory word (R13). -/
abbrev Word := BitVec 32

/-- One byte of a memory. -/
abbrev Byte := BitVec 8

end Sys2Proof
end

