-- ==== Sys2Proof/Syntax.lean ====
section
/-! DEFINITION. The commands of the block: one constructor per row of the table of operations and events. The operands
carry what comes from outside the part (a master's write, a pin, a bus frame, a measured quantity, a time within the
frame). -/

namespace Sys2Proof

/-- The three masters of R22 and R583. -/
inductive Master where
  /-- The service port. -/
  | port
  /-- The peer unit over the Plios link. -/
  | peer
  /-- A Zone Protocol partner. -/
  | partner
  deriving DecidableEq, Repr

/-- A read mode that a BFPT reports as supported (R75). -/
structure ReadMode where
  /-- Read opcode. -/
  opcode : BitVec 8
  /-- Mode and dummy clocks of a read. -/
  clocks : BitVec 4
  deriving DecidableEq, Repr

/-- What the flash parameter table of JESD216 that parameter header 0 points to reports (R74 to R76, R96). -/
structure Bfpt where
  /-- Its length in DWORDs. -/
  dwords : BitVec 8
  /-- 1-4-4 reads. -/
  r144 : Option ReadMode
  /-- 1-1-4 reads. -/
  r114 : Option ReadMode
  /-- 1-2-2 reads. -/
  r122 : Option ReadMode
  /-- 1-1-2 reads. -/
  r112 : Option ReadMode
  /-- DTR clocking. -/
  dtr : Bool
  /-- Quad-enable requirement field. -/
  qer : BitVec 3
  /-- A volatile status write. -/
  volatileWrite : Bool
  /-- 4 KiB erase opcode. -/
  erase4k : BitVec 8
  deriving DecidableEq, Repr

/-- What the flash answered in step 3 (R74 to R77). -/
structure FlashInfo where
  /-- Signature of the SFDP header. -/
  signature : BitVec 32
  /-- Its major revision. -/
  major : BitVec 8
  /-- Its minor revision. -/
  minor : BitVec 8
  /-- The BFPT; none when it does not read as valid. -/
  bfpt : Option Bfpt
  /-- The quad-enable bit of the flash as read. -/
  quadOn : Bool
  deriving DecidableEq, Repr

/-- How the flash took the programming of a slot (R96). -/
structure ProgOutcome where
  /-- Every erase ended well. -/
  erased : Bool
  /-- Every page program ended well. -/
  programmed : Bool
  /-- Bytes read back, as slot offset and value; every byte that is not listed reads back as it was sent. -/
  back : List (BitVec 19 × Byte)
  deriving DecidableEq, Repr

/-- The trailer and the Colophon body of a slot, as read from the flash (R78 to R81). -/
structure SlotHeader where
  /-- The last 16 bytes of the slot. -/
  trailer : List Byte
  /-- The bytes before the trailer, as many as COLLEN names. -/
  colophon : List Byte
  deriving DecidableEq, Repr

/-- How a movement of an encoder ended (R548). -/
inductive DetentKind where
  /-- A full cycle that adds 1. -/
  | up
  /-- A full cycle that subtracts 1. -/
  | down
  /-- A transition in which both inputs changed. -/
  | invalid
  deriving DecidableEq, Repr

/-- The sources of the safe-state bus. -/
inductive SafeSource where
  /-- Lock loss of PLL_M (R28). -/
  | pllM
  /-- Lock loss of PLL_L (R28). -/
  | pllL
  /-- The frame watchdog (R52). -/
  | watchdog
  /-- Crystal loss (R54). -/
  | crystal
  /-- Power failure (R505). -/
  | pfi
  /-- Thermal watch in HOT (R522). -/
  | hot
  deriving DecidableEq, Repr

/-- A frame on a bus: identifier, flags and payload. -/
structure CanFrame where
  /-- Extended identifier (29 bits). -/
  ide : Bool
  /-- The identifier. -/
  id : BitVec 29
  /-- Remote frame. -/
  rtr : Bool
  /-- FD frame. -/
  fdf : Bool
  /-- Bit-rate switch. -/
  brs : Bool
  /-- Error state indicator. -/
  esi : Bool
  /-- Data length code. -/
  dlc : BitVec 4
  /-- The data bytes. -/
  data : List Byte
  deriving DecidableEq, Repr

/-- A calibration set of a core: offset, gain and pipeline stage weights (R121 to R123). -/
structure CalSet where
  /-- Offset, signed, in 1/16 LSB. -/
  ofs : BitVec 16
  /-- Gain; 0x8000 is 1.0. -/
  gain : BitVec 16
  /-- Stage weights. -/
  weights : List Word
  deriving DecidableEq, Repr

/-- Measured calibration outcomes at power-up of the converters (R125, R126). -/
structure CalResults where
  /-- Measured sets of F0 to F3 and S. -/
  sets : List CalSet
  /-- Midscale readings of G0 to G3. -/
  mid : List (BitVec 14)
  /-- Skew trims of F0/F1 and F2/F3 in ps, within -50 to 50. -/
  skew : List Int
  deriving DecidableEq, Repr

/-- What the analogue world gives one conversion. -/
structure ConvOutcome where
  /-- Voltage of the input pin (the even pin of a pair) in picovolts. -/
  vp : Int
  /-- Voltage of the odd pin of a differential pair in picovolts. -/
  vn : Int
  /-- Deviation of the code from the ideal transfer function, in LSB. -/
  err : Int
  deriving DecidableEq, Repr

/-- What kind of bus error was detected (ISO 11898-1, as R400 refers to it). -/
inductive BusErrKind where
  /-- An error detected as a receiver. -/
  | receiver
  /-- A receiver's further error: a dominant bit after its error flag, a bit error in its active error or overload
  flag, or a run of eight dominant bits after one. -/
  | receiverHeavy
  /-- An error detected as the transmitter; `acked`: the frame had already been acknowledged. -/
  | transmitter (acked : Bool)
  /-- An ACK error; `quiet`: no dominant bit was seen while sending the error flag. -/
  | ack (quiet : Bool)
  /-- A stuff error of the transmitter during arbitration, on a recessive stuff bit read dominant. -/
  | stuffArb
  /-- A transmitter's further error: a bit error in its active error or overload flag, or a run of eight dominant bits
  after one. -/
  | transmitterHeavy
  deriving DecidableEq, Repr

/-- A detected bus error (R400). -/
structure BusErr where
  /-- Its kind. -/
  kind : BusErrKind
  /-- The transmitter delay measured before it in the frame sent, if it came to that (R380). -/
  tdc : Option (BitVec 8)
  deriving DecidableEq, Repr

/-- A COMPAT record as received (R466). -/
structure CompatRec where
  /-- The bytes of the record. -/
  bytes : List Byte
  deriving DecidableEq, Repr

/-- A STATUS frame (R463, R468). -/
structure StatusRec where
  /-- STATE. -/
  state : BitVec 3
  /-- Health word. -/
  h : BitVec 8
  /-- CRT_FRAMENO. -/
  frame : BitVec 32
  /-- RTC seconds. -/
  rtc : BitVec 32
  /-- RTC-set flag. -/
  rtcSet : Bool
  /-- CKNUM of the Vault. -/
  cknum : BitVec 32
  deriving DecidableEq, Repr

/-- A CAPS frame (R462). -/
structure CapsRec where
  /-- Supported link versions: bit 0 version 1, bit 1 version 2. -/
  vers : BitVec 2
  /-- Both receive lanes are locked. -/
  two : Bool
  /-- The rate is 125 Mbit/s. -/
  slow : Bool
  deriving DecidableEq, Repr

/-- A CKPT chunk: the head of its record, where the chunk lies in the body, and its bytes (R471, R472). -/
structure CkptChunk where
  /-- KIND. -/
  kind : BitVec 4
  /-- INDEX. -/
  index : BitVec 12
  /-- FRAME. -/
  frame : BitVec 32
  /-- CKNUM. -/
  cknum : BitVec 32
  /-- BLEN. -/
  blen : BitVec 16
  /-- Offset of the chunk in the body. -/
  off : BitVec 16
  /-- Body bytes, at most 240. -/
  bytes : List Byte
  deriving DecidableEq, Repr

/-- What the slices of one self-test cycle of a standby found (R482). -/
structure SelfTestResult where
  /-- SRAM: offset in the 16 KiB slice of the byte at which the March test failed; none when it passed. -/
  sram : Option (BitVec 14)
  /-- Converter: the codes of VREFN, midscale and VREFP. -/
  codes : List (BitVec 14)
  /-- PWM: the commanded clock of each edge and the clock at which it read back. -/
  edges : List (BitVec 16 × BitVec 16)
  deriving DecidableEq, Repr

/-- Where a switch edge falls (R174 to R180, R200). -/
inductive SwitchTarget where
  /-- Phase `x` of group `g`. -/
  | phase (g : Fin 6) (x : Fin 3)
  /-- General channel `c`. -/
  | gp (c : Fin 32)
  deriving DecidableEq, Repr

/-- The commands: the rows of the table, in its order. -/
inductive Instr where
  /-- TICK (R36): The PWM frame counter wraps, the tick reaches every domain and the tick work runs in its fixed order. Operands: levels of the DI pins at the tick. -/
  | tick (di : BitVec 16)
  /-- C0_RELEASE (R41): A drive's C0 items are released once its input latch reports complete. Operands: `w`: first CE cycle at or after the latch's completing write. -/
  | c0Release (d : Fin 6) (w : Nat)
  /-- ITEM_START (R43): A lane starts its next due item after the budget check against the class window. -/
  | itemStart (lane : Fin 4)
  /-- ITEM_COMPLETE (R39): An item completes and writes back its state, destination, flags and counters. -/
  | itemComplete (lane : Fin 4)
  /-- PLL_LOCK_LOSS (R28): A PLL loses lock after boot, the safe-state bus is asserted and LOCKLOSS is set. Operands: `link`: PLL_L, else PLL_M. -/
  | pllLockLoss (link : Bool)
  /-- FRAME_WATCHDOG_EXPIRY (R52): No tick for four frames asserts the safe-state bus and resets the device with WDOG. -/
  | frameWatchdogExpiry
  /-- CRYSTAL_LOSS (R54): No XIN edge for four AON periods asserts the safe-state bus and resets the device with XTAL. -/
  | crystalLoss
  /-- RTC_SECOND_EDGE (R346): The RTC counts one second and the per-second work falls due. -/
  | rtcSecondEdge
  /-- ALMANAC_EVALUATION_START (R50): The Almanac evaluation starts at the first tick after the RTC second edge. -/
  | almanacEvaluationStart
  /-- ALMANAC_EVALUATION_END (R371): The Almanac evaluation finishes its zone, staging and rule steps and stages its writes. -/
  | almanacEvaluationEnd
  /-- POWER_ON_RESET (R60): VDDAON or VDDC below threshold resets the device and clears AON state. Operands: `core`: VDDC alone fell. -/
  | powerOnReset (core : Bool := false)
  /-- PIN_RESET (R59): RST_N low resets the device, keeping AON state. -/
  | pinReset
  /-- RESET_RELEASE (R65): The device leaves reset and starts the boot sequence at step 1. -/
  | resetRelease
  /-- PLL_LOCK (R27): Both PLLs lock and boot continues with the recall scan and memory zeroing. -/
  | pllLock
  /-- FLASH_NEGOTIATION_DONE (R75): SFDP negotiation ends and the read mode is chosen, so the slot read starts. Operands: what SFDP gave; trailer and Colophon of the first slot. -/
  | flashNegotiationDone (info : FlashInfo) (hdr : SlotHeader)
  /-- SECTION_RECEIVED (R89): A section's last byte arrives and its SCRC and structural check are judged. Operands: the section's bytes. -/
  | sectionReceived (bytes : List Byte)
  /-- IMAGE_CLEAR_DONE (R90): The clear of a failed image ends and the next slot is read or RECOVERY is entered. Operands: trailer and Colophon of the next slot. -/
  | imageClearDone (hdr : SlotHeader)
  /-- MEMORY_SELF_TEST_DONE (R66): The memory self-test and CRC recheck end, continuing the boot or stopping it with BIST_FAIL. Operands: the March test passed; the CRC recheck passed. -/
  | memorySelfTestDone (march crc : Bool)
  /-- LINK_BRINGUP_TIMEOUT (R67): No peer answers within the 20 ms of step 6 and the unit continues unpaired. -/
  | linkBringupTimeout
  /-- UNIT_STATE_DECIDED (R68): Step 7 samples CUR_SEL and makes the unit ACTIVE, SHELVED or INELIGIBLE. Operands: level of CUR_SEL. -/
  | unitStateDecided (sel : Bool)
  /-- INITIAL_CALIBRATION_DONE (R125): The three 2 ms phases of the boot calibration end. Operands: measured sets. -/
  | initialCalibrationDone (cal : CalResults)
  /-- ENCODER_DETENT (R548): A full quadrature cycle moves an encoder's COUNT by one, and in RECOVERY its selection. Operands: filtered levels (A, B) that the pins take in turn. -/
  | encoderDetent (k : Fin 2) (path : List (Bool × Bool))
  /-- ENCODER_SWITCH_PRESS (R549): A filtered falling edge of ENCk_SW sets SWEV, and in RECOVERY confirms the selection. Operands: `down`: the level falls; else it rises again. -/
  | encoderSwitchPress (k : Fin 2) (down : Bool := true)
  /-- GO_A (R94): BOOT_CTL.GO_A boots slot A alone from step 3. -/
  | goA (m : Master)
  /-- GO_B (R94): BOOT_CTL.GO_B boots slot B alone from step 3. -/
  | goB (m : Master)
  /-- GO_RAM (R95): BOOT_CTL.GO_RAM clears, checks and applies the staged image and then runs steps 5 onward. -/
  | goRam (m : Master)
  /-- PROG_A (R96): BOOT_CTL.PROG_A checks the staged image and erases and programs slot A. -/
  | progA (m : Master)
  /-- PROG_B (R96): BOOT_CTL.PROG_B checks the staged image and erases and programs slot B. -/
  | progB (m : Master)
  /-- SLOT_PROGRAMMING_DONE (R96): Slot programming and verify end, clearing PROGBUSY and reporting PROGERR on failure. Operands: how the flash took the erases, the page programs and the verify. -/
  | slotProgrammingDone (out : ProgOutcome)
  /-- SHADOW_HOLD_WRITE (R99): A write of BOOT_SHADOWCTL.HOLD holds or releases all shadow commits. -/
  | shadowHoldWrite (m : Master) (w : Word)
  /-- SHADOW_HOLD_EXPIRY (R100): HOLD held for 2048 frames is cleared by the device and HOLDEXP is set. -/
  | shadowHoldExpiry
  /-- CONVERSION_RESULT (R113): A conversion's shaped result is written to result RAM at s + 12. Operands: the oldest conversion in flight on a logical core. -/
  | conversionResult (core : Fin 8) (c : ConvOutcome)
  /-- CALIBRATION_CYCLE_DUE (R127): The interval timer expires and a background calibration cycle starts with S calibrating itself. -/
  | calibrationCycleDue
  /-- CORE_CALIBRATION_END (R124): A core's 2 ms calibration ends and the new set is accepted or rejected. Operands: what the core that calibrates measured: offset and gain, and stage weights. -/
  | coreCalibrationEnd (trim : BitVec 16 × BitVec 16) (weights : List Word)
  /-- CALIBRATION_HANDOFF (R131): At the first eligible point S takes over Fk's conversions and Fk starts calibrating. Operands: `j`: ADC edge of the frame, edge 0 when it is left out. -/
  | calibrationHandoff (j : BitVec 16 := 0)
  /-- HANDOFF_DEADLINE (R133): No eligible point within two frames postpones the cycle and ADC_POSTCNT increments. -/
  | handoffDeadline
  /-- CALIBRATION_RETRY (R133): A postponed cycle is retried at a tick whose frame number is a multiple of 64. -/
  | calibrationRetry
  /-- CALIBRATION_HANDBACK (R134): At the first eligible point after its calibration, Fk takes back its conversions from S. Operands: `j`: ADC edge of the frame, edge 0 when it is left out. -/
  | calibrationHandback (j : BitVec 16 := 0)
  /-- LATE_HANDBACK (R135): Handback not done two frames after Fk's calibration ended sets LATEBACK. -/
  | lateHandback
  /-- CALIBRATION_FORCE (R137): ADC_CALCTL.FORCE makes a calibration cycle due at once. -/
  | calibrationForce (m : Master) (w : Word)
  /-- PERMANENT_SUBSTITUTION_SET (R138): Setting PERM makes S replace PCORE permanently and powers PCORE down. -/
  | permanentSubstitutionSet (m : Master) (w : Word)
  /-- PERMANENT_SUBSTITUTION_CLEAR (R138): Clearing PERM powers PCORE up, calibrates it and hands back. -/
  | permanentSubstitutionClear (m : Master) (w : Word)
  /-- REGULAR_TRIGGER_DUE (R146): A regular trigger becomes due by its CONTINUOUS or TICK mode. -/
  | regularTriggerDue
  /-- REGULAR_START_GO (R146): SEQ_REGSTART.GO makes a regular trigger due in SOFTWARE mode. -/
  | regularStartGo (m : Master) (w : Word)
  /-- REGULAR_PASS_START (R147): A regular pass starts at the first sampling edge for its due time. Operands: `j`: ADC edge of the frame, edge 0 when it is left out. -/
  | regularPassStart (j : BitVec 16 := 0)
  /-- REGULAR_PASS_END (R147): A regular pass ends when every taking-part core has sampled its last mask input. -/
  | regularPassEnd
  /-- INJECTED_TRIGGER_DUE (R150): An injected sequence's trigger becomes due at its event time plus DELAY. Operands: `t`: PWM clock of the frame. -/
  | injectedTriggerDue (n : Fin 8) (t : BitVec 16)
  /-- INJECTED_SOFTWARE_TRIGGER (R150): A bit of SEQ_ISTRIG triggers its injected sequence of SRC 0x1. Operands: `t`: PWM clock at which the write reaches the PWM domain. -/
  | injectedSoftwareTrigger (m : Master) (w : Word) (t : BitVec 16)
  /-- INJECTED_SEQUENCE_START (R154): A pending injected sequence starts once all its cores are free, late if it had to wait. Operands: `j`: ADC edge of the frame. -/
  | injectedSequenceStart (n : Fin 8) (j : BitVec 16)
  /-- CARRIER_VALLEY (R181): At a group's valley the buffers load, the minimum-pulse test and carry run and a cut may be released. Operands: filtered trip inputs. -/
  | carrierValley (g : Fin 6) (trips : BitVec 8)
  /-- CARRIER_PEAK (R178): At a group's peak, with LOAD = 1, the buffers load and f_x is recomputed. -/
  | carrierPeak (g : Fin 6)
  /-- PEAK_WIDTH_COPY (R297): One PWM clock after the first valley, a ripple drive's peak widths are written into the buffers. -/
  | peakWidthCopy (d : Fin 6)
  /-- GP_PERIOD_START (R200): A general channel's counter reaches period clock 0 and loads its active duty. -/
  | gpPeriodStart (c : Fin 32)
  /-- TRIP_REGISTERED (R185): A filtered trip input going active cuts its mapped groups for the rest of the period. Operands: `t`: PWM clock of the frame. -/
  | tripRegistered (n : Fin 8) (t : BitVec 16)
  /-- SAFE_STATE_ASSERT (R55): The safe-state bus is asserted and outputs take their safe values within 4 PWM clocks. -/
  | safeStateAssert (src : SafeSource)
  /-- SAFE_STATE_RELEASE (R195): After every source releases the safe-state bus, outputs leave their safe values from the next tick. -/
  | safeStateRelease (src : SafeSource)
  /-- COMPARE_WRITE (R179): A master write of PWM_Gg_CMPx sets the buffer for the next load point. -/
  | compareWrite (m : Master) (g : Fin 6) (x : Fin 3) (w : Word)
  /-- GROUP_OFF_WRITE (R196): A write of PWM_Gg_CTL.OFF turns the group off or lets it resume at its next valley. -/
  | groupOffWrite (m : Master) (g : Fin 6) (w : Word)
  /-- COAST_ENABLE (R197): Setting PWM_Gg_COAST.EN makes the rotator supply widths from the next valley. -/
  | coastEnable (m : Master) (g : Fin 6)
  /-- COAST_DISABLE (R199): Clearing COAST.EN leaves the rotator's last widths in the buffers. -/
  | coastDisable (m : Master) (g : Fin 6)
  /-- COAST_ANGLE_WRITE (R199): A write of PWM_Gg_ANGLE sets the rotator angle while EN is 0. -/
  | coastAngleWrite (m : Master) (g : Fin 6) (w : Word)
  /-- CARRIER_RATE_PHASE_CHANGE (R629): A new RATE or PHASE takes effect at the first tick after the write reaches the PWM domain. Operands: groups are channels 0 to 5, general channels 6 to 37; `w`: the CFG word. -/
  | carrierRatePhaseChange (m : Master) (ch : Fin 38) (w : Word)
  /-- ENGINE_RUN (R235): CE_CTL.RUN written 1 lets items start from the next tick. -/
  | engineRun (m : Master)
  /-- ENGINE_STOP (R235): CE_CTL.RUN written 0 makes the engine stop at the next tick. -/
  | engineStop (m : Master)
  /-- MODE_COMMAND (R252): A write of CE_MODECMD becomes the slot's pending mode command or is rejected. -/
  | modeCommand (m : Master) (w : Word)
  /-- DRIVE_START (R304): CE_DRd_CMD.START, when legal, is held for the chain's next FRONT. Operands: `back`: DIR. -/
  | driveStart (m : Master) (d : Fin 6) (back : Bool)
  /-- DRIVE_STOP (R304): CE_DRd_CMD.STOP is held for the chain's next FRONT. -/
  | driveStop (m : Master) (d : Fin 6)
  /-- DRIVE_FAULTCLR (R304): CE_DRd_CMD.FAULTCLR, when legal, is held for the chain's next FRONT. -/
  | driveFaultclr (m : Master) (d : Fin 6)
  /-- DRIVE_BACK (R303): The chain's BACK turns voltages into widths and stages them, completing the chain. -/
  | driveBack (lane : Fin 4)
  /-- PULSE_EDGE (R240): A filtered rising edge on PIn latches PERIOD and HIGH and computes VALUE. Operands: ticks since the previous rising edge; ticks of its high part. -/
  | pulseEdge (n : Fin 8) (period high : BitVec 32)
  /-- PULSE_TIMEOUT (R241): No rising edge for TOUT × 0.1 s sets NOSIG and the no-signal VALUE. Operands: filtered level. -/
  | pulseTimeout (n : Fin 8) (level : Bool)
  /-- PERENNIAL_CLEAR (R280): A write of CE_PRNCLR starts clearing a link's tables and state. -/
  | perennialClear (m : Master) (w : Word)
  /-- PERENNIAL_CLEAR_END (R280): A link clear ends and CLEARING returns to 0. -/
  | perennialClearEnd
  /-- GENERATOR_START (R324): CE_INJCMD.START makes a legal generator PENDING. -/
  | generatorStart (m : Master) (n : Fin 8)
  /-- GENERATOR_STOP (R326): CE_INJCMD.STOP ends a PENDING or RUNNING generator at its slot's next run. -/
  | generatorStop (m : Master) (n : Fin 8)
  /-- CAPTURE_ARM (R331): CE_CAPCTL.ARM resets the record and arms the capture. -/
  | captureArm (m : Master)
  /-- CAPTURE_STOP (R334): CE_CAPCTL.STOP ends an ARMED or TRIGGERED capture early. -/
  | captureStop (m : Master)
  /-- CAPTURE_SAMPLE (R329): At a sample instant every enabled channel stores its value and the trigger is tested. -/
  | captureSample
  /-- POINT_FORCE_SET (R343): ALM_FORCE with SET forces a point to ALM_FORCEVAL. -/
  | pointForceSet (m : Master) (p : Fin 4096)
  /-- POINT_FORCE_CLEAR (R343): ALM_FORCE with CLEAR ends forcing and restores VALUE to RAW. -/
  | pointForceClear (m : Master) (p : Fin 4096)
  /-- RTC_SET (R346): A write of ALM_RTCSET sets the RTC and marks it set. -/
  | rtcSet (m : Master) (w : Word)
  /-- CATALOGUE_VALUE_WRITE (R341): A master write of a KIND 0x0 point's VALUE is an update. -/
  | catalogueValueWrite (m : Master) (p : Fin 4096) (w : Word)
  /-- CAN_ENABLE (R382): A controller starts from disabled, with rate detection when AUTO is 1. Operands: the CAN_CTL word. -/
  | canEnable (c : Fin 2) (m : Master) (w : Word)
  /-- CAN_DISABLE (R378): EN written 0 disables the controller at the end of the frame in progress. Operands: the CAN_CTL word; `busy`: a frame or error frame is in progress. -/
  | canDisable (c : Fin 2) (m : Master) (w : Word) (busy : Bool)
  /-- RATE_DETECTION_DONE (R382): Rate detection confirms its rates and writes the timing registers. Operands: the rates found, as NRATE and DRATE code them, or 0 while detection goes on; rounds without a candidate since the last such report. -/
  | rateDetectionDone (c : Fin 2) (nrate drate : BitVec 4) (rounds : BitVec 16)
  /-- BUS_INTEGRATION_DONE (R384): Eleven consecutive recessive bits let the controller join the bus. -/
  | busIntegrationDone (c : Fin 2)
  /-- FRAME_RECEIVED (R388): A valid received frame goes to a receive object, a queue, or is rejected. Operands: frames ago and frame position of its SOF. -/
  | frameReceived (c : Fin 2) (f : CanFrame) (ago pos : BitVec 16)
  /-- TRANSMIT_REQUEST (R393): A bit of CAN_TXREQk makes its object pending. -/
  | transmitRequest (c : Fin 2) (m : Master) (k : Fin 4) (w : Word)
  /-- TRANSMIT_CANCEL (R397): A bit of CAN_TXCANk requests cancellation of its object. -/
  | transmitCancel (c : Fin 2) (m : Master) (k : Fin 4) (w : Word)
  /-- CANCEL_TAKEN (R398): A cancellation request is taken at the next sample point. -/
  | cancelTaken (c : Fin 2) (n : Fin 128)
  /-- TRANSMIT_COMMIT (R395): The pending object with the lowest key is committed at a commit point. -/
  | transmitCommit (c : Fin 2)
  /-- ARBITRATION_LOST (R396): A committed object loses arbitration and returns to pending. -/
  | arbitrationLost (c : Fin 2)
  /-- TRANSMIT_SUCCESS (R396): A transmitted frame succeeds and its object sets DONE. Operands: frames ago and frame position of its SOF; measured transmitter delay. -/
  | transmitSuccess (c : Fin 2) (ago pos : BitVec 16) (tdc : BitVec 8)
  /-- BUS_ERROR (R400): A detected bus error updates TEC or REC and the error state. -/
  | busError (c : Fin 2) (e : BusErr)
  /-- BUS_OFF_RECOVERY (R402): CAN_RECOVER.GO starts bus-off recovery. -/
  | busOffRecovery (c : Fin 2) (m : Master)
  /-- BUS_OFF_RECOVERY_END (R402): 128 recessive sequences counted clear TEC and REC and the controller becomes error-active. -/
  | busOffRecoveryEnd (c : Fin 2)
  /-- PROTOCOL_EXCEPTION (R403): A recessive FDF bit with FDOE 0 stops reception and re-integrates. -/
  | protocolException (c : Fin 2)
  /-- QUEUE_ACK (R391): A write of CAN_Qq_ACK releases an owned queue entry. -/
  | queueAck (c : Fin 2) (m : Master) (q : Fin 2) (w : Word)
  /-- ALONE_PROBE (R405): While ALONE, the lowest parked object is tried once after each RTC second edge. -/
  | aloneProbe (c : Fin 2)
  /-- FD_TRANSMIT_OFF (R399): FDTX written 0 cancels every pending or parked FD object. -/
  | fdTransmitOff (c : Fin 2) (m : Master) (w : Word)
  /-- OBJECT_WRITE (R387): A master write to a message object word is accepted or rejected by object state. Operands: word `i` of object `n`. -/
  | objectWrite (c : Fin 2) (m : Master) (n : Fin 128) (i : Fin 20) (w : Word)
  /-- ZP_JOIN (R424): A JOIN from a partner chooses a version and sends an OFFER. -/
  | zpJoin (b : Fin 2)
  /-- ZP_ACCEPT (R424): A matching ACCEPT makes the partner joined and restarts its streams. -/
  | zpAccept (b : Fin 2)
  /-- ZP_LEAVE (R427): A LEAVE makes the partner absent and invalidates its points. -/
  | zpLeave (b : Fin 2)
  /-- ZP_PUBLISH (R431): A PUBLISH from a joined partner updates the Catalogue points it names. -/
  | zpPublish (b : Fin 2)
  /-- ZP_TIME (R435): A TIME from the time partner sets the RTC. -/
  | zpTime (b : Fin 2)
  /-- ZP_ROLLCALL_REPLY (R436): A joined partner's rollcall reply is taken as a valid frame. -/
  | zpRollcallReply (b : Fin 2)
  /-- ZP_MGMT_READ (R437): A MGMT_READ is carried out as a master read and answered with MGMT_REPLY. Operands: `split`: words of others may fall between its words (R584). -/
  | zpMgmtRead (b : Fin 2) (split : Bool := false)
  /-- ZP_MGMT_WRITE (R437): A MGMT_WRITE is carried out as a master write and answered with MGMT_REPLY. Operands: `split`: words of others may fall between its words (R584). -/
  | zpMgmtWrite (b : Fin 2) (split : Bool := false)
  /-- ZP_NAK_RECEIVED (R438): A received NAK is logged and counted and otherwise ignored. -/
  | zpNakReceived (b : Fin 2)
  /-- ZP_BAD_SOURCE (R414): A frame with SRC 0, 127 or the device's own node is discarded and logged. -/
  | zpBadSource (b : Fin 2)
  /-- ZP_OFFER_TIMEOUT (R426): No ACCEPT within 1 s of an OFFER makes the partner absent. -/
  | zpOfferTimeout (b : Fin 2) (node : Fin 128)
  /-- ZP_PARTNER_LOST (R427): No valid frame for LOSTTO seconds makes the partner absent. -/
  | zpPartnerLost (b : Fin 2) (node : Fin 128)
  /-- ZP_QUARANTINE_END (R439): After 600 s of quarantine the partner becomes absent. -/
  | zpQuarantineEnd (b : Fin 2) (node : Fin 128)
  /-- ZP_FD_HOLD_END (R430): HOLDb reaching 0 resumes FD use and sends FD OFFERs. -/
  | zpFdHoldEnd (b : Fin 2)
  /-- ZP_ROLLCALL_BROADCAST (R436): The device broadcasts ROLLCALL at first running and every ROLLPER seconds. -/
  | zpRollcallBroadcast (b : Fin 2)
  /-- ZP_FRAME_LOAD (R423): The next frame of a stream is loaded into an object after the previous one ends. -/
  | zpFrameLoad (b : Fin 2)
  /-- CUR_SEL_HIGH (R478): CUR_SEL accepted high starts RESTORING and the takeover. -/
  | curSelHigh
  /-- CUR_SEL_LOW (R448): CUR_SEL accepted low demotes an ACTIVE or RESTORING unit to REJOINING. -/
  | curSelLow
  /-- TAKEOVER_RESTORE_END (R480): The Vault restore writes every non-empty record and ends. -/
  | takeoverRestoreEnd
  /-- TAKEOVER_CALIBRATION (R478): At S0 + W the converter calibration phases 1 and 3 start. -/
  | takeoverCalibration
  /-- TAKEOVER_SEQUENCER_ENABLE (R478): At S0 + W + K the sequencer is enabled. Operands: measured sets of the takeover calibration. -/
  | takeoverSequencerEnable (cal : CalResults)
  /-- TAKEOVER_ENGINE_START (R478): At S0 + W + K + 1 the engine, Almanac and buses start and the unit becomes ACTIVE. -/
  | takeoverEngineStart
  /-- HEALTH_FRAME (R454): Every 64 frames CUR_HS sends a health frame carrying the health word. -/
  | healthFrame
  /-- CURATOR_SAMPLE (R460): In Curator mode the units' heartbeat and health pins are sampled. Operands: pin levels. -/
  | curatorSample (hbA hsA hbB hsB : Bool)
  /-- LINK_BRINGUP (R462): Link bring-up starts, at step 6 or 100 ms after a failure or loss. -/
  | linkBringup
  /-- LINK_COMPAT (R467): A COMPAT record is compared and a mismatch is acted on. Operands: the peer's record. -/
  | linkCompat (record : CompatRec)
  /-- LINK_STATUS (R468): A peer STATUS frame updates peer state and trims the standby's RTC. -/
  | linkStatus (st : StatusRec)
  /-- LINK_MIRROR (R469): A standby stores a valid MIRROR and resets its mirror age. Operands: payload. -/
  | linkMirror (bytes : List Byte)
  /-- LINK_CKPT_CHUNK (R473): A standby assembles a checkpoint record chunk and writes whole newer records. -/
  | linkCkptChunk (c : CkptChunk)
  /-- LINK_CKPT_END (R473): A checkpoint END completes the checkpoint and updates the Vault header. Operands: CKNUM, CKRTC, NREC. -/
  | linkCkptEnd (cknum ckrtc nrec : BitVec 32)
  /-- LINK_CRC_FAIL (R463): A link frame whose CRC fails is discarded and counted. Operands: its TYPE byte as received. -/
  | linkCrcFail (typ : BitVec 8)
  /-- LINK_MGMT_REQUEST (R464): A peer's MGMT request is carried out as a master access and answered. Operands: `split`: words of others may fall between its words (R584). -/
  | linkMgmtRequest (write : Bool) (tag : BitVec 8) (addr : BitVec 32) (n : BitVec 8) (words : List Word) (split : Bool := false)
  /-- LINK_MGMT_REPLY (R464): A MGMT reply from the peer ends the outstanding request. -/
  | linkMgmtReply (tag status : BitVec 8) (words : List Word)
  /-- LINK_MGMT_TIMEOUT (R464): No reply within 10 ms counts PAIR_MGMTTOCNT. -/
  | linkMgmtTimeout
  /-- LINK_DOWN (R465): No valid frame for LINKTO frames ends the link session. -/
  | linkDown
  /-- CHECKPOINT_START (R472): The ACTIVE unit starts a numbered checkpoint after an RTC second edge. -/
  | checkpointStart
  /-- VAULT_COPY (R476): Hourly, a SHELVED unit queues a copy of its Vault to Folio. -/
  | vaultCopy
  /-- SWAP_REQUEST (R453): PAIR_SWAP.REQ sets SWAPREQ in the health word for 256 frames. -/
  | swapRequest (m : Master) (w : Word)
  /-- SELF_TEST_CYCLE (R482): Every 10 s a standby runs one self-test cycle of four slices. -/
  | selfTestCycle (r : SelfTestResult)
  /-- FOLIO_MASTER_ACCESS (R490): The free Folio takes a waiting master transaction, judging refusals then. -/
  | folioMasterAccess
  /-- FOLIO_JOB_START (R490): The free Folio takes the next internal job from its queue. -/
  | folioJobStart
  /-- FOLIO_PROGRAM_END (R488): A page program ends and the Folio becomes free. -/
  | folioProgramEnd
  /-- FOLIO_RECALL_SCAN_END (R497): The recall scan ends, having marked torn pages and restored the save image. -/
  | folioRecallScanEnd
  /-- PFI_ACCEPTED (R505): PFI_N low for 320 ns asserts the safe-state bus and starts the power-down save. -/
  | pfiAccepted
  /-- POWER_DOWN_SAVE_END (R505): All four save pages are written and SAVED is set. -/
  | powerDownSaveEnd
  /-- FOLIO_REMAP (R509): FOL_REMAP.GO queues a remap copy of a page into a spare. -/
  | folioRemap (m : Master) (w : Word)
  /-- FOLIO_PROT_WRITE (R495): A write of FOL_PROT with a new value programs the protection cells. -/
  | folioProtWrite (m : Master) (w : Word)
  /-- CLEAR_MISSED (R502): FOL_CTL.CLRMISSED clears FLAGS.MISSED. -/
  | clearMissed (m : Master) (w : Word)
  /-- USER_COUNTER_INC (R500): A bit of FOL_UCINC adds one to its user counter. -/
  | userCounterInc (m : Master) (w : Word)
  /-- FOL_LIVE_WRITE (R502): A master write sets a counter word of FOL_LIVE. -/
  | folLiveWrite (m : Master) (i : Fin 64) (w : Word)
  /-- SENSOR_SAMPLE (R518): Every 1 ms the four die sensors are sampled and the thermal state decided. Operands: readings of the four sensors. -/
  | sensorSample (t0 t1 t2 t3 : BitVec 16)
  /-- SENSOR_TEST_SAMPLE (R514): A test-bias sample checks each sensor for being stuck. Operands: shifts seen under the test bias. -/
  | sensorTestSample (d0 d1 d2 d3 : BitVec 16)
  /-- AON_COMPARATOR_SAMPLE (R515): The AON backstop comparator is sampled and may trip HOT. -/
  | aonComparatorSample (above : Bool)
  /-- THERMAL_HALT_ENTRY (R523): After the last Folio program ends, the unit enters THERMAL_HALT and stops the tick. -/
  | thermalHaltEntry
  /-- AON_SECOND (R567): THM_AONSEC counts a second and Foxing adds the ageing weight to EQ. -/
  | aonSecond
  /-- KEY_SCAN_END (R538): A key scan ends and the debounced bitmap and combination timers are updated. Operands: raw key matrix. -/
  | keyScanEnd (keys : BitVec 64)
  /-- SCANNER_WAKE_TIMEOUT (R537): Ten seconds without an unmasked key return a woken scanner to slow mode. -/
  | scannerWakeTimeout
  /-- COMBINATION_WRITE (R545): A write of a combination register resets its timer and FIRED. Operands: CFG word or KEYS word. -/
  | combinationWrite (m : Master) (n : Fin 4) (cfg : Bool) (w : Word)
  /-- LEDGER_CLEAR (R555): A bit of LDG_CLR sets its counter to 0. -/
  | ledgerClear (m : Master) (w : Word)
  /-- LEDGER_SELECT (R555): A write of LDG_CNTk_SEL selects a source and zeroes the counter. -/
  | ledgerSelect (m : Master) (k : Fin 32) (w : Word)
  /-- SNAPSHOT_MODE_WRITE (R556): A write of LDG_SNAPCTL.MODE chooses when snapshots are taken. -/
  | snapshotModeWrite (m : Master) (w : Word)
  /-- SNAPSHOT (R557): At the chosen tick all 32 counters are copied to their snapshots. -/
  | snapshot
  /-- ANNALS_RING_WRITE (R559): A logged event leaves the FIFO and is written to the RAM ring. -/
  | annalsRingWrite
  /-- PERSISTENT_LOG_READ_END (R564): The boot read of the persistent log ends and fixes the next index and PSEQ. -/
  | persistentLogReadEnd
  /-- FOXING_SCAN (R565): Every 10 RTC seconds Foxing reads the slack monitors and references. Operands: one reading per domain; references. -/
  | foxingScan (slack : List (BitVec 16)) (bgdiff cref : BitVec 16)
  /-- FOXING_REPLAN (R568): The hourly re-plan sets voltage, calibration interval and Folio placement and publishes life. -/
  | foxingReplan
  /-- FOX_VREQ_WRITE (R577): A write of FOX_VREQ.N sets the voltage request while VLOCK is 1. -/
  | foxVreqWrite (m : Master) (w : Word)
  /-- SPI_READ (R591): A READ transaction reads LEN + 1 words and ends with a status byte. Operands: `split`: the words follow at wait points. -/
  | spiRead (addr : BitVec 32) (len : BitVec 8) (split : Bool)
  /-- SPI_WRITE (R591): A WRITE transaction writes LEN + 1 words and ends with a status byte. -/
  | spiWrite (addr : BitVec 32) (words : List Word) (split : Bool)
  /-- SPI_WRITEB (R591): A WRITEB transaction writes LEN + 1 bytes to memory and ends with a status byte. -/
  | spiWriteb (addr : BitVec 32) (bytes : List Byte) (split : Bool)
  /-- SPI_STATUS (R598): The STATUS opcode returns the port status byte at once. -/
  | spiStatus
  /-- SPI_RESET (R597): A RESET transaction of exactly three bytes causes a service-port reset. Operands: the bytes after the opcode. -/
  | spiReset (bytes : List Byte)
  /-- SPI_BAD_OPCODE (R591): An unknown opcode is answered with status 0x05. Operands: the host clocks the status byte. -/
  | spiBadOpcode (op : Byte) (clocked : Bool)
  /-- SPI_WAIT_POINT (R594): At a wait point the word access is carried out and SV_RDY rises when ready. -/
  | spiWaitPoint
  /-- SPI_ABORT (R597): Early SV_CS_N rise or clocking while SV_RDY is low aborts the transaction. -/
  | spiAbort
  /-- COUNTER_CLEAR (R58): A write of a block's CNTCLR register clears the selected counters. Operands: `a`: address of a CNTCLR register. -/
  | counterClear (m : Master) (a : BitVec 32) (w : Word)
  /-- REGISTER_WRITE (R98): A master write to a register without behaviour of its own is applied under its access type and state rules. -/
  | registerWrite (m : Master) (a : BitVec 32) (w : Word)
  /-- SWITCH_EDGE (R175): At period clock r_x, f_x, the end of dead time, or a general channel's DUTY clock, a switch command changes and the pad readback is checked. Operands: period clock; pads read back as commanded. -/
  | switchEdge (t : SwitchTarget) (clk : BitVec 16) (padOk : Bool)
  /-- LINK_LANE_LOCK (R462): A Plios receive lane locks after 16 consecutive valid code groups without a disparity error. -/
  | linkLaneLock (lane : Fin 2)
  /-- LINK_RATE_FALLBACK (R462): Lane 0 not locked within 2 ms makes bring-up repeat its idles and lock search at 125 Mbit/s. -/
  | linkRateFallback
  /-- LINK_CAPS_RECEIVED (R462): The peer's CAPS frame arrives and fixes the link version, lane count and rate. -/
  | linkCapsReceived (caps : CapsRec)
  /-- ZP_UNKNOWN_TYPE (R438): A Zone Protocol frame of a reserved type, or of a type only the device sends, is received and answered as violation 0x02. -/
  | zpUnknownType (b : Fin 2)
  /-- PLL_L_RELOCK (R35): PLL_L regains lock after a loss, LOCK_L is set again and the LINK tick latency is fixed anew. Operands: `three`: the LINK tick latency is three cycles. -/
  | pllLRelock (three : Bool)
  /-- AON_CLOCK_CHANGEOVER (R608): After 64 stable cycles of the 32.768 kHz crystal, the AON domain changes over from its internal RC oscillator to the crystal. -/
  | aonClockChangeover
  deriving DecidableEq, Repr

end Sys2Proof
end

