-- ==== Sys2Proof/Decode.lean ====
section
/-! DEFINITION. The command that a word spells by the bits of the table of commands. The table gives no row any bits: a
command comes from a master's transport, a pin, a bus or the passage of time, never from a word. -/

namespace Sys2Proof

/-- No word spells a command.
(DESIGN CHOICE, log entry 4, safe.) -/
def decodeTableWord (_nbits _w : Nat) : Option Instr := none

end Sys2Proof
end

