-- ==== Sys2Proof/Config.lean ====
section
/-! DEFINITION. What the part's manufacture fixes and the manual does not give a number for, and the free values.
Every constant here is opaque: nothing in Lean can prove a value of it. -/

namespace Sys2Proof

/-- The fused factory voltage step NFAC (R569), a number of 5 bits. Free: the manual gives no number.
(DESIGN CHOICE, log entry 7, safe.) -/
opaque Config.nfac : BitVec 5

/-- The fused die identity of AZ_UID0 and AZ_UID1 (chapter 19). Free: the manual gives no number.
(DESIGN CHOICE, log entry 7, safe.) -/
opaque Config.uid : BitVec 64

/-- The factory calibration set of a core, as ADC_FTRIM lays it out (chapter 3). Free: fused at final test.
(DESIGN CHOICE, log entry 7, safe.) -/
opaque Config.ftrim : Nat → Word

/-- The factory pipeline stage weights of a core (R121). Free: fused at final test, and no register shows them.
(DESIGN CHOICE, log entry 7, safe.) -/
opaque Config.stageWeights : Nat → List Word

/-- Configured maximum speed of a drive in Hz, Q16.16 (R285). Free: the manual gives no word that holds it.
(DESIGN CHOICE, log entry 40, safe.) -/
opaque Config.maxSpeed : Nat → Word

/-- The value number `k` that the manual leaves open. `State.freeCount` says which number is next.
(DESIGN CHOICE, log entry 6, safe.) -/
opaque Config.freeWord : Nat → Word

end Sys2Proof
end

