-- ==== Sys2Proof/Machine/Regs.lean ====
section
/-! DEFINITION. The register map: every register of the spec, its address, its fields' access types (R16), its
power-on reset word (R15) and the bits that the AON domain keeps through every other reset (R60). Written from
the register tables of spec/01 to spec/19; one row per register or register array. -/

namespace Sys2Proof.Machine

/-- One register, or an array of registers of one layout (`dims`: count and stride of each array index, outermost
first). The masks give, bit by bit, the access types of R16; a bit in none of them is reserved (R17). -/
structure RegRow where
  /-- The register's name as the manual writes it, array letters left out. -/
  name : String
  /-- Address of the first register of the array. -/
  base : Nat
  /-- Count and stride of each array index. -/
  dims : List (Nat × Nat)
  /-- Bits of access RW. -/
  rw : Nat
  /-- Bits of access RWL. -/
  rwl : Nat
  /-- Bits of access W1C. -/
  w1c : Nat
  /-- Bits of access RO. -/
  ro : Nat
  /-- Bits of access WO. -/
  wo : Nat
  /-- The word after a power-on reset (R15). -/
  rst : Nat
  /-- Bits held in AON: kept by every reset but power-on (R60). -/
  aon : Nat
  /-- True when the register is shadowed (R19, R37). -/
  shadowed : Bool
  deriving DecidableEq, Repr

/-- Does offset `d` from the first register fall on a register of the array? -/
def dimsHit : List (Nat × Nat) → Nat → Bool
  | [], d => d == 0
  | (n, k) :: r, d => decide (d / k < n) && dimsHit r (d % k)

/-- Does address `a` name a register of the row? -/
def RegRow.hit (r : RegRow) (a : Nat) : Bool := decide (r.base ≤ a) && dimsHit r.dims (a - r.base)

/-- Registers of block CRT. -/
def regsCRT : List RegRow := [
  ⟨"CRT_CLKSTAT", 0x40000000, [], 0x0, 0x0, 0xC, 0x3, 0x0, 0x0, 0x4, false⟩,
  ⟨"CRT_FRAMECFG", 0x40000004, [], 0x0, 0x0, 0x0, 0xFFFFFFFF, 0x0, 0x4E2061A8, 0x0, false⟩,
  ⟨"CRT_FRAMENO", 0x40000008, [], 0x0, 0x0, 0x0, 0xFFFFFFFF, 0x0, 0x0, 0x0, false⟩,
  ⟨"CRT_FRAMEPOS", 0x4000000C, [], 0x0, 0x0, 0x0, 0xFFFF, 0x0, 0x0, 0x0, false⟩,
  ⟨"CRT_RSTCAUSE", 0x40000010, [], 0x0, 0x0, 0x3F, 0x0, 0x0, 0x1, 0x3F, false⟩,
  ⟨"CRT_WIN12", 0x40000020, [], 0x0, 0xFFFFFFFF, 0x0, 0x0, 0x0, 0x0, 0x0, false⟩,
  ⟨"CRT_WIN3", 0x40000024, [], 0x0, 0xFFFF, 0x0, 0x0, 0x0, 0x0, 0x0, false⟩,
  ⟨"CRT_HEAD", 0x40000030, [(4, 0x4)], 0x0, 0x0, 0x0, 0xFFFFFFFF, 0x0, 0xFFFF0000, 0x0, false⟩,
  ⟨"CRT_C0STAT", 0x40000040, [], 0x0, 0x0, 0x7F, 0xFFF0000, 0x0, 0x0, 0x0, false⟩,
  ⟨"CRT_SKIP", 0x40000044, [(3, 0x4)], 0x0, 0x0, 0x0, 0xFFFFFFFF, 0x0, 0x0, 0x0, false⟩,
  ⟨"CRT_ALMOVR", 0x40000050, [], 0x0, 0x0, 0x0, 0xFFFFFFFF, 0x0, 0x0, 0x0, false⟩,
  ⟨"CRT_CNTCLR", 0x40000054, [], 0x0, 0x0, 0x0, 0x0, 0x1F, 0x0, 0x0, false⟩]

/-- Registers of block BOOT. -/
def regsBOOT : List RegRow := [
  ⟨"BOOT_STAT", 0x40010000, [], 0x0, 0x0, 0x2000, 0xFF1FFF, 0x0, 0x30, 0x0, false⟩,
  ⟨"BOOT_FAILA", 0x40010004, [], 0x0, 0x0, 0x0, 0xFF00FF, 0x0, 0xFF0000, 0x0, false⟩,
  ⟨"BOOT_FAILB", 0x40010008, [], 0x0, 0x0, 0x0, 0xFF00FF, 0x0, 0xFF0000, 0x0, false⟩,
  ⟨"BOOT_FLASH", 0x4001000C, [], 0x0, 0x0, 0x0, 0xFFFFF7, 0x0, 0x0, 0x0, false⟩,
  ⟨"BOOT_FPRINT", 0x40010010, [(2, 0x4)], 0x0, 0x0, 0x0, 0xFFFFFFFF, 0x0, 0x0, 0x0, false⟩,
  ⟨"BOOT_PREF", 0x40010018, [], 0x7, 0x0, 0x0, 0x0, 0x0, 0x0, 0x7, false⟩,
  ⟨"BOOT_CTL", 0x4001001C, [], 0x0, 0x0, 0x0, 0x0, 0x1F, 0x0, 0x0, false⟩,
  ⟨"BOOT_RECSEL", 0x40010020, [], 0x0, 0x0, 0x0, 0x3, 0x0, 0x0, 0x0, false⟩,
  ⟨"BOOT_SHADOWCTL", 0x40010024, [], 0x1, 0x0, 0x4, 0x2, 0x0, 0x0, 0x0, false⟩]

/-- Registers of block ADC. -/
def regsADC : List RegRow := [
  ⟨"ADC_CTL", 0x40020000, [], 0x0, 0x1FF, 0x0, 0x0, 0x0, 0x0, 0x0, false⟩,
  ⟨"ADC_DIFFF", 0x40020004, [], 0x0, 0xFFF, 0x0, 0x0, 0x0, 0x0, 0x0, false⟩,
  ⟨"ADC_DIFFS", 0x40020008, [], 0x0, 0xFFFFF, 0x0, 0x0, 0x0, 0x0, 0x0, false⟩,
  ⟨"ADC_ALIGN0", 0x4002000C, [], 0x0, 0xFFFFFF, 0x0, 0x0, 0x0, 0x0, 0x0, false⟩,
  ⟨"ADC_ALIGN1", 0x40020010, [], 0x0, 0xFFFFFFFF, 0x0, 0x0, 0x0, 0x0, 0x0, false⟩,
  ⟨"ADC_ALIGN2", 0x40020014, [], 0x0, 0xFF, 0x0, 0x0, 0x0, 0x0, 0x0, false⟩,
  ⟨"ADC_ILV", 0x40020018, [], 0x0, 0xFFFFF00F, 0x0, 0x0, 0x0, 0x0, 0x0, false⟩,
  ⟨"ADC_CALCTL", 0x40020020, [], 0x3B, 0x0, 0x0, 0x0, 0x4, 0x0, 0x0, false⟩,
  ⟨"ADC_CALINT", 0x40020024, [], 0xFFFF, 0x0, 0x0, 0x0, 0x0, 0xA, 0x0, false⟩,
  ⟨"ADC_CALSTAT", 0x40020028, [], 0x0, 0x0, 0x1F40, 0x37, 0x0, 0x0, 0x0, false⟩,
  ⟨"ADC_CALAGE0", 0x4002002C, [], 0x0, 0x0, 0x0, 0xFFFFFFFF, 0x0, 0xFFFFFFFF, 0x0, false⟩,
  ⟨"ADC_CALAGE1", 0x40020030, [], 0x0, 0x0, 0x0, 0xFFFFFFFF, 0x0, 0xFFFFFFFF, 0x0, false⟩,
  ⟨"ADC_REFCHK", 0x40020034, [], 0x0, 0x0, 0x0, 0x30F, 0x0, 0x0, 0x0, false⟩,
  ⟨"ADC_SKEW", 0x40020038, [], 0x0, 0x0, 0x0, 0xFFFF, 0x0, 0x0, 0x0, false⟩,
  ⟨"ADC_SHARECNT", 0x40020040, [], 0x0, 0x0, 0x0, 0xFFFFFFFF, 0x0, 0x0, 0x0, false⟩,
  ⟨"ADC_CLIPCNT", 0x40020044, [], 0x0, 0x0, 0x0, 0xFFFFFFFF, 0x0, 0x0, 0x0, false⟩,
  ⟨"ADC_POSTCNT", 0x40020048, [], 0x0, 0x0, 0x0, 0xFFFFFFFF, 0x0, 0x0, 0x0, false⟩,
  ⟨"ADC_REJCNT", 0x4002004C, [], 0x0, 0x0, 0x0, 0xFFFFFFFF, 0x0, 0x0, 0x0, false⟩,
  ⟨"ADC_CNTCLR", 0x40020050, [], 0x0, 0x0, 0x0, 0x0, 0xF, 0x0, 0x0, false⟩,
  ⟨"ADC_FTRIM", 0x40020100, [(9, 0x8)], 0x0, 0x0, 0x0, 0xFFFFFFFF, 0x0, 0x0, 0x0, false⟩,
  ⟨"ADC_WTRIM", 0x40020104, [(9, 0x8)], 0x0, 0x0, 0x0, 0xFFFFFFFF, 0x0, 0x0, 0x0, false⟩]

/-- Registers of block SEQ. -/
def regsSEQ : List RegRow := [
  ⟨"SEQ_CTL", 0x40030000, [], 0x0, 0x1, 0x0, 0x0, 0x0, 0x0, 0x0, false⟩,
  ⟨"SEQ_REGCFG", 0x40030004, [], 0x0, 0xFFFFFF03, 0x0, 0x0, 0x0, 0x100, 0x0, false⟩,
  ⟨"SEQ_REGSTART", 0x40030008, [], 0x0, 0x0, 0x0, 0x0, 0x1, 0x0, 0x0, false⟩,
  ⟨"SEQ_STAT", 0x4003000C, [], 0x0, 0x0, 0x0, 0xFF01, 0x0, 0x0, 0x0, false⟩,
  ⟨"SEQ_SCAN", 0x40030010, [(4, 0x4)], 0x0, 0xFFFFFF, 0x0, 0x0, 0x0, 0x0, 0x0, false⟩,
  ⟨"SEQ_SCANG", 0x40030020, [(4, 0x4)], 0x0, 0xFFFFF, 0x0, 0x0, 0x0, 0x0, 0x0, false⟩,
  ⟨"SEQ_ISTRIG", 0x40030030, [], 0x0, 0x0, 0x0, 0x0, 0xFF, 0x0, 0x0, false⟩,
  ⟨"SEQ_OVRFLAG", 0x40030034, [], 0x0, 0x0, 0xFF01FF, 0x0, 0x0, 0x0, 0x0, false⟩,
  ⟨"SEQ_IOVRCNT", 0x40030040, [], 0x0, 0x0, 0x0, 0xFFFFFFFF, 0x0, 0x0, 0x0, false⟩,
  ⟨"SEQ_ROVRCNT", 0x40030044, [], 0x0, 0x0, 0x0, 0xFFFFFFFF, 0x0, 0x0, 0x0, false⟩,
  ⟨"SEQ_LATECNT", 0x40030048, [], 0x0, 0x0, 0x0, 0xFFFFFFFF, 0x0, 0x0, 0x0, false⟩,
  ⟨"SEQ_SATCNT", 0x4003004C, [], 0x0, 0x0, 0x0, 0xFFFFFFFF, 0x0, 0x0, 0x0, false⟩,
  ⟨"SEQ_CNTCLR", 0x40030050, [], 0x0, 0x0, 0x0, 0x0, 0xF, 0x0, 0x0, false⟩,
  ⟨"SEQ_IS_CFG", 0x40030100, [(8, 0x20)], 0x0, 0xFFFF077F, 0x0, 0x0, 0x0, 0x0, 0x0, false⟩,
  ⟨"SEQ_IS_ENT", 0x40030104, [(8, 0x20), (2, 0x4)], 0x0, 0xF7F0F7F, 0x0, 0x0, 0x0, 0x0, 0x0, false⟩,
  ⟨"SEQ_IS_BURST", 0x4003010C, [(8, 0x20)], 0x0, 0xF1F, 0x0, 0x0, 0x0, 0x0, 0x0, false⟩,
  ⟨"SEQ_IS_LATCH", 0x40030110, [(8, 0x20)], 0x0, 0x317, 0x0, 0x0, 0x0, 0x7, 0x0, false⟩,
  ⟨"SEQ_IS_HSTAT", 0x40030114, [(8, 0x20), (2, 0x4)], 0x0, 0x0, 0x0, 0x7FFFFF, 0x0, 0x0, 0x0, false⟩,
  ⟨"SEQ_SH_GAIN", 0x40030400, [(64, 0x10)], 0xFFFFFFFF, 0x0, 0x0, 0x0, 0x0, 0x0, 0x0, true⟩,
  ⟨"SEQ_SH_OFS", 0x40030404, [(64, 0x10)], 0xFFFFFFFF, 0x0, 0x0, 0x0, 0x0, 0x0, 0x0, true⟩,
  ⟨"SEQ_SH_CFG", 0x40030408, [(64, 0x10)], 0x11F, 0x0, 0x0, 0x0, 0x0, 0x0, 0x0, true⟩,
  ⟨"SEQ_RING_CFG", 0x40030800, [(16, 0x10)], 0x1, 0xFF7FF6, 0x0, 0x0, 0x0, 0x6, 0x0, false⟩,
  ⟨"SEQ_RING_BASE", 0x40030804, [(16, 0x10)], 0x0, 0x3FFF, 0x0, 0x0, 0x0, 0x0, 0x0, false⟩,
  ⟨"SEQ_RING_POS", 0x40030808, [(16, 0x10)], 0x0, 0x0, 0x0, 0xFFFFFFFF, 0x0, 0x0, 0x0, false⟩]

/-- Registers of block PWM. -/
def regsPWM : List RegRow := [
  ⟨"PWM_CTL", 0x40040000, [], 0x0, 0x1, 0x0, 0x0, 0x0, 0x0, 0x0, false⟩,
  ⟨"PWM_STAT", 0x40040004, [], 0x0, 0x0, 0x0, 0xFF01, 0x0, 0x0, 0x0, false⟩,
  ⟨"PWM_TRIPCFG", 0x40040008, [], 0x0, 0xFF, 0x0, 0x0, 0x0, 0x0, 0x0, false⟩,
  ⟨"PWM_TRIPFLAG", 0x4004000C, [], 0x0, 0x0, 0xFF, 0x0, 0x0, 0x0, 0x0, false⟩,
  ⟨"PWM_CNTCLR", 0x40040010, [], 0x0, 0x0, 0x0, 0x0, 0xFFFFFF, 0x0, 0x0, false⟩,
  ⟨"PWM_G_CFG", 0x40040100, [(6, 0x80)], 0x0, 0xFFFF001F, 0x0, 0x0, 0x0, 0x0, 0x0, false⟩,
  ⟨"PWM_G_DEADTIME", 0x40040104, [(6, 0x80)], 0x0, 0x3FF03FF, 0x0, 0x0, 0x0, 0x3203FF, 0x0, false⟩,
  ⟨"PWM_G_TRIPMAP", 0x40040108, [(6, 0x80)], 0x0, 0xFF, 0x0, 0x0, 0x0, 0x0, 0x0, false⟩,
  ⟨"PWM_G_CTL", 0x4004010C, [(6, 0x80)], 0x1, 0x0, 0x0, 0x0, 0x0, 0x0, 0x0, false⟩,
  ⟨"PWM_G_CMP", 0x40040110, [(6, 0x80), (3, 0x4)], 0xFFFF, 0x0, 0x0, 0x0, 0x0, 0x0, 0x0, false⟩,
  ⟨"PWM_G_ACT", 0x4004011C, [(6, 0x80), (3, 0x4)], 0x0, 0x0, 0x0, 0xFFFFFFF, 0x0, 0x0, 0x0, false⟩,
  ⟨"PWM_G_STAT", 0x40040128, [(6, 0x80)], 0x0, 0x0, 0x3FF00, 0x7, 0x0, 0x0, 0x0, false⟩,
  ⟨"PWM_G_COAST", 0x4004012C, [(6, 0x80)], 0x1, 0x0, 0x0, 0x0, 0x0, 0x0, 0x0, false⟩,
  ⟨"PWM_G_VDQ", 0x40040130, [(6, 0x80)], 0xFFFFFFFF, 0x0, 0x0, 0x0, 0x0, 0x0, 0x0, false⟩,
  ⟨"PWM_G_ANGLE", 0x40040134, [(6, 0x80)], 0xFFFFFFFF, 0x0, 0x0, 0x0, 0x0, 0x0, 0x0, false⟩,
  ⟨"PWM_G_INC", 0x40040138, [(6, 0x80)], 0xFFFFFFFF, 0x0, 0x0, 0x0, 0x0, 0x0, 0x0, false⟩,
  ⟨"PWM_G_DROPCNT", 0x4004013C, [(6, 0x80)], 0x0, 0x0, 0x0, 0xFFFFFFFF, 0x0, 0x0, 0x0, false⟩,
  ⟨"PWM_G_TRIPCNT", 0x40040140, [(6, 0x80)], 0x0, 0x0, 0x0, 0xFFFFFFFF, 0x0, 0x0, 0x0, false⟩,
  ⟨"PWM_G_TCARCNT", 0x40040144, [(6, 0x80)], 0x0, 0x0, 0x0, 0xFFFFFFFF, 0x0, 0x0, 0x0, false⟩,
  ⟨"PWM_G_CLAMPCNT", 0x40040148, [(6, 0x80)], 0x0, 0x0, 0x0, 0xFFFFFFFF, 0x0, 0x0, 0x0, false⟩,
  ⟨"PWM_GP_CFG", 0x40040400, [(32, 0x10)], 0x0, 0xFFFF001F, 0x0, 0x0, 0x0, 0x0, 0x0, false⟩,
  ⟨"PWM_GP_DUTY", 0x40040404, [(32, 0x10)], 0xFFFF, 0xFFFF0000, 0x0, 0x0, 0x0, 0x0, 0x0, false⟩,
  ⟨"PWM_GP_ACT", 0x40040408, [(32, 0x10)], 0x0, 0x0, 0x0, 0xFFFF, 0x0, 0x0, 0x0, false⟩]

/-- Registers of block CE, part 1. -/
def regsCE0 : List RegRow := [
  ⟨"CE_CTL", 0x40050000, [], 0x1, 0x0, 0x0, 0x0, 0x0, 0x0, 0x0, false⟩,
  ⟨"CE_STAT", 0x40050004, [], 0x0, 0x0, 0x0, 0xF1, 0x0, 0x1, 0x0, false⟩,
  ⟨"CE_LOOPSTAT", 0x40050008, [], 0x0, 0x0, 0x3F, 0x1FF0000, 0x0, 0x0, 0x0, false⟩,
  ⟨"CE_SATCNT", 0x4005000C, [], 0x0, 0x0, 0x0, 0xFFFFFFFF, 0x0, 0x0, 0x0, false⟩,
  ⟨"CE_CNVCNT", 0x40050010, [], 0x0, 0x0, 0x0, 0xFFFFFFFF, 0x0, 0x0, 0x0, false⟩,
  ⟨"CE_CNTCLR", 0x40050014, [], 0x0, 0x0, 0x0, 0x0, 0x3, 0x0, 0x0, false⟩,
  ⟨"CE_MODECMD", 0x40050020, [], 0x0, 0x0, 0x0, 0x0, 0x1F1FF, 0x0, 0x0, false⟩,
  ⟨"CE_CMDSTAT", 0x40050024, [], 0x0, 0x0, 0x7, 0x1FF00F0, 0x0, 0x0, 0x0, false⟩,
  ⟨"CE_FOLCNT", 0x40050028, [], 0x0, 0x0, 0x0, 0xFFFFFFFF, 0x0, 0x0, 0x0, false⟩,
  ⟨"CE_CMDREJCNT", 0x4005002C, [], 0x0, 0x0, 0x0, 0xFFFFFFFF, 0x0, 0x0, 0x0, false⟩,
  ⟨"CE_BUMPCNT", 0x40050030, [], 0x0, 0x0, 0x0, 0xFFFFFFFF, 0x0, 0x0, 0x0, false⟩,
  ⟨"CE_CNTCLR2", 0x40050034, [], 0x0, 0x0, 0x0, 0x0, 0x7, 0x0, 0x0, false⟩,
  ⟨"CE_PRNCTL", 0x40050040, [], 0x1, 0x0, 0x0, 0x0, 0x0, 0x0, 0x0, false⟩,
  ⟨"CE_PRNCLR", 0x40050044, [], 0x0, 0x0, 0x0, 0x0, 0xFF, 0x0, 0x0, false⟩,
  ⟨"CE_PRNSTAT", 0x40050048, [], 0x0, 0x0, 0x2, 0x7F01, 0x0, 0x0, 0x0, false⟩,
  ⟨"CE_PRNUPDCNT", 0x4005004C, [], 0x0, 0x0, 0x0, 0xFFFFFFFF, 0x0, 0x0, 0x0, false⟩,
  ⟨"CE_PRNTLIMCNT", 0x40050050, [], 0x0, 0x0, 0x0, 0xFFFFFFFF, 0x0, 0x0, 0x0, false⟩,
  ⟨"CE_CNTCLR3", 0x40050054, [], 0x0, 0x0, 0x0, 0x0, 0x3, 0x0, 0x0, false⟩,
  ⟨"CE_PI_CFG", 0x40050100, [(8, 0x10)], 0xFFFF0003, 0x0, 0x200, 0x100, 0x0, 0x78000000, 0x0, false⟩,
  ⟨"CE_PI_PERIOD", 0x40050104, [(8, 0x10)], 0x0, 0x0, 0x0, 0xFFFFFFFF, 0x0, 0x0, 0x0, false⟩,
  ⟨"CE_PI_HIGH", 0x40050108, [(8, 0x10)], 0x0, 0x0, 0x0, 0xFFFFFFFF, 0x0, 0x0, 0x0, false⟩,
  ⟨"CE_PI_VALUE", 0x4005010C, [(8, 0x10)], 0x0, 0x0, 0x0, 0xFFFFFFFF, 0x0, 0x0, 0x0, false⟩,
  ⟨"CE_DR_CMD", 0x40050200, [(6, 0x40)], 0x0, 0x0, 0x0, 0x0, 0xF, 0x0, 0x0, false⟩,
  ⟨"CE_DR_STAT", 0x40050204, [(6, 0x40)], 0x0, 0x0, 0x2600, 0x19B7, 0x0, 0x0, 0x0, false⟩]

/-- Registers of block CE, part 2. -/
def regsCE1 : List RegRow := [
  ⟨"CE_DR_FAULT", 0x40050208, [(6, 0x40)], 0x0, 0x0, 0x0, 0xF01FF, 0x0, 0xF0000, 0x0, false⟩,
  ⟨"CE_DR_SPEED", 0x4005020C, [(6, 0x40)], 0x0, 0x0, 0x0, 0xFFFFFFFF, 0x0, 0x0, 0x0, false⟩,
  ⟨"CE_DR_ANGLE", 0x40050210, [(6, 0x40)], 0x0, 0x0, 0x0, 0xFFFFFFFF, 0x0, 0x0, 0x0, false⟩,
  ⟨"CE_DR_STARTCNT", 0x40050214, [(6, 0x40)], 0x0, 0x0, 0x0, 0xFFFFFFFF, 0x0, 0x0, 0x0, false⟩,
  ⟨"CE_DR_FAULTCNT", 0x40050218, [(6, 0x40)], 0x0, 0x0, 0x0, 0xFFFFFFFF, 0x0, 0x0, 0x0, false⟩,
  ⟨"CE_DR_RIPSKIP", 0x4005021C, [(6, 0x40)], 0x0, 0x0, 0x0, 0xFFFFFFFF, 0x0, 0x0, 0x0, false⟩,
  ⟨"CE_DR_CNTCLR", 0x40050220, [(6, 0x40)], 0x0, 0x0, 0x0, 0x0, 0x7, 0x0, 0x0, false⟩,
  ⟨"CE_CAPCTL", 0x40050400, [], 0x0, 0x0, 0x0, 0x0, 0x3, 0x0, 0x0, false⟩,
  ⟨"CE_CAPCFG", 0x40050404, [], 0xDFC0FFFF, 0x0, 0x0, 0x0, 0x0, 0x0, 0x0, false⟩,
  ⟨"CE_CAPEN", 0x40050408, [], 0xFFFFFFF, 0x0, 0x0, 0x0, 0x0, 0x0, 0x0, false⟩,
  ⟨"CE_CAPTHR", 0x4005040C, [], 0xFFFFFFFF, 0x0, 0x0, 0x0, 0x0, 0x0, 0x0, false⟩,
  ⟨"CE_CAPSTAT", 0x40050410, [], 0x0, 0x0, 0x30000000, 0xCFFF1FFF, 0x0, 0x0, 0x0, false⟩,
  ⟨"CE_CAPTRGF", 0x40050414, [], 0x0, 0x0, 0x0, 0xFFFFFFFF, 0x0, 0x0, 0x0, false⟩,
  ⟨"CE_CAPCLIP", 0x40050418, [], 0x0, 0x0, 0xFFFF, 0x0, 0x0, 0x0, 0x0, false⟩,
  ⟨"CE_INJCMD", 0x40050480, [], 0x0, 0x0, 0x0, 0x0, 0x307, 0x0, 0x0, false⟩,
  ⟨"CE_INJSTAT", 0x40050484, [], 0x0, 0x0, 0xFF0000, 0xFFFF, 0x0, 0x0, 0x0, false⟩]

/-- Registers of block ALM. -/
def regsALM : List RegRow := [
  ⟨"ALM_CTL", 0x40060000, [], 0x1, 0x0, 0x0, 0x0, 0x0, 0x0, 0x0, false⟩,
  ⟨"ALM_STAT", 0x40060004, [], 0x0, 0x0, 0x0, 0xFFFF0003, 0x0, 0x1, 0x2, false⟩,
  ⟨"ALM_RTC", 0x40060008, [], 0x0, 0x0, 0x0, 0xFFFFFFFF, 0x0, 0x0, 0xFFFFFFFF, false⟩,
  ⟨"ALM_RTCSET", 0x4006000C, [], 0x0, 0x0, 0x0, 0x0, 0xFFFFFFFF, 0x0, 0x0, false⟩,
  ⟨"ALM_TZ", 0x40060010, [], 0xFFFF, 0x0, 0x0, 0x0, 0x0, 0x0, 0x0, false⟩,
  ⟨"ALM_DST", 0x40060014, [], 0xFFFFFFFF, 0x0, 0x0, 0x0, 0x0, 0x0, 0x0, false⟩,
  ⟨"ALM_LOCAL", 0x40060018, [], 0x0, 0x0, 0x0, 0xBFFFFFFF, 0x0, 0x0, 0x0, false⟩,
  ⟨"ALM_CAP", 0x4006001C, [], 0x0, 0x0, 0x0, 0xFFFFFFFF, 0x0, 0x0, 0x0, false⟩,
  ⟨"ALM_STAGE", 0x40060020, [], 0x0, 0x0, 0x0, 0x73F3F, 0x0, 0x0, 0x0, false⟩,
  ⟨"ALM_FORCE", 0x40060024, [], 0x0, 0x0, 0x0, 0x0, 0x30FFF, 0x0, 0x0, false⟩,
  ⟨"ALM_FORCEVAL", 0x40060028, [], 0xFFFFFFFF, 0x0, 0x0, 0x0, 0x0, 0x0, 0x0, false⟩,
  ⟨"ALM_ALARM", 0x4006002C, [], 0x0, 0x0, 0x1, 0xFFFFFF00, 0x0, 0x0, 0x0, false⟩,
  ⟨"ALM_DICFG", 0x40060030, [], 0xFF, 0x0, 0x0, 0x0, 0x0, 0x0, 0x0, false⟩,
  ⟨"ALM_DISTAT", 0x40060034, [], 0x0, 0x0, 0x0, 0xFFFF, 0x0, 0x0, 0x0, false⟩,
  ⟨"ALM_FIRECNT", 0x40060040, [], 0x0, 0x0, 0x0, 0xFFFFFFFF, 0x0, 0x0, 0x0, false⟩,
  ⟨"ALM_ACTFAILCNT", 0x40060044, [], 0x0, 0x0, 0x0, 0xFFFFFFFF, 0x0, 0x0, 0x0, false⟩,
  ⟨"ALM_STGREJCNT", 0x40060048, [], 0x0, 0x0, 0x0, 0xFFFFFFFF, 0x0, 0x0, 0x0, false⟩,
  ⟨"ALM_CNTCLR", 0x4006004C, [], 0x0, 0x0, 0x0, 0x0, 0x7, 0x0, 0x0, false⟩]

/-- Registers of block CAN, part 1. -/
def regsCAN0 : List RegRow := [
  ⟨"CAN_CTL", 0x40070000, [(2, 0x8000)], 0x80000001, 0x7FFF00FC, 0x0, 0x0, 0x0, 0x100000, 0x0, false⟩,
  ⟨"CAN_STAT", 0x40070004, [(2, 0x8000)], 0x0, 0x0, 0x8000, 0x630F, 0x0, 0x0, 0x0, false⟩,
  ⟨"CAN_ERRCNT", 0x40070008, [(2, 0x8000)], 0x0, 0x0, 0x0, 0x1FF00FF, 0x0, 0x0, 0x0, false⟩,
  ⟨"CAN_NBT", 0x4007000C, [(2, 0x8000)], 0x0, 0x7F7FFFFF, 0x0, 0x0, 0x0, 0x9094401, 0x0, false⟩,
  ⟨"CAN_DBT", 0x40070010, [(2, 0x8000)], 0x0, 0xF0F1F1F, 0x0, 0x0, 0x0, 0x9091C00, 0x0, false⟩,
  ⟨"CAN_TDC", 0x40070014, [(2, 0x8000)], 0x0, 0x8000007F, 0x0, 0x7F0000, 0x0, 0x1E, 0x0, false⟩,
  ⟨"CAN_ADCFG", 0x40070018, [(2, 0x8000)], 0x0, 0xFF, 0x0, 0x0, 0x0, 0xA, 0x0, false⟩,
  ⟨"CAN_ADSTAT", 0x4007001C, [(2, 0x8000)], 0x0, 0x0, 0x0, 0xFFFF00FF, 0x0, 0x0, 0x0, false⟩,
  ⟨"CAN_RECOVER", 0x40070020, [(2, 0x8000)], 0x0, 0x0, 0x0, 0x0, 0x1, 0x0, 0x0, false⟩,
  ⟨"CAN_TXREQ", 0x40070030, [(2, 0x8000), (4, 0x4)], 0x0, 0x0, 0x0, 0x0, 0xFFFFFFFF, 0x0, 0x0, false⟩,
  ⟨"CAN_TXCAN", 0x40070040, [(2, 0x8000), (4, 0x4)], 0x0, 0x0, 0x0, 0x0, 0xFFFFFFFF, 0x0, 0x0, false⟩,
  ⟨"CAN_TXPEND", 0x40070050, [(2, 0x8000), (4, 0x4)], 0x0, 0x0, 0x0, 0xFFFFFFFF, 0x0, 0x0, 0x0, false⟩,
  ⟨"CAN_TXPARK", 0x40070060, [(2, 0x8000), (4, 0x4)], 0x0, 0x0, 0x0, 0xFFFFFFFF, 0x0, 0x0, 0x0, false⟩,
  ⟨"CAN_Q_STAT", 0x40070080, [(2, 0x8000), (2, 0x10)], 0x0, 0x0, 0x0, 0xFFFF7F3F, 0x0, 0x0, 0x0, false⟩,
  ⟨"CAN_Q_ACK", 0x40070084, [(2, 0x8000), (2, 0x10)], 0x0, 0x0, 0x0, 0x0, 0x3F, 0x0, 0x0, false⟩,
  ⟨"CAN_Q_OWN0", 0x40070088, [(2, 0x8000), (2, 0x10)], 0x0, 0x0, 0x0, 0xFFFFFFFF, 0x0, 0x0, 0x0, false⟩,
  ⟨"CAN_Q_OWN1", 0x4007008C, [(2, 0x8000), (2, 0x10)], 0x0, 0x0, 0x0, 0xFFFFFFFF, 0x0, 0x0, 0x0, false⟩,
  ⟨"CAN_IRQST", 0x400700A0, [(2, 0x8000)], 0x0, 0x0, 0x7FF, 0x0, 0x0, 0x0, 0x0, false⟩,
  ⟨"CAN_IRQEN", 0x400700A4, [(2, 0x8000)], 0x7FF, 0x0, 0x0, 0x0, 0x0, 0x0, 0x0, false⟩,
  ⟨"CAN_Q0DROPCNT", 0x400700B0, [(2, 0x8000)], 0x0, 0x0, 0x0, 0xFFFFFFFF, 0x0, 0x0, 0x0, false⟩,
  ⟨"CAN_Q1DROPCNT", 0x400700B4, [(2, 0x8000)], 0x0, 0x0, 0x0, 0xFFFFFFFF, 0x0, 0x0, 0x0, false⟩,
  ⟨"CAN_OVWCNT", 0x400700B8, [(2, 0x8000)], 0x0, 0x0, 0x0, 0xFFFFFFFF, 0x0, 0x0, 0x0, false⟩,
  ⟨"CAN_NOMATCHCNT", 0x400700BC, [(2, 0x8000)], 0x0, 0x0, 0x0, 0xFFFFFFFF, 0x0, 0x0, 0x0, false⟩,
  ⟨"CAN_BUSOFFCNT", 0x400700C0, [(2, 0x8000)], 0x0, 0x0, 0x0, 0xFFFFFFFF, 0x0, 0x0, 0x0, false⟩]

/-- Registers of block CAN, part 2. -/
def regsCAN1 : List RegRow := [
  ⟨"CAN_PEXCNT", 0x400700C4, [(2, 0x8000)], 0x0, 0x0, 0x0, 0xFFFFFFFF, 0x0, 0x0, 0x0, false⟩,
  ⟨"CAN_LATECNT", 0x400700C8, [(2, 0x8000)], 0x0, 0x0, 0x0, 0xFFFFFFFF, 0x0, 0x0, 0x0, false⟩,
  ⟨"CAN_CNTCLR", 0x400700CC, [(2, 0x8000)], 0x0, 0x0, 0x0, 0x0, 0x7F, 0x0, 0x0, false⟩,
  ⟨"CAN_F_MATCH", 0x40070800, [(2, 0x8000), (64, 0x8)], 0x0, 0x7FFFFFFF, 0x0, 0x0, 0x0, 0x0, 0x0, false⟩,
  ⟨"CAN_F_MASK", 0x40070804, [(2, 0x8000), (64, 0x8)], 0x0, 0xFFFFFFFF, 0x0, 0x0, 0x0, 0x0, 0x0, false⟩]

/-- Registers of block ZP. -/
def regsZP : List RegRow := [
  ⟨"ZP_CTL", 0x40080000, [], 0x3, 0x0, 0x0, 0x0, 0x0, 0x0, 0x0, false⟩,
  ⟨"ZP_CFG", 0x40080004, [], 0x0, 0xFFFFFF0F, 0x0, 0x0, 0x0, 0x1E0A4007, 0x0, false⟩,
  ⟨"ZP_NODE", 0x40080008, [], 0x0, 0x7F7F, 0x0, 0x0, 0x0, 0x101, 0x0, false⟩,
  ⟨"ZP_TIME", 0x4008000C, [], 0x7F03FF, 0x0, 0x0, 0x0, 0x0, 0x0, 0x0, false⟩,
  ⟨"ZP_FDSTAT", 0x40080010, [], 0x0, 0x0, 0x0, 0xFFFF0003, 0x0, 0x0, 0x0, false⟩,
  ⟨"ZP_MGMTEN", 0x40080020, [(2, 0x10), (4, 0x4)], 0xFFFFFFFF, 0x0, 0x0, 0x0, 0x0, 0x0, 0x0, false⟩,
  ⟨"ZP_LASTVIOL", 0x40080040, [], 0x0, 0x0, 0x0, 0xFF1F017F, 0x0, 0x0, 0x0, false⟩,
  ⟨"ZP_VIOLCNT", 0x40080050, [], 0x0, 0x0, 0x0, 0xFFFFFFFF, 0x0, 0x0, 0x0, false⟩,
  ⟨"ZP_QUARCNT", 0x40080054, [], 0x0, 0x0, 0x0, 0xFFFFFFFF, 0x0, 0x0, 0x0, false⟩,
  ⟨"ZP_NAKRXCNT", 0x40080058, [], 0x0, 0x0, 0x0, 0xFFFFFFFF, 0x0, 0x0, 0x0, false⟩,
  ⟨"ZP_NAKSUPCNT", 0x4008005C, [], 0x0, 0x0, 0x0, 0xFFFFFFFF, 0x0, 0x0, 0x0, false⟩,
  ⟨"ZP_JOINFAILCNT", 0x40080060, [], 0x0, 0x0, 0x0, 0xFFFFFFFF, 0x0, 0x0, 0x0, false⟩,
  ⟨"ZP_LOSTCNT", 0x40080064, [], 0x0, 0x0, 0x0, 0xFFFFFFFF, 0x0, 0x0, 0x0, false⟩,
  ⟨"ZP_NOPTCNT", 0x40080068, [], 0x0, 0x0, 0x0, 0xFFFFFFFF, 0x0, 0x0, 0x0, false⟩,
  ⟨"ZP_TXDROPCNT", 0x4008006C, [], 0x0, 0x0, 0x0, 0xFFFFFFFF, 0x0, 0x0, 0x0, false⟩,
  ⟨"ZP_MGMTREFCNT", 0x40080070, [], 0x0, 0x0, 0x0, 0xFFFFFFFF, 0x0, 0x0, 0x0, false⟩,
  ⟨"ZP_BADSRCCNT", 0x40080074, [], 0x0, 0x0, 0x0, 0xFFFFFFFF, 0x0, 0x0, 0x0, false⟩,
  ⟨"ZP_CNTCLR", 0x40080078, [], 0x0, 0x0, 0x0, 0x0, 0x3FF, 0x0, 0x0, false⟩,
  ⟨"ZP_PT0", 0x40081000, [(2, 0x400), (128, 0x8)], 0x0, 0x0, 0x0, 0xFFFFFFFF, 0x0, 0xFF000000, 0x0, false⟩,
  ⟨"ZP_PT1", 0x40081004, [(2, 0x400), (128, 0x8)], 0x0, 0x0, 0x0, 0x3FF001F, 0x0, 0x0, 0x0, false⟩,
  ⟨"ZP_BIND0", 0x40084000, [(512, 0x10)], 0x0, 0x3FF0FFF, 0x0, 0x0, 0x0, 0x0, 0x0, false⟩,
  ⟨"ZP_BIND1", 0x40084004, [(512, 0x10)], 0xFFFFFF, 0x0, 0x0, 0xFF000000, 0x0, 0x0, 0x0, true⟩,
  ⟨"ZP_BIND2", 0x40084008, [(512, 0x10)], 0xFFFFFFFF, 0x0, 0x0, 0x0, 0x0, 0x0, 0x0, true⟩,
  ⟨"ZP_BIND3", 0x4008400C, [(512, 0x10)], 0x0, 0x0, 0x0, 0xFFFFFFFF, 0x0, 0x0, 0x0, false⟩]

/-- Registers of block PAIR. -/
def regsPAIR : List RegRow := [
  ⟨"PAIR_CFG", 0x40090000, [], 0x0, 0xFFFFFF0F, 0x0, 0x0, 0x0, 0x314080C, 0x0, false⟩,
  ⟨"PAIR_STAT", 0x40090004, [], 0x0, 0x0, 0x1000, 0xFFFF0F07, 0x0, 0xFFE00000, 0x0, false⟩,
  ⟨"PAIR_HEALTH", 0x40090008, [], 0x0, 0x0, 0x0, 0xFFFF, 0x0, 0x0, 0x0, false⟩,
  ⟨"PAIR_SWAP", 0x4009000C, [], 0x0, 0x0, 0x0, 0x0, 0x1, 0x0, 0x0, false⟩,
  ⟨"PAIR_FAILMASK", 0x40090010, [], 0xFF, 0x0, 0x0, 0x0, 0x0, 0x0, 0x0, false⟩,
  ⟨"PAIR_FAILSRC", 0x40090014, [], 0x0, 0x0, 0x0, 0xFF, 0x0, 0x0, 0x0, false⟩,
  ⟨"PAIR_CKNUM", 0x40090018, [], 0x0, 0x0, 0x0, 0xFFFFFFFF, 0x0, 0x0, 0x0, false⟩,
  ⟨"PAIR_CKAGE", 0x4009001C, [], 0x0, 0x0, 0x0, 0xFFFFFFFF, 0x0, 0xFFFF, 0x0, false⟩,
  ⟨"PAIR_TESTSTAT", 0x40090020, [], 0x0, 0x0, 0x0, 0xFFFF7F0F, 0x0, 0x0, 0x0, false⟩,
  ⟨"PAIR_MISMATCH", 0x40090024, [], 0x0, 0x0, 0x0, 0x3F, 0x0, 0x0, 0x0, false⟩,
  ⟨"PAIR_CRCCNT", 0x40090040, [], 0x0, 0x0, 0x0, 0xFFFFFFFF, 0x0, 0x0, 0x0, false⟩,
  ⟨"PAIR_LINKDOWNCNT", 0x40090044, [], 0x0, 0x0, 0x0, 0xFFFFFFFF, 0x0, 0x0, 0x0, false⟩,
  ⟨"PAIR_TAKEOVERCNT", 0x40090048, [], 0x0, 0x0, 0x0, 0xFFFFFFFF, 0x0, 0x0, 0x0, false⟩,
  ⟨"PAIR_CKDROPCNT", 0x4009004C, [], 0x0, 0x0, 0x0, 0xFFFFFFFF, 0x0, 0x0, 0x0, false⟩,
  ⟨"PAIR_MIRLOSTCNT", 0x40090050, [], 0x0, 0x0, 0x0, 0xFFFFFFFF, 0x0, 0x0, 0x0, false⟩,
  ⟨"PAIR_MGMTTOCNT", 0x40090054, [], 0x0, 0x0, 0x0, 0xFFFFFFFF, 0x0, 0x0, 0x0, false⟩,
  ⟨"PAIR_CNTCLR", 0x40090058, [], 0x0, 0x0, 0x0, 0x0, 0x3F, 0x0, 0x0, false⟩,
  ⟨"PAIR_PLANA", 0x40090400, [(128, 0x8)], 0x0, 0xFFFF0FFF, 0x0, 0x0, 0x0, 0x0, 0x0, false⟩,
  ⟨"PAIR_PLANB", 0x40090404, [(128, 0x8)], 0x0, 0xFFFF, 0x0, 0x0, 0x0, 0x0, 0x0, false⟩]

/-- Registers of block FOL. -/
def regsFOL : List RegRow := [
  ⟨"FOL_STAT", 0x400A0000, [], 0x0, 0x0, 0xF, 0xFF00, 0x0, 0x100, 0x3800, false⟩,
  ⟨"FOL_PROT", 0x400A0004, [], 0x3, 0x0, 0x0, 0x0, 0x0, 0x0, 0x0, false⟩,
  ⟨"FOL_SAVE", 0x400A0008, [], 0x0, 0x0, 0x0, 0xFFFFFFFF, 0x0, 0x0, 0xFFFFFFFF, false⟩,
  ⟨"FOL_SESSION", 0x400A000C, [], 0x0, 0x0, 0x0, 0xFFFFFFFF, 0x0, 0x0, 0xFFFFFFFF, false⟩,
  ⟨"FOL_TORN", 0x400A0010, [], 0x0, 0x0, 0x0, 0x7FF0FFF, 0x0, 0x0, 0x0, false⟩,
  ⟨"FOL_PGSEL", 0x400A0014, [], 0x7FF, 0x0, 0x0, 0x0, 0x0, 0x0, 0x0, false⟩,
  ⟨"FOL_PGINFO", 0x400A0018, [], 0x0, 0x0, 0x0, 0xCFFFFFFF, 0x0, 0x0, 0x0, false⟩,
  ⟨"FOL_SPARES", 0x400A001C, [], 0x0, 0x0, 0x0, 0x1F1F1F1F, 0x0, 0x0, 0x0, false⟩,
  ⟨"FOL_REMAP", 0x400A0020, [], 0x0, 0x0, 0x0, 0x0, 0x800007FF, 0x0, 0x0, false⟩,
  ⟨"FOL_CTL", 0x400A0024, [], 0x0, 0x0, 0x0, 0x0, 0x1, 0x0, 0x0, false⟩,
  ⟨"FOL_UCINC", 0x400A0028, [], 0x0, 0x0, 0x0, 0x0, 0xFF, 0x0, 0x0, false⟩,
  ⟨"FOL_ENPT", 0x400A0030, [(4, 0x4)], 0x80000FFF, 0x0, 0x0, 0x0, 0x0, 0x0, 0x0, false⟩,
  ⟨"FOL_REFCNT", 0x400A0040, [], 0x0, 0x0, 0x0, 0xFFFFFFFF, 0x0, 0x0, 0x0, false⟩,
  ⟨"FOL_QDROPCNT", 0x400A0044, [], 0x0, 0x0, 0x0, 0xFFFFFFFF, 0x0, 0x0, 0x0, false⟩,
  ⟨"FOL_TORNRDCNT", 0x400A0048, [], 0x0, 0x0, 0x0, 0xFFFFFFFF, 0x0, 0x0, 0x0, false⟩,
  ⟨"FOL_CHKERRCNT", 0x400A004C, [], 0x0, 0x0, 0x0, 0xFFFFFFFF, 0x0, 0x0, 0x0, false⟩,
  ⟨"FOL_CNTCLR", 0x400A0050, [], 0x0, 0x0, 0x0, 0x0, 0xF, 0x0, 0x0, false⟩,
  ⟨"FOL_LIVE", 0x400A0100, [(64, 0x4)], 0xFFFFFFFF, 0x0, 0x0, 0x0, 0x0, 0x0, 0xFFFFFFFF, false⟩]

/-- Registers of block THM. -/
def regsTHM : List RegRow := [
  ⟨"THM_STAT", 0x400B0000, [], 0x0, 0x0, 0x4000, 0x3FF3, 0x0, 0x1, 0x7A00, false⟩,
  ⟨"THM_TS", 0x400B0010, [(4, 0x4)], 0x0, 0x0, 0x0, 0x3F0FFFF, 0x0, 0x700000, 0x0, false⟩,
  ⟨"THM_MAX", 0x400B0020, [], 0x0, 0x0, 0x0, 0xFFFFFFFF, 0x0, 0x80000000, 0x0, false⟩,
  ⟨"THM_AONSEC", 0x400B0024, [], 0x0, 0x0, 0x0, 0xFFFFFFFF, 0x0, 0x0, 0xFFFFFFFF, false⟩,
  ⟨"THM_HOTT", 0x400B0028, [(2, 0x4)], 0x0, 0x0, 0x0, 0xFFFFFFFF, 0x0, 0xFFFFFFFF, 0xFFFFFFFF, false⟩,
  ⟨"THM_WARMCNT", 0x400B0030, [], 0x0, 0x0, 0x0, 0xFFFFFFFF, 0x0, 0x0, 0x0, false⟩,
  ⟨"THM_HOTCNT", 0x400B0034, [], 0x0, 0x0, 0x0, 0xFFFFFFFF, 0x0, 0x0, 0xFFFFFFFF, false⟩,
  ⟨"THM_CNTCLR", 0x400B0038, [], 0x0, 0x0, 0x0, 0x0, 0x7, 0x0, 0x0, false⟩,
  ⟨"THM_REC", 0x400B0100, [(16, 0x4)], 0x0, 0x0, 0x0, 0xFFFFFFFF, 0x0, 0x0, 0xFFFFFFFF, false⟩]

/-- Registers of block PNL. -/
def regsPNL : List RegRow := [
  ⟨"PNL_CFG", 0x400C0000, [], 0x1FF, 0x0, 0x0, 0x0, 0x0, 0x3C, 0xFF, false⟩,
  ⟨"PNL_STAT", 0x400C0004, [], 0x0, 0x0, 0x0, 0xF, 0x0, 0x1, 0x2, false⟩,
  ⟨"PNL_KEYS", 0x400C0008, [(2, 0x4)], 0x0, 0x0, 0x0, 0xFFFFFFFF, 0x0, 0x0, 0xFFFFFFFF, false⟩,
  ⟨"PNL_MASK", 0x400C0010, [(2, 0x4)], 0x0, 0x0, 0x0, 0xFFFFFFFF, 0x0, 0x0, 0xFFFFFFFF, false⟩,
  ⟨"PNL_COMBO_KEYS", 0x400C0020, [(4, 0x8)], 0xBFBFBFBF, 0x0, 0x0, 0x0, 0x0, 0x0, 0xBFBFBFBF, false⟩,
  ⟨"PNL_COMBO_CFG", 0x400C0024, [(4, 0x8)], 0x80001FE3, 0x0, 0x0, 0x0, 0x0, 0x0, 0x80001FE3, false⟩,
  ⟨"PNL_COMBOSTAT", 0x400C0040, [], 0x0, 0x0, 0xF00, 0xFF, 0x0, 0x0, 0xFFF, false⟩,
  ⟨"PNL_ENC", 0x400C0050, [(2, 0x4)], 0x0, 0x0, 0x20000, 0xDFFFF, 0x0, 0xC0000, 0xD0000, false⟩,
  ⟨"PNL_STUCKCNT", 0x400C0060, [], 0x0, 0x0, 0x0, 0xFFFFFFFF, 0x0, 0x0, 0xFFFFFFFF, false⟩,
  ⟨"PNL_FIRECNT", 0x400C0064, [], 0x0, 0x0, 0x0, 0xFFFFFFFF, 0x0, 0x0, 0xFFFFFFFF, false⟩,
  ⟨"PNL_ENCERRCNT", 0x400C0068, [], 0x0, 0x0, 0x0, 0xFFFFFFFF, 0x0, 0x0, 0xFFFFFFFF, false⟩,
  ⟨"PNL_GHOSTCNT", 0x400C006C, [], 0x0, 0x0, 0x0, 0xFFFFFFFF, 0x0, 0x0, 0xFFFFFFFF, false⟩,
  ⟨"PNL_CNTCLR", 0x400C0070, [], 0x0, 0x0, 0x0, 0x0, 0xF, 0x0, 0x0, false⟩]

/-- Registers of block LDG. -/
def regsLDG : List RegRow := [
  ⟨"LDG_SNAPCTL", 0x400D0000, [], 0x1F03, 0x0, 0x0, 0x0, 0x0, 0x0, 0x0, false⟩,
  ⟨"LDG_SNAPFRAME", 0x400D0004, [], 0xFFFFFFFF, 0x0, 0x0, 0x0, 0x0, 0x0, 0x0, false⟩,
  ⟨"LDG_SNAPINFO0", 0x400D0008, [], 0x0, 0x0, 0x0, 0xFFFFFFFF, 0x0, 0x0, 0x0, false⟩,
  ⟨"LDG_SNAPINFO1", 0x400D000C, [], 0x0, 0x0, 0x0, 0xFFFFFFFF, 0x0, 0x0, 0x0, false⟩,
  ⟨"LDG_SNAPSTAT", 0x400D0010, [], 0x0, 0x0, 0x0, 0xFFFF0000, 0x0, 0x0, 0x0, false⟩,
  ⟨"LDG_CLR", 0x400D0014, [], 0x0, 0x0, 0x0, 0x0, 0xFFFFFFFF, 0x0, 0x0, false⟩,
  ⟨"LDG_CNT_SEL", 0x400D0100, [(32, 0x10)], 0x800000FF, 0x0, 0x0, 0x0, 0x0, 0x0, 0x0, false⟩,
  ⟨"LDG_CNT_LO", 0x400D0104, [(32, 0x10)], 0x0, 0x0, 0x0, 0xFFFFFFFF, 0x0, 0x0, 0x0, false⟩,
  ⟨"LDG_CNT_HI", 0x400D0108, [(32, 0x10)], 0x0, 0x0, 0x0, 0xFFFF, 0x0, 0x0, 0x0, false⟩,
  ⟨"LDG_SNAP_LO", 0x400D0400, [(32, 0x8)], 0x0, 0x0, 0x0, 0xFFFFFFFF, 0x0, 0x0, 0x0, false⟩,
  ⟨"LDG_SNAP_HI", 0x400D0404, [(32, 0x8)], 0x0, 0x0, 0x0, 0xFFFF, 0x0, 0x0, 0x0, false⟩,
  ⟨"ANL_STAT", 0x400D0800, [], 0x0, 0x0, 0x0, 0x3FF, 0x0, 0x0, 0x0, false⟩,
  ⟨"ANL_TOTAL", 0x400D0804, [], 0x0, 0x0, 0x0, 0xFFFFFFFF, 0x0, 0x0, 0x0, false⟩,
  ⟨"ANL_PSTAT", 0x400D0808, [], 0x0, 0x0, 0x0, 0xFFFF01FF, 0x0, 0x0, 0x0, false⟩,
  ⟨"ANL_LOSTCNT", 0x400D080C, [], 0x0, 0x0, 0x0, 0xFFFFFFFF, 0x0, 0x0, 0x0, false⟩,
  ⟨"ANL_PDROPCNT", 0x400D0810, [], 0x0, 0x0, 0x0, 0xFFFFFFFF, 0x0, 0x0, 0x0, false⟩,
  ⟨"ANL_CNTCLR", 0x400D0814, [], 0x0, 0x0, 0x0, 0x0, 0x3, 0x0, 0x0, false⟩]

/-- Registers of block FOX. -/
def regsFOX : List RegRow := [
  ⟨"FOX_CTL", 0x400D8000, [], 0x7, 0x0, 0x0, 0x0, 0x0, 0x0, 0x0, false⟩,
  ⟨"FOX_VREQ", 0x400D8004, [], 0x1F, 0x0, 0x0, 0x1F00, 0x0, 0x0, 0x0, false⟩,
  ⟨"FOX_CFG", 0x400D8008, [], 0xFFFFFF, 0x0, 0x0, 0x0, 0x0, 0x142850, 0x0, false⟩,
  ⟨"FOX_CALCFG", 0x400D800C, [], 0xFFFF0FFF, 0x0, 0x0, 0x0, 0x0, 0x1E050F02, 0x0, false⟩,
  ⟨"FOX_REMAPTH", 0x400D8010, [], 0xFFFFFF, 0x0, 0x0, 0x0, 0x0, 0xC3500, 0x0, false⟩,
  ⟨"FOX_STAT", 0x400D8014, [], 0x0, 0x0, 0x0, 0x3F, 0x0, 0x0, 0x10, false⟩,
  ⟨"FOX_SLACK", 0x400D8040, [(9, 0x4)], 0x0, 0x0, 0x0, 0xFFFFFFFF, 0x0, 0x7FFF7FFF, 0x0, false⟩,
  ⟨"FOX_REF", 0x400D8070, [], 0x0, 0x0, 0x0, 0xFFFFFFFF, 0x0, 0x0, 0x0, false⟩,
  ⟨"FOX_EQH", 0x400D8074, [], 0x0, 0x0, 0x0, 0xFFFFFFFF, 0x0, 0x0, 0xFFFFFFFF, false⟩,
  ⟨"FOX_LIFEH", 0x400D8078, [], 0x0, 0x0, 0x0, 0xFFFFFFFF, 0x0, 0x0, 0x0, false⟩,
  ⟨"FOX_HEAD", 0x400D807C, [], 0x0, 0x0, 0x0, 0x1F1F, 0x0, 0x1000, 0x0, false⟩,
  ⟨"FOX_LAST", 0x400D8080, [], 0x0, 0x0, 0x0, 0xF000FFFF, 0x0, 0x0, 0x0, false⟩]

/-- Registers of block SVC. -/
def regsSVC : List RegRow := [
  ⟨"AZ_ID", 0x400E0000, [], 0x0, 0x0, 0x0, 0xFFFFFF0F, 0x0, 0x6440B103, 0x0, false⟩,
  ⟨"AZ_UID", 0x400E0004, [(2, 0x4)], 0x0, 0x0, 0x0, 0xFFFFFFFF, 0x0, 0x0, 0x0, false⟩,
  ⟨"SVC_STAT", 0x400E0010, [], 0x0, 0x0, 0x3, 0xFF00, 0x0, 0x0, 0x0, false⟩,
  ⟨"SVC_IRQST", 0x400E0014, [], 0x0, 0x0, 0x1F8, 0x7, 0x0, 0x0, 0x0, false⟩,
  ⟨"SVC_IRQEN", 0x400E0018, [], 0x1FF, 0x0, 0x0, 0x0, 0x0, 0x0, 0x0, false⟩,
  ⟨"SVC_REJADDR", 0x400E001C, [], 0x0, 0x0, 0x0, 0xFFFFFFFF, 0x0, 0x0, 0x0, false⟩,
  ⟨"SVC_REJINFO", 0x400E0020, [], 0x0, 0x0, 0x0, 0x1F03, 0x0, 0x0, 0x0, false⟩,
  ⟨"SVC_FMTCNT", 0x400E0030, [], 0x0, 0x0, 0x0, 0xFFFFFFFF, 0x0, 0x0, 0x0, false⟩,
  ⟨"SVC_ABORTCNT", 0x400E0034, [], 0x0, 0x0, 0x0, 0xFFFFFFFF, 0x0, 0x0, 0x0, false⟩,
  ⟨"SVC_CNTCLR", 0x400E0038, [], 0x0, 0x0, 0x0, 0x0, 0x3, 0x0, 0x0, false⟩]

/-- The registers of the block whose 64 KiB window has number `k` above 0x4000_0000 (R602). LDG, ANL and FOX share
window 13. -/
def blockRegs (k : Nat) : List RegRow :=
  match k with
  | 0 => regsCRT
  | 1 => regsBOOT
  | 2 => regsADC
  | 3 => regsSEQ
  | 4 => regsPWM
  | 5 => regsCE0 ++ regsCE1
  | 6 => regsALM
  | 7 => regsCAN0 ++ regsCAN1
  | 8 => regsZP
  | 9 => regsPAIR
  | 10 => regsFOL
  | 11 => regsTHM
  | 12 => regsPNL
  | 13 => regsLDG ++ regsFOX
  | 14 => regsSVC
  | _ => []

/-- The row that holds the register at absolute address `a`, if a register stands there (R581). -/
def findReg (a : Nat) : Option RegRow :=
  if a < 0x40000000 then none
  else (blockRegs ((a - 0x40000000) / 0x10000)).find? (·.hit a)

/-- All rows of the register map. -/
def allRegs : List RegRow := (List.range 15).flatMap blockRegs

/-- The word a register holds after a power-on reset (R15); 0 where no register of the table stands. -/
def resetWord (a : Nat) : Word :=
  match findReg a with
  | some r => BitVec.ofNat 32 r.rst
  | none => 0

/-- A field of a register: absolute address, lowest bit and width. -/
structure Fld where
  /-- Absolute address of the register. -/
  addr : Nat
  /-- Lowest bit of the field. -/
  lo : Nat
  /-- Width of the field in bits. -/
  width : Nat
  deriving DecidableEq, Repr

namespace F

/-- CRT_CLKSTAT.LOCKLOSS_L, bits 3 (spec/01). -/
def CRT_CLKSTAT_LOCKLOSS_L : Fld := ⟨0x40000000, 3, 1⟩
/-- CRT_CLKSTAT.LOCKLOSS_M, bits 2 (spec/01). -/
def CRT_CLKSTAT_LOCKLOSS_M : Fld := ⟨0x40000000, 2, 1⟩
/-- CRT_CLKSTAT.LOCK_L, bits 1 (spec/01). -/
def CRT_CLKSTAT_LOCK_L : Fld := ⟨0x40000000, 1, 1⟩
/-- CRT_CLKSTAT.LOCK_M, bits 0 (spec/01). -/
def CRT_CLKSTAT_LOCK_M : Fld := ⟨0x40000000, 0, 1⟩
/-- CRT_FRAMECFG.NCE, bits 31:16 (spec/01). -/
def CRT_FRAMECFG_NCE : Fld := ⟨0x40000004, 16, 16⟩
/-- CRT_FRAMECFG.NF, bits 15:0 (spec/01). -/
def CRT_FRAMECFG_NF : Fld := ⟨0x40000004, 0, 16⟩
/-- CRT_FRAMENO.word, bits 31:0 (spec/01). -/
def CRT_FRAMENO : Fld := ⟨0x40000008, 0, 32⟩
/-- CRT_FRAMEPOS.POS, bits 15:0 (spec/01). -/
def CRT_FRAMEPOS_POS : Fld := ⟨0x4000000C, 0, 16⟩
/-- CRT_RSTCAUSE.SVC, bits 5 (spec/01). -/
def CRT_RSTCAUSE_SVC : Fld := ⟨0x40000010, 5, 1⟩
/-- CRT_RSTCAUSE.PANEL, bits 4 (spec/01). -/
def CRT_RSTCAUSE_PANEL : Fld := ⟨0x40000010, 4, 1⟩
/-- CRT_RSTCAUSE.XTAL, bits 3 (spec/01). -/
def CRT_RSTCAUSE_XTAL : Fld := ⟨0x40000010, 3, 1⟩
/-- CRT_RSTCAUSE.WDOG, bits 2 (spec/01). -/
def CRT_RSTCAUSE_WDOG : Fld := ⟨0x40000010, 2, 1⟩
/-- CRT_RSTCAUSE.PIN, bits 1 (spec/01). -/
def CRT_RSTCAUSE_PIN : Fld := ⟨0x40000010, 1, 1⟩
/-- CRT_RSTCAUSE.POR, bits 0 (spec/01). -/
def CRT_RSTCAUSE_POR : Fld := ⟨0x40000010, 0, 1⟩
/-- CRT_WIN12.W2, bits 31:16 (spec/01). -/
def CRT_WIN12_W2 : Fld := ⟨0x40000020, 16, 16⟩
/-- CRT_WIN12.W1, bits 15:0 (spec/01). -/
def CRT_WIN12_W1 : Fld := ⟨0x40000020, 0, 16⟩
/-- CRT_WIN3.W3, bits 15:0 (spec/01). -/
def CRT_WIN3_W3 : Fld := ⟨0x40000024, 0, 16⟩
/-- CRT_HEAD.MIN, bits 31:16 (spec/01). -/
def CRT_HEAD_MIN (i : Nat) : Fld := ⟨0x40000030 + 0x4 * i, 16, 16⟩
/-- CRT_HEAD.LAST, bits 15:0 (spec/01). -/
def CRT_HEAD_LAST (i : Nat) : Fld := ⟨0x40000030 + 0x4 * i, 0, 16⟩
/-- CRT_C0STAT.CONSEC, bits 27:16 (spec/01). -/
def CRT_C0STAT_CONSEC : Fld := ⟨0x40000040, 16, 12⟩
/-- CRT_C0STAT.OVR_OTHER, bits 6 (spec/01). -/
def CRT_C0STAT_OVR_OTHER : Fld := ⟨0x40000040, 6, 1⟩
/-- CRT_C0STAT.OVR, bits 5:0 (spec/01). -/
def CRT_C0STAT_OVR : Fld := ⟨0x40000040, 0, 6⟩
/-- CRT_SKIP.word, bits 31:0 (spec/01). -/
def CRT_SKIP (i : Nat) : Fld := ⟨0x40000044 + 0x4 * i, 0, 32⟩
/-- CRT_ALMOVR.word, bits 31:0 (spec/01). -/
def CRT_ALMOVR : Fld := ⟨0x40000050, 0, 32⟩
/-- CRT_CNTCLR.HEADMIN, bits 4 (spec/01). -/
def CRT_CNTCLR_HEADMIN : Fld := ⟨0x40000054, 4, 1⟩
/-- CRT_CNTCLR.ALMOVR, bits 3 (spec/01). -/
def CRT_CNTCLR_ALMOVR : Fld := ⟨0x40000054, 3, 1⟩
/-- CRT_CNTCLR.SKIP, bits 2:0 (spec/01). -/
def CRT_CNTCLR_SKIP : Fld := ⟨0x40000054, 0, 3⟩
/-- BOOT_STAT.FFMS, bits 23:16 (spec/02). -/
def BOOT_STAT_FFMS : Fld := ⟨0x40010000, 16, 8⟩
/-- BOOT_STAT.PROGERR, bits 13 (spec/02). -/
def BOOT_STAT_PROGERR : Fld := ⟨0x40010000, 13, 1⟩
/-- BOOT_STAT.PROGBUSY, bits 12 (spec/02). -/
def BOOT_STAT_PROGBUSY : Fld := ⟨0x40010000, 12, 1⟩
/-- BOOT_STAT.RECOVERY, bits 11 (spec/02). -/
def BOOT_STAT_RECOVERY : Fld := ⟨0x40010000, 11, 1⟩
/-- BOOT_STAT.NOSFDP, bits 10 (spec/02). -/
def BOOT_STAT_NOSFDP : Fld := ⟨0x40010000, 10, 1⟩
/-- BOOT_STAT.FORMAT, bits 9:8 (spec/02). -/
def BOOT_STAT_FORMAT : Fld := ⟨0x40010000, 8, 2⟩
/-- BOOT_STAT.BIST_FAIL, bits 7 (spec/02). -/
def BOOT_STAT_BIST_FAIL : Fld := ⟨0x40010000, 7, 1⟩
/-- BOOT_STAT.FALLBACK, bits 6 (spec/02). -/
def BOOT_STAT_FALLBACK : Fld := ⟨0x40010000, 6, 1⟩
/-- BOOT_STAT.SOURCE, bits 5:4 (spec/02). -/
def BOOT_STAT_SOURCE : Fld := ⟨0x40010000, 4, 2⟩
/-- BOOT_STAT.PHASE, bits 3:0 (spec/02). -/
def BOOT_STAT_PHASE : Fld := ⟨0x40010000, 0, 4⟩
/-- BOOT_FLASH.SFDPMIN, bits 23:16 (spec/02). -/
def BOOT_FLASH_SFDPMIN : Fld := ⟨0x4001000C, 16, 8⟩
/-- BOOT_FLASH.OPCODE, bits 15:8 (spec/02). -/
def BOOT_FLASH_OPCODE : Fld := ⟨0x4001000C, 8, 8⟩
/-- BOOT_FLASH.DUMMY, bits 7:4 (spec/02). -/
def BOOT_FLASH_DUMMY : Fld := ⟨0x4001000C, 4, 4⟩
/-- BOOT_FLASH.MODE, bits 2:0 (spec/02). -/
def BOOT_FLASH_MODE : Fld := ⟨0x4001000C, 0, 3⟩
/-- BOOT_PREF.ONCE, bits 2 (spec/02). -/
def BOOT_PREF_ONCE : Fld := ⟨0x40010018, 2, 1⟩
/-- BOOT_PREF.NEXT, bits 1:0 (spec/02). -/
def BOOT_PREF_NEXT : Fld := ⟨0x40010018, 0, 2⟩
/-- BOOT_CTL.PROG_B, bits 4 (spec/02). -/
def BOOT_CTL_PROG_B : Fld := ⟨0x4001001C, 4, 1⟩
/-- BOOT_CTL.PROG_A, bits 3 (spec/02). -/
def BOOT_CTL_PROG_A : Fld := ⟨0x4001001C, 3, 1⟩
/-- BOOT_CTL.GO_B, bits 2 (spec/02). -/
def BOOT_CTL_GO_B : Fld := ⟨0x4001001C, 2, 1⟩
/-- BOOT_CTL.GO_A, bits 1 (spec/02). -/
def BOOT_CTL_GO_A : Fld := ⟨0x4001001C, 1, 1⟩
/-- BOOT_CTL.GO_RAM, bits 0 (spec/02). -/
def BOOT_CTL_GO_RAM : Fld := ⟨0x4001001C, 0, 1⟩
/-- BOOT_RECSEL.POS, bits 1:0 (spec/02). -/
def BOOT_RECSEL_POS : Fld := ⟨0x40010020, 0, 2⟩
/-- BOOT_SHADOWCTL.HOLDEXP, bits 2 (spec/02). -/
def BOOT_SHADOWCTL_HOLDEXP : Fld := ⟨0x40010024, 2, 1⟩
/-- BOOT_SHADOWCTL.PENDING, bits 1 (spec/02). -/
def BOOT_SHADOWCTL_PENDING : Fld := ⟨0x40010024, 1, 1⟩
/-- BOOT_SHADOWCTL.HOLD, bits 0 (spec/02). -/
def BOOT_SHADOWCTL_HOLD : Fld := ⟨0x40010024, 0, 1⟩
/-- BOOT_FAILA.SECT, bits 23:16 (spec/02). -/
def BOOT_FAILA_SECT : Fld := ⟨0x40010004, 16, 8⟩
/-- BOOT_FAILA.CODE, bits 7:0 (spec/02). -/
def BOOT_FAILA_CODE : Fld := ⟨0x40010004, 0, 8⟩
/-- BOOT_FAILB.SECT, bits 23:16 (spec/02). -/
def BOOT_FAILB_SECT : Fld := ⟨0x40010008, 16, 8⟩
/-- BOOT_FAILB.CODE, bits 7:0 (spec/02). -/
def BOOT_FAILB_CODE : Fld := ⟨0x40010008, 0, 8⟩
/-- BOOT_FPRINT.word, bits 31:0 (spec/02). -/
def BOOT_FPRINT (i : Nat) : Fld := ⟨0x40010010 + 0x4 * i, 0, 32⟩
/-- ADC_CTL.CORE_EN, bits 8:0 (spec/03). -/
def ADC_CTL_CORE_EN : Fld := ⟨0x40020000, 0, 9⟩
/-- ADC_DIFFF.PAIR, bits 11:0 (spec/03). -/
def ADC_DIFFF_PAIR : Fld := ⟨0x40020004, 0, 12⟩
/-- ADC_DIFFS.PAIR, bits 19:0 (spec/03). -/
def ADC_DIFFS_PAIR : Fld := ⟨0x40020008, 0, 20⟩
/-- ADC_ILV.IN_G23, bits 31:27 (spec/03). -/
def ADC_ILV_IN_G23 : Fld := ⟨0x40020018, 27, 5⟩
/-- ADC_ILV.IN_G01, bits 26:22 (spec/03). -/
def ADC_ILV_IN_G01 : Fld := ⟨0x40020018, 22, 5⟩
/-- ADC_ILV.IN_F23, bits 21:17 (spec/03). -/
def ADC_ILV_IN_F23 : Fld := ⟨0x40020018, 17, 5⟩
/-- ADC_ILV.IN_F01, bits 16:12 (spec/03). -/
def ADC_ILV_IN_F01 : Fld := ⟨0x40020018, 12, 5⟩
/-- ADC_ILV.EN, bits 3:0 (spec/03). -/
def ADC_ILV_EN : Fld := ⟨0x40020018, 0, 4⟩
/-- ADC_CALCTL.PCORE, bits 5:4 (spec/03). -/
def ADC_CALCTL_PCORE : Fld := ⟨0x40020020, 4, 2⟩
/-- ADC_CALCTL.PERM, bits 3 (spec/03). -/
def ADC_CALCTL_PERM : Fld := ⟨0x40020020, 3, 1⟩
/-- ADC_CALCTL.FORCE, bits 2 (spec/03). -/
def ADC_CALCTL_FORCE : Fld := ⟨0x40020020, 2, 1⟩
/-- ADC_CALCTL.FOXLOCK, bits 1 (spec/03). -/
def ADC_CALCTL_FOXLOCK : Fld := ⟨0x40020020, 1, 1⟩
/-- ADC_CALCTL.BGEN, bits 0 (spec/03). -/
def ADC_CALCTL_BGEN : Fld := ⟨0x40020020, 0, 1⟩
/-- ADC_CALINT.INT, bits 15:0 (spec/03). -/
def ADC_CALINT_INT : Fld := ⟨0x40020024, 0, 16⟩
/-- ADC_CALSTAT.REJ, bits 12:8 (spec/03). -/
def ADC_CALSTAT_REJ : Fld := ⟨0x40020028, 8, 5⟩
/-- ADC_CALSTAT.LATEBACK, bits 6 (spec/03). -/
def ADC_CALSTAT_LATEBACK : Fld := ⟨0x40020028, 6, 1⟩
/-- ADC_CALSTAT.CORE, bits 5:4 (spec/03). -/
def ADC_CALSTAT_CORE : Fld := ⟨0x40020028, 4, 2⟩
/-- ADC_CALSTAT.PHASE, bits 2:0 (spec/03). -/
def ADC_CALSTAT_PHASE : Fld := ⟨0x40020028, 0, 3⟩
/-- ADC_REFCHK.SKEWLIM, bits 9:8 (spec/03). -/
def ADC_REFCHK_SKEWLIM : Fld := ⟨0x40020034, 8, 2⟩
/-- ADC_REFCHK.GFAIL, bits 3:0 (spec/03). -/
def ADC_REFCHK_GFAIL : Fld := ⟨0x40020034, 0, 4⟩
/-- ADC_SKEW.F23, bits 15:8 (spec/03). -/
def ADC_SKEW_F23 : Fld := ⟨0x40020038, 8, 8⟩
/-- ADC_SKEW.F01, bits 7:0 (spec/03). -/
def ADC_SKEW_F01 : Fld := ⟨0x40020038, 0, 8⟩
/-- ADC_CNTCLR.CLR, bits 3:0 (spec/03). -/
def ADC_CNTCLR_CLR : Fld := ⟨0x40020050, 0, 4⟩
/-- ADC_ALIGN0.FI, bits 23:0 (spec/03). -/
def ADC_ALIGN0_FI : Fld := ⟨0x4002000C, 0, 24⟩
/-- ADC_ALIGN1.word, bits 31:0 (spec/03). -/
def ADC_ALIGN1 : Fld := ⟨0x40020010, 0, 32⟩
/-- ADC_ALIGN2.SI, bits 7:0 (spec/03). -/
def ADC_ALIGN2_SI : Fld := ⟨0x40020014, 0, 8⟩
/-- ADC_CALAGE0.AGE_F1, bits 31:16 (spec/03). -/
def ADC_CALAGE0_AGE_F1 : Fld := ⟨0x4002002C, 16, 16⟩
/-- ADC_CALAGE0.AGE_F0, bits 15:0 (spec/03). -/
def ADC_CALAGE0_AGE_F0 : Fld := ⟨0x4002002C, 0, 16⟩
/-- ADC_CALAGE1.AGE_F3, bits 31:16 (spec/03). -/
def ADC_CALAGE1_AGE_F3 : Fld := ⟨0x40020030, 16, 16⟩
/-- ADC_CALAGE1.AGE_F2, bits 15:0 (spec/03). -/
def ADC_CALAGE1_AGE_F2 : Fld := ⟨0x40020030, 0, 16⟩
/-- ADC_SHARECNT.word, bits 31:0 (spec/03). -/
def ADC_SHARECNT : Fld := ⟨0x40020040, 0, 32⟩
/-- ADC_CLIPCNT.word, bits 31:0 (spec/03). -/
def ADC_CLIPCNT : Fld := ⟨0x40020044, 0, 32⟩
/-- ADC_POSTCNT.word, bits 31:0 (spec/03). -/
def ADC_POSTCNT : Fld := ⟨0x40020048, 0, 32⟩
/-- ADC_REJCNT.word, bits 31:0 (spec/03). -/
def ADC_REJCNT : Fld := ⟨0x4002004C, 0, 32⟩
/-- ADC_FTRIM.GAIN, bits 31:16 (spec/03). -/
def ADC_FTRIM_GAIN (i : Nat) : Fld := ⟨0x40020100 + 0x8 * i, 16, 16⟩
/-- ADC_FTRIM.OFS, bits 15:0 (spec/03). -/
def ADC_FTRIM_OFS (i : Nat) : Fld := ⟨0x40020100 + 0x8 * i, 0, 16⟩
/-- ADC_WTRIM.GAIN, bits 31:16 (spec/03). -/
def ADC_WTRIM_GAIN (i : Nat) : Fld := ⟨0x40020104 + 0x8 * i, 16, 16⟩
/-- ADC_WTRIM.OFS, bits 15:0 (spec/03). -/
def ADC_WTRIM_OFS (i : Nat) : Fld := ⟨0x40020104 + 0x8 * i, 0, 16⟩
/-- SEQ_CTL.EN, bits 0 (spec/04). -/
def SEQ_CTL_EN : Fld := ⟨0x40030000, 0, 1⟩
/-- SEQ_REGCFG.OFFSET, bits 31:16 (spec/04). -/
def SEQ_REGCFG_OFFSET : Fld := ⟨0x40030004, 16, 16⟩
/-- SEQ_REGCFG.DIV, bits 15:8 (spec/04). -/
def SEQ_REGCFG_DIV : Fld := ⟨0x40030004, 8, 8⟩
/-- SEQ_REGCFG.MODE, bits 1:0 (spec/04). -/
def SEQ_REGCFG_MODE : Fld := ⟨0x40030004, 0, 2⟩
/-- SEQ_REGSTART.GO, bits 0 (spec/04). -/
def SEQ_REGSTART_GO : Fld := ⟨0x40030008, 0, 1⟩
/-- SEQ_STAT.ISACT, bits 15:8 (spec/04). -/
def SEQ_STAT_ISACT : Fld := ⟨0x4003000C, 8, 8⟩
/-- SEQ_STAT.REGRUN, bits 0 (spec/04). -/
def SEQ_STAT_REGRUN : Fld := ⟨0x4003000C, 0, 1⟩
/-- SEQ_ISTRIG.GO, bits 7:0 (spec/04). -/
def SEQ_ISTRIG_GO : Fld := ⟨0x40030030, 0, 8⟩
/-- SEQ_OVRFLAG.LATE, bits 23:16 (spec/04). -/
def SEQ_OVRFLAG_LATE : Fld := ⟨0x40030034, 16, 8⟩
/-- SEQ_OVRFLAG.ROVR, bits 8 (spec/04). -/
def SEQ_OVRFLAG_ROVR : Fld := ⟨0x40030034, 8, 1⟩
/-- SEQ_OVRFLAG.IOVR, bits 7:0 (spec/04). -/
def SEQ_OVRFLAG_IOVR : Fld := ⟨0x40030034, 0, 8⟩
/-- SEQ_CNTCLR.CLR, bits 3:0 (spec/04). -/
def SEQ_CNTCLR_CLR : Fld := ⟨0x40030050, 0, 4⟩
/-- SEQ_SCAN.MASK, bits 23:0 (spec/04). -/
def SEQ_SCAN_MASK (i : Nat) : Fld := ⟨0x40030010 + 0x4 * i, 0, 24⟩
/-- SEQ_SCANG.MASK, bits 19:0 (spec/04). -/
def SEQ_SCANG_MASK (i : Nat) : Fld := ⟨0x40030020 + 0x4 * i, 0, 20⟩
/-- SEQ_IOVRCNT.word, bits 31:0 (spec/04). -/
def SEQ_IOVRCNT : Fld := ⟨0x40030040, 0, 32⟩
/-- SEQ_ROVRCNT.word, bits 31:0 (spec/04). -/
def SEQ_ROVRCNT : Fld := ⟨0x40030044, 0, 32⟩
/-- SEQ_LATECNT.word, bits 31:0 (spec/04). -/
def SEQ_LATECNT : Fld := ⟨0x40030048, 0, 32⟩
/-- SEQ_SATCNT.word, bits 31:0 (spec/04). -/
def SEQ_SATCNT : Fld := ⟨0x4003004C, 0, 32⟩
/-- SEQ_IS_CFG.DELAY, bits 31:16 (spec/04). -/
def SEQ_IS_CFG_DELAY (i : Nat) : Fld := ⟨0x40030100 + 0x20 * i, 16, 16⟩
/-- SEQ_IS_CFG.NENT, bits 10:9 (spec/04). -/
def SEQ_IS_CFG_NENT (i : Nat) : Fld := ⟨0x40030100 + 0x20 * i, 9, 2⟩
/-- SEQ_IS_CFG.MODE, bits 8 (spec/04). -/
def SEQ_IS_CFG_MODE (i : Nat) : Fld := ⟨0x40030100 + 0x20 * i, 8, 1⟩
/-- SEQ_IS_CFG.GRP, bits 6:4 (spec/04). -/
def SEQ_IS_CFG_GRP (i : Nat) : Fld := ⟨0x40030100 + 0x20 * i, 4, 3⟩
/-- SEQ_IS_CFG.SRC, bits 3:0 (spec/04). -/
def SEQ_IS_CFG_SRC (i : Nat) : Fld := ⟨0x40030100 + 0x20 * i, 0, 4⟩
/-- SEQ_IS_BURST.SPACE, bits 11:8 (spec/04). -/
def SEQ_IS_BURST_SPACE (i : Nat) : Fld := ⟨0x4003010C + 0x20 * i, 8, 4⟩
/-- SEQ_IS_BURST.COUNT, bits 4:0 (spec/04). -/
def SEQ_IS_BURST_COUNT (i : Nat) : Fld := ⟨0x4003010C + 0x20 * i, 0, 5⟩
/-- SEQ_IS_LATCH.OCC, bits 9:8 (spec/04). -/
def SEQ_IS_LATCH_OCC (i : Nat) : Fld := ⟨0x40030110 + 0x20 * i, 8, 2⟩
/-- SEQ_IS_LATCH.COMPLETE, bits 4 (spec/04). -/
def SEQ_IS_LATCH_COMPLETE (i : Nat) : Fld := ⟨0x40030110 + 0x20 * i, 4, 1⟩
/-- SEQ_IS_LATCH.DRIVE, bits 2:0 (spec/04). -/
def SEQ_IS_LATCH_DRIVE (i : Nat) : Fld := ⟨0x40030110 + 0x20 * i, 0, 3⟩
/-- SEQ_IS_ENT.CORELO, bits 11:8 (spec/04). -/
def SEQ_IS_ENT_CORELO (i : Nat) (j : Nat) : Fld := ⟨0x40030104 + 0x20 * i + 0x4 * j, 8, 4⟩
/-- SEQ_IS_ENT.COREHI, bits 27:24 (spec/04). -/
def SEQ_IS_ENT_COREHI (i : Nat) (j : Nat) : Fld := ⟨0x40030104 + 0x20 * i + 0x4 * j, 24, 4⟩
/-- SEQ_IS_ENT.GROUPLO, bits 6 (spec/04). -/
def SEQ_IS_ENT_GROUPLO (i : Nat) (j : Nat) : Fld := ⟨0x40030104 + 0x20 * i + 0x4 * j, 6, 1⟩
/-- SEQ_IS_ENT.GROUPHI, bits 22 (spec/04). -/
def SEQ_IS_ENT_GROUPHI (i : Nat) (j : Nat) : Fld := ⟨0x40030104 + 0x20 * i + 0x4 * j, 22, 1⟩
/-- SEQ_IS_ENT.INPUTLO, bits 5:0 (spec/04). -/
def SEQ_IS_ENT_INPUTLO (i : Nat) (j : Nat) : Fld := ⟨0x40030104 + 0x20 * i + 0x4 * j, 0, 6⟩
/-- SEQ_IS_ENT.INPUTHI, bits 21:16 (spec/04). -/
def SEQ_IS_ENT_INPUTHI (i : Nat) (j : Nat) : Fld := ⟨0x40030104 + 0x20 * i + 0x4 * j, 16, 6⟩
/-- SEQ_IS_HSTAT.SAT, bits 22 (spec/04). -/
def SEQ_IS_HSTAT_SAT (i : Nat) (j : Nat) : Fld := ⟨0x40030114 + 0x20 * i + 0x4 * j, 22, 1⟩
/-- SEQ_IS_HSTAT.LATE, bits 21 (spec/04). -/
def SEQ_IS_HSTAT_LATE (i : Nat) (j : Nat) : Fld := ⟨0x40030114 + 0x20 * i + 0x4 * j, 21, 1⟩
/-- SEQ_IS_HSTAT.COMPLETE, bits 20 (spec/04). -/
def SEQ_IS_HSTAT_COMPLETE (i : Nat) (j : Nat) : Fld := ⟨0x40030114 + 0x20 * i + 0x4 * j, 20, 1⟩
/-- SEQ_IS_HSTAT.OCCS, bits 19:16 (spec/04). -/
def SEQ_IS_HSTAT_OCCS (i : Nat) (j : Nat) : Fld := ⟨0x40030114 + 0x20 * i + 0x4 * j, 16, 4⟩
/-- SEQ_IS_HSTAT.FRAME, bits 15:0 (spec/04). -/
def SEQ_IS_HSTAT_FRAME (i : Nat) (j : Nat) : Fld := ⟨0x40030114 + 0x20 * i + 0x4 * j, 0, 16⟩
/-- SEQ_SH_GAIN.word, bits 31:0 (spec/04). -/
def SEQ_SH_GAIN (i : Nat) : Fld := ⟨0x40030400 + 0x10 * i, 0, 32⟩
/-- SEQ_SH_OFS.word, bits 31:0 (spec/04). -/
def SEQ_SH_OFS (i : Nat) : Fld := ⟨0x40030404 + 0x10 * i, 0, 32⟩
/-- SEQ_SH_CFG.EN, bits 8 (spec/04). -/
def SEQ_SH_CFG_EN (i : Nat) : Fld := ⟨0x40030408 + 0x10 * i, 8, 1⟩
/-- SEQ_SH_CFG.GSH, bits 4:0 (spec/04). -/
def SEQ_SH_CFG_GSH (i : Nat) : Fld := ⟨0x40030408 + 0x10 * i, 0, 5⟩
/-- SEQ_RING_CFG.DEC, bits 23:16 (spec/04). -/
def SEQ_RING_CFG_DEC (i : Nat) : Fld := ⟨0x40030800 + 0x10 * i, 16, 8⟩
/-- SEQ_RING_CFG.INPUT, bits 14:8 (spec/04). -/
def SEQ_RING_CFG_INPUT (i : Nat) : Fld := ⟨0x40030800 + 0x10 * i, 8, 7⟩
/-- SEQ_RING_CFG.LEN, bits 7:4 (spec/04). -/
def SEQ_RING_CFG_LEN (i : Nat) : Fld := ⟨0x40030800 + 0x10 * i, 4, 4⟩
/-- SEQ_RING_CFG.SEL, bits 2:1 (spec/04). -/
def SEQ_RING_CFG_SEL (i : Nat) : Fld := ⟨0x40030800 + 0x10 * i, 1, 2⟩
/-- SEQ_RING_CFG.EN, bits 0 (spec/04). -/
def SEQ_RING_CFG_EN (i : Nat) : Fld := ⟨0x40030800 + 0x10 * i, 0, 1⟩
/-- SEQ_RING_BASE.BASE, bits 13:0 (spec/04). -/
def SEQ_RING_BASE_BASE (i : Nat) : Fld := ⟨0x40030804 + 0x10 * i, 0, 14⟩
/-- SEQ_RING_POS.WRAP, bits 31:16 (spec/04). -/
def SEQ_RING_POS_WRAP (i : Nat) : Fld := ⟨0x40030808 + 0x10 * i, 16, 16⟩
/-- SEQ_RING_POS.WIDX, bits 15:0 (spec/04). -/
def SEQ_RING_POS_WIDX (i : Nat) : Fld := ⟨0x40030808 + 0x10 * i, 0, 16⟩
/-- PWM_CTL.EN, bits 0 (spec/05). -/
def PWM_CTL_EN : Fld := ⟨0x40040000, 0, 1⟩
/-- PWM_STAT.TRIPIN, bits 15:8 (spec/05). -/
def PWM_STAT_TRIPIN : Fld := ⟨0x40040004, 8, 8⟩
/-- PWM_STAT.SAFE, bits 0 (spec/05). -/
def PWM_STAT_SAFE : Fld := ⟨0x40040004, 0, 1⟩
/-- PWM_TRIPCFG.FILT, bits 7:0 (spec/05). -/
def PWM_TRIPCFG_FILT : Fld := ⟨0x40040008, 0, 8⟩
/-- PWM_TRIPFLAG.FLAG, bits 7:0 (spec/05). -/
def PWM_TRIPFLAG_FLAG : Fld := ⟨0x4004000C, 0, 8⟩
/-- PWM_CNTCLR.CLR, bits 23:0 (spec/05). -/
def PWM_CNTCLR_CLR : Fld := ⟨0x40040010, 0, 24⟩
/-- PWM_G_CFG.PHASE, bits 31:16 (spec/05). -/
def PWM_G_CFG_PHASE (i : Nat) : Fld := ⟨0x40040100 + 0x80 * i, 16, 16⟩
/-- PWM_G_CFG.EN, bits 4 (spec/05). -/
def PWM_G_CFG_EN (i : Nat) : Fld := ⟨0x40040100 + 0x80 * i, 4, 1⟩
/-- PWM_G_CFG.CARRY, bits 3 (spec/05). -/
def PWM_G_CFG_CARRY (i : Nat) : Fld := ⟨0x40040100 + 0x80 * i, 3, 1⟩
/-- PWM_G_CFG.LOAD, bits 2 (spec/05). -/
def PWM_G_CFG_LOAD (i : Nat) : Fld := ⟨0x40040100 + 0x80 * i, 2, 1⟩
/-- PWM_G_CFG.RATE, bits 1:0 (spec/05). -/
def PWM_G_CFG_RATE (i : Nat) : Fld := ⟨0x40040100 + 0x80 * i, 0, 2⟩
/-- PWM_G_DEADTIME.MINP, bits 25:16 (spec/05). -/
def PWM_G_DEADTIME_MINP (i : Nat) : Fld := ⟨0x40040104 + 0x80 * i, 16, 10⟩
/-- PWM_G_DEADTIME.DT, bits 9:0 (spec/05). -/
def PWM_G_DEADTIME_DT (i : Nat) : Fld := ⟨0x40040104 + 0x80 * i, 0, 10⟩
/-- PWM_G_TRIPMAP.MAP, bits 7:0 (spec/05). -/
def PWM_G_TRIPMAP_MAP (i : Nat) : Fld := ⟨0x40040108 + 0x80 * i, 0, 8⟩
/-- PWM_G_CTL.OFF, bits 0 (spec/05). -/
def PWM_G_CTL_OFF (i : Nat) : Fld := ⟨0x4004010C + 0x80 * i, 0, 1⟩
/-- PWM_G_STAT.PADFLT, bits 17 (spec/05). -/
def PWM_G_STAT_PADFLT (i : Nat) : Fld := ⟨0x40040128 + 0x80 * i, 17, 1⟩
/-- PWM_G_STAT.CLAMP, bits 16 (spec/05). -/
def PWM_G_STAT_CLAMP (i : Nat) : Fld := ⟨0x40040128 + 0x80 * i, 16, 1⟩
/-- PWM_G_STAT.DROPL, bits 15:13 (spec/05). -/
def PWM_G_STAT_DROPL (i : Nat) : Fld := ⟨0x40040128 + 0x80 * i, 13, 3⟩
/-- PWM_G_STAT.DROPH, bits 12:10 (spec/05). -/
def PWM_G_STAT_DROPH (i : Nat) : Fld := ⟨0x40040128 + 0x80 * i, 10, 3⟩
/-- PWM_G_STAT.TCARRIED, bits 9 (spec/05). -/
def PWM_G_STAT_TCARRIED (i : Nat) : Fld := ⟨0x40040128 + 0x80 * i, 9, 1⟩
/-- PWM_G_STAT.TRIP, bits 8 (spec/05). -/
def PWM_G_STAT_TRIP (i : Nat) : Fld := ⟨0x40040128 + 0x80 * i, 8, 1⟩
/-- PWM_G_STAT.FORCED, bits 2 (spec/05). -/
def PWM_G_STAT_FORCED (i : Nat) : Fld := ⟨0x40040128 + 0x80 * i, 2, 1⟩
/-- PWM_G_STAT.COASTING, bits 1 (spec/05). -/
def PWM_G_STAT_COASTING (i : Nat) : Fld := ⟨0x40040128 + 0x80 * i, 1, 1⟩
/-- PWM_G_STAT.CUT, bits 0 (spec/05). -/
def PWM_G_STAT_CUT (i : Nat) : Fld := ⟨0x40040128 + 0x80 * i, 0, 1⟩
/-- PWM_G_COAST.EN, bits 0 (spec/05). -/
def PWM_G_COAST_EN (i : Nat) : Fld := ⟨0x4004012C + 0x80 * i, 0, 1⟩
/-- PWM_G_VDQ.VQ, bits 31:16 (spec/05). -/
def PWM_G_VDQ_VQ (i : Nat) : Fld := ⟨0x40040130 + 0x80 * i, 16, 16⟩
/-- PWM_G_VDQ.VD, bits 15:0 (spec/05). -/
def PWM_G_VDQ_VD (i : Nat) : Fld := ⟨0x40040130 + 0x80 * i, 0, 16⟩
/-- PWM_G_ANGLE.word, bits 31:0 (spec/05). -/
def PWM_G_ANGLE (i : Nat) : Fld := ⟨0x40040134 + 0x80 * i, 0, 32⟩
/-- PWM_G_INC.word, bits 31:0 (spec/05). -/
def PWM_G_INC (i : Nat) : Fld := ⟨0x40040138 + 0x80 * i, 0, 32⟩
/-- PWM_G_CMP.WIDTH, bits 15:0 (spec/05). -/
def PWM_G_CMP_WIDTH (i : Nat) (j : Nat) : Fld := ⟨0x40040110 + 0x80 * i + 0x4 * j, 0, 16⟩
/-- PWM_G_ACT.CARRY, bits 27:16 (spec/05). -/
def PWM_G_ACT_CARRY (i : Nat) (j : Nat) : Fld := ⟨0x4004011C + 0x80 * i + 0x4 * j, 16, 12⟩
/-- PWM_G_ACT.WIDTH, bits 15:0 (spec/05). -/
def PWM_G_ACT_WIDTH (i : Nat) (j : Nat) : Fld := ⟨0x4004011C + 0x80 * i + 0x4 * j, 0, 16⟩
/-- PWM_G_DROPCNT.word, bits 31:0 (spec/05). -/
def PWM_G_DROPCNT (i : Nat) : Fld := ⟨0x4004013C + 0x80 * i, 0, 32⟩
/-- PWM_G_TRIPCNT.word, bits 31:0 (spec/05). -/
def PWM_G_TRIPCNT (i : Nat) : Fld := ⟨0x40040140 + 0x80 * i, 0, 32⟩
/-- PWM_G_TCARCNT.word, bits 31:0 (spec/05). -/
def PWM_G_TCARCNT (i : Nat) : Fld := ⟨0x40040144 + 0x80 * i, 0, 32⟩
/-- PWM_G_CLAMPCNT.word, bits 31:0 (spec/05). -/
def PWM_G_CLAMPCNT (i : Nat) : Fld := ⟨0x40040148 + 0x80 * i, 0, 32⟩
/-- PWM_GP_CFG.PHASE, bits 31:16 (spec/05). -/
def PWM_GP_CFG_PHASE (i : Nat) : Fld := ⟨0x40040400 + 0x10 * i, 16, 16⟩
/-- PWM_GP_CFG.EN, bits 4 (spec/05). -/
def PWM_GP_CFG_EN (i : Nat) : Fld := ⟨0x40040400 + 0x10 * i, 4, 1⟩
/-- PWM_GP_CFG.SAFE, bits 3:2 (spec/05). -/
def PWM_GP_CFG_SAFE (i : Nat) : Fld := ⟨0x40040400 + 0x10 * i, 2, 2⟩
/-- PWM_GP_CFG.RATE, bits 1:0 (spec/05). -/
def PWM_GP_CFG_RATE (i : Nat) : Fld := ⟨0x40040400 + 0x10 * i, 0, 2⟩
/-- PWM_GP_DUTY.SAFEDUTY, bits 31:16 (spec/05). -/
def PWM_GP_DUTY_SAFEDUTY (i : Nat) : Fld := ⟨0x40040404 + 0x10 * i, 16, 16⟩
/-- PWM_GP_DUTY.DUTY, bits 15:0 (spec/05). -/
def PWM_GP_DUTY_DUTY (i : Nat) : Fld := ⟨0x40040404 + 0x10 * i, 0, 16⟩
/-- PWM_GP_ACT.DUTY, bits 15:0 (spec/05). -/
def PWM_GP_ACT_DUTY (i : Nat) : Fld := ⟨0x40040408 + 0x10 * i, 0, 16⟩
/-- CE_CTL.RUN, bits 0 (spec/06). -/
def CE_CTL_RUN : Fld := ⟨0x40050000, 0, 1⟩
/-- CE_STAT.BUSY, bits 7:4 (spec/06). -/
def CE_STAT_BUSY : Fld := ⟨0x40050004, 4, 4⟩
/-- CE_STAT.STOPPED, bits 0 (spec/06). -/
def CE_STAT_STOPPED : Fld := ⟨0x40050004, 0, 1⟩
/-- CE_LOOPSTAT.LOOP, bits 24:16 (spec/06). -/
def CE_LOOPSTAT_LOOP : Fld := ⟨0x40050008, 16, 9⟩
/-- CE_LOOPSTAT.RATELIM, bits 5 (spec/06). -/
def CE_LOOPSTAT_RATELIM : Fld := ⟨0x40050008, 5, 1⟩
/-- CE_LOOPSTAT.FREEZE, bits 4 (spec/06). -/
def CE_LOOPSTAT_FREEZE : Fld := ⟨0x40050008, 4, 1⟩
/-- CE_LOOPSTAT.MQBAD, bits 3 (spec/06). -/
def CE_LOOPSTAT_MQBAD : Fld := ⟨0x40050008, 3, 1⟩
/-- CE_LOOPSTAT.CONVSAT, bits 2 (spec/06). -/
def CE_LOOPSTAT_CONVSAT : Fld := ⟨0x40050008, 2, 1⟩
/-- CE_LOOPSTAT.SUMSAT, bits 1 (spec/06). -/
def CE_LOOPSTAT_SUMSAT : Fld := ⟨0x40050008, 1, 1⟩
/-- CE_LOOPSTAT.SECSAT, bits 0 (spec/06). -/
def CE_LOOPSTAT_SECSAT : Fld := ⟨0x40050008, 0, 1⟩
/-- CE_SATCNT.word, bits 31:0 (spec/06). -/
def CE_SATCNT : Fld := ⟨0x4005000C, 0, 32⟩
/-- CE_CNVCNT.word, bits 31:0 (spec/06). -/
def CE_CNVCNT : Fld := ⟨0x40050010, 0, 32⟩
/-- CE_CNTCLR.CLR, bits 1:0 (spec/06). -/
def CE_CNTCLR_CLR : Fld := ⟨0x40050014, 0, 2⟩
/-- CE_MODECMD.CLRFOLLOW, bits 16 (spec/07). -/
def CE_MODECMD_CLRFOLLOW : Fld := ⟨0x40050020, 16, 1⟩
/-- CE_MODECMD.KEEPMAN, bits 15 (spec/07). -/
def CE_MODECMD_KEEPMAN : Fld := ⟨0x40050020, 15, 1⟩
/-- CE_MODECMD.SETMODE, bits 14 (spec/07). -/
def CE_MODECMD_SETMODE : Fld := ⟨0x40050020, 14, 1⟩
/-- CE_MODECMD.MODE, bits 13:12 (spec/07). -/
def CE_MODECMD_MODE : Fld := ⟨0x40050020, 12, 2⟩
/-- CE_MODECMD.SLOT, bits 8:0 (spec/07). -/
def CE_MODECMD_SLOT : Fld := ⟨0x40050020, 0, 9⟩
/-- CE_CMDSTAT.SLOT, bits 24:16 (spec/07). -/
def CE_CMDSTAT_SLOT : Fld := ⟨0x40050024, 16, 9⟩
/-- CE_CMDSTAT.REASON, bits 7:4 (spec/07). -/
def CE_CMDSTAT_REASON : Fld := ⟨0x40050024, 4, 4⟩
/-- CE_CMDSTAT.REPLACED, bits 2 (spec/07). -/
def CE_CMDSTAT_REPLACED : Fld := ⟨0x40050024, 2, 1⟩
/-- CE_CMDSTAT.REJECTED, bits 1 (spec/07). -/
def CE_CMDSTAT_REJECTED : Fld := ⟨0x40050024, 1, 1⟩
/-- CE_CMDSTAT.TAKEN, bits 0 (spec/07). -/
def CE_CMDSTAT_TAKEN : Fld := ⟨0x40050024, 0, 1⟩
/-- CE_FOLCNT.word, bits 31:0 (spec/07). -/
def CE_FOLCNT : Fld := ⟨0x40050028, 0, 32⟩
/-- CE_CMDREJCNT.word, bits 31:0 (spec/07). -/
def CE_CMDREJCNT : Fld := ⟨0x4005002C, 0, 32⟩
/-- CE_BUMPCNT.word, bits 31:0 (spec/07). -/
def CE_BUMPCNT : Fld := ⟨0x40050030, 0, 32⟩
/-- CE_CNTCLR2.CLR, bits 2:0 (spec/07). -/
def CE_CNTCLR2_CLR : Fld := ⟨0x40050034, 0, 3⟩
/-- CE_PI_CFG.TOUT, bits 31:24 (spec/07). -/
def CE_PI_CFG_TOUT (i : Nat) : Fld := ⟨0x40050100 + 0x10 * i, 24, 8⟩
/-- CE_PI_CFG.FILT, bits 23:16 (spec/07). -/
def CE_PI_CFG_FILT (i : Nat) : Fld := ⟨0x40050100 + 0x10 * i, 16, 8⟩
/-- CE_PI_CFG.SAT, bits 9 (spec/07). -/
def CE_PI_CFG_SAT (i : Nat) : Fld := ⟨0x40050100 + 0x10 * i, 9, 1⟩
/-- CE_PI_CFG.NOSIG, bits 8 (spec/07). -/
def CE_PI_CFG_NOSIG (i : Nat) : Fld := ⟨0x40050100 + 0x10 * i, 8, 1⟩
/-- CE_PI_CFG.MODE, bits 1:0 (spec/07). -/
def CE_PI_CFG_MODE (i : Nat) : Fld := ⟨0x40050100 + 0x10 * i, 0, 2⟩
/-- CE_PI_PERIOD.word, bits 31:0 (spec/07). -/
def CE_PI_PERIOD (i : Nat) : Fld := ⟨0x40050104 + 0x10 * i, 0, 32⟩
/-- CE_PI_HIGH.word, bits 31:0 (spec/07). -/
def CE_PI_HIGH (i : Nat) : Fld := ⟨0x40050108 + 0x10 * i, 0, 32⟩
/-- CE_PI_VALUE.word, bits 31:0 (spec/07). -/
def CE_PI_VALUE (i : Nat) : Fld := ⟨0x4005010C + 0x10 * i, 0, 32⟩
/-- CE_PRNCTL.LEARN, bits 0 (spec/08). -/
def CE_PRNCTL_LEARN : Fld := ⟨0x40050040, 0, 1⟩
/-- CE_PRNCLR.GO, bits 7 (spec/08). -/
def CE_PRNCLR_GO : Fld := ⟨0x40050044, 7, 1⟩
/-- CE_PRNCLR.LINK, bits 6:0 (spec/08). -/
def CE_PRNCLR_LINK : Fld := ⟨0x40050044, 0, 7⟩
/-- CE_PRNSTAT.LINK, bits 14:8 (spec/08). -/
def CE_PRNSTAT_LINK : Fld := ⟨0x40050048, 8, 7⟩
/-- CE_PRNSTAT.TLIMHIT, bits 1 (spec/08). -/
def CE_PRNSTAT_TLIMHIT : Fld := ⟨0x40050048, 1, 1⟩
/-- CE_PRNSTAT.CLEARING, bits 0 (spec/08). -/
def CE_PRNSTAT_CLEARING : Fld := ⟨0x40050048, 0, 1⟩
/-- CE_PRNUPDCNT.word, bits 31:0 (spec/08). -/
def CE_PRNUPDCNT : Fld := ⟨0x4005004C, 0, 32⟩
/-- CE_PRNTLIMCNT.word, bits 31:0 (spec/08). -/
def CE_PRNTLIMCNT : Fld := ⟨0x40050050, 0, 32⟩
/-- CE_CNTCLR3.CLR, bits 1:0 (spec/08). -/
def CE_CNTCLR3_CLR : Fld := ⟨0x40050054, 0, 2⟩
/-- CE_DR_CMD.DIR, bits 3 (spec/09). -/
def CE_DR_CMD_DIR (i : Nat) : Fld := ⟨0x40050200 + 0x40 * i, 3, 1⟩
/-- CE_DR_CMD.FAULTCLR, bits 2 (spec/09). -/
def CE_DR_CMD_FAULTCLR (i : Nat) : Fld := ⟨0x40050200 + 0x40 * i, 2, 1⟩
/-- CE_DR_CMD.STOP, bits 1 (spec/09). -/
def CE_DR_CMD_STOP (i : Nat) : Fld := ⟨0x40050200 + 0x40 * i, 1, 1⟩
/-- CE_DR_CMD.START, bits 0 (spec/09). -/
def CE_DR_CMD_START (i : Nat) : Fld := ⟨0x40050200 + 0x40 * i, 0, 1⟩
/-- CE_DR_STAT.STARTABORT, bits 13 (spec/09). -/
def CE_DR_STAT_STARTABORT (i : Nat) : Fld := ⟨0x40050204 + 0x40 * i, 13, 1⟩
/-- CE_DR_STAT.WARMLOW, bits 12 (spec/09). -/
def CE_DR_STAT_WARMLOW (i : Nat) : Fld := ⟨0x40050204 + 0x40 * i, 12, 1⟩
/-- CE_DR_STAT.POL, bits 11 (spec/09). -/
def CE_DR_STAT_POL (i : Nat) : Fld := ⟨0x40050204 + 0x40 * i, 11, 1⟩
/-- CE_DR_STAT.VSAT, bits 10 (spec/09). -/
def CE_DR_STAT_VSAT (i : Nat) : Fld := ⟨0x40050204 + 0x40 * i, 10, 1⟩
/-- CE_DR_STAT.DERATE, bits 9 (spec/09). -/
def CE_DR_STAT_DERATE (i : Nat) : Fld := ⟨0x40050204 + 0x40 * i, 9, 1⟩
/-- CE_DR_STAT.PATTERN, bits 8 (spec/09). -/
def CE_DR_STAT_PATTERN (i : Nat) : Fld := ⟨0x40050204 + 0x40 * i, 8, 1⟩
/-- CE_DR_STAT.ANGVALID, bits 7 (spec/09). -/
def CE_DR_STAT_ANGVALID (i : Nat) : Fld := ⟨0x40050204 + 0x40 * i, 7, 1⟩
/-- CE_DR_STAT.ANGSRC, bits 5:4 (spec/09). -/
def CE_DR_STAT_ANGSRC (i : Nat) : Fld := ⟨0x40050204 + 0x40 * i, 4, 2⟩
/-- CE_DR_STAT.STATE, bits 2:0 (spec/09). -/
def CE_DR_STAT_STATE (i : Nat) : Fld := ⟨0x40050204 + 0x40 * i, 0, 3⟩
/-- CE_DR_FAULT.FIRST, bits 19:16 (spec/09). -/
def CE_DR_FAULT_FIRST (i : Nat) : Fld := ⟨0x40050208 + 0x40 * i, 16, 4⟩
/-- CE_DR_FAULT.CAUSE, bits 8:0 (spec/09). -/
def CE_DR_FAULT_CAUSE (i : Nat) : Fld := ⟨0x40050208 + 0x40 * i, 0, 9⟩
/-- CE_DR_SPEED.word, bits 31:0 (spec/09). -/
def CE_DR_SPEED (i : Nat) : Fld := ⟨0x4005020C + 0x40 * i, 0, 32⟩
/-- CE_DR_ANGLE.word, bits 31:0 (spec/09). -/
def CE_DR_ANGLE (i : Nat) : Fld := ⟨0x40050210 + 0x40 * i, 0, 32⟩
/-- CE_DR_STARTCNT.word, bits 31:0 (spec/09). -/
def CE_DR_STARTCNT (i : Nat) : Fld := ⟨0x40050214 + 0x40 * i, 0, 32⟩
/-- CE_DR_FAULTCNT.word, bits 31:0 (spec/09). -/
def CE_DR_FAULTCNT (i : Nat) : Fld := ⟨0x40050218 + 0x40 * i, 0, 32⟩
/-- CE_DR_RIPSKIP.word, bits 31:0 (spec/09). -/
def CE_DR_RIPSKIP (i : Nat) : Fld := ⟨0x4005021C + 0x40 * i, 0, 32⟩
/-- CE_DR_CNTCLR.CLR, bits 2:0 (spec/09). -/
def CE_DR_CNTCLR_CLR (i : Nat) : Fld := ⟨0x40050220 + 0x40 * i, 0, 3⟩
/-- CE_CAPCTL.STOP, bits 1 (spec/10). -/
def CE_CAPCTL_STOP : Fld := ⟨0x40050400, 1, 1⟩
/-- CE_CAPCTL.ARM, bits 0 (spec/10). -/
def CE_CAPCTL_ARM : Fld := ⟨0x40050400, 0, 1⟩
/-- CE_CAPCFG.TRG, bits 31:30 (spec/10). -/
def CE_CAPCFG_TRG : Fld := ⟨0x40050404, 30, 2⟩
/-- CE_CAPCFG.TRGGEN, bits 28:26 (spec/10). -/
def CE_CAPCFG_TRGGEN : Fld := ⟨0x40050404, 26, 3⟩
/-- CE_CAPCFG.TRGCH, bits 25:22 (spec/10). -/
def CE_CAPCFG_TRGCH : Fld := ⟨0x40050404, 22, 4⟩
/-- CE_CAPCFG.DEC, bits 15:0 (spec/10). -/
def CE_CAPCFG_DEC : Fld := ⟨0x40050404, 0, 16⟩
/-- CE_CAPEN.PRE, bits 27:16 (spec/10). -/
def CE_CAPEN_PRE : Fld := ⟨0x40050408, 16, 12⟩
/-- CE_CAPEN.CHEN, bits 15:0 (spec/10). -/
def CE_CAPEN_CHEN : Fld := ⟨0x40050408, 0, 16⟩
/-- CE_CAPTHR.word, bits 31:0 (spec/10). -/
def CE_CAPTHR : Fld := ⟨0x4005040C, 0, 32⟩
/-- CE_CAPSTAT.STATE, bits 31:30 (spec/10). -/
def CE_CAPSTAT_STATE : Fld := ⟨0x40050410, 30, 2⟩
/-- CE_CAPSTAT.WARMEND, bits 29 (spec/10). -/
def CE_CAPSTAT_WARMEND : Fld := ⟨0x40050410, 29, 1⟩
/-- CE_CAPSTAT.STOPPED, bits 28 (spec/10). -/
def CE_CAPSTAT_STOPPED : Fld := ⟨0x40050410, 28, 1⟩
/-- CE_CAPSTAT.WIDX, bits 27:16 (spec/10). -/
def CE_CAPSTAT_WIDX : Fld := ⟨0x40050410, 16, 12⟩
/-- CE_CAPSTAT.NVALID, bits 12:0 (spec/10). -/
def CE_CAPSTAT_NVALID : Fld := ⟨0x40050410, 0, 13⟩
/-- CE_CAPTRGF.word, bits 31:0 (spec/10). -/
def CE_CAPTRGF : Fld := ⟨0x40050414, 0, 32⟩
/-- CE_CAPCLIP.CLIP, bits 15:0 (spec/10). -/
def CE_CAPCLIP_CLIP : Fld := ⟨0x40050418, 0, 16⟩
/-- CE_INJCMD.STOP, bits 9 (spec/10). -/
def CE_INJCMD_STOP : Fld := ⟨0x40050480, 9, 1⟩
/-- CE_INJCMD.START, bits 8 (spec/10). -/
def CE_INJCMD_START : Fld := ⟨0x40050480, 8, 1⟩
/-- CE_INJCMD.GEN, bits 2:0 (spec/10). -/
def CE_INJCMD_GEN : Fld := ⟨0x40050480, 0, 3⟩
/-- CE_INJSTAT.ABORT, bits 23:16 (spec/10). -/
def CE_INJSTAT_ABORT : Fld := ⟨0x40050484, 16, 8⟩
/-- CE_INJSTAT.STATE, bits 15:0 (spec/10). -/
def CE_INJSTAT_STATE : Fld := ⟨0x40050484, 0, 16⟩
/-- ALM_CTL.RUN, bits 0 (spec/11). -/
def ALM_CTL_RUN : Fld := ⟨0x40060000, 0, 1⟩
/-- ALM_STAT.COST, bits 31:16 (spec/11). -/
def ALM_STAT_COST : Fld := ⟨0x40060004, 16, 16⟩
/-- ALM_STAT.RTCSET, bits 1 (spec/11). -/
def ALM_STAT_RTCSET : Fld := ⟨0x40060004, 1, 1⟩
/-- ALM_STAT.STOPPED, bits 0 (spec/11). -/
def ALM_STAT_STOPPED : Fld := ⟨0x40060004, 0, 1⟩
/-- ALM_TZ.TZ, bits 15:0 (spec/11). -/
def ALM_TZ_TZ : Fld := ⟨0x40060010, 0, 16⟩
/-- ALM_DST.EN, bits 31 (spec/11). -/
def ALM_DST_EN : Fld := ⟨0x40060014, 31, 1⟩
/-- ALM_DST.DSTOFS, bits 30:24 (spec/11). -/
def ALM_DST_DSTOFS : Fld := ⟨0x40060014, 24, 7⟩
/-- ALM_DST.EHR, bits 23:19 (spec/11). -/
def ALM_DST_EHR : Fld := ⟨0x40060014, 19, 5⟩
/-- ALM_DST.EWK, bits 18:16 (spec/11). -/
def ALM_DST_EWK : Fld := ⟨0x40060014, 16, 3⟩
/-- ALM_DST.EMON, bits 15:12 (spec/11). -/
def ALM_DST_EMON : Fld := ⟨0x40060014, 12, 4⟩
/-- ALM_DST.SHR, bits 11:7 (spec/11). -/
def ALM_DST_SHR : Fld := ⟨0x40060014, 7, 5⟩
/-- ALM_DST.SWK, bits 6:4 (spec/11). -/
def ALM_DST_SWK : Fld := ⟨0x40060014, 4, 3⟩
/-- ALM_DST.SMON, bits 3:0 (spec/11). -/
def ALM_DST_SMON : Fld := ⟨0x40060014, 0, 4⟩
/-- ALM_LOCAL.DST, bits 31 (spec/11). -/
def ALM_LOCAL_DST : Fld := ⟨0x40060018, 31, 1⟩
/-- ALM_LOCAL.DATE, bits 29:14 (spec/11). -/
def ALM_LOCAL_DATE : Fld := ⟨0x40060018, 14, 16⟩
/-- ALM_LOCAL.WDAY, bits 13:11 (spec/11). -/
def ALM_LOCAL_WDAY : Fld := ⟨0x40060018, 11, 3⟩
/-- ALM_LOCAL.MIN, bits 10:0 (spec/11). -/
def ALM_LOCAL_MIN : Fld := ⟨0x40060018, 0, 11⟩
/-- ALM_CAP.word, bits 31:0 (spec/11). -/
def ALM_CAP : Fld := ⟨0x4006001C, 0, 32⟩
/-- ALM_STAGE.N, bits 18:16 (spec/11). -/
def ALM_STAGE_N : Fld := ⟨0x40060020, 16, 3⟩
/-- ALM_STAGE.LOCK, bits 13:8 (spec/11). -/
def ALM_STAGE_LOCK : Fld := ⟨0x40060020, 8, 6⟩
/-- ALM_STAGE.RUNNING, bits 5:0 (spec/11). -/
def ALM_STAGE_RUNNING : Fld := ⟨0x40060020, 0, 6⟩
/-- ALM_ALARM.CODE, bits 31:16 (spec/11). -/
def ALM_ALARM_CODE : Fld := ⟨0x4006002C, 16, 16⟩
/-- ALM_ALARM.RULE, bits 15:8 (spec/11). -/
def ALM_ALARM_RULE : Fld := ⟨0x4006002C, 8, 8⟩
/-- ALM_ALARM.PEND, bits 0 (spec/11). -/
def ALM_ALARM_PEND : Fld := ⟨0x4006002C, 0, 1⟩
/-- ALM_CNTCLR.CLR, bits 2:0 (spec/11). -/
def ALM_CNTCLR_CLR : Fld := ⟨0x4006004C, 0, 3⟩
/-- ALM_RTC.word, bits 31:0 (spec/11). -/
def ALM_RTC : Fld := ⟨0x40060008, 0, 32⟩
/-- ALM_RTCSET.word, bits 31:0 (spec/11). -/
def ALM_RTCSET : Fld := ⟨0x4006000C, 0, 32⟩
/-- ALM_FORCE.CLEAR, bits 17 (spec/11). -/
def ALM_FORCE_CLEAR : Fld := ⟨0x40060024, 17, 1⟩
/-- ALM_FORCE.SET, bits 16 (spec/11). -/
def ALM_FORCE_SET : Fld := ⟨0x40060024, 16, 1⟩
/-- ALM_FORCE.POINT, bits 11:0 (spec/11). -/
def ALM_FORCE_POINT : Fld := ⟨0x40060024, 0, 12⟩
/-- ALM_FORCEVAL.word, bits 31:0 (spec/11). -/
def ALM_FORCEVAL : Fld := ⟨0x40060028, 0, 32⟩
/-- ALM_DICFG.FILT, bits 7:0 (spec/11). -/
def ALM_DICFG_FILT : Fld := ⟨0x40060030, 0, 8⟩
/-- ALM_DISTAT.DI, bits 15:0 (spec/11). -/
def ALM_DISTAT_DI : Fld := ⟨0x40060034, 0, 16⟩
/-- ALM_FIRECNT.word, bits 31:0 (spec/11). -/
def ALM_FIRECNT : Fld := ⟨0x40060040, 0, 32⟩
/-- ALM_ACTFAILCNT.word, bits 31:0 (spec/11). -/
def ALM_ACTFAILCNT : Fld := ⟨0x40060044, 0, 32⟩
/-- ALM_STGREJCNT.word, bits 31:0 (spec/11). -/
def ALM_STGREJCNT : Fld := ⟨0x40060048, 0, 32⟩
/-- CAN_CTL.FDTX, bits 31 (spec/12). -/
def CAN_CTL_FDTX (i : Nat) : Fld := ⟨0x40070000 + 0x8000 * i, 31, 1⟩
/-- CAN_CTL.ZPTX, bits 30:24 (spec/12). -/
def CAN_CTL_ZPTX (i : Nat) : Fld := ⟨0x40070000 + 0x8000 * i, 24, 7⟩
/-- CAN_CTL.ALONETH, bits 23:16 (spec/12). -/
def CAN_CTL_ALONETH (i : Nat) : Fld := ⟨0x40070000 + 0x8000 * i, 16, 8⟩
/-- CAN_CTL.Q1OWN, bits 7 (spec/12). -/
def CAN_CTL_Q1OWN (i : Nat) : Fld := ⟨0x40070000 + 0x8000 * i, 7, 1⟩
/-- CAN_CTL.Q0OWN, bits 6 (spec/12). -/
def CAN_CTL_Q0OWN (i : Nat) : Fld := ⟨0x40070000 + 0x8000 * i, 6, 1⟩
/-- CAN_CTL.PXHD, bits 5 (spec/12). -/
def CAN_CTL_PXHD (i : Nat) : Fld := ⟨0x40070000 + 0x8000 * i, 5, 1⟩
/-- CAN_CTL.FDOE, bits 4 (spec/12). -/
def CAN_CTL_FDOE (i : Nat) : Fld := ⟨0x40070000 + 0x8000 * i, 4, 1⟩
/-- CAN_CTL.LOM, bits 3 (spec/12). -/
def CAN_CTL_LOM (i : Nat) : Fld := ⟨0x40070000 + 0x8000 * i, 3, 1⟩
/-- CAN_CTL.AUTO, bits 2 (spec/12). -/
def CAN_CTL_AUTO (i : Nat) : Fld := ⟨0x40070000 + 0x8000 * i, 2, 1⟩
/-- CAN_CTL.EN, bits 0 (spec/12). -/
def CAN_CTL_EN (i : Nat) : Fld := ⟨0x40070000 + 0x8000 * i, 0, 1⟩
/-- CAN_STAT.TDCSAT, bits 15 (spec/12). -/
def CAN_STAT_TDCSAT (i : Nat) : Fld := ⟨0x40070004 + 0x8000 * i, 15, 1⟩
/-- CAN_STAT.WARN, bits 14 (spec/12). -/
def CAN_STAT_WARN (i : Nat) : Fld := ⟨0x40070004 + 0x8000 * i, 14, 1⟩
/-- CAN_STAT.ALONE, bits 13 (spec/12). -/
def CAN_STAT_ALONE (i : Nat) : Fld := ⟨0x40070004 + 0x8000 * i, 13, 1⟩
/-- CAN_STAT.ERRST, bits 9:8 (spec/12). -/
def CAN_STAT_ERRST (i : Nat) : Fld := ⟨0x40070004 + 0x8000 * i, 8, 2⟩
/-- CAN_STAT.LISTEN, bits 3 (spec/12). -/
def CAN_STAT_LISTEN (i : Nat) : Fld := ⟨0x40070004 + 0x8000 * i, 3, 1⟩
/-- CAN_STAT.STATE, bits 2:0 (spec/12). -/
def CAN_STAT_STATE (i : Nat) : Fld := ⟨0x40070004 + 0x8000 * i, 0, 3⟩
/-- CAN_ERRCNT.TEC, bits 24:16 (spec/12). -/
def CAN_ERRCNT_TEC (i : Nat) : Fld := ⟨0x40070008 + 0x8000 * i, 16, 9⟩
/-- CAN_ERRCNT.REC, bits 7:0 (spec/12). -/
def CAN_ERRCNT_REC (i : Nat) : Fld := ⟨0x40070008 + 0x8000 * i, 0, 8⟩
/-- CAN_NBT.NSJW, bits 30:24 (spec/12). -/
def CAN_NBT_NSJW (i : Nat) : Fld := ⟨0x4007000C + 0x8000 * i, 24, 7⟩
/-- CAN_NBT.NTSEG2, bits 22:16 (spec/12). -/
def CAN_NBT_NTSEG2 (i : Nat) : Fld := ⟨0x4007000C + 0x8000 * i, 16, 7⟩
/-- CAN_NBT.NTSEG1, bits 15:8 (spec/12). -/
def CAN_NBT_NTSEG1 (i : Nat) : Fld := ⟨0x4007000C + 0x8000 * i, 8, 8⟩
/-- CAN_NBT.NBRP, bits 7:0 (spec/12). -/
def CAN_NBT_NBRP (i : Nat) : Fld := ⟨0x4007000C + 0x8000 * i, 0, 8⟩
/-- CAN_DBT.DSJW, bits 27:24 (spec/12). -/
def CAN_DBT_DSJW (i : Nat) : Fld := ⟨0x40070010 + 0x8000 * i, 24, 4⟩
/-- CAN_DBT.DTSEG2, bits 19:16 (spec/12). -/
def CAN_DBT_DTSEG2 (i : Nat) : Fld := ⟨0x40070010 + 0x8000 * i, 16, 4⟩
/-- CAN_DBT.DTSEG1, bits 12:8 (spec/12). -/
def CAN_DBT_DTSEG1 (i : Nat) : Fld := ⟨0x40070010 + 0x8000 * i, 8, 5⟩
/-- CAN_DBT.DBRP, bits 4:0 (spec/12). -/
def CAN_DBT_DBRP (i : Nat) : Fld := ⟨0x40070010 + 0x8000 * i, 0, 5⟩
/-- CAN_TDC.TDCEN, bits 31 (spec/12). -/
def CAN_TDC_TDCEN (i : Nat) : Fld := ⟨0x40070014 + 0x8000 * i, 31, 1⟩
/-- CAN_TDC.TDCV, bits 22:16 (spec/12). -/
def CAN_TDC_TDCV (i : Nat) : Fld := ⟨0x40070014 + 0x8000 * i, 16, 7⟩
/-- CAN_TDC.TDCO, bits 6:0 (spec/12). -/
def CAN_TDC_TDCO (i : Nat) : Fld := ⟨0x40070014 + 0x8000 * i, 0, 7⟩
/-- CAN_RECOVER.GO, bits 0 (spec/12). -/
def CAN_RECOVER_GO (i : Nat) : Fld := ⟨0x40070020 + 0x8000 * i, 0, 1⟩
/-- CAN_CNTCLR.CLR, bits 6:0 (spec/12). -/
def CAN_CNTCLR_CLR (i : Nat) : Fld := ⟨0x400700CC + 0x8000 * i, 0, 7⟩
/-- CAN_ADCFG.DWAIT, bits 7:0 (spec/12). -/
def CAN_ADCFG_DWAIT (i : Nat) : Fld := ⟨0x40070018 + 0x8000 * i, 0, 8⟩
/-- CAN_ADSTAT.ROUNDS, bits 31:16 (spec/12). -/
def CAN_ADSTAT_ROUNDS (i : Nat) : Fld := ⟨0x4007001C + 0x8000 * i, 16, 16⟩
/-- CAN_ADSTAT.DRATE, bits 7:4 (spec/12). -/
def CAN_ADSTAT_DRATE (i : Nat) : Fld := ⟨0x4007001C + 0x8000 * i, 4, 4⟩
/-- CAN_ADSTAT.NRATE, bits 3:0 (spec/12). -/
def CAN_ADSTAT_NRATE (i : Nat) : Fld := ⟨0x4007001C + 0x8000 * i, 0, 4⟩
/-- CAN_TXREQ.word, bits 31:0 (spec/12). -/
def CAN_TXREQ (i : Nat) (j : Nat) : Fld := ⟨0x40070030 + 0x8000 * i + 0x4 * j, 0, 32⟩
/-- CAN_TXCAN.word, bits 31:0 (spec/12). -/
def CAN_TXCAN (i : Nat) (j : Nat) : Fld := ⟨0x40070040 + 0x8000 * i + 0x4 * j, 0, 32⟩
/-- CAN_TXPEND.word, bits 31:0 (spec/12). -/
def CAN_TXPEND (i : Nat) (j : Nat) : Fld := ⟨0x40070050 + 0x8000 * i + 0x4 * j, 0, 32⟩
/-- CAN_TXPARK.word, bits 31:0 (spec/12). -/
def CAN_TXPARK (i : Nat) (j : Nat) : Fld := ⟨0x40070060 + 0x8000 * i + 0x4 * j, 0, 32⟩
/-- CAN_Q_STAT.ARRSEQ, bits 31:16 (spec/12). -/
def CAN_Q_STAT_ARRSEQ (i : Nat) (j : Nat) : Fld := ⟨0x40070080 + 0x8000 * i + 0x10 * j, 16, 16⟩
/-- CAN_Q_STAT.NOWNED, bits 14:8 (spec/12). -/
def CAN_Q_STAT_NOWNED (i : Nat) (j : Nat) : Fld := ⟨0x40070080 + 0x8000 * i + 0x10 * j, 8, 7⟩
/-- CAN_Q_STAT.WIDX, bits 5:0 (spec/12). -/
def CAN_Q_STAT_WIDX (i : Nat) (j : Nat) : Fld := ⟨0x40070080 + 0x8000 * i + 0x10 * j, 0, 6⟩
/-- CAN_Q_ACK.IDX, bits 5:0 (spec/12). -/
def CAN_Q_ACK_IDX (i : Nat) (j : Nat) : Fld := ⟨0x40070084 + 0x8000 * i + 0x10 * j, 0, 6⟩
/-- CAN_Q_OWN0.word, bits 31:0 (spec/12). -/
def CAN_Q_OWN0 (i : Nat) (j : Nat) : Fld := ⟨0x40070088 + 0x8000 * i + 0x10 * j, 0, 32⟩
/-- CAN_Q_OWN1.word, bits 31:0 (spec/12). -/
def CAN_Q_OWN1 (i : Nat) (j : Nat) : Fld := ⟨0x4007008C + 0x8000 * i + 0x10 * j, 0, 32⟩
/-- CAN_IRQST.PEX, bits 10 (spec/12). -/
def CAN_IRQST_PEX (i : Nat) : Fld := ⟨0x400700A0 + 0x8000 * i, 10, 1⟩
/-- CAN_IRQST.DET, bits 9 (spec/12). -/
def CAN_IRQST_DET (i : Nat) : Fld := ⟨0x400700A0 + 0x8000 * i, 9, 1⟩
/-- CAN_IRQST.ALONE, bits 8 (spec/12). -/
def CAN_IRQST_ALONE (i : Nat) : Fld := ⟨0x400700A0 + 0x8000 * i, 8, 1⟩
/-- CAN_IRQST.BUSOFF, bits 7 (spec/12). -/
def CAN_IRQST_BUSOFF (i : Nat) : Fld := ⟨0x400700A0 + 0x8000 * i, 7, 1⟩
/-- CAN_IRQST.ERRST, bits 6 (spec/12). -/
def CAN_IRQST_ERRST (i : Nat) : Fld := ⟨0x400700A0 + 0x8000 * i, 6, 1⟩
/-- CAN_IRQST.TXEND, bits 5 (spec/12). -/
def CAN_IRQST_TXEND (i : Nat) : Fld := ⟨0x400700A0 + 0x8000 * i, 5, 1⟩
/-- CAN_IRQST.TXDONE, bits 4 (spec/12). -/
def CAN_IRQST_TXDONE (i : Nat) : Fld := ⟨0x400700A0 + 0x8000 * i, 4, 1⟩
/-- CAN_IRQST.QDROP, bits 3 (spec/12). -/
def CAN_IRQST_QDROP (i : Nat) : Fld := ⟨0x400700A0 + 0x8000 * i, 3, 1⟩
/-- CAN_IRQST.Q1, bits 2 (spec/12). -/
def CAN_IRQST_Q1 (i : Nat) : Fld := ⟨0x400700A0 + 0x8000 * i, 2, 1⟩
/-- CAN_IRQST.Q0, bits 1 (spec/12). -/
def CAN_IRQST_Q0 (i : Nat) : Fld := ⟨0x400700A0 + 0x8000 * i, 1, 1⟩
/-- CAN_IRQST.RXOBJ, bits 0 (spec/12). -/
def CAN_IRQST_RXOBJ (i : Nat) : Fld := ⟨0x400700A0 + 0x8000 * i, 0, 1⟩
/-- CAN_IRQEN.PEX, bits 10 (spec/12). -/
def CAN_IRQEN_PEX (i : Nat) : Fld := ⟨0x400700A4 + 0x8000 * i, 10, 1⟩
/-- CAN_IRQEN.DET, bits 9 (spec/12). -/
def CAN_IRQEN_DET (i : Nat) : Fld := ⟨0x400700A4 + 0x8000 * i, 9, 1⟩
/-- CAN_IRQEN.ALONE, bits 8 (spec/12). -/
def CAN_IRQEN_ALONE (i : Nat) : Fld := ⟨0x400700A4 + 0x8000 * i, 8, 1⟩
/-- CAN_IRQEN.BUSOFF, bits 7 (spec/12). -/
def CAN_IRQEN_BUSOFF (i : Nat) : Fld := ⟨0x400700A4 + 0x8000 * i, 7, 1⟩
/-- CAN_IRQEN.ERRST, bits 6 (spec/12). -/
def CAN_IRQEN_ERRST (i : Nat) : Fld := ⟨0x400700A4 + 0x8000 * i, 6, 1⟩
/-- CAN_IRQEN.TXEND, bits 5 (spec/12). -/
def CAN_IRQEN_TXEND (i : Nat) : Fld := ⟨0x400700A4 + 0x8000 * i, 5, 1⟩
/-- CAN_IRQEN.TXDONE, bits 4 (spec/12). -/
def CAN_IRQEN_TXDONE (i : Nat) : Fld := ⟨0x400700A4 + 0x8000 * i, 4, 1⟩
/-- CAN_IRQEN.QDROP, bits 3 (spec/12). -/
def CAN_IRQEN_QDROP (i : Nat) : Fld := ⟨0x400700A4 + 0x8000 * i, 3, 1⟩
/-- CAN_IRQEN.Q1, bits 2 (spec/12). -/
def CAN_IRQEN_Q1 (i : Nat) : Fld := ⟨0x400700A4 + 0x8000 * i, 2, 1⟩
/-- CAN_IRQEN.Q0, bits 1 (spec/12). -/
def CAN_IRQEN_Q0 (i : Nat) : Fld := ⟨0x400700A4 + 0x8000 * i, 1, 1⟩
/-- CAN_IRQEN.RXOBJ, bits 0 (spec/12). -/
def CAN_IRQEN_RXOBJ (i : Nat) : Fld := ⟨0x400700A4 + 0x8000 * i, 0, 1⟩
/-- CAN_Q0DROPCNT.word, bits 31:0 (spec/12). -/
def CAN_Q0DROPCNT (i : Nat) : Fld := ⟨0x400700B0 + 0x8000 * i, 0, 32⟩
/-- CAN_Q1DROPCNT.word, bits 31:0 (spec/12). -/
def CAN_Q1DROPCNT (i : Nat) : Fld := ⟨0x400700B4 + 0x8000 * i, 0, 32⟩
/-- CAN_OVWCNT.word, bits 31:0 (spec/12). -/
def CAN_OVWCNT (i : Nat) : Fld := ⟨0x400700B8 + 0x8000 * i, 0, 32⟩
/-- CAN_NOMATCHCNT.word, bits 31:0 (spec/12). -/
def CAN_NOMATCHCNT (i : Nat) : Fld := ⟨0x400700BC + 0x8000 * i, 0, 32⟩
/-- CAN_BUSOFFCNT.word, bits 31:0 (spec/12). -/
def CAN_BUSOFFCNT (i : Nat) : Fld := ⟨0x400700C0 + 0x8000 * i, 0, 32⟩
/-- CAN_PEXCNT.word, bits 31:0 (spec/12). -/
def CAN_PEXCNT (i : Nat) : Fld := ⟨0x400700C4 + 0x8000 * i, 0, 32⟩
/-- CAN_LATECNT.word, bits 31:0 (spec/12). -/
def CAN_LATECNT (i : Nat) : Fld := ⟨0x400700C8 + 0x8000 * i, 0, 32⟩
/-- CAN_F_MATCH.RTR, bits 30 (spec/12). -/
def CAN_F_MATCH_RTR (i : Nat) (j : Nat) : Fld := ⟨0x40070800 + 0x8000 * i + 0x8 * j, 30, 1⟩
/-- CAN_F_MATCH.IDE, bits 29 (spec/12). -/
def CAN_F_MATCH_IDE (i : Nat) (j : Nat) : Fld := ⟨0x40070800 + 0x8000 * i + 0x8 * j, 29, 1⟩
/-- CAN_F_MATCH.ID, bits 28:0 (spec/12). -/
def CAN_F_MATCH_ID (i : Nat) (j : Nat) : Fld := ⟨0x40070800 + 0x8000 * i + 0x8 * j, 0, 29⟩
/-- CAN_F_MASK.ACTION, bits 31:30 (spec/12). -/
def CAN_F_MASK_ACTION (i : Nat) (j : Nat) : Fld := ⟨0x40070804 + 0x8000 * i + 0x8 * j, 30, 2⟩
/-- CAN_F_MASK.IDEM, bits 29 (spec/12). -/
def CAN_F_MASK_IDEM (i : Nat) (j : Nat) : Fld := ⟨0x40070804 + 0x8000 * i + 0x8 * j, 29, 1⟩
/-- CAN_F_MASK.IDM, bits 28:0 (spec/12). -/
def CAN_F_MASK_IDM (i : Nat) (j : Nat) : Fld := ⟨0x40070804 + 0x8000 * i + 0x8 * j, 0, 29⟩
/-- ZP_CTL.EN1, bits 1 (spec/13). -/
def ZP_CTL_EN1 : Fld := ⟨0x40080000, 1, 1⟩
/-- ZP_CTL.EN0, bits 0 (spec/13). -/
def ZP_CTL_EN0 : Fld := ⟨0x40080000, 0, 1⟩
/-- ZP_CFG.LOSTTO, bits 31:24 (spec/13). -/
def ZP_CFG_LOSTTO : Fld := ⟨0x40080004, 24, 8⟩
/-- ZP_CFG.ROLLPER, bits 23:16 (spec/13). -/
def ZP_CFG_ROLLPER : Fld := ⟨0x40080004, 16, 8⟩
/-- ZP_CFG.MAXLEN, bits 15:8 (spec/13). -/
def ZP_CFG_MAXLEN : Fld := ⟨0x40080004, 8, 8⟩
/-- ZP_CFG.BRSEN, bits 3 (spec/13). -/
def ZP_CFG_BRSEN : Fld := ⟨0x40080004, 3, 1⟩
/-- ZP_CFG.VERS, bits 2:0 (spec/13). -/
def ZP_CFG_VERS : Fld := ⟨0x40080004, 0, 3⟩
/-- ZP_NODE.NODE1, bits 14:8 (spec/13). -/
def ZP_NODE_NODE1 : Fld := ⟨0x40080008, 8, 7⟩
/-- ZP_NODE.NODE0, bits 6:0 (spec/13). -/
def ZP_NODE_NODE0 : Fld := ⟨0x40080008, 0, 7⟩
/-- ZP_TIME.TIMENODE, bits 22:16 (spec/13). -/
def ZP_TIME_TIMENODE : Fld := ⟨0x4008000C, 16, 7⟩
/-- ZP_TIME.TIMEBUS, bits 9 (spec/13). -/
def ZP_TIME_TIMEBUS : Fld := ⟨0x4008000C, 9, 1⟩
/-- ZP_TIME.TIMEACC, bits 8 (spec/13). -/
def ZP_TIME_TIMEACC : Fld := ⟨0x4008000C, 8, 1⟩
/-- ZP_TIME.TIMEPER, bits 7:0 (spec/13). -/
def ZP_TIME_TIMEPER : Fld := ⟨0x4008000C, 0, 8⟩
/-- ZP_FDSTAT.HOLD1, bits 31:24 (spec/13). -/
def ZP_FDSTAT_HOLD1 : Fld := ⟨0x40080010, 24, 8⟩
/-- ZP_FDSTAT.HOLD0, bits 23:16 (spec/13). -/
def ZP_FDSTAT_HOLD0 : Fld := ⟨0x40080010, 16, 8⟩
/-- ZP_FDSTAT.FD1, bits 1 (spec/13). -/
def ZP_FDSTAT_FD1 : Fld := ⟨0x40080010, 1, 1⟩
/-- ZP_FDSTAT.FD0, bits 0 (spec/13). -/
def ZP_FDSTAT_FD0 : Fld := ⟨0x40080010, 0, 1⟩
/-- ZP_LASTVIOL.CODE, bits 31:24 (spec/13). -/
def ZP_LASTVIOL_CODE : Fld := ⟨0x40080040, 24, 8⟩
/-- ZP_LASTVIOL.TYPE, bits 20:16 (spec/13). -/
def ZP_LASTVIOL_TYPE : Fld := ⟨0x40080040, 16, 5⟩
/-- ZP_LASTVIOL.BUS, bits 8 (spec/13). -/
def ZP_LASTVIOL_BUS : Fld := ⟨0x40080040, 8, 1⟩
/-- ZP_LASTVIOL.NODE, bits 6:0 (spec/13). -/
def ZP_LASTVIOL_NODE : Fld := ⟨0x40080040, 0, 7⟩
/-- ZP_CNTCLR.CLR, bits 9:0 (spec/13). -/
def ZP_CNTCLR_CLR : Fld := ⟨0x40080078, 0, 10⟩
/-- ZP_MGMTEN.word, bits 31:0 (spec/13). -/
def ZP_MGMTEN (i : Nat) (j : Nat) : Fld := ⟨0x40080020 + 0x10 * i + 0x4 * j, 0, 32⟩
/-- ZP_VIOLCNT.word, bits 31:0 (spec/13). -/
def ZP_VIOLCNT : Fld := ⟨0x40080050, 0, 32⟩
/-- ZP_QUARCNT.word, bits 31:0 (spec/13). -/
def ZP_QUARCNT : Fld := ⟨0x40080054, 0, 32⟩
/-- ZP_NAKRXCNT.word, bits 31:0 (spec/13). -/
def ZP_NAKRXCNT : Fld := ⟨0x40080058, 0, 32⟩
/-- ZP_NAKSUPCNT.word, bits 31:0 (spec/13). -/
def ZP_NAKSUPCNT : Fld := ⟨0x4008005C, 0, 32⟩
/-- ZP_JOINFAILCNT.word, bits 31:0 (spec/13). -/
def ZP_JOINFAILCNT : Fld := ⟨0x40080060, 0, 32⟩
/-- ZP_LOSTCNT.word, bits 31:0 (spec/13). -/
def ZP_LOSTCNT : Fld := ⟨0x40080064, 0, 32⟩
/-- ZP_NOPTCNT.word, bits 31:0 (spec/13). -/
def ZP_NOPTCNT : Fld := ⟨0x40080068, 0, 32⟩
/-- ZP_TXDROPCNT.word, bits 31:0 (spec/13). -/
def ZP_TXDROPCNT : Fld := ⟨0x4008006C, 0, 32⟩
/-- ZP_MGMTREFCNT.word, bits 31:0 (spec/13). -/
def ZP_MGMTREFCNT : Fld := ⟨0x40080070, 0, 32⟩
/-- ZP_BADSRCCNT.word, bits 31:0 (spec/13). -/
def ZP_BADSRCCNT : Fld := ⟨0x40080074, 0, 32⟩
/-- ZP_PT0.HEARD, bits 31:24 (spec/13). -/
def ZP_PT0_HEARD (i : Nat) (j : Nat) : Fld := ⟨0x40081000 + 0x400 * i + 0x8 * j, 24, 8⟩
/-- ZP_PT0.CLASS, bits 23:16 (spec/13). -/
def ZP_PT0_CLASS (i : Nat) (j : Nat) : Fld := ⟨0x40081000 + 0x400 * i + 0x8 * j, 16, 8⟩
/-- ZP_PT0.LEN, bits 15:8 (spec/13). -/
def ZP_PT0_LEN (i : Nat) (j : Nat) : Fld := ⟨0x40081000 + 0x400 * i + 0x8 * j, 8, 8⟩
/-- ZP_PT0.VER, bits 7:6 (spec/13). -/
def ZP_PT0_VER (i : Nat) (j : Nat) : Fld := ⟨0x40081000 + 0x400 * i + 0x8 * j, 6, 2⟩
/-- ZP_PT0.BRS, bits 5 (spec/13). -/
def ZP_PT0_BRS (i : Nat) (j : Nat) : Fld := ⟨0x40081000 + 0x400 * i + 0x8 * j, 5, 1⟩
/-- ZP_PT0.FDUSE, bits 4 (spec/13). -/
def ZP_PT0_FDUSE (i : Nat) (j : Nat) : Fld := ⟨0x40081000 + 0x400 * i + 0x8 * j, 4, 1⟩
/-- ZP_PT0.FDTOL, bits 3 (spec/13). -/
def ZP_PT0_FDTOL (i : Nat) (j : Nat) : Fld := ⟨0x40081000 + 0x400 * i + 0x8 * j, 3, 1⟩
/-- ZP_PT0.STATE, bits 2:0 (spec/13). -/
def ZP_PT0_STATE (i : Nat) (j : Nat) : Fld := ⟨0x40081000 + 0x400 * i + 0x8 * j, 0, 3⟩
/-- ZP_PT1.QLEFT, bits 25:16 (spec/13). -/
def ZP_PT1_QLEFT (i : Nat) (j : Nat) : Fld := ⟨0x40081004 + 0x400 * i + 0x8 * j, 16, 10⟩
/-- ZP_PT1.VIOL, bits 4:0 (spec/13). -/
def ZP_PT1_VIOL (i : Nat) (j : Nat) : Fld := ⟨0x40081004 + 0x400 * i + 0x8 * j, 0, 5⟩
/-- ZP_BIND0.BCAST, bits 25 (spec/13). -/
def ZP_BIND0_BCAST (i : Nat) : Fld := ⟨0x40084000 + 0x10 * i, 25, 1⟩
/-- ZP_BIND0.EN, bits 24 (spec/13). -/
def ZP_BIND0_EN (i : Nat) : Fld := ⟨0x40084000 + 0x10 * i, 24, 1⟩
/-- ZP_BIND0.BUS, bits 23 (spec/13). -/
def ZP_BIND0_BUS (i : Nat) : Fld := ⟨0x40084000 + 0x10 * i, 23, 1⟩
/-- ZP_BIND0.NODE, bits 22:16 (spec/13). -/
def ZP_BIND0_NODE (i : Nat) : Fld := ⟨0x40084000 + 0x10 * i, 16, 7⟩
/-- ZP_BIND0.POINT, bits 11:0 (spec/13). -/
def ZP_BIND0_POINT (i : Nat) : Fld := ⟨0x40084000 + 0x10 * i, 0, 12⟩
/-- ZP_BIND1.AGE, bits 31:24 (spec/13). -/
def ZP_BIND1_AGE (i : Nat) : Fld := ⟨0x40084004 + 0x10 * i, 24, 8⟩
/-- ZP_BIND1.PERIOD, bits 23:16 (spec/13). -/
def ZP_BIND1_PERIOD (i : Nat) : Fld := ⟨0x40084004 + 0x10 * i, 16, 8⟩
/-- ZP_BIND1.PID, bits 15:0 (spec/13). -/
def ZP_BIND1_PID (i : Nat) : Fld := ⟨0x40084004 + 0x10 * i, 0, 16⟩
/-- ZP_BIND2.word, bits 31:0 (spec/13). -/
def ZP_BIND2 (i : Nat) : Fld := ⟨0x40084008 + 0x10 * i, 0, 32⟩
/-- ZP_BIND3.word, bits 31:0 (spec/13). -/
def ZP_BIND3 (i : Nat) : Fld := ⟨0x4008400C + 0x10 * i, 0, 32⟩
/-- PAIR_CFG.STALETO, bits 31:24 (spec/14). -/
def PAIR_CFG_STALETO : Fld := ⟨0x40090000, 24, 8⟩
/-- PAIR_CFG.MIRMAX, bits 23:16 (spec/14). -/
def PAIR_CFG_MIRMAX : Fld := ⟨0x40090000, 16, 8⟩
/-- PAIR_CFG.LINKTO, bits 15:8 (spec/14). -/
def PAIR_CFG_LINKTO : Fld := ⟨0x40090000, 8, 8⟩
/-- PAIR_CFG.LVERS, bits 3:2 (spec/14). -/
def PAIR_CFG_LVERS : Fld := ⟨0x40090000, 2, 2⟩
/-- PAIR_CFG.MODE, bits 1:0 (spec/14). -/
def PAIR_CFG_MODE : Fld := ⟨0x40090000, 0, 2⟩
/-- PAIR_STAT.MIRAGE, bits 31:24 (spec/14). -/
def PAIR_STAT_MIRAGE : Fld := ⟨0x40090004, 24, 8⟩
/-- PAIR_STAT.PEERSTATE, bits 23:21 (spec/14). -/
def PAIR_STAT_PEERSTATE : Fld := ⟨0x40090004, 21, 3⟩
/-- PAIR_STAT.LINKUP, bits 20 (spec/14). -/
def PAIR_STAT_LINKUP : Fld := ⟨0x40090004, 20, 1⟩
/-- PAIR_STAT.LANES, bits 19 (spec/14). -/
def PAIR_STAT_LANES : Fld := ⟨0x40090004, 19, 1⟩
/-- PAIR_STAT.LVER, bits 18 (spec/14). -/
def PAIR_STAT_LVER : Fld := ⟨0x40090004, 18, 1⟩
/-- PAIR_STAT.RATE, bits 17 (spec/14). -/
def PAIR_STAT_RATE : Fld := ⟨0x40090004, 17, 1⟩
/-- PAIR_STAT.SELIN, bits 16 (spec/14). -/
def PAIR_STAT_SELIN : Fld := ⟨0x40090004, 16, 1⟩
/-- PAIR_STAT.SELREF, bits 12 (spec/14). -/
def PAIR_STAT_SELREF : Fld := ⟨0x40090004, 12, 1⟩
/-- PAIR_STAT.DUAL, bits 11 (spec/14). -/
def PAIR_STAT_DUAL : Fld := ⟨0x40090004, 11, 1⟩
/-- PAIR_STAT.MISMATCH, bits 10 (spec/14). -/
def PAIR_STAT_MISMATCH : Fld := ⟨0x40090004, 10, 1⟩
/-- PAIR_STAT.COLD, bits 9 (spec/14). -/
def PAIR_STAT_COLD : Fld := ⟨0x40090004, 9, 1⟩
/-- PAIR_STAT.STALE, bits 8 (spec/14). -/
def PAIR_STAT_STALE : Fld := ⟨0x40090004, 8, 1⟩
/-- PAIR_STAT.STATE, bits 2:0 (spec/14). -/
def PAIR_STAT_STATE : Fld := ⟨0x40090004, 0, 3⟩
/-- PAIR_HEALTH.PEER, bits 15:8 (spec/14). -/
def PAIR_HEALTH_PEER : Fld := ⟨0x40090008, 8, 8⟩
/-- PAIR_HEALTH.OWN, bits 7:0 (spec/14). -/
def PAIR_HEALTH_OWN : Fld := ⟨0x40090008, 0, 8⟩
/-- PAIR_SWAP.REQ, bits 0 (spec/14). -/
def PAIR_SWAP_REQ : Fld := ⟨0x4009000C, 0, 1⟩
/-- PAIR_CKNUM.word, bits 31:0 (spec/14). -/
def PAIR_CKNUM : Fld := ⟨0x40090018, 0, 32⟩
/-- PAIR_CKAGE.RECS, bits 31:16 (spec/14). -/
def PAIR_CKAGE_RECS : Fld := ⟨0x4009001C, 16, 16⟩
/-- PAIR_CKAGE.AGE, bits 15:0 (spec/14). -/
def PAIR_CKAGE_AGE : Fld := ⟨0x4009001C, 0, 16⟩
/-- PAIR_TESTSTAT.CYCLES, bits 31:16 (spec/14). -/
def PAIR_TESTSTAT_CYCLES : Fld := ⟨0x40090020, 16, 16⟩
/-- PAIR_TESTSTAT.PWMNEXT, bits 14:12 (spec/14). -/
def PAIR_TESTSTAT_PWMNEXT : Fld := ⟨0x40090020, 12, 3⟩
/-- PAIR_TESTSTAT.CORENEXT, bits 11:8 (spec/14). -/
def PAIR_TESTSTAT_CORENEXT : Fld := ⟨0x40090020, 8, 4⟩
/-- PAIR_TESTSTAT.FAIL, bits 3:0 (spec/14). -/
def PAIR_TESTSTAT_FAIL : Fld := ⟨0x40090020, 0, 4⟩
/-- PAIR_MISMATCH.FIELD, bits 5:0 (spec/14). -/
def PAIR_MISMATCH_FIELD : Fld := ⟨0x40090024, 0, 6⟩
/-- PAIR_CNTCLR.CLR, bits 5:0 (spec/14). -/
def PAIR_CNTCLR_CLR : Fld := ⟨0x40090058, 0, 6⟩
/-- PAIR_FAILMASK.MASK, bits 7:0 (spec/14). -/
def PAIR_FAILMASK_MASK : Fld := ⟨0x40090010, 0, 8⟩
/-- PAIR_FAILSRC.SRC, bits 7:0 (spec/14). -/
def PAIR_FAILSRC_SRC : Fld := ⟨0x40090014, 0, 8⟩
/-- PAIR_CRCCNT.word, bits 31:0 (spec/14). -/
def PAIR_CRCCNT : Fld := ⟨0x40090040, 0, 32⟩
/-- PAIR_LINKDOWNCNT.word, bits 31:0 (spec/14). -/
def PAIR_LINKDOWNCNT : Fld := ⟨0x40090044, 0, 32⟩
/-- PAIR_TAKEOVERCNT.word, bits 31:0 (spec/14). -/
def PAIR_TAKEOVERCNT : Fld := ⟨0x40090048, 0, 32⟩
/-- PAIR_CKDROPCNT.word, bits 31:0 (spec/14). -/
def PAIR_CKDROPCNT : Fld := ⟨0x4009004C, 0, 32⟩
/-- PAIR_MIRLOSTCNT.word, bits 31:0 (spec/14). -/
def PAIR_MIRLOSTCNT : Fld := ⟨0x40090050, 0, 32⟩
/-- PAIR_MGMTTOCNT.word, bits 31:0 (spec/14). -/
def PAIR_MGMTTOCNT : Fld := ⟨0x40090054, 0, 32⟩
/-- PAIR_PLANA.KIND, bits 31:28 (spec/14). -/
def PAIR_PLANA_KIND (i : Nat) : Fld := ⟨0x40090400 + 0x8 * i, 28, 4⟩
/-- PAIR_PLANA.COUNT, bits 27:16 (spec/14). -/
def PAIR_PLANA_COUNT (i : Nat) : Fld := ⟨0x40090400 + 0x8 * i, 16, 12⟩
/-- PAIR_PLANA.FIRST, bits 11:0 (spec/14). -/
def PAIR_PLANA_FIRST (i : Nat) : Fld := ⟨0x40090400 + 0x8 * i, 0, 12⟩
/-- PAIR_PLANB.VOFS, bits 15:0 (spec/14). -/
def PAIR_PLANB_VOFS (i : Nat) : Fld := ⟨0x40090404 + 0x8 * i, 0, 16⟩
/-- FOL_STAT.PFI, bits 15 (spec/15). -/
def FOL_STAT_PFI : Fld := ⟨0x400A0000, 15, 1⟩
/-- FOL_STAT.SAVED, bits 14 (spec/15). -/
def FOL_STAT_SAVED : Fld := ⟨0x400A0000, 14, 1⟩
/-- FOL_STAT.NOSAVE, bits 13 (spec/15). -/
def FOL_STAT_NOSAVE : Fld := ⟨0x400A0000, 13, 1⟩
/-- FOL_STAT.MISSED, bits 12 (spec/15). -/
def FOL_STAT_MISSED : Fld := ⟨0x400A0000, 12, 1⟩
/-- FOL_STAT.SLOT, bits 11 (spec/15). -/
def FOL_STAT_SLOT : Fld := ⟨0x400A0000, 11, 1⟩
/-- FOL_STAT.WINDOW, bits 10 (spec/15). -/
def FOL_STAT_WINDOW : Fld := ⟨0x400A0000, 10, 1⟩
/-- FOL_STAT.BUSY, bits 9 (spec/15). -/
def FOL_STAT_BUSY : Fld := ⟨0x400A0000, 9, 1⟩
/-- FOL_STAT.RECALL, bits 8 (spec/15). -/
def FOL_STAT_RECALL : Fld := ⟨0x400A0000, 8, 1⟩
/-- FOL_STAT.QDROP, bits 3 (spec/15). -/
def FOL_STAT_QDROP : Fld := ⟨0x400A0000, 3, 1⟩
/-- FOL_STAT.PROTREF, bits 2 (spec/15). -/
def FOL_STAT_PROTREF : Fld := ⟨0x400A0000, 2, 1⟩
/-- FOL_STAT.CHKERR, bits 1 (spec/15). -/
def FOL_STAT_CHKERR : Fld := ⟨0x400A0000, 1, 1⟩
/-- FOL_STAT.TORNRD, bits 0 (spec/15). -/
def FOL_STAT_TORNRD : Fld := ⟨0x400A0000, 0, 1⟩
/-- FOL_PROT.BP, bits 1:0 (spec/15). -/
def FOL_PROT_BP : Fld := ⟨0x400A0004, 0, 2⟩
/-- FOL_SAVE.word, bits 31:0 (spec/15). -/
def FOL_SAVE : Fld := ⟨0x400A0008, 0, 32⟩
/-- FOL_SESSION.SLOTSESS, bits 31:16 (spec/15). -/
def FOL_SESSION_SLOTSESS : Fld := ⟨0x400A000C, 16, 16⟩
/-- FOL_SESSION.OPENSEQ, bits 15:0 (spec/15). -/
def FOL_SESSION_OPENSEQ : Fld := ⟨0x400A000C, 0, 16⟩
/-- FOL_TORN.LASTPG, bits 26:16 (spec/15). -/
def FOL_TORN_LASTPG : Fld := ⟨0x400A0010, 16, 11⟩
/-- FOL_TORN.NTORN, bits 11:0 (spec/15). -/
def FOL_TORN_NTORN : Fld := ⟨0x400A0010, 0, 12⟩
/-- FOL_PGSEL.PAGE, bits 10:0 (spec/15). -/
def FOL_PGSEL_PAGE : Fld := ⟨0x400A0014, 0, 11⟩
/-- FOL_PGINFO.TORN, bits 31 (spec/15). -/
def FOL_PGINFO_TORN : Fld := ⟨0x400A0018, 31, 1⟩
/-- FOL_PGINFO.REMAPPED, bits 30 (spec/15). -/
def FOL_PGINFO_REMAPPED : Fld := ⟨0x400A0018, 30, 1⟩
/-- FOL_PGINFO.SPARE, bits 27:24 (spec/15). -/
def FOL_PGINFO_SPARE : Fld := ⟨0x400A0018, 24, 4⟩
/-- FOL_PGINFO.COUNT, bits 23:0 (spec/15). -/
def FOL_PGINFO_COUNT : Fld := ⟨0x400A0018, 0, 24⟩
/-- FOL_SPARES.BANK3, bits 28:24 (spec/15). -/
def FOL_SPARES_BANK3 : Fld := ⟨0x400A001C, 24, 5⟩
/-- FOL_SPARES.BANK2, bits 20:16 (spec/15). -/
def FOL_SPARES_BANK2 : Fld := ⟨0x400A001C, 16, 5⟩
/-- FOL_SPARES.BANK1, bits 12:8 (spec/15). -/
def FOL_SPARES_BANK1 : Fld := ⟨0x400A001C, 8, 5⟩
/-- FOL_SPARES.BANK0, bits 4:0 (spec/15). -/
def FOL_SPARES_BANK0 : Fld := ⟨0x400A001C, 0, 5⟩
/-- FOL_REMAP.GO, bits 31 (spec/15). -/
def FOL_REMAP_GO : Fld := ⟨0x400A0020, 31, 1⟩
/-- FOL_REMAP.PAGE, bits 10:0 (spec/15). -/
def FOL_REMAP_PAGE : Fld := ⟨0x400A0020, 0, 11⟩
/-- FOL_CNTCLR.CLR, bits 3:0 (spec/15). -/
def FOL_CNTCLR_CLR : Fld := ⟨0x400A0050, 0, 4⟩
/-- FOL_CTL.CLRMISSED, bits 0 (spec/15). -/
def FOL_CTL_CLRMISSED : Fld := ⟨0x400A0024, 0, 1⟩
/-- FOL_UCINC.INC, bits 7:0 (spec/15). -/
def FOL_UCINC_INC : Fld := ⟨0x400A0028, 0, 8⟩
/-- FOL_ENPT.EN, bits 31 (spec/15). -/
def FOL_ENPT_EN (i : Nat) : Fld := ⟨0x400A0030 + 0x4 * i, 31, 1⟩
/-- FOL_ENPT.POINT, bits 11:0 (spec/15). -/
def FOL_ENPT_POINT (i : Nat) : Fld := ⟨0x400A0030 + 0x4 * i, 0, 12⟩
/-- FOL_REFCNT.word, bits 31:0 (spec/15). -/
def FOL_REFCNT : Fld := ⟨0x400A0040, 0, 32⟩
/-- FOL_QDROPCNT.word, bits 31:0 (spec/15). -/
def FOL_QDROPCNT : Fld := ⟨0x400A0044, 0, 32⟩
/-- FOL_TORNRDCNT.word, bits 31:0 (spec/15). -/
def FOL_TORNRDCNT : Fld := ⟨0x400A0048, 0, 32⟩
/-- FOL_CHKERRCNT.word, bits 31:0 (spec/15). -/
def FOL_CHKERRCNT : Fld := ⟨0x400A004C, 0, 32⟩
/-- FOL_LIVE.word, bits 31:0 (spec/15). -/
def FOL_LIVE (i : Nat) : Fld := ⟨0x400A0100 + 0x4 * i, 0, 32⟩
/-- THM_STAT.RECLOST, bits 14 (spec/16). -/
def THM_STAT_RECLOST : Fld := ⟨0x400B0000, 14, 1⟩
/-- THM_STAT.RECPEND, bits 13 (spec/16). -/
def THM_STAT_RECPEND : Fld := ⟨0x400B0000, 13, 1⟩
/-- THM_STAT.LATCH, bits 12 (spec/16). -/
def THM_STAT_LATCH : Fld := ⟨0x400B0000, 12, 1⟩
/-- THM_STAT.HOLD, bits 11 (spec/16). -/
def THM_STAT_HOLD : Fld := ⟨0x400B0000, 11, 1⟩
/-- THM_STAT.RELEASE, bits 10 (spec/16). -/
def THM_STAT_RELEASE : Fld := ⟨0x400B0000, 10, 1⟩
/-- THM_STAT.AONCMP, bits 9 (spec/16). -/
def THM_STAT_AONCMP : Fld := ⟨0x400B0000, 9, 1⟩
/-- THM_STAT.WINDOW, bits 8 (spec/16). -/
def THM_STAT_WINDOW : Fld := ⟨0x400B0000, 8, 1⟩
/-- THM_STAT.BROKEN, bits 7:4 (spec/16). -/
def THM_STAT_BROKEN : Fld := ⟨0x400B0000, 4, 4⟩
/-- THM_STAT.STATE, bits 1:0 (spec/16). -/
def THM_STAT_STATE : Fld := ⟨0x400B0000, 0, 2⟩
/-- THM_TS.CAUSE, bits 25:24 (spec/16). -/
def THM_TS_CAUSE (i : Nat) : Fld := ⟨0x400B0010 + 0x4 * i, 24, 2⟩
/-- THM_TS.FLAGS, bits 23:20 (spec/16). -/
def THM_TS_FLAGS (i : Nat) : Fld := ⟨0x400B0010 + 0x4 * i, 20, 4⟩
/-- THM_TS.TEMP, bits 15:0 (spec/16). -/
def THM_TS_TEMP (i : Nat) : Fld := ⟨0x400B0010 + 0x4 * i, 0, 16⟩
/-- THM_MAX.PEAK, bits 31:16 (spec/16). -/
def THM_MAX_PEAK : Fld := ⟨0x400B0020, 16, 16⟩
/-- THM_MAX.NOW, bits 15:0 (spec/16). -/
def THM_MAX_NOW : Fld := ⟨0x400B0020, 0, 16⟩
/-- THM_AONSEC.word, bits 31:0 (spec/16). -/
def THM_AONSEC : Fld := ⟨0x400B0024, 0, 32⟩
/-- THM_HOTT.word, bits 31:0 (spec/16). -/
def THM_HOTT (i : Nat) : Fld := ⟨0x400B0028 + 0x4 * i, 0, 32⟩
/-- THM_WARMCNT.word, bits 31:0 (spec/16). -/
def THM_WARMCNT : Fld := ⟨0x400B0030, 0, 32⟩
/-- THM_HOTCNT.word, bits 31:0 (spec/16). -/
def THM_HOTCNT : Fld := ⟨0x400B0034, 0, 32⟩
/-- THM_CNTCLR.PEAK, bits 2 (spec/16). -/
def THM_CNTCLR_PEAK : Fld := ⟨0x400B0038, 2, 1⟩
/-- THM_CNTCLR.CLR, bits 1:0 (spec/16). -/
def THM_CNTCLR_CLR : Fld := ⟨0x400B0038, 0, 2⟩
/-- THM_REC.word, bits 31:0 (spec/16). -/
def THM_REC (i : Nat) : Fld := ⟨0x400B0100 + 0x4 * i, 0, 32⟩
/-- PNL_CFG.ENCTEST, bits 8 (spec/17). -/
def PNL_CFG_ENCTEST : Fld := ⟨0x400C0000, 8, 1⟩
/-- PNL_CFG.STUCK, bits 7:0 (spec/17). -/
def PNL_CFG_STUCK : Fld := ⟨0x400C0000, 0, 8⟩
/-- PNL_STAT.ENCLIVE, bits 3 (spec/17). -/
def PNL_STAT_ENCLIVE : Fld := ⟨0x400C0004, 3, 1⟩
/-- PNL_STAT.WOKEN, bits 2 (spec/17). -/
def PNL_STAT_WOKEN : Fld := ⟨0x400C0004, 2, 1⟩
/-- PNL_STAT.GHOST, bits 1 (spec/17). -/
def PNL_STAT_GHOST : Fld := ⟨0x400C0004, 1, 1⟩
/-- PNL_STAT.FAST, bits 0 (spec/17). -/
def PNL_STAT_FAST : Fld := ⟨0x400C0004, 0, 1⟩
/-- PNL_KEYS.word, bits 31:0 (spec/17). -/
def PNL_KEYS (i : Nat) : Fld := ⟨0x400C0008 + 0x4 * i, 0, 32⟩
/-- PNL_MASK.word, bits 31:0 (spec/17). -/
def PNL_MASK (i : Nat) : Fld := ⟨0x400C0010 + 0x4 * i, 0, 32⟩
/-- PNL_COMBO_KEYS.USED0, bits 7 (spec/17). -/
def PNL_COMBO_KEYS_USED0 (i : Nat) : Fld := ⟨0x400C0020 + 0x8 * i, 7, 1⟩
/-- PNL_COMBO_KEYS.USED1, bits 15 (spec/17). -/
def PNL_COMBO_KEYS_USED1 (i : Nat) : Fld := ⟨0x400C0020 + 0x8 * i, 15, 1⟩
/-- PNL_COMBO_KEYS.USED2, bits 23 (spec/17). -/
def PNL_COMBO_KEYS_USED2 (i : Nat) : Fld := ⟨0x400C0020 + 0x8 * i, 23, 1⟩
/-- PNL_COMBO_KEYS.USED3, bits 31 (spec/17). -/
def PNL_COMBO_KEYS_USED3 (i : Nat) : Fld := ⟨0x400C0020 + 0x8 * i, 31, 1⟩
/-- PNL_COMBO_KEYS.KEY0, bits 5:0 (spec/17). -/
def PNL_COMBO_KEYS_KEY0 (i : Nat) : Fld := ⟨0x400C0020 + 0x8 * i, 0, 6⟩
/-- PNL_COMBO_KEYS.KEY1, bits 13:8 (spec/17). -/
def PNL_COMBO_KEYS_KEY1 (i : Nat) : Fld := ⟨0x400C0020 + 0x8 * i, 8, 6⟩
/-- PNL_COMBO_KEYS.KEY2, bits 21:16 (spec/17). -/
def PNL_COMBO_KEYS_KEY2 (i : Nat) : Fld := ⟨0x400C0020 + 0x8 * i, 16, 6⟩
/-- PNL_COMBO_KEYS.KEY3, bits 29:24 (spec/17). -/
def PNL_COMBO_KEYS_KEY3 (i : Nat) : Fld := ⟨0x400C0020 + 0x8 * i, 24, 6⟩
/-- PNL_COMBO_CFG.EN, bits 31 (spec/17). -/
def PNL_COMBO_CFG_EN (i : Nat) : Fld := ⟨0x400C0024 + 0x8 * i, 31, 1⟩
/-- PNL_COMBO_CFG.HOLD, bits 12:5 (spec/17). -/
def PNL_COMBO_CFG_HOLD (i : Nat) : Fld := ⟨0x400C0024 + 0x8 * i, 5, 8⟩
/-- PNL_COMBO_CFG.ACTION, bits 1:0 (spec/17). -/
def PNL_COMBO_CFG_ACTION (i : Nat) : Fld := ⟨0x400C0024 + 0x8 * i, 0, 2⟩
/-- PNL_COMBOSTAT.EVENT, bits 11:8 (spec/17). -/
def PNL_COMBOSTAT_EVENT : Fld := ⟨0x400C0040, 8, 4⟩
/-- PNL_COMBOSTAT.FIRED, bits 7:4 (spec/17). -/
def PNL_COMBOSTAT_FIRED : Fld := ⟨0x400C0040, 4, 4⟩
/-- PNL_COMBOSTAT.HOLDING, bits 3:0 (spec/17). -/
def PNL_COMBOSTAT_HOLDING : Fld := ⟨0x400C0040, 0, 4⟩
/-- PNL_ENC.AB, bits 19:18 (spec/17). -/
def PNL_ENC_AB (i : Nat) : Fld := ⟨0x400C0050 + 0x4 * i, 18, 2⟩
/-- PNL_ENC.SWEV, bits 17 (spec/17). -/
def PNL_ENC_SWEV (i : Nat) : Fld := ⟨0x400C0050 + 0x4 * i, 17, 1⟩
/-- PNL_ENC.SW, bits 16 (spec/17). -/
def PNL_ENC_SW (i : Nat) : Fld := ⟨0x400C0050 + 0x4 * i, 16, 1⟩
/-- PNL_ENC.COUNT, bits 15:0 (spec/17). -/
def PNL_ENC_COUNT (i : Nat) : Fld := ⟨0x400C0050 + 0x4 * i, 0, 16⟩
/-- PNL_STUCKCNT.word, bits 31:0 (spec/17). -/
def PNL_STUCKCNT : Fld := ⟨0x400C0060, 0, 32⟩
/-- PNL_FIRECNT.word, bits 31:0 (spec/17). -/
def PNL_FIRECNT : Fld := ⟨0x400C0064, 0, 32⟩
/-- PNL_ENCERRCNT.word, bits 31:0 (spec/17). -/
def PNL_ENCERRCNT : Fld := ⟨0x400C0068, 0, 32⟩
/-- PNL_GHOSTCNT.word, bits 31:0 (spec/17). -/
def PNL_GHOSTCNT : Fld := ⟨0x400C006C, 0, 32⟩
/-- PNL_CNTCLR.CLR, bits 3:0 (spec/17). -/
def PNL_CNTCLR_CLR : Fld := ⟨0x400C0070, 0, 4⟩
/-- LDG_SNAPCTL.PER, bits 12:8 (spec/18). -/
def LDG_SNAPCTL_PER : Fld := ⟨0x400D0000, 8, 5⟩
/-- LDG_SNAPCTL.MODE, bits 1:0 (spec/18). -/
def LDG_SNAPCTL_MODE : Fld := ⟨0x400D0000, 0, 2⟩
/-- LDG_SNAPFRAME.word, bits 31:0 (spec/18). -/
def LDG_SNAPFRAME : Fld := ⟨0x400D0004, 0, 32⟩
/-- LDG_SNAPINFO0.word, bits 31:0 (spec/18). -/
def LDG_SNAPINFO0 : Fld := ⟨0x400D0008, 0, 32⟩
/-- LDG_SNAPINFO1.word, bits 31:0 (spec/18). -/
def LDG_SNAPINFO1 : Fld := ⟨0x400D000C, 0, 32⟩
/-- LDG_SNAPSTAT.SEQ, bits 31:16 (spec/18). -/
def LDG_SNAPSTAT_SEQ : Fld := ⟨0x400D0010, 16, 16⟩
/-- LDG_CLR.word, bits 31:0 (spec/18). -/
def LDG_CLR : Fld := ⟨0x400D0014, 0, 32⟩
/-- LDG_CNT_SEL.EN, bits 31 (spec/18). -/
def LDG_CNT_SEL_EN (i : Nat) : Fld := ⟨0x400D0100 + 0x10 * i, 31, 1⟩
/-- LDG_CNT_SEL.SRC, bits 7:0 (spec/18). -/
def LDG_CNT_SEL_SRC (i : Nat) : Fld := ⟨0x400D0100 + 0x10 * i, 0, 8⟩
/-- LDG_CNT_LO.word, bits 31:0 (spec/18). -/
def LDG_CNT_LO (i : Nat) : Fld := ⟨0x400D0104 + 0x10 * i, 0, 32⟩
/-- LDG_CNT_HI.COUNT, bits 15:0 (spec/18). -/
def LDG_CNT_HI_COUNT (i : Nat) : Fld := ⟨0x400D0108 + 0x10 * i, 0, 16⟩
/-- LDG_SNAP_LO.word, bits 31:0 (spec/18). -/
def LDG_SNAP_LO (i : Nat) : Fld := ⟨0x400D0400 + 0x8 * i, 0, 32⟩
/-- LDG_SNAP_HI.COUNT, bits 15:0 (spec/18). -/
def LDG_SNAP_HI_COUNT (i : Nat) : Fld := ⟨0x400D0404 + 0x8 * i, 0, 16⟩
/-- ANL_STAT.WPOS, bits 9:0 (spec/18). -/
def ANL_STAT_WPOS : Fld := ⟨0x400D0800, 0, 10⟩
/-- ANL_TOTAL.word, bits 31:0 (spec/18). -/
def ANL_TOTAL : Fld := ⟨0x400D0804, 0, 32⟩
/-- ANL_PSTAT.PSEQ, bits 31:16 (spec/18). -/
def ANL_PSTAT_PSEQ : Fld := ⟨0x400D0808, 16, 16⟩
/-- ANL_PSTAT.READY, bits 8 (spec/18). -/
def ANL_PSTAT_READY : Fld := ⟨0x400D0808, 8, 1⟩
/-- ANL_PSTAT.PIDX, bits 7:0 (spec/18). -/
def ANL_PSTAT_PIDX : Fld := ⟨0x400D0808, 0, 8⟩
/-- ANL_LOSTCNT.word, bits 31:0 (spec/18). -/
def ANL_LOSTCNT : Fld := ⟨0x400D080C, 0, 32⟩
/-- ANL_PDROPCNT.word, bits 31:0 (spec/18). -/
def ANL_PDROPCNT : Fld := ⟨0x400D0810, 0, 32⟩
/-- ANL_CNTCLR.CLR, bits 1:0 (spec/18). -/
def ANL_CNTCLR_CLR : Fld := ⟨0x400D0814, 0, 2⟩
/-- FOX_CTL.SCANOFF, bits 2 (spec/18). -/
def FOX_CTL_SCANOFF : Fld := ⟨0x400D8000, 2, 1⟩
/-- FOX_CTL.REMAPOFF, bits 1 (spec/18). -/
def FOX_CTL_REMAPOFF : Fld := ⟨0x400D8000, 1, 1⟩
/-- FOX_CTL.VLOCK, bits 0 (spec/18). -/
def FOX_CTL_VLOCK : Fld := ⟨0x400D8000, 0, 1⟩
/-- FOX_VREQ.NFAC, bits 12:8 (spec/18). -/
def FOX_VREQ_NFAC : Fld := ⟨0x400D8004, 8, 5⟩
/-- FOX_VREQ.N, bits 4:0 (spec/18). -/
def FOX_VREQ_N : Fld := ⟨0x400D8004, 0, 5⟩
/-- FOX_CFG.GUARD, bits 23:16 (spec/18). -/
def FOX_CFG_GUARD : Fld := ⟨0x400D8008, 16, 8⟩
/-- FOX_CFG.BAND, bits 15:8 (spec/18). -/
def FOX_CFG_BAND : Fld := ⟨0x400D8008, 8, 8⟩
/-- FOX_CFG.TARGET, bits 7:0 (spec/18). -/
def FOX_CFG_TARGET : Fld := ⟨0x400D8008, 0, 8⟩
/-- FOX_CALCFG.DRHI, bits 31:24 (spec/18). -/
def FOX_CALCFG_DRHI : Fld := ⟨0x400D800C, 24, 8⟩
/-- FOX_CALCFG.DRLO, bits 23:16 (spec/18). -/
def FOX_CALCFG_DRLO : Fld := ⟨0x400D800C, 16, 8⟩
/-- FOX_CALCFG.INTMAX, bits 11:6 (spec/18). -/
def FOX_CALCFG_INTMAX : Fld := ⟨0x400D800C, 6, 6⟩
/-- FOX_CALCFG.INTMIN, bits 5:0 (spec/18). -/
def FOX_CALCFG_INTMIN : Fld := ⟨0x400D800C, 0, 6⟩
/-- FOX_REMAPTH.COUNT, bits 23:0 (spec/18). -/
def FOX_REMAPTH_COUNT : Fld := ⟨0x400D8010, 0, 24⟩
/-- FOX_STAT.VREQLOW, bits 5 (spec/18). -/
def FOX_STAT_VREQLOW : Fld := ⟨0x400D8014, 5, 1⟩
/-- FOX_STAT.EQHLOST, bits 4 (spec/18). -/
def FOX_STAT_EQHLOST : Fld := ⟨0x400D8014, 4, 1⟩
/-- FOX_STAT.VCAP, bits 3 (spec/18). -/
def FOX_STAT_VCAP : Fld := ⟨0x400D8014, 3, 1⟩
/-- FOX_STAT.SUSP, bits 2 (spec/18). -/
def FOX_STAT_SUSP : Fld := ⟨0x400D8014, 2, 1⟩
/-- FOX_STAT.LIFE, bits 1:0 (spec/18). -/
def FOX_STAT_LIFE : Fld := ⟨0x400D8014, 0, 2⟩
/-- FOX_SLACK.MIN, bits 31:16 (spec/18). -/
def FOX_SLACK_MIN (i : Nat) : Fld := ⟨0x400D8040 + 0x4 * i, 16, 16⟩
/-- FOX_SLACK.NOW, bits 15:0 (spec/18). -/
def FOX_SLACK_NOW (i : Nat) : Fld := ⟨0x400D8040 + 0x4 * i, 0, 16⟩
/-- FOX_REF.CREF, bits 31:16 (spec/18). -/
def FOX_REF_CREF : Fld := ⟨0x400D8070, 16, 16⟩
/-- FOX_REF.BGDIFF, bits 15:0 (spec/18). -/
def FOX_REF_BGDIFF : Fld := ⟨0x400D8070, 0, 16⟩
/-- FOX_EQH.word, bits 31:0 (spec/18). -/
def FOX_EQH : Fld := ⟨0x400D8074, 0, 32⟩
/-- FOX_LIFEH.word, bits 31:0 (spec/18). -/
def FOX_LIFEH : Fld := ⟨0x400D8078, 0, 32⟩
/-- FOX_HEAD.SPMIN, bits 12:8 (spec/18). -/
def FOX_HEAD_SPMIN : Fld := ⟨0x400D807C, 8, 5⟩
/-- FOX_HEAD.VHEAD, bits 4:0 (spec/18). -/
def FOX_HEAD_VHEAD : Fld := ⟨0x400D807C, 0, 5⟩
/-- FOX_LAST.KIND, bits 31:28 (spec/18). -/
def FOX_LAST_KIND : Fld := ⟨0x400D8080, 28, 4⟩
/-- FOX_LAST.VALUE, bits 15:0 (spec/18). -/
def FOX_LAST_VALUE : Fld := ⟨0x400D8080, 0, 16⟩
/-- SVC_STAT.LASTST, bits 15:8 (spec/19). -/
def SVC_STAT_LASTST : Fld := ⟨0x400E0010, 8, 8⟩
/-- SVC_STAT.FMT, bits 1 (spec/19). -/
def SVC_STAT_FMT : Fld := ⟨0x400E0010, 1, 1⟩
/-- SVC_STAT.ABORT, bits 0 (spec/19). -/
def SVC_STAT_ABORT : Fld := ⟨0x400E0010, 0, 1⟩
/-- SVC_CNTCLR.CLR, bits 1:0 (spec/19). -/
def SVC_CNTCLR_CLR : Fld := ⟨0x400E0038, 0, 2⟩
/-- AZ_ID.PART, bits 31:16 (spec/19). -/
def AZ_ID_PART : Fld := ⟨0x400E0000, 16, 16⟩
/-- AZ_ID.REV, bits 15:8 (spec/19). -/
def AZ_ID_REV : Fld := ⟨0x400E0000, 8, 8⟩
/-- AZ_ID.REVIDX, bits 3:0 (spec/19). -/
def AZ_ID_REVIDX : Fld := ⟨0x400E0000, 0, 4⟩
/-- AZ_UID.word, bits 31:0 (spec/19). -/
def AZ_UID (i : Nat) : Fld := ⟨0x400E0004 + 0x4 * i, 0, 32⟩
/-- SVC_IRQST.DRVFLT, bits 3 (spec/19). -/
def SVC_IRQST_DRVFLT : Fld := ⟨0x400E0014, 3, 1⟩
/-- SVC_IRQST.THERM, bits 4 (spec/19). -/
def SVC_IRQST_THERM : Fld := ⟨0x400E0014, 4, 1⟩
/-- SVC_IRQST.UNIT, bits 5 (spec/19). -/
def SVC_IRQST_UNIT : Fld := ⟨0x400E0014, 5, 1⟩
/-- SVC_IRQST.CRIT, bits 6 (spec/19). -/
def SVC_IRQST_CRIT : Fld := ⟨0x400E0014, 6, 1⟩
/-- SVC_IRQST.REJECT, bits 7 (spec/19). -/
def SVC_IRQST_REJECT : Fld := ⟨0x400E0014, 7, 1⟩
/-- SVC_IRQST.LIFE, bits 8 (spec/19). -/
def SVC_IRQST_LIFE : Fld := ⟨0x400E0014, 8, 1⟩
/-- SVC_IRQST.CAN0, bits 0 (spec/19). -/
def SVC_IRQST_CAN0 : Fld := ⟨0x400E0014, 0, 1⟩
/-- SVC_IRQST.CAN1, bits 1 (spec/19). -/
def SVC_IRQST_CAN1 : Fld := ⟨0x400E0014, 1, 1⟩
/-- SVC_IRQST.ALARM, bits 2 (spec/19). -/
def SVC_IRQST_ALARM : Fld := ⟨0x400E0014, 2, 1⟩
/-- SVC_IRQEN.W1CEN, bits 8:3 (spec/19). -/
def SVC_IRQEN_W1CEN : Fld := ⟨0x400E0018, 3, 6⟩
/-- SVC_IRQEN.ROEN, bits 2:0 (spec/19). -/
def SVC_IRQEN_ROEN : Fld := ⟨0x400E0018, 0, 3⟩
/-- SVC_REJADDR.word, bits 31:0 (spec/19). -/
def SVC_REJADDR : Fld := ⟨0x400E001C, 0, 32⟩
/-- SVC_REJINFO.SUBSYS, bits 12:8 (spec/19). -/
def SVC_REJINFO_SUBSYS : Fld := ⟨0x400E0020, 8, 5⟩
/-- SVC_REJINFO.MASTER, bits 1:0 (spec/19). -/
def SVC_REJINFO_MASTER : Fld := ⟨0x400E0020, 0, 2⟩
/-- SVC_FMTCNT.word, bits 31:0 (spec/19). -/
def SVC_FMTCNT : Fld := ⟨0x400E0030, 0, 32⟩
/-- SVC_ABORTCNT.word, bits 31:0 (spec/19). -/
def SVC_ABORTCNT : Fld := ⟨0x400E0034, 0, 32⟩

end F

end Sys2Proof.Machine
end

