-- ==== Sys2Proof/Machine/State.lean ====
section
/-! DEFINITION. The state of the part. Every register of the map is held in `regs`, sparse: a register that is not
listed holds its reset word. Every memory byte is held in `mem`, `folio.cells`, sparse. The structures hold what the
manual describes and no register shows. -/

namespace Sys2Proof.Machine

/-- Why a step can stop with a fault. No command of this block faults. -/
inductive Fault where
  /-- Raised by nothing. The manual gives every command an effect. Safe. -/
  | none
  deriving DecidableEq, Repr

/-- Why a step can be refused. -/
inductive Refusal where
  /-- Raised by an arm of `exec` that has no meaning yet; the string is the command's mnemonic. Safe. -/
  | notModelled (mnemonic : String)
  /-- Raised by a command whose operands spell nothing the outside world can send (`Instr.wf` is false): a list of
  the wrong length, a number out of its field. Safe: nothing is claimed about it.
  (DESIGN CHOICE, log entry 2, safe.) -/
  | illFormed
  deriving DecidableEq, Repr

/-- An event that waits in the Annals FIFO (R558, R559). -/
structure AnnEvent where
  /-- CRT_FRAMENO when the event was logged. -/
  frame : Nat
  /-- RTC seconds. -/
  rtc : Nat
  /-- RTCSET when it was logged. -/
  rtcSet : Bool
  /-- SUBSYS of the reporting block. -/
  subsys : Nat
  /-- Event code. -/
  code : Nat
  /-- ARG. -/
  arg : Nat
  /-- DETAIL. -/
  detail : Nat
  /-- DETAIL of the continuation entry, for an event of two entries. -/
  cont : Option Nat
  /-- The event also goes to the persistent log. -/
  crit : Bool
  deriving DecidableEq, Repr

/-- What the boot is doing (R65). -/
inductive BootStage where
  /-- Held in reset. -/
  | reset
  /-- Step 1: waiting for the PLLs. -/
  | pll
  /-- Held at step 2 (R61, R526). -/
  | held
  /-- Step 3: memories zeroed, flash negotiated. -/
  | flash
  /-- Step 4: reading a slot. -/
  | slot
  /-- Step 4 or RECOVERY: clearing what an image wrote (R90). -/
  | clear
  /-- Step 5: memory self-test. -/
  | selfTest
  /-- Stopped by R66. -/
  | bistFail
  /-- Step 6: link bring-up. -/
  | link
  /-- Step 7: unit state. -/
  | unit
  /-- Step 8: initial calibration. -/
  | calib
  /-- Waiting for the first tick, and after it. -/
  | run
  /-- RECOVERY (R92). -/
  | recovery
  deriving DecidableEq, Repr

/-- A section entry of the Colophon of the image being read (R81). -/
structure SectEntry where
  /-- Index in the table. -/
  idx : Nat
  /-- TARGET. -/
  target : Nat
  /-- INSTANCE. -/
  inst : Nat
  /-- SFLAGS. -/
  sflags : Nat
  /-- OFFSET. -/
  offset : Nat
  /-- LENGTH. -/
  length : Nat
  /-- SCRC. -/
  scrc : Nat
  deriving DecidableEq, Repr

/-- A command to the flash (R96). -/
inductive FlashOp where
  /-- Erase of the 4 KiB at an address, with its opcode. -/
  | erase (opcode addr : Nat)
  /-- Program of the 256-byte page at an address, opcode 0x02 in 1-1-1 mode, with the staged bytes from an offset on. -/
  | page (addr off : Nat)
  /-- Read-back of a slot. -/
  | verify (slot : Nat)
  deriving DecidableEq, Repr

/-- Progress of the boot. -/
structure Boot where
  /-- What the boot is doing. -/
  stage : BootStage
  /-- The first tick has passed since reset. -/
  ticked : Bool
  /-- The PWM frame counter runs (R70). -/
  counting : Bool
  /-- Step 7 has decided the unit state. -/
  decided : Bool
  /-- The slot in hand: 0 A, 1 B, 2 the staged image. -/
  cur : Nat
  /-- Slots still to be tried after it. -/
  rest : List Nat
  /-- Booted by GO_A, GO_B or GO_RAM: no fallback (R94, R95). -/
  alone : Bool
  /-- Sections still to be read, in table order. -/
  sects : List SectEntry
  /-- Targets that the section table of the image in hand names. -/
  seen : List Nat
  /-- FPRINT of the image in hand. -/
  fprint : Nat
  /-- FORMAT of the image in hand. -/
  format : Nat
  /-- The slot whose programming is in progress (R96). -/
  prog : Option Nat
  /-- The persistent-log read of R564 may run: the recall scan has ended. -/
  recalled : Bool
  /-- Section index that last wrote each FOL_ENPTk of the image in hand (R511). -/
  enpt : List Nat
  /-- Words of loop state STAT and TMR that the image in hand has written (R219). -/
  wrote : List Nat
  /-- Memory of loop and section states as the image in use left it (R480). -/
  loops : List Host.Cell
  /-- The reads of Folio that follow step 7 wait for a program to end (R489). -/
  reads : Bool
  /-- The quad-enable write of this boot: none made, or whether it was volatile (R76). -/
  quadWrite : Option Bool
  /-- Opcode of a 4 KiB erase (R96). -/
  erase4k : Nat
  /-- Commands to the flash of the slot programming in progress, in order (R96). -/
  flashOps : List FlashOp
  deriving DecidableEq, Repr

/-- The sources that hold the safe-state bus, and whether the outputs still obey it (R55). -/
structure Safe where
  /-- Sources that assert the bus now. -/
  srcs : List SafeSource
  /-- Outputs hold their safe values: until the first tick after every source has released. -/
  held : Bool
  /-- Consecutive ticks at which the bus was asserted, up to 2 (R452). -/
  ticks : Nat
  deriving DecidableEq, Repr

/-- A conversion whose result has not appeared yet. Sampling edges are counted in halves of an ADC clock from PWM clock 0
of the present frame: an even number is a rising edge (R110, R111). -/
structure Conv where
  /-- Input index 0 to 63 (chapter 4). -/
  input : Nat
  /-- Position in the sequence: the sample of a burst or the entry; 0 for a regular conversion. -/
  entry : Nat
  /-- The falling-edge sample of an interleaved pair (R119). -/
  odd : Bool
  /-- Injected sequence, or 8 for a regular conversion. -/
  seq : Nat
  /-- Frame in which the occurrence took its first sample. -/
  frame : Nat
  /-- Occurrence number in that frame (R166). -/
  occ : Nat
  /-- The occurrence started late (R154). -/
  late : Bool
  /-- Conversions of its occurrence; 0 for a regular conversion. -/
  total : Nat
  /-- Sampling edge (R110, R111). -/
  edge : Int
  /-- S takes it in place of its core (R131, R132). -/
  sub : Bool
  deriving DecidableEq, Repr

/-- One injected sequence (R149 to R155). -/
structure InjSeq where
  /-- 0 idle, 1 pending, 2 running. -/
  st : Nat
  /-- First sampling edge of a pending occurrence, in ADC edges of the present frame. -/
  edge : Int
  /-- Last sample of the latest occurrence that has started, in halves of an ADC edge of the present frame. -/
  lastEdge : Int
  /-- Occurrences that have started in the present frame. -/
  occ : Nat
  /-- The completing occurrence of the present frame has written its last result (R166). -/
  comp : Bool
  /-- Triggers whose event has come and which are not due yet: the due time in PWM clocks of the present frame, where
  the event's own time is known (R150). -/
  req : List (Option Int)
  deriving DecidableEq, Repr

/-- Converters and sequencer. -/
structure Conv9 where
  /-- The cores are powered and may convert: after step 8, or after the takeover calibration (R156). -/
  ready : Bool
  /-- Working set of each core; none while it is the factory trim (R122). -/
  wtrim : List (Option CalSet)
  /-- The working set that S had before the cycle in progress (R136). -/
  prevS : Option CalSet
  /-- The F core whose conversions S takes now. -/
  sub : Option Nat
  /-- RTC seconds until the next cycle (R127). -/
  timer : Nat
  /-- A cycle is due and waits for the next RTC second edge (R136) or for its start. -/
  due : Bool
  /-- A cycle was postponed and is retried (R133). -/
  postponed : Bool
  /-- The F core calibrated last, 3 at reset so that F0 comes first. -/
  lastF : Nat
  /-- Consecutive cycles in which each F core was rejected (R452). -/
  rejRun : List Nat
  /-- PERM has been cleared and PCORE is on its way back (R138). -/
  unperm : Bool
  /-- Injected conversions in flight, per core, oldest first. -/
  inj : List (List Conv)
  /-- Regular conversions of the present pass still to come, per core. -/
  reg : List (List Conv)
  /-- A regular pass has started and not ended. -/
  passOn : Bool
  /-- A regular trigger is due and its pass has not started. -/
  regDue : Bool
  /-- The edge at which that pass starts, where its due time is known (R147). -/
  regEdge : Option Int
  /-- The sequencer has been enabled, and no tick has come since (R146). -/
  enNew : Bool
  /-- The first tick after that enabling has come, and its CONTINUOUS trigger has not (R146). -/
  enDue : Bool
  /-- The sampling edge of the results filed last. -/
  filedEdge : Int
  /-- The inputs sampled at that edge whose results have been filed (R116). -/
  filed : List Nat
  /-- ADC_SHARECNT has counted that edge. -/
  shareSeen : Bool
  /-- The injected sequences. -/
  seqs : List InjSeq
  /-- Decimation count of each ring. -/
  ringDec : List Nat
  /-- The drive's latch has reported complete for the present frame (R166). -/
  latchDone : List Bool
  deriving DecidableEq, Repr

/-- One phase of a drive group. Times are period clocks of the present period (negative: before its valley). -/
structure Phase where
  /-- Switch command rises at this period clock. -/
  r : Int
  /-- Switch command falls at this period clock. -/
  f : Int
  /-- High-side drop in this period (R181). -/
  dropH : Bool
  /-- Low-side drop in this period. -/
  dropL : Bool
  /-- High-side switch commanded on. -/
  hi : Bool
  /-- Low-side switch commanded on. -/
  lo : Bool
  /-- When the high side was last commanded off. -/
  hiOff : Int
  /-- When the low side was last commanded off. -/
  loOff : Int
  /-- When the high side was last commanded on. -/
  hiOn : Int
  /-- When the low side was last commanded on. -/
  loOn : Int
  /-- The present edge has been counted as moved (R180). -/
  moved : Bool
  deriving DecidableEq, Repr

/-- One drive group. -/
structure Group where
  /-- RATE in use (R629). -/
  rate : Nat
  /-- PHASE in use. -/
  phase : Nat
  /-- The pins follow the carrier: nothing has forced them off since the last valley (R195, R196). -/
  live : Bool
  /-- The rotator supplies widths now (R197). -/
  coasting : Bool
  /-- The angle that the last valley used has been followed by INC; the next valley uses this one (R198, R199). -/
  nextAngle : Nat
  /-- The cut began at period clock 0 of the period whose valley comes next (R188). -/
  fresh : Bool
  /-- No carrier event of the group has come since PWM clock 0 of the frame. -/
  clk0 : Bool
  /-- Valleys since the tick. -/
  valleys : Nat
  /-- Peaks since the tick. -/
  peaks : Nat
  /-- The phases U, V, W. -/
  ph : List Phase
  deriving DecidableEq, Repr

/-- One general channel. -/
structure GpChan where
  /-- RATE in use. -/
  rate : Nat
  /-- PHASE in use. -/
  phase : Nat
  /-- The pin follows the counter. -/
  live : Bool
  /-- The channel shows its safe value (R193, R195). -/
  safe : Bool
  /-- Pin level. -/
  pin : Bool
  deriving DecidableEq, Repr

/-- The PWM array. -/
structure Pwm where
  /-- Drive groups 0 to 5. -/
  groups : List Group
  /-- General channels 0 to 31. -/
  gps : List GpChan
  deriving DecidableEq, Repr

/-- The parts of a run that are read when the item starts (R56, R214, R222). -/
structure Run where
  /-- Loop slot. -/
  slot : Nat
  /-- Class, 0 to 3. -/
  cls : Nat
  /-- CE cycle in which the item started. -/
  start : Nat
  /-- Cycle cost (R225). -/
  cost : Nat
  /-- Setpoint in the working format. -/
  sp : Int
  /-- Measurement in the working format. -/
  m : Int
  /-- Feed-forward source in the working format. -/
  ff : Int
  /-- A conversion of the sources saturated. -/
  convSat : Bool
  /-- The measurement was good (R220). -/
  good : Bool
  /-- Track value in the working format (R250). -/
  track : Int
  /-- The mode command taken (R254). -/
  cmd : Option Nat
  /-- The loop's drive was in safe stop (R254, reason 0x2). -/
  driveSafe : Bool
  /-- Angle of the link's drive. -/
  angle : Nat
  /-- The angle is valid and the drive is not in safe stop (R269). -/
  angleOk : Bool
  /-- The first run after a resume (R257). -/
  resumed : Bool
  /-- The generator that was PENDING or RUNNING on the slot (R325). -/
  gen : Option Nat
  /-- STOP waited for that generator (R326). -/
  genStop : Bool
  /-- RTCSET, for a calendar link (R271, R273). -/
  calOk : Bool
  /-- Minute of the day, for a calendar link (R270, R273). -/
  calMin : Nat
  /-- Day type, for a calendar link. -/
  calDt : Bool
  deriving DecidableEq, Repr

/-- One lane of the control engine in the present frame. -/
structure Lane where
  /-- CE cycle at which the lane is free. -/
  cyc : Nat
  /-- Class in hand, 4 when all are finished. -/
  cls : Nat
  /-- C0 items not run yet: slots of single loops; 512 + d is the chain of drive d. -/
  c0 : List Nat
  /-- Items of the class in hand (C1 to C3) not run yet. -/
  todo : List Nat
  /-- Start cycle of each class reached so far, C0 first. -/
  starts : List Nat
  /-- Finish cycle of the last item of each class that ran. -/
  fins : List (Option Nat)
  /-- The loop that runs. -/
  run : Option Run
  /-- The drive whose chain runs. -/
  chain : Option Nat
  /-- Loops of that chain not run yet. -/
  chainTodo : List Nat
  deriving DecidableEq, Repr

/-- A drive: what no register or record word holds. -/
structure Drive where
  /-- Command held for the next FRONT (R304). -/
  cmd : Option Nat
  /-- That command was staged by the Almanac (R366). -/
  cmdAlm : Bool
  /-- Chain input VD. -/
  vd : Int
  /-- Chain input VQ. -/
  vq : Int
  /-- Phase currents of the last FRONT. -/
  iu : Int
  /-- Phase current V. -/
  iv : Int
  /-- Phase current W. -/
  iw : Int
  /-- EDFF of the last FRONT. -/
  edff : Int
  /-- EQFF of the last FRONT. -/
  eqff : Int
  /-- Staged valley widths, set by BACK and taken by the tick (R36). -/
  staged : Option (List Nat)
  /-- Staged peak widths (R296). -/
  stagedPeak : List Nat
  /-- Peak widths that wait for the first valley (R297). -/
  peakWait : Option (List Nat)
  /-- FOLLOW of the speed loop as the last FRONT saw it. -/
  folSeen : Bool
  /-- A level test of R309 failed in the last FRONT. -/
  level : Bool
  /-- An NTC condition held in the last FRONT (R308). -/
  ntc : Bool
  /-- The FORCED ramp runs backwards. -/
  back : Bool
  /-- The pair logic resumes the drive at its next FRONT (R314). -/
  resume : Bool
  /-- The next BACK ends the coast rotator (R314). -/
  coastEnd : Bool
  /-- Runs in the present state; SEQ shows up to 4095 of them. -/
  runs : Nat
  /-- Cut state of the group at the end of PWM clock 0 of this frame (R288). -/
  cut0 : Bool
  /-- Release cycle of the drive's C0 items in this frame. -/
  rel : Option Nat
  /-- The chain has completed in this frame. -/
  done : Bool
  deriving DecidableEq, Repr

/-- One test generator (R323). Its state and ABORT are in CE_INJSTAT. -/
structure Gen where
  /-- STOP waits for the slot's next run (R326). -/
  stop : Bool
  deriving DecidableEq, Repr

/-- The capture unit. -/
structure Capture where
  /-- Frames since the arming tick; none until it has come. -/
  frames : Option Nat
  /-- The trigger channel's previous value. -/
  prev : Option Int
  /-- Samples still to take after the trigger. -/
  left : Nat
  /-- The trigger generator has become RUNNING since ARM. -/
  genRan : Bool
  /-- The sample of the present frame has been taken. -/
  taken : Bool
  deriving DecidableEq, Repr

/-- A pulse input. -/
structure PulseIn where
  /-- Rising edges seen since reset or since the signal was lost, up to 2. -/
  edges : Nat
  deriving DecidableEq, Repr

/-- A write of a Catalogue entry in the present frame, which an item that started by then did not see (R56). -/
structure CatWrite where
  /-- The entry. -/
  p : Nat
  /-- CE cycle in which the write completed. -/
  cyc : Nat
  /-- VALUE before it. -/
  val : Nat
  /-- The word of quality and AGE before it. -/
  qual : Nat
  deriving DecidableEq, Repr

/-- The control engine. -/
structure Engine where
  /-- The lanes. -/
  lanes : List Lane
  /-- The drives. -/
  drives : List Drive
  /-- Pending mode commands: slot and command word (R252). -/
  cmds : List (Nat × Nat)
  /-- Slots whose next run in AUTO is the first after a resume (R257). -/
  resumed : List Nat
  /-- The generators. -/
  gens : List Gen
  /-- The capture unit. -/
  cap : Capture
  /-- Pulse inputs. -/
  pis : List PulseIn
  /-- Perennial links whose clear is in progress or waits, oldest first (R280, R281). -/
  clears : List Nat
  /-- Ticks since the clear in progress began. -/
  clearTicks : Nat
  /-- Timed writes of Catalogue entries since the tick, oldest first (R56, R329). -/
  old : List CatWrite
  deriving DecidableEq, Repr

/-- A write that an Almanac evaluation has staged (R50, R370). -/
inductive Staged where
  /-- An update of a Catalogue point. -/
  | point (p : Nat) (v : Int)
  /-- A word of Almanac state or of MANVAL. -/
  | word (a : Nat) (v : Nat)
  /-- A mode command. -/
  | mode (w : Nat)
  /-- A drive command: drive and CE_DRd_CMD word. -/
  | drive (d : Nat) (w : Nat)
  /-- Bus-off recovery of a controller. -/
  | busRec (c : Nat)
  /-- A swap request. -/
  | swap
  /-- A register field group: ALM_LOCAL, ALM_CAP, ALM_STAGE. -/
  | reg (a : Nat) (v : Nat)
  /-- An alarm: rule, code, left value of CMP0. -/
  | alarm (rule code : Nat) (left : Int)
  /-- Firing of a rule is counted. -/
  | fired
  /-- An action failed. -/
  | failed
  /-- The learned rates of every zone are queued for Folio (R357). -/
  | saveRates
  deriving DecidableEq, Repr

/-- Optimal start of one zone, beyond its state words (R356, R357). -/
structure OptStart where
  /-- Learning has begun and has neither succeeded nor been voided. -/
  learning : Bool
  /-- The zone warms up, else it cools down. -/
  warm : Bool
  /-- S, the setpoint that optimal start aims at. -/
  sp : Int
  /-- The setpoint set of the point it aims at, while an optimal start begun here stands. -/
  set : Option Nat
  /-- Evaluations since the switch point passed. -/
  after : Nat
  deriving DecidableEq, Repr

/-- No optimal start, and nothing to learn. -/
def OptStart.idle : OptStart := ⟨false, false, 0, none, 0⟩

/-- What an evaluation of the Almanac leaves that no word of memory holds. -/
structure AlmHidden where
  /-- Consecutive evaluations for which each staging condition has held (R366). -/
  stageCnt : List Nat
  /-- Local minute of the day of the last evaluation (R262). -/
  minute : Nat
  /-- The last evaluation fell in the first minute of a Monday (R357). -/
  mon0 : Bool
  /-- Day type of each zone: true for non-working. -/
  dayType : List Bool
  /-- Evaluations of the present minute of each zone's override (R369). -/
  ovr : List Nat
  /-- Optimal start of each zone. -/
  os : List OptStart
  deriving DecidableEq, Repr

/-- The Almanac and the Catalogue engine. -/
structure Alm where
  /-- A second edge has come whose evaluation has not started. -/
  due : Bool
  /-- The tick that starts it has reached SYS (R50). -/
  armed : Bool
  /-- An evaluation runs. -/
  running : Bool
  /-- It has finished, and its writes wait for the tick. -/
  finished : Bool
  /-- Its staged writes, in order. -/
  staged : List Staged
  /-- Completed evaluations since boot. -/
  evals : Nat
  /-- As the last committed evaluation left it. -/
  hid : AlmHidden
  /-- As the evaluation in hand will leave it. -/
  next : AlmHidden
  /-- Ticks at which each DI sample has differed from its filtered state (R630). -/
  diRun : List Nat
  /-- Inputs whose latest-value entry was written since the last visit (R339). -/
  fresh : List Nat
  deriving DecidableEq, Repr

/-- A bus controller: what none of its registers, objects and queues holds. -/
structure CanCtl where
  /-- The committed object. -/
  committed : Option Nat
  /-- A cancel of the committed object has been taken (R398). -/
  held : Bool
  /-- Cancellation requests that wait for the next sample point, oldest first (R397). -/
  cancels : List Nat
  /-- EN was written 0 during a frame (R378). -/
  stopping : Bool
  /-- An RTC second edge has come since the last probe (R405). -/
  probeDue : Bool
  /-- The controller has not reached running since its last start. -/
  fresh : Bool
  /-- Arrival counts at which a queue of this controller dropped a frame, oldest first, as the Zone Protocol layer has
  yet to take note of them (R422). -/
  drops : List Nat
  /-- A recovery that was started while the controller could not take part in it waits for it (R402). -/
  recover : Bool
  /-- Parked objects that are pending for their one attempt (R405). -/
  probes : List Nat
  /-- The frames that this controller has sent since the last tick, oldest first. -/
  sent : List CanFrame
  deriving DecidableEq, Repr

/-- A stream of frames that the Zone Protocol layer sends (R420, R423). -/
structure ZpStream where
  /-- SEQ of the next frame. -/
  seq : Nat
  /-- The object that holds the stream's pending frame. -/
  obj : Option Nat
  /-- The SEQ counts on when that frame is sent; false after a restart of the stream. -/
  adv : Bool
  /-- Bindings whose records the pending frame carries. -/
  binds : List Nat
  deriving DecidableEq, Repr

/-- A frame that waits for an object (R434). -/
structure ZpFrame where
  /-- Message type. -/
  typ : Nat
  /-- Destination node. -/
  dst : Nat
  /-- Sent as CAN FD. -/
  fd : Bool
  /-- With bit-rate switch. -/
  brs : Bool
  /-- Payload. -/
  data : List Byte
  /-- Bindings whose records it carries. -/
  binds : List Nat
  deriving DecidableEq, Repr

/-- The terms of an OFFER (R425). -/
structure ZpOffer where
  /-- VER: 0x10, 0x11 or 0x20. -/
  ver : Nat
  /-- FMT: bit 0 FD, bit 1 BRS. -/
  fmt : Nat
  /-- LEN. -/
  len : Nat
  /-- SESSION. -/
  session : Nat
  deriving DecidableEq, Repr

/-- A partner: what the partner table does not hold. -/
structure Partner where
  /-- VERS of its last JOIN. -/
  vers : Nat
  /-- CAPS of its last JOIN. -/
  caps : Nat
  /-- MAXLEN of its last JOIN. -/
  maxlen : Nat
  /-- UID of its last JOIN. -/
  uid : Nat
  /-- Its latest OFFER. -/
  offer : Option ZpOffer
  /-- That OFFER has not been accepted yet. -/
  waiting : Bool
  /-- Expected SEQ of its PUBLISH stream. -/
  expPub : Nat
  /-- Expected SEQ of its directed stream. -/
  expDir : Nat
  /-- The next PUBLISH is a new start (R422). -/
  resPub : Bool
  /-- The next directed frame is a new start (R422). -/
  resDir : Bool
  /-- NAKs sent since the last RTC second edge. -/
  naks : Nat
  /-- RTC second edges since each violation of the last 60. -/
  hist : List Nat
  /-- No binding scan has been made since it joined (R433). -/
  first : Bool
  /-- The device's directed stream to it. -/
  tx : ZpStream
  deriving DecidableEq, Repr

/-- A management request in hand whose access to Folio is not complete (R437). -/
structure ZpMgmt where
  /-- Requesting node. -/
  node : Nat
  /-- SEQ of the request. -/
  seq : Nat
  /-- It is a MGMT_WRITE. -/
  write : Bool
  /-- The queue entry that holds the request. -/
  entry : Nat
  deriving DecidableEq, Repr

/-- The Zone Protocol layer on one bus. -/
structure ZpBus where
  /-- Session count. -/
  session : Nat
  /-- Frames that wait for an object, oldest first. -/
  wait : List ZpFrame
  /-- The device's PUBLISH stream. -/
  pub : ZpStream
  /-- The device's TIME and ROLLCALL stream. -/
  bc : ZpStream
  /-- The partners by node. -/
  partners : List Partner
  /-- RTC second edges since the last ROLLCALL. -/
  rollCnt : Nat
  /-- A ROLLCALL is due. -/
  rollDue : Bool
  /-- HOLD has run out (R430). -/
  holdEnd : Bool
  /-- Bindings whose last record said the point was good. -/
  good : List Nat
  /-- Bindings whose frame was cancelled, to be sent at the next scan (R429). -/
  resend : List Nat
  /-- The management request in hand. -/
  mgmt : Option ZpMgmt
  deriving DecidableEq, Repr

/-- A checkpoint record (R471). -/
structure CkRec where
  /-- KIND. -/
  kind : Nat
  /-- INDEX. -/
  index : Nat
  /-- FRAME: CRT_FRAMENO at the read. -/
  frame : Nat
  /-- CKNUM. -/
  num : Nat
  /-- BLEN. -/
  blen : Nat
  /-- The body; as far as it has come, for a record being assembled. -/
  body : List Byte
  deriving DecidableEq, Repr

/-- How far the link is (R462). -/
inductive LinkStage where
  /-- No attempt in progress. -/
  | off
  /-- Steps 1 and 2: searching for lock. -/
  | lock
  /-- Step 3: lane 0 is locked. -/
  | caps
  /-- Step 5: waiting for the peer's COMPAT record. -/
  | compat
  /-- The session runs. -/
  | up
  deriving DecidableEq, Repr

/-- A frame that this unit has sent over the link since the last tick (R463). -/
inductive LinkOut where
  /-- CAPS: versions, both lanes locked, 125 Mbit/s. -/
  | caps (vers : Nat) (two slow : Bool)
  /-- COMPAT: the record. -/
  | compat (bytes : List Byte)
  /-- STATUS. -/
  | status (r : StatusRec)
  /-- MIRROR: the payload. -/
  | mirror (bytes : List Byte)
  /-- CKPT: a chunk of a record of a checkpoint. -/
  | chunk (c : CkptChunk)
  /-- CKPT: the END of a checkpoint. -/
  | ckEnd (num rtc nrec : Nat)
  /-- A management reply. -/
  | mgmtReply (tag status : Nat) (words : List Nat)
  deriving DecidableEq, Repr

/-- What a Curator keeps of one unit (R450, R455, R458). Times are samples, four to a frame. -/
structure CurUnit where
  /-- Last level of CUR_HB. -/
  hb : Bool
  /-- Samples since its last edge. -/
  edge : Nat
  /-- Samples since the last counted heartbeat. -/
  quiet : Nat
  /-- Consecutive counted heartbeats, up to 16. -/
  count : Nat
  /-- The heartbeat is alive. -/
  alive : Bool
  /-- Last level of CUR_HS. -/
  hs : Bool
  /-- Samples for which CUR_HS has been high. -/
  high : Nat
  /-- A health frame being read: samples since its first rising edge, and the levels taken. -/
  dec : Option (Nat × List Bool)
  /-- The last valid health word. -/
  word : Option Nat
  /-- Samples since it. -/
  age : Nat
  deriving DecidableEq, Repr

/-- A record slot of the checkpoint plan (R471). -/
structure Slot where
  /-- KIND. -/
  kind : Nat
  /-- INDEX of the record; FIRST for a POINTS record. -/
  index : Nat
  /-- COUNT of its plan entry. -/
  count : Nat
  /-- Vault offset. -/
  off : Nat
  /-- Body length in bytes. -/
  len : Nat
  deriving DecidableEq, Repr

/-- The pair logic, the link and the Curator. -/
structure Pair where
  /-- How far the link is. -/
  stage : LinkStage
  /-- Receive lane 0 is locked. -/
  lock0 : Bool
  /-- Receive lane 1 is locked. -/
  lock1 : Bool
  /-- The attempt runs at 125 Mbit/s. -/
  slow : Bool
  /-- Frames since the last valid link frame. -/
  quiet : Nat
  /-- Mirror memory. -/
  mirror : List Byte
  /-- CKNUM of the peer's Vault. -/
  peerCk : Nat
  /-- RTC of the peer's last STATUS. -/
  peerRtc : Nat
  /-- Its RTC-set flag. -/
  peerRtcSet : Bool
  /-- RTC seconds counted since it. -/
  peerSecs : Nat
  /-- Direction in which the RTC seconds are trimmed (R468). -/
  trim : Int
  /-- The Vault is marked empty. -/
  vaultEmpty : Bool
  /-- A complete checkpoint has been received since reset. -/
  complete : Bool
  /-- Number of the next checkpoint to be sent. -/
  ckNext : Nat
  /-- 0 none due; 1 a second edge has come; 2 a tick has come after it. -/
  ckDue : Nat
  /-- A checkpoint has been started and its sending is not over. -/
  ckSending : Bool
  /-- Its number. -/
  ckNum : Nat
  /-- CKRTC of it: the RTC at its start. -/
  ckRtc : Nat
  /-- NREC of it: the records that the plan makes. -/
  ckRecs : Nat
  /-- Record slots of the plan not read yet. -/
  ckLeft : List Slot
  /-- Chunks of the record read last that are not sent yet. -/
  ckOut : List CkptChunk
  /-- The record being assembled. -/
  asm : Option CkRec
  /-- Samples of H still to come that decide SWAPREQ, the one that clears it included (R453). -/
  swapLeft : Nat
  /-- Level of CUR_HB. -/
  hb : Bool
  /-- Level of CUR_HS. -/
  hs : Bool
  /-- H as last sampled (R454). -/
  health : Nat
  /-- The tick that starts cell 3 has come and H has not been sampled. -/
  healthDue : Bool
  /-- Next 16 KiB of the memory self-test, 0 to 127. -/
  sramNext : Nat
  /-- Next 32 pages of the Folio self-test, 0 to 63. -/
  folioNext : Nat
  /-- A self-test cycle is due. -/
  testDue : Bool
  /-- A Vault copy is due. -/
  copyDue : Bool
  /-- Ticks since S0. -/
  since : Nat
  /-- The restore has ended. -/
  restored : Bool
  /-- The takeover calibration has started. -/
  calOn : Bool
  /-- The sequencer has been enabled. -/
  seqOn : Bool
  /-- What has been sent over the link since the last tick. -/
  linkOut : List LinkOut
  /-- MGMT replies that wait for the next tick (R463). -/
  mgmtOut : List LinkOut
  /-- The Curator's view of units A and B. -/
  cur : List CurUnit
  /-- The unit whose latch the Curator has set. -/
  sel : Option Nat
  /-- A set pulse to come: unit, and samples until then. -/
  setAfter : Option (Nat × Nat)
  deriving DecidableEq, Repr

/-- Who asked for an access of the address space (R583). -/
inductive Requester where
  /-- The service port. -/
  | port
  /-- The peer, over the link. -/
  | peer
  /-- The Zone Protocol layer of a bus, for a partner. -/
  | partner (b : Nat)
  /-- A transaction that was aborted: what has begun stands, and nobody is told its outcome (R597). -/
  | gone
  deriving DecidableEq, Repr

/-- A request of a master (R584). -/
structure Req where
  /-- Who asked. -/
  who : Requester
  /-- It writes. -/
  write : Bool
  /-- It writes single bytes (WRITEB). -/
  bytes : Bool
  /-- First address. -/
  addr : Nat
  /-- Words, or bytes, asked for. -/
  n : Nat
  /-- Words, or bytes, to write. -/
  data : List Nat
  /-- Bytes of the range carried out. -/
  k : Nat
  /-- Words read. -/
  out : List Nat
  /-- Status of the first failure, else 0. -/
  status : Nat
  /-- It waits for Folio: bytes that will have been carried out then. -/
  wait : Option Nat
  /-- TAG of a link request. -/
  tag : Nat
  /-- A request of the peer or of a partner that is carried out one word at a time, so that words of others may fall
  between its words (R584). -/
  split : Bool
  deriving DecidableEq, Repr

/-- A part of one Folio page that a program writes (R488). -/
structure PageProg where
  /-- Page of the window. -/
  page : Nat
  /-- Physical page: 0 to 2047 the window's own; 2048 + 16 b + k is spare k of bank b. -/
  phys : Nat
  /-- First byte within the page. -/
  off : Nat
  /-- The bytes. -/
  bytes : List Byte
  deriving DecidableEq, Repr

/-- A master's transaction to the Folio window (R488 to R492). -/
structure FolTxn where
  /-- Whose it is. -/
  who : Requester
  /-- It is a write of FOL_PROT: the value, and the code of its master (R495). -/
  prot : Option (Nat × Nat)
  /-- Window offset of the first byte still to be written, or of the first to be read. -/
  off : Nat
  /-- Bytes still to be written; empty for a read. -/
  data : List Byte
  /-- Bytes to be read; 0 for a write. -/
  n : Nat
  deriving DecidableEq, Repr

/-- An internal job of Folio (R490). -/
inductive FolJob where
  /-- Thermal shutdown record. -/
  | thermal
  /-- Session marker. -/
  | session
  /-- Persistent Annals entry: RTC, and bytes 8 to 15 of the ring entry. -/
  | annals (rtc : Nat) (body : List Byte)
  /-- Optimal-start rates. -/
  | rates
  /-- Vault copy. -/
  | vault
  /-- Remap copy of a page. -/
  | remap (p : Nat)
  /-- Protection update. -/
  | prot (v : Nat)
  deriving DecidableEq, Repr

/-- A job in hand and the groups of pages that are still to be programmed. -/
structure FolWork where
  /-- The job. -/
  job : FolJob
  /-- Groups still to be programmed, the first being next or in progress. -/
  todo : List (List PageProg)
  deriving DecidableEq, Repr

/-- Whose program runs. -/
inductive ProgSrc where
  /-- A master's transaction. -/
  | txn
  /-- The job in hand. -/
  | job
  /-- The power-down save. -/
  | save
  /-- The protection cells. -/
  | prot (v : Nat)
  /-- The map entry of a page: its spare. -/
  | map (p k : Nat)
  deriving DecidableEq, Repr

/-- The program in progress. -/
structure FolProg where
  /-- Whose it is. -/
  src : ProgSrc
  /-- What it writes. -/
  pages : List PageProg
  deriving DecidableEq, Repr

/-- Folio. -/
structure Folio where
  /-- Bytes by physical address, 64 to a physical page; none is a byte whose check fails; a byte that is not listed
  holds 0xFF and passes (R486, R487). -/
  cells : List (Nat × Option Byte)
  /-- Write counts of physical pages, 0 where not listed (R510). -/
  counts : List (Nat × Nat)
  /-- Pages marked torn (R497, R499). -/
  torn : List Nat
  /-- Write-intent cell of each bank (R486). -/
  intent : List (Option Nat)
  /-- Map entries: remapped page and its spare (R509). -/
  map : List (Nat × Nat)
  /-- Spares in use in each bank. -/
  used : List Nat
  /-- Stored protection (R495). -/
  prot : Nat
  /-- Save latch of each bank (R486, R505). -/
  latch : List (List Byte)
  /-- Internal jobs queued, oldest first (R491). -/
  jobs : List FolJob
  /-- The job in hand. -/
  hand : Option FolWork
  /-- Master transactions that wait, oldest first. -/
  txns : List FolTxn
  /-- A write transaction part-way: what is left after the page in progress. -/
  txn : Option FolTxn
  /-- The program in progress. -/
  prog : Option FolProg
  /-- An open service-port transaction holds Folio between its words (R584). -/
  held : Bool
  /-- The restore of R503 has ended since power-on. -/
  restored : Bool
  /-- A save has been made since power-on (R505). -/
  saveMade : Bool
  deriving DecidableEq, Repr

/-- Thermal watch. -/
structure Thermal where
  /-- For each sensor, the consecutive samples toward a change of WLO, WHI, WV and HV (R516). -/
  runs : List (List Nat)
  /-- Consecutive samples of 200 °C or more (R514). -/
  opens : List Nat
  /-- Consecutive samples of -60 °C or less. -/
  shorts : List Nat
  /-- Consecutive samples below 115 °C, up to 10 000 (R526). -/
  cool : List Nat
  /-- Normal samples since the last test sample, up to 1 024. -/
  samples : Nat
  /-- Consecutive AON comparator samples toward a change (R515). -/
  aonRun : Nat
  /-- The unit is in THERMAL_HALT. -/
  halt : Bool
  /-- NUM of the record that is being programmed (R530). -/
  progNum : Option Nat
  deriving DecidableEq, Repr

/-- An encoder: the filtered levels of its pins and how far a detent has come (R546 to R548). Held in AON. -/
structure Enc where
  /-- Level of ENCk_A. -/
  a : Bool
  /-- Level of ENCk_B. -/
  b : Bool
  /-- ENCk_SW is low: the switch is pressed. -/
  sw : Bool
  /-- Steps away from the rest state, those of 11, 01, 00, 10 counted up; none while decoding waits for 11. -/
  steps : Option Int
  deriving DecidableEq, Repr

/-- The panel: what no register holds. -/
structure Panel where
  /-- The scan in progress is a fast one (R536). -/
  fast : Bool
  /-- The two encoders. -/
  encs : List Enc
  /-- Key matrix as the last scan read it. -/
  raw : Nat
  /-- Consecutive equal scans of each key, up to 4 (R538). -/
  runs : List Nat
  /-- Debounced-pressed keys. -/
  deb : Nat
  /-- Time of each key toward being masked or unmasked, in 0.25 ms (R540). -/
  time : List Nat
  /-- Timer of each combination, in 0.25 ms (R542). -/
  timers : List Nat
  deriving DecidableEq, Repr

/-- A snapshot whose copies have been taken and not stored yet (R557). -/
structure Snap where
  /-- CRT_FRAMENO of its tick. -/
  frame : Nat
  /-- RTC seconds. -/
  rtc : Nat
  /-- The counters. -/
  vals : List Nat
  deriving DecidableEq, Repr

/-- Foxing: what no register holds. -/
structure Foxing where
  /-- RTC second edges since the last scan fell due. -/
  secs : Nat
  /-- A scan is due. -/
  scanDue : Bool
  /-- A scan has been made since the last re-plan. -/
  scanned : Bool
  /-- CREF of the first scan after the last re-plan (R566). -/
  cref0 : Int
  /-- Consecutive re-plans with Smin at TARGET + BAND or more (R569). -/
  hiRuns : Nat
  /-- Consecutive re-plans with DRIFT below DRLO (R573). -/
  loRuns : Nat
  /-- Re-plans since reset, modulo 24 (R575). -/
  replans : Nat
  /-- A re-plan is due. -/
  replanDue : Bool
  /-- The accumulator EQ (R567), held in AON. -/
  eq : Nat
  /-- A power-on reset has still to restore EQ. -/
  eqDue : Bool
  deriving DecidableEq, Repr

/-- Clocks: what no register shows. -/
structure Clocks where
  /-- The AON domain runs from the crystal (R608). -/
  aonXtal : Bool
  /-- The tick reaches LINK after three cycles, not two (R35). -/
  link3 : Bool
  /-- The boot in progress, or the last one, followed a power-on reset. -/
  por : Bool
  /-- The crystal has stopped: no XIN edge for 4 AON periods (R54, R536). -/
  lost : Bool
  deriving DecidableEq, Repr

/-- The service port: what no register holds. -/
structure Svc where
  /-- A READ, WRITE or WRITEB is open whose host clocks on only at wait points, its status byte among them. -/
  split : Bool
  /-- Words sent on SV_MISO in the last READ. -/
  miso : List Word
  /-- The status byte last sent. -/
  status : Byte
  /-- The last READ, WRITE or WRITEB failed or was aborted (R598). -/
  lastErr : Bool
  deriving DecidableEq, Repr

/-- The state of the part. -/
structure State where
  /-- Commands that wait, first in first out. -/
  pending : List Instr
  /-- Registers that do not hold their reset word, addresses rising. -/
  regs : List (Nat × Word)
  /-- Main SRAM and Vault: bytes that are not 0, addresses rising. -/
  mem : List Host.Cell
  /-- Shadowed writes that wait for a tick, oldest first (R37). -/
  shadow : List (Nat × Word)
  /-- How many values the manual leaves open have been used. The model's own field. -/
  freeCount : Nat
  /-- The Annals FIFO, oldest first (R559). -/
  annFifo : List AnnEvent
  /-- Frames for which BOOT_SHADOWCTL.HOLD has been 1 (R100). -/
  holdFrames : Nat
  /-- Boot progress. -/
  boot : Boot
  /-- Safe-state bus. -/
  safe : Safe
  /-- Converters and sequencer. -/
  adc : Conv9
  /-- PWM array. -/
  pwm : Pwm
  /-- Control engine. -/
  ce : Engine
  /-- Almanac and Catalogue. -/
  alm : Alm
  /-- The bus controllers CAN0 and CAN1. -/
  can : List CanCtl
  /-- The Zone Protocol layer on CAN0 and CAN1. -/
  zp : List ZpBus
  /-- Pair logic. -/
  pair : Pair
  /-- Folio. -/
  fol : Folio
  /-- Thermal watch. -/
  thm : Thermal
  /-- Panel. -/
  pnl : Panel
  /-- Foxing. -/
  fox : Foxing
  /-- A snapshot to be stored. -/
  snap : Option Snap
  /-- Clocks. -/
  clk : Clocks
  /-- Service port. -/
  svc : Svc
  /-- Requests of masters that are not complete. -/
  reqs : List Req
  deriving DecidableEq, Repr

/-! ### Reset -/

/-- A phase with both switches off. -/
def Phase.reset : Phase := ⟨0, 0, false, false, false, false, -65536, -65536, -65536, -65536, false⟩

/-- A group that drives nothing. -/
def Group.reset : Group := ⟨0, 0, false, false, 0, false, false, 0, 0, List.replicate 3 .reset⟩

/-- The PWM array after reset.
(DESIGN CHOICE, log entry 10, unsafe.) -/
def Pwm.reset : Pwm := ⟨List.replicate 6 .reset, List.replicate 32 ⟨0, 0, false, false, false⟩⟩

/-- Converters and sequencer after reset: nothing runs, and F0 is calibrated first (R128).
(DESIGN CHOICE, log entry 10, unsafe.) -/
def Conv9.reset : Conv9 :=
  { ready := false, wtrim := List.replicate 9 none, prevS := none, sub := none, timer := 0, due := false,
    postponed := false, lastF := 3, rejRun := List.replicate 9 0, unperm := false, inj := List.replicate 8 [],
    reg := List.replicate 8 [], passOn := false, regDue := false, regEdge := none, enNew := false, enDue := false, filedEdge := -1, filed := [],
    shareSeen := false, seqs := List.replicate 8 ⟨0, 0, -1, 0, false, []⟩, ringDec := List.replicate 16 0,
    latchDone := List.replicate 6 false }

/-- A lane with nothing to run. -/
def Lane.reset : Lane := ⟨64, 4, [], [], [], [], none, none, []⟩

/-- A drive that is stopped. -/
def Drive.reset : Drive :=
  ⟨none, false, 0, 0, 0, 0, 0, 0, 0, none, [], none, false, false, false, false, false, false, 0, false, none, false⟩

/-- The control engine after reset.
(DESIGN CHOICE, log entry 10, unsafe.) -/
def Engine.reset : Engine :=
  { lanes := List.replicate 4 .reset, drives := List.replicate 6 .reset, cmds := [], resumed := [],
    gens := List.replicate 8 ⟨false⟩, cap := ⟨none, none, 0, false, false⟩, pis := List.replicate 8 ⟨0⟩,
    clears := [], clearTicks := 0, old := [] }

/-- Nothing evaluated yet. -/
def AlmHidden.reset : AlmHidden :=
  { stageCnt := List.replicate 4 0, minute := 0, mon0 := false, dayType := List.replicate 64 false, ovr := List.replicate 64 0,
    os := List.replicate 64 .idle }

/-- The Almanac after reset.
(DESIGN CHOICE, log entry 10, unsafe.) -/
def Alm.reset : Alm :=
  { due := false, armed := false, running := false, finished := false, staged := [], evals := 0, hid := .reset,
    next := .reset, diRun := List.replicate 16 0, fresh := [] }

/-- A bus controller after reset.
(DESIGN CHOICE, log entry 10, unsafe.) -/
def CanCtl.reset : CanCtl := ⟨none, false, [], false, false, false, [], false, [], []⟩

/-- A stream that has sent nothing. -/
def ZpStream.reset : ZpStream := ⟨0, none, true, []⟩

/-- A partner that has not been heard. -/
def Partner.reset : Partner := ⟨0, 0, 0, 0, none, false, 0, 0, false, false, 0, [], false, .reset⟩

/-- The Zone Protocol layer on one bus after reset.
(DESIGN CHOICE, log entry 10, unsafe.) -/
def ZpBus.reset : ZpBus :=
  { session := 0, wait := [], pub := .reset, bc := .reset, partners := List.replicate 128 .reset, rollCnt := 0,
    rollDue := false, holdEnd := false, good := [], resend := [], mgmt := none }

/-- A Curator's view of a unit of which nothing has been seen.
(DESIGN CHOICE, log entry 10, unsafe.) -/
def CurUnit.reset : CurUnit := ⟨false, 0, 0, 0, false, false, 0, none, none, 0⟩

/-- The pair logic after a power-on reset: the Vault is empty.
(DESIGN CHOICE, log entry 10, unsafe.) -/
def Pair.reset : Pair :=
  { stage := .off, lock0 := false, lock1 := false, slow := false, quiet := 0, mirror := [], peerCk := 0, peerRtc := 0,
    peerRtcSet := false, peerSecs := 0, trim := 0, vaultEmpty := true, complete := false, ckNext := 0, ckDue := 0,
    ckSending := false, ckNum := 0, ckRtc := 0, ckRecs := 0, ckLeft := [], ckOut := [], asm := none, swapLeft := 0,
    hb := false, hs := false, health := 0, healthDue := false, sramNext := 0,
    folioNext := 0, testDue := false, copyDue := false, since := 0, restored := false, calOn := false, seqOn := false,
    linkOut := [], mgmtOut := [], cur := List.replicate 2 .reset, sel := none, setAfter := none }

/-- Folio as it leaves final test (R486).
(DESIGN CHOICE, log entry 91, unsafe.) -/
def Folio.factory : Folio :=
  { cells := [], counts := [], torn := [], intent := List.replicate 4 none, map := [], used := List.replicate 4 0,
    prot := 0, latch := List.replicate 4 [], jobs := [], hand := none, txns := [], txn := none,
    prog := none, held := false, restored := false, saveMade := false }

/-- Thermal watch after reset: every count at zero (R517).
(DESIGN CHOICE, log entry 10, unsafe.) -/
def Thermal.reset : Thermal :=
  { runs := List.replicate 4 [0, 0, 0, 0], opens := List.replicate 4 0, shorts := List.replicate 4 0,
    cool := List.replicate 4 0, samples := 0, aonRun := 0, halt := false, progNum := none }

/-- An encoder after a power-on reset: at rest.
(DESIGN CHOICE, log entry 10, unsafe.) -/
def Enc.reset : Enc := ⟨true, true, false, some 0⟩

/-- The panel after a power-on reset: no key seen.
(DESIGN CHOICE, log entry 10, unsafe.) -/
def Panel.reset : Panel :=
  { fast := true, encs := List.replicate 2 .reset, raw := 0, runs := List.replicate 64 0, deb := 0, time := List.replicate 64 0, timers := List.replicate 4 0 }

/-- Foxing after a power-on reset.
(DESIGN CHOICE, log entry 10, unsafe.) -/
def Foxing.reset : Foxing :=
  { secs := 0, scanDue := false, scanned := false, cref0 := 0, hiRuns := 0, loRuns := 0, replans := 0,
    replanDue := false, eq := 0, eqDue := true }

/-- No boot in progress.
(DESIGN CHOICE, log entry 10, unsafe.) -/
def Boot.reset : Boot :=
  { stage := .reset, ticked := false, counting := false, decided := false, cur := 0, rest := [], alone := false,
    sects := [], seen := [], fprint := 0, format := 0, prog := none, recalled := false,
    enpt := [0, 0, 0, 0], wrote := [], loops := [], reads := false, quadWrite := none, erase4k := 0x20, flashOps := [] }

/-- The part in power-on reset: what RESET_RELEASE finds (R59, R60). -/
def State.reset : State :=
  { pending := [], regs := [], mem := [], shadow := [], freeCount := 0, annFifo := [], holdFrames := 0, boot := .reset,
    safe := ⟨[], false, 0⟩, adc := .reset, pwm := .reset, ce := .reset, alm := .reset,
    can := List.replicate 2 .reset, zp := List.replicate 2 .reset, pair := .reset, fol := .factory, thm := .reset,
    pnl := .reset, fox := .reset, snap := none, clk := ⟨false, false, true, false⟩, svc := ⟨false, [], 0, false⟩, reqs := [] }

end Sys2Proof.Machine
end

