-- ==== Sys2Proof/Machine/Ops.lean ====
section
/-! DEFINITION. The named operations over registers, fields and memory that every meaning uses. -/

namespace Sys2Proof.Machine

/-! ### Numbers -/

/-- Bits `lo + w - 1 : lo` of `x`. -/
def getBits (x lo w : Nat) : Nat := x / 2 ^ lo % 2 ^ w

/-- `x` with bits `lo + w - 1 : lo` replaced by the low `w` bits of `v`. -/
def setBits (x lo w v : Nat) : Nat :=
  x % 2 ^ lo + (v % 2 ^ w) * 2 ^ lo + x / 2 ^ (lo + w) * 2 ^ (lo + w)

/-- Bit `k` of `x`. -/
def bit (x k : Nat) : Bool := x / 2 ^ k % 2 == 1

/-- 1 for true, 0 for false. -/
def b2n (b : Bool) : Nat := if b then 1 else 0

/-- The two's-complement value of the low `w` bits of `x` (R11). -/
def toS (w x : Nat) : Int :=
  if x % 2 ^ w < 2 ^ (w - 1) then (x % 2 ^ w : Nat) else ((x % 2 ^ w : Nat) : Int) - (2 ^ w : Nat)

/-- The low `w` bits of an integer, as a number. -/
def ofI (w : Nat) (i : Int) : Nat := (i % ((2 ^ w : Nat) : Int)).toNat

/-- `i` limited to `lo .. hi`. -/
def clampI (lo hi i : Int) : Int := if i < lo then lo else if hi < i then hi else i

/-- The signed 32-bit range. -/
def sat32 (i : Int) : Int := clampI (-2147483648) 2147483647 i

/-- Does `i` lie outside the signed 32-bit range? -/
def over32 (i : Int) : Bool := decide (i < -2147483648) || decide (2147483647 < i)

/-- Arithmetic shift right: the floor of `i / 2^k`. -/
def asr (i : Int) (k : Nat) : Int := i / ((2 ^ k : Nat) : Int)

/-- Bits of `a` that are also in `m`. -/
def andN (a m : Nat) : Nat := Nat.land a m

/-- Bits of `a` that are not in `m` (32-bit words). -/
def andNot (a m : Nat) : Nat := Nat.land a (4294967295 - m % 4294967296)

/-- Bits of either. -/
def orN (a b : Nat) : Nat := Nat.lor a b

/-- The numbers whose bit is set in `x`, below `n`. -/
def bitsOf (x n : Nat) : List Nat := (List.range n).filter (bit x)

/-! ### Sparse lists in canonical form -/

/-- The value listed at `a`, if any. -/
def lookupAt {β : Type} : List (Nat × β) → Nat → Option β
  | [], _ => none
  | (k, v) :: r, a => if k = a then some v else lookupAt r a

/-- The list without an entry at `a`. -/
def dropAt {β : Type} : List (Nat × β) → Nat → List (Nat × β)
  | [], _ => []
  | (k, v) :: r, a => if k = a then r else if a < k then (k, v) :: r else (k, v) :: dropAt r a

/-- The list with `v` at `a`, addresses kept rising. -/
def putAt {β : Type} : List (Nat × β) → Nat → β → List (Nat × β)
  | [], a, v => [(a, v)]
  | (k, w) :: r, a, v =>
    if k = a then (a, v) :: r else if a < k then (a, v) :: (k, w) :: r else (k, w) :: putAt r a v

/-- The list with the value at `a` set to `v`, no entry being kept where `v` is what an unlisted address reads as. -/
def storeAt {β : Type} [DecidableEq β] (l : List (Nat × β)) (a : Nat) (v dflt : β) : List (Nat × β) :=
  if v = dflt then dropAt l a else putAt l a v

/-- Addresses strictly rising, all above `lo`. -/
def risingFrom {β : Type} : Nat → List (Nat × β) → Bool
  | _, [] => true
  | lo, (k, _) :: r => decide (lo ≤ k) && risingFrom (k + 1) r

/-- The canonical form of a sparse list: addresses strictly rising, no entry equal to its default. -/
def canonical {β : Type} [DecidableEq β] (dflt : Nat → β) (l : List (Nat × β)) : Bool :=
  risingFrom 0 l && l.all (fun e => decide (e.2 ≠ dflt e.1))

/-! ### Memory: one byte per address -/

/-- What a byte reads that nothing has written: 0, but for STAT of a Perennial link's state, which has NOIDX set (R60, R265).
(DESIGN CHOICE, log entry 8, unsafe.) -/
def memReset (a : Nat) : Byte := if 0x141000 ≤ a ∧ a < 0x142000 ∧ a % 32 = 0x1C then 8 else 0

/-- The canonical form of a byte memory. -/
def Memory.wf (m : List Host.Cell) : Bool := canonical memReset m

/-- The byte at `a`. -/
def Memory.byte (m : List Host.Cell) (a : Nat) : Byte :=
  match lookupAt m a with
  | some b => b
  | none => memReset a

/-- The memory with byte `b` at `a`. -/
def Memory.setByte (m : List Host.Cell) (a : Nat) (b : Byte) : List Host.Cell := storeAt m a b (memReset a)

/-- The little-endian word at `a` (R8). -/
def Memory.word (m : List Host.Cell) (a : Nat) : Nat :=
  (Memory.byte m a).toNat + (Memory.byte m (a + 1)).toNat * 256 + (Memory.byte m (a + 2)).toNat * 65536
    + (Memory.byte m (a + 3)).toNat * 16777216

/-- The memory with the low 32 bits of `v` stored little-endian at `a` (R8). -/
def Memory.setWord (m : List Host.Cell) (a v : Nat) : List Host.Cell :=
  Memory.setByte (Memory.setByte (Memory.setByte (Memory.setByte m a (BitVec.ofNat 8 v))
    (a + 1) (BitVec.ofNat 8 (v / 256))) (a + 2) (BitVec.ofNat 8 (v / 65536))) (a + 3) (BitVec.ofNat 8 (v / 16777216))

/-- The memory with the bytes of `lo ≤ a < hi` as if nothing had written them. -/
def Memory.clear (m : List Host.Cell) (lo hi : Nat) : List Host.Cell :=
  m.filter (fun c => decide (c.1 < lo) || decide (hi ≤ c.1))

/-- The little-endian number that a list of bytes spells. -/
def leNat : List Byte → Nat
  | [] => 0
  | b :: r => b.toNat + 256 * leNat r

/-- The low `n` bytes of a number, least significant first. -/
def leBytes : Nat → Nat → List Byte
  | 0, _ => []
  | n + 1, v => BitVec.ofNat 8 v :: leBytes n (v / 256)

/-! ### Registers and fields -/

/-- The register file in canonical form: no register listed with its reset word.
(DESIGN CHOICE, log entry 9, unsafe.) -/
def regsWf (r : List (Nat × Word)) : Bool := canonical resetWord r

/-- The word held at register address `a`.
(DESIGN CHOICE, log entry 9, unsafe.) -/
def State.rd (s : State) (a : Nat) : Nat :=
  match lookupAt s.regs a with
  | some w => w.toNat
  | none => (resetWord a).toNat

/-- The state with the low 32 bits of `v` held at register address `a`.
(DESIGN CHOICE, log entry 9, unsafe.) -/
def State.wr (s : State) (a v : Nat) : State :=
  { s with regs := storeAt s.regs a (BitVec.ofNat 32 v) (resetWord a) }

/-- The value of a field. -/
def State.f (s : State) (x : Fld) : Nat := getBits (s.rd x.addr) x.lo x.width

/-- Is a one-bit field set? -/
def State.on (s : State) (x : Fld) : Bool := s.f x == 1

/-- The two's-complement value of a field. -/
def State.fi (s : State) (x : Fld) : Int := toS x.width (s.f x)

/-- The state with a field set to the low bits of `v`. -/
def State.setF (s : State) (x : Fld) (v : Nat) : State := s.wr x.addr (setBits (s.rd x.addr) x.lo x.width v)

/-- The state with a field set to a flag. -/
def State.setB (s : State) (x : Fld) (b : Bool) : State := s.setF x (b2n b)

/-- The state with a field set to the low bits of an integer. -/
def State.setI (s : State) (x : Fld) (i : Int) : State := s.setF x (ofI x.width i)

/-- The state with the bits `m` of a field also set. -/
def State.orF (s : State) (x : Fld) (m : Nat) : State := s.setF x (orN (s.f x) m)

/-- The state with bit `k` of a field set. -/
def State.setBit (s : State) (x : Fld) (k : Nat) : State := s.orF x (2 ^ k)

/-- The state with bit `k` of a field cleared. -/
def State.clrBit (s : State) (x : Fld) (k : Nat) : State := s.setF x (andNot (s.f x) (2 ^ k))

/-- Add to a saturating counter (R20). -/
def State.add (s : State) (x : Fld) (n : Nat) : State := s.setF x (min (s.f x + n) (2 ^ x.width - 1))

/-- Add 1 to a saturating counter (R20). -/
def State.inc (s : State) (x : Fld) : State := s.add x 1

/-- The word of memory at `a`. -/
def State.mw (s : State) (a : Nat) : Nat := Memory.word s.mem a

/-- The signed word of memory at `a`. -/
def State.mi (s : State) (a : Nat) : Int := toS 32 (s.mw a)

/-- The byte of memory at `a`. -/
def State.mb (s : State) (a : Nat) : Nat := (Memory.byte s.mem a).toNat

/-- The state with a word of memory stored. -/
def State.setM (s : State) (a v : Nat) : State := { s with mem := Memory.setWord s.mem a v }

/-- The state with a signed word of memory stored. -/
def State.setMI (s : State) (a : Nat) (v : Int) : State := s.setM a (ofI 32 v)

/-- The state with a byte of memory stored. -/
def State.setMB (s : State) (a v : Nat) : State := { s with mem := Memory.setByte s.mem a (BitVec.ofNat 8 v) }

/-- The state with a list of bytes of memory stored from `a` onward. -/
def State.setBytes (s : State) (a : Nat) (l : List Byte) : State :=
  { s with mem := (l.zipIdx).foldl (fun m p => Memory.setByte m (a + p.2) p.1) s.mem }

/-- Is `a` an address of a memory region held in `mem`: main SRAM or the Vault (R580)? -/
def inMem (a : Nat) : Bool := decide (a < 0x200000) || (decide (0x220000 ≤ a) && decide (a < 0x230000))

/-- The word at `a`, memory or register, with no access rule. -/
def State.peek (s : State) (a : Nat) : Nat := if inMem a then s.mw a else s.rd a

/-- The state with the word at `a`, memory or register, set with no access rule. -/
def State.poke (s : State) (a v : Nat) : State := if inMem a then s.setM a v else s.wr a v

/-- The next value that the manual leaves open, and the state that has used it.
(DESIGN CHOICE, log entry 6, safe.) -/
def State.free (s : State) : Nat × State :=
  ((Config.freeWord s.freeCount).toNat, { s with freeCount := s.freeCount + 1 })

/-- `f` on the element at `n`, the list's other elements kept. -/
def updAt {α : Type} (l : List α) (n : Nat) (f : α → α) : List α :=
  match l[n]? with
  | some x => l.set n (f x)
  | none => l

/-- Run `f` for each element in turn. -/
def State.each {α : Type} (s : State) (l : List α) (f : State → α → State) : State := l.foldl f s

/-- `f` when `b`, the same state otherwise. -/
def State.cond (s : State) (b : Bool) (f : State → State) : State := if b then f s else s

/-! ### Conditions of the structural checks -/

/-- The numbers of the conditions of a list that do not hold, each as a path of one step. -/
def failing (l : List (Nat × Bool)) : List (List Nat) := (l.filter (fun c => !c.2)).map (fun c => [c.1])

/-- Conditions of the part numbered `k` of a larger check. -/
def within (k : Nat) (l : List (List Nat)) : List (List Nat) := l.map (k :: ·)

/-- The conditions that fail in the parts 0 to `n - 1` of a check. -/
def withinEach (n : Nat) (f : Nat → List (List Nat)) : List (List Nat) :=
  (List.range n).flatMap (fun k => within k (f k))

/-- The pairs of items of a list, each numbered, that `bad` finds at odds. -/
def pairsBad {α : Type} (bad : α → α → Bool) : List (Nat × α) → List (List Nat)
  | [] => []
  | (i, a) :: r => (r.filter (fun x => bad a x.2)).map (fun x => [i, x.1]) ++ pairsBad bad r

/-! ### Annals, Ledger and STATE_REJECT -/

/-- The counters of the Ledger that are enabled for source `src` (R552). Only listed registers can be enabled. -/
def ledgerHits (regs : List (Nat × Word)) (src : Nat) : List Nat :=
  regs.filterMap (fun e =>
    if decide (0x400D0100 ≤ e.1) && decide (e.1 < 0x400D0300) && decide ((e.1 - 0x400D0100) % 16 = 0)
        && decide (e.2.toNat / 2 ^ 31 = 1) && decide (e.2.toNat % 256 = src) then
      some ((e.1 - 0x400D0100) / 16)
    else none)

/-- Add `n` to the 48-bit counter `k` (R552, R20). -/
def State.ledgerAdd (s : State) (n k : Nat) : State :=
  let c := min (s.f (F.LDG_CNT_LO k) + s.f (F.LDG_CNT_HI_COUNT k) * 2 ^ 32 + n) (2 ^ 48 - 1)
  (s.setF (F.LDG_CNT_LO k) (c % 2 ^ 32)).setF (F.LDG_CNT_HI_COUNT k) (c / 2 ^ 32)

/-- `n` occurrences of event source `src` (R552 to R554). -/
def State.ledgerN (s : State) (src n : Nat) : State :=
  (ledgerHits s.regs src).foldl (fun t k => t.ledgerAdd n k) s

/-- One occurrence of event source `src`. -/
def State.ledger (s : State) (src : Nat) : State := s.ledgerN src 1

/-- Count an event: its block counter and its Ledger source. -/
def State.count (s : State) (x : Fld) (src : Nat) : State := (s.inc x).ledger src

/-- Log an event: it enters the FIFO with the frame number and the RTC of now, or is lost when the FIFO is full
(R558, R559). -/
def State.log (s : State) (subsys code arg detail : Nat) (cont : Option Nat) (crit : Bool) : State :=
  if s.annFifo.length < 32 then
    { s with annFifo := s.annFifo ++ [{
        frame := s.f F.CRT_FRAMENO, rtc := s.f F.ALM_RTC,
        rtcSet := s.on F.ALM_STAT_RTCSET,
        subsys := subsys, code := code, arg := arg % 65536, detail := detail % 2 ^ 32,
        cont := cont.map (· % 2 ^ 32), crit := crit }] }
  else s.inc F.ANL_LOSTCNT

/-- Events that `f` raises in one SYS cycle: they enter the FIFO in ascending order of SUBSYS, as far as it has room (R559). -/
def State.inCycle (s : State) (f : State → State) : State :=
  let t := f { s with annFifo := [] }
  let new := (List.range 32).flatMap (fun k => t.annFifo.filter (fun e => e.subsys == k))
  let room := 32 - s.annFifo.length
  { t with annFifo := s.annFifo ++ new.take room }.each (List.range (new.length - room)) (fun u _ => u.inc F.ANL_LOSTCNT)

/-- Number of the register block that holds address `a`: 0 CRT to 14 SVC; 15 for a memory address. -/
def blockOf (a : Nat) : Nat := if a < 0x40000000 then 15 else (a - 0x40000000) / 0x10000

/-- What a Curator holds in reset: the registers of ADC to ZP and of FOL, the Catalogue and the Almanac's tables, and the
memories of the engine and the sequencer (R460, R580).
(DEDUCED, log entry 123, unsafe.) -/
def curatorHeld (a : Nat) : Bool :=
  (decide (2 ≤ blockOf a) && decide (blockOf a ≤ 8)) || blockOf a == 0xA || decide (a < 0x2B800)
    || (decide (0x100000 ≤ a) && decide (a < 0x200000))

/-- The image target code of the block that holds address `a`; 0 for a memory region (SVC_REJINFO, R602). -/
def subsysOf (a : Nat) : Nat :=
  if a < 0x40000000 then 0
  else
    let k := (a - 0x40000000) / 0x10000
    if k = 13 then (if (a - 0x40000000) % 0x10000 < 0x8000 then 0x0E else 0x0F)
    else if k = 14 then 0x10 else if k < 13 then k + 1 else 0

/-- The Annals code of a master (R583). -/
def masterCode : Master → Nat
  | .port => 0
  | .peer => 1
  | .partner => 2

/-- A discarded write is logged, counted and reported (R589). `who` is the master code, 3 for the device itself.
(DEDUCED, log entry 45, unsafe.) -/
def State.reject (s : State) (who a : Nat) : State :=
  let s := s.log (subsysOf a) 0x01 who a none false
  let s := s.ledger 11
  let s := s.setF F.SVC_REJADDR a
  let s := (s.setF F.SVC_REJINFO_SUBSYS (subsysOf a)).setF F.SVC_REJINFO_MASTER who
  s.setF F.SVC_IRQST_REJECT 1

/-! ### Counters (R58) -/

/-- The counters that the bits of a clear register select, lowest bit first, by address. -/
def counterList (a : Nat) : List Nat :=
  match a with
  | 0x40000054 => [0x40000044, 0x40000048, 0x4000004C, 0x40000050]
  | 0x40020050 => [0x40020040, 0x40020044, 0x40020048, 0x4002004C]
  | 0x40030050 => [0x40030040, 0x40030044, 0x40030048, 0x4003004C]
  | 0x40050014 => [0x4005000C, 0x40050010]
  | 0x40050034 => [0x40050028, 0x4005002C, 0x40050030]
  | 0x40050054 => [0x4005004C, 0x40050050]
  | 0x4006004C => [0x40060040, 0x40060044, 0x40060048]
  | 0x400700CC => (List.range 7).map (fun k => 0x400700B0 + 4 * k)
  | 0x400780CC => (List.range 7).map (fun k => 0x400780B0 + 4 * k)
  | 0x40080078 => (List.range 10).map (fun k => 0x40080050 + 4 * k)
  | 0x40090058 => (List.range 6).map (fun k => 0x40090040 + 4 * k)
  | 0x400A0050 => (List.range 4).map (fun k => 0x400A0040 + 4 * k)
  | 0x400B0038 => [0x400B0030, 0x400B0034]
  | 0x400C0070 => (List.range 4).map (fun k => 0x400C0060 + 4 * k)
  | 0x400D0814 => [0x400D080C, 0x400D0810]
  | 0x400E0038 => [0x400E0030, 0x400E0034]
  | _ =>
    if a = 0x40040010 then
      (List.range 24).map (fun k => 0x4004013C + 0x80 * (k / 4) + 4 * (k % 4))
    else if 0x40050200 ≤ a ∧ a < 0x40050380 ∧ (a - 0x40050200) % 0x40 = 0x20 then
      [a - 0xC, a - 8, a - 4]
    else []

/-- A write of a clear register: the selected counters become 0; HEADMIN returns the minima to 0xFFFF, and the peak
temperature starts anew. -/
def State.counterClr (s : State) (a w : Nat) : State :=
  let s := (counterList a).zipIdx.foldl (fun t p => if bit w p.2 then t.wr p.1 0 else t) s
  if a = 0x40000054 ∧ bit w 4 then s.each (List.range 4) (fun t k => t.setF (F.CRT_HEAD_MIN k) 0xFFFF)
  else if a = 0x400B0038 ∧ bit w 2 then s.setF F.THM_MAX_PEAK 0x8000
  else s

end Sys2Proof.Machine
end

