-- ==== Sys2Proof/Machine/Flags.lean ====
section
/-! DEFINITION. The arithmetic of the control engine, to the bit (R204 to R217, R243, R292, R294, R198): rounding,
products, saturation with its flag, conversion, sections, shaper, rotator widths, and the tables they use. -/

namespace Sys2Proof.Machine

/-! ### Rounding and products -/

/-- `rnd` of R208: the rounded shift right by `s`; `s = -1` shifts left by one. -/
def rnd (p : Int) (s : Int) : Int :=
  if 0 < s then (p + (2 ^ (s.toNat - 1) : Nat)) / (2 ^ s.toNat : Nat) else if s = 0 then p else p * 2

/-- `term` of R208: the coefficient `(c, e)` times the signal `v`. -/
def term (c e v : Int) : Int := rnd (c * v) (30 - e)

/-- The value of R209 and whether it was changed. -/
def satF (i : Int) : Int × Bool := (sat32 i, over32 i)

/-- The conversion of R206 from format Q.a to format Q.b, and whether it saturated. -/
def conv (a b : Nat) (v : Int) : Int × Bool :=
  if a ≤ b then satF (v * (2 ^ (b - a) : Nat)) else (rnd v (a - b : Nat), false)

/-- `rdiv` of R292: the quotient rounded half up. A divisor of 0 is never used. -/
def rdiv (a b : Int) : Int := if b < 0 then (2 * (-a) + (-b)) / (2 * (-b)) else (2 * a + b) / (2 * b)

/-- `mul16` of R292. -/
def mul16 (a b : Int) : Int := sat32 (rnd (a * b) 16)

/-- The sign of an integer, 0 for 0. -/
def sgnI (i : Int) : Int := if 0 < i then 1 else if i < 0 then -1 else 0

/-! ### Tables -/

/-- The floor of `pi * 2^100`. -/
def piFix : Nat := 3982441812995697363688351113952

/-- The Taylor terms of the sine: `t` is the term in hand, `x2` the square of the angle, both scaled by `2^100`. -/
def sinTerms : Nat → Nat → Nat → Nat → Int
  | 0, _, t, _ => t
  | fuel + 1, n, t, x2 => (t : Int) - sinTerms fuel (n + 1) (t * x2 / 2 ^ 100 / ((2 * n) * (2 * n + 1))) x2

/-- `round(32767 * sin(2*pi*i/4096))` for the first quarter turn, `i` from 0 to 1024. -/
def sinQuarter (i : Nat) : Nat :=
  let x := piFix * i / 2048
  ((2 * 32767 * sinTerms 13 1 x (x * x / 2 ^ 100) + (2 ^ 100 : Nat)) / (2 ^ 101 : Nat)).toNat

/-- `sintab[i]` of R198, `i` taken modulo 4096. -/
def sintab (i : Nat) : Int :=
  let k := i % 4096
  if k ≤ 1024 then (sinQuarter k : Nat)
  else if k ≤ 2048 then (sinQuarter (2048 - k) : Nat)
  else if k ≤ 3072 then -(sinQuarter (k - 2048) : Int)
  else -(sinQuarter (4096 - k) : Int)

/-- `atntab` of R294. -/
def atntab : List Int :=
  [536870912, 316933406, 167458907, 85004756, 42667331, 21354465, 10679838, 5340245, 2670163, 1335087, 667544,
    333772, 166886, 83443, 41722, 20861]

/-- The loop of R294: the remaining iterations `i, i + 1, …` on `(x, y, r)`. -/
def atanLoop : List Int → Nat → Int → Int → Int → Int
  | [], _, _, _, r => r
  | t :: ts, i, x, y, r =>
    if 0 < y then atanLoop ts (i + 1) (x + asr y i) (y - asr x i) (r + t)
    else atanLoop ts (i + 1) (x - asr y i) (y + asr x i) (r - t)

/-- `atan2` of R294: an angle with 2^32 per revolution. -/
def atan2 (y x : Int) : Nat :=
  if x = 0 ∧ y = 0 then 0
  else if x < 0 then ofI 32 (atanLoop atntab 0 (-x) (-y) 2147483648)
  else ofI 32 (atanLoop atntab 0 x y 0)

/-! ### Sections (R211 to R213) -/

/-- A section: mantissas, exponents, control and state. -/
structure Sect where
  /-- Mantissa of b0. -/
  b0 : Int
  /-- Mantissa of b1. -/
  b1 : Int
  /-- Mantissa of b2. -/
  b2 : Int
  /-- Mantissa of a1. -/
  a1 : Int
  /-- Mantissa of a2. -/
  a2 : Int
  /-- The EXP word. -/
  ex : Nat
  /-- SCTL.INTEG. -/
  integ : Bool
  /-- SCTL.SGN. -/
  neg : Bool
  /-- State X1. -/
  x1 : Int
  /-- State X2. -/
  x2 : Int
  /-- State Y1. -/
  y1 : Int
  /-- State Y2. -/
  y2 : Int
  deriving DecidableEq, Repr

/-- What a section's run gives. -/
structure SectOut where
  /-- Output. -/
  out : Int
  /-- New X1. -/
  x1 : Int
  /-- New X2. -/
  x2 : Int
  /-- New Y1. -/
  y1 : Int
  /-- New Y2. -/
  y2 : Int
  /-- Frozen in this run (R212). -/
  froze : Bool
  /-- `sat32` saturated and the section was not frozen (R213). -/
  sat : Bool
  deriving DecidableEq, Repr

/-- One run of a section (R211, R212); `hi` and `lo` say how the output limiter clamped in the last completed run. -/
def Sect.run (c : Sect) (x : Int) (hi lo : Bool) : SectOut :=
  let acc := term c.b0 (toS 6 c.ex) x + term c.b1 (toS 6 (c.ex / 2 ^ 6)) c.x1 + term c.b2 (toS 6 (c.ex / 2 ^ 12)) c.x2
    - term c.a1 (toS 6 (c.ex / 2 ^ 18)) c.y1 - term c.a2 (toS 6 (c.ex / 2 ^ 24)) c.y2
  let y := sat32 acc
  let d := if c.neg then -(y - c.y1) else y - c.y1
  if c.integ && ((hi && decide (0 < d)) || (lo && decide (d < 0))) then
    ⟨c.y1, c.x1, c.x2, c.y1, c.y2, true, false⟩
  else ⟨y, x, c.x1, y, c.y1, false, over32 acc⟩

/-- The state that a transfer run presets (R257): `x` is the section's input, `yl` the required output. -/
def presetSect (x yl : Int) : SectOut := ⟨yl, x, x, yl, yl, false, false⟩

/-! ### The setpoint shaper (R243) -/

/-- `sd` of R243: the distance still run after a step `c > 0`. -/
def shaperDist (acc c : Int) : Int :=
  let n := (c - 1) / acc
  n * c - acc * n * (n + 1) / 2

/-- `fits` of R243. -/
def shaperFits (acc c d : Int) : Bool := decide (c ≤ 0) || decide (c + shaperDist acc c ≤ d)

/-- One run of the shaper: the new SPSH, the new SPVEL and whether sat32 acted on SPSH. A speed away from the target above
a lowered SHRATE follows the program of R243, not the sentence of R245.
(DESIGN CHOICE, log entry 127, unsafe.) -/
def shaper (shrate shacc t spsh spvel : Int) : Int × Int × Bool :=
  let rate := max shrate 0
  let acc := max (min shacc rate) 0
  let e := t - spsh
  if rate = 0 then (t, 0, false)
  else if acc = 0 then
    let v := clampI (-rate) rate e
    (sat32 (spsh + v), v, over32 (spsh + v))
  else if e.natAbs ≤ acc.natAbs ∧ (e - spvel).natAbs ≤ acc.natAbs then (t, e, false)
  else
    let sg := if e = 0 then sgnI spvel else sgnI e
    let u := sg * spvel
    let d : Int := e.natAbs
    let c1 := min (u + acc) rate
    let c2 := min u rate
    let c := if shaperFits acc c1 d then c1 else if shaperFits acc c2 d then c2 else min (u - acc) rate
    (sat32 (spsh + sg * c), sg * c, over32 (spsh + sg * c))

/-! ### The coast rotator's widths (R198) -/

/-- The three widths of R198 for angle `a`, voltage `vd`, `vq` and period `np`, and whether a clamp acted. -/
def rotatorWidths (a : Nat) (vd vq : Int) (np : Nat) : List Nat × Bool :=
  let k := a % 2 ^ 32 / 2 ^ 20
  let sn := sintab k
  let cs := sintab (k + 1024)
  let al := asr (vd * cs - vq * sn + 16384) 15
  let be := asr (vd * sn + vq * cs + 16384) 15
  let u := al
  let v := asr (-al * 16384 + be * 28378 + 16384) 15
  let w := asr (-al * 16384 - be * 28378 + 16384) 15
  let m := asr (max (max u v) w + min (min u v) w) 1
  let raw := fun (x : Int) => ((np / 2 : Nat) : Int) + asr ((x - m) * np + 16384) 15
  let wid := fun (x : Int) => (clampI 0 np (raw x)).toNat
  ([wid u, wid v, wid w],
    [raw u, raw v, raw w].any (fun x => decide (x < 0) || decide ((np : Int) < x)))

/-! ### Converter coding (R139, R159) and small helpers -/

/-- The shaper of R159 and R160: the value in Q16.16 and whether it saturated. -/
def resultShape (en : Bool) (gain ofs : Int) (gsh : Nat) (x : Int) : Int × Bool :=
  if en then
    let p := x * gain
    satF ((if 0 < gsh then asr (p + (2 ^ (gsh - 1) : Nat)) gsh else p) + ofs)
  else (x * 65536, false)

/-- The weights AF(T) of R567 for T from 8 to 50 degrees. -/
def afLow : List Nat :=
  [1, 1, 1, 1, 1, 1, 1, 1, 1, 1, 1, 2, 2, 2, 2, 2, 2, 3, 3, 3, 3, 4, 4, 5, 5, 5, 6, 6, 7, 8, 8, 9, 10, 11, 12,
    13, 14, 15, 16, 17, 19, 20, 22]

/-- The weights AF(T) of R567 for T from 51 to 100 degrees. -/
def afMid : List Nat :=
  [24, 26, 28, 30, 32, 35, 37, 40, 43, 47, 50, 54, 58, 62, 67, 72, 77, 83, 89, 95, 102, 109, 117, 125, 133,
    143, 152, 163, 174, 186, 198, 211, 225, 240, 256, 273, 290, 309, 329, 350, 372, 395, 420, 446, 474, 503,
    534, 567, 601, 637]

/-- The weights AF(T) of R567 for T from 101 to 150 degrees. -/
def afHigh : List Nat :=
  [675, 716, 758, 803, 850, 899, 951, 1006, 1064, 1125, 1188, 1255, 1326, 1400, 1478, 1559, 1645, 1735, 1829,
    1928, 2032, 2141, 2255, 2374, 2500, 2631, 2768, 2912, 3062, 3219, 3384, 3556, 3736, 3924, 4121, 4326,
    4541, 4765, 4999, 5243, 5498, 5764, 6042, 6331, 6633, 6947, 7275, 7617, 7973, 8344]

/-- AF(T) of R567: `round(256 * exp(8123.5 * (1/358.15 - 1/(T + 273.15))))`, T clamped to -40 to 150 degrees. It is 0
below 8 degrees. -/
def agingWeight (t : Int) : Nat :=
  if t < 8 then 0 else (afLow ++ afMid ++ afHigh).getD ((min t 150) - (8)).toNat 0

end Sys2Proof.Machine
end

