-- ==== Sys2Proof/Machine/Operands.lean ====
section
/-! DEFINITION. The operand forms: Catalogue points (R337 to R345), loop sources and destinations (R205, R221, R230),
drive-chain signals (R289), latch and latest-value entries (R163, R164), and the words of the records in CE memory. -/

namespace Sys2Proof.Machine

/-! ### Unit, thermal and frame levels that many meanings read -/

/-- The unit state code (R445). -/
def State.unitCode (s : State) : Nat := s.f F.PAIR_STAT_STATE

/-- Step 7 has decided the unit state, the unit is not in RECOVERY, and it is no Curator (R460). -/
def State.unitKnown (s : State) : Bool :=
  s.boot.decided && !s.on F.BOOT_STAT_RECOVERY && s.f F.PAIR_CFG_MODE != 2

/-- The image declares the unit paired (R444). -/
def State.paired (s : State) : Bool := s.f F.PAIR_CFG_MODE == 1

/-- The unit is a Curator (R460). -/
def State.curator (s : State) : Bool := s.f F.PAIR_CFG_MODE == 2

/-- The subsystems that a Curator does not run are held in reset: from the decision of step 7 on (R460).
(DEDUCED, log entry 123, unsafe.) -/
def State.plantHeld (s : State) : Bool := s.curator && s.boot.decided

/-- PLL_M has locked since reset: SYS runs, and the service port is served (R598). -/
def State.portLive (s : State) : Bool := s.boot.stage != .reset && s.boot.stage != .pll

/-- The unit is in THERMAL_HALT. -/
def State.halted (s : State) : Bool := s.thm.halt

/-- The unit is ACTIVE. -/
def State.active (s : State) : Bool := s.unitKnown && s.unitCode == 0

/-- The unit is a standby: SHELVED or REJOINING. -/
def State.standby (s : State) : Bool := s.unitKnown && (s.unitCode == 1 || s.unitCode == 3)

/-- The pins of drives and general channels are driven: ACTIVE or RESTORING, from the first tick on (R64, R445). -/
def State.drivesPins (s : State) : Bool := s.boot.ticked && s.unitKnown && (s.unitCode == 0 || s.unitCode == 2)

/-- Thermal watch is in WARM. -/
def State.warm (s : State) : Bool := s.f F.THM_STAT_STATE == 1

/-- Thermal watch is in HOT. -/
def State.hot (s : State) : Bool := s.f F.THM_STAT_STATE == 2

/-- Thermal watch sheds optional work: the state is WARM or HOT (R520). -/
def State.sheds (s : State) : Bool := s.warm || s.hot

/-- CRT_FRAMENO. -/
def State.frame (s : State) : Nat := s.f F.CRT_FRAMENO

/-- N_F. -/
def State.nf (s : State) : Nat := s.f F.CRT_FRAMECFG_NF

/-- N_CE = 0.8 N_F (R40). -/
def State.nce (s : State) : Nat := s.nf * 4 / 5

/-- The control engine is stopped (R235). -/
def State.ceStopped (s : State) : Bool := s.on F.CE_STAT_STOPPED

/-- A source of PAIR_FAILMASK occurs (R452): latched when it is enabled and the unit is ACTIVE. -/
def State.failSource (s : State) (k : Nat) : State :=
  s.cond (s.active && bit (s.f F.PAIR_FAILMASK_MASK) k) (·.setBit F.PAIR_FAILSRC_SRC k)

/-! ### Catalogue points -/

/-- Address of Catalogue entry `p`. -/
def ptAddr (p : Nat) : Nat := 32 * p

/-- SRC word of a point. -/
def State.ptSrc (s : State) (p : Nat) : Nat := s.mw (ptAddr p + 4)

/-- KIND of a point's source (R338). -/
def State.ptKind (s : State) (p : Nat) : Nat := s.ptSrc p / 2 ^ 28

/-- VALUE of a point. -/
def State.ptVal (s : State) (p : Nat) : Int := s.mi (ptAddr p + 8)

/-- QUAL word of a point. -/
def State.ptQual (s : State) (p : Nat) : Nat := s.mw (ptAddr p + 12)

/-- TYPE of a point; 0 for an unused entry. -/
def State.ptType (s : State) (p : Nat) : Nat := s.mb (ptAddr p + 2)

/-- A point's value is good (R220): valid, not stale, in range, not broken; a forced point counts as good. -/
def State.ptGood (s : State) (p : Nat) : Bool :=
  let q := s.ptQual p
  bit q 22 || (bit q 20 && !bit q 21 && !bit q 23 && !bit q 24)

/-- Out of range as R341 gives it. -/
def outOfRange (raw lo hi : Int) : Bool := decide (lo ≤ hi) && (decide (raw < lo) || decide (hi < raw))

/-- A refresh or update of a point (R341). -/
def State.ptUpdate (s : State) (p : Nat) (v : Int) (broken : Bool) : State :=
  let a := ptAddr p
  let q := s.mw (a + 12)
  let oor := outOfRange (sat32 v) (s.mi (a + 24)) (s.mi (a + 28))
  let q1 := setBits (setBits (setBits (setBits (setBits q 0 16 0) 20 1 1) 21 1 0) 23 1 (b2n oor)) 24 1 (b2n broken)
  let s := (s.setMI (a + 20) v).setM (a + 12) q1
  if bit q 22 then s else s.setMI (a + 8) v

/-- VALUE, quality and AGE of the entries as an item that starts in CE cycle `t` reads them: a timed write that completes
in that cycle or later is not seen (R56). -/
def State.catAsOf (s : State) (t : Nat) : State :=
  s.ce.old.foldr (fun w u =>
    if t ≤ w.cyc then (u.setM (ptAddr w.p + 8) w.val).setM (ptAddr w.p + 12) w.qual else u) s

/-- A write of entry `p` that completes in CE cycle `c` has been made on `s`, with the outcome `t`: readers that started by
then read what `s` holds (R56). -/
def State.catWritten (s t : State) (p c : Nat) : State :=
  let v := s.mw (ptAddr p + 8)
  let q := s.mw (ptAddr p + 12)
  if t.mw (ptAddr p + 8) = v ∧ t.mw (ptAddr p + 12) = q then t
  else { t with ce := { t.ce with old := t.ce.old ++ [⟨p, c, v, q⟩] } }

/-- The entry `p` as the timed write of it that completes in CE cycle `c` found it; as it is where there is none. -/
def State.catBefore (s : State) (p c : Nat) : State :=
  match s.ce.old.find? (fun w => w.p == p && w.cyc == c) with
  | some w =>
    let t := (s.setM (ptAddr p + 8) w.val).setM (ptAddr p + 12) w.qual
    { t with ce := { t.ce with old := t.ce.old.erase w } }
  | none => s

/-- A write of entry `p` whose instant no command tells: every later reader sees it. -/
def State.catTouched (s : State) (p : Nat) : State :=
  { s with ce := { s.ce with old := s.ce.old.filter (fun w => w.p != p) } }

/-! ### Records of CE memory -/

/-- Word at offset `o` of loop descriptor `i` (R228). -/
def State.ld (s : State) (i o : Nat) : Nat := s.mw (0x100000 + 64 * i + o)

/-- Signed word of a loop descriptor. -/
def State.ldI (s : State) (i o : Nat) : Int := toS 32 (s.ld i o)

/-- Address of loop state record `i` (R232). -/
def lsAddr (i : Nat) : Nat := 0x120000 + 32 * i

/-- OUT of a loop. -/
def State.loopOut (s : State) (i : Nat) : Int := s.mi (lsAddr i)

/-- STAT word of a loop. -/
def State.loopStat (s : State) (i : Nat) : Nat := s.mw (lsAddr i + 0x14)

/-- Live mode of a loop: 0 OFF, 1 MANUAL, 2 AUTO, 3 TRACK. -/
def State.loopMode (s : State) (i : Nat) : Nat := s.loopStat i % 4

/-- EN of a slot (R229). -/
def State.loopEn (s : State) (i : Nat) : Bool := bit (s.ld i 0) 24

/-- FRAC of a slot. -/
def State.loopFrac (s : State) (i : Nat) : Nat := getBits (s.ld i 0) 16 5

/-- CLASS of a slot. -/
def State.loopClass (s : State) (i : Nat) : Nat := s.ld i 0 % 4

/-- LAW of a slot is HYST. -/
def State.loopHyst (s : State) (i : Nat) : Bool := bit (s.ld i 0) 2

/-- LANE of a slot. -/
def State.loopLane (s : State) (i : Nat) : Nat := getBits (s.ld i 0) 4 2

/-- DRIVE of a slot; 7 none. -/
def State.loopDrive (s : State) (i : Nat) : Nat := getBits (s.ld i 0) 21 3

/-- INJ of a slot. -/
def State.loopInj (s : State) (i : Nat) : Nat := getBits (s.ld i 0) 12 2

/-- The slots whose CTL word is listed in memory with EN set, ascending. An unlisted word has EN = 0. -/
def State.enabledSlots (s : State) : List Nat :=
  s.mem.filterMap (fun c =>
    if decide (0x100000 ≤ c.1) && decide (c.1 < 0x108000) && decide (c.1 % 64 = 3) && c.2.toNat % 2 == 1 then
      some ((c.1 - 0x100000) / 64)
    else none)

/-- Address of drive record `d` (R315). -/
def drAddr (d : Nat) : Nat := 0x124000 + 0x100 * d

/-- Word of a drive record. -/
def State.dr (s : State) (d o : Nat) : Nat := s.mw (drAddr d + o)

/-- Signed word of a drive record. -/
def State.drI (s : State) (d o : Nat) : Int := s.mi (drAddr d + o)

/-- The state with a word of a drive record set. -/
def State.setDr (s : State) (d o v : Nat) : State := s.setM (drAddr d + o) v

/-- The state with a signed word of a drive record set. -/
def State.setDrI (s : State) (d o : Nat) (v : Int) : State := s.setMI (drAddr d + o) v

/-- Drive `d` has an enabled chain (R286). -/
def State.chained (s : State) (d : Nat) : Bool := decide (d < 6) && bit (s.dr d 0) 0

/-- RIPEN of drive `d`. -/
def State.ripen (s : State) (d : Nat) : Bool := bit (s.dr d 0) 3

/-- Drive state: 0 STOPPED, 1 BOOTSTRAP, 2 ACQUIRE, 3 POLARITY, 4 FORCED, 5 RUN, 6 SAFESTOP. -/
def State.driveState (s : State) (d : Nat) : Nat := s.dr d 0xD4 % 8

/-- The value of a status item, as an integer (R338). An item that the table does not list has a free value.
(DESIGN CHOICE, log entry 115, safe.) -/
def State.statusItem (s : State) (k : Nat) : Nat :=
  if k = 0 then s.unitCode
  else if k = 1 then s.f F.THM_STAT_STATE
  else if k = 2 ∨ k = 3 then
    s.f (F.CAN_STAT_ERRST (k - 2))
  else if k = 4 ∨ k = 5 then s.f (F.CAN_STAT_ALONE (k - 4))
  else if 8 ≤ k ∧ k < 14 then s.driveState (k - 8)
  else if 16 ≤ k ∧ k < 22 then s.f (F.CE_DR_FAULT_CAUSE (k - 16))
  else if k = 24 then s.f F.ALM_STAT_RTCSET else (Config.freeWord (s.freeCount + k)).toNat

/-- What no record word holds of drive `d`. -/
def State.drv (s : State) (d : Nat) : Drive :=
  s.ce.drives.getD d ⟨none, false, 0, 0, 0, 0, 0, 0, 0, none, [], none, false, false, false, false, false, false, 0, false, none, false⟩

/-- The state with drive `d` changed. -/
def State.setDrv (s : State) (d : Nat) (f : Drive → Drive) : State :=
  { s with ce := { s.ce with drives := updAt s.ce.drives d f } }

/-- Chain signal `k` of drive `d`, Q16.16 (R289).
(DEDUCED, log entry 62, unsafe.) -/
def State.chainSignal (s : State) (d k : Nat) : Int :=
  match k with
  | 0 => s.drI d 0x88
  | 1 => s.drI d 0x8C
  | 2 => s.drI d 0x9C
  | 3 => s.drI d 0xA0
  | 4 => s.drI d 0x98
  | 5 => s.fi (F.CE_DR_SPEED d)
  | 6 => (s.drv d).edff
  | 7 => (s.drv d).eqff
  | 8 => s.drI d 0xD0
  | 9 => s.drI d 0xA4
  | 10 => s.drI d 0xA8
  | _ => 0

/-! ### Result RAM -/

/-- Address of the latest-value entry of input index `i` (R163). -/
def latestAddr (i : Nat) : Nat := 0x1C0000 + 8 * i

/-- The latest value of input index `i`. -/
def State.latest (s : State) (i : Nat) : Int := s.mi (latestAddr i + 4)

/-- Address of latch entry `k` of half `h` of sequence `n` (R164). -/
def latchAddr (n h k : Nat) : Nat := 0x1C1000 + 0x200 * n + 0x100 * h + 8 * k

/-- The value of a latch entry. -/
def State.latchVal (s : State) (n h k : Nat) : Int := s.mi (latchAddr n h k + 4)

/-- Entry `e` of injected sequence `n`, as its 16-bit field. -/
def State.isEnt (s : State) (n e : Nat) : Nat :=
  getBits (s.rd (F.SEQ_IS_ENT_CORELO n (e / 2)).addr) (16 * (e % 2)) 16

/-- Logical core of an entry. -/
def entCore (e : Nat) : Nat := getBits e 8 4

/-- Input index of an entry: 0 to 23 the fast inputs, 24 to 63 the general ones. -/
def entIndex (e : Nat) : Nat := if bit e 6 then 24 + e % 64 else e % 64

/-! ### Sources (R205, R230) -/

/-- The value of a source word read by slot `i`, and its fraction bits.
(DEDUCED, log entry 62, unsafe; DEDUCED, log entry 64, unsafe.) -/
def State.source (s : State) (i w : Nat) : Int × Nat :=
  let x := w % 65536
  match w / 2 ^ 28 with
  | 1 => (s.ldI i 0x18, s.loopFrac i)
  | 2 => (s.ptVal (x % 4096), 16)
  | 3 => (s.latest (x % 64), 16)
  | 4 => (s.latchVal (x / 32 % 8) (s.frame % 2) (x % 32), 16)
  | 5 => (s.fi (F.CE_PI_VALUE (x % 8)), 16)
  | 6 => (s.loopOut (x % 512), s.loopFrac (x % 512))
  | 7 => (s.chainSignal (x / 16) (x % 16), 16)
  | _ => (0, s.loopFrac i)

/-- The source converted to slot `i`'s working format, and whether it saturated (R206).
(DEDUCED, log entry 58, unsafe.) -/
def State.sourceConv (s : State) (i w : Nat) : Int × Bool :=
  let v := s.source i w
  conv v.2 (s.loopFrac i) v.1

/-- The measurement of slot `i` is good (R220). -/
def State.mGood (s : State) (i : Nat) : Bool :=
  let w := s.ld i 0x0C
  !(w / 2 ^ 28 == 2) || s.ptGood (w % 4096)

/-- The track value of slot `i` and whether its conversion saturated (R250, R291). -/
def State.trackValue (s : State) (i : Nat) : Int × Bool :=
  let w := s.ld i 0x30
  let x := w % 65536
  match w / 2 ^ 28 with
  | 1 => conv 0 (s.loopFrac i) (s.f (F.PWM_G_CMP_WIDTH (x / 3) (x % 3)))
  | 2 => conv 0 (s.loopFrac i) (s.f (F.PWM_GP_DUTY_DUTY (x % 32)))
  | 3 => conv 16 (s.loopFrac i) (s.ptVal (x % 4096))
  | 4 => conv (s.loopFrac (x % 512)) (s.loopFrac i) (s.mi (lsAddr (x % 512) + 4))
  | 5 => conv 16 (s.loopFrac i) (match x % 8 with
      | 0 => s.drI (x / 8) 0x9C
      | 1 => s.drI (x / 8) 0xA0
      | 2 => s.drI (x / 8) 0xA4
      | 3 => s.drI (x / 8) 0xA8
      | _ => 0)
  | _ => (0, false)

/-! ### Destinations (R221, R290) -/

/-- What no register holds of drive group `g`. -/
def State.grp (s : State) (g : Nat) : Group := s.pwm.groups.getD g ⟨0, 0, false, false, 0, false, false, 0, 0, []⟩

/-- The state with drive group `g` changed. -/
def State.setGrp (s : State) (g : Nat) (f : Group → Group) : State :=
  { s with pwm := { s.pwm with groups := updAt s.pwm.groups g f } }

/-- A write of a compare buffer: ignored while the rotator supplies the widths (R197). -/
def State.writeCompare (s : State) (g x v : Nat) : State :=
  if (s.grp g).coasting then s else s.setF (F.PWM_G_CMP_WIDTH g x) v

/-- Chain input `k` of drive `d` (R290): `v` in Q16.16. -/
def State.writeChain (s : State) (d k : Nat) (v : Int) : State :=
  match k with
  | 0 => s.setDrI d 0x9C v
  | 1 =>
    let lim := rnd (s.drI d 0x40 * s.drI d 0xD0) 16
    if v < -lim ∨ lim < v then (s.setDrI d 0xA0 (clampI (-lim) lim v)).setF (F.CE_DR_STAT_DERATE d) 1
    else s.setDrI d 0xA0 v
  | 2 => s.setDrv d (fun x => { x with vd := v })
  | 3 => s.setDrv d (fun x => { x with vq := v })
  | _ => s

/-- Write the output of slot `i` to its destination (R221); the flag says whether the conversion saturated. -/
def State.writeDest (s : State) (i : Nat) (out : Int) : State × Bool :=
  let w := s.ld i 0x30
  let x := w % 65536
  let duty := (clampI 0 65535 (rnd out (s.loopFrac i))).toNat
  let c := conv (s.loopFrac i) 16 out
  match w / 2 ^ 28 with
  | 1 => (s.writeCompare (x / 3) (x % 3) duty, false)
  | 2 => (s.setF (F.PWM_GP_DUTY_DUTY (x % 32)) duty, false)
  | 3 => (s.ptUpdate (x % 4096) c.1 false, c.2)
  | 5 => (s.writeChain (x / 8) (x % 8) c.1, c.2)
  | _ => (s, false)

end Sys2Proof.Machine
end

