-- ==== Sys2Proof/Machine/Perennial.lean ====
section
/-! DEFINITION. Perennial links (R261 to R285): index, playback, learning, clearing. -/

namespace Sys2Proof.Machine

/-- Word of link descriptor `l` (R264). -/
def State.lk (s : State) (l o : Nat) : Nat := s.mw (0x140000 + 32 * l + o)

/-- Address of link state `l` (R265). -/
def lkAddr (l : Nat) : Nat := 0x141000 + 32 * l

/-- The link is an angle link. -/
def State.lkAngle (s : State) (l : Nat) : Bool := s.lk l 0 % 4 == 0

/-- Entries of an angle link: 256 × 2^SIZE. -/
def State.lkN (s : State) (l : Nat) : Nat := 256 * 2 ^ getBits (s.lk l 0) 2 2

/-- PPR of an angle link. -/
def State.lkPpr (s : State) (l : Nat) : Nat := getBits (s.lk l 0) 8 3 + 1

/-- Absolute address of the link's table data. -/
def State.lkTab (s : State) (l : Nat) : Nat := 0x140000 + s.lk l 4

/-- STAT word of link state `l`. -/
def State.lkStat (s : State) (l : Nat) : Nat := s.mw (lkAddr l + 0x1C)

/-- The state with bits of the link's STAT set. -/
def State.setLkStat (s : State) (l lo w v : Nat) : State :=
  s.setM (lkAddr l + 0x1C) (setBits (s.lkStat l) lo w v)

/-- IDX word of link state `l`. -/
def State.lkIdx (s : State) (l : Nat) : Nat := s.mw (lkAddr l + 8)

/-- The state with bits of the link's IDX word set. -/
def State.setLkIdx (s : State) (l lo w v : Nat) : State := s.setM (lkAddr l + 8) (setBits (s.lkIdx l) lo w v)

/-- The link state takes the values of R265, NOIDX being `noidx`. -/
def State.resetLink (s : State) (l : Nat) (noidx : Bool) : State :=
  let s := (List.range 7).foldl (fun t k => t.setM (lkAddr l + 4 * k) 0) s
  s.setM (lkAddr l + 0x1C) (8 * b2n noidx)

/-- Bytes of the tables of a link (R263). -/
def State.lkBytes (s : State) (l : Nat) : Nat := if s.lkAngle l then 4 * s.lkN l else 5760

/-- A clear of link `l` starts, or waits for the one in progress (R280, R281). From now on CLEARING reads 1; the
link's state is at the values of R265, NOIDX kept. The tables are zeroed when the clear ends. -/
def State.startClear (s : State) (l : Nat) : State :=
  let s := (s.resetLink l (bit (s.lkStat l) 3)).setLkStat l 4 1 1
  let s := if s.ce.clears.isEmpty then s.setF F.CE_PRNSTAT_LINK l else s
  { s.setF F.CE_PRNSTAT_CLEARING 1 with ce := { s.ce with clears := s.ce.clears ++ [l] } }

/-- The clear in progress ends: tables zeroed, the link's CLEARING back to 0 unless another clear of it waits, and the
next waiting clear takes its place (R280, R281). The tables lie where BASE says, also where that is below the data area.
(DESIGN CHOICE, log entry 137, unsafe.) -/
def State.endClear (s : State) : State :=
  match s.ce.clears with
  | [] => s
  | l :: rest =>
    let a := s.lkTab l
    let s := { s with mem := Memory.clear s.mem a (a + s.lkBytes l), ce := { s.ce with clears := rest } }
    let s := s.setLkStat l 4 1 (b2n (rest.contains l))
    match rest with
    | [] => s.setF F.CE_PRNSTAT_CLEARING 0
    | k :: _ => s.setF F.CE_PRNSTAT_LINK k

/-- A signed 16-bit entry of a calendar table. -/
def State.calEntry (s : State) (l : Nat) (dt : Bool) (k : Nat) : Int :=
  toS 16 (s.mb (s.lkTab l + 2880 * b2n dt + 2 * k) + 256 * s.mb (s.lkTab l + 2880 * b2n dt + 2 * k + 1))

/-- The state with an entry of a calendar table written; only its own 16 bits change (R267). -/
def State.setCalEntry (s : State) (l : Nat) (dt : Bool) (k : Nat) (v : Int) : State :=
  let a := s.lkTab l + 2880 * b2n dt + 2 * k
  (s.setMB a (ofI 16 v % 256)).setMB (a + 1) (ofI 16 v / 256)

/-- What a run knows of its link after the index step. -/
structure LinkIndex where
  /-- The link has an index in this run. -/
  has : Bool
  /-- Index: table entry or minute of the day. -/
  idx : Nat
  /-- Day type (calendar). -/
  dt : Bool
  /-- Playback (R273). -/
  pb : Int
  deriving DecidableEq, Repr

/-- REV after the wrap test of R268. -/
def wrapRev (ppr rev a prev : Nat) : Nat :=
  let d := toS 32 (ofI 32 ((a : Int) - prev))
  if 1 < ppr then
    (if 0 < d ∧ a < prev then (rev + 1) % ppr else if d < 0 ∧ prev < a then (rev + ppr - 1) % ppr else rev)
  else rev

/-- A run of link `l` without an index: NOIDX, and HCNT, COUNT, ACCLO and ACCHI become 0 (R271). -/
def State.noIndex (s : State) (l : Nat) : State :=
  let s := (s.setLkStat l 3 1 1).setLkIdx l 12 2 0
  ((s.setM (lkAddr l + 0xC) 0).setM (lkAddr l + 0x10) 0).setM (lkAddr l + 0x14) 0

/-- The index step of an angle link (R268, R269, R271): `late` says that the loop's last run is too long ago. -/
def State.angleIndex (s : State) (l a : Nat) (ok late : Bool) : State × LinkIndex :=
  if !ok then (s.noIndex l, ⟨false, 0, false, 0⟩)
  else
    let n := s.lkN l
    let ppr := s.lkPpr l
    let first := bit (s.lkStat l) 3 || late
    let s1 := if first then
        (if 1 < ppr then s.startClear l else ((s.setLkStat l 0 3 0).setLkIdx l 12 2 0).setLkIdx l 27 1 0)
      else s.setLkStat l 0 3 (wrapRev ppr (s.lkStat l % 8) a (s.mw (lkAddr l + 0x18)))
    let s2 := (s1.setM (lkAddr l + 0x18) a).setLkStat l 3 1 0
    let rev := s2.lkStat l % 8
    let idx := ((rev * 2 ^ 32 + a) * n) / (ppr * 2 ^ 32)
    let pb := if bit (s2.lkStat l) 4 then 0
      else s2.mi (s2.lkTab l + 4 * ((idx + getBits (s2.lk l 0x18) 16 11) % n))
    (s2, ⟨true, idx, false, pb⟩)

/-- The index step of a calendar link (R262, R270, R271), with RTCSET, the minute and the day type of the item's start
(R273). -/
def State.calIndex (s : State) (l : Nat) (rtcSet : Bool) (m : Nat) (dt : Bool) : State × LinkIndex :=
  if !rtcSet then (s.noIndex l, ⟨false, 0, false, 0⟩)
  else
    let s := s.setLkStat l 3 1 0
    let pb := if bit (s.lkStat l) 4 then 0
      else s.calEntry l dt ((m + getBits (s.lk l 0x18) 16 11) % 1440) * (2 ^ getBits (s.lk l 0) 20 4 : Nat)
    (s, ⟨true, m, dt, pb⟩)

/-- The link's entry limited to ±TLIM, and whether the limit acted (R274, R275). -/
def limitEntry (t tlim : Int) : Int × Bool :=
  if tlim < t then (tlim, true) else if t < -tlim then (-tlim, true) else (t, false)

/-- Count an entry written, and its limit when it acted (R275). -/
def State.countEntry (s : State) (l : Nat) (hit : Bool) : State :=
  let s := s.inc F.CE_PRNUPDCNT
  if hit then
    (((s.setLkStat l 5 1 1).setF F.CE_PRNSTAT_TLIMHIT 1).inc F.CE_PRNTLIMCNT).ledger 93
  else s

/-- λ·old + γ·q, saturated (R274). -/
def State.learnTerm (s : State) (l : Nat) (old q : Int) : Int :=
  let ex := s.lk l 0x14
  sat32 (term (toS 32 (s.lk l 8)) (toS 6 ex) old + term (toS 32 (s.lk l 0xC)) (toS 6 (ex / 64)) q)

/-- The Q filter of R274. -/
def qFilter (bypass : Bool) (ea eb ep : Int) : Int := if bypass then eb else asr (ea + 2 * eb + ep + 2) 2

/-- EA, EB, IDXB and HCNT after a sample (R274, R276). -/
def State.pushError (s : State) (l : Nat) (ep : Int) (idx : Nat) : State :=
  let hc := min (getBits (s.lkIdx l) 12 2 + 1) 2
  let eb := s.mw (lkAddr l + 4)
  let s := ((s.setM (lkAddr l) eb).setMI (lkAddr l + 4) ep).setLkIdx l 0 11 idx
  s.setLkIdx l 12 2 hc

/-- Learning of an angle link after step 9 (R274). -/
def State.learnAngle (s : State) (l idx : Nat) (ep : Int) (frozen : Bool) : State :=
  let w := s.lkIdx l
  let n := s.lkN l
  let k := (w % 2048 + n - getBits (s.lk l 0x18) 0 11 % n) % n
  let s :=
    if getBits w 12 2 = 2 ∧ !frozen ∧ !bit (s.lkStat l) 4 ∧ !(bit w 27 && k == getBits w 16 11) then
      let q := qFilter (bit (s.lk l 0) 7) (s.mi (lkAddr l)) (s.mi (lkAddr l + 4)) ep
      let t := limitEntry (s.learnTerm l (s.mi (s.lkTab l + 4 * k)) q) (toS 32 (s.lk l 0x10))
      let s := s.setMI (s.lkTab l + 4 * k) t.1
      ((s.countEntry l t.2).setLkIdx l 16 11 k).setLkIdx l 27 1 1
    else s
  s.pushError l ep idx

/-- A calendar minute has ended: learn from its mean (R276). -/
def State.learnMinute (s : State) (l : Nat) : State :=
  let cnt : Nat := s.mw (lkAddr l + 0x14) % 2 ^ 24
  if cnt = 0 then s
  else
    let acc := toS 64 (s.mw (lkAddr l + 0xC) + s.mw (lkAddr l + 0x10) * 2 ^ 32)
    let mean : Int := (2 * acc + (cnt : Int)) / (2 * (cnt : Int))
    let curmin := getBits (s.lkStat l) 16 11
    let w := s.lkIdx l
    let s := if 0 < getBits w 12 2 ∧ curmin ≠ (w % 2048 + 1) % 1440 then s.setLkIdx l 12 2 0 else s
    let s :=
      if getBits (s.lkIdx l) 12 2 = 2 ∧ !bit w 14 ∧ !bit (s.lkStat l) 4 then
        let q := qFilter (bit (s.lk l 0) 7) (s.mi (lkAddr l)) (s.mi (lkAddr l + 4)) mean
        let k := (w % 2048 + 1440 - getBits (s.lk l 0x18) 0 11 % 1440) % 1440
        let sh := getBits (s.lk l 0) 20 4
        let t := limitEntry (s.learnTerm l (s.calEntry l (bit w 11) k * (2 ^ sh : Nat)) q) (toS 32 (s.lk l 0x10))
        (s.setCalEntry l (bit w 11) k (clampI (-32768) 32767 (rnd t.1 sh))).countEntry l t.2
      else s
    let s := s.pushError l mean curmin
    (s.setLkIdx l 11 1 (getBits (s.lkStat l) 27 1)).setLkIdx l 14 1 (getBits (s.lkStat l) 6 1)

/-- Minute tracking and learning of a calendar link (R276). -/
def State.learnCal (s : State) (l m : Nat) (dt : Bool) (ep : Int) (frozen : Bool) : State :=
  let st := s.lkStat l
  let s :=
    if m ≠ getBits st 16 11 ∨ dt ≠ bit st 27 then
      let s := s.learnMinute l
      let s := ((s.setM (lkAddr l + 0xC) 0).setM (lkAddr l + 0x10) 0).setM (lkAddr l + 0x14) 0
      ((s.setLkStat l 6 1 0).setLkStat l 16 11 m).setLkStat l 27 1 (b2n dt)
    else s
  let acc := ofI 64 (toS 64 (s.mw (lkAddr l + 0xC) + s.mw (lkAddr l + 0x10) * 2 ^ 32) + ep)
  let s := (s.setM (lkAddr l + 0xC) (acc % 2 ^ 32)).setM (lkAddr l + 0x10) (acc / 2 ^ 32)
  let s := s.setM (lkAddr l + 0x14) (min (s.mw (lkAddr l + 0x14) % 2 ^ 24 + 1) (2 ^ 24 - 1))
  if frozen then s.setLkStat l 6 1 1 else s

/-- PERENNIAL_CLEAR: a master writes CE_PRNCLR (R280). GO = 0 is ignored, also during a clear; another write during a
clear is discarded.
(DESIGN CHOICE, log entry 137, unsafe.) -/
def State.prnClrWrite (s : State) (w : Nat) : State × Bool :=
  if !bit w 7 then (s, true)
  else if !s.ce.clears.isEmpty then (s, false)
  else (s.startClear (w % 128), true)

end Sys2Proof.Machine
end

