-- ==== Sys2Proof/Machine/Loops.lean ====
section
/-! DEFINITION. One run of a loop (R211 to R226, R237 to R260, R318 to R326): mode command, generator, shaper,
following error, law, limiters, transfer, and what completion writes. -/

namespace Sys2Proof.Machine

/-! ### Generators (R318 to R326) -/

/-- Address of generator record `n` (R319). -/
def genAddr (n : Nat) : Nat := 0x125000 + 0x40 * n

/-- State of generator `n`: 0 IDLE, 1 PENDING, 2 RUNNING, 3 ENDED. -/
def State.genState (s : State) (n : Nat) : Nat := getBits (s.f F.CE_INJSTAT_STATE) (2 * n) 2

/-- The state with generator `n` in state `v`. -/
def State.setGenState (s : State) (n v : Nat) : State :=
  s.setF F.CE_INJSTAT_STATE (setBits (s.f F.CE_INJSTAT_STATE) (2 * n) 2 v)

/-- SLOT of generator `n`. -/
def State.genSlot (s : State) (n : Nat) : Nat := s.mw (genAddr n) % 512

/-- Generator `n` ends; `abort` sets its ABORT bit. -/
def State.endGen (s : State) (n : Nat) (abort : Bool) : State :=
  let s := s.setGenState n 3
  let s := if abort then s.setBit F.CE_INJSTAT_ABORT n else s
  { s with ce := { s.ce with gens := updAt s.ce.gens n (fun _ => ⟨false⟩) } }

/-- The generator that is PENDING or RUNNING on slot `i`. -/
def State.genOf (s : State) (i : Nat) : Option Nat :=
  (List.range 8).find? (fun n => (s.genState n == 1 || s.genState n == 2) && s.genSlot n == i)

/-- Register length and tap of each ORDER (R321). -/
def lfsrOrder (k : Nat) : Nat × Nat :=
  [(7, 6), (9, 5), (10, 7), (11, 9), (15, 14), (17, 14), (20, 17), (23, 18), (31, 28)].getD k (7, 6)

/-- Output and new ST of a generator's run, and whether a chirp has passed its end (R321). -/
def genOutput (ctl : Nat) (amp : Int) (pa pb : Nat) (pc : Int) (st cnt : Nat) : Int × Nat × Bool :=
  match getBits ctl 10 2 with
  | 0 => (if cnt < pa then 0 else amp, st, false)
  | 1 =>
    let o := lfsrOrder (getBits ctl 12 4)
    let st' := if cnt % (pb % 65536 + 1) = 0 then
        (st * 2 + b2n (xor (bit st (o.1 - 1)) (bit st (o.2 - 1)))) % 2 ^ o.1
      else st
    (if bit st' 0 then amp else -amp, st', false)
  | 2 => (rnd (amp * sintab (st / 2 ^ 20)) 15, (st + pa) % 2 ^ 32, false)
  | _ =>
    let inc := toS 32 pa + pc * cnt
    if (0 < pc ∧ toS 32 pb < inc) ∨ (pc < 0 ∧ inc < toS 32 pb) then (0, st, true)
    else (rnd (amp * sintab (st / 2 ^ 20)) 15, ofI 32 (st + inc), false)

/-- A RUNNING generator's run: its output, and the state with LAST, CNT, ST and its end (R321, R326). -/
def State.runGen (s : State) (n : Nat) : Int × State :=
  let a := genAddr n
  let cnt := s.mw (a + 0x1C)
  let r := genOutput (s.mw a) (s.mi (a + 4)) (s.mw (a + 8)) (s.mw (a + 0xC)) (s.mi (a + 0x10)) (s.mw (a + 0x18)) cnt
  let c := min (cnt + 1) 4294967295
  let s := ((s.setM (a + 0x18) r.2.1).setM (a + 0x1C) c).setMI (a + 0x20) r.1
  let dur := s.mw (a + 0x14)
  (r.1, if r.2.2 || (decide (0 < dur) && c == dur) then s.endGen n false else s)

/-- A PENDING generator becomes RUNNING (R325). -/
def State.takeGen (s : State) (n : Nat) : State :=
  let a := genAddr n
  let ty := getBits (s.mw a) 10 2
  let st := if ty = 1 then s.mw (a + 8) else if ty = 2 then s.mw (a + 0xC) else 0
  let s := ((s.setM (a + 0x1C) 0).setM (a + 0x18) st).setGenState n 2
  { s with ce := { s.ce with cap := { s.ce.cap with
      genRan := s.ce.cap.genRan || s.f F.CE_CAPCFG_TRGGEN == n } } }

/-- The generator's part of a run that starts in `mode` (R325, R326): the state, its output, and whether it runs. `stop`
says that STOP waited when the run started, `mute` that a FEACT action ends AUTO in it. -/
def State.genStep (s : State) (g : Option Nat) (mode : Nat) (stop mute : Bool) : State × Int × Bool :=
  match g with
  | none => (s, 0, false)
  | some n =>
    if s.genState n ≠ 1 ∧ s.genState n ≠ 2 then (s, 0, false)
    else if stop then (s.endGen n false, 0, false)
    else if mode ≠ 2 then (s.endGen n true, 0, false)
    else
      let t := if s.genState n = 1 then s.takeGen n else s
      if mute then (t.endGen n true, 0, false)
      else ((t.runGen n).2, (t.runGen n).1, true)

/-! ### Mode commands at the start of a run (R254 to R256) -/

/-- Mode, FOLLOW and FETMR with which a run starts, and whether the run is a transfer run. -/
structure RunMode where
  /-- Mode, coded as MODE0. -/
  mode : Nat
  /-- FOLLOW is latched. -/
  follow : Bool
  /-- FETMR. -/
  fetmr : Nat
  /-- AUTO was entered from another mode. -/
  transfer : Bool
  deriving DecidableEq, Repr

/-- Reason code of R254 for command `w` in the present state; 0 when it is legal. -/
def cmdReason (w : Nat) (follow driveSafe : Bool) (drive : Nat) : Nat :=
  if bit w 14 && getBits w 12 2 == 2 then
    (if follow && !bit w 16 then 1 else if driveSafe && drive != 7 then 2 else 0)
  else 0

/-- Take or reject the command of a run (R254). A run that takes AUTO from another mode is a transfer run, the slot's
first run after boot too.
(DEDUCED, log entry 59, unsafe; DESIGN CHOICE, log entry 134, unsafe.) -/
def State.takeCmd (s : State) (i : Nat) (cmd : Option Nat) (driveSafe : Bool) : State × RunMode :=
  let st := s.loopStat i
  let m0 := st % 4
  let fol := bit st 9
  let fet := s.mw (lsAddr i + 0x10) % 65536
  match cmd with
  | none => (s, ⟨m0, fol, fet, false⟩)
  | some w =>
    let why := cmdReason w fol driveSafe (s.loopDrive i)
    if why ≠ 0 then
      let s := (s.count F.CE_CMDREJCNT 91).setF F.CE_CMDSTAT_REJECTED 1
      let s := (s.setF F.CE_CMDSTAT_SLOT i).setF F.CE_CMDSTAT_REASON why
      (s.log 0x06 0x11 i (w % 2 ^ 17 + why * 2 ^ 28) none false, ⟨m0, fol, fet, false⟩)
    else
      let s := (s.setF F.CE_CMDSTAT_TAKEN 1).setF F.CE_CMDSTAT_SLOT i
      let clr := bit w 16
      let m := if bit w 14 then getBits w 12 2 else m0
      let s := if m = 1 ∧ m0 ≠ 1 ∧ !bit w 15 then s.setM (lsAddr i + 0xC) (s.mw (lsAddr i)) else s
      (s, ⟨m, fol && !clr, if clr then 0 else fet, m == 2 && m0 != 2⟩)

/-! ### Sections of a loop -/

/-- Section `j` as memory holds it (R231). -/
def State.sect (s : State) (j : Nat) : Sect :=
  let a := 0x108000 + 32 * j
  let b := 0x118000 + 16 * j
  ⟨s.mi a, s.mi (a + 4), s.mi (a + 8), s.mi (a + 12), s.mi (a + 16), s.mw (a + 20),
    bit (s.mw (a + 24)) 0, bit (s.mw (a + 24)) 1, s.mi b, s.mi (b + 4), s.mi (b + 8), s.mi (b + 12)⟩

/-- The state with a section's state words written. -/
def State.setSect (s : State) (j : Nat) (o : SectOut) : State :=
  let b := 0x118000 + 16 * j
  (((s.setMI b o.x1).setMI (b + 4) o.x2).setMI (b + 8) o.y1).setMI (b + 12) o.y2

/-- Chain output, FREEZE bits, SECSAT bits and the state after a run of sections. -/
structure ChainOut where
  /-- Output of the last section that ran. -/
  out : Int
  /-- FREEZE bits. -/
  frz : Nat
  /-- SECSAT bits. -/
  sat : Nat
  /-- The state with the sections' state words. -/
  s : State
  deriving DecidableEq, Repr

/-- One section `p.1`, at position `p.2` of the chain, runs on the chain's present output (R211, R214 step 6). -/
def sectStep (hi lo : Bool) (c : ChainOut) (p : Nat × Nat) : ChainOut :=
  let o := (c.s.sect p.1).run c.out hi lo
  ⟨o.out, c.frz + b2n o.froze * 2 ^ p.2, c.sat + b2n o.sat * 2 ^ p.2, if o.froze then c.s else c.s.setSect p.1 o⟩

/-- The sections of the list run in order on the input `e`. -/
def runSects (js : List Nat) (e : Int) (hi lo : Bool) (s : State) : ChainOut :=
  js.zipIdx.foldl (sectStep hi lo) ⟨e, 0, 0, s⟩

/-! ### The run -/

/-- Result of steps 6 to 9 of a run. -/
structure LawOut where
  /-- OUT, when `wrote`. -/
  out : Int
  /-- OUT is written. -/
  wrote : Bool
  /-- The destination is written. -/
  dest : Bool
  /-- STAT bits 2 to 23 that the law sets: LIMHI, LIMLO, RATELIM, SUMSAT, HYSTON, SECSAT, FREEZE. -/
  bits : Nat
  /-- HTMR. -/
  htmr : Nat
  /-- Output limiter or sum acted in this run (R277, bit 8). -/
  limited : Bool
  /-- The state with section states. -/
  s : State
  deriving DecidableEq, Repr

/-- Output and rate limiter (R216, R217): OUT and the LIMHI, LIMLO and RATELIM bits. -/
def limiters (u lo hi rmax prev : Int) (rate : Bool) : Int × Nat :=
  let ul := if u < lo then lo else if hi < u then hi else u
  let b := if u < lo then 8 else if hi < u then 4 else 0
  if rate && rmax != 0 then
    let v := clampI (sat32 (prev - rmax)) (sat32 (prev + rmax)) ul
    (v, b + (if v = ul then 0 else 16))
  else (ul, b)

/-- Steps 6 to 9 of a BIQUAD run (R214, R249, R257): `e` is the error, `inj` the output injection, `pb` the
playback, `mode` the mode from step 6 onward. -/
def State.biquad (s : State) (i mode : Nat) (transfer : Bool) (e ff pb inj track manval : Int) : LawOut :=
  let ctl := s.ld i 0
  let n := getBits ctl 8 3
  let sec0 := s.ld i 4 % 2048
  let st := s.loopStat i
  let hi := bit st 2
  let lo := bit st 3
  let prev := s.loopOut i
  let all := (List.range n).map (sec0 + ·)
  let htmr := s.mw (lsAddr i + 0x10) / 65536
  let lims := fun (u : Int) (rate : Bool) => limiters u (s.ldI i 0x1C) (s.ldI i 0x20) (s.ldI i 0x24) prev rate
  match mode with
  | 0 => ⟨prev, false, false, 0, htmr, false, s⟩
  | 2 =>
    let lastInteg := bit (s.mw (0x108000 + 32 * (sec0 + n - 1) + 24)) 0
    let c :=
      if transfer && lastInteg && decide (0 < n) then
        let c := runSects all.dropLast e hi lo s
        let o := presetSect c.out (sat32 (prev - ff - pb - inj))
        ⟨o.out, c.frz, c.sat, c.s.setSect (sec0 + n - 1) o⟩
      else runSects all e hi lo s
    let sum := c.out + ff + pb + inj
    let r := lims (sat32 sum) true
    ⟨r.1, true, true, r.2 + 32 * b2n (over32 sum) + 4096 * c.sat + 262144 * c.frz, htmr,
      bit r.2 2 || bit r.2 3 || over32 sum, c.s⟩
  | m =>
    let c := runSects all.dropLast e hi lo s
    let r := lims (if m = 1 then manval else track) (m == 1)
    ⟨r.1, true, m == 1, r.2 + 4096 * c.sat + 262144 * c.frz, htmr, bit r.2 2 || bit r.2 3, c.s⟩

/-- The logic of a HYST run (R218, R251). A mode other than MANUAL and AUTO runs as OFF, TRACK among them.
(DESIGN CHOICE, log entry 136, unsafe.) -/
def State.hyst (s : State) (i mode : Nat) (e manval : Int) : LawOut :=
  let h0 := s.mw (lsAddr i + 0x10) / 65536
  let on0 := bit (s.loopStat i) 8
  match mode with
  | 2 =>
    let h := min (h0 + 1) 65535
    let w := s.ld i 0x10
    let off := on0 && decide (e ≤ s.ldI i 0x24) && decide (w % 65536 ≤ h)
    let on := !on0 && decide (s.ldI i 0x14 ≤ e) && decide (w / 65536 ≤ h)
    let st := if off then false else if on then true else on0
    ⟨if st then s.ldI i 0x20 else s.ldI i 0x1C, true, true, 256 * b2n st, if off || on then 0 else h, false, s⟩
  | 1 => ⟨manval, true, true, 256 * b2n on0, h0, false, s⟩
  | _ => ⟨s.loopOut i, false, false, 256 * b2n on0, h0, false, s⟩

/-- Class period in frames (R38). -/
def classPeriod (k : Nat) : Nat := if k = 0 then 1 else if k = 1 then 8 else if k = 2 then 64 else 2048

/-- Set the sticky bits of CE_LOOPSTAT and the counters of a run's STAT bits (R213, R232).
(DEDUCED, log entry 23, unsafe.) -/
def State.loopFlags (s : State) (i bits : Nat) : State :=
  let secs := (bitsOf (getBits bits 12 6) 6).length
  let s := if 0 < secs then (s.add F.CE_SATCNT secs).ledgerN 88 secs else s
  let conv := b2n (bit bits 6) + b2n (bit bits 6 && bit bits 5)
  let s := if 0 < conv then (s.add F.CE_CNVCNT conv).ledgerN 89 conv else s
  let s := s.cond (0 < secs) (·.setF F.CE_LOOPSTAT_SECSAT 1)
  let s := s.cond (bit bits 5) (·.setF F.CE_LOOPSTAT_SUMSAT 1)
  let s := s.cond (bit bits 6) (·.setF F.CE_LOOPSTAT_CONVSAT 1)
  let s := s.cond (bit bits 7) (·.setF F.CE_LOOPSTAT_MQBAD 1)
  let s := s.cond (decide (0 < getBits bits 18 6)) (·.setF F.CE_LOOPSTAT_FREEZE 1)
  let s := s.cond (bit bits 4) (·.setF F.CE_LOOPSTAT_RATELIM 1)
  s.cond (decide (0 < secs) || bit bits 5 || bit bits 6 || bit bits 7 || bit bits 4 || decide (0 < getBits bits 18 6))
    (·.setF F.CE_LOOPSTAT_LOOP i)

/-- The FRZ conditions of R277 as bits 6:0. -/
def freezeBits (limited follow auto hotOrWarm mqbad injected learn : Bool) : Nat :=
  b2n limited + 2 * b2n follow + 4 * b2n (!auto) + 8 * b2n hotOrWarm + 16 * b2n mqbad + 32 * b2n injected
    + 64 * b2n (!learn)

/-- The index step of the loop's link (R268 to R271), for a loop that has one; the table entry for PB is read with the
index, at the run's completion (R273).
(DESIGN CHOICE, log entry 138, unsafe.) -/
def State.linkIndex (s : State) (r : Run) : State × LinkIndex :=
  let w := s.ld r.slot 0x34
  if !bit w 31 then (s, ⟨false, 0, false, 0⟩)
  else
    let l := w % 128
    if s.lkAngle l then
      s.angleIndex l r.angle r.angleOk
        (decide (2 * classPeriod r.cls < (s.frame + 2 ^ 32 - s.mw (lsAddr r.slot + 0x18)) % 2 ^ 32))
    else s.calIndex l r.calOk r.calMin r.calDt

/-- Learning of the loop's link after step 9 (R274 to R277). -/
def State.linkLearn (s : State) (r : Run) (ix : LinkIndex) (ep : Int) (frz : Nat) : State :=
  let w := s.ld r.slot 0x34
  if !bit w 31 then s
  else
    let l := w % 128
    let s := s.setLkStat l 8 7 frz
    if !ix.has then s
    else if s.lkAngle l then s.learnAngle l ix.idx ep (frz != 0)
    else s.learnCal l ix.idx ix.dt ep (frz != 0)

/-- A FOLLOW fault is raised: flag, counter, Annals (R247). An error wider than 32 bits leaves its low 32 bits in DETAIL.
(DESIGN CHOICE, log entry 114, unsafe.) -/
def State.followFault (s : State) (i : Nat) (fe : Int) : State :=
  (s.count F.CE_FOLCNT 90).log 0x06 0x10 i (ofI 32 fe) none false

/-- Everything a loop's run does, at its completion (R39, R214, R249). A transfer run in which FEACT acts sets no BUMPCLIP,
and FETMR of a run without a test is 0.
(DEDUCED, log entry 58, unsafe; DEDUCED, log entry 59, unsafe; DEDUCED, log entry 64, unsafe; DESIGN CHOICE, log entry 135, unsafe; DESIGN CHOICE, log entry 136, unsafe.) -/
def State.finishRun (s : State) (r : Run) : State :=
  let i := r.slot
  let ctl := s.ld i 0
  let isHyst := bit ctl 2
  let prev := s.loopOut i
  let x := s.takeCmd i r.cmd r.driveSafe
  let s := x.1
  let rm := x.2
  let transfer := (rm.transfer || (r.resumed && rm.mode == 2)) && !isHyst
  let y := s.linkIndex r
  let s := y.1
  let ix := y.2
  -- step 3: the shaper; the loop's own SPSH and SPVEL
  let auto := rm.mode == 2
  let a := lsAddr i
  let sh := if auto then shaper (s.ldI i 0x38) (s.ldI i 0x3C) r.sp (s.mi (a + 4)) (s.mi (a + 8)) else (r.m, 0, false)
  -- step 5 judged first: a FEACT action silences the generator in this run (R326)
  let fe := sh.1 - r.m
  let felim := s.ldI i 0x28
  let test := auto && !isHyst && decide (0 < felim)
  let fetmr := if test then (if felim < fe.natAbs then min (rm.fetmr + 1) 65535 else 0) else 0
  let fault := test && !rm.follow && decide (s.ld i 0x2C % 65536 < fetmr)
  let feact := getBits ctl 14 2
  let act := fault && (feact == 1 || feact == 2)
  let z := s.genStep r.gen rm.mode r.genStop act
  let s := z.1
  let g := z.2.1
  let gRun := z.2.2
  let inj := getBits ctl 12 2
  let sp1 := if inj = 1 then sh.1 + g else sh.1
  let d0 := if bit ctl 3 then r.m - sat32 sp1 else sat32 sp1 - r.m
  let d1 := if inj = 2 then sat32 d0 + g else sat32 d0
  let ep := sat32 (if bit ctl 3 then r.m - sh.1 else fe)
  let convSat := r.convSat || sh.2.2 || over32 sp1 || over32 d0 || over32 d1
  -- FEACT: hold or safe value
  let s := if fault then s.followFault i fe else s
  let manval := if act then (if feact = 1 then prev else s.ldI i 0x1C) else s.mi (a + 0xC)
  let s := if act then s.setMI (a + 0xC) manval else s
  let mode := if act then 1 else rm.mode
  let follow := rm.follow || fault
  -- steps 6 to 9
  let ff := if bit ctl 11 then term (s.ldI i 0x14) (toS 6 (getBits (s.ld i 0x2C) 16 6)) r.ff else 0
  let pb := if mode = 2 then ix.pb else 0
  let law := if isHyst then s.hyst i mode (sat32 d1) manval
    else s.biquad i mode (transfer && !act) (sat32 d1) ff pb (if inj = 3 then g else 0) r.track manval
  let s := law.s
  -- learning (R272 to R277)
  let frz := freezeBits law.limited follow (mode == 2) s.sheds (!r.good) gRun (s.on F.CE_PRNCTL_LEARN)
  let s := s.linkLearn r ix ep frz
  -- step 10 and the state record (R232)
  let s := if law.wrote then s.setMI a law.out else s
  let w := if law.dest then s.writeDest i law.out else (s, false)
  let s := w.1
  let bump := transfer && !act && law.out != prev
  let bits := law.bits + 64 * b2n (convSat || w.2) + 128 * b2n (!r.good) + 512 * b2n follow + 1024 * b2n bump
  let s := (s.setMI (a + 4) sh.1).setMI (a + 8) sh.2.1
  let s := s.setM (a + 0x10) (law.htmr * 65536 + fetmr)
  let s := (s.setM (a + 0x14) (bits + mode)).setM (a + 0x18) s.frame
  let s := if bump then
      (s.count F.CE_BUMPCNT 92).log 0x06 0x12 i (ofI 32 prev) (some (ofI 32 law.out)) false
    else s
  s.loopFlags i bits

/-! ### Cost (R225) -/

/-- Cycles of a source read of KIND `k`. -/
def sourceCost (k : Nat) : Nat := if k = 0 ∨ k = 1 then 0 else if k = 2 then 48 else 4

/-- The cycle cost of slot `i` (R225, R278). -/
def State.loopCost (s : State) (i : Nat) : Nat :=
  let ctl := s.ld i 0
  let hy := bit ctl 2
  let ff := !hy && bit ctl 11
  let dk := s.ld i 0x30 / 2 ^ 28
  16 + 12 + sourceCost (s.ld i 8 / 2 ^ 28) + sourceCost (s.ld i 0xC / 2 ^ 28)
    + (if ff then sourceCost (s.ld i 0x10 / 2 ^ 28) + 4 else 0)
    + (if getBits ctl 12 2 = 0 then 0 else 4)
    + (if hy then 10 else 8 * getBits ctl 8 3 + 4)
    + (if bit (s.ld i 0x34) 31 then 28 else 0)
    + (if dk = 3 then 48 else if dk = 1 ∨ dk = 2 ∨ dk = 5 then 4 else 0)

/-! ### Reading the inputs at item start (R56, R214 steps 1 and 2) -/

/-- The run record of slot `i`, started at cycle `start` in class `cls`. -/
def State.beginRun (s : State) (i cls start : Nat) : Run :=
  let sp := s.sourceConv i (s.ld i 8)
  let m := s.sourceConv i (s.ld i 0xC)
  let ff := if !s.loopHyst i && bit (s.ld i 0) 11 then s.sourceConv i (s.ld i 0x10) else (0, false)
  let cmd := lookupAt s.ce.cmds i
  let d := s.loopDrive i
  let rm := (s.takeCmd i cmd (d != 7 && s.driveState d == 6)).2
  let tr := if rm.mode = 3 then s.trackValue i else (0, false)
  let ln := s.ld i 0x34 % 128
  let ld := getBits (s.lk ln 0) 4 3
  { slot := i, cls := cls, start := start, cost := s.loopCost i, sp := sp.1, m := m.1, ff := ff.1,
    convSat := sp.2 || m.2 || ff.2 || tr.2, good := s.mGood i, track := tr.1, cmd := cmd,
    driveSafe := d != 7 && s.driveState d == 6, angle := s.dr ld 0x80,
    angleOk := s.driveState ld == 5, resumed := s.ce.resumed.contains i, gen := s.genOf i,
    genStop := (s.genOf i).any (fun n => (s.ce.gens.getD n ⟨false⟩).stop), calOk := s.on F.ALM_STAT_RTCSET,
    calMin := s.alm.hid.minute, calDt := s.alm.hid.dayType.getD (getBits (s.lk ln 0) 12 6) false }

/-- An event comes that triggers the injected sequences `p`: each falls due DELAY PWM clocks after the event, whose own
PWM clock is `e` where it is known (R150). An event of the frame before the first tick whose DELAY reaches past that tick
falls due after it, and is taken (R156).
(DESIGN CHOICE, log entry 132, unsafe.) -/
def State.trigRaise (s : State) (p : Nat → Bool) (e : Option Nat) : State :=
  { s with adc := { s.adc with seqs := s.adc.seqs.zipIdx.map (fun x =>
      if p x.2 then
        { x.1 with req := x.1.req ++ [e.map (fun c => ((c + s.f (F.SEQ_IS_CFG_DELAY x.2) : Nat) : Int))] }
      else x.1) } }

/-- The PWM clock that lies two clocks after the end of CE cycle `c`, a part of a clock counting as the next one: CE cycle
0 begins 2.5 PWM clocks after the wrap, and a CE cycle lasts 1.25 (R36, R150).
(DEDUCED, log entry 105, unsafe.) -/
def requestClock (c : Nat) : Nat := (5 * (c + 1) + 10 + 3) / 4 + 2

/-- The state in which slot `i` runs from CE cycle `c`: its command is taken, a resume is used, a sequencer request is
issued (R223). -/
def State.startRun (s : State) (i c : Nat) : State :=
  let s := { s with ce := { s.ce with cmds := dropAt s.ce.cmds i, resumed := s.ce.resumed.filter (· != i) } }
  let misc := s.ld i 0x2C
  let n := getBits misc 24 3
  if bit misc 28 && s.f (F.SEQ_IS_CFG_SRC n) == 6 then s.trigRaise (· == n) (some (requestClock c)) else s

/-- An abandoned run leaves nothing (R39): its command is pending again unless a newer one is, to which it gives way without
REPLACED.
(DESIGN CHOICE, log entry 133, unsafe.) -/
def State.dropRun (s : State) (r : Run) : State :=
  let s := match r.cmd with
    | some w => if (lookupAt s.ce.cmds r.slot).isSome then s
        else { s with ce := { s.ce with cmds := putAt s.ce.cmds r.slot w } }
    | none => s
  if r.resumed then { s with ce := { s.ce with resumed := r.slot :: s.ce.resumed } } else s

end Sys2Proof.Machine
end

