-- ==== Sys2Proof/Machine/Pwm.lean ====
section
/-! DEFINITION. The PWM array (R172 to R203, R629): valley and peak of a drive group, switch edges, trips and cuts,
safe values, the coast rotator, general channels, and what the tick does to them. -/

namespace Sys2Proof.Machine

/-- What a meaning answers. -/
abbrev Result := Host.Outcome State Fault Refusal

/-- The PWM frame counter runs (R70), and the array is not held in reset (R460): PWM events can come.
(DEDUCED, log entry 123, unsafe.) -/
def State.pwmOn (s : State) : Bool := s.boot.counting && !s.plantHeld

/-- Add `n` to counter word `i` of FOL_LIVE (R500); a Curator holds it (R460).
(DEDUCED, log entry 123, unsafe.) -/
def State.liveAdd (s : State) (i n : Nat) : State := s.cond (!s.plantHeld) (·.add (F.FOL_LIVE i) n)

/-- N_P of a group with RATE `r`, or the period P of a channel (R172, R200). -/
def State.period (s : State) (r : Nat) : Nat := s.nf / 2 ^ r

/-- N_P of group `g`. -/
def State.np (s : State) (g : Nat) : Nat := s.period (s.grp g).rate

/-- Carry of a phase (R182). -/
def State.carry (s : State) (g x : Nat) : Int := toS 12 (s.f (F.PWM_G_ACT_CARRY g x))

/-- Every carry of group `g` becomes 0. -/
def State.zeroCarry (s : State) (g : Nat) : State := s.each [0, 1, 2] (fun t x => t.setF (F.PWM_G_ACT_CARRY g x) 0)

/-- A phase with both switches commanded off at `t`. -/
def Phase.allOff (p : Phase) (t : Int) : Phase :=
  { p with hi := false, lo := false, hiOff := if p.hi then t else p.hiOff, loOff := if p.lo then t else p.loOff,
           moved := false }

/-- Every switch of group `g` that is on is commanded off at period clock `t`.
(DESIGN CHOICE, log entry 53, safe.) -/
def State.switchesOff (s : State) (g : Nat) (t : Int) : State :=
  s.setGrp g (fun q => { q with ph := q.ph.map (·.allOff t) })

/-- No drop test is made for group `g` and its carries stay 0: the safe-state bus is asserted, OFF = 1 or EN = 0 (R194,
R196). -/
def State.groupQuiet (s : State) (g : Nat) : Bool :=
  !s.safe.srcs.isEmpty || s.on (F.PWM_G_CTL_OFF g) || !s.on (F.PWM_G_CFG_EN g)

/-- The latest period clock at which a switch of the phase that is on now was turned on; `t` when that is later. -/
def Phase.lastOn (p : Phase) (t : Int) : Int :=
  max (if p.hi then max t p.hiOn else t) (if p.lo then max t p.loOn else t)

/-- The period clock of an off command to group `g` that no operand tells: a free value, no earlier than the turn-on of
any switch that it turns off.
(DESIGN CHOICE, log entry 53, safe.) -/
def State.offClock (s : State) (g : Nat) : Int :=
  (s.grp g).ph.foldl (fun t p => p.lastOn t) ((s.free.1 % max (s.np g) 1 : Nat) : Int)

/-- The group's pins are held off from now until a valley lets it resume (R192, R196); R175 counts from this off
command.
(DESIGN CHOICE, log entry 53, safe; DEDUCED, log entry 123, unsafe.) -/
def State.groupForce (s : State) (g : Nat) : State :=
  if s.plantHeld then s
  else
    let s := s.free.2.switchesOff g (s.offClock g)
    let s := s.cond (s.groupQuiet g) (·.zeroCarry g)
    (s.setGrp g (fun q => { q with live := false })).setF (F.PWM_G_STAT_FORCED g) 1

/-- Something holds the group's pins off: safe state, OFF, EN = 0, PWM_CTL.EN = 0, or the unit's state. -/
def State.groupHeld (s : State) (g : Nat) : Bool :=
  s.safe.held || s.on (F.PWM_G_CTL_OFF g) || !s.on (F.PWM_G_CFG_EN g) || !s.on F.PWM_CTL_EN || !s.drivesPins

/-- The group off control is set (R196). -/
def State.groupOff (s : State) (g : Nat) : State := (s.setF (F.PWM_G_CTL_OFF g) 1).groupForce g

/-! ### Loads, drops and carry -/

/-- The state with phase `x` of group `g` changed. -/
def State.setPh (s : State) (g x : Nat) (f : Phase → Phase) : State :=
  s.setGrp g (fun q => { q with ph := updAt q.ph x f })

/-- Active width, rise and fall of a phase for a valley load of `w` (R174). -/
def State.setWidth (s : State) (g x w : Nat) : State :=
  let h := s.np g / 2
  let s := s.setF (F.PWM_G_ACT_WIDTH g x) w
  s.setPh g x (fun p => { p with r := (h : Int) - ((w + 1) / 2 : Nat), f := (h : Int) + (w / 2 : Nat) })

/-- The valley load of a phase with the minimum-pulse test and the carry (R178, R181, R182). `quiet` says that no
drop test is made (R190, R194). -/
def State.valleyLoad (s : State) (g x : Nat) (quiet : Bool) : State :=
  let np := s.np g
  let w := min (s.f (F.PWM_G_CMP_WIDTH g x)) np
  let carryOn := s.on (F.PWM_G_CFG_CARRY g)
  if quiet then
    ((s.setWidth g x w).setF (F.PWM_G_ACT_CARRY g x) 0).setPh g x (fun p => { p with dropH := false, dropL := false })
  else
    let weff := (clampI 0 np ((w : Int) + (if carryOn then s.carry g x else 0))).toNat
    let th := s.f (F.PWM_G_DEADTIME_DT g) + s.f (F.PWM_G_DEADTIME_MINP g)
    let dropH := decide (0 < weff) && decide (weff < th)
    let dropL := !dropH && decide ((np : Int) - th < weff) && decide (weff < np)
    let c : Int := if !carryOn then 0 else if dropH then weff else if dropL then (weff : Int) - np else 0
    let s := (s.setWidth g x weff).setF (F.PWM_G_ACT_CARRY g x) (ofI 12 c)
    let s := s.setPh g x (fun p => { p with dropH := dropH, dropL := dropL })
    let s := s.cond dropH (·.setBit (F.PWM_G_STAT_DROPH g) x)
    let s := s.cond dropL (·.setBit (F.PWM_G_STAT_DROPL g) x)
    s.cond (dropH || dropL) (·.count (F.PWM_G_DROPCNT g) (22 + g))

/-- Times of a phase counted from the next valley. -/
def Phase.shift (p : Phase) (n : Int) : Phase :=
  { p with r := p.r - n, f := p.f - n, hiOff := p.hiOff - n, loOff := p.loOff - n, hiOn := p.hiOn - n,
           loOn := p.loOn - n }

/-- The filtered trip inputs as the group sees them: live bits, and the sticky bits they set (R189). -/
def State.tripLevels (s : State) (lv : Nat) : State :=
  let s := (s.setF F.PWM_STAT_TRIPIN lv).orF F.PWM_TRIPFLAG_FLAG lv
  s.each (List.range 6) (fun t g =>
    t.cond (andN (t.f (F.PWM_G_TRIPMAP_MAP g)) lv != 0) (·.setF (F.PWM_G_STAT_TRIP g) 1))

/-- The trip inputs that the state shows as active are found as they are now: nothing tells when one of them falls, so
which have fallen is a free value (R189).
(DESIGN CHOICE, log entry 128, safe.) -/
def State.tripNow (s : State) : State :=
  if s.f F.PWM_STAT_TRIPIN = 0 then s
  else s.free.2.setF F.PWM_STAT_TRIPIN (andN (s.f F.PWM_STAT_TRIPIN) s.free.1)

/-- The rotator's write at a valley (R197, R198). -/
def State.rotate (s : State) (g : Nat) : State :=
  if s.on (F.PWM_G_COAST_EN g) then
    let a := (s.grp g).nextAngle
    let w := (rotatorWidths a (s.fi (F.PWM_G_VDQ_VD g)) (s.fi (F.PWM_G_VDQ_VQ g)) (s.np g)).1
    let s := s.each [0, 1, 2] (fun t x => t.setF (F.PWM_G_CMP_WIDTH g x) (w.getD x 0))
    let s := (s.setF (F.PWM_G_ANGLE g) a).setF (F.PWM_G_STAT_COASTING g) 1
    s.setGrp g (fun q => { q with coasting := true, nextAngle := (a + s.f (F.PWM_G_INC g)) % 2 ^ 32 })
  else s

/-- The release sample of a cut group (R187, R188). -/
def State.releaseSample (s : State) (g : Nat) : State :=
  let fresh := (s.grp g).fresh
  let s := s.setGrp g (fun q => { q with fresh := false })
  if !s.on (F.PWM_G_STAT_CUT g) || fresh then s
  else if andN (s.f (F.PWM_G_TRIPMAP_MAP g)) (s.f F.PWM_STAT_TRIPIN) = 0 then s.setF (F.PWM_G_STAT_CUT g) 0
  else (s.count (F.PWM_G_TCARCNT g) (28 + g)).setF (F.PWM_G_STAT_TCARRIED g) 1

/-- The order of R191 at a valley of group `g`.
(DESIGN CHOICE, log entry 52, unsafe.) -/
def State.valley (s : State) (g lv : Nat) : State :=
  let np := s.np g
  let s := s.setGrp g (fun q => { q with ph := q.ph.map (·.shift np) })
  let s := (s.tripLevels lv).rotate g
  let s := s.releaseSample g
  let held := s.groupHeld g
  let quiet := s.groupQuiet g || s.on (F.PWM_G_STAT_CUT g)
  let s := s.each [0, 1, 2] (fun t x => t.valleyLoad g x quiet)
  let s := s.setGrp g (fun q => { q with live := !held })
  s.setB (F.PWM_G_STAT_FORCED g) held

/-- The cut state at the end of PWM clock 0 follows an event in that clock (R288).
(DESIGN CHOICE, log entry 52, unsafe.) -/
def State.cutAtZero (s : State) (g : Nat) : State :=
  s.setDrv g (fun x => { x with cut0 := s.on (F.PWM_G_STAT_CUT g) })

/-- PWM clock of the frame at which the carrier of group `g` comes to period clock `c` for the `m`-th time since the tick,
counted from 0 (R173). -/
def State.carrierClock (s : State) (g c m : Nat) : Nat :=
  let np := s.np g
  (np + c - (s.grp g).phase) % max np 1 + m * np

/-- The trigger source of IS `n` is the carrier event `src` of group `g`, or both its events (R150). -/
def State.carrierSrc (s : State) (g src n : Nat) : Bool :=
  (s.f (F.SEQ_IS_CFG_SRC n) == src || s.f (F.SEQ_IS_CFG_SRC n) == 4) && s.f (F.SEQ_IS_CFG_GRP n) == g

/-- CARRIER_VALLEY (R150, R181, R191).
(DEDUCED, log entry 54, unsafe.) -/
def execCarrierValley (g : Fin 6) (trips : BitVec 8) (s : State) : Result :=
  .next (if s.pwmOn then
    let zero := (s.grp g).clk0 && (s.grp g).phase == 0
    let s := s.trigRaise (s.carrierSrc g 2) (some (s.carrierClock g 0 (s.grp g).valleys))
    let s := (s.valley g.val trips.toNat).setGrp g (fun q => { q with clk0 := false, valleys := q.valleys + 1 })
    if zero then s.cutAtZero g else s
  else s)

/-- CARRIER_PEAK: with LOAD = 1 the buffers load and `f_x` follows; a drop stands (R150, R178, R181). -/
def execCarrierPeak (g : Fin 6) (s : State) : Result :=
  .next (if s.pwmOn then
    let s := s.trigRaise (s.carrierSrc g 3) (some (s.carrierClock g (s.np g / 2) (s.grp g).peaks))
    let s := s.setGrp g (fun q => { q with peaks := q.peaks + 1 })
    if s.on (F.PWM_G_CFG_LOAD g) then
      s.each [0, 1, 2] (fun t x =>
        let w := min (t.f (F.PWM_G_CMP_WIDTH g x)) (t.np g)
        (t.setF (F.PWM_G_ACT_WIDTH g x) w).setPh g x (fun p => { p with f := ((t.np g / 2 : Nat) : Int) + (w / 2 : Nat) }))
    else s
  else s)

/-- PEAK_WIDTH_COPY (R297). -/
def execPeakWidthCopy (d : Fin 6) (s : State) : Result :=
  .next (match (s.drv d).peakWait with
    | some ws =>
      let s := s.setDrv d (fun x => { x with peakWait := none })
      s.each [0, 1, 2] (fun t x => t.writeCompare d x (ws.getD x 0))
    | none => s)

/-! ### Trips -/

/-- A cut of group `g` starts at period clock `pc` (R185, R186, R190). -/
def State.startCut (s : State) (g pc : Nat) : State :=
  if s.on (F.PWM_G_STAT_CUT g) then s
  else
    let s := (s.setF (F.PWM_G_STAT_CUT g) 1).count (F.PWM_G_TRIPCNT g) (16 + g)
    let s := (s.liveAdd (22 + g) 1).zeroCarry g
    let s := s.switchesOff g (if pc = 0 then s.np g else pc)
    s.setGrp g (fun q => { q with fresh := pc == 0 })

/-- A trip of input `n` at PWM clock `t` of a frame: its trigger event and the cuts of its groups (R150, R183 to R188). -/
def State.tripCuts (s : State) (n t : Nat) : State :=
  let s := s.trigRaise (fun k => s.f (F.SEQ_IS_CFG_SRC k) == 5 && s.f (F.SEQ_IS_CFG_GRP k) == n) (some t)
  s.each (List.range 6) (fun u g =>
    u.cond (bit (u.f (F.PWM_G_TRIPMAP_MAP g)) n) (fun v =>
      (v.startCut g (((v.grp g).phase + t) % max (v.np g) 1)).cond (t == 0) (·.cutAtZero g)))

/-- TRIP_REGISTERED: TRIPn goes active at PWM clock `t` of the frame (R150, R183 to R189). Its flags are set
whenever the domains run; a trigger and a cut need a period, so a frame counter that runs.
(DEDUCED, log entry 141, unsafe; DEDUCED, log entry 123, unsafe.) -/
def execTripRegistered (n : Fin 8) (t : BitVec 16) (s : State) : Result :=
  .next (if s.portLive && !s.halted && !s.plantHeld then
    let s := (s.tripLevels (orN (s.f F.PWM_STAT_TRIPIN) (2 ^ n.val))).ledger (40 + n)
    s.cond s.pwmOn (·.tripCuts n t.toNat)
  else s)

/-! ### Switch edges -/

/-- What the switch commands of a phase do at period clock `c` (R175, R177, R180). The flags say that an edge is moved
for the first time, and that a turn-on waits for the pad.
(DESIGN CHOICE, log entry 55, unsafe.) -/
def Phase.edge (p : Phase) (c d minp : Int) (padOk : Bool) : Phase × Bool × Bool :=
  let up := if p.dropH then false else if p.dropL then true else decide (p.r ≤ c) && decide (c < p.f)
  if up then
    if p.lo && decide (c - p.loOn < minp) then ({ p with moved := true }, !p.moved, false)
    else
      let q := if p.lo then { p with lo := false, loOff := c, moved := false } else p
      if q.hi || decide (c - q.loOff < d) then (q, false, false)
      else if padOk then ({ q with hi := true, hiOn := c }, false, false) else (q, false, true)
  else
    if p.hi && decide (c - p.hiOn < minp) then ({ p with moved := true }, !p.moved, false)
    else
      let q := if p.hi then { p with hi := false, hiOff := c, moved := false } else p
      if q.lo || decide (c - q.hiOff < d) then (q, false, false)
      else if padOk then ({ q with lo := true, loOn := c }, false, false) else (q, false, true)

/-- Switch commands of phase `x` of group `g` at period clock `c`.
(DESIGN CHOICE, log entry 55, unsafe; DEDUCED, log entry 103, safe.) -/
def State.phaseEdge (s : State) (g x c : Nat) (padOk : Bool) : State :=
  if !(s.grp g).live || s.on (F.PWM_G_STAT_CUT g) then s
  else
    match (s.grp g).ph[x]? with
    | none => s
    | some p =>
      let r := p.edge c (s.f (F.PWM_G_DEADTIME_DT g)) (s.f (F.PWM_G_DEADTIME_MINP g)) padOk
      let s := s.setGrp g (fun q => { q with ph := q.ph.set x r.1 })
      let s := s.cond r.2.1 (fun t => (t.count (F.PWM_G_CLAMPCNT g) (34 + g)).setF (F.PWM_G_STAT_CLAMP g) 1)
      s.cond r.2.2 (fun t => (t.setF (F.PWM_G_STAT_PADFLT g) 1).failSource 6)

/-! ### General channels -/

/-- What no register holds of general channel `c`. -/
def State.gpc (s : State) (c : Nat) : GpChan := s.pwm.gps.getD c ⟨0, 0, false, false, false⟩

/-- The state with general channel `c` changed. -/
def State.setGpc (s : State) (c : Nat) (f : GpChan → GpChan) : State :=
  { s with pwm := { s.pwm with gps := updAt s.pwm.gps c f } }

/-- The channel is enabled and the array drives its pins. -/
def State.gpEnabled (s : State) (c : Nat) : Bool := s.on (F.PWM_GP_CFG_EN c) && s.on F.PWM_CTL_EN && s.drivesPins

/-- The safe value of channel `c` at period clock `t` (R193). -/
def State.gpSafeLevel (s : State) (c t : Nat) : Bool :=
  match s.f (F.PWM_GP_CFG_SAFE c) with
  | 0 => false
  | 1 => true
  | _ => decide (t < s.f (F.PWM_GP_DUTY_SAFEDUTY c))

/-- The pin of channel `c` at period clock `t` (R193, R195, R200).
(DEDUCED, log entry 103, safe.) -/
def State.gpPin (s : State) (c t : Nat) : Bool :=
  if !s.gpEnabled c then false
  else if (s.gpc c).safe then s.gpSafeLevel c t
  else if (s.gpc c).live then decide (t < s.f (F.PWM_GP_ACT_DUTY c))
  else (s.gpc c).pin

/-- Channel `c` shows its safe value from now on (R193). At an instant that the command does not carry, what a SAFEDUTY
between 0 and P gives is a free value.
(DESIGN CHOICE, log entry 108, safe.) -/
def State.gpShow (s : State) (c : Nat) : State :=
  let d := s.f (F.PWM_GP_DUTY_SAFEDUTY c)
  let p := s.period (s.gpc c).rate
  let open_ := decide (2 ≤ s.f (F.PWM_GP_CFG_SAFE c)) && decide (0 < d) && decide (d < p)
  let level := if open_ then s.free.1 % 2 == 1 else s.gpSafeLevel c 0
  (s.cond open_ (·.free.2)).setGpc c (fun q => { q with live := false, safe := true, pin := level })

/-- GP_PERIOD_START (R195, R196, R200).
(DEDUCED, log entry 54, unsafe.) -/
def execGpPeriodStart (c : Fin 32) (s : State) : Result :=
  .next (if s.pwmOn then
    let s := s.setF (F.PWM_GP_ACT_DUTY c) (s.f (F.PWM_GP_DUTY_DUTY c))
    let s := s.setGpc c (fun q => { q with
      live := s.gpEnabled c && !s.safe.held, safe := s.gpEnabled c && s.safe.held })
    s.setGpc c (fun q => { q with pin := s.gpPin c 0 })
  else s)

/-- SWITCH_EDGE.
(DESIGN CHOICE, log entry 55, unsafe.) -/
def execSwitchEdge (t : SwitchTarget) (clk : BitVec 16) (padOk : Bool) (s : State) : Result :=
  .next (if s.pwmOn then
    (match t with
      | .phase g x => s.phaseEdge g.val x.val clk.toNat padOk
      | .gp c => s.setGpc c.val (fun q => { q with pin := s.gpPin c.val clk.toNat }))
  else s)

/-! ### Safe state, tick and start of the counters -/

/-- Every output takes its safe value (R55, R192, R193). -/
def State.outputsSafe (s : State) : State :=
  let s := s.each (List.range 6) (·.groupForce ·)
  s.each (List.range 32) (fun t c => t.cond (t.gpEnabled c) (·.gpShow c))

/-- PWM_STAT.SAFE shows the safe-state bus; a Curator holds the register (R460).
(DEDUCED, log entry 123, unsafe.) -/
def State.showSafe (s : State) : State := s.cond (!s.plantHeld) (·.setB F.PWM_STAT_SAFE (!s.safe.srcs.isEmpty))

/-- A source asserts the safe-state bus (R55). -/
def State.safeAssert (s : State) (src : SafeSource) : State :=
  if s.safe.srcs.contains src then s
  else
    let new := s.safe.srcs.isEmpty
    let s := { s with safe := { s.safe with srcs := src :: s.safe.srcs, held := true } }
    let s := s.showSafe
    if new then s.outputsSafe.ledger 48 else s

/-- A source releases the safe-state bus; the outputs keep their safe values until a tick (R55, R195). -/
def State.safeRelease (s : State) (src : SafeSource) : State :=
  let l := s.safe.srcs.filter (fun x => decide (x ≠ src))
  { s with safe := { s.safe with srcs := l } }.showSafe

/-- Period clocks between the valley from which a group's times are counted and the tick that comes now: PHASE, or the
whole period where a valley falls on the tick. -/
def periodSoFar (phase np : Nat) : Int := if phase = 0 then np else phase

/-- Group `g` takes a new RATE and PHASE (R629). A drop decided in the old period stands until the next valley.
(DESIGN CHOICE, log entry 112, unsafe.) -/
def State.regroup (s : State) (g : Nat) : State :=
  let rate := s.f (F.PWM_G_CFG_RATE g)
  let phase := s.f (F.PWM_G_CFG_PHASE g)
  let old := s.grp g
  if rate = old.rate ∧ phase = old.phase then s
  else
    let d := periodSoFar old.phase (s.period old.rate) - periodSoFar phase (s.period rate)
    let s := s.setGrp g (fun q => { q with rate := rate, phase := phase, ph := q.ph.map (·.shift d) })
    let s := s.zeroCarry g
    s.each [0, 1, 2] (fun t x => t.setWidth g x (min (t.f (F.PWM_G_ACT_WIDTH g x)) (t.np g)))

/-- Channel `c` takes a new RATE and PHASE (R629). -/
def State.rechannel (s : State) (c : Nat) : State :=
  let rate := s.f (F.PWM_GP_CFG_RATE c)
  let phase := s.f (F.PWM_GP_CFG_PHASE c)
  if rate = (s.gpc c).rate ∧ phase = (s.gpc c).phase then s
  else
    let s := s.setGpc c (fun q => { q with rate := rate, phase := phase })
    s.setF (F.PWM_GP_ACT_DUTY c) (min (s.f (F.PWM_GP_ACT_DUTY c)) (s.period rate))

/-- The carrier events of the frame are counted from now. -/
def State.carriersAnew (s : State) : State :=
  s.each (List.range 6) (fun t g => t.setGrp g (fun q => { q with clk0 := true, valleys := 0, peaks := 0 }))

/-- The outputs would be driven if the first tick had come: this is what the tick finds (R4, R64). -/
def State.gpEnabledNow (s : State) (c : Nat) : Bool := { s with boot := { s.boot with ticked := true } }.gpEnabled c

/-- Every enabled channel shows its safe value at a tick to which the outputs were held safe: one that was enabled under
the safe-state bus, and at the first tick one that was reset-safe until then (R4, R64, R193). -/
def State.gpSafeTick (s : State) : State :=
  s.each (List.range 32) (fun t c => t.cond (t.gpEnabledNow c && !(t.gpc c).safe) (fun u =>
    u.setGpc c (fun q => { q with live := false, safe := true, pin := u.gpSafeLevel c q.phase })))

/-- What the tick does in the PWM domain besides the copy of staged widths: new rates and phases (R629), configured safe
values where the outputs are held to them (R4, R64), and the end of that when every source has released (R55). -/
def State.pwmTick (s : State) : State :=
  let s := s.each (List.range 6) (·.regroup ·)
  let s := (s.each (List.range 32) (·.rechannel ·)).carriersAnew
  let s := (s.each (List.range 6) (·.cutAtZero ·)).cond s.safe.held (·.gpSafeTick)
  if s.safe.srcs.isEmpty then { s with safe := { s.safe with held := false, ticks := 0 } }
  else { s with safe := { s.safe with ticks := min (s.safe.ticks + 1) 2 } }

/-- FORCED shows what holds each group's pins off.
(DEDUCED, log entry 25, unsafe.) -/
def State.showForced (s : State) : State :=
  s.each (List.range 6) (fun t g => t.setB (F.PWM_G_STAT_FORCED g) (t.groupHeld g))

/-- The counters start at PHASE with the frame counter (R70, R173).
(DEDUCED, log entry 25, unsafe.) -/
def State.pwmStart (s : State) : State :=
  let s := (s.each (List.range 6) (·.regroup ·)).showForced
  (s.each (List.range 32) (·.rechannel ·)).carriersAnew

/-! ### Effects of register writes -/

/-- A write of PWM_Gg_CTL has set or cleared OFF (R196). -/
def State.offWritten (s : State) (g : Nat) : State := if s.on (F.PWM_G_CTL_OFF g) then s.groupForce g else s

/-- A write of PWM_Gg_CFG or PWM_CTL may have changed what enables group `g`, and CARRY (R182, R196). -/
def State.enWritten (s : State) (g : Nat) : State :=
  let s := s.cond (!s.on (F.PWM_G_CFG_CARRY g)) (·.zeroCarry g)
  if s.on (F.PWM_G_CFG_EN g) && s.on F.PWM_CTL_EN then s else s.groupForce g

/-- A write of PWM_GPc_CFG or PWM_CTL may have changed what enables channel `c`, or its safe value. Enabled under the
safe-state bus, it shows its safe value (R193). -/
def State.gpEnWritten (s : State) (c : Nat) : State :=
  if !s.gpEnabled c then s.setGpc c (fun q => { q with live := false, safe := false, pin := false })
  else if s.safe.held || (s.gpc c).safe then s.gpShow c else s

/-- A write of PWM_GPc_DUTY: a channel that shows SAFEDUTY follows the new value (R193). -/
def State.gpDutyWritten (s : State) (c : Nat) : State := if (s.gpc c).safe then s.gpShow c else s

/-- A write of PWM_Gg_COAST.EN (R197, R199).
(DEDUCED, log entry 54, unsafe.) -/
def State.coastWritten (s : State) (g : Nat) : State :=
  if s.on (F.PWM_G_COAST_EN g) then s
  else (s.setGrp g (fun q => { q with coasting := false })).setF (F.PWM_G_STAT_COASTING g) 0

/-- A write of PWM_Gg_ANGLE that was accepted (R199). The register reads the written value until a valley uses an angle.
(DESIGN CHOICE, log entry 113, unsafe.) -/
def State.angleWritten (s : State) (g : Nat) : State :=
  s.setGrp g (fun q => { q with nextAngle := s.f (F.PWM_G_ANGLE g) })

/-- The conditions of the PWM section that fail for group `g` (R31, R202). -/
def State.groupBad (s : State) (g : Nat) : List (List Nat) :=
  let r := s.f (F.PWM_G_CFG_RATE g)
  let np := s.period r
  failing [(0, decide (r < 3)), (1, r != 2 || s.nf % 200 == 0), (2, decide (s.f (F.PWM_G_CFG_PHASE g) < np)),
    (3, decide (4 ≤ s.f (F.PWM_G_DEADTIME_DT g))),
    (4, decide (2 * (s.f (F.PWM_G_DEADTIME_DT g) + s.f (F.PWM_G_DEADTIME_MINP g)) ≤ np))]

/-- The conditions of the PWM section that fail for channel `c` (R202). -/
def State.gpBad (s : State) (c : Nat) : List (List Nat) :=
  let r := s.f (F.PWM_GP_CFG_RATE c)
  failing [(0, decide (r < 3)), (1, decide (s.f (F.PWM_GP_CFG_PHASE c) < s.period r)),
    (2, decide (s.f (F.PWM_GP_CFG_SAFE c) < 3))]

/-- The conditions of the PWM section that fail (R202). -/
def State.pwmBad (s : State) : List (List Nat) :=
  within 0 (withinEach 6 s.groupBad) ++ within 1 (withinEach 32 s.gpBad)

/-- The structural check of the PWM section (R202). -/
def State.pwmOk (s : State) : Bool := s.pwmBad.isEmpty

end Sys2Proof.Machine
end

