-- ==== Sys2Proof/Machine/Drives.lean ====
section
/-! DEFINITION. The drive chain (R286 to R317): FRONT, BACK, the drive's states, its commands and its faults. -/

namespace Sys2Proof.Machine

/-! ### Loops of a drive -/

/-- IDSLOT, IQSLOT and SPDSLOT of drive `d`. -/
def State.drSlots (s : State) (d : Nat) : Nat × Nat × Nat :=
  (s.dr d 4 % 512, getBits (s.dr d 4) 16 9, s.dr d 8 % 512)

/-- A mode command becomes the slot's pending command and replaces an earlier one (R252, R253). -/
def State.pendCmd (s : State) (slot w : Nat) : State :=
  let s := s.cond (lookupAt s.ce.cmds slot).isSome (·.setF F.CE_CMDSTAT_REPLACED 1)
  { s with ce := { s.ce with cmds := putAt s.ce.cmds slot w } }

/-- The chain commands a mode: 0 OFF, 2 AUTO, 3 TRACK (R305). -/
def State.chainMode (s : State) (slot mode : Nat) : State := s.pendCmd slot (slot + mode * 2 ^ 12 + 2 ^ 14)

/-- OUT and every section state of a loop become 0, and it is commanded OFF with CLRFOLLOW (R305). -/
def State.clearLoop (s : State) (i : Nat) : State :=
  let ctl := s.ld i 0
  let n := if bit ctl 2 then 0 else getBits ctl 8 3
  let sec0 := s.ld i 4 % 2048
  let s := s.setM (lsAddr i) 0
  let s := s.each (List.range n) (fun t k => t.setSect (sec0 + k) ⟨0, 0, 0, 0, 0, false, false⟩)
  s.pendCmd i (i + 2 ^ 14 + 2 ^ 16)

/-- "Loops cleared" of R305. -/
def State.clearLoops (s : State) (d : Nat) : State :=
  let l := s.drSlots d
  ((s.clearLoop l.1).clearLoop l.2.1).clearLoop l.2.2

/-- The drive enters state `st`; its runs in it start from 0.
(DEDUCED, log entry 63, unsafe.) -/
def State.enter (s : State) (d st : Nat) : State :=
  let s := (s.setDr d 0xD4 (setBits (s.dr d 0xD4) 0 3 st)).setDr d 0xD4
    (setBits (setBits (s.dr d 0xD4) 0 3 st) 8 12 0)
  let s := s.setDrv d (fun x => { x with runs := 0 })
  (s.setF (F.CE_DR_STAT_STATE d) st).setB (F.CE_DR_STAT_ANGVALID d) (st == 5)

/-- Runs done in the present state. -/
def State.runsDone (s : State) (d : Nat) : Nat :=
  let r := getBits (s.dr d 0xD4) 8 12
  if r < 4095 then r else max 4095 (s.drv d).runs

/-! ### Fault and stop (R305, R309 to R311) -/

/-- The lowest set bit of a fault mask, 15 for none. -/
def lowBit (x : Nat) : Nat := (bitsOf x 9).headD 15

/-- Drive `d` faults with the causes `bits` (R310). -/
def State.driveFault (s : State) (d bits : Nat) : State :=
  let s := s.groupOff d
  let s := (s.orF (F.CE_DR_FAULT_CAUSE d) bits).setF (F.CE_DR_FAULT_FIRST d) (lowBit bits)
  let s := (s.count (F.CE_DR_FAULTCNT d) (94 + d)).liveAdd (16 + d) 1
  let s := s.log 0x06 0x13 d (s.rd (F.CE_DR_FAULT_CAUSE d).addr) none true
  let s := (s.enter d 6).setDr d 0x84 0
  let s := (s.clearLoops d).setF F.SVC_IRQST_DRVFLT 1
  (s.cond (bit bits 7) (·.failSource 0)).cond (bit bits 4) (·.failSource 1)

/-- The consecutive-overrun count has come to 3 (R46, R235, R309): the fault OVR, outside STOPPED and SAFESTOP.
(DEDUCED, log entry 57, unsafe.) -/
def State.overrunFault (s : State) (d : Nat) : State :=
  if s.driveState d = 0 ∨ s.driveState d = 6 then s else s.driveFault d 128

/-- STOP (R305). -/
def State.driveHalt (s : State) (d : Nat) : State :=
  ((s.groupOff d).enter d 0).setDr d 0x84 0 |>.clearLoops d

/-! ### Commands (R304) -/

/-- Is command word `w` legal in the state that stands? `ntc` and `level` say that an NTC condition holds and that a
level test of R309 fails. -/
def State.driveLegal (s : State) (d w : Nat) (ntc level : Bool) : Bool :=
  if bit w 0 then
    s.driveState d == 0 && s.f (F.CE_DR_FAULT_CAUSE d) == 0 && !ntc && !s.ceStopped && s.active
      && s.on (F.PWM_G_CFG_EN d) && !(s.ripen d && s.sheds)
  else if bit w 2 then s.driveState d == 6 && !level
  else true

/-- A write of CE_DRd_CMD: the command is held, or the write is discarded. -/
def State.driveCmdWrite (s : State) (d w : Nat) : State × Bool :=
  if 1 < (bitsOf w 3).length then (s, false)
  else if w % 8 = 0 then (s, true)
  else if s.driveLegal d w (s.drv d).ntc (s.drv d).level then
    (s.setDrv d (fun x => { x with cmd := some (w % 16), cmdAlm := false }), true)
  else (s, false)

/-- FRONT takes the held command or drops it (R304, R305); one that the Almanac staged is then counted (R366). -/
def State.driveTake (s : State) (d : Nat) (ntc level : Bool) : State :=
  match (s.drv d).cmd with
  | none => s
  | some w =>
    let alm := (s.drv d).cmdAlm
    let s := s.setDrv d (fun x => { x with cmd := none, cmdAlm := false })
    if !s.driveLegal d w ntc level then (s.reject 3 (0x40050200 + 0x40 * d)).cond alm (·.inc F.ALM_STGREJCNT)
    else if bit w 0 then
      let s := (s.setF (F.PWM_G_CTL_OFF d) 0).enter d 1
      let s := (s.count (F.CE_DR_STARTCNT d) (106 + d)).liveAdd (10 + d) 1
      s.setDrv d (fun x => { x with back := bit w 3 })
    else if bit w 1 then (if s.driveState d = 0 ∨ s.driveState d = 6 then s else s.driveHalt d)
    else ((s.enter d 0).setF (F.CE_DR_FAULT_CAUSE d) 0).setF (F.CE_DR_FAULT_FIRST d) 15

/-! ### FRONT -/

/-- Entry to RUN from POLARITY (R306). -/
def State.polarityDone (s : State) (d : Nat) : State :=
  let flip := decide (s.drI d 0xD8 < s.drI d 0xDC + s.drI d 0x64) && decide (s.drI d 0xD8 + s.drI d 0x64 ≤ s.drI d 0xDC)
  let s := if flip then
      let s := s.setDr d 0x80 ((s.dr d 0x80 + 2 ^ 31) % 2 ^ 32)
      let p := !bit (s.dr d 0xE8) 2
      (s.setDr d 0xE8 (setBits (s.dr d 0xE8) 2 1 (b2n p))).setB (F.CE_DR_STAT_POL d) p
    else s
  let l := s.drSlots d
  let s := ((s.enter d 5).setDr d 0x9C 0).setDr d 0xA0 0
  ((s.chainMode l.1 2).chainMode l.2.1 2).chainMode l.2.2 2

/-- Transitions that a FRONT makes before it computes: a start ended by WARM, and runs done (R305).
(DEDUCED, log entry 63, unsafe.) -/
def State.driveAdvance (s : State) (d : Nat) : State :=
  let st := s.driveState d
  let r := s.runsDone d
  let w := s.dr d 0x5C
  let l := s.drSlots d
  if (st = 2 ∨ st = 3) ∧ s.sheds then (s.driveHalt d).setF (F.CE_DR_STAT_STARTABORT d) 1
  else if st = 1 ∧ w % 256 ≤ r then
    if s.ripen d then s.enter d 2
    else
      let s := ((s.enter d 4).setDr d 0x9C 0).setDrI d 0xA0
        (if (s.drv d).back then -s.drI d 0x68 else s.drI d 0x68)
      ((s.chainMode l.1 2).chainMode l.2.1 2).chainMode l.2.2 3
  else if st = 2 ∧ 4 * getBits w 8 12 ≤ r then ((s.enter d 3).setDr d 0xD8 0).setDr d 0xDC 0
  else if st = 3 ∧ 3 * getBits w 20 8 ≤ r then s.polarityDone d
  else s

/-- The held drive resumes from the rotator's state (R314).
(DEDUCED, log entry 60, unsafe.) -/
def State.driveResume (s : State) (d : Nat) (vdc : Int) : State :=
  if !(s.drv d).resume then s
  else
    let step := toS 32 (ofI 32 (s.fi (F.PWM_G_INC d) * (2 ^ (s.grp d).rate : Nat)))
    let padv := getBits (s.dr d 8) 16 10
    let s := (s.enter d 5).setDrI d 0x84 step
    let s := s.setDrI d 0x80 ((s.f (F.PWM_G_ANGLE d) : Int) - rnd (step * padv) 8)
    let s := s.setDrI d 0xA4 (sat32 (rnd (s.fi (F.PWM_G_VDQ_VD d) * vdc) 15))
    let s := s.setDrI d 0xA8 (sat32 (rnd (s.fi (F.PWM_G_VDQ_VQ d) * vdc) 15))
    let l := s.drSlots d
    let s := ((s.chainMode l.1 2).chainMode l.2.1 2).chainMode l.2.2 2
    let s := { s with ce := { s.ce with resumed := l.1 :: l.2.1 :: l.2.2 :: s.ce.resumed } }
    s.setDrv d (fun x => { x with resume := false, coastEnd := true })

/-- Least-squares slope of entries `a … b` of burst `n` in latch half `h` (R298). -/
def State.slope (s : State) (n h a b : Nat) : Int :=
  let m : Int := (b : Int) - a + 1
  let sxy := (List.range (b + 1 - a)).foldl
    (fun (acc : Int) k => acc + (2 * ((a + k : Nat) : Int) - a - b) * s.latchVal n h (a + k)) 0
  sat32 (rdiv (6 * sxy) (m * (m * m - 1)))

/-- What the ripple observer gives (R298). -/
structure Ripple where
  /-- Y1 cos 2θ. -/
  ra : Int
  /-- Y1 sin 2θ. -/
  rb : Int
  /-- Y0. -/
  ry0 : Int
  /-- Angle error. -/
  eps : Int
  /-- The quality test passed. -/
  ok : Bool
  deriving DecidableEq, Repr

/-- The ripple observer of drive `d` in latch half `h`, `thp` being the predicted angle (R298). -/
def State.ripple (s : State) (d h thp : Nat) : Ripple :=
  let ctl := s.dr d 0
  let nu := getBits ctl 8 3
  let nw := getBits ctl 12 3
  let w := s.dr d 0x50
  let j := fun k => getBits w (5 * k) 5
  let u0 := s.slope nu h (j 4) (j 5)
  let w0 := s.slope nw h (j 4) (j 5)
  let m1 := sat32 (s.slope nu h (j 0) (j 1) - u0)
  let m2 := sat32 (s.slope nu h (j 2) (j 3) - u0)
  let m3 := sat32 (s.slope nw h (j 0) (j 1) - w0)
  let m4 := sat32 (s.slope nw h (j 2) (j 3) - w0)
  let ra := term 357913941 0 (sat32 (m1 + m2 - m3 + 2 * m4))
  let rb := term 619925131 0 (sat32 (m2 - m3 - m1))
  let ry0 := term 357913941 0 (sat32 (2 * m1 - m2 + m3 - 2 * m4))
  let e := toS 32 (ofI 32 ((atan2 rb ra / 2 : Nat) - (thp : Int)))
  let e := if 2 ^ 30 < e then e - 2 ^ 31 else if e < -2 ^ 30 then e + 2 ^ 31 else e
  let lim := sat32 (rnd (ry0 * s.drI d 0x54) 16)
  ⟨ra, rb, ry0, e, decide (0 < ry0) && decide (lim * lim ≤ ra * ra + rb * rb)⟩

/-- The back-EMF observer's results (R295). -/
structure Emf where
  /-- ED. -/
  ed : Int
  /-- EQ. -/
  eq : Int
  /-- Angle error. -/
  eps : Int
  /-- EDFF. -/
  edff : Int
  /-- EQFF. -/
  eqff : Int
  deriving DecidableEq, Repr

/-- The back-EMF observer of drive `d` for currents `id`, `iq` (R295). -/
def State.emf (s : State) (d : Nat) (id iq speed step : Int) : Emf :=
  let ex := s.dr d 0x1C
  let t := fun o k v => term (s.drI d o) (toS 6 (getBits ex (6 * k) 6)) v
  let w := term 843314857 3 speed
  let psd := t 0x10 1 id
  let psq := t 0x14 2 iq
  let ed := sat32 (s.drI d 0xA4 - t 0x0C 0 id - t 0x18 3 (sat32 (id - s.drI d 0x90)) + mul16 w psq)
  let eq := sat32 (s.drI d 0xA8 - t 0x0C 0 iq - t 0x18 3 (sat32 (iq - s.drI d 0x94)) - mul16 w psd)
  let eps := toS 32 (if 0 ≤ step then atan2 (-ed) eq else atan2 ed (-eq))
  ⟨ed, eq, eps, sat32 (-mul16 w psq), sat32 (mul16 w psd + eq)⟩

/-- Angle error by state, and ANGSRC (R301). -/
def frontEps (st : Nat) (r : Ripple) (epsb fa flo fhi : Int) : Int × Nat :=
  if st = 2 then (if r.ok then (r.eps, 1) else (0, 0))
  else if st = 5 then
    if r.ok ∧ fa < fhi then
      (if fa ≤ flo then (r.eps, 1) else (rdiv ((fhi - fa) * r.eps + (fa - flo) * epsb) (fhi - flo), 2))
    else (epsb, 3)
  else (0, 0)

/-- DERFR (R307); with VTDER = VTMAX the manual states no quotient, and the value in 0 … 65536 is free.
(DESIGN CHOICE, log entry 61, safe.) -/
def State.derate (s : State) (d : Nat) (v : Int) : Int × State :=
  let vmax := s.drI d 0x7C
  let vder := s.drI d 0x78
  if vder = vmax then ((((s.free).1 % 65537 : Nat) : Int), (s.free).2)
  else (clampI 0 65536 (rdiv ((v - vmax) * 65536) (vder - vmax)), s)

/-- One count of R309: up to 255 while the condition holds. -/
def upCount (c : Nat) (b : Bool) : Nat := if b then min (c + 1) 255 else 0

/-- OUT of loop `i` takes the value `x`, given with 16 fraction bits (R314). -/
def State.putLoop (s : State) (i : Nat) (x : Int) : State := s.setMI (lsAddr i) (conv 16 (s.loopFrac i) x).1

/-- FRONT of drive `d` (R288 to R302, R304 to R312).
(DEDUCED, log entry 60, unsafe.) -/
def State.front (s : State) (d : Nat) : State :=
  let h := s.frame % 2
  let n := getBits (s.dr d 0) 4 3
  let iu := s.latchVal n h 0
  let iv := s.latchVal n h 1
  let iw := s.latchVal n h 2
  let vdc := s.latchVal n h 3
  let v := s.latest (getBits (s.dr d 0) 16 6)
  let safe := s.on F.PWM_STAT_SAFE
  let x := s.derate d v
  let der := x.1
  let s := x.2
  let broken := decide (v < s.drI d 0x70) || decide (s.drI d 0x74 < v)
  let hotN := der == 0
  let imax := s.drI d 0x34
  let ocI := decide (imax < iu.natAbs) || decide (imax < iv.natAbs) || decide (imax < iw.natAbs)
  let ov := decide (s.drI d 0x38 < vdc)
  let uv := decide (vdc < s.drI d 0x3C)
  let level := ocI || ov || uv || broken || hotN || safe
  let s := s.setDrv d (fun x => { x with level := level, ntc := broken || hotN })
  let resumes := (s.drv d).resume
  let s := ((s.driveTake d (broken || hotN) level).driveAdvance d).driveResume d vdc
  let st := s.driveState d
  let r := s.runsDone d
  let step := s.drI d 0x84
  -- R293
  let ia := term 357913941 0 (sat32 (2 * iu - iv - iw))
  let ib := term 619925131 0 (sat32 (iv - iw))
  let thp := ofI 32 ((s.dr d 0x80 : Int) + step)
  let k := thp / 2 ^ 20
  let id := sat32 (rnd (ia * sintab (k + 1024) + ib * sintab k) 15)
  let iq := sat32 (rnd (ib * sintab (k + 1024) - ia * sintab k) 15)
  -- R295, R298, R299
  let speed := s.fi (F.CE_DR_SPEED d)
  let fa : Int := speed.natAbs
  let flo := s.drI d 0x2C
  let fhi := s.drI d 0x30
  let e := s.emf d id iq speed step
  let staged := bit (s.dr d 0xE8) 0
  let avail := s.ripen d && staged && !s.sheds
  let rp := if avail then s.ripple d h thp else ⟨0, 0, 0, 0, false⟩
  let s := if avail then ((s.setDrI d 0xB8 rp.ra).setDrI d 0xBC rp.rb).setDrI d 0xC0 rp.ry0 else s
  let s := s.setDr d 0xE8 (setBits (s.dr d 0xE8) 1 1 (b2n staged))
  -- R301
  let es := frontEps st rp e.eps fa flo fhi
  let ext := s.dr d 0x28
  let ang := (thp : Int) + term (s.drI d 0x20) (toS 6 ext) es.1
  let step1 := if st = 5 then sat32 (step + term (s.drI d 0x24) (toS 6 (ext / 64)) es.1)
    else if st = 4 then sat32 (step + (if (s.drv d).back then -s.drI d 0x6C else s.drI d 0x6C)) else 0
  let spd := term ((16384000000000 + s.nf) / (2 * s.nf) : Nat) 0 step1
  -- R302
  let bad := st == 5 && ((!rp.ok && decide (fa < fhi) && avail)
    || (decide (((s.dr d 0x58 / 2 ^ 16 * 2 ^ 16 : Nat) : Int) < e.eps.natAbs) && (decide (flo < fa) || !avail)))
  let q := s.dr d 0xE4
  let loss := if bad then min (q % 2 ^ 16 + 1) 65535 else 0
  let okRuns := if rp.ok then min (q / 2 ^ 16 + 1) 65535 else 0
  -- R306
  let npol := getBits (s.dr d 0x5C) 20 8
  let ppos := if st = 3 ∧ r < npol then max (s.drI d 0xD8) (sat32 id.natAbs) else s.drI d 0xD8
  let pneg := if st = 3 ∧ 2 * npol ≤ r then max (s.drI d 0xDC) (sat32 id.natAbs) else s.drI d 0xDC
  -- words
  let s := ((s.setDrI d 0x80 ang).setDrI d 0x84 step1).setDrI d 0x88 id
  let s := ((s.setDrI d 0x8C iq).setDrI d 0x90 id).setDrI d 0x94 iq
  let s := ((s.setDrI d 0x98 vdc).setDrI d 0xC4 es.1).setDrI d 0xC8 e.ed
  let s := ((s.setDrI d 0xCC e.eq).setDrI d 0xD0 der).setDr d 0xE4 (loss + okRuns * 2 ^ 16)
  let s := (s.setDrI d 0xD8 ppos).setDrI d 0xDC pneg
  let s := s.setDr d 0xD4 (setBits (s.dr d 0xD4) 8 12 (min (r + 1) 4095))
  let s := s.setDrv d (fun x => { x with iu := iu, iv := iv, iw := iw, edff := e.edff, eqff := e.eqff, runs := r + 1 })
  let s := ((s.setI (F.CE_DR_SPEED d) spd).setI (F.CE_DR_ANGLE d) ang).setF (F.CE_DR_STAT_ANGSRC d) es.2
  let s := s.setB (F.CE_DR_STAT_WARMLOW d) (s.ripen d && s.warm && st == 5 && decide (fa < fhi))
  -- the resumed loops continue from the rotator (R314)
  let l := s.drSlots d
  let s := if resumes then
      ((s.putLoop l.1 (s.drI d 0xA4)).putLoop l.2.1 (s.drI d 0xA8)).putLoop l.2.2 iq
    else s
  -- FORCED to RUN (R305)
  let s := if st = 4 ∧ fhi ≤ fa then (s.enter d 5).chainMode l.2.2 2 else s
  -- R308, R309
  let fol := bit (s.loopStat l.2.2) 9
  let raised := fol && !(s.drv d).folSeen
  let s := s.setDrv d (fun x => { x with folSeen := fol })
  let c := s.dr d 0xE0
  let live := st != 0 && st != 6
  let oc := upCount (c % 256) (live && (s.drv d).cut0)
  let ovc := upCount (getBits c 8 8) (live && ov)
  let uvc := upCount (getBits c 16 8) (live && uv)
  let ntc := upCount (getBits c 24 8) (broken || hotN)
  let s := s.setDr d 0xE0 (oc + ovc * 2 ^ 8 + uvc * 2 ^ 16 + ntc * 2 ^ 24)
  let obs := (st == 5 && decide (s.dr d 0x58 % 2 ^ 16 ≤ loss))
    || (st == 2 && decide (4 * getBits (s.dr d 0x5C) 8 12 ≤ r + 1) && decide (okRuns < 16))
    || (st == 3 && decide (3 * npol ≤ r + 1) && decide (ppos < pneg + s.drI d 0x64)
        && decide (pneg < ppos + s.drI d 0x64))
  let bits := b2n (ocI || decide (4 ≤ oc)) + 2 * b2n (decide (4 ≤ ovc)) + 4 * b2n (decide (4 ≤ uvc))
    + 8 * b2n raised + 16 * b2n obs + 32 * b2n (decide (64 ≤ ntc) && broken) + 64 * b2n (decide (64 ≤ ntc) && hotN)
    + 256 * b2n safe
  if live && bits != 0 then s.driveFault d bits else s

/-! ### BACK -/

/-- BACK's voltages (R303, R306). -/
def State.backVolts (s : State) (d : Nat) : Int × Int :=
  let st := s.driveState d
  if st = 4 ∨ st = 5 then ((s.drv d).vd, (s.drv d).vq)
  else if st = 3 then
    let n := getBits (s.dr d 0x5C) 20 8
    let r := s.runsDone d - 1
    (if r < n then s.drI d 0x60 else if r < 2 * n then 0 else -s.drI d 0x60, 0)
  else (0, 0)

/-- Does every phase keep its place in the pattern (R296)? -/
def patternFits (h np dm : Int) (r w : List Int) : Bool :=
  (r.zip w).all (fun p => decide (h - p.1 + dm ≤ p.2) && decide (p.2 ≤ np - p.1 - dm))

/-- BACK of drive `d` (R296, R303, R313). -/
def State.back (s : State) (d : Nat) : State :=
  let st := s.driveState d
  let v := s.backVolts d
  let vdc := s.drI d 0x98
  let nrm := fun x => if 0 < vdc then clampI (-32768) 32767 (rdiv (x * 32768) vdc) else 0
  let vdn := nrm v.1
  let vqn := nrm v.2
  let np := s.np d
  let step := s.drI d 0x84
  let thout := ofI 32 ((s.dr d 0x80 : Int) + rnd (step * (getBits (s.dr d 8) 16 10 : Nat)) 8)
  let rw := rotatorWidths thout vdn vqn np
  let idb := s.drI d 0x48
  let dtc : Int := s.dr d 0x44 % 1024
  let sg := fun (i : Int) => if idb < i then dtc else if i < -idb then -dtc else 0
  let x := s.drv d
  let wid := (rw.1.zip [x.iu, x.iv, x.iw]).map (fun p => clampI 0 np ((p.1 : Int) + sg p.2))
  let s := s.cond rw.2 (·.setF (F.CE_DR_STAT_VSAT d) 1)
  let s := (s.setDrI d 0xA4 v.1).setDrI d 0xA8 v.2
  let s := s.setDr d 0xAC (ofI 16 vdn + ofI 16 vqn * 2 ^ 16)
  let s := (s.setDr d 0xB0 thout).setDrI d 0xB4 (rnd step ((s.grp d).rate : Nat))
  -- the pattern
  let rip := s.dr d 0x4C
  let rp : Int := rip % 2 ^ 16
  let tv : Int := rip / 2 ^ 16
  let rs := [rp - tv, rp, rp + tv]
  let h : Int := np / 2
  let dm : Int := s.f (F.PWM_G_DEADTIME_DT d) + s.f (F.PWM_G_DEADTIME_MINP d)
  let want := s.ripen d && (st == 2 || st == 3 || st == 5)
    && decide (((s.fi (F.CE_DR_SPEED d)).natAbs : Int) ≤ s.drI d 0x30) && !s.sheds
  let fits := patternFits h np dm rs wid
  let s := s.cond (want && !fits) (·.count (F.CE_DR_RIPSKIP d) (100 + d))
  let pat := want && fits
  let wv := if pat then rs.map (fun r => (2 * (h - r)).toNat) else wid.map (·.toNat)
  let wp := if pat then (rs.zip wid).map (fun p => (2 * (p.1 + p.2 - h)).toNat) else wid.map (·.toNat)
  let s := (s.setDr d 0xE8 (setBits (s.dr d 0xE8) 0 1 (b2n pat))).setB (F.CE_DR_STAT_PATTERN d) pat
  let z := if st = 1 then [0, 0, 0] else wv
  let zp := if st = 1 then [0, 0, 0] else wp
  let ends := (s.drv d).coastEnd
  let s := s.setDrv d (fun y => { y with staged := some z, stagedPeak := zp, coastEnd := false, done := true })
  s.cond ends (fun t => (t.setF (F.PWM_G_COAST_EN d) 0).coastWritten d)

/-! ### The chain record check (R317) -/

/-- Enabled C0 loops whose DRIVE names `d`, ascending. -/
def State.chainLoops (s : State) (d : Nat) : List Nat :=
  s.enabledSlots.filter (fun i => s.loopClass i == 0 && s.loopDrive i == d)

/-- The current-loop conditions of R317 for slot `i` that fail. -/
def State.curLoopBad (s : State) (d i : Nat) : List (List Nat) :=
  let w := s.ld i 0x30
  failing [(0, s.loopEn i && s.loopClass i == 0 && s.loopDrive i == d), (1, s.loopLane i == getBits (s.dr d 0) 1 2),
    (2, w / 2 ^ 28 == 5 && (w % 65536 == 8 * d + 2 || w % 65536 == 8 * d + 3))]

/-- The burst conditions of R317 that fail for a drive with RIPEN. -/
def State.ripenBad (s : State) (d : Nat) : List (List Nat) :=
  let ctl := s.dr d 0
  let nu := getBits ctl 8 3
  let nw := getBits ctl 12 3
  let ok := fun n => s.f (F.SEQ_IS_CFG_MODE n) == 1 && s.f (F.SEQ_IS_BURST_COUNT n) == 31
    && s.f (F.SEQ_IS_CFG_SRC n) == 2 && s.f (F.SEQ_IS_CFG_GRP n) == d
  let own := fun n => s.f (F.SEQ_IS_LATCH_DRIVE n) == d && s.on (F.SEQ_IS_LATCH_COMPLETE n)
  let w := s.dr d 0x50
  let j := fun k => getBits w (5 * k) 5
  let np := s.period (s.f (F.PWM_G_CFG_RATE d))
  let ph := s.f (F.PWM_G_CFG_PHASE d)
  failing [(0, ok nu), (1, ok nw), (2, own nu), (3, own nw),
    (4, s.f (F.SEQ_IS_CFG_DELAY nu) == s.f (F.SEQ_IS_CFG_DELAY nw)),
    (5, s.f (F.SEQ_IS_BURST_SPACE nu) == s.f (F.SEQ_IS_BURST_SPACE nw)),
    (6, decide (j 0 + 2 ≤ j 1) && decide (j 2 + 2 ≤ j 3) && decide (j 4 + 2 ≤ j 5)),
    (7, decide (j 1 < j 2) && decide (j 3 < j 4)),
    (8, entIndex (s.isEnt nu 0) == entIndex (s.isEnt (getBits ctl 4 3) 0)),
    (9, entIndex (s.isEnt nw 0) == entIndex (s.isEnt (getBits ctl 4 3) 2)),
    (10, s.f (F.PWM_G_CFG_RATE d) == 0), (11, s.on (F.PWM_G_CFG_LOAD d)), (12, ph == 0 || decide (np / 2 < ph)),
    (13, decide (17 ≤ 4 * getBits (s.dr d 0x5C) 8 12))]

/-- The conditions of R317 on chain record `d` that fail; a record with EN = 0 meets them all. -/
def State.chainBad (s : State) (d : Nat) : List (List Nat) :=
  let ctl := s.dr d 0
  let l := s.drSlots d
  let n := getBits ctl 4 3
  let st := s.dr d 0x5C
  let dw := s.ld l.2.2 0x30
  if !bit ctl 0 then []
  else within 0 (s.curLoopBad d l.1) ++ within 1 (s.curLoopBad d l.2.1)
    ++ within 2 ((s.chainLoops d).flatMap (fun i => within i (failing [(0, s.loopLane i == getBits ctl 1 2)])))
    ++ within 3 (failing [(0, s.loopEn l.2.2 && s.loopClass l.2.2 == 1), (1, dw / 2 ^ 28 == 5 && dw % 65536 == 8 * d + 1),
      (2, s.f (F.SEQ_IS_CFG_MODE n) == 0 && s.f (F.SEQ_IS_CFG_NENT n) == 3),
      (3, s.f (F.SEQ_IS_LATCH_DRIVE n) == d && s.on (F.SEQ_IS_LATCH_COMPLETE n)),
      (4, decide (24 ≤ getBits ctl 16 6)), (5, decide (s.drI d 0x70 < s.drI d 0x74)), (6, s.dr d 0x78 != s.dr d 0x7C),
      (7, decide (0 < s.drI d 0x2C)), (8, decide (s.drI d 0x2C < s.drI d 0x30)), (9, s.dr d 0x58 % 2 ^ 16 != 0),
      (10, st % 256 != 0), (11, getBits st 20 8 != 0)])
    ++ (if bit ctl 3 then within 4 (s.ripenBad d) else [])

end Sys2Proof.Machine
end

