-- ==== Sys2Proof/Machine/Seq.lean ====
section
/-! DEFINITION. The sequencer and the result stage (R103 to R119, R139 to R171): regular passes, injected sequences,
the raw result word, result RAM, latches and rings. -/

namespace Sys2Proof.Machine

/-! ### Cores and pairs -/

/-- The interleaved pair of logical core `k`, 0 to 3. -/
def pairOf (k : Nat) : Nat := k / 2

/-- Core `k` belongs to an interleaved pair (R117). -/
def State.interleaved (s : State) (k : Nat) : Bool := bit (s.f F.ADC_ILV_EN) (pairOf k)

/-- Input index that an interleaved pair converts (R118). -/
def State.ilvIndex (s : State) (p : Nat) : Nat :=
  match p with
  | 0 => s.f F.ADC_ILV_IN_F01
  | 1 => s.f F.ADC_ILV_IN_F23
  | 2 => 24 + s.f F.ADC_ILV_IN_G01
  | _ => 44 + s.f F.ADC_ILV_IN_G23

/-- Core `k` is powered and may convert (R109, R156). -/
def State.coreUp (s : State) (k : Nat) : Bool := s.adc.ready && bit (s.f F.ADC_CTL_CORE_EN) k

/-- The pair of input index `i` is differential (R105). -/
def State.isDiff (s : State) (i : Nat) : Bool :=
  if i < 24 then bit (s.f F.ADC_DIFFF_PAIR) (i / 2) else bit (s.f F.ADC_DIFFS_PAIR) ((i - 24) / 2)

/-- Input index `i` is left-aligned (R140). -/
def State.leftAligned (s : State) (i : Nat) : Bool :=
  if i < 24 then bit (s.f F.ADC_ALIGN0_FI) i
  else if i < 56 then bit (s.f F.ADC_ALIGN1) (i - 24) else bit (s.f F.ADC_ALIGN2_SI) (i - 56)

/-- Scan mask of core `k` (R144). -/
def State.scanMask (s : State) (k : Nat) : Nat := s.f (F.SEQ_SCAN_MASK k)

/-- Input index of bit `m` of the scan mask of core `k`. -/
def scanIndex (k m : Nat) : Nat := if k < 4 then m else if k < 6 then 24 + m else 44 + m

/-- Core `k` reaches input index `i` (R103). -/
def reaches (k i : Nat) : Bool :=
  if k < 4 then decide (i < 24) else if k < 6 then decide (24 ≤ i) && decide (i < 44)
  else decide (44 ≤ i) && decide (i < 64)

/-- Input index `i` is the odd input of a differential pair (R106). -/
def State.oddDiff (s : State) (i : Nat) : Bool := i % 2 == 1 && s.isDiff i

/-- The inputs that a regular pass converts on core `k` (R106, R144, R145).
(DEDUCED, log entry 104, unsafe.) -/
def State.passInputs (s : State) (k : Nat) : List Nat :=
  if s.interleaved k then []
  else ((bitsOf (s.scanMask k) 24).map (scanIndex k)).filter (fun i => !s.oddDiff i)

/-- The cores that take part in a regular pass (R144, R145). -/
def State.passCores (s : State) : List Nat := (List.range 8).filter (fun k => !(s.passInputs k).isEmpty)

/-! ### Injected sequences -/

/-- Injected sequence `n`. -/
def State.iseq (s : State) (n : Nat) : InjSeq := s.adc.seqs.getD n ⟨0, 0, -1, 0, false, []⟩

/-- The state with injected sequence `n` changed. -/
def State.setSeq (s : State) (n : Nat) (f : InjSeq → InjSeq) : State :=
  { s with adc := { s.adc with seqs := updAt s.adc.seqs n f } }

/-- The entries that the registers of IS `n` give it, with their numbers (R149). -/
def State.entriesOf (s : State) (n : Nat) : List (Nat × Nat) :=
  (List.range (if s.on (F.SEQ_IS_CFG_MODE n) then 1 else s.f (F.SEQ_IS_CFG_NENT n) + 1)).map (fun e => (e, s.isEnt n e))

/-- The sequencer refuses or ignores an entry: it names S, the odd core of an interleaved pair (R117), or the odd input
of a differential pair (R106).
(DEDUCED, log entry 104, unsafe.) -/
def State.entRefused (s : State) (e : Nat) : Bool :=
  decide (8 ≤ entCore e) || (s.interleaved (entCore e) && entCore e % 2 == 1) || s.oddDiff (entIndex e)

/-- The entries of IS `n` that are converted, with their numbers. -/
def State.seqEntries (s : State) (n : Nat) : List (Nat × Nat) :=
  (s.entriesOf n).filter (fun p => !s.entRefused p.2)

/-- The logical cores of IS `n`. -/
def State.seqCores (s : State) (n : Nat) : List Nat := (s.seqEntries n).map (fun p => entCore p.2)

/-- IS `n` is one of the ripple bursts of a drive, and thermal watch sheds them (R312, R520). -/
def State.warmBurst (s : State) (n : Nat) : Bool :=
  s.sheds && (List.range 6).any (fun d => s.chained d && s.ripen d
    && (getBits (s.dr d 0) 8 3 == n || getBits (s.dr d 0) 12 3 == n))

/-- A trigger of IS `n` is ignored and not counted (R156, R312). -/
def State.trigIgnored (s : State) (n : Nat) : Bool :=
  !s.boot.ticked || !s.on F.SEQ_CTL_EN || (s.seqCores n).any (fun k => !s.coreUp k) || s.warmBurst n

/-- First ADC edge for a due time at PWM clock `t` (R112). -/
def firstEdge (t : Nat) : Nat := (2 * t + 8 + 24) / 25

/-- The frame has come to the time `x`, in half nanoseconds: the sequences that took their last sample before it no
longer run (R152). -/
def State.seqsUpTo (s : State) (x : Int) : State :=
  s.each (List.range 8) (fun t n =>
    if (t.iseq n).st == 2 && decide (25 * (t.iseq n).lastEdge < x) then
      (t.setSeq n (fun q => { q with st := 0 })).clrBit F.SEQ_STAT_ISACT n
    else t)

/-- The trigger of IS `n` becomes due at PWM clock `t` of the frame (R150, R152, R155, R156).
(DEDUCED, log entry 50, unsafe.) -/
def State.trigDue (s : State) (n t : Nat) : State :=
  let s := s.seqsUpTo (4 * (t : Int))
  if s.trigIgnored n then s
  else if (s.iseq n).st ≠ 0 then ((s.setBit F.SEQ_OVRFLAG_IOVR n).inc F.SEQ_IOVRCNT).ledger (64 + n)
  else (s.setSeq n (fun x => { x with st := 1, edge := firstEdge t })).setBit F.SEQ_STAT_ISACT n

/-- The list without its first trigger that may fall due at PWM clock `t`, if it holds one. -/
def takeReq : List (Option Int) → Int → Option (List (Option Int))
  | [], _ => none
  | none :: r, _ => some r
  | some x :: r, t => if x = t then some r else (takeReq r t).map (some x :: ·)

/-- INJECTED_TRIGGER_DUE: a trigger whose event has come falls due (R150). -/
def execInjectedTriggerDue (n : Fin 8) (t : BitVec 16) (s : State) : Result :=
  .next (match takeReq (s.iseq n).req t.toNat with
    | some r => (s.setSeq n (fun q => { q with req := r })).trigDue n t.toNat
    | none => s)

/-- A write of SEQ_ISTRIG (R150): `t` is the PWM clock at which it reaches the PWM domain, when it is known.
(DEDUCED, log entry 50, unsafe.) -/
def State.istrigWrite (s : State) (w : Nat) (t : Option Nat) : State :=
  s.each (bitsOf w 8) (fun u n =>
    if u.f (F.SEQ_IS_CFG_SRC n) ≠ 1 then u
    else match t with
      | some c => if u.f (F.SEQ_IS_CFG_DELAY n) = 0 then u.trigDue n c else u.trigRaise (· == n) t
      | none => u.trigRaise (· == n) none)

/-- The logical cores that are held at ADC edge `j` by sequences that have started (R151). -/
def State.heldCores (s : State) (j : Nat) : List Nat :=
  (List.range 8).flatMap (fun m => if 2 * (j : Int) ≤ (s.iseq m).lastEdge then s.seqCores m else [])

/-- The logical cores that sequences below `n` hold at ADC edge `j`, those that start at it in ascending order included
(R154). -/
def State.claims (s : State) (j n : Nat) : List Nat :=
  (List.range n).foldl (fun h m =>
    if (s.iseq m).st == 1 && decide ((s.iseq m).edge ≤ (j : Int)) && (s.seqCores m).all (fun k => !h.contains k) then
      h ++ s.seqCores m
    else h) (s.heldCores j)

/-- Every core of IS `n` is free for it at ADC edge `j` (R151, R154). -/
def State.coresFree (s : State) (n j : Nat) : Bool :=
  (s.seqCores n).all (fun k => !(s.claims j n).contains k)

/-- S takes the samples of logical core `k`, of its odd core where `odd` says so (R131, R138).
(DEDUCED, log entry 50, unsafe.) -/
def State.subbed (s : State) (k : Nat) (odd : Bool) : Bool := s.adc.sub == some (if odd then k + 1 else k)

/-- The conversions of an occurrence of IS `n` that starts at ADC edge `j`, on logical core `k`, for entry number `e` of
input `i` (R111, R149, R151). -/
def State.seqConvs (s : State) (n j e k i : Nat) (late : Bool) : List Conv :=
  let ilv := s.interleaved k
  let idx := if ilv then s.ilvIndex (pairOf k) else i
  let mk := fun (x total h : Nat) =>
    let odd := h % 2 == 1
    Conv.mk idx x odd n s.frame (s.iseq n).occ late total (2 * (j : Int) + h) (s.subbed k odd)
  if s.on (F.SEQ_IS_CFG_MODE n) then
    let c := s.f (F.SEQ_IS_BURST_COUNT n)
    let sp := s.f (F.SEQ_IS_BURST_SPACE n) + 1
    (List.range (c + 1)).map (fun x => mk x (c + 1) (x * sp * (if ilv then 1 else 2)))
  else [mk e (s.seqEntries n).length 0]

/-- Append conversions to a core's queue. -/
def pushConvs (l : List (List Conv)) (k : Nat) (c : List Conv) : List (List Conv) := updAt l k (· ++ c)

/-- Half edges from the first to the last sample of IS `n` (R151). -/
def State.seqSpan (s : State) (n : Nat) : Nat :=
  if s.on (F.SEQ_IS_CFG_MODE n) then
    s.f (F.SEQ_IS_BURST_COUNT n) * (s.f (F.SEQ_IS_BURST_SPACE n) + 1)
      * (if s.interleaved (entCore (s.isEnt n 0)) then 1 else 2)
  else 0

/-- Regular conversions of a core that is held from half edge `a` for `span` half edges move behind it (R153). -/
def moveConvs (l : List Conv) (a span : Int) : List Conv :=
  l.map (fun c => if a ≤ c.edge then { c with edge := c.edge + span + 2 } else c)

/-- IS `n` starts at ADC edge `j`: its conversions are queued, and the regular conversions of its cores make room (R151,
R153). -/
def State.seqStart (s : State) (n j : Nat) (late : Bool) : State :=
  let span := s.seqSpan n
  let inj := (s.seqEntries n).foldl
    (fun l p => pushConvs l (entCore p.2) (s.seqConvs n j p.1 (entCore p.2) (entIndex p.2) late)) s.adc.inj
  let reg := (s.seqCores n).foldl (fun l k => updAt l k (fun q => moveConvs q (2 * (j : Int)) span)) s.adc.reg
  let s := { s with adc := { s.adc with inj := inj, reg := reg } }
  let s := s.setSeq n (fun x => { x with
    st := if span = 0 then 0 else 2, lastEdge := 2 * (j : Int) + span, occ := x.occ + 1 })
  s.cond (span == 0) (·.clrBit F.SEQ_STAT_ISACT n)

/-- INJECTED_SEQUENCE_START at ADC edge `j` (R151, R152, R154).
(DESIGN CHOICE, log entry 3, unsafe.) -/
def execInjectedSequenceStart (n : Fin 8) (j : BitVec 16) (s : State) : Result :=
  .next (
    let s := s.seqsUpTo (50 * (j.toNat : Int))
    let q := s.iseq n
    if q.st = 1 ∧ q.edge ≤ (j.toNat : Int) ∧ s.coresFree n j.toNat then
      let late := decide (q.edge < (j.toNat : Int))
      (s.seqStart n j.toNat late).cond late
        (fun t => ((t.setBit F.SEQ_OVRFLAG_LATE n).inc F.SEQ_LATECNT).ledger (72 + n))
    else s)

/-! ### The regular sequence -/

/-- A regular trigger becomes due, its pass to start at ADC edge `e` where that is known (R147, R148, R156). -/
def State.regDue (s : State) (e : Option Nat) : State :=
  if !s.boot.ticked || !s.on F.SEQ_CTL_EN || s.passCores.isEmpty || s.passCores.any (fun k => !s.coreUp k) then s
  else if s.on F.SEQ_STAT_REGRUN then
    (s.setF F.SEQ_OVRFLAG_ROVR 1).count F.SEQ_ROVRCNT 80
  else { s.setF F.SEQ_STAT_REGRUN 1 with adc := { s.adc with regDue := true, regEdge := e.map (fun x => (x : Int)) } }

/-- The trigger of the first tick after the sequencer was enabled has come (R146). -/
def State.enTaken (s : State) : State := { s with adc := { s.adc with enDue := false } }

/-- SEQ_CTL.EN was `old` and has been written (R146). -/
def State.enChanged (s : State) (old : Bool) : State :=
  let new := s.on F.SEQ_CTL_EN
  { s with adc := { s.adc with enNew := new && (!old || s.adc.enNew), enDue := new && s.adc.enDue } }

/-- REGULAR_TRIGGER_DUE. In CONTINUOUS mode no trigger becomes due while a pass is due or runs, but for that of the first
tick after the sequencer was enabled (R146, R148). -/
def execRegularTriggerDue (s : State) : Result :=
  .next (match s.f F.SEQ_REGCFG_MODE with
    | 1 => if s.on F.SEQ_STAT_REGRUN && !s.adc.enDue then s else s.enTaken.regDue none
    | 2 => if s.frame % max (s.f F.SEQ_REGCFG_DIV) 1 = 0 then s.regDue (some (firstEdge (s.f F.SEQ_REGCFG_OFFSET))) else s
    | _ => s)

/-- A write of SEQ_REGSTART (R146). -/
def State.regStartWrite (s : State) (w : Nat) : State :=
  if bit w 0 && s.f F.SEQ_REGCFG_MODE == 3 then s.regDue none else s

/-- The regular conversions of core `k` in a pass that starts at ADC edge `j`: one for each free edge (R144, R147). -/
def State.passConvs (s : State) (j k : Nat) : List Conv :=
  let first := (List.range 8).foldl (fun e m =>
    if (s.seqCores m).contains k && decide (e ≤ (s.iseq m).lastEdge) then (s.iseq m).lastEdge + 2 else e) (2 * (j : Int))
  (s.passInputs k).zipIdx.map (fun p => Conv.mk p.1 0 false 8 s.frame 0 false 0 (first + 2 * p.2) (s.subbed k false))

/-- REGULAR_PASS_START at ADC edge `j` (R144, R147). -/
def execRegularPassStart (s : State) (j : BitVec 16 := 0) : Result :=
  .next (
    let s := s.seqsUpTo (50 * (j.toNat : Int))
    if s.adc.regDue && (s.adc.regEdge.isNone || s.adc.regEdge == some (j.toNat : Int)) then
      let reg := s.passCores.foldl (fun l k => pushConvs l k (s.passConvs j.toNat k)) s.adc.reg
      { s with adc := { s.adc with regDue := false, regEdge := none, passOn := true, reg := reg } }
    else s)

/-- REGULAR_PASS_END (R147). -/
def execRegularPassEnd (s : State) : Result :=
  .next (if s.adc.passOn then
    { s.setF F.SEQ_STAT_REGRUN 0 with adc := { s.adc with passOn := false } }
  else s)

/-! ### Results -/

/-- The state after a free code was used, the code of a conversion, its DIFF bit and its CLIP bit (R104 to R107,
R139). Voltages are in picovolts: one step is 97 656 250 pV single-ended.
(DESIGN CHOICE, log entry 47, safe; DESIGN CHOICE, log entry 48, safe.) -/
def State.convCode (s : State) (i : Nat) (c : ConvOutcome) : State × Int × Bool × Bool :=
  if s.isDiff i then
    let v := c.vp - c.vn
    let clip := decide (v < -1600000000000) || decide (1600000000000 < v)
    let out := fun (x : Int) => decide (x < 0) || decide (1600000000000 < x)
    if out c.vp || out c.vn then
      ((s.free).2, (((s.free).1 % 16384 : Nat) : Int) - 8192, true, clip)
    else (s, clampI (-8192) 8191 (v / 195312500 + c.err), true, clip)
  else
    let clip := decide (c.vp < 0) || decide (1600000000000 < c.vp)
    (s, if c.vp < 0 then 0 else if 1600000000000 < c.vp then 16383 else clampI 0 16383 (c.vp / 97656250 + c.err),
      false, clip)

/-- DATA of the raw result word (R140). -/
def dataField (left : Bool) (code : Int) : Nat := if left then ofI 16 (code * 4) else ofI 16 code

/-- A value is recorded by the rings that match (R168). -/
def State.ringWrite (s : State) (i : Nat) (injected : Bool) (raw : Nat) (v : Int) : State :=
  s.each (List.range 16) (fun t r =>
    if t.on (F.SEQ_RING_CFG_EN r) && t.f (F.SEQ_RING_CFG_INPUT r) == i
        && bit (t.f (F.SEQ_RING_CFG_SEL r)) (b2n injected) then
      let n := t.adc.ringDec.getD r 0 + 1
      if n < max (t.f (F.SEQ_RING_CFG_DEC r)) 1 then
        { t with adc := { t.adc with ringDec := updAt t.adc.ringDec r (fun _ => n) } }
      else
        let t := { t with adc := { t.adc with ringDec := updAt t.adc.ringDec r (fun _ => 0) } }
        let w := t.f (F.SEQ_RING_POS_WIDX r)
        let a := 0x1C2000 + 8 * (t.f (F.SEQ_RING_BASE_BASE r) + w)
        let t := (t.setM a raw).setMI (a + 4) v
        let w1 := (w + 1) % 2 ^ t.f (F.SEQ_RING_CFG_LEN r)
        let t := t.setF (F.SEQ_RING_POS_WIDX r) w1
        t.cond (w1 == 0) (·.inc (F.SEQ_RING_POS_WRAP r))
    else t)

/-- IS `n` completes the latch of drive `d`: R166, without the ripple bursts of WARM (R312). -/
def State.completes (s : State) (d n : Nat) : Bool :=
  s.f (F.SEQ_IS_LATCH_DRIVE n) == d && s.on (F.SEQ_IS_LATCH_COMPLETE n) && !s.warmBurst n

/-- The C0 input latch of drive `d` is complete for the present frame (R166, R312). -/
def State.latchComplete (s : State) (d : Nat) : Bool :=
  (List.range 8).all (fun n => !s.completes d n || (s.iseq n).comp)

/-- The latch of drive `d` reports complete when it has become so (R166). A latch that no sequence completes never does.
(DESIGN CHOICE, log entry 110, unsafe.) -/
def State.latchJudge (s : State) (d : Nat) : State :=
  if (List.range 8).any (s.completes d) && s.latchComplete d then
    { s with adc := { s.adc with latchDone := updAt s.adc.latchDone d (fun _ => true) } }
  else s

/-- Conversions of the occurrence of `cv` whose results have not been filed. -/
def State.occLeft (s : State) (cv : Conv) : Nat :=
  (s.adc.inj.map (fun l => l.countP (fun x => x.seq == cv.seq && x.frame == cv.frame && x.occ == cv.occ))).sum

/-- The status of a latch half as its occurrence's first result comes (R154, R165). -/
def State.halfOpen (s : State) (cv : Conv) : State :=
  let n := cv.seq
  let h := cv.frame % 2
  let s := if cv.occ = 0 then (s.wr (F.SEQ_IS_HSTAT_FRAME n h).addr 0).setF (F.SEQ_IS_HSTAT_FRAME n h) cv.frame else s
  (s.inc (F.SEQ_IS_HSTAT_OCCS n h)).cond cv.late (·.setF (F.SEQ_IS_HSTAT_LATE n h) 1)

/-- The last result of an occurrence has been written (R152, R166, R167). -/
def State.occEnd (s : State) (cv : Conv) : State :=
  let n := cv.seq
  if s.on (F.SEQ_IS_LATCH_COMPLETE n) && s.f (F.SEQ_IS_LATCH_OCC n) == cv.occ then
    let s := s.setF (F.SEQ_IS_HSTAT_COMPLETE n (cv.frame % 2)) 1
    if cv.frame = s.frame then
      (s.setSeq n (fun q => { q with comp := true })).latchJudge (s.f (F.SEQ_IS_LATCH_DRIVE n))
    else s
  else s

/-- The latch half of an injected result: entry, status and completion (R164 to R167).
(DEDUCED, log entry 50, unsafe.) -/
def State.latchWrite (s : State) (cv : Conv) (raw : Nat) (v : Int) (sat : Bool) : State :=
  let n := cv.seq
  let h := cv.frame % 2
  let left := s.occLeft cv
  let s := s.cond (left + 1 == cv.total) (·.halfOpen cv)
  let s := s.cond sat (·.setF (F.SEQ_IS_HSTAT_SAT n h) 1)
  let a := latchAddr n h cv.entry
  let s := (s.setM a raw).setMI (a + 4) v
  s.cond (left == 0) (·.occEnd cv)

/-- Another core sampled the input of `cv` at the same edge (R116). -/
def State.shared (s : State) (cv : Conv) : Bool :=
  (s.adc.inj ++ s.adc.reg).any (fun l => l.any (fun x => x.edge == cv.edge && x.input == cv.input))
    || (s.adc.filedEdge == cv.edge && s.adc.filed.contains cv.input)

/-- A result sampled at the edge of `cv` is filed: ADC_SHARECNT counts the edge once when an input is shared at it
(R116). -/
def State.shareCount (s : State) (cv : Conv) : State :=
  let sh := s.shared cv
  let same := s.adc.filedEdge == cv.edge
  let seen := same && s.adc.shareSeen
  let t := { s with adc := { s.adc with
    filedEdge := cv.edge, filed := cv.input :: (if same then s.adc.filed else []), shareSeen := seen || sh } }
  t.cond (sh && !seen) (·.count F.ADC_SHARECNT 56)

/-- A conversion's result is filed (R113, R116, R132, R141, R159 to R168).
(DEDUCED, log entry 50, unsafe.) -/
def State.fileResult (s : State) (core : Nat) (cv : Conv) (c : ConvOutcome) : State :=
  let i := cv.input
  let x := s.convCode i c
  let s := x.1
  let code := x.2.1
  let diff := x.2.2.1
  let clip := x.2.2.2
  let raw := dataField (s.leftAligned i) code + 2 ^ 16 * b2n diff + 2 ^ 17 * b2n clip + 2 ^ 18 * b2n (s.shared cv)
    + 2 ^ 19 * b2n cv.odd + 2 ^ 20 * b2n cv.sub + 2 ^ 21 * core
    + 2 ^ 25 * b2n (decide (24 ≤ i)) + 2 ^ 26 * (if i < 24 then i else i - 24)
  let s := s.shareCount cv
  let s := s.cond clip (·.count F.ADC_CLIPCNT 57)
  let r := resultShape (s.on (F.SEQ_SH_CFG_EN i)) (s.fi (F.SEQ_SH_GAIN i)) (s.fi (F.SEQ_SH_OFS i))
    (s.f (F.SEQ_SH_CFG_GSH i)) code
  let s := s.cond r.2 (·.count F.SEQ_SATCNT 81)
  let s := (s.setM (latestAddr i) raw).setMI (latestAddr i + 4) r.1
  let s := if s.alm.fresh.contains i then s else { s with alm := { s.alm with fresh := i :: s.alm.fresh } }
  let s := if cv.seq < 8 then s.latchWrite cv raw r.1 r.2 else s
  s.ringWrite i (decide (cv.seq < 8)) raw r.1

/-- The earlier of the first conversions of two queues, and the queues without it. -/
def takeConv : List Conv → List Conv → Option (Conv × List Conv × List Conv)
  | [], [] => none
  | x :: r, [] => some (x, r, [])
  | [], y :: q => some (y, [], q)
  | x :: r, y :: q => if x.edge ≤ y.edge then some (x, r, y :: q) else some (y, x :: r, q)

/-- CONVERSION_RESULT: the conversion of a logical core that was sampled first comes out, 12 ADC clocks after its
sampling edge (R113).
(DESIGN CHOICE, log entry 47, safe.) -/
def execConversionResult (core : Fin 8) (c : ConvOutcome) (s : State) : Result :=
  .next (
    match takeConv (s.adc.inj.getD core []) (s.adc.reg.getD core []) with
    | none => s
    | some (cv, inj, reg) =>
      let s := s.seqsUpTo (25 * (cv.edge + 24))
      let s := { s with adc := { s.adc with inj := s.adc.inj.set core inj, reg := s.adc.reg.set core reg } }
      s.fileResult core cv c)

/-- The conversion, counted from the next frame: `n` half edges later. -/
def Conv.shift (n : Int) (c : Conv) : Conv := { c with edge := c.edge - n }

/-- The tick in the sequencer: edges and clocks are counted from the new frame, occurrences and latches start anew
(R166), triggers that are past are gone, and the tick is an event of SRC 7 (R150). -/
def State.seqTick (s : State) : State :=
  let n : Int := s.nf * 8 / 100
  let a := s.adc
  let later := fun (r : Option Int) => match r with
    | some x => if (s.nf : Int) ≤ x then some (some (x - s.nf)) else none
    | none => some none
  let seqs := a.seqs.map (fun q => { q with
    edge := q.edge - n, lastEdge := q.lastEdge - 2 * n, occ := 0, comp := false, req := q.req.filterMap later })
  let s := { s with adc := { a with
    enNew := false, enDue := a.enNew, seqs := seqs, latchDone := a.latchDone.map (fun _ => false), regEdge := a.regEdge.map (· - n),
    filedEdge := a.filedEdge - 2 * n, inj := a.inj.map (List.map (Conv.shift (2 * n))),
    reg := a.reg.map (List.map (Conv.shift (2 * n))) } }
  (s.seqsUpTo 0).trigRaise (fun k => s.f (F.SEQ_IS_CFG_SRC k) == 7) (some 0)

/-- Setting a ring's EN from 0 to 1 starts it anew (R169). -/
def State.ringStart (s : State) (r : Nat) : State :=
  let s := (s.setF (F.SEQ_RING_POS_WIDX r) 0).setF (F.SEQ_RING_POS_WRAP r) 0
  { s with adc := { s.adc with ringDec := updAt s.adc.ringDec r (fun _ => 0) } }

/-! ### The structural check of the SEQ section (R170) -/

/-- The inputs of core `k`'s scan mask that it may not convert. -/
def State.scanBad (s : State) (k : Nat) : List (List Nat) :=
  (bitsOf (s.scanMask k) 24).flatMap (fun m => within m (failing
    [(0, reaches k (scanIndex k m)), (1, !s.oddDiff (scanIndex k m))]))

/-- Input number within its group that an entry gives lies in the group. -/
def entInGroup (e : Nat) : Bool := if bit e 6 then decide (e % 64 < 40) else decide (e % 64 < 24)

/-- What is wrong with the core and the input that an injected entry names. -/
def State.entBad (s : State) (e : Nat) : List (List Nat) :=
  let k := entCore e
  let i := entIndex e
  failing [(0, decide (k < 8) && bit (s.f F.ADC_CTL_CORE_EN) k), (1, !(s.interleaved k && k % 2 == 1)),
    (2, entInGroup e && reaches k i), (3, !s.oddDiff i), (4, !s.interleaved k || i == s.ilvIndex (pairOf k))]

/-- Occurrences per frame of the source of IS `n`, where the source fixes them (R170). -/
def State.srcOccs (s : State) (n : Nat) : Option Nat :=
  let k := 2 ^ s.f (F.PWM_G_CFG_RATE (s.f (F.SEQ_IS_CFG_GRP n)))
  match s.f (F.SEQ_IS_CFG_SRC n) with
  | 2 | 3 => some k
  | 4 => some (2 * k)
  | 7 => some 1
  | _ => none

/-- The conditions of R170 on IS `n` that fail; a sequence with SRC off is held to its entries too.
(DEDUCED, log entry 104, unsafe.) -/
def State.isBad (s : State) (n : Nat) : List (List Nat) :=
  let src := s.f (F.SEQ_IS_CFG_SRC n)
  let grp := s.f (F.SEQ_IS_CFG_GRP n)
  let car := decide (2 ≤ src) && decide (src ≤ 4)
  let cores := (s.entriesOf n).map (fun p => entCore p.2)
  within 0 ((s.entriesOf n).flatMap (fun p => within p.1 (s.entBad p.2)))
    ++ failing [(1, cores.eraseDups.length == cores.length), (2, !car || decide (grp ≤ 5)),
      (3, src != 7 || decide (s.f (F.SEQ_IS_CFG_DELAY n) < s.nf)),
      (4, !car || decide (s.f (F.SEQ_IS_CFG_DELAY n) < s.period (s.f (F.PWM_G_CFG_RATE grp)))),
      (5, s.f (F.SEQ_IS_LATCH_DRIVE n) != 6),
      (6, match s.srcOccs n with
        | some k => decide (s.f (F.SEQ_IS_LATCH_OCC n) < k)
        | none => true)]

/-- First and last entry of ring `r`. -/
def State.ringSpan (s : State) (r : Nat) : Nat × Nat :=
  (s.f (F.SEQ_RING_BASE_BASE r), s.f (F.SEQ_RING_BASE_BASE r) + 2 ^ s.f (F.SEQ_RING_CFG_LEN r))

/-- The conditions of R170 on ring `r` that fail; a ring that is not enabled meets them all. Condition 3 + `q` is the
overlap with ring `q`. -/
def State.ringBad (s : State) (r : Nat) : List (List Nat) :=
  let len := s.f (F.SEQ_RING_CFG_LEN r)
  let a := s.ringSpan r
  if !s.on (F.SEQ_RING_CFG_EN r) then []
  else failing ([(0, decide (4 ≤ len) && decide (len ≤ 12)), (1, a.1 % 2 ^ len == 0), (2, decide (a.2 ≤ 15360))]
    ++ (List.range r).map (fun q => (3 + q, !s.on (F.SEQ_RING_CFG_EN q)
      || decide ((s.ringSpan q).2 ≤ a.1) || decide (a.2 ≤ (s.ringSpan q).1))))

/-- The conditions of the SEQ section that fail (R170). -/
def State.seqBad (s : State) : List (List Nat) :=
  let tick := s.f F.SEQ_REGCFG_MODE == 2
  within 0 (withinEach 8 s.scanBad) ++ within 1 (withinEach 8 s.isBad) ++ within 2 (withinEach 16 s.ringBad)
    ++ within 3 (failing [(0, !tick || decide (s.f F.SEQ_REGCFG_OFFSET < s.nf)), (1, !tick || s.f F.SEQ_REGCFG_DIV != 0)])

/-- The structural check of the SEQ section (R170). -/
def State.seqOk (s : State) : Bool := s.seqBad.isEmpty

end Sys2Proof.Machine
end

