-- ==== Sys2Proof/WellFormed.lean ====
section
/-! DEFINITION. Which operands the outside world can send: the lengths and field ranges that the manual gives. A
meaning refuses a command whose operands are not well formed. -/

namespace Sys2Proof

/-- Bytes that a CAN data length code stands for (ISO 11898-1).
(PRESUMED, log entry 69, unsafe.) -/
def dlcBytes (fd : Bool) (dlc : Nat) : Nat :=
  if fd then [0, 1, 2, 3, 4, 5, 6, 7, 8, 12, 16, 20, 24, 32, 48, 64].getD dlc 64 else min dlc 8

/-- A frame on the bus: a standard identifier has 11 bits, an FD frame is no remote frame, a classical frame has no
rate switch, and the data is as long as the code says. -/
def CanFrame.wf (f : CanFrame) : Bool :=
  (f.ide || decide (f.id.toNat < 2048)) && !(f.fdf && f.rtr) && (f.fdf || (!f.brs && !f.esi))
    && f.data.length == (if f.rtr then 0 else dlcBytes f.fdf f.dlc.toNat)

/-- Nominal bit time of a detected rate, in BUS clocks (R382); 0 for no rate. -/
def nomClocks (n : Nat) : Nat := [0, 80, 100, 160, 320, 640, 800, 960, 1600, 4000, 8000].getD n 0

/-- Data bit time of a detected rate, in BUS clocks (R382); 0 for none. -/
def dataClocks (n : Nat) : Nat := [0, 80, 40, 20, 16, 10].getD n 0

/-- Detected rates: codes of the tables of R382, the data bit shorter than the nominal bit; or no rate yet. -/
def ratesWf (nrate drate : Nat) : Bool :=
  (nrate == 0 && drate == 0) || decide (1 ≤ nrate) && decide (nrate ≤ 10) && decide (drate ≤ 5) && decide (dataClocks drate < nomClocks nrate)

/-- Calibration outcomes: five sets, four midscale readings, two skew trims within 50 ps (R125). -/
def CalResults.wf (c : CalResults) : Bool :=
  c.sets.length == 5 && c.mid.length == 4 && c.skew.length == 2
    && c.skew.all (fun x => decide (-50 ≤ x) && decide (x ≤ 50))

/-- A slot header: a trailer of 16 bytes, a Colophon body of at most 65 536 bytes. -/
def SlotHeader.wf (h : SlotHeader) : Bool := h.trailer.length == 16 && decide (h.colophon.length ≤ 65536)

/-- A COMPAT record has 32 bytes (R466). -/
def CompatRec.wf (r : CompatRec) : Bool := r.bytes.length == 32

/-- A chunk holds at most 240 bytes, within the body (R472). -/
def CkptChunk.wf (c : CkptChunk) : Bool :=
  decide (c.bytes.length ≤ 240) && decide (c.off.toNat + c.bytes.length ≤ c.blen.toNat)

/-- A self-test outcome names the codes of the three conversions. -/
def SelfTestResult.wf (r : SelfTestResult) : Bool := r.codes.length == 3

end Sys2Proof
end

