-- ==== Sys2Proof/Machine/Adc.lean ====
section
/-! DEFINITION. Calibration of the converter cores (R121 to R138, R142): power-up and background calibration,
handoff, handback, forcing and permanent substitution. -/

namespace Sys2Proof.Machine

/-- Factory trim of core `k`: gain in the high half, offset in the low half (R121). -/
def ftrimOf (k : Nat) : Word := Config.ftrim k

/-- CALAGE field of F core `k`. -/
def calAge (k : Nat) : Fld :=
  match k with
  | 0 => F.ADC_CALAGE0_AGE_F0
  | 1 => F.ADC_CALAGE0_AGE_F1
  | 2 => F.ADC_CALAGE1_AGE_F2
  | _ => F.ADC_CALAGE1_AGE_F3

/-- Core `k` powers up: its working set is the factory trim and its age 0xFFFF (R122). -/
def State.powerUpCore (s : State) (k : Nat) : State :=
  let s := { s with adc := { s.adc with wtrim := updAt s.adc.wtrim k (fun _ => none) } }
  if k < 4 then s.setF (calAge k) 0xFFFF else s

/-- A new set is within the limits of R124. -/
def setAccepted (k : Nat) (ofs gain : Nat) : Bool :=
  let fo := toS 16 ((ftrimOf k).toNat % 65536)
  let fg : Int := ((ftrimOf k).toNat / 65536 : Nat)
  decide ((toS 16 ofs - fo).natAbs ≤ 1024) && decide (100 * ((gain : Int) - fg).natAbs ≤ fg.natAbs)

/-- Bit of ADC_CALSTAT.REJ for core `k`. -/
def rejBit (k : Nat) : Nat := if k = 8 then 4 else k

/-- The factory set of core `k` (R121). -/
def factorySet (k : Nat) : CalSet :=
  ⟨BitVec.ofNat 16 (ftrimOf k).toNat, BitVec.ofNat 16 ((ftrimOf k).toNat / 65536), Config.stageWeights k⟩

/-- The set that core `k` converts with (R121, R122). -/
def State.setInUse (s : State) (k : Nat) : CalSet :=
  match s.adc.wtrim.getD k none with
  | some c => c
  | none => factorySet k

/-- The end of a core's calibration: the set is accepted, or discarded, counted and logged (R122, R124). -/
def State.judgeSet (s : State) (k : Nat) (c : CalSet) : State :=
  if setAccepted k c.ofs.toNat c.gain.toNat then
    let s := { s with adc := { s.adc with wtrim := updAt s.adc.wtrim k (fun _ => some c) } }
    if k < 4 then s.setF (calAge k) 0 else s
  else
    let s := (s.setBit F.ADC_CALSTAT_REJ (rejBit k)).count F.ADC_REJCNT 59
    s.log 0x03 0x10 k (c.ofs.toNat * 65536 + c.gain.toNat) none false

/-- The end of F core `k`'s calibration within a cycle: two cycles in a row that reject it are a FAIL source (R452). -/
def State.cycleJudge (s : State) (k : Nat) (c : CalSet) : State :=
  let run := if setAccepted k c.ofs.toNat c.gain.toNat then 0 else s.adc.rejRun.getD k 0 + 1
  let t := s.judgeSet k c
  { t with adc := { t.adc with rejRun := updAt t.adc.rejRun k (fun _ => run) } }.cond (decide (2 ≤ run)) (·.failSource 4)

/-- Core enabled in ADC_CTL.CORE_EN. -/
def State.coreEn (s : State) (k : Nat) : Bool := bit (s.f F.ADC_CTL_CORE_EN) k

/-- Phases 1 and 3 of R125, and phase 2 when `mid` is asked for. -/
def State.calibrateAll (s : State) (c : CalResults) (mid : Bool) : State :=
  let s := s.each [0, 1, 2, 3, 8] (fun t k =>
    if t.coreEn k then
      t.judgeSet k (c.sets.getD (if k = 8 then 4 else k) ⟨0, 0, []⟩)
    else t)
  let s := if mid then
      s.setF F.ADC_REFCHK_GFAIL ((List.range 4).foldl (fun a g =>
        a + 2 ^ g * b2n (s.coreEn (4 + g) && decide (16 < (((c.mid.getD g 8192#14).toNat : Int) - 8192).natAbs))) 0)
    else s
  let sk := fun p => if s.interleaved (2 * p) then c.skew.getD p 0 else 0
  let s := (s.setI F.ADC_SKEW_F01 (sk 0)).setI F.ADC_SKEW_F23 (sk 1)
  s.setF F.ADC_REFCHK_SKEWLIM (b2n (decide (50 ≤ (sk 0).natAbs)) + 2 * b2n (decide (50 ≤ (sk 1).natAbs)))

/-- The cores power up with their factory trims, before any calibration. -/
def State.powerUpCores (s : State) : State :=
  s.each (List.range 9) (fun t k => if t.coreEn k then t.powerUpCore k else t)

/-- The converters may convert from now on. PERM that stands has S take over PCORE again (R138).
(DESIGN CHOICE, log entry 106, unsafe.) -/
def State.convertersReady (s : State) : State :=
  let s := { s with adc := { s.adc with ready := true, timer := s.f F.ADC_CALINT_INT } }
  if s.on F.ADC_CALCTL_PERM && s.coreEn 8 then
    (s.setF F.ADC_CALSTAT_PHASE 2).setF F.ADC_CALSTAT_CORE (s.f F.ADC_CALCTL_PCORE)
  else s

/-- The converters are powered down: nothing in flight is left (R109).
(DESIGN CHOICE, log entry 106, unsafe.) -/
def State.convertersDown (s : State) : State :=
  let a := s.adc
  let s := ((s.setF F.SEQ_STAT_ISACT 0).setF F.SEQ_STAT_REGRUN 0).setF F.ADC_CALSTAT_PHASE 0
  { s with adc := { a with
      ready := false, sub := none, due := false, postponed := false, unperm := false,
      inj := a.inj.map (fun _ => []), reg := a.reg.map (fun _ => []), passOn := false, regDue := false, regEdge := none,
      seqs := a.seqs.map (fun q => { q with st := 0, lastEdge := -1 }) } }

/-- The next enabled F core after the last one calibrated (R128). -/
def State.nextCore (s : State) : Option Nat :=
  ((List.range 4).map (fun k => (s.adc.lastF + 1 + k) % 4)).find? s.coreEn

/-- Thermal watch stops new cycles (R136, R520). -/
def State.calHeld (s : State) : Bool := s.sheds

/-- A cycle starts with S calibrating itself, when one can (R109, R128, R129, R138). -/
def State.startCycle (s : State) : State :=
  if s.f F.ADC_CALSTAT_PHASE ≠ 0 ∨ !s.adc.ready ∨ s.on F.ADC_CALCTL_PERM ∨ !s.coreEn 8 then s
  else
    match s.nextCore with
    | none => s
    | some k =>
      { (s.setF F.ADC_CALSTAT_PHASE 1).setF F.ADC_CALSTAT_CORE k with adc := { s.adc with due := false } }

/-- CALIBRATION_CYCLE_DUE: the interval timer has expired (R127); in WARM the cycle waits (R136). -/
def execCalibrationCycleDue (s : State) : Result :=
  .next (if !s.on F.ADC_CALCTL_BGEN || s.adc.timer != 0 || s.f F.ADC_CALSTAT_PHASE != 0 || !s.adc.ready
      || s.adc.postponed then s
  else if s.calHeld then { s with adc := { s.adc with due := true } }
  else s.startCycle)

/-- A cycle is over: the timer restarts with the INT of now, and nothing is left to be retried (R127, R129, R133).
(DESIGN CHOICE, log entry 111, unsafe.) -/
def State.endCycle (s : State) : State :=
  { s.setF F.ADC_CALSTAT_PHASE 0 with adc := { s.adc with timer := s.f F.ADC_CALINT_INT, postponed := false } }

/-- CORE_CALIBRATION_END: S, or the F core that was handed off (R124, R129, R131).
(DESIGN CHOICE, log entry 47, safe.) -/
def execCoreCalibrationEnd (trim : BitVec 16 × BitVec 16) (weights : List Word) (s : State) : Result :=
  .next (
    let c : CalSet := ⟨trim.1, trim.2, weights⟩
    let k := s.f F.ADC_CALSTAT_CORE
    match s.f F.ADC_CALSTAT_PHASE with
    | 1 =>
      let t := { s with adc := { s.adc with prevS := s.adc.wtrim.getD 8 none } }.judgeSet 8 c
      if setAccepted 8 c.ofs.toNat c.gain.toNat then t.setF F.ADC_CALSTAT_PHASE 2 else t.endCycle
    | 3 => (if s.adc.unperm then s.judgeSet k c else s.cycleJudge k c).setF F.ADC_CALSTAT_PHASE 4
    | _ => s)

/-- ADC edge `j` is an eligible point for F core `k` (R130, R157): no sequence that uses its logical core is pending or
running, and no injected conversion is in its pipeline, which a code leaves 9 clocks after its sampling edge (R113).
(DEDUCED, log entry 105, unsafe.) -/
def State.eligible (s : State) (k j : Nat) : Bool :=
  let l := if s.interleaved k then k / 2 * 2 else k
  (List.range 8).all (fun n => !(s.seqCores n).contains l
    || ((s.iseq n).st != 1 && decide ((s.iseq n).lastEdge < 2 * (j : Int))))
    && (s.adc.inj.getD l []).all (fun c => decide (c.edge + 18 ≤ 2 * (j : Int)))

/-- Regular conversions of core `k` sampled at ADC edge `j` and after are taken by S, or by the core again (R131, R134). -/
def State.resample (s : State) (k j : Nat) (byS : Bool) : State :=
  { s with adc := { s.adc with
    reg := updAt s.adc.reg k (List.map (fun c => if 2 * (j : Int) ≤ c.edge then { c with sub := byS } else c)) } }

/-- CALIBRATION_HANDOFF at ADC edge `j` (R131, R138). -/
def execCalibrationHandoff (s : State) (j : BitVec 16 := 0) : Result :=
  .next (
    let k := s.f F.ADC_CALSTAT_CORE
    if s.f F.ADC_CALSTAT_PHASE = 2 ∧ s.eligible k j.toNat then
      let s := { s with adc := { s.adc with sub := some k } }.resample k j.toNat true
      s.setF F.ADC_CALSTAT_PHASE (if s.on F.ADC_CALCTL_PERM then 5 else 3)
    else s)

/-- HANDOFF_DEADLINE (R133). -/
def execHandoffDeadline (s : State) : Result :=
  .next (if s.f F.ADC_CALSTAT_PHASE = 2 ∧ !s.on F.ADC_CALCTL_PERM then
    let s := (s.count F.ADC_POSTCNT 58).setF F.ADC_CALSTAT_PHASE 0
    { s with adc := { s.adc with postponed := true } }
  else s)

/-- CALIBRATION_RETRY (R133). -/
def execCalibrationRetry (s : State) : Result :=
  .next (if s.adc.postponed && s.frame % 64 == 0 && !s.calHeld then s.startCycle else s)

/-- CALIBRATION_HANDBACK at ADC edge `j` (R134). PERM set while another core was out sends S on to PCORE. -/
def execCalibrationHandback (s : State) (j : BitVec 16 := 0) : Result :=
  .next (
    let k := s.f F.ADC_CALSTAT_CORE
    if s.f F.ADC_CALSTAT_PHASE = 4 ∧ s.eligible k j.toNat then
      let s := { s with adc := { s.adc with sub := none, lastF := k, unperm := false } }.resample k j.toNat false
      let s := s.endCycle
      if s.on F.ADC_CALCTL_PERM then
        (s.setF F.ADC_CALSTAT_PHASE 2).setF F.ADC_CALSTAT_CORE (s.f F.ADC_CALCTL_PCORE)
      else s
    else s)

/-- LATE_HANDBACK (R135). -/
def execLateHandback (s : State) : Result :=
  .next (if s.f F.ADC_CALSTAT_PHASE = 4 then (s.setF F.ADC_CALSTAT_LATEBACK 1).ledger 60 else s)

/-- Entry to WARM (R136): a cycle that has not handed off is abandoned and falls due again; S keeps the set it had
before the cycle.
(DEDUCED, log entry 49, unsafe.) -/
def State.calWarm (s : State) : State :=
  let p := s.f F.ADC_CALSTAT_PHASE
  if (p = 1 ∨ p = 2) ∧ !s.on F.ADC_CALCTL_PERM then
    let s := s.cond (p == 2) (fun t =>
      { t with adc := { t.adc with wtrim := updAt t.adc.wtrim 8 (fun _ => t.adc.prevS) } })
    { s.setF F.ADC_CALSTAT_PHASE 0 with adc := { s.adc with due := true } }
  else s

/-- An RTC second edge in the converters: ages, timer, and a cycle that has waited (R122, R127, R136). It starts whatever
BGEN has become since it fell due.
(DEDUCED, log entry 49, unsafe; DESIGN CHOICE, log entry 111, unsafe.) -/
def State.calSecond (s : State) : State :=
  let s := s.each [0, 1, 2, 3] (fun t k => t.inc (calAge k))
  let s := if s.on F.ADC_CALCTL_BGEN && s.f F.ADC_CALSTAT_PHASE == 0 then
      { s with adc := { s.adc with timer := s.adc.timer - 1 } }
    else s
  if s.adc.due && !s.calHeld then s.startCycle else s

/-- PERM goes from 0 to 1 (R138). A cycle that has not handed off is given up, and S waits for PCORE's handoff with the
set it has; a core that is out comes back first. Without S, or with the converters powered down, the handoff is sought
later.
(DESIGN CHOICE, log entry 106, unsafe.) -/
def State.permSet (s : State) : State :=
  let p := s.f F.ADC_CALCTL_PCORE
  let ph := s.f F.ADC_CALSTAT_PHASE
  if ph = 3 ∨ ph = 4 then
    (if s.f F.ADC_CALSTAT_CORE = p then s.setF F.ADC_CALSTAT_PHASE 5 else s)
  else if s.adc.ready && s.coreEn 8 then (s.setF F.ADC_CALSTAT_PHASE 2).setF F.ADC_CALSTAT_CORE p
  else s


/-- A cycle or a substitution ends because a core that it needs is no longer powered (R109): the F core takes its own
conversions again. One that PERM had powered down powers up, where it is enabled (R122).
(DESIGN CHOICE, log entry 106, unsafe.) -/
def State.cycleDrop (s : State) : State :=
  let k := s.f F.ADC_CALSTAT_CORE
  let s := s.cond (s.f F.ADC_CALSTAT_PHASE == 5 && s.coreEn k) (·.powerUpCore k)
  { s.endCycle with adc := { s.endCycle.adc with
    sub := none, unperm := false, reg := s.adc.reg.map (List.map (fun c => { c with sub := false })) } }

/-- PERM goes from 1 to 0 (R138). A core that ADC_CTL disables does not power up, and the substitution just ends (R109).
(DESIGN CHOICE, log entry 106, unsafe.) -/
def State.permClear (s : State) : State :=
  match s.f F.ADC_CALSTAT_PHASE with
  | 5 =>
    if s.coreEn (s.f F.ADC_CALSTAT_CORE) then
      let s := (s.powerUpCore (s.f F.ADC_CALSTAT_CORE)).setF F.ADC_CALSTAT_PHASE 3
      { s with adc := { s.adc with unperm := true } }
    else s.cycleDrop
  | 2 => s.setF F.ADC_CALSTAT_PHASE 0
  | _ => s

/-- A write of ADC_CALCTL (R127, R137, R138). FORCE under a permanent substitution is taken, and its cycle waits until
PERM is cleared.
(DESIGN CHOICE, log entry 111, unsafe.) -/
def State.calCtlWrite (s : State) (w : Nat) : State × Bool :=
  let force := bit w 2
  if force && (decide (s.f F.ADC_CALSTAT_PHASE ≠ 0 ∧ s.f F.ADC_CALSTAT_PHASE ≠ 5) || s.sheds || !s.on F.ADC_CALCTL_BGEN) then
    (s, false)
  else if s.on F.ADC_CALCTL_PERM ∧ getBits w 4 2 ≠ s.f F.ADC_CALCTL_PCORE then (s, false)
  else
    let bg := s.on F.ADC_CALCTL_BGEN
    let pm := s.on F.ADC_CALCTL_PERM
    let s := (s.setB F.ADC_CALCTL_BGEN (bit w 0)).setB F.ADC_CALCTL_FOXLOCK (bit w 1)
    let s := (s.setB F.ADC_CALCTL_PERM (bit w 3)).setF F.ADC_CALCTL_PCORE (getBits w 4 2)
    let s := if !bg && bit w 0 then { s with adc := { s.adc with timer := s.f F.ADC_CALINT_INT } } else s
    let s := if !pm && bit w 3 then s.permSet else if pm && !bit w 3 then s.permClear else s
    let s := if force then { s with adc := { s.adc with due := true } }.startCycle else s
    (s, true)

/-- The core that makes a conversion queued under logical core `l`: S, the odd core of its pair, or the core itself. -/
def Conv.core (c : Conv) (l : Nat) : Nat := if c.sub then 8 else if c.odd then l + 1 else l

/-- Conversions of cores that ADC_CTL has powered down are lost (R109).
(DESIGN CHOICE, log entry 106, unsafe.) -/
def State.dropConvs (s : State) : State :=
  let live := fun (q : List (List Conv)) =>
    (List.range 8).map (fun l => (q.getD l []).filter (fun c => s.coreEn (c.core l)))
  { s with adc := { s.adc with inj := live s.adc.inj, reg := live s.adc.reg } }

/-- A write of ADC_CTL has changed CORE_EN: `old` is the field before it (R109, R122). A core powers up, or one that
calibration uses powers down; PERM finds its spare again.
(DESIGN CHOICE, log entry 106, unsafe.) -/
def State.coreEnWritten (s : State) (old : Nat) : State :=
  let s := if s.unitKnown && (s.unitCode == 0 || s.unitCode == 2) then
      s.each (List.range 9) (fun t k => if t.coreEn k && !bit old k then t.powerUpCore k else t)
    else s
  let ph := s.f F.ADC_CALSTAT_PHASE
  let perm := s.on F.ADC_CALCTL_PERM
  State.dropConvs <| if ph ≠ 0 && (!s.coreEn 8 || (!perm && !s.coreEn (s.f F.ADC_CALSTAT_CORE))) then s.cycleDrop
  else if ph = 0 && perm && s.adc.ready && s.coreEn 8 then
    (s.setF F.ADC_CALSTAT_PHASE 2).setF F.ADC_CALSTAT_CORE (s.f F.ADC_CALCTL_PCORE)
  else s

/-- The conditions of the ADC section that fail (R142), PERM apart. -/
def State.adcBad (s : State) : List (List Nat) :=
  let n := s.f F.ADC_CALINT_INT
  within 0 (failing [(0, decide (1 ≤ n) && decide (n ≤ 3600))])
    ++ within 1 (withinEach 4 (fun p =>
      if !bit (s.f F.ADC_ILV_EN) p then []
      else failing [(0, s.coreEn (2 * p)), (1, s.coreEn (2 * p + 1)),
        (2, decide (s.ilvIndex p < (if p < 2 then 24 else if p = 2 then 44 else 64)))]))

/-- The structural check of the ADC section (R142), PERM apart. -/
def State.adcOk (s : State) : Bool := s.adcBad.isEmpty

end Sys2Proof.Machine
end

