-- ==== Sys2Proof/Machine/Inject.lean ====
section
/-! DEFINITION. Commands to the test generators and the capture unit (R318 to R336). -/

namespace Sys2Proof.Machine

/-! ### Generator commands (R324, R326) -/

/-- A START of generator `n` is legal (R324). -/
def State.genStartLegal (s : State) (n : Nat) : Bool :=
  let i := s.genSlot n
  let a := genAddr n
  (s.genState n == 0 || s.genState n == 3) && s.active && !s.ceStopped
    && s.loopEn i && s.loopInj i != 0 && !s.loopHyst i && (s.genOf i).isNone
    && (getBits (s.mw a) 10 2 != 1 || s.mw (a + 8) % 2 ^ (lfsrOrder (getBits (s.mw a) 12 4)).1 != 0)

/-- A write of CE_INJCMD. -/
def State.injCmdWrite (s : State) (w : Nat) : State × Bool :=
  let n := w % 8
  if bit w 8 && bit w 9 then (s, false)
  else if bit w 8 then
    if s.genStartLegal n then
      let s := s.setGenState n 1
      ({ s with ce := { s.ce with gens := updAt s.ce.gens n (fun _ => ⟨false⟩) } }, true)
    else (s, false)
  else if bit w 9 then
    if s.genState n = 1 ∨ s.genState n = 2 then
      ({ s with ce := { s.ce with gens := updAt s.ce.gens n (fun _ => ⟨true⟩) } }, true)
    else (s, false)
  else (s, true)

/-- Every generator that is PENDING or RUNNING ends with ABORT, in state `st` (R326). -/
def State.gensAbort (s : State) (st : Nat) : State :=
  s.each (List.range 8) (fun t n =>
    let t := if t.genState n = 1 ∨ t.genState n = 2 then t.endGen n true else t
    if st = 0 then t.setGenState n 0 else t)

/-! ### Capture -/

/-- Capture state: 0 IDLE, 1 ARMED, 2 TRIGGERED, 3 DONE. -/
def State.capState (s : State) : Nat := s.f F.CE_CAPSTAT_STATE

/-- ARMED or TRIGGERED. -/
def State.capBusy (s : State) : Bool := s.capState == 1 || s.capState == 2

/-- The state with the capture's hidden part changed. -/
def State.setCap (s : State) (f : Capture → Capture) : State :=
  { s with ce := { s.ce with cap := f s.ce.cap } }

/-- A write of CE_CAPCTL (R331, R334). -/
def State.capCtlWrite (s : State) (w : Nat) : State × Bool :=
  if bit w 0 && bit w 1 then (s, false)
  else if bit w 0 then
    if !s.capBusy && s.f F.CE_CAPEN_CHEN != 0 && s.active && !s.sheds then
      let s := ((s.setF F.CE_CAPSTAT_WIDX 0).setF F.CE_CAPSTAT_NVALID 0).setF F.CE_CAPCLIP_CLIP 0
      let s := s.setF F.CE_CAPSTAT_STATE 1
      let ran := s.genState (s.f F.CE_CAPCFG_TRGGEN) == 2
      (s.setCap (fun _ => { frames := none, prev := none, left := 0, genRan := ran, taken := false }), true)
    else (s, false)
  else if bit w 1 && s.capBusy then ((s.setF F.CE_CAPSTAT_STATE 3).setF F.CE_CAPSTAT_STOPPED 1, true)
  else (s, true)

/-- The capture ends early: entry to WARM, which `warm` says, or the unit leaves ACTIVE (R334). -/
def State.capEnd (s : State) (warm : Bool) : State :=
  if s.capBusy then
    (s.setF F.CE_CAPSTAT_STATE 3).setF (if warm then F.CE_CAPSTAT_WARMEND else F.CE_CAPSTAT_STOPPED) 1
  else s

/-- A tick counts frames since the arming tick (R329). -/
def State.capTick (s : State) : State :=
  if s.capBusy then
    s.setCap (fun c => { c with frames := some (match c.frames with | none => 0 | some k => k + 1), taken := false })
  else s

/-- Source word of channel `c` (R327). -/
def State.capSrc (s : State) (c : Nat) : Nat := s.mw (0x125200 + 4 * c)

/-- The value that channel `c` reads: of a Catalogue entry, the one that stood when the tick arrived (R328, R329).
(DEDUCED, log entry 51, unsafe.) -/
def State.capValue (s : State) (c : Nat) : Int :=
  let w := s.capSrc c
  let x := w % 65536
  match w / 2 ^ 28 with
  | 2 => (s.catAsOf 0).ptVal (x % 4096)
  | 3 => s.latest (x % 64)
  | 4 => s.latchVal (x / 32 % 8) ((s.frame + 1) % 2) (x % 32)
  | 6 => s.loopOut (x % 512)
  | 7 => s.chainSignal (x / 16) (x % 16)
  | 8 => s.mi (lsAddr (x % 512) + 4)
  | 9 => s.mi (genAddr (x % 8) + 0x20)
  | _ => 0

/-- Channel `c` stores its sample (R330). -/
def State.capStore (s : State) (c : Nat) : State :=
  let r := rnd (s.capValue c) (getBits (s.capSrc c) 16 5 : Nat)
  let v := clampI (-32768) 32767 r
  let a := 0x1E0000 + 0x2000 * c + 2 * s.f F.CE_CAPSTAT_WIDX
  let s := (s.setMB a (ofI 16 v % 256)).setMB (a + 1) (ofI 16 v / 256)
  s.cond (v != r) (·.setBit F.CE_CAPCLIP_CLIP c)

/-- The trigger test on the value `v` of channel TRGCH (R332). -/
def State.capTrigger (s : State) (v : Int) : Bool :=
  let thr := s.fi F.CE_CAPTHR
  match s.f F.CE_CAPCFG_TRG with
  | 0 => true
  | 1 => (match s.ce.cap.prev with | none => false | some p => decide (thr ≤ v) && decide (p < thr))
  | 2 => (match s.ce.cap.prev with | none => false | some p => decide (v ≤ thr) && decide (thr < p))
  | _ => s.ce.cap.genRan

/-- One sample instant (R329 to R333).
(DEDUCED, log entry 51, unsafe.) -/
def State.capSample (s : State) : State :=
  let v := s.capValue (s.f F.CE_CAPCFG_TRGCH)
  let s := s.each (bitsOf (s.f F.CE_CAPEN_CHEN) 16) (·.capStore ·)
  let s := s.setF F.CE_CAPSTAT_WIDX ((s.f F.CE_CAPSTAT_WIDX + 1) % 4096)
  let s := s.setF F.CE_CAPSTAT_NVALID (min (s.f F.CE_CAPSTAT_NVALID + 1) 4096)
  let trg := s.capState == 1 && s.capTrigger v
  let left := if trg then 4095 - (if s.f F.CE_CAPCFG_TRG = 0 then 0 else s.f F.CE_CAPEN_PRE) else s.ce.cap.left - 1
  let run := trg || s.capState == 2
  let s := if trg then (s.setF F.CE_CAPTRGF s.frame).setF F.CE_CAPSTAT_STATE 2 else s
  let s := s.setCap (fun c => { c with taken := true, prev := some v, left := if run then left else 0 })
  s.cond (run && left == 0) (·.setF F.CE_CAPSTAT_STATE 3)

/-- CAPTURE_SAMPLE. -/
def execCaptureSample (s : State) : Result :=
  .next (match s.ce.cap.frames with
    | none => s
    | some k => if s.capBusy && !s.ce.cap.taken && k % (s.f F.CE_CAPCFG_DEC + 1) == 0 then s.capSample else s)

/-! ### The structural check (R336) -/

/-- What is wrong with generator record `n`. -/
def State.genRecBad (s : State) (n : Nat) : List (List Nat) :=
  let a := genAddr n
  match getBits (s.mw a) 10 2 with
  | 1 => failing [(0, decide (getBits (s.mw a) 12 4 ≤ 8))]
  | 3 => failing [(1, decide (0 ≤ s.mi (a + 8)) && decide (0 ≤ s.mi (a + 0xC))),
      (2, !(s.mw (a + 8) == s.mw (a + 0xC) && s.mw (a + 0x10) != 0))]
  | _ => []

/-- The source word of an enabled channel names a source that exists. -/
def State.capSrcOk (s : State) (c : Nat) : Bool :=
  let w := s.capSrc c
  let x := w % 65536
  match w / 2 ^ 28 with
  | 2 => decide (x < 4096)
  | 3 => decide (x < 64)
  | 4 => decide (x < 256)
  | 6 => decide (x < 512)
  | 7 => decide (x < 96) && decide (x % 16 ≤ 10)
  | 8 => decide (x < 512)
  | 9 => decide (x < 8)
  | _ => false

/-- The conditions of R336 that fail. -/
def State.captureBad (s : State) : List (List Nat) :=
  within 0 (withinEach 8 s.genRecBad)
    ++ within 1 ((bitsOf (s.f F.CE_CAPEN_CHEN) 16).flatMap (fun c => within c (failing [(0, s.capSrcOk c)])))
    ++ within 2 (failing [(0, bit (s.f F.CE_CAPEN_CHEN) (s.f F.CE_CAPCFG_TRGCH))])

/-- The conditions of R336. -/
def State.captureOk (s : State) : Bool := s.captureBad.isEmpty

end Sys2Proof.Machine
end

