-- ==== Sys2Proof/Machine/Catalogue.lean ====
section
/-! DEFINITION. The Catalogue (R337 to R345, R630): visits, digital inputs, forcing and master writes of values. -/

namespace Sys2Proof.Machine

/-- The used entries, ascending. An entry whose TYPE byte is not listed in memory is unused. -/
def State.usedPts (s : State) : List Nat :=
  s.mem.filterMap (fun c => if decide (c.1 < 0x20000) && decide (c.1 % 32 = 2) then some (c.1 / 32) else none)

/-- The used point whose source is `kind` with the fields `idx` in `mask`. -/
def State.pointOf (s : State) (kind mask idx : Nat) : Option Nat :=
  s.usedPts.find? (fun p => s.ptKind p == kind && andN (s.ptSrc p) mask == idx)

/-- An input of KIND 0x1 was written since the last visit. -/
def State.inputFresh (s : State) (i : Nat) : Bool := s.alm.fresh.contains i

/-- The value with which the visit refreshes entry `p`, and BROKEN; none when it is not refreshed (R339). -/
def State.visitValue (s : State) (p : Nat) : Option (Int × Bool) :=
  let w := s.ptSrc p
  match w / 2 ^ 28 with
  | 1 => if s.inputFresh (w % 64) then some (s.latest (w % 64), bit (s.mw (latestAddr (w % 64))) 17) else none
  | 2 => some (65536 * b2n (xor (!bit (s.f F.ALM_DISTAT_DI) (w % 16)) (bit w 8)), false)
  | 3 => some (s.fi (F.CE_PI_VALUE (w % 8)), s.on (F.CE_PI_CFG_NOSIG (w % 8)))
  | 7 => some (65536 * s.statusItem (w % 256), false)
  | _ => none

/-- AGE of entry `p` grows at one visit in 2^ASH (R339). -/
def State.ageUp (s : State) (p : Nat) : State :=
  let q := s.ptQual p
  if s.frame % 2 ^ getBits q 16 4 = 0 then s.setM (ptAddr p + 12) (setBits q 0 16 (min (q % 65536 + 1) 65535)) else s

/-- Entry `p` takes its value, or ages where it has none (R341, R342). -/
def State.visitTake (s : State) (p : Nat) : State :=
  (s.visitValue p).elim (s.ageUp p) (fun v => s.ptUpdate p v.1 v.2)

/-- The visit of entry `p` (R339, R341, R342). -/
def State.visit (s : State) (p : Nat) : State :=
  let s := s.visitTake p
  let q := s.ptQual p
  let lim := s.mw (ptAddr p + 16) % 65536
  if 0 < lim ∧ lim ≤ q % 65536 then s.setM (ptAddr p + 12) (setBits q 21 1 1) else s

/-- The CE cycle in which the visit of entry `p` completes: SYS cycle 16 + p begins 90 + 5p ns after the wrap, and two CE
cycles fill it (R35, R36, R339).
(DESIGN CHOICE, log entry 22, unsafe.) -/
def visitCycle (p : Nat) : Nat := 35 + 2 * p

/-- The visit of entry `p` in the present frame: an item that starts before it has completed reads the entry as it was. -/
def State.catVisit (s : State) (p : Nat) : State := s.catWritten (s.visit p) p (visitCycle p)

/-- A write of entry `p` that completes in CE cycle `c`, by `f`. One that completes before the entry's visit comes before
it, so that the visit finds it (R56, R339).
(DESIGN CHOICE, log entry 22, unsafe.) -/
def State.catTimed (s : State) (p c : Nat) (f : State → State) : State :=
  if c < visitCycle p ∧ s.ptType p ≠ 0 then
    let t := s.catBefore p (visitCycle p)
    (t.catWritten (f t) p c).catVisit p
  else s.catWritten (f s) p c

/-- The timed writes of the ending frame are over: what they found is no longer read. -/
def State.catClear (s : State) : State := { s with ce := { s.ce with old := [] } }

/-- The visits that follow a tick.
(DESIGN CHOICE, log entry 22, unsafe.) -/
def State.catVisits (s : State) : State :=
  let s := s.each s.usedPts (·.catVisit ·)
  { s with alm := { s.alm with fresh := [] } }

/-- The DI filters at a tick: `di` is the pin levels (R630). -/
def State.diSample (s : State) (di : Nat) : State :=
  if !s.boot.ticked then s.setF F.ALM_DISTAT_DI di
  else
    let n := s.f F.ALM_DICFG_FILT + 1
    let old := s.f F.ALM_DISTAT_DI
    let run := (List.range 16).map (fun k => if bit di k = bit old k then 0 else s.alm.diRun.getD k 0 + 1)
    let flip := (List.range 16).filter (fun k => decide (n ≤ run.getD k 0))
    let s := s.setF F.ALM_DISTAT_DI (flip.foldl (fun x k => Nat.xor x (2 ^ k)) old)
    { s with alm := { s.alm with diRun := (List.range 16).map (fun k => if flip.contains k then 0 else run.getD k 0) } }

/-- A write of ALM_FORCE (R343). -/
def State.forceWrite (s : State) (w : Nat) : State × Bool :=
  let p := w % 4096
  let a := ptAddr p
  if (bit w 16 && bit w 17) || s.ptType p == 0 then (s, false)
  else if bit w 16 then
    let s := s.catTouched p
    ((s.setM (a + 8) (s.f F.ALM_FORCEVAL)).setM (a + 12) (setBits (s.ptQual p) 22 1 1), true)
  else if bit w 17 then
    let s := s.catTouched p
    ((s.setM (a + 8) (s.mw (a + 20))).setM (a + 12) (setBits (s.ptQual p) 22 1 0), true)
  else (s, true)

/-- A master write of the VALUE of point `p` (R345). -/
def State.valueWrite (s : State) (p w : Nat) : State × Bool :=
  if s.ptKind p = 0 then ((s.catTouched p).ptUpdate p (toS 32 w) false, true) else (s, false)

end Sys2Proof.Machine
end

