-- ==== Sys2Proof/Machine/Almanac.lean ====
section
/-! DEFINITION. The Almanac (R346 to R373): local time, programs, zones, capacity, staging and rules. An evaluation is
computed from the state it reads; what it writes is staged until the tick that commits it. -/

namespace Sys2Proof.Machine

/-! ### Dates (R347, R352) -/

/-- Gregorian year, month and day of day `n` since 2000-01-01, negative before it: years are counted from 2000-03-01 less
400. -/
def civil (n : Int) : Nat × Nat × Nat :=
  let z := (n + (146097 - 60)).toNat
  let era := z / 146097
  let doe := z % 146097
  let yoe := (doe - doe / 1460 + doe / 36524 - doe / 146096) / 365
  let doy := doe - (365 * yoe + yoe / 4 - yoe / 100)
  let mp := (5 * doy + 2) / 153
  let d := doy - (153 * mp + 2) / 5 + 1
  let m := if mp < 10 then mp + 3 else mp - 9
  (yoe + era * 400 + 1600 + (if m ≤ 2 then 1 else 0), m, d)

/-- Day number since 2000-01-01 of a date from 1601 on. -/
def dayNumber (y m d : Nat) : Int :=
  let y1 := if m ≤ 2 then y - 1 else y
  let yoe := y1 - 1600
  let mp := if 2 < m then m - 3 else m + 9
  let doy := (153 * mp + 2) / 5 + d - 1
  ((yoe * 365 + yoe / 4 - yoe / 100 + yoe / 400 + doy + 60 : Nat) : Int) - 146097

/-- Weekday of a day number: 0 is Monday; 2000-01-01 was a Saturday. -/
def weekday (n : Int) : Nat := ((n + 5) % 7).toNat

/-- Days of a month. -/
def monthDays (y m : Nat) : Nat :=
  if m = 2 then (if y % 4 = 0 ∧ (y % 100 ≠ 0 ∨ y % 400 = 0) then 29 else 28)
  else if m = 4 ∨ m = 6 ∨ m = 9 ∨ m = 11 then 30 else 31

/-- Date code of R352, its year modulo 128.
(DEDUCED, log entry 66, unsafe.) -/
def dateCode (n : Int) : Nat :=
  let c := civil n
  (((c.1 : Int) - 2000) % 128).toNat * 512 + c.2.1 * 32 + c.2.2

/-- Day number of the `wk`-th Sunday of a month; 5 means the last (R347). -/
def sundayOf (y m wk : Nat) : Int :=
  if 5 ≤ wk then
    let l := dayNumber y m (monthDays y m)
    l - ((weekday l + 1) % 7 : Nat)
  else
    let f := dayNumber y m 1
    f + ((6 - weekday f) % 7 + 7 * (wk - 1) : Nat)

/-- What the Almanac derives from the RTC (R347). -/
structure LocalTime where
  /-- Minute of the day. -/
  minute : Nat
  /-- Day since 2000-01-01, negative before it. -/
  day : Int
  /-- Daylight saving is in effect. -/
  dst : Bool
  deriving DecidableEq, Repr

/-- Daylight saving is in effect at standard minute `std` since 2000-01-01. -/
def dstAt (w : Nat) (std : Int) : Bool :=
  let y := (civil (std / 1440)).1
  let a := sundayOf y (w % 16) (getBits w 4 3) * 1440 + (getBits w 7 5 * 60 : Nat)
  let b := sundayOf y (getBits w 12 4) (getBits w 16 3) * 1440 + (getBits w 19 5 * 60 : Nat)
  bit w 31 && (if a ≤ b then decide (a ≤ std) && decide (std < b) else decide (a ≤ std) || decide (std < b))

/-- Local time (R347). -/
def State.localTime (s : State) : LocalTime :=
  let std : Int := (s.f F.ALM_RTC / 60 : Nat) + toS 16 (s.f F.ALM_TZ_TZ)
  let w := s.rd (F.ALM_DST_EN).addr
  let dst := dstAt w std
  let l := std + ((if dst then getBits w 24 7 else 0 : Nat) : Int)
  ⟨(l % 1440).toNat, l / 1440, dst⟩

/-! ### Programs and exceptions (R350 to R353) -/

/-- A used switch point: minute, order, mode, set. -/
structure SwitchPt where
  /-- Minute of the day. -/
  minute : Nat
  /-- 0 OCCUPIED, 1 STANDBY, 2 UNOCCUPIED. -/
  mode : Nat
  /-- Setpoint set. -/
  set : Nat
  deriving DecidableEq, Repr

/-- The exception entry that applies to program `p` on day `n`: its CTL word (R352). -/
def State.exception (s : State) (p : Nat) (n : Int) : Option Nat :=
  let code := dateCode n
  ((List.range 64).find? (fun x =>
    let a := 0x26400 + 16 * x
    let ctl := s.mw (a + 8)
    let dates := s.mw a
    let k := if bit ctl 4 then 512 else 65536
    bit ctl 31 && bit (s.mw (a + 4)) p && decide (dates % 65536 % k ≤ code % k)
      && decide (code % k ≤ dates / 65536 % k))).map (fun x => s.mw (0x26400 + 16 * x + 8))

/-- The used switch points of weekday `d` of program `p`, in order of `j`. -/
def State.weekPoints (s : State) (p d : Nat) : List SwitchPt :=
  (List.range 8).filterMap (fun j =>
    let w := s.mw (0x24400 + 0x100 * p + 0x20 + 0x20 * d + 4 * j)
    if bit w 31 then some ⟨w % 2048, getBits w 12 2, getBits w 16 4⟩ else none)

/-- The switch points of day `n` with its exception applied, and its day type (R352, R353). -/
def State.dayPoints (s : State) (p dflt : Nat) (n : Int) : List SwitchPt × Bool :=
  match s.exception p n with
  | some ctl =>
    (if ctl % 8 = 7 then [⟨0, 2, dflt⟩] else s.weekPoints p (ctl % 8), bit ctl 3)
  | none => (s.weekPoints p (weekday n), !bit (s.mw (0x24400 + 0x100 * p)) (weekday n))

/-- The latest point of a list at or before minute `m`; of two at one minute the later in the list (R351). -/
def latestPt : List SwitchPt → Nat → Option SwitchPt
  | [], _ => none
  | x :: xs, m =>
    match latestPt xs m with
    | some y => if x.minute ≤ m ∧ y.minute < x.minute then some x else some y
    | none => if x.minute ≤ m then some x else none

/-- The point in force at the end of day `n`, searching `fuel` days back. -/
def State.backPt (s : State) (p dflt : Nat) : Nat → Int → Option SwitchPt
  | 0, _ => none
  | fuel + 1, n =>
    match latestPt (s.dayPoints p dflt n).1 2047 with
    | some x => some x
    | none => s.backPt p dflt fuel (n - 1)

/-- Scheduled mode and set of program `p` at minute `m` of day `n` (R351). -/
def State.scheduled (s : State) (p dflt : Nat) (n : Int) (m : Nat) : Nat × Nat :=
  match latestPt (s.dayPoints p dflt n).1 m with
  | some x => (x.mode, x.set)
  | none =>
    match s.backPt p dflt 7 (n - 1) with
    | some x => (x.mode, x.set)
    | none => (2, dflt)

/-- The first minute after `m` at which a day's list makes the mode OCCUPIED, and the set. -/
def firstOcc (l : List SwitchPt) (m : Int) : Option (Nat × Nat) :=
  (List.range 1440).findSome? (fun (t : Nat) =>
    if ((t : Nat) : Int) ≤ m then none
    else match (l.filter (fun x => x.minute == t)).getLast? with
      | some x => if x.mode = 0 then some (t, x.set) else none
      | none => none)

/-- The next OCCUPIED point over the rest of today and tomorrow: minutes ahead, and its set (R356). -/
def State.lookAhead (s : State) (p dflt : Nat) (n : Int) (m : Nat) : Option (Nat × Nat) :=
  match firstOcc (s.dayPoints p dflt n).1 m with
  | some x => some (x.1 - m, x.2)
  | none => (firstOcc (s.dayPoints p dflt (n + 1)).1 (-1)).map (fun x => (x.1 + 1440 - m, x.2))

/-! ### Zones (R354 to R363) -/

/-- Address of zone record `z`. -/
def zoneAddr (z : Nat) : Nat := 0x20000 + 0x100 * z

/-- Word of zone `z`. -/
def State.zw (s : State) (z o : Nat) : Nat := s.mw (zoneAddr z + o)

/-- Signed word of zone `z`. -/
def State.zi (s : State) (z o : Nat) : Int := s.mi (zoneAddr z + o)

/-- Slot of loop `k` of zone `z`, when present. -/
def State.zslot (s : State) (z k : Nat) : Option Nat :=
  let w := getBits (s.zw z (4 + 4 * (k / 2))) (16 * (k % 2)) 16
  if bit w 15 then some (w % 512) else none

/-- The measurement of a slot in Q16.16, and whether it is good. -/
def State.measure (s : State) (i : Nat) : Int × Bool :=
  let v := s.source i (s.ld i 0xC)
  ((conv v.2 16 v.1).1, s.mGood i)

/-- The measurement of a slot that may be absent, when it is good. -/
def State.goodMeas (s : State) (i : Option Nat) : Option Int :=
  match i with
  | some k => if (s.measure k).2 then some (s.measure k).1 else none
  | none => none

/-- What the mode decision of a zone gives. -/
structure ZoneMode where
  /-- 0 OCCUPIED, 1 STANDBY, 2 UNOCCUPIED, 3 PROTECT. -/
  mode : Nat
  /-- Setpoint set. -/
  set : Nat
  /-- New ZSTAT bits 7:2 and override bits. -/
  zstat : Nat
  /-- New TMR1. -/
  tmr1 : Nat
  /-- New OVRMIN. -/
  ovrmin : Nat
  /-- New count of evaluations in the override's present minute. -/
  ovrcnt : Nat
  /-- New RW. -/
  rw : Int
  /-- New RC. -/
  rc : Int
  /-- New OSTS. -/
  osts : Int
  /-- New OSTMR. -/
  ostmr : Nat
  /-- New hidden state of optimal start. -/
  os : OptStart
  deriving DecidableEq, Repr

/-- Occupied setpoint of loop 0 in a set. -/
def State.occSp (s : State) (set : Nat) : Int := s.mi (0x24000 + 0x40 * set)

/-- Learning of R357 for a zone whose optimal start is `o`: RW, RC and what learning leaves. -/
def learnRate (o : OptStart) (t : Option Int) (osts : Int) (ostmr osmax : Nat) (protect : Bool) (rw rc : Int) :
    Int × Int × OptStart :=
  if !o.learning then (rw, rc, o)
  else
    match t with
    | none => (rw, rc, { o with learning := false })
    | some x =>
      if protect || decide (60 * osmax < o.after) then (rw, rc, { o with learning := false })
      else if (o.sp - x).natAbs ≤ 32768 then
        let meas := rdiv ((x - osts).natAbs * 3600) ostmr
        let up := fun r => clampI 16384 1310720 (r + asr (meas - r) 2)
        if o.warm then (up rw, rc, { o with learning := false }) else (rw, up rc, { o with learning := false })
      else (rw, rc, o)

/-- PCOND and PTMR after an evaluation (R359). -/
def protectStep (pc ptmr pdwell raw clr : Nat) : Nat × Nat :=
  let change := if pc = 0 then raw != 0 else clr == 15
  let n := if change then min (ptmr + 1) 65535 else 0
  if change && decide (pdwell ≤ n) then (if pc = 0 then raw else 0, 0)
  else (if pc = 0 then 0 else orN pc raw, n)

/-- The four conditions of R359 as two masks: those that hold, and those that are clear with margin. -/
def State.protectMasks (s : State) (z pc : Nat) (t h : Option Int) : Nat × Nat :=
  let ph := s.zi z 0x2C
  let one := fun (k : Nat) (x : Option Int) (holds clear : Int → Bool) =>
    match x with
    | some v => (b2n (holds v) * 2 ^ k, b2n (clear v) * 2 ^ k)
    | none => (b2n (bit pc k) * 2 ^ k, b2n (!bit pc k) * 2 ^ k)
  let a := one 0 t (fun v => decide (v < s.zi z 0x1C)) (fun v => decide (s.zi z 0x1C + ph ≤ v))
  let b := one 1 t (fun v => decide (s.zi z 0x20 < v)) (fun v => decide (v ≤ s.zi z 0x20 - ph))
  let c := one 2 h (fun v => decide (v < s.zi z 0x24)) (fun v => decide (s.zi z 0x24 + ph ≤ v))
  let d := one 3 h (fun v => decide (s.zi z 0x28 < v)) (fun v => decide (v ≤ s.zi z 0x28 - ph))
  (a.1 + b.1 + c.1 + d.1, a.2 + b.2 + c.2 + d.2)

/-- `need` of R356 in minutes. A rate of 0 has no quotient: the value is free.
(DESIGN CHOICE, log entry 67, safe.) -/
def State.osNeed (s : State) (z : Nat) (sp t rw rc : Int) : Int :=
  let fr : Int := (Config.freeWord (s.freeCount + z)).toNat
  if t < sp then (if rw = 0 then fr else (60 * (sp - t) + rw - 1) / rw)
  else (if rc = 0 then fr else (60 * (t - sp) + rc - 1) / rc)

/-- An optimal start that stands but was not begun here (it came from a record or a master's write): it aims at the point
that the look-ahead finds, and has learned nothing yet. With no such point the set is free.
(DEDUCED, log entry 116, unsafe.) -/
def State.osAdopt (s : State) (z : Nat) (lt : LocalTime) : OptStart :=
  let ctl := s.zw z 0
  let set := match s.lookAhead (getBits ctl 1 5) (getBits ctl 6 4) lt.day lt.minute with
    | some x => x.2
    | none => (Config.freeWord (s.freeCount + 64 + z)).toNat % 16
  ⟨true, decide (s.zi z 0x98 < s.occSp set), s.occSp set, some set, 0⟩

/-- Optimal start of zone `z` (step 2 of R355): mode and set, OPTSTART, OSTS, OSTMR and hidden state. -/
def State.optimal (s : State) (z : Nat) (lt : LocalTime) (sched : Nat × Nat) (t : Option Int) (o : OptStart) :
    (Nat × Nat) × Bool × Int × Nat × OptStart :=
  let ctl := s.zw z 0
  let opt := bit (s.zw z 0x80) 2
  let osts := s.zi z 0x98
  let tmr := if opt || o.learning then min (s.zw z 0x9C + 1) 4294967295 else s.zw z 0x9C
  if opt then
    let o := if o.set.isSome then o else s.osAdopt z lt
    if sched.1 = 0 then (sched, false, osts, tmr, { o with set := none, after := 0 })
    else ((0, o.set.getD 0), true, osts, tmr, o)
  else
    let o := if o.learning then { o with set := none, after := o.after + 1 } else { o with set := none }
    match t, s.lookAhead (getBits ctl 1 5) (getBits ctl 6 4) lt.day lt.minute with
    | some x, some (dl, set) =>
      let sp := s.occSp set
      if bit ctl 16 && (s.zslot z 0).isSome && sched.1 != 0 && decide (dl ≤ s.zw z 0x14 / 65536)
          && decide (32768 < (sp - x).natAbs) && decide ((dl : Int) ≤ s.osNeed z sp x (s.zi z 0x90) (s.zi z 0x94)) then
        ((0, set), true, x, 0, ⟨true, decide (x < sp), sp, some set, 0⟩)
      else (sched, false, osts, tmr, o)
    | _, _ => (sched, false, osts, tmr, o)

/-- Occupancy (step 3, R358): mode, OCC, OCCTMR. -/
def State.occupancy (s : State) (z mode : Nat) (opt : Bool) : Nat × Bool × Nat :=
  let ctl := s.zw z 0
  let pts := s.zw z 0xC
  let p := pts % 4096
  let occ := bit (s.zw z 0x80) 3
  let tmr := s.zw z 0x84 % 65536
  if bit pts 15 && s.ptGood p then
    let tmr := if s.ptVal p ≠ 0 then 0 else min (tmr + 1) 65535
    let occ := decide (tmr < s.zw z 0x10 % 65536)
    (if bit ctl 14 && occ && (mode == 1 || mode == 2) then 0
      else if bit ctl 15 && !occ && mode == 0 && !opt then 1 else mode, occ, tmr)
  else (mode, occ, tmr)

/-- The override of a zone after one more evaluation: OVRON, OVRMIN and the evaluations of its present minute.
(DEDUCED, log entry 66, unsafe.) -/
def ovrStep (on : Bool) (min cnt : Nat) : Bool × Nat × Nat :=
  if !on then (false, min, 0)
  else if min = 0 then (true, 0, 0)
  else if cnt + 1 < 60 then (true, min, cnt + 1)
  else if min = 1 then (false, 0, 0) else (true, min - 1, 0)

/-- The mode decision of zone `z` (R355). -/
def State.zoneMode (s : State) (z : Nat) (lt : LocalTime) (sched : Nat × Nat) : ZoneMode :=
  let ctl := s.zw z 0
  let zs := s.zw z 0x80
  let t := s.goodMeas (s.zslot z 0)
  let h := s.goodMeas (s.zslot z 1)
  let o0 := s.alm.hid.os.getD z .idle
  let rtc := s.on F.ALM_STAT_RTCSET
  let op := if rtc then s.optimal z lt sched t o0
    else (sched, false, s.zi z 0x98, s.zw z 0x9C, .idle)
  let oc := s.occupancy z op.1.1 op.2.1
  let on := bit zs 19
  let m4 := if on then (getBits zs 17 2, getBits ctl 6 4) else (oc.1, op.1.2)
  let ov := ovrStep on (s.zw z 0x8C) (s.alm.hid.ovr.getD z 0)
  let pc := getBits zs 4 4
  let pm := s.protectMasks z pc t h
  let ps := protectStep pc (s.zw z 0x84 / 65536) (s.zw z 0x14 % 65536) pm.1 pm.2
  let mode := if ps.1 ≠ 0 then 3 else m4.1
  let lr := learnRate op.2.2.2.2 t op.2.2.1 op.2.2.2.1 (s.zw z 0x14 / 65536) (ps.1 != 0) (s.zi z 0x90) (s.zi z 0x94)
  { mode := mode, set := m4.2,
    zstat := 4 * b2n op.2.1 + 8 * b2n oc.2.1 + 16 * ps.1 + (if ov.1 then getBits zs 17 2 * 2 ^ 17 + 2 ^ 19 else 0),
    tmr1 := oc.2.2 + ps.2 * 65536, ovrmin := ov.2.1, ovrcnt := ov.2.2,
    rw := lr.1, rc := lr.2.1, osts := op.2.2.1, ostmr := op.2.2.2.1, os := lr.2.2 }

/-- Setpoint of loop `k` (R360). -/
def State.zoneSp (s : State) (z mode set k : Nat) : Int :=
  if mode = 3 then s.zi z (0x30 + 4 * k)
  else
    let v := s.mi (0x24000 + 0x40 * set + 0x10 * mode + 4 * k)
    let pts := s.zw z 0xC
    let p := getBits pts 16 12
    if k = 0 ∧ mode ≤ 1 ∧ bit pts 31 ∧ s.ptGood p then
      sat32 (v + clampI (-s.zi z 0x50) (s.zi z 0x50) (s.ptVal p))
    else v

/-- Loop modes of a zone so far: BAD, WANT, TMR2 and the staged commands. -/
structure LoopModes where
  /-- BAD. -/
  bad : Nat
  /-- WANT. -/
  want : Nat
  /-- TMR2. -/
  tmr2 : Nat
  /-- Staged writes and commands. -/
  cmds : List Staged
  deriving DecidableEq, Repr

/-- Loop `k` of a zone (R362). -/
def State.loopWant (s : State) (z mode : Nat) (a : LoopModes) (k : Nat) : LoopModes :=
  match s.zslot z k with
  | none => a
  | some i =>
    let good := (s.measure i).2
    let dwell := max (s.zw z 0x10 / 65536) 1
    let t := getBits a.tmr2 (8 * k) 8
    let n := if good = bit a.bad k then min (t + 1) 255 else 0
    let flip := decide (dwell ≤ n)
    let bad := if flip then Nat.xor a.bad (2 ^ k) else a.bad
    let tmr2 := setBits a.tmr2 (8 * k) 8 (if flip then 0 else n)
    let auto := !bit bad k && bit (getBits (s.zw z 0x18) (4 * mode) 4) k
    if bit (s.zw z 0x80) 16 && bit a.want k == auto then { a with bad := bad, tmr2 := tmr2 }
    else
      { bad := bad, tmr2 := tmr2, want := setBits a.want k 1 (b2n auto),
        cmds := a.cmds ++ (if auto then [.mode (i + 2 * 2 ^ 12 + 2 ^ 14)]
          else [.word (lsAddr i + 0xC) (s.zw z (0x40 + 4 * k)), .mode (i + 2 ^ 12 + 2 ^ 14 + 2 ^ 15)]) }

/-- Demand of a zone (R363). -/
def State.zoneDemand (s : State) (z : Nat) : Int :=
  match s.zslot z (getBits (s.zw z 0) 17 2) with
  | none => 0
  | some i =>
    let u := (conv (s.loopFrac i) 16 (s.loopOut i)).1
    clampI 0 6553600 (rnd ((u - s.zi z 0x54) * s.zi z 0x58) 16)

/-- The staged update of Almanac output `idx`, when a point is sourced from it (R361). -/
def State.almOut (s : State) (idx : Nat) (v : Int) : List Staged :=
  match s.pointOf 6 1023 idx with
  | some p => [.point p v]
  | none => []

/-- What the zones of an evaluation give so far. -/
structure ZoneAcc where
  /-- Staged writes. -/
  staged : List Staged
  /-- Weight and demand of each enabled zone. -/
  demand : List (Nat × Int)
  /-- Hidden state. -/
  hid : AlmHidden
  /-- Enabled zones. -/
  n : Nat
  deriving DecidableEq, Repr

/-- Zone `z` in an evaluation. -/
def State.evalZone (s : State) (lt : LocalTime) (a : ZoneAcc) (z : Nat) : ZoneAcc :=
  let ctl := s.zw z 0
  if !bit ctl 0 then a
  else
    let p := getBits ctl 1 5
    let dflt := getBits ctl 6 4
    let rtc := s.on F.ALM_STAT_RTCSET
    let sched := if rtc then s.scheduled p dflt lt.day lt.minute else (1, dflt)
    let dt := rtc && (s.dayPoints p dflt lt.day).2
    let m := s.zoneMode z lt sched
    let zs := s.zw z 0x80
    let lm := [0, 1, 2, 3].foldl (s.loopWant z m.mode) ⟨getBits zs 8 4, getBits zs 12 4, s.zw z 0x88, []⟩
    let b := zoneAddr z
    let words : List Staged :=
      [.word (b + 0x80) (m.mode + m.zstat + lm.bad * 256 + lm.want * 4096
          + 65536 * b2n (bit zs 16 || !lm.cmds.isEmpty)), .word (b + 0x84) m.tmr1,
        .word (b + 0x88) lm.tmr2, .word (b + 0x8C) m.ovrmin, .word (b + 0x90) (ofI 32 m.rw),
        .word (b + 0x94) (ofI 32 m.rc), .word (b + 0x98) (ofI 32 m.osts), .word (b + 0x9C) m.ostmr]
    let d := s.zoneDemand z
    let outs := ([0, 1, 2, 3].map (fun k => s.almOut (8 * z + k) (s.zoneSp z m.mode m.set k))).flatten
      ++ s.almOut (8 * z + 4) (65536 * m.mode) ++ s.almOut (8 * z + 5) d
      ++ s.almOut (8 * z + 6) (65536 * b2n (bit m.zstat 3)) ++ s.almOut (8 * z + 7) (65536 * b2n dt)
    { staged := a.staged ++ words ++ lm.cmds ++ outs, demand := a.demand ++ [(ctl / 2 ^ 24, d)], n := a.n + 1,
      hid := { a.hid with dayType := updAt a.hid.dayType z (fun _ => dt), ovr := updAt a.hid.ovr z (fun _ => m.ovrcnt),
                          os := updAt a.hid.os z (fun _ => m.os) } }

/-! ### Capacity and staging (R364 to R366) -/

/-- The capacity request (R364). -/
def State.capacity (s : State) (l : List (Nat × Int)) : Int :=
  let w := l.filter (fun p => p.1 != 0)
  if w.isEmpty then 0
  else if bit (s.mw 0x2A800) 0 then
    rdiv (w.foldl (fun (a : Int) p => a + p.1 * p.2) 0) (w.foldl (fun (a : Int) p => a + p.1) 0)
  else w.foldl (fun (a : Int) p => max a (rdiv (p.1 * p.2) 255)) 0

/-- One enabled stage as an evaluation sees it. -/
structure StageEv where
  /-- Stage number. -/
  idx : Nat
  /-- Drive. -/
  drive : Nat
  /-- Running. -/
  run : Bool
  /-- New LOCK. -/
  lock : Bool
  /-- LOCK cleared in this evaluation. -/
  cleared : Bool
  /-- Available. -/
  avail : Bool
  /-- New TMR. -/
  tmr : Nat
  /-- New ENSEEN0. -/
  seen0 : Bool
  deriving DecidableEq, Repr

/-- Address of stage record `k`. -/
def stageAddr (k : Nat) : Nat := 0x2A840 + 0x20 * k

/-- Stage `k`, when enabled. -/
def State.stageEv (s : State) (k : Nat) : Option StageEv :=
  let a := stageAddr k
  let ctl := s.mw a
  if !bit ctl 0 then none
  else
    let ss := s.mw (a + 0x10)
    let d := getBits ctl 1 3
    let st := s.driveState d
    let run := decide (1 ≤ st) && decide (st ≤ 5)
    let p := getBits ctl 16 12
    let en := s.ptGood p && s.ptVal p != 0
    let locks := st == 6 && !bit ss 1
    let lock0 := bit ss 1 || locks
    let seen := bit ss 2 && !locks
    let clears := lock0 && en && seen
    let lock := lock0 && !clears
    some ⟨k, d, run, lock, clears, en && !lock, if run = bit ss 0 then min (ss / 65536 + 1) 65535 else 0, !en⟩

/-- The stage that a staging condition acts on: 0 and 1 start, 2 and 3 stop (R366). -/
def State.pickStage (s : State) (l : List StageEv) (i : Nat) : Option StageEv :=
  if i < 2 then l.find? (fun e => e.avail && !e.run && !e.cleared
    && decide (s.mw (stageAddr e.idx + 0xC) / 65536 ≤ e.tmr))
  else (l.filter (fun e => e.run && decide (s.mw (stageAddr e.idx + 0xC) % 65536 ≤ e.tmr))).getLast?

/-- Staging condition `i` with capacity `c`: its new count and the commands it stages. -/
def State.stageCond (s : State) (l : List StageEv) (c : Int) (cnt : List Nat) (i : Nat) : Nat × List Staged :=
  let na : Int := (l.filter (·.avail)).length
  let n : Int := (l.filter (·.run)).length
  let hold := match i with
    | 0 => n == 0 && decide (s.mi 0x2A804 < c)
    | 1 => decide (1 ≤ n) && decide (s.mi 0x2A80C < rdiv (c * na) n)
    | 2 => decide (2 ≤ n) && decide (rdiv (c * na) (n - 1) < s.mi 0x2A810)
    | _ => n == 1 && decide (c < s.mi 0x2A808)
  let k := if hold then min (cnt.getD i 0 + 1) 65535 else 0
  if hold && decide (getBits (s.mw 0x2A800) 8 8 ≤ k) then
    match s.pickStage l i with
    | some e => (0, [.drive e.drive (if i < 2 then 1 else 2)])
    | none => (k, [])
  else (k, [])

/-- Speed setpoint of a stage (R366). -/
def State.stageSpeed (s : State) (e : StageEv) (c na n : Int) : Int :=
  let lo := s.mi (stageAddr e.idx + 4)
  if e.run then lo + rdiv ((s.mi (stageAddr e.idx + 8) - lo) * clampI 0 6553600 (rdiv (c * na) n)) 6553600 else lo

/-- Capacity and staging of an evaluation: staged writes and the new counts. A stage that is not enabled does not run.
(DEDUCED, log entry 117, unsafe.) -/
def State.evalStages (s : State) (demand : List (Nat × Int)) : List Staged × List Nat :=
  let c := s.capacity demand
  let l := (List.range 6).filterMap s.stageEv
  let na : Int := (l.filter (·.avail)).length
  let n := (l.filter (·.run)).length
  let r := [0, 1, 2, 3].map (s.stageCond l c s.alm.hid.stageCnt)
  let clr := l.filterMap (fun e => if e.cleared then some (Staged.drive e.drive 4) else none)
  let words := l.map (fun e => Staged.word (stageAddr e.idx + 0x10)
    (b2n e.run + 2 * b2n e.lock + 4 * b2n e.seen0 + e.tmr * 65536))
  let mask := fun (f : StageEv → Bool) => l.foldl (fun a e => a + b2n (f e) * 2 ^ e.idx) 0
  (words ++ clr ++ (r.map (·.2)).flatten
    ++ [.reg (F.ALM_CAP).addr (ofI 32 c), .reg (F.ALM_STAGE_N).addr (n * 65536 + mask (·.lock) * 256 + mask (·.run))]
    ++ s.almOut 0x200 c
    ++ (List.range 6).flatMap (fun k => s.almOut (0x201 + k) (match l.find? (fun e => e.idx == k) with
      | some e => s.stageSpeed e c na n
      | none => s.mi (stageAddr k + 4)))
    ++ s.almOut 0x207 (65536 * n), r.map (·.1))

/-! ### Rules (R367 to R370) -/

/-- Address of rule `r`. -/
def ruleAddr (r : Nat) : Nat := 0x26800 + 0x40 * r

/-- Left operand of a comparison word. -/
def State.ruleLeft (s : State) (w : Nat) : Int :=
  let x := w % 4096
  match getBits w 12 2 with
  | 1 => s.ptVal x
  | 2 => 65536 * s.statusItem x
  | 3 => 65536 * b2n (s.ptGood x)
  | _ => 0

/-- The test of comparison `c` of rule `r`. -/
def State.ruleCmp (s : State) (r c : Nat) : Bool :=
  let w := s.mw (ruleAddr r + 4 + 8 * c)
  let rw := s.mw (ruleAddr r + 8 + 8 * c)
  let b : Int := if bit w 19 then s.ptVal (rw % 4096) else toS 32 rw
  let a := s.ruleLeft w
  if getBits w 12 2 = 0 then true
  else match getBits w 16 3 with
    | 0 => decide (a < b)
    | 1 => decide (a ≤ b)
    | 2 => decide (a = b)
    | 3 => decide (a ≠ b)
    | 4 => decide (b ≤ a)
    | 5 => decide (b < a)
    | _ => false

/-- The last staged word at an address, else the word in memory. -/
def State.stagedWord (s : State) (l : List Staged) (a : Nat) : Nat :=
  l.foldl (fun x e => match e with
    | .word b v => if b = a then v else x
    | _ => x) (s.mw a)

/-- The action of rule `r`, given what has been staged before it (R369). -/
def State.ruleAction (s : State) (r : Nat) (acc : List Staged) : List Staged :=
  let a := ruleAddr r
  let w := s.mw (a + 0x24)
  let v := s.mw (a + 0x28)
  let param := getBits w 8 8
  let tgt := getBits w 16 12
  match w % 16 with
  | 0 => []
  | 1 =>
    if s.ptKind tgt ≠ 0 ∨ (bit w 4 ∧ !s.ptGood (v % 4096)) then [.failed]
    else [.point tgt (if bit w 4 then s.ptVal (v % 4096) else toS 32 v)]
  | 2 =>
    if 63 < param then [.failed]
    else
      let zs := s.stagedWord acc (zoneAddr param + 0x80)
      if v % 8 = 7 then [.word (zoneAddr param + 0x80) (setBits zs 17 3 0), .word (zoneAddr param + 0x8C) 0]
      else [.word (zoneAddr param + 0x80) (setBits zs 17 3 (v % 4 + 4)), .word (zoneAddr param + 0x8C) (s.mw (a + 0x2C))]
  | 3 => [.mode (tgt % 512 + v % 4 * 2 ^ 12 + 2 ^ 14 + 2 ^ 16 * b2n (bit v 2))]
  | 4 => [.alarm r (s.mw (a + 0x2C) % 65536) (s.ruleLeft (s.mw (a + 4)))]
  | 5 => if 1 < param then [.failed] else [.busRec param]
  | 6 => if s.f F.PAIR_CFG_MODE = 0 then [.failed] else [.swap]
  | _ => [.failed]

/-- Rule `r` in an evaluation (R368): what it stages after `acc`. Its condition is an output whether it is enabled or not
(R361).
(DEDUCED, log entry 117, unsafe.) -/
def State.evalRule (s : State) (acc : List Staged) (r : Nat) : List Staged :=
  let hdr := s.mw (ruleAddr r)
  let sa := 0x2B000 + 8 * r
  let st := s.mw sa
  let hour := decide ((s.alm.evals + 1) % 3600 = 0)
  let cond := [0, 1, 2, 3].all (s.ruleCmp r)
  let acc := acc ++ s.almOut (0x300 + r) (65536 * b2n cond)
  if !bit hdr 31 then
    (if hour && st / 2 ^ 24 != 0 then acc ++ [.word sa (st % 2 ^ 24)] else acc)
  else
    let held := if cond then min (st % 65536 + 1) 65535 else 0
    let fired := cond && bit st 16
    let rep := bit hdr 30
    let maxhr := getBits hdr 16 8
    let hc := st / 2 ^ 24
    let fire := cond && decide (hdr % 65536 ≤ held) && (!fired || rep) && (maxhr == 0 || decide (hc < maxhr))
    let held' := if fire && rep then 0 else held
    let hc' := if hour then 0 else if fire then min (hc + 1) 255 else hc
    let acc := if fire then acc ++ s.ruleAction r acc ++ [.fired] else acc
    let acc := acc ++ [.word sa (held' + 65536 * b2n (fired || fire) + hc' * 2 ^ 24)]
    if fire then acc ++ [.word (sa + 4) (min (s.mw (sa + 4) + 1) 4294967295)] else acc

/-! ### The evaluation (R371, R372) -/

/-- The cost of an evaluation in SYS cycles (R372). -/
def State.almCost (s : State) : Nat :=
  let zones := ((List.range 64).filter (fun z => bit (s.zw z 0) 0)).length
  let stages := ((List.range 6).filter (fun k => bit (s.mw (stageAddr k)) 0)).length
  let rules := (List.range 256).foldl (fun a r =>
    if bit (s.mw (ruleAddr r)) 31 then
      a + 4 + 4 * ([0, 1, 2, 3].filter (fun c => getBits (s.mw (ruleAddr r + 4 + 8 * c)) 12 2 != 0)).length
    else a) 0
  300 + 36 * zones + 24 * stages + rules

/-- The minute of an override begins anew where a rule has written it (R369). -/
def ovrRestart (rules : List Staged) (ovr : List Nat) : List Nat :=
  rules.foldl (fun l e => match e with
    | .word a _ => if a < 0x24000 ∧ a % 0x100 = 0x8C then updAt l ((a - 0x20000) / 0x100) (fun _ => 0) else l
    | _ => l) ovr

/-- One whole evaluation: its staged writes and what it leaves in hidden state.
(DESIGN CHOICE, log entry 67, safe; DEDUCED, log entry 68, unsafe.) -/
def State.evaluate (s : State) : List Staged × AlmHidden :=
  let lt := s.localTime
  let wd := weekday lt.day
  let l0 : List Staged :=
    [.reg (F.ALM_LOCAL_MIN).addr (lt.minute + wd * 2 ^ 11 + dateCode lt.day * 2 ^ 14 + b2n lt.dst * 2 ^ 31)]
      ++ s.almOut 0x208 (65536 * lt.minute) ++ s.almOut 0x209 (65536 * wd)
  let mon0 := wd == 0 && lt.minute == 0
  let rates : List Staged := if mon0 && !s.alm.hid.mon0 then [.saveRates] else []
  let z := (List.range 64).foldl (s.evalZone lt) ⟨l0, [], s.alm.hid, 0⟩
  let g := s.evalStages z.demand
  let before := z.staged ++ g.1
  let r := (List.range 256).foldl s.evalRule before
  (r ++ rates, { z.hid with stageCnt := g.2, minute := lt.minute, mon0 := mon0,
                            ovr := ovrRestart (r.drop before.length) z.hid.ovr })

/-- ALMANAC_EVALUATION_START (R50, R371); in HOT the Almanac stands (R522).
(DEDUCED, log entry 20, safe.) -/
def execAlmanacEvaluationStart (s : State) : Result :=
  .next (if s.alm.due && s.alm.armed && !s.alm.running && s.active && !s.hot && s.on F.ALM_CTL_RUN then
    { s with alm := { s.alm with due := false, armed := false, running := true, finished := false } }
  else s)

/-- ALMANAC_EVALUATION_END: the staged writes stand ready for the tick (R50, R371, R372).
(DEDUCED, log entry 68, unsafe.) -/
def execAlmanacEvaluationEnd (s : State) : Result :=
  .next (if s.alm.running && !s.alm.finished then
    let r := s.evaluate
    let s := { s with freeCount := s.freeCount + 128,
                      alm := { s.alm with finished := true, staged := r.1, next := r.2 } }
    s.setF F.ALM_STAT_COST s.almCost
  else s)

/-! ### The structural check (R373) -/

/-- A date code names a date; with `yearly` the year does not matter. -/
def dateOk (c : Nat) (yearly : Bool) : Bool :=
  let m := getBits c 5 4
  let d := c % 32
  decide (1 ≤ m) && decide (m ≤ 12) && decide (1 ≤ d)
    && decide (d ≤ monthDays (if yearly then 2000 else 2000 + c / 512) m)

/-- The conditions on exception entry `x` that fail. -/
def State.excBad (s : State) (x : Nat) : List (List Nat) :=
  let a := 0x26400 + 16 * x
  let ctl := s.mw (a + 8)
  let k := if bit ctl 4 then 512 else 65536
  if !bit ctl 31 then []
  else failing [(0, dateOk (s.mw a % 65536) (bit ctl 4)), (1, dateOk (s.mw a / 65536) (bit ctl 4)),
    (2, decide (s.mw a % 65536 % k ≤ s.mw a / 65536 % k))]

/-- The conditions on switch point `k` of program `p` that fail. -/
def State.switchBad (s : State) (p k : Nat) : List (List Nat) :=
  let w := s.mw (0x24400 + 0x100 * p + 0x20 + 4 * k)
  if !bit w 31 then [] else failing [(0, getBits w 12 2 != 3), (1, decide (w % 2048 ≤ 1439))]

/-- A status item of R338. -/
def statusItemOk (k : Nat) : Bool := decide (k < 6) || (decide (8 ≤ k) && decide (k < 22) && k != 14 && k != 15) || k == 24

/-- The conditions on the words of Catalogue entry `p`, used or not, that fail: TYPE, source KIND, and the fields that a
KIND bounds (R337, R338, R361).
(DEDUCED, log entry 118, unsafe.) -/
def State.entryBad (s : State) (p : Nat) : List (List Nat) :=
  let w := s.ptSrc p
  let node := getBits w 16 7
  failing [(0, decide (s.ptType p ≤ 4)), (1, decide (w / 2 ^ 28 ≤ 7)), (2, match w / 2 ^ 28 with
    | 4 => decide (1 ≤ node) && decide (node ≤ 126)
    | 6 => decide (w % 1024 < 0x20A) || decide (0x300 ≤ w % 1024)
    | 7 => statusItemOk (w % 256)
    | _ => true)]

/-- Two used points name one Almanac output or one loop slot. -/
def srcClash (v w : Nat) : Bool :=
  v / 2 ^ 28 == w / 2 ^ 28
    && ((v / 2 ^ 28 == 5 && v % 512 == w % 512) || (v / 2 ^ 28 == 6 && v % 1024 == w % 1024))

/-- A used KIND 0x5 point names a slot whose DEST is that point. -/
def State.loopPtOk (s : State) (p : Nat) : Bool :=
  s.ptKind p != 5 || s.ld (s.ptSrc p % 512) 0x30 == 3 * 2 ^ 28 + p

/-- A loop whose DEST is a Catalogue point has that point for its own. -/
def State.destOk (s : State) (i : Nat) : Bool :=
  let w := s.ld i 0x30
  w / 2 ^ 28 != 3 || (s.ptKind (w % 4096) == 5 && s.ptSrc (w % 4096) % 512 == i)

/-- The conditions on zone record `z`, enabled or not, that fail. -/
def State.zoneBad (s : State) (z : Nat) : List (List Nat) :=
  within 0 (withinEach 4 (fun k => match s.zslot z k with
    | none => []
    | some i => failing [(0, s.loopEn i && !s.loopHyst i),
      (1, decide (2 ≤ k) || s.ld i 0xC / 2 ^ 28 == 2 || s.ld i 0xC / 2 ^ 28 == 3)]))
  ++ within 1 (failing [(0, decide (s.zw z 0x14 / 65536 ≤ 1440)), (1, decide (0 ≤ s.zi z 0x2C)),
    (2, decide (s.zi z 0x1C ≤ s.zi z 0x20)), (3, decide (s.zi z 0x24 ≤ s.zi z 0x28)), (4, decide (0 ≤ s.zi z 0x50)),
    (5, decide (s.zw z 0x10 / 65536 ≤ 255))])

/-- The slots that the zones name, each with its zone, under the number of its zone and loop. -/
def State.zoneSlots (s : State) : List (Nat × Nat × Nat) :=
  (List.range 256).filterMap (fun n => (s.zslot (n / 4) (n % 4)).map (fun i => (n, n / 4, i)))

/-- The conditions on rule `r`, enabled or not, that fail: OP of a used comparison, ACT, and the target of SET. -/
def State.ruleBad (s : State) (r : Nat) : List (List Nat) :=
  let a := ruleAddr r
  let w := s.mw (a + 0x24)
  within 0 (withinEach 4 (fun c =>
    let l := s.mw (a + 4 + 8 * c)
    failing [(0, getBits l 12 2 == 0 || decide (getBits l 16 3 ≤ 5))]))
  ++ within 1 (failing [(0, decide (w % 16 ≤ 6)), (1, w % 16 != 1 || s.ptKind (getBits w 16 12) == 0)])

/-- The conditions on stage `k` that fail; a stage that is not enabled needs no chain. Condition 2 + `j` is the drive
that it shares with stage `j`.
(DEDUCED, log entry 118, unsafe.) -/
def State.stageBad (s : State) (k : Nat) : List (List Nat) :=
  let ctl := s.mw (stageAddr k)
  let en := bit ctl 0
  failing ([(0, !en || s.chained (getBits ctl 1 3)), (1, decide (s.mi (stageAddr k + 4) ≤ s.mi (stageAddr k + 8)))]
    ++ (List.range k).map (fun j => (2 + j, !en || !bit (s.mw (stageAddr j)) 0
      || getBits (s.mw (stageAddr j)) 1 3 != getBits ctl 1 3)))

/-- The conditions on ALM_DST that fail; a rule that is not in use names nothing.
(DEDUCED, log entry 118, unsafe.) -/
def dstBad (w : Nat) : List (List Nat) :=
  let mo := fun x => decide (1 ≤ x) && decide (x ≤ 12)
  let wk := fun x => decide (1 ≤ x) && decide (x ≤ 5)
  if !bit w 31 then []
  else failing [(0, mo (w % 16)), (1, mo (getBits w 12 4)), (2, wk (getBits w 4 3)), (3, wk (getBits w 16 3)),
    (4, decide (getBits w 7 5 ≤ 23)), (5, decide (getBits w 19 5 ≤ 23))]

/-- The conditions of the ALM section that fail (R373). -/
def State.almBad (s : State) : List (List Nat) :=
  within 0 ((s.mem.filterMap (fun c => if c.1 < 0x20000 ∧ (c.1 % 32 = 2 ∨ c.1 % 32 = 7) then some (c.1 / 32) else none)).flatMap
      (fun p => within p (s.entryBad p)))
    ++ within 1 (pairsBad srcClash (s.usedPts.map (fun p => (p, s.ptSrc p))))
    ++ within 2 (failing (s.usedPts.map (fun p => (p, s.loopPtOk p))))
    ++ within 3 (failing (s.enabledSlots.map (fun i => (i, s.destOk i))))
    ++ within 4 (withinEach 64 s.zoneBad) ++ within 5 (pairsBad (fun v w => v.1 != w.1 && v.2 == w.2) s.zoneSlots)
    ++ within 6 (withinEach 32 (fun p => withinEach 56 (s.switchBad p))) ++ within 7 (withinEach 64 s.excBad)
    ++ within 8 (withinEach 256 s.ruleBad) ++ within 9 (withinEach 6 s.stageBad)
    ++ within 10 (dstBad (s.rd (F.ALM_DST_EN).addr)) ++ within 11 (failing [(0, decide (5 * (s.almCost + 16) ≤ 2 * s.nf))])

/-- The structural check of the ALM section. -/
def State.almOk (s : State) : Bool := s.almBad.isEmpty

end Sys2Proof.Machine
end

