-- ==== Sys2Proof/Machine/Can.lean ====
section
/-! DEFINITION. The bus controllers (R375 to R412): start and stop, rate detection, reception, objects and queues,
transmission, cancellation, error confinement and the node alone on the bus. -/

namespace Sys2Proof.Machine

/-! ### Words of a controller -/

/-- What no register of controller `c` holds. -/
def State.cc (s : State) (c : Nat) : CanCtl := s.can.getD c .reset

/-- The state with controller `c` changed. -/
def State.setCc (s : State) (c : Nat) (f : CanCtl → CanCtl) : State := { s with can := updAt s.can c f }

/-- Address of word `o` of object `n` (R386). -/
def objAddr (c n o : Nat) : Nat := 0x40071000 + 0x8000 * c + 0x50 * n + o

/-- Address of word `o` of entry `e` of queue `q` (R386). -/
def qAddr (c q e o : Nat) : Nat := 0x40074000 + 0x8000 * c + 0x1400 * q + 0x50 * e + o

/-- Word `o` of object `n`. -/
def State.ob (s : State) (c n o : Nat) : Nat := s.rd (objAddr c n o)

/-- Object `n` is pending or committed. -/
def State.isPend (s : State) (c n : Nat) : Bool := bit (s.f (F.CAN_TXPEND c (n / 32))) (n % 32)

/-- Object `n` is parked. -/
def State.isPark (s : State) (c n : Nat) : Bool := bit (s.f (F.CAN_TXPARK c (n / 32))) (n % 32)

/-- Object `n` is pending, committed or parked. -/
def State.objBusy (s : State) (c n : Nat) : Bool := s.isPend c n || s.isPark c n

/-- Object `n` is a receive object in use. -/
def State.rxObj (s : State) (c n : Nat) : Bool := getBits (s.ob c n 4) 8 2 == 2

/-- Object `n` is enabled for transmission. -/
def State.txObj (s : State) (c n : Nat) : Bool := getBits (s.ob c n 4) 8 2 == 3

/-- FDF of object `n`. -/
def State.objFd (s : State) (c n : Nat) : Bool := bit (s.ob c n 4) 4

/-- STATE of controller `c`. -/
def State.canState (s : State) (c : Nat) : Nat := s.f (F.CAN_STAT_STATE c)

/-- The controller is only listening (R381). -/
def State.canListens (s : State) (c : Nat) : Bool := s.canState c == 1 || s.on (F.CAN_CTL_LOM c)

/-- The controller is on the bus and may drive it. -/
def State.canDrives (s : State) (c : Nat) : Bool := s.canState c == 3 && !s.canListens c

/-- A controller may run: the unit is ACTIVE or RESTORING (R377), and not in HOT (R522). -/
def State.canMayRun (s : State) : Bool := s.unitKnown && (s.unitCode == 0 || s.unitCode == 2) && !s.hot

/-- LISTEN follows STATE and LOM. -/
def State.canSetState (s : State) (c st : Nat) : State :=
  let s := s.setF (F.CAN_STAT_STATE c) st
  s.setB (F.CAN_STAT_LISTEN c) (st == 1 || (s.on (F.CAN_CTL_LOM c) && (st == 2 || st == 3)))

/-! ### Cancellation (R397 to R399) -/

/-- Object `n` leaves the pending and the parked set, and the flags `m` of its STAT are set. -/
def State.objEnd (s : State) (c n m : Nat) : State :=
  let s := s.setCc c (fun x => { x with probes := x.probes.filter (· != n) })
  let s := s.clrBit (F.CAN_TXPEND c (n / 32)) (n % 32)
  let s := s.clrBit (F.CAN_TXPARK c (n / 32)) (n % 32)
  s.wr (objAddr c n 8) (orN (s.ob c n 8) m)

/-- Object `n` ends CANCELLED. -/
def State.objCancel (s : State) (c n : Nat) : State := (s.objEnd c n 2).setF (F.CAN_IRQST_TXEND c) 1

/-- A cancellation request of object `n` is taken (R397, R398). -/
def State.cancelNow (s : State) (c n : Nat) : State :=
  if !s.objBusy c n then s
  else if (s.cc c).committed == some n then s.setCc c (fun x => { x with held := true })
  else s.objCancel c n

/-- Object `n` is parked (R404).
(DEDUCED, log entry 72, unsafe.) -/
def State.objPark (s : State) (c n : Nat) : State :=
  let s := s.setCc c (fun x => { x with probes := x.probes.filter (· != n) })
  let s := s.clrBit (F.CAN_TXPEND c (n / 32)) (n % 32)
  let s := s.setBit (F.CAN_TXPARK c (n / 32)) (n % 32)
  let s := s.wr (objAddr c n 8) (orN (s.ob c n 8) 8)
  if s.on (F.CAN_STAT_ALONE c) then s
  else ((s.setF (F.CAN_STAT_ALONE c) 1).setF (F.CAN_IRQST_ALONE c) 1).ledger (120 + 16 * c)

/-- The committed object ends without success: it is cancelled, or returns to pending (R396, R398). A probe has had its one
attempt and is parked again (R405).
(DEDUCED, log entry 121, unsafe.) -/
def State.uncommit (s : State) (c : Nat) : State :=
  match (s.cc c).committed with
  | none => s
  | some n =>
    let h := (s.cc c).held
    let s := s.setCc c (fun x => { x with committed := none, held := false })
    if h then s.objCancel c n else if (s.cc c).probes.contains n then s.objPark c n else s

/-- A cancellation of object `n` is requested: taken at the next sample point, or at once off the bus (R397). -/
def State.cancelReq (s : State) (c n : Nat) : State :=
  if s.canDrives c then
    if s.objBusy c n && !(s.cc c).cancels.contains n then s.setCc c (fun x => { x with cancels := x.cancels ++ [n] })
    else s
  else s.cancelNow c n

/-- The controller is no longer on the bus: what was committed returns to pending and every request is taken. -/
def State.canOff (s : State) (c : Nat) : State :=
  let s := s.uncommit c
  let l := (s.cc c).cancels
  (s.setCc c (fun x => { x with cancels := [] })).each l (fun t n => t.cancelNow c n)

/-- FDTX written 0: every FD object that is pending or parked is cancelled, a committed one as R398 gives (R399). -/
def State.fdOff (s : State) (c : Nat) : State :=
  s.each ((List.range 128).filter (fun n => s.objBusy c n && s.objFd c n)) (fun t n =>
    let t := t.cancelNow c n
    t.wr (objAddr c n 8) (orN (t.ob c n 8) 16))

/-! ### Start and stop (R377, R378, R382) -/

/-- The controller becomes disabled.
(DEDUCED, log entry 72, unsafe.) -/
def State.canStop (s : State) (c : Nat) : State :=
  if s.canState c = 0 then s
  else ((s.canOff c).setCc c (fun x => { x with stopping := false, recover := false })).canSetState c 0

/-- The controller detects rates, or goes on to join the bus: by integrating, or by the recovery that waits (R382, R402). -/
def State.canJoin (s : State) (c : Nat) (detect : Bool) : State :=
  if detect then s.canSetState c 1
  else if (s.cc c).recover then (s.setCc c (fun x => { x with recover := false })).canSetState c 5
  else s.canSetState c 2

/-- The controller starts from disabled, when it may run; a recovery that waits begins at once where no detection comes
first.
(DEDUCED, log entry 120, unsafe.) -/
def State.canStart (s : State) (c : Nat) : State :=
  if s.canState c = 0 ∧ s.canMayRun ∧ s.on (F.CAN_CTL_EN c) then
    (s.setCc c (fun x => { x with fresh := true })).canJoin c (s.on (F.CAN_CTL_AUTO c))
  else s

/-- What follows a write of CAN_CTL; `busy`: a frame is in progress on the bus (R378, R399). -/
def State.canCtlWritten (s : State) (c : Nat) (busy : Bool) : State :=
  let s := if s.on (F.CAN_CTL_FDTX c) then s else s.fdOff c
  if s.on (F.CAN_CTL_EN c) then (s.setCc c (fun x => { x with stopping := false })).canStart c
  else if s.canDrives c ∧ (busy ∨ (s.cc c).committed ≠ none) then
    s.setCc c (fun x => { x with stopping := true })
  else s.canStop c

/-- A frame or error frame has ended: a stop that waited for it comes about. -/
def State.canFrameEnd (s : State) (c : Nat) : State := if (s.cc c).stopping then s.canStop c else s

/-! ### Error confinement (R400 to R402) -/

/-- New error counters; WARN, ERRST and what a change of it brings.
(PRESUMED, log entry 69, unsafe.) -/
def State.canErr (s : State) (c tec rec : Nat) : State :=
  let old := s.f (F.CAN_STAT_ERRST c)
  let st := if 255 < tec then 2 else if 127 < tec ∨ 127 < rec then 1 else 0
  let s := (s.setF (F.CAN_ERRCNT_TEC c) (min tec 256)).setF (F.CAN_ERRCNT_REC c) (min rec 255)
  let s := s.setB (F.CAN_STAT_WARN c) (decide (96 ≤ tec) || decide (96 ≤ rec))
  let s := if st = old then s else (s.setF (F.CAN_STAT_ERRST c) st).setF (F.CAN_IRQST_ERRST c) 1
  if st = 2 ∧ old ≠ 2 then
    let s := (s.count (F.CAN_BUSOFFCNT c) (116 + 16 * c)).setF (F.CAN_IRQST_BUSOFF c) 1
    ((s.canOff c).canSetState c 4).failSource (2 + c)
  else s

/-- TEC. -/
def State.tec (s : State) (c : Nat) : Nat := s.f (F.CAN_ERRCNT_TEC c)

/-- REC. -/
def State.recErr (s : State) (c : Nat) : Nat := s.f (F.CAN_ERRCNT_REC c)

/-- TEC and REC are raised by these amounts (source 119).
(PRESUMED, log entry 69, unsafe.) -/
def State.canRaise (s : State) (c dt dr : Nat) : State :=
  if dt = 0 ∧ dr = 0 then s else (s.ledger (119 + 16 * c)).canErr c (s.tec c + dt) (s.recErr c + dr)

/-- A write of CAN_RECOVER.GO (R402); the flag is false where it is discarded. In a controller that is disabled or detects
rates the recovery waits until it joins the bus.
(DEDUCED, log entry 120, unsafe.) -/
def State.canRecover (s : State) (c : Nat) : State × Bool :=
  let st := s.canState c
  if s.f (F.CAN_STAT_ERRST c) ≠ 2 ∨ st = 5 ∨ (s.cc c).recover then (s, false)
  else if st = 0 ∨ st = 1 then (s.setCc c (fun x => { x with recover := true }), true)
  else (s.canSetState c 5, true)

/-! ### Transmission (R393 to R396, R404 to R406) -/

/-- Arbitration key of object `n` (R394). -/
def State.objKey (s : State) (c n : Nat) : Nat :=
  let w := s.ob c n 0
  let rtr := if s.objFd c n then 0 else b2n (bit w 30)
  if bit w 29 then getBits w 18 11 * 2 ^ 21 + 2 ^ 20 + 2 ^ 19 + w % 2 ^ 18 * 2 + rtr
  else w % 2048 * 2 ^ 21 + rtr * 2 ^ 20

/-- The object of a list with the lowest key; the lower number wins among equals. -/
def State.lowestKey (s : State) (c : Nat) (l : List Nat) : Option Nat :=
  l.foldl (fun b n => match b with
    | none => some n
    | some m => if s.objKey c n < s.objKey c m then some n else some m) none

/-- The request of object `n` would be discarded (R393, R392). -/
def State.txReqBad (s : State) (c n : Nat) (zp : Bool) : Bool :=
  !s.txObj c n || (s.objFd c n && !(s.on (F.CAN_CTL_FDOE c) && s.on (F.CAN_CTL_FDTX c)))
    || (decide (n < s.f (F.CAN_CTL_ZPTX c)) && !zp)

/-- Object `n` becomes pending; its flags and counts are cleared (R393). -/
def State.txReq (s : State) (c n : Nat) : State :=
  if s.objBusy c n then s
  else
    let s := s.setBit (F.CAN_TXPEND c (n / 32)) (n % 32)
    s.wr (objAddr c n 8) (andN (s.ob c n 8) 8)

/-- The objects that the bits of word `k` name. -/
def wordObjs (k w : Nat) : List Nat := (bitsOf w 32).map (fun b => 32 * k + b)

/-- A write of CAN_TXREQk. -/
def State.txReqWrite (s : State) (c k w : Nat) : State × Bool :=
  if (wordObjs k w).any (fun n => s.txReqBad c n false) then (s, false)
  else (s.each (wordObjs k w) (·.txReq c ·), true)

/-- A write of CAN_TXCANk; objects of the Zone Protocol layer are not a master's to cancel (R392).
(DEDUCED, log entry 46, unsafe.) -/
def State.txCanWrite (s : State) (c k w : Nat) : State × Bool :=
  if (wordObjs k w).any (fun n => decide (n < s.f (F.CAN_CTL_ZPTX c))) then (s, false)
  else (s.each (wordObjs k w) (·.cancelReq c ·), true)

/-- A frame that the controller sends has been acknowledged (R406). -/
def State.acknowledged (s : State) (c : Nat) : State :=
  let s := (s.setF (F.CAN_STAT_ALONE c) 0).setCc c (fun x => { x with probes := [] })
  s.each [0, 1, 2, 3] (fun t k =>
    (t.orF (F.CAN_TXPEND c k) (t.f (F.CAN_TXPARK c k))).setF (F.CAN_TXPARK c k) 0)

/-- NACK of object `n` set. -/
def State.setNack (s : State) (c n v : Nat) : State := s.wr (objAddr c n 8) (setBits (s.ob c n 8) 16 8 (min v 255))

/-- ATTEMPTS of object `n` counts one more. -/
def State.attempt (s : State) (c n : Nat) : State :=
  s.wr (objAddr c n 8) (setBits (s.ob c n 8) 8 8 (min (getBits (s.ob c n 8) 8 8 + 1) 255))

/-- The transmitter delay `v` was measured in a frame with BRS (R380). -/
def State.tdcMeasured (s : State) (c n v : Nat) : State :=
  if s.on (F.CAN_TDC_TDCEN c) && s.objFd c n && bit (s.ob c n 4) 5 then
    (s.setF (F.CAN_TDC_TDCV c) (min v 127)).cond (decide (127 < v)) (·.setF (F.CAN_STAT_TDCSAT c) 1)
  else s

/-- The committed object `n` meets an error; `dt` is what TEC gains (R396, R398, R400, R404). -/
def State.txError (s : State) (c n : Nat) (kind : BusErrKind) : State :=
  let s := s.attempt c n
  let held := (s.cc c).held
  match kind with
  | .ack quiet =>
    let nack := getBits (s.ob c n 8) 16 8 + 1
    let s := s.setNack c n nack
    let park := s.on (F.CAN_STAT_ALONE c) || decide (max (s.f (F.CAN_CTL_ALONETH c)) 1 ≤ nack)
    let passive := s.f (F.CAN_STAT_ERRST c) == 1
    let s := s.uncommit c
    let s := s.cond (park && !held) (·.objPark c n)
    s.canRaise c (if passive && quiet then 0 else 8) 0
  | .transmitter acked =>
    let s := if acked then ((s.setNack c n 0).acknowledged c) else s
    let s := s.uncommit c
    s.canRaise c 8 0
  | _ => s.uncommit c

/-! ### Reception (R388 to R390) -/

/-- ID word of a frame. -/
def frameId (f : CanFrame) : Nat := f.id.toNat + b2n f.ide * 2 ^ 29 + b2n f.rtr * 2 ^ 30

/-- CTL word of a frame. -/
def frameCtl (f : CanFrame) : Nat := f.dlc.toNat + b2n f.fdf * 16 + b2n f.brs * 32 + b2n f.esi * 64

/-- The state with ID, CTL, STAMP and DATA of a frame written at `a`; `keep` are CTL bits that stay. -/
def State.storeFrame (s : State) (a keep stamp : Nat) (f : CanFrame) : State :=
  let s := (s.wr a (frameId f)).wr (a + 4) (orN keep (frameCtl f))
  let s := s.wr (a + 12) stamp
  s.each (List.range 16) (fun t k => t.wr (a + 16 + 4 * k) (leNat ((f.data.drop (4 * k)).take 4)))

/-- STAMP word of a frame whose SOF came `ago` frames ago at position `pos`.
(DEDUCED, log entry 71, safe.) -/
def State.stamp (s : State) (ago pos : Nat) : Nat := (s.frame + 65536 - ago) % 65536 * 65536 + pos

/-- The enabled receive object that takes a frame (R388). -/
def State.rxMatch (s : State) (c : Nat) (f : CanFrame) : Option Nat :=
  (List.range 128).find? (fun n => s.rxObj c n && s.ob c n 0 % 2 ^ 30 == frameId f % 2 ^ 30)

/-- Filter pair `k` matches a frame (R388). -/
def State.filterHit (s : State) (c k : Nat) (f : CanFrame) : Bool :=
  let m := s.rd (F.CAN_F_MATCH_ID c k).addr
  let mask := s.rd (F.CAN_F_MASK_IDM c k).addr
  mask / 2 ^ 30 != 0 && andN (Nat.xor (frameId f) m) (mask % 2 ^ 30 + 2 ^ 30) == 0

/-- Ownership of entry `e` of queue `q`. -/
def State.qOwned (s : State) (c q e : Nat) : Bool :=
  if e < 32 then bit (s.f (F.CAN_Q_OWN0 c q)) e else bit (s.f (F.CAN_Q_OWN1 c q)) (e - 32)

/-- The state with the ownership of an entry set. -/
def State.setOwned (s : State) (c q e : Nat) (b : Bool) : State :=
  let x := if e < 32 then F.CAN_Q_OWN0 c q else F.CAN_Q_OWN1 c q
  let s := if b then s.setBit x (e % 32) else s.clrBit x (e % 32)
  s.setF (F.CAN_Q_STAT_NOWNED c q) ((List.range 64).filter (s.qOwned c q)).length

/-- A frame goes to queue `q` (R390).
(DEDUCED, log entry 76, safe.) -/
def State.enqueue (s : State) (c q flt stamp : Nat) (f : CanFrame) : State :=
  let w := s.f (F.CAN_Q_STAT_WIDX c q)
  match ((List.range 64).map (fun k => (w + k) % 64)).find? (fun e => !s.qOwned c q e) with
  | none =>
    let own := s.on (if q = 0 then F.CAN_CTL_Q0OWN c else F.CAN_CTL_Q1OWN c)
    let s := if own then s.setCc c (fun x => { x with drops := x.drops ++ [s.f (F.CAN_Q_STAT_ARRSEQ c q)] }) else s
    (s.count (if q = 0 then F.CAN_Q0DROPCNT c else F.CAN_Q1DROPCNT c) (112 + 16 * c + q)).setF (F.CAN_IRQST_QDROP c) 1
  | some e =>
    let n := s.f (F.CAN_Q_STAT_ARRSEQ c q)
    let s := s.storeFrame (qAddr c q e 0) 0 stamp f
    let s := s.wr (qAddr c q e 8) (n + 65536 * flt)
    let s := (s.setF (F.CAN_Q_STAT_ARRSEQ c q) (n + 1)).setF (F.CAN_Q_STAT_WIDX c q) (e + 1)
    (s.setOwned c q e true).setF (if q = 0 then F.CAN_IRQST_Q0 c else F.CAN_IRQST_Q1 c) 1

/-- An acknowledgement of entry `e` (R391); the flag is false where it is discarded. -/
def State.ackEntry (s : State) (c q e : Nat) (zp : Bool) : State × Bool :=
  let own := s.on (if q = 0 then F.CAN_CTL_Q0OWN c else F.CAN_CTL_Q1OWN c)
  if !s.qOwned c q e || (own && !zp) then (s, false) else (s.setOwned c q e false, true)

/-- Receive object `n` takes a frame (R389). -/
def State.takeFrame (s : State) (c n stamp : Nat) (f : CanFrame) : State :=
  let st := s.ob c n 8
  let s := s.storeFrame (objAddr c n 0) (andN (s.ob c n 4) 0x300) stamp f
  let s := if bit st 0 then (s.count (F.CAN_OVWCNT c) (114 + 16 * c)) else s
  let st := setBits (setBits st 8 8 (getBits st 8 8 + 1)) 1 1 (b2n (bit st 0 || bit st 1))
  (s.wr (objAddr c n 8) (setBits st 0 1 1)).setF (F.CAN_IRQST_RXOBJ c) 1

/-- A valid frame finds its object, its queue, or nothing (R388). -/
def State.deliver (s : State) (c stamp : Nat) (f : CanFrame) : State :=
  match s.rxMatch c f with
  | some n => s.takeFrame c n stamp f
  | none =>
    match (List.range 64).find? (fun k => s.filterHit c k f) with
    | none => s.count (F.CAN_NOMATCHCNT c) (115 + 16 * c)
    | some k =>
      match s.f (F.CAN_F_MASK_ACTION c k) with
      | 1 => s.enqueue c 0 k stamp f
      | 2 => s.enqueue c 1 k stamp f
      | _ => s

/-- The receive error counter after a frame received without error, as ISO 11898-1 gives it: a value from 119 to 127,
which the manual leaves open, after a value above 127.
(PRESUMED, log entry 69, unsafe; DESIGN CHOICE, log entry 70, safe.) -/
def State.recDown (s : State) (c : Nat) : State :=
  let r := s.recErr c
  if r = 0 then s
  else if r ≤ 127 then s.canErr c (s.tec c) (r - 1)
  else
    let v := s.free
    v.2.canErr c (v.2.tec c) (119 + v.1 % 9)

/-! ### Object words (R387) and the structural check (R408) -/

/-- The objects of controller `c` whose CTL word is listed. -/
def State.listedObjs (s : State) (c : Nat) : List Nat :=
  s.regs.filterMap (fun e =>
    if decide (objAddr c 0 4 ≤ e.1) && decide (e.1 ≤ objAddr c 127 4) && decide ((e.1 - objAddr c 0 4) % 0x50 = 0) then
      some ((e.1 - objAddr c 0 4) / 0x50)
    else none)

/-- Another enabled receive object than `n` holds the identifier word `id`. -/
def State.idTaken (s : State) (c n id : Nat) : Bool :=
  (s.listedObjs c).any (fun k => k != n && s.rxObj c k && s.ob c k 0 % 2 ^ 30 == id % 2 ^ 30)

/-- Object `n` with ID word `id` and CTL word `ctl` breaks R387. -/
def State.objBad (s : State) (c n id ctl : Nat) : Bool :=
  (bit ctl 4 && bit id 30) || (getBits ctl 8 2 == 2 && s.idTaken c n id)

/-- A master write of word `o` (an offset) of object `n` (R387).
(DEDUCED, log entry 46, unsafe.) -/
def State.objWrite (s : State) (c n o w : Nat) : State × Bool :=
  let id := s.ob c n 0
  let ctl := s.ob c n 4
  let tx := bit ctl 8
  let free := if tx then !s.objBusy c n else !bit ctl 9
  if n < s.f (F.CAN_CTL_ZPTX c) then (s, false)
  else if o = 8 then (s.wr (objAddr c n 8) (andNot (s.ob c n 8) (andN w (if tx then 31 else 3))), true)
  else if !free then (s, false)
  else if o = 0 then
    (if s.objBad c n (w % 2 ^ 31) ctl then (s, false) else (s.wr (objAddr c n 0) (w % 2 ^ 31), true))
  else if o = 4 then
    (if s.objBad c n id (andN w 0x37F) then (s, false) else (s.wr (objAddr c n 4) (andN w 0x37F), true))
  else if 16 ≤ o ∧ tx then (s.wr (objAddr c n o) w, true)
  else (s, false)

/-- The conditions of R379 and R408 on the bit timing that fail. -/
def State.canTimingBad (s : State) (c : Nat) : List (List Nat) :=
  let brp := s.f (F.CAN_NBT_NBRP c) + 1
  let t1 := s.f (F.CAN_NBT_NTSEG1 c) + 1
  let t2 := s.f (F.CAN_NBT_NTSEG2 c) + 1
  let dbrp := s.f (F.CAN_DBT_DBRP c) + 1
  let d1 := s.f (F.CAN_DBT_DTSEG1 c) + 1
  let d2 := s.f (F.CAN_DBT_DTSEG2 c) + 1
  let nom := brp * (1 + t1 + t2)
  let dat := dbrp * (1 + d1 + d2)
  failing [(0, decide (2 ≤ t1)), (1, decide (2 ≤ d1)), (2, decide (s.f (F.CAN_NBT_NSJW c) + 1 ≤ t2)),
    (3, decide (s.f (F.CAN_DBT_DSJW c) + 1 ≤ d2)), (4, decide (80 ≤ nom)), (5, decide (nom ≤ 8000)),
    (6, decide (10 ≤ dat)), (7, decide (dat ≤ nom))]

/-- The conditions on object `n` alone that fail. -/
def State.objAloneBad (s : State) (c n : Nat) : List (List Nat) :=
  failing [(0, !(s.objFd c n && bit (s.ob c n 0) 30)),
    (1, !(s.txObj c n && s.objFd c n && !s.on (F.CAN_CTL_FDOE c)))]

/-- Filter pair `k` has no bit of MATCH outside MASK. -/
def State.filterOk (s : State) (c k : Nat) : Bool :=
  let mask := s.rd (F.CAN_F_MASK_IDM c k).addr
  mask / 2 ^ 30 == 0 || andNot (s.rd (F.CAN_F_MATCH_ID c k).addr % 2 ^ 30) (mask % 2 ^ 30) == 0

/-- The conditions of a CAN section that fail (R408); `zp`: the image has a ZP section. -/
def State.canBad (s : State) (c : Nat) (zp : Bool) : List (List Nat) :=
  let l := s.listedObjs c
  within 0 (s.canTimingBad c) ++ within 1 (l.flatMap (fun n => within n (s.objAloneBad c n)))
    ++ within 2 (pairsBad (· == ·) ((l.filter (s.rxObj c)).map (fun n => (n, s.ob c n 0 % 2 ^ 30))))
    ++ within 3 (failing ((List.range 64).map (fun k => (k, s.filterOk c k))))
    ++ within 4 (failing [(0, zp || !s.on (F.CAN_CTL_Q0OWN c)), (1, zp || !s.on (F.CAN_CTL_Q1OWN c)),
      (2, zp || s.f (F.CAN_CTL_ZPTX c) == 0)])

/-- The structural check of a CAN section. -/
def State.canOk (s : State) (c : Nat) (zp : Bool) : Bool := (s.canBad c zp).isEmpty

/-! ### The events of a controller -/

/-- RATE_DETECTION_DONE (R382). An NRATE of 0 is a detection that goes on: it has only counted rounds so far.
(DEDUCED, log entry 73, unsafe.) -/
def execRateDetectionDone (c : Fin 2) (nrate drate : BitVec 4) (rounds : BitVec 16) (s : State) : Result :=
  if !ratesWf nrate.toNat drate.toNat then .refused .illFormed
  else .next (if s.canState c = 1 ∧ nrate = 0 then s.add (F.CAN_ADSTAT_ROUNDS c) rounds.toNat
  else if s.canState c = 1 then
    let nr := nrate.toNat
    let dr := if s.on (F.CAN_CTL_FDOE c) && s.f (F.CAN_ADCFG_DWAIT c) != 0 then drate.toNat else 0
    let nbt := [0, 0x09094400, 0x0C0C5500, 0x09094401, 0x09094403, 0x09094407, 0x09094409, 0x0909440B, 0x09094413,
      0x09094431, 0x09094463].getD nr 0
    let dbt := [0, 0x09091C01, 0x09091C00, 0x04040D00, 0x03030A00, 0x02020500].getD dr 0
    let tdco := [0, 0, 30, 15, 12, 7].getD dr 0
    let s := s.wr (F.CAN_NBT_NBRP c).addr nbt
    let s := if dr = 0 then s else
      let s := (s.wr (F.CAN_DBT_DBRP c).addr dbt).setB (F.CAN_TDC_TDCEN c) (decide (2 ≤ dr))
      if dr = 1 then s else s.setF (F.CAN_TDC_TDCO c) tdco
    let s := (s.setF (F.CAN_ADSTAT_NRATE c) nr).setF (F.CAN_ADSTAT_DRATE c) dr
    ((s.add (F.CAN_ADSTAT_ROUNDS c) rounds.toNat).setF (F.CAN_IRQST_DET c) 1).canJoin c false
  else s)

/-- FRAME_RECEIVED (R385, R388 to R390, R400). -/
def execFrameReceived (c : Fin 2) (f : CanFrame) (ago pos : BitVec 16) (s : State) : Result :=
  if !f.wf then .refused .illFormed
  else .next (if (s.canState c = 1 ∨ s.canState c = 3) ∧ (s.cc c).committed = none ∧ (!f.fdf || s.on (F.CAN_CTL_FDOE c))
    then
      let listens := s.canListens c
      let s := (s.ledger (121 + 16 * c)).deliver c (s.stamp ago.toNat pos.toNat) f
      (if listens then s else s.recDown c).canFrameEnd c
    else s)

/-- CANCEL_TAKEN (R397, R398). -/
def execCancelTaken (c : Fin 2) (n : Fin 128) (s : State) : Result :=
  .next (if (s.cc c).cancels.contains n.val then
    (s.setCc c (fun x => { x with cancels := x.cancels.filter (· != n.val) })).cancelNow c n
  else s)

/-- TRANSMIT_COMMIT (R395), from the first tick on: until then CANn_TX stays recessive (R64). -/
def execTransmitCommit (c : Fin 2) (s : State) : Result :=
  .next (if s.boot.ticked ∧ s.canDrives c ∧ (s.cc c).committed = none ∧ !(s.cc c).stopping then
    match s.lowestKey c ((List.range 128).filter (s.isPend c)) with
    | some n => s.setCc c (fun x => { x with committed := some n, held := false })
    | none => s
  else s)

/-- ARBITRATION_LOST (R396, R398). -/
def execArbitrationLost (c : Fin 2) (s : State) : Result :=
  .next (match (s.cc c).committed with
    | some n => (s.attempt c n).uncommit c
    | none => s)

/-- ESI of an FD frame that controller `c` sends (R409). -/
def State.esi (s : State) (c : Nat) : Bool := s.f (F.CAN_STAT_ERRST c) == 1

/-- Object `n` as the frame that the bus carries (R386, R409). -/
def State.sentFrame (s : State) (c n : Nat) : CanFrame :=
  let w := s.ob c n 0
  let ctl := s.ob c n 4
  let fd := bit ctl 4
  let rtr := !fd && bit w 30
  { ide := bit w 29, id := BitVec.ofNat 29 (if bit w 29 then w % 2 ^ 29 else w % 2048), rtr := rtr, fdf := fd
    brs := fd && bit ctl 5, esi := fd && s.esi c, dlc := BitVec.ofNat 4 ctl
    data := (List.range (if rtr then 0 else dlcBytes fd (ctl % 16))).map (fun k =>
      BitVec.ofNat 8 (getBits (s.ob c n (16 + k / 4 * 4)) (8 * (k % 4)) 8)) }

/-- TRANSMIT_SUCCESS (R380, R396, R398, R406, R409).
(PRESUMED, log entry 69, unsafe.) -/
def execTransmitSuccess (c : Fin 2) (ago pos : BitVec 16) (tdc : BitVec 8) (s : State) : Result :=
  .next (match (s.cc c).committed with
    | none => s
    | some n =>
      let held := (s.cc c).held
      let s := s.setCc c (fun x => { x with sent := x.sent ++ [s.sentFrame c n] })
      let s := (s.tdcMeasured c n tdc.toNat).wr (objAddr c n 12) (s.stamp ago.toNat pos.toNat)
      let s := s.setNack c n 0
      let s := s.setCc c (fun x => { x with committed := none, held := false })
      let s := (s.objEnd c n (if held then 5 else 1)).setF (F.CAN_IRQST_TXDONE c) 1
      let s := if held then (s.count (F.CAN_LATECNT c) (118 + 16 * c)).setF (F.CAN_IRQST_TXEND c) 1 else s
      let s := (s.ledger (122 + 16 * c)).acknowledged c
      (s.canErr c (s.tec c - 1) (s.recErr c)).canFrameEnd c)

/-- BUS_ERROR (R381, R396, R398, R400, R401, R404).
(PRESUMED, log entry 69, unsafe.) -/
def execBusError (c : Fin 2) (e : BusErr) (s : State) : Result :=
  .next (if s.canState c = 1 then s.canFrameEnd c
    else if s.canState c ≠ 3 then s
    else if s.canListens c then s.canFrameEnd c
    else
      let com := (s.cc c).committed
      let s := match com, e.tdc with
        | some n, some v => s.tdcMeasured c n v.toNat
        | _, _ => s
      let s := match com, e.kind with
        | some n, .transmitter acked => s.txError c n (.transmitter acked)
        | some n, .ack quiet => s.txError c n (.ack quiet)
        | some n, .stuffArb => s.txError c n .stuffArb
        | none, .receiver => s.canRaise c 0 1
        | none, .receiverHeavy => s.canRaise c 0 8
        | none, .transmitterHeavy => s.canRaise c 8 0
        | _, _ => s
      s.canFrameEnd c)

/-- PROTOCOL_EXCEPTION (R403, R411). -/
def execProtocolException (c : Fin 2) (s : State) : Result :=
  .next (if (s.canState c = 1 ∨ s.canState c = 3) ∧ (s.cc c).committed = none ∧ !s.on (F.CAN_CTL_FDOE c)
      ∧ !s.on (F.CAN_CTL_PXHD c) then
    let s := (s.count (F.CAN_PEXCNT c) (117 + 16 * c)).setF (F.CAN_IRQST_PEX c) 1
    (if s.canState c = 3 then (s.canOff c).canSetState c 2 else s).canFrameEnd c
  else s)

/-- ALONE_PROBE (R405). -/
def execAloneProbe (c : Fin 2) (s : State) : Result :=
  .next (if s.boot.ticked ∧ s.canDrives c ∧ s.on (F.CAN_STAT_ALONE c) ∧ (s.cc c).probeDue ∧ (s.cc c).committed = none then
    let s := s.setCc c (fun x => { x with probeDue := false })
    match s.lowestKey c ((List.range 128).filter (s.isPark c)) with
    | some n =>
      let s := s.setCc c (fun x => { x with probes := x.probes ++ [n] })
      (s.clrBit (F.CAN_TXPARK c (n / 32)) (n % 32)).setBit (F.CAN_TXPEND c (n / 32)) (n % 32)
    | none => s
  else s)

/-- A tick: what has been sent until then has left the list. -/
def State.canTick (s : State) : State := s.each [0, 1] (fun t c => t.setCc c (fun x => { x with sent := [] }))

/-- The controllers' share of an RTC second edge (R405). -/
def State.canSecond (s : State) : State :=
  s.each [0, 1] (fun t c => if t.on (F.CAN_STAT_ALONE c) then t.setCc c (fun x => { x with probeDue := true }) else t)

end Sys2Proof.Machine
end

