-- ==== Sys2Proof/Machine/Crc.lean ====
section
/-! DEFINITION. The check sums: CRC-32 of R87, CRC-64 of R88, CRC-16 of R500. -/

namespace Sys2Proof.Machine

/-- One bit of a reflected CRC with polynomial `p`. -/
def crcRef (p c : Nat) : Nat := if c % 2 = 1 then Nat.xor (c / 2) p else c / 2

/-- One byte of a reflected CRC. -/
def crcRefByte (p c : Nat) (b : Byte) : Nat :=
  crcRef p (crcRef p (crcRef p (crcRef p (crcRef p (crcRef p (crcRef p (crcRef p (Nat.xor c b.toNat))))))))

/-- CRC-32 (R87). -/
def crc32 (l : List Byte) : Nat := Nat.xor (l.foldl (crcRefByte 0xEDB88320) 0xFFFFFFFF) 0xFFFFFFFF

/-- CRC-64 (R88). -/
def crc64 (l : List Byte) : Nat :=
  Nat.xor (l.foldl (crcRefByte 0xC96C5795D7870F42) 0xFFFFFFFFFFFFFFFF) 0xFFFFFFFFFFFFFFFF

/-- One bit of the CRC-16 of R500. -/
def crcFwd (c : Nat) : Nat := if c / 32768 % 2 = 1 then Nat.xor (c * 2 % 65536) 0x1021 else c * 2 % 65536

/-- One byte of the CRC-16. -/
def crcFwdByte (c : Nat) (b : Byte) : Nat :=
  crcFwd (crcFwd (crcFwd (crcFwd (crcFwd (crcFwd (crcFwd (crcFwd (Nat.xor c (b.toNat * 256)))))))))

/-- CRC-16 (R500). -/
def crc16 (l : List Byte) : Nat := l.foldl crcFwdByte 0xFFFF

/-- The low 32 bits of `v`, little-endian. -/
def word4 (v : Nat) : List Byte := leBytes 4 v

/-- The low 16 bits of `v`, little-endian. -/
def half2 (v : Nat) : List Byte := leBytes 2 v

/-- The number that `n` bytes of `l` from `k` on spell. -/
def numAt (l : List Byte) (k n : Nat) : Nat := leNat ((l.drop k).take n)

end Sys2Proof.Machine
end

