-- ==== Sys2Proof/Machine/Lanes.lean ====
section
/-! DEFINITION. The lanes of the control engine (R38 to R49, R222 to R226, R235, R286 to R288): what is due in a frame,
when it starts and ends, overruns, skips and headroom. -/

namespace Sys2Proof.Machine

/-- What no register holds of lane `l`. -/
def State.lane (s : State) (l : Nat) : Lane := s.ce.lanes.getD l ⟨64, 4, [], [], [], [], none, none, []⟩

/-- The state with lane `l` changed. -/
def State.setLane (s : State) (l : Nat) (f : Lane → Lane) : State :=
  { s with ce := { s.ce with lanes := updAt s.ce.lanes l f } }

/-- BUSY shows whether lane `l` runs an item. -/
def State.busy (s : State) (l : Nat) : State :=
  let b := (s.lane l).run.isSome || (s.lane l).chain.isSome
  if b then s.setBit F.CE_STAT_BUSY l else s.clrBit F.CE_STAT_BUSY l

/-- The engine runs items in this frame. -/
def State.ceLive (s : State) : Bool := s.active && !s.ceStopped

/-! ### What is due (R38, R224, R286, R287) -/

/-- The drives with an enabled chain. -/
def State.chains (s : State) : List Nat := (List.range 6).filter s.chained

/-- Lane of drive `d`'s chain. -/
def State.chainLane (s : State) (d : Nat) : Nat := getBits (s.dr d 0) 1 2

/-- The C0 items of lane `l`: slots of loops that belong to no chain, and 512 + d for the chain of drive d.
(DEDUCED, log entry 56, unsafe.) -/
def State.c0Items (s : State) (l : Nat) : List Nat :=
  s.enabledSlots.filter (fun i => s.loopClass i == 0 && s.loopLane i == l && !s.chained (s.loopDrive i))
    ++ (s.chains.filter (fun d => s.chainLane d == l)).map (512 + ·)

/-- The place of a C0 item in its lane's order: a chain stands at its lowest-numbered loop.
(DEDUCED, log entry 56, unsafe.) -/
def State.c0Order (s : State) (k : Nat) : Nat := if k < 512 then k else (s.chainLoops (k - 512)).headD k

/-- PHASE of slot `i`. -/
def State.loopPhase (s : State) (i : Nat) : Nat := getBits (s.ld i 4) 16 11

/-- The items of class `k` due on lane `l` in frame `n`, ascending. -/
def State.dueItems (s : State) (n l k : Nat) : List Nat :=
  s.enabledSlots.filter (fun i => s.loopClass i == k && s.loopLane i == l && n % classPeriod k == s.loopPhase i)

/-- Window end of class `k` (R42). -/
def State.window (s : State) (k : Nat) : Nat :=
  if k = 1 then s.f F.CRT_WIN12_W1 else if k = 2 then s.f F.CRT_WIN12_W2 else s.f F.CRT_WIN3_W3

/-- Release cycle of a C0 item, if it is released (R41). -/
def State.release (s : State) (k : Nat) : Option Nat :=
  if k < 512 then (if s.loopDrive k = 7 then some 64 else (s.drv (s.loopDrive k)).rel) else (s.drv (k - 512)).rel

/-! ### Starting -/

/-- FRONT's cost (R288). -/
def State.frontCost (s : State) (d : Nat) : Nat := if s.ripen d then 360 else 150

/-- The chain of drive `d` starts on lane `l` at cycle `t`: FRONT, when it can end within the frame.
(DEDUCED, log entry 60, unsafe.) -/
def State.startChain (s : State) (l d t : Nat) : State :=
  let e := t + s.frontCost d
  let s := s.setLane l (fun x => { x with
    chain := some d, cyc := e, chainTodo := s.chainLoops d, c0 := x.c0.filter (fun k => decide (k ≠ 512 + d)) })
  (if e ≤ s.nce then s.front d else s).busy l

/-- Slot `i` starts on lane `l` in class `k` at cycle `t`: it reads the Catalogue as it stood before that cycle (R56,
R223). -/
def State.startItem (s : State) (l i k t : Nat) : State :=
  let r := (s.catAsOf t).beginRun i k t
  ((s.startRun i t).setLane l (fun x => { x with run := some r })).busy l

/-- The better of two C0 candidates for a lane free at `cyc`: released by then before later ones, then the order. -/
def State.c0Better (s : State) (cyc : Nat) (a b : Nat × Nat) : Bool :=
  let ta := max cyc a.2
  let tb := max cyc b.2
  decide (ta < tb) || (ta == tb && decide (s.c0Order a.1 < s.c0Order b.1))

/-- The C0 item that lane `l` runs next, and its release cycle (R224). -/
def State.c0Pick (s : State) (l : Nat) : Option (Nat × Nat) :=
  let x := s.lane l
  (x.c0.filterMap (fun k => (s.release k).map (fun r => (k, r)))).foldl (fun m a => match m with
    | none => some a
    | some b => if s.c0Better x.cyc a b then some a else some b) none

/-- An idle lane starts the chain that comes next, if a chain does. -/
def State.tryChain (s : State) (l : Nat) : State :=
  let x := s.lane l
  if x.cls ≠ 0 ∨ x.run.isSome ∨ x.chain.isSome then s
  else match s.c0Pick l with
    | some (k, r) => if 512 ≤ k then s.startChain l (k - 512) (max x.cyc r) else s
    | none => s

/-- An item of class `k` is skipped (R43). -/
def State.skipItem (s : State) (k : Nat) : State := s.count (F.CRT_SKIP (k - 1)) (6 + k)

/-- The lane enters the next class. -/
def State.nextClass (s : State) (l : Nat) : State :=
  let k := (s.lane l).cls + 1
  let todo := if k < 4 then s.dueItems s.frame l k else []
  s.setLane l (fun x => { x with
    cls := k, todo := todo, starts := if k < 4 then x.starts ++ [x.cyc] else x.starts
    fins := if k < 4 then x.fins ++ [none] else x.fins })

/-- The lane moves on to the next item that fits its window (R43), through the classes (R40). -/
def State.seekItem (s : State) (l : Nat) : Nat → State
  | 0 => s
  | fuel + 1 =>
    let x := s.lane l
    if 4 ≤ x.cls then s
    else match x.todo with
      | [] => (s.nextClass l).seekItem l fuel
      | i :: rest =>
        let s := s.setLane l (fun y => { y with todo := rest })
        if s.window x.cls < x.cyc + s.loopCost i then (s.skipItem x.cls).seekItem l fuel
        else s.startItem l i x.cls x.cyc

/-- ITEM_START: the lane starts its next due item (R40, R41, R43, R224, R287).
(DESIGN CHOICE, log entry 3, unsafe.) -/
def execItemStart (lane : Fin 4) (s : State) : Result :=
  .next (
    let l := lane.val
    let x := s.lane l
    if !s.ceLive || x.run.isSome then s
    else match x.chain with
      | some _ =>
        match x.chainTodo with
        | i :: rest =>
          if x.cyc < s.nce then (s.setLane l (fun y => { y with chainTodo := rest })).startItem l i 0 x.cyc else s
        | [] => s
      | none =>
        if x.cls = 0 ∧ x.c0 ≠ [] then
          match s.c0Pick l with
          | none => s
          | some (k, r) =>
            let t := max x.cyc r
            if s.nce ≤ t then s
            else if 512 ≤ k then s.startChain l (k - 512) t
            else (s.setLane l (fun y => { y with c0 := y.c0.filter (· != k), cyc := t })).startItem l k 0 t
        else s.seekItem l 600)

/-- C0_RELEASE: the latch of drive `d` has reported complete (R41); a free lane starts its chain (R288). -/
def execC0Release (d : Fin 6) (w : Nat) (s : State) : Result :=
  .next (if s.ceLive && s.adc.latchDone.getD d false && (s.drv d).rel.isNone then
    let s := s.setDrv d (fun x => { x with rel := some (max 64 (w + 4)) })
    if s.chained d then s.tryChain (s.chainLane d) else s
  else s)

/-- The last finish cycle of the class in hand. -/
def Lane.finish (x : Lane) (t : Nat) : Lane := { x with cyc := t, fins := x.fins.set x.cls (some t), run := none }

/-- The run `r` completes at cycle `t`; a Catalogue entry that it writes is seen by items that start later (R39, R56).
(DEDUCED, log entry 64, unsafe.) -/
def State.completeRun (s : State) (r : Run) (t : Nat) : State :=
  let w := s.ld r.slot 0x30
  if w / 2 ^ 28 = 3 then s.catTimed (w % 4096) t (·.finishRun r) else s.finishRun r

/-- ITEM_COMPLETE: the item writes back, when it ends within the frame (R39).
(DEDUCED, log entry 23, unsafe; DEDUCED, log entry 64, unsafe.) -/
def execItemComplete (lane : Fin 4) (s : State) : Result :=
  .next (match (s.lane lane).run with
    | none => s
    | some r =>
      let t := r.start + r.cost
      if s.nce < t ∨ !s.ceLive then s
      else ((s.completeRun r t).setLane lane (fun x => x.finish t)).busy lane)

/-- DRIVE_BACK: BACK ends the chain (R287, R288, R303); a chain that waits starts after it. -/
def execDriveBack (lane : Fin 4) (s : State) : Result :=
  .next (
    let x := s.lane lane
    match x.chain with
    | none => s
    | some d =>
      let t := x.cyc + 96
      if x.run.isSome || x.chainTodo != [] || decide (s.nce < t) || !s.ceLive then s
      else
        let s := (s.back d).setLane lane (fun y => { y.finish t with chain := none })
        (s.busy lane).tryChain lane)

/-! ### The tick -/

/-- Lane `l` is given up: the run in hand leaves nothing (R36, R39). -/
def State.dropLane (s : State) (l : Nat) : State :=
  let s := match (s.lane l).run with
    | some r => s.dropRun r
    | none => s
  (s.setLane l (fun x => { x with run := none, chain := none, chainTodo := [], c0 := [], todo := [], cls := 4 })).busy l

/-- A C0 item of the lane has not completed. -/
def Lane.overran (x : Lane) : Bool :=
  x.cls == 0 && (x.run.isSome || x.chain.isSome || x.c0 != [])

/-- A C0 item of the lane that belongs to no chain has not completed (R47). -/
def Lane.otherOverran (x : Lane) : Bool :=
  x.cls == 0 && ((x.run.isSome && x.chain.isNone) || x.c0.any (fun k => decide (k < 512)))

/-- Number of the frame that ends at a tick which has already counted. -/
def State.endedFrame (s : State) : Nat := (s.frame + 4294967295) % 4294967296

/-- The items of lane `l` that never started in the ending frame are skipped (R48).
(DEDUCED, log entry 57, unsafe.) -/
def State.skipRest (s : State) (l : Nat) : State :=
  let x := s.lane l
  let n := fun k => if k < x.cls then 0 else if k = x.cls then x.todo.length else (s.dueItems s.endedFrame l k).length
  s.each [1, 2, 3] (fun t k => t.each (List.range (n k)) (fun u _ => u.skipItem k))

/-- Headroom of class `k` on a lane (R49).
(DEDUCED, log entry 24, unsafe.) -/
def State.headroom (s : State) (x : Lane) (k : Nat) : Nat :=
  if k = 0 then (if x.overran then 0 else s.nce - (x.fins.getD 0 none).getD 64)
  else
    let start := if k < x.starts.length then x.starts.getD k 64 else if x.overran || x.run.isSome then s.nce else x.cyc
    s.window k - (x.fins.getD k none).getD start

/-- The headroom of the ending frame is published (R49).
(DEDUCED, log entry 24, unsafe.) -/
def State.publishHeadroom (s : State) : State :=
  s.each [0, 1, 2, 3] (fun t k =>
    let h := (List.range 4).foldl (fun m l => min m (s.headroom (s.lane l) k)) 65535
    (t.setF (F.CRT_HEAD_LAST k) h).setF (F.CRT_HEAD_MIN k) (min (t.f (F.CRT_HEAD_MIN k)) h))

/-- The consecutive-overrun count of drive `d`. -/
def consec (d : Nat) : Fld := ⟨F.CRT_C0STAT_CONSEC.addr, 16 + 2 * d, 2⟩

/-- The chain of drive `d` has not completed in the ending frame (R45, R46): the tick that brings the count to 3 faults the
drive (R235, R310).
(DEDUCED, log entry 57, unsafe.) -/
def State.overrun (s : State) (d : Nat) : State :=
  let s := (s.setBit F.CRT_C0STAT_OVR d).ledger d
  let n := s.f (consec d)
  let s := s.setF (consec d) (min (n + 1) 3)
  if n = 2 then s.overrunFault d else s

/-- The chains of the ending frame: overruns, and counts that return to 0 (R45, R46). -/
def State.judgeChains (s : State) : State :=
  s.each s.chains (fun t d => if (t.drv d).done then t.setF (consec d) 0 else t.overrun d)

/-- The staged compare values of completed chains are copied (R36); peak widths wait for the first valley (R297). -/
def State.copyStaged (s : State) : State :=
  s.each s.chains (fun t d =>
    let x := t.drv d
    match x.staged with
    | none => t
    | some w =>
      let t := t.setDrv d (fun y => { y with staged := none })
      if x.done then
        let t := t.each [0, 1, 2] (fun u i => u.writeCompare d i (w.getD i 0))
        if t.ripen d then t.setDrv d (fun y => { y with peakWait := some y.stagedPeak }) else t
      else t)

/-- The items of classes C1 to C3 that were due on lane `l` in the ending frame are skipped (R48). -/
def State.skipDue (s : State) (l : Nat) : State :=
  s.each [1, 2, 3] (fun t k => t.each (List.range (s.dueItems s.endedFrame l k).length) (fun u _ => u.skipItem k))

/-- The ending frame of an ACTIVE unit is closed: items abandoned, overruns recorded, headroom published (R36). In a frame
in which the engine was stopped, the chains overrun (R235) with what follows from that on their lanes (R48, R49); a C0
loop that belongs to no chain does not set OVR_OTHER then.
(DEDUCED, log entry 57, unsafe; DESIGN CHOICE, log entry 143, unsafe.) -/
def State.closeFrame (s : State) : State :=
  let live := s.ceLive
  let s := if live then
      let other := (List.range 4).any (fun l => (s.lane l).otherOverran)
      let h := s.publishHeadroom
      let h := h.each (List.range 4) (fun t l => t.skipRest l)
      let h := if other then (h.setF F.CRT_C0STAT_OVR_OTHER 1).ledger 6 else h
      h.each (List.range 4) (·.dropLane ·)
    else
      let late := fun (l : Nat) => s.chains.any (fun d => s.chainLane d == l)
      let h := s.each ((List.range 4).filter late) (·.skipDue ·)
      h.each [0, 1, 2, 3] (fun t k =>
        let v := if (List.range 4).any late then 0 else (if k = 0 then s.nce else s.window k) - 64
        (t.setF (F.CRT_HEAD_LAST k) v).setF (F.CRT_HEAD_MIN k) (min (t.f (F.CRT_HEAD_MIN k)) v))
  s.judgeChains

/-- The lanes of the new frame. -/
def State.openFrame (s : State) : State :=
  let lane := fun l => (⟨64, 0, s.c0Items l, [], [64], [none], none, none, []⟩ : Lane)
  let s := s.each (List.range 6) (fun t d => t.setDrv d (fun x => { x with rel := none, done := false }))
  { s with ce := { s.ce with lanes := (List.range 4).map lane } }

/-- The engine's share of a tick of an ACTIVE unit: RUN decides whether items start (R235). -/
def State.engineTick (s : State) : State :=
  let run := s.on F.CE_CTL_RUN && s.active && !s.hot
  let s := if run then s else s.gensAbort 3
  (s.setB F.CE_STAT_STOPPED (!run)).openFrame

/-- The engine stops at once, its unfinished items abandoned (R326, R448, R522). -/
def State.engineHalt (s : State) : State :=
  let s := (s.each (List.range 4) (·.dropLane ·)).gensAbort 3
  s.setF F.CE_STAT_STOPPED 1

end Sys2Proof.Machine
end

