-- ==== Sys2Proof/Machine/Vault.lean ====
section
/-! DEFINITION. The Vault (R470) and the records of a checkpoint plan (R471): where each record lies, what it carries
and what restoring it writes (R480). -/

namespace Sys2Proof.Machine

/-- Address of the Vault. -/
def vaultBase : Nat := 0x220000

/-- NSEC of a slot. -/
def State.loopNsec (s : State) (i : Nat) : Nat := getBits (s.ld i 0) 8 3

/-- Body length of a record (R471). -/
def State.recLen (s : State) (kind index count : Nat) : Nat :=
  match kind with
  | 1 => 24 + 16 * s.loopNsec index
  | 2 => 8
  | 3 => 8 * count
  | 4 => 4120
  | _ => 384

/-- The indices of the records of a plan entry (R471). -/
def State.planItems (s : State) (kind first count : Nat) : List Nat :=
  match kind with
  | 1 => s.enabledSlots.filter (fun i => decide (first ≤ i) && decide (i < first + count))
  | 2 => s.chains.filter (fun d => decide (first ≤ d) && decide (d < first + count))
  | 3 => [first]
  | 4 => [0]
  | 5 => (List.range count).map (first + ·)
  | _ => []

/-- Lay the records out one after another from `off`. -/
def State.layOut (s : State) (kind count : Nat) : List Nat → Nat → List Slot
  | [], _ => []
  | i :: r, off =>
    let n := s.recLen kind i count
    ⟨kind, i, count, off, n⟩ :: s.layOut kind count r (off + 16 + n)

/-- The record slots of plan entry `i`. -/
def State.planEntry (s : State) (i : Nat) : List Slot :=
  let kind := s.f (F.PAIR_PLANA_KIND i)
  let count := s.f (F.PAIR_PLANA_COUNT i)
  s.layOut kind count (s.planItems kind (s.f (F.PAIR_PLANA_FIRST i)) count) (s.f (F.PAIR_PLANB_VOFS i))

/-- The record slots of the plan, in plan order. -/
def State.planSlots (s : State) : List Slot := (List.range 128).flatMap s.planEntry

/-- The end of the plan area: the Vault offset after the last record. -/
def State.planEnd (s : State) : Nat := s.planSlots.foldl (fun m x => max m (x.off + 16 + x.len)) 0x100

/-- Bytes of memory. -/
def State.bytesAt (s : State) (a n : Nat) : List Byte := (List.range n).map (fun k => Memory.byte s.mem (a + k))

/-- Address of the section state `j` (R232). -/
def sectState (j : Nat) : Nat := 0x118000 + 16 * j

/-- First section of a slot. -/
def State.loopSec0 (s : State) (i : Nat) : Nat := s.ld i 4 % 2048

/-- Point `p` of a calendar link's table for a day type (R283). -/
def State.calPoint (s : State) (l : Nat) (dt : Bool) (p : Nat) : Int :=
  let sum := (List.range 15).foldl (fun a k => a + s.calEntry l dt (15 * p + k)) (0 : Int)
  (2 * sum + 15) / 30

/-- The body of a record, read now (R471). -/
def State.recBody (s : State) (x : Slot) : List Byte :=
  match x.kind with
  | 1 => s.bytesAt (lsAddr x.index) 24 ++ s.bytesAt (sectState (s.loopSec0 x.index)) (16 * s.loopNsec x.index)
  | 2 => word4 (s.dr x.index 0xD4) ++ word4 (s.rd (F.CE_DR_FAULT_CAUSE x.index).addr)
  | 3 => (List.range x.count).flatMap (fun k => s.bytesAt (ptAddr (x.index + k) + 8) 8)
  | 4 => (List.range 64).flatMap (fun z => s.bytesAt (zoneAddr z + 0x80) 32)
      ++ (List.range 6).flatMap (fun k => s.bytesAt (stageAddr k + 0x10) 4) ++ s.bytesAt 0x2B000 2048
  | _ => [false, true].flatMap (fun dt => (List.range 96).flatMap (fun p => half2 (ofI 16 (s.calPoint x.index dt p))))

/-- The record of a slot, read now for checkpoint `num`. -/
def State.takeRec (s : State) (num : Nat) (x : Slot) : CkRec := ⟨x.kind, x.index, s.frame, num, x.len, s.recBody x⟩

/-- Head word of the record that stands in a slot; its KIND is 0 in an empty one. -/
def State.slotHead (s : State) (x : Slot) : Nat := s.mw (vaultBase + x.off)

/-- The slot holds no record. -/
def State.slotEmpty (s : State) (x : Slot) : Bool := s.slotHead x / 2 ^ 28 == 0

/-- CKNUM of the record in a slot. -/
def State.slotNum (s : State) (x : Slot) : Nat := s.mw (vaultBase + x.off + 8)

/-- `a` is newer than `b` (R21, R473). -/
def newer32 (a b : Nat) : Bool :=
  let d := (a + 2 ^ 32 - b % 2 ^ 32) % 2 ^ 32
  decide (1 ≤ d) && decide (d < 2 ^ 31)

/-- A whole record is written to its slot when the slot is empty or holds an older one (R473). -/
def State.putRec (s : State) (x : Slot) (r : CkRec) : State :=
  if s.slotEmpty x || newer32 r.num (s.slotNum x) then
    let s := s.setBytes (vaultBase + x.off)
      (word4 (r.kind * 2 ^ 28 + r.index) ++ word4 r.frame ++ word4 r.num ++ word4 r.blen ++ r.body)
    { s with pair := { s.pair with vaultEmpty := false } }
  else s

/-- VALID of the Vault header. -/
def State.vaultValid (s : State) : Bool := bit (s.mw (vaultBase + 0x10)) 0

/-- COLD of the Vault header. -/
def State.vaultCold (s : State) : Bool := bit (s.mw (vaultBase + 0x10)) 1

/-- CKNUM of the Vault; 0 when it is empty. -/
def State.vaultNum (s : State) : Nat := if s.pair.vaultEmpty then 0 else s.mw vaultBase

/-- FPRINT of the image in use. -/
def State.fprint (s : State) : Nat := s.f (F.BOOT_FPRINT 0) + 2 ^ 32 * s.f (F.BOOT_FPRINT 1)

/-! ### Restore (R480) -/

/-- The word at offset `o` of the body of the record in a slot. -/
def State.recWord (s : State) (x : Slot) (o : Nat) : Nat := s.mw (vaultBase + x.off + 16 + o)

/-- A loop's words and section states; in AUTO its first run is a transfer run (R257). -/
def State.restoreLoop (s : State) (x : Slot) : State :=
  let a := vaultBase + x.off + 16
  let s := s.setBytes (lsAddr x.index) (s.bytesAt a 24)
  let s := s.setBytes (sectState (s.loopSec0 x.index)) (s.bytesAt (a + 24) (16 * s.loopNsec x.index))
  if s.loopMode x.index = 2 then { s with ce := { s.ce with resumed := s.ce.resumed ++ [x.index] } } else s

/-- A drive: SAFESTOP with its FAULT, or STOPPED; a drive that is held resumes (R479, R314). -/
def State.restoreDrive (s : State) (x : Slot) : State :=
  if (s.drv x.index).resume then s
  else
    let safe := s.recWord x 0 % 8 == 6
    let s := s.enter x.index (if safe then 6 else 0)
    if safe then s.wr (F.CE_DR_FAULT_CAUSE x.index).addr (s.recWord x 4) else s

/-- Entry `k` of a POINTS record: a KIND 0x0 point takes VALUE as an update, and a point that was forced is forced to
it (R341, R343). -/
def State.restorePoint (s : State) (x : Slot) (k : Nat) : State :=
  let p := x.index + k
  let v := toS 32 (s.recWord x (8 * k))
  let forced := bit (s.recWord x (8 * k + 4)) 22
  let s := s.cond (s.ptKind p == 0 && s.ptType p != 0) (·.ptUpdate p v false)
  s.cond forced (fun t => (t.setMI (ptAddr p + 8) v).setM (ptAddr p + 12) (setBits (t.ptQual p) 22 1 1))

/-- Zone, stage and rule states. -/
def State.restoreAlm (s : State) (x : Slot) : State :=
  let a := vaultBase + x.off + 16
  let s := s.each (List.range 64) (fun t z => t.setBytes (zoneAddr z + 0x80) (s.bytesAt (a + 32 * z) 32))
  let s := s.each (List.range 6) (fun t k => t.setBytes (stageAddr k + 0x10) (s.bytesAt (a + 2048 + 4 * k) 4))
  let s := s.setBytes 0x2B000 (s.bytesAt (a + 2072) 2048)
  { s with alm := { s.alm with hid := { s.alm.hid with os := List.replicate 64 .idle } } }

/-- A calendar link's entries become their points (R284). -/
def State.restoreCal (s : State) (x : Slot) : State :=
  s.each [false, true] (fun t dt =>
    t.each (List.range 1440) (fun u i =>
      u.setCalEntry x.index dt i (toS 16 (s.recWord x (192 * b2n dt + 2 * (i / 15))))))

/-- The record of a slot is restored; from a COLD Vault only POINTS and CALENDAR records are (R480). -/
def State.restoreSlot (s : State) (x : Slot) : State :=
  if s.slotEmpty x then s
  else match x.kind with
    | 1 => if s.vaultCold then s else s.restoreLoop x
    | 2 => if s.vaultCold then s else s.restoreDrive x
    | 3 => s.each (List.range x.count) (fun t k => t.restorePoint x k)
    | 4 => if s.vaultCold then s else s.restoreAlm x
    | 5 => s.restoreCal x
    | _ => s

/-- The descriptor of link `l` places an angle table (R263, R264). -/
def State.angleTable (s : State) (l : Nat) : Bool :=
  s.lkAngle l && decide (0x2000 ≤ s.lk l 4) && decide (s.lk l 4 + s.lkBytes l ≤ 0x80000)

/-- Every angle table becomes 0 and every link state returns to the values of R265, NOIDX set (R284). -/
def State.resetLinks (s : State) : State :=
  s.each (List.range 128) (fun t l =>
    let t := if t.angleTable l then { t with mem := Memory.clear t.mem (t.lkTab l) (t.lkTab l + t.lkBytes l) } else t
    t.resetLink l true)

/-- Every loop starts from the state that the image gave it, with no transfer run. -/
def State.loopsFromImage (s : State) : State :=
  let s := { s with mem := Memory.clear s.mem 0x118000 0x124000, ce := { s.ce with resumed := [] } }
  s.each s.boot.loops (fun t c => t.setMB c.1 c.2.toNat)

/-- The memory of loop and section states is kept as the image left it. -/
def State.keepLoops (s : State) : State :=
  { s with boot := { s.boot with
    loops := s.mem.filter (fun c => decide (0x118000 ≤ c.1) && decide (c.1 < 0x124000)) } }

/-- The restore writes every non-empty record of the plan; from an empty Vault the loops take their image state. -/
def State.restoreVault (s : State) : State :=
  let s := s.resetLinks
  if s.pair.vaultEmpty then s.loopsFromImage else s.each s.planSlots (·.restoreSlot ·)

/-! ### The structural check of the plan (R484) -/

/-- The conditions on plan entry `i` that fail: KIND, VOFS, COUNT, the items and the end of the records. -/
def State.planBad (s : State) (i : Nat) : List (List Nat) :=
  let first := s.f (F.PAIR_PLANA_FIRST i)
  let count := s.f (F.PAIR_PLANA_COUNT i)
  let kind := s.f (F.PAIR_PLANA_KIND i)
  let v := s.f (F.PAIR_PLANB_VOFS i)
  let items := match kind with
    | 1 => [(3, decide (1 ≤ count)), (4, decide (first + count ≤ 512))]
    | 2 => [(3, decide (1 ≤ count) && decide (first + count ≤ 6))]
    | 3 => [(3, decide (1 ≤ count) && decide (count ≤ 255) && decide (first + count ≤ 4096))]
    | 5 => [(3, decide (1 ≤ count) && decide (first + count ≤ 128))]
    | _ => []
  if kind = 0 then []
  else
    failing ([(0, decide (kind ≤ 5)), (1, decide (0x100 ≤ v)), (2, v % 8 == 0)] ++ items
        ++ [(5, (s.planEntry i).all (fun x => decide (x.off + 16 + x.len ≤ 0x10000)))])
      ++ within 6 (if kind = 5 then failing ((List.range count).map (fun k => (first + k, s.lk (first + k) 0 % 4 == 1))) else [])

/-- Two record slots overlap. -/
def slotsMeet (x y : Slot) : Bool := decide (x.off < y.off + 16 + y.len) && decide (y.off < x.off + 16 + x.len)

/-- The records of two entries overlap. -/
def entriesMeet (l m : List Slot) : Bool := l.any (fun x => m.any (slotsMeet x))

/-- The conditions of the PAIR section's structural check that fail (R484).
(DEDUCED, log entry 39, unsafe.) -/
def State.pairBad (s : State) : List (List Nat) :=
  let used := (List.range 128).filter (fun i => s.f (F.PAIR_PLANA_KIND i) != 0)
  within 0 (failing [(0, decide (s.f F.PAIR_CFG_MODE < 3)), (1, decide (0 < s.f F.PAIR_CFG_MIRMAX)),
      (2, decide (2 ≤ s.f F.PAIR_CFG_LINKTO)), (3, decide (0 < s.f F.PAIR_CFG_STALETO)),
      (4, decide (0 < s.f F.PAIR_CFG_LVERS)),
      (5, decide ((used.filter (fun i => s.f (F.PAIR_PLANA_KIND i) == 4)).length ≤ 1))])
    ++ within 1 (used.flatMap (fun i => within i (s.planBad i)))
    ++ within 2 (pairsBad entriesMeet (used.map (fun i => (i, s.planEntry i))))

/-- The PAIR section's structural check (R484). -/
def State.pairOk (s : State) : Bool := s.pairBad.isEmpty

end Sys2Proof.Machine
end

