-- ==== Sys2Proof/Machine/Folio.lean ====
section
/-! DEFINITION. Folio (R486 to R512): cells, reads, programs, internal jobs, master transactions, the recall scan, the
power-down save, remapping and the retained counters. -/

namespace Sys2Proof.Machine

/-- The state with Folio changed. -/
def State.setFol (s : State) (f : Folio → Folio) : State := { s with fol := f s.fol }

/-! ### Cells -/

/-- The physical page that serves window page `p` (R509).
(DEDUCED, log entry 88, unsafe.) -/
def Folio.phys (x : Folio) (p : Nat) : Nat :=
  match lookupAt x.map p with
  | some k => 2048 + 16 * (p % 4) + k
  | none => p

/-- The stored byte at a physical address; none when its check fails (R487).
(DEDUCED, log entry 88, unsafe.) -/
def Folio.cell (x : Folio) (a : Nat) : Option Byte :=
  match lookupAt x.cells a with
  | some v => v
  | none => some 0xFF

/-- Physical address of window offset `o`. -/
def Folio.addr (x : Folio) (o : Nat) : Nat := 64 * x.phys (o / 64) + o % 64

/-- The byte at window offset `o`. -/
def Folio.at (x : Folio) (o : Nat) : Option Byte := x.cell (x.addr o)

/-- A byte is stored (R499) or left failing. -/
def Folio.store (x : Folio) (a : Nat) (v : Option Byte) : Folio := { x with cells := storeAt x.cells a v (some 0xFF) }

/-- No byte of window page `p` fails its check. -/
def Folio.whole (x : Folio) (p : Nat) : Bool := (List.range 64).all (fun k => (x.at (64 * p + k)).isSome)

/-- Write count of a physical page (R510). -/
def Folio.count (x : Folio) (p : Nat) : Nat := (lookupAt x.counts p).getD 0

/-- Pages marked torn, with `p` among them. -/
def addSorted : List Nat → Nat → List Nat
  | [], p => [p]
  | q :: r, p => if p = q then q :: r else if p < q then p :: q :: r else q :: addSorted r p

/-- A failing byte of page `p` is read (R498).
(DEDUCED, log entry 89, unsafe.) -/
def State.folFail (s : State) (p : Nat) : State :=
  let s := s.setF F.FOL_TORN_LASTPG p
  if s.fol.torn.contains p then (s.setF F.FOL_STAT_TORNRD 1).count F.FOL_TORNRDCNT 170
  else (s.setF F.FOL_STAT_CHKERR 1).count F.FOL_CHKERRCNT 171

/-- `n` bytes read from window offset `o`: what they read as, whether none fails, and the flags set (R487, R498). -/
def State.folRead (s : State) (o n : Nat) : State × List Byte × Bool :=
  (List.range n).foldl (fun r k =>
    match s.fol.at (o + k) with
    | some b => (r.1, r.2.1 ++ [b], r.2.2)
    | none => (r.1.folFail ((o + k) / 64), r.2.1 ++ [0xFF], false)) (s, [], true)

/-! ### Programs -/

/-- The write window is open (R519). -/
def State.folWindow (s : State) : Bool := s.on F.THM_STAT_WINDOW

/-- The recall scan is in progress. -/
def State.folRecall (s : State) : Bool := s.on F.FOL_STAT_RECALL

/-- PFI_N has been accepted since reset. -/
def State.folPfi (s : State) : Bool := s.on F.FOL_STAT_PFI

/-- No program runs. -/
def State.folFree (s : State) : Bool := s.fol.prog.isNone

/-- The part of window page `p` from offset `off` on that a program writes. -/
def State.pageProg (s : State) (p off : Nat) (b : List Byte) : PageProg := ⟨p, s.fol.phys p, off, b⟩

/-- The parts of the pages that `b` from window offset `o` on touches; `fuel` bounds the pages. -/
def State.pageParts (s : State) : Nat → Nat → List Byte → List PageProg
  | 0, _, _ => []
  | fuel + 1, o, b =>
    if b.isEmpty then []
    else
      let n := 64 - o % 64
      s.pageProg (o / 64) (o % 64) (b.take n) :: s.pageParts fuel (o + n) (b.drop n)

/-- A program starts: the intent cell of each bank whose own page is written names it (R486, R497).
(DEDUCED, log entry 89, unsafe.) -/
def State.startProg (s : State) (src : ProgSrc) (pages : List PageProg) : State :=
  let s := s.setFol (fun x => { x with
    prog := some ⟨src, pages⟩
    intent := pages.foldl (fun l g => if x.phys g.page = g.phys then l.set (g.page % 4) (some g.page) else l) x.intent })
  s.setF F.FOL_STAT_BUSY 1

/-- A page has been programmed (R488, R499, R510).
(DEDUCED, log entry 88, unsafe.) -/
def State.pageDone (s : State) (g : PageProg) : State :=
  let s := s.setFol (fun x =>
    let x := (g.bytes.zipIdx).foldl (fun y b => y.store (64 * g.phys + g.off + b.2) (some b.1)) x
    let x := { x with
      counts := storeAt x.counts g.phys (min (x.count g.phys + 1) (2 ^ 24 - 1)) 0
      intent := if x.intent.getD (g.page % 4) none = some g.page then x.intent.set (g.page % 4) none else x.intent }
    if x.whole g.page then { x with torn := x.torn.filter (· != g.page) } else x)
  s.ledger 172

/-- One byte of an interrupted program keeps its old value, takes the new one, or fails its check: a free value
(R498). -/
def State.tearByte (s : State) (a : Nat) (b : Byte) : State :=
  let v := s.free
  v.2.setFol (fun x => match v.1 % 3 with
    | 0 => x
    | 1 => x.store a (some b)
    | _ => x.store a none)

/-- A program is cut off; its intent cells stay set.
(DEDUCED, log entry 28, unsafe.) -/
def State.tearProg (s : State) (q : FolProg) : State :=
  let s := s.each q.pages (fun t g =>
    t.each (g.bytes.zipIdx) (fun u b => u.tearByte (64 * g.phys + g.off + b.2) b.1))
  let s := match q.src with
    | .prot v =>
      let r := s.free
      if r.1 % 2 = 1 then (r.2.setFol (fun x => { x with prot := v })).setF F.FOL_PROT_BP v else r.2
    | _ => s
  (s.setFol (fun x => { x with prog := none })).setF F.FOL_STAT_BUSY 0

/-- A program abandoned while the power lasts leaves its pages marked torn (R505).
(DEDUCED, log entry 89, unsafe.) -/
def State.abandonProg (s : State) : State :=
  match s.fol.prog with
  | none => s
  | some q =>
    let mark := q.pages.filter (fun g => decide (s.fol.phys g.page = g.phys))
    let s := s.tearProg q
    s.setFol (fun x => { x with torn := mark.foldl (fun l g => addSorted l g.page) x.torn })

/-! ### Internal jobs (R490, R491) -/

/-- Place of a job in the order of R490. -/
def FolJob.order : FolJob → Nat
  | .thermal => 2
  | .session => 3
  | .annals _ _ => 4
  | .rates => 5
  | .vault => 6
  | .remap _ => 7
  | .prot _ => 8

/-- An internal job is queued, or dropped when the queue is full (R491, R562). A Curator, whose Folio is held in reset,
queues none (R460).
(DEDUCED, log entry 123, unsafe.) -/
def State.queueJob (s : State) (j : FolJob) : State :=
  if s.plantHeld then s
  else if s.fol.jobs.length < 16 then s.setFol (fun x => { x with jobs := x.jobs ++ [j] })
  else
    let s := (s.setF F.FOL_STAT_QDROP 1).count F.FOL_QDROPCNT 169
    if j.order = 4 then s.count F.ANL_PDROPCNT 182 else s

/-- What is left of the job in hand when no further group of it will start: the group whose program runs. -/
def Folio.lastGroup (x : Folio) : Option FolWork :=
  if x.prog.isSome then x.hand.map (fun w => { w with todo := w.todo.take 1 }) else none

/-- Every queued job is discarded (R493); the program that runs goes on to its end. -/
def State.dropJobs (s : State) : State := s.setFol (fun x => { x with jobs := [], hand := x.lastGroup })

/-- The job in hand is given up with its program. -/
def State.dropHand (s : State) : State :=
  { s.setFol (fun x => { x with hand := none }) with thm := { s.thm with progNum := none } }

/-- A Vault copy that waits or runs is given up (R490, R507).
(DEDUCED, log entry 92, unsafe.) -/
def State.dropVaultCopy (s : State) : State :=
  s.setFol (fun x => { x with
    jobs := x.jobs.filter (fun j => decide (j ≠ .vault))
    hand := match x.hand with
      | some w => if w.job = .vault then none else some w
      | none => none })

/-- A Vault copy waits or runs. -/
def State.vaultCopying (s : State) : Bool :=
  match s.fol.hand with
  | some w => decide (w.job = .vault)
  | none => false

/-- Lists of up to four pages, one in each bank. -/
def fours (l : List PageProg) : List (List PageProg) := chunks 4 l.length l
where
  /-- Consecutive chunks of `n`. -/
  chunks (n : Nat) : Nat → List PageProg → List (List PageProg)
    | 0, _ => []
    | k + 1, l => if l.isEmpty then [] else l.take n :: chunks n k (l.drop n)

/-- The persistent entry of an Annals event with sequence number `q` (R563). -/
def persEntry (rtc q : Nat) (body : List Byte) : List Byte :=
  let b := word4 rtc ++ half2 q ++ body
  b ++ half2 (crc16 b)

/-- The optimal-start record (R508): RW and RC of each zone, then their CRC and the RTC. -/
def State.ratesRecord (s : State) : List Byte × List Byte :=
  let d := (List.range 64).flatMap (fun z => word4 (s.zw z 0x90) ++ word4 (s.zw z 0x94))
  (d, word4 (crc32 d) ++ word4 (s.f F.ALM_RTC))

/-- The groups of pages of a Vault copy: the header not valid, the plan area, the header last (R507). -/
def State.vaultGroups (s : State) : List (List PageProg) :=
  let hdr := s.bytesAt vaultBase 256
  let w := s.mw (vaultBase + 0x10)
  let bad := hdr.take 16 ++ word4 (w / 2 * 2) ++ hdr.drop 20
  let body := s.bytesAt (vaultBase + 0x100) (s.planEnd - 0x100)
  fours (s.pageParts 4 0 bad) ++ fours (s.pageParts 1024 0x100 body) ++ fours (s.pageParts 4 0 hdr)

/-- The thermal shutdown record as it stands in AON (R529). -/
def State.shutRecord (s : State) : List Byte := (List.range 16).flatMap (fun w => word4 (s.rd (F.THM_REC w).addr))

/-- The next free spare of the bank of page `p`. -/
def State.nextSpare (s : State) (p : Nat) : Nat := s.fol.used.getD (p % 4) 16

/-- What a job programs, in groups, as it starts, and the state that its start leaves.
(DEDUCED, log entry 92, unsafe.) -/
def State.jobGroups (s : State) (j : FolJob) : List (List PageProg) × State :=
  match j with
  | .thermal =>
    ([s.pageParts 1 0x10240 s.shutRecord],
      { s with thm := { s.thm with progNum := some (s.f (F.THM_REC 0)) } })
  | .session =>
    let q := half2 (s.f F.FOL_SESSION_OPENSEQ)
    ([s.pageParts 1 0x10200 (q ++ half2 (crc16 q))], s)
  | .annals rtc body =>
    let i := s.f F.ANL_PSTAT_PIDX
    let q := s.f F.ANL_PSTAT_PSEQ
    ([s.pageParts 1 (0x11000 + 16 * i) (persEntry rtc q body)],
      (s.setF F.ANL_PSTAT_PIDX (i + 1)).setF F.ANL_PSTAT_PSEQ (q + 1))
  | .rates =>
    let r := s.ratesRecord
    (fours (s.pageParts 8 0x10300 r.1) ++ [s.pageParts 1 0x10500 r.2], s)
  | .vault => (s.vaultGroups, s)
  | .remap p =>
    let r := s.folRead (64 * p) 64
    ([[⟨p, 2048 + 16 * (p % 4) + s.nextSpare p, 0, r.2.1⟩], []], r.1)
  | .prot _ => ([[]], s)

/-- The program of a job's next group starts. -/
def State.startGroup (s : State) (w : FolWork) : State :=
  let s := s.setFol (fun x => { x with hand := some w })
  match w.todo with
  | [] => s
  | g :: _ => match w.job with
    | .prot v => s.startProg (.prot v) g
    | .remap p => if g.isEmpty then s.startProg (.map p (s.nextSpare p)) [] else s.startProg .job g
    | _ => s.startProg .job g

/-- A job may start now: Annals entries wait for the boot read of their log (R564). -/
def State.jobReady (s : State) (j : FolJob) : Bool := j.order != 4 || s.on F.ANL_PSTAT_READY

/-- The queued job that comes first in the order of R490 and may start.
(DEDUCED, log entry 92, unsafe.) -/
def State.nextJob (s : State) : Option FolJob :=
  (s.fol.jobs.filter s.jobReady).foldl (fun m j => match m with
    | none => some j
    | some k => if j.order < k.order then some j else some k) none

/-- Folio may take an internal job: it is free, nothing of a master waits, recall has ended and the window is open. -/
def State.jobsMayRun (s : State) : Bool :=
  s.folFree && s.fol.txns.isEmpty && s.fol.txn.isNone && !s.fol.held && !s.folRecall && !s.folPfi && s.folWindow

/-- Job `j` starts with its first group. -/
def State.startJob (s : State) (j : FolJob) : State :=
  let g := s.jobGroups j
  g.2.startGroup ⟨j, g.1⟩

/-- FOLIO_JOB_START: the job in hand goes on, from its start where nothing of it is left to go on with, or the next one
starts (R490). -/
def execFolioJobStart (s : State) : Result :=
  .next (if s.jobsMayRun then
    match s.fol.hand with
    | some w => if w.todo.isEmpty then s.startJob w.job else s.startGroup w
    | none =>
      match s.nextJob with
      | none => s
      | some j => (s.setFol (fun x => { x with jobs := x.jobs.erase j })).startJob j
  else s)

/-- A job has ended. -/
def State.jobDone (s : State) (j : FolJob) : State :=
  let s := s.setFol (fun x => { x with hand := none })
  match j with
  | .thermal =>
    let s :=
      if s.thm.progNum = some (s.f (F.THM_REC 0)) then
        let s := s.setF F.THM_STAT_RECPEND 0
        s.log 0x0C 0x11 (getBits (s.rd (F.THM_REC 3).addr) 1 1) (s.f (F.THM_REC 0)) none true
      else s
    { s with thm := { s.thm with progNum := none } }
  | .annals _ _ => s.ledger 181
  | _ => s

/-- The spare of page `p` has been programmed. Its map entry follows at once, so that no write of the page can fall
between them (R509); in a window that has closed meanwhile it may not, and the copy is made again later (R490).
(DEDUCED, log entry 130, unsafe.) -/
def State.mapEntry (s : State) (p : Nat) : State :=
  if s.folWindow then
    (s.setFol (fun x => { x with hand := some ⟨.remap p, [[]]⟩ })).startProg (.map p (s.nextSpare p)) []
  else s.setFol (fun x => { x with hand := some ⟨.remap p, []⟩ })

/-- One group of the job in hand has been programmed. -/
def State.groupDone (s : State) : State :=
  match s.fol.hand with
  | none => s
  | some w =>
    match w.job, w.todo with
    | .remap p, _ :: _ :: _ => s.mapEntry p
    | _, _ :: r :: rest => s.setFol (fun x => { x with hand := some ⟨w.job, r :: rest⟩ })
    | _, _ => s.jobDone w.job

/-- The stored protection changes.
(DESIGN CHOICE, log entry 91, unsafe.) -/
def State.setProt (s : State) (v : Nat) : State := (s.setFol (fun x => { x with prot := v })).setF F.FOL_PROT_BP v

/-- Page `p` is served by spare `k` from now on (R509). -/
def State.setMap (s : State) (p k : Nat) : State :=
  let s := s.setFol (fun x =>
    let x := { x with map := putAt x.map p k, used := updAt x.used (p % 4) (· + 1) }
    if x.whole p then { x with torn := x.torn.filter (· != p) } else x)
  s.ledger 173

/-! ### Master transactions (R488 to R494) -/

/-- First protected window offset (R494). -/
def protFrom (bp : Nat) : Nat := if bp = 0 then 0x20000 else if bp = 1 then 0x18000 else if bp = 2 then 0x10000 else 0

/-- The last window offset that a program of this transaction's next page would write. -/
def FolTxn.last (t : FolTxn) : Nat := t.off + min t.data.length (64 - t.off % 64) - 1

/-- Writes to these bytes are protected. -/
def State.protHit (s : State) (t : FolTxn) : Bool := t.n == 0 && decide (protFrom s.fol.prot ≤ t.last)

/-- The transaction's next access is answered REFUSED (R492).
(DEDUCED, log entry 90, unsafe.) -/
def State.folRefuses (s : State) (t : FolTxn) : Bool :=
  s.folRecall || s.folPfi || (t.n == 0 && (!s.folWindow || s.protHit t))

/-- The request of `w` that waits for Folio is told the outcome: refused, or done with these bytes. -/
def State.reqOutcome (s : State) (w : Requester) (refused : Bool) (data : List Byte) : State :=
  { s with reqs := s.reqs.map (fun r =>
      if r.who ≠ w ∨ r.wait.isNone then r
      else if refused then { r with wait := none, status := 4 }
      else { r with
        wait := none, k := r.wait.getD r.k
        out := r.out ++ (List.range (data.length / 4)).map (fun i => numAt data (4 * i) 4) }) }

/-- A refusal is counted (R492); a Curator holds the counter in reset (R460).
(DEDUCED, log entry 123, unsafe.) -/
def State.refCount (s : State) : State := s.cond (!s.plantHeld) (·.count F.FOL_REFCNT 168)

/-- A refusal is counted (R492) and reported. -/
def State.folRefuse (s : State) (t : FolTxn) : State :=
  let s := s.refCount
  let s := s.cond (s.protHit t && !s.folRecall && !s.folPfi && s.folWindow) (·.setF F.FOL_STAT_PROTREF 1)
  (s.setFol (fun x => { x with txn := none, held := x.held && t.who != .port })).reqOutcome t.who true []

/-- Every waiting transaction is refused at once (R493, R505). -/
def State.folRefuseAll (s : State) : State :=
  let l := s.fol.txns
  (s.setFol (fun x => { x with txns := [] })).each l (fun t x => t.refCount.reqOutcome x.who true [])

/-- Nothing of a master is left at Folio: what waits or is part-way is refused (R492). -/
def State.folShut (s : State) : State :=
  let s := (s.setFol (fun x => { x with txn := none, held := false })).folRefuseAll
  s.each (s.reqs.filter (fun r => r.wait.isSome)) (fun u r => u.refCount.reqOutcome r.who true [])

/-- A write of FOL_PROT is taken (R495): programmed, unless its value is the stored one; refused while Folio refuses every
access; discarded in a closed window.
(DESIGN CHOICE, log entry 91, unsafe; DEDUCED, log entry 131, unsafe.) -/
def State.protTake (s : State) (v m : Nat) : State :=
  if v = s.fol.prot then s
  else if s.folRecall || s.folPfi then s.refCount
  else if !s.folWindow then s.reject m F.FOL_PROT_BP.addr
  else s.startProg (.prot v) []

/-- The next page of a write transaction is judged, and its program starts.
(DEDUCED, log entry 90, unsafe.) -/
def State.folWritePage (s : State) (t : FolTxn) : State :=
  if s.folRefuses t then s.folRefuse t
  else
    let n := 64 - t.off % 64
    let s := s.setFol (fun x => { x with txn := some { t with off := t.off + n, data := t.data.drop n } })
    s.startProg .txn (s.pageParts 1 t.off (t.data.take n))

/-- A transaction is taken: a read is answered, a write starts its first program, a word that ends no page goes to the
page buffer (R488). -/
def State.folTake (s : State) (t : FolTxn) : State :=
  match t.prot with
  | some (v, m) => s.protTake v m
  | none =>
    if t.n = 0 ∧ t.data = [] then s.reqOutcome t.who false []
    else if s.folRefuses t then s.folRefuse t
    else if t.n ≠ 0 then
      let r := s.folRead t.off t.n
      r.1.reqOutcome t.who false r.2.1
    else s.folWritePage t

/-- The free Folio takes the master access that waits first (R490). A transaction of the service port that is clocked
word by word holds it from then on, and while it does no other access is taken (R584). -/
def State.folAccess (s : State) : State :=
  if !s.folFree || s.fol.txn.isSome then s
  else
    match s.fol.txns.filter (fun t => !s.fol.held || decide (t.who = .port)) with
    | [] => s
    | t :: _ =>
      let hold := s.svc.split && t.who == .port
      (s.setFol (fun x => { x with txns := x.txns.erase t, held := x.held || hold })).folTake t

/-- The protection update in hand is an internal job, not a master's write of FOL_PROT. -/
def State.protInHand (s : State) : Bool :=
  match s.fol.hand with
  | some w => w.job.order == 8
  | none => false

/-- A program ends (R488). -/
def State.progEnd (s : State) : State :=
  match s.fol.prog with
  | none => s
  | some q =>
    if q.src = .save then s
    else
      let s := s.each q.pages (·.pageDone ·)
      let s := (s.setFol (fun x => { x with prog := none })).setF F.FOL_STAT_BUSY 0
      match q.src with
      | .txn =>
        (match s.fol.txn with
        | none => s
        | some t =>
          if t.data.isEmpty then (s.setFol (fun x => { x with txn := none })).reqOutcome t.who false []
          else s.folWritePage t)
      | .job => s.groupDone
      | .prot v => (s.setProt v).cond s.protInHand (·.groupDone)
      | .map p k => (s.setMap p k).groupDone
      | .save => s

/-! ### The save area (R500 to R506) -/

/-- Word `w` of FOL_LIVE.
(DEDUCED, log entry 93, unsafe.) -/
def State.live (s : State) (w : Nat) : Nat := s.rd (F.FOL_LIVE w).addr

/-- The save image: FOL_LIVE with SEQ, SESSION and CRC (R500). -/
def State.saveImage (s : State) (seq session : Nat) : List Byte :=
  let b := word4 seq ++ half2 session ++ half2 (s.live 1 / 65536)
    ++ (List.range 61).flatMap (fun k => word4 (s.live (k + 2))) ++ half2 (s.live 63)
  b ++ half2 (crc16 b)

/-- First page of a save slot (R496). -/
def slotPage (b : Nat) : Nat := 1024 + 4 * b

/-- The power-down save starts (R505). -/
def State.startSave (s : State) : State :=
  let none_ := s.on F.FOL_STAT_NOSAVE
  let seq := if none_ then 1 else (s.f F.FOL_SAVE + 1) % 2 ^ 32
  let slot := if none_ then 0 else 1 - s.f F.FOL_STAT_SLOT
  let img := s.saveImage seq (s.f F.FOL_SESSION_OPENSEQ)
  let pages := s.pageParts 4 (64 * slotPage slot) img
  let s := s.setFol (fun x => { x with saveMade := true, latch := pages.map (·.bytes) })
  s.startProg .save pages

/-- A save is made at this acceptance of PFI_N (R505, R506).
(DEDUCED, log entry 92, unsafe.) -/
def State.saveAllowed (s : State) : Bool :=
  s.fol.restored && !s.on F.BOOT_STAT_RECOVERY && !s.halted && s.folWindow && !s.fol.saveMade

/-- PFI_N is accepted (R505). -/
def State.pfi (s : State) : State :=
  let ok := s.saveAllowed
  let s := (s.setF F.FOL_STAT_PFI 1).safeAssert .pfi
  let s := (s.dropJobs.dropHand.abandonProg).folShut
  if ok then s.startSave else s

/-- A save slot as the restore reads it: valid when the CRC checks and no byte fails (R503). -/
def State.readSlot (s : State) (b : Nat) : Option (List Byte) × State :=
  let r := s.folRead (64 * slotPage b) 256
  (if r.2.2 && crc16 (r.2.1.take 254) == numAt r.2.1 254 2 then some r.2.1 else none, r.1)

/-- FOL_LIVE takes a save image. -/
def State.loadLive (s : State) (img : List Byte) : State :=
  s.each (List.range 64) (fun t w => t.wr (F.FOL_LIVE w).addr (numAt img (4 * w) 4))

/-- The newest valid slot is restored (R503). -/
def State.restoreSave (s : State) : State :=
  let a := s.readSlot 0
  let b := a.2.readSlot 1
  let s := b.2
  let pick : Option (Nat × List Byte) := match a.1, b.1 with
    | some x, some y => some (if newer32 (numAt y 0 4) (numAt x 0 4) then (1, y) else (0, x))
    | some x, none => some (0, x)
    | none, some y => some (1, y)
    | none, none => none
  let s := s.setFol (fun x => { x with restored := true })
  match pick with
  | some (k, img) =>
    let s := (s.loadLive img).setF F.FOL_STAT_SLOT k
    (s.setF F.FOL_SAVE (numAt img 0 4)).setF F.FOL_SESSION_SLOTSESS (numAt img 4 2)
  | none => ((s.loadLive []).setF F.FOL_STAT_NOSAVE 1).setF F.FOL_SESSION_SLOTSESS 0

/-- The session page is compared with the restored session, and a new session opened (R504). -/
def State.openSession (s : State) : State :=
  let r := s.folRead 0x10200 4
  let s := r.1
  let valid := r.2.2 && crc16 (r.2.1.take 2) == numAt r.2.1 2 2
  let opened := numAt r.2.1 0 2
  let sess := s.f F.FOL_SESSION_SLOTSESS
  let nosave := s.on F.FOL_STAT_NOSAVE
  let missed := !valid || nosave || opened != sess
  let s := s.cond missed (fun t => (t.setF F.FOL_STAT_MISSED 1).wr (F.FOL_LIVE 1).addr (orN (t.live 1) 65536))
  let s := s.log 0x0B 0x10 (s.f F.FOL_STAT_SLOT + 2 * b2n nosave + 4 * b2n missed) (s.f F.FOL_SAVE) none true
  let s := s.setF F.FOL_SESSION_OPENSEQ ((if valid then opened else sess) + 1)
  s.queueJob .session

/-- The recall scan ends (R497). What a power-on reset restores is still to be restored when another reset has cut off its
scan (R503, R504).
(DEDUCED, log entry 28, unsafe.) -/
def State.recallEnd (s : State) : State :=
  let s := s.setFol (fun x => { x with
    torn := x.intent.foldl (fun l i => match i with
      | some p => addSorted l p
      | none => l) x.torn
    intent := x.intent.map (fun _ => none) })
  let s := s.setF F.FOL_TORN_NTORN s.fol.torn.length
  let s := s.setF F.FOL_STAT_RECALL 0
  let s := { s with boot := { s.boot with recalled := true } }
  if s.fol.restored then s else s.restoreSave.openSession

/-- The learned rates are restored when their record is valid (R357, R508). -/
def State.restoreRates (s : State) : State :=
  let d := s.folRead 0x10300 512
  let t := d.1.folRead 0x10500 8
  let s := t.1
  if d.2.2 && t.2.2 && crc32 d.2.1 == numAt t.2.1 0 4 then
    s.each (List.range 64) (fun u z =>
      (u.setM (zoneAddr z + 0x90) (numAt d.2.1 (8 * z) 4)).setM (zoneAddr z + 0x94) (numAt d.2.1 (8 * z + 4) 4))
  else s

/-- An empty Vault is loaded from a valid copy of the same image and marked COLD (R477). -/
def State.loadVault (s : State) : State :=
  if s.f F.PAIR_CFG_MODE ≠ 1 ∨ !s.pair.vaultEmpty then s
  else
    let h := s.folRead 0 256
    let s := h.1
    if h.2.2 && bit (numAt h.2.1 16 4) 0 && numAt h.2.1 8 8 == s.fprint then
      let b := s.folRead 0x100 (s.planEnd - 0x100)
      let s := b.1
      let s := s.setBytes vaultBase (h.2.1.take 16 ++ word4 3 ++ h.2.1.drop 20 ++ b.2.1)
      { s.setF F.PAIR_STAT_COLD 1 with pair := { s.pair with vaultEmpty := false } }
    else s

/-- The reads of Folio that the boot makes once the recall has ended and the unit state is decided. They wait for a
program to end (R489). -/
def State.bootReads (s : State) : State :=
  if s.boot.recalled && s.boot.decided && !s.on F.BOOT_STAT_RECOVERY then
    let s := { s with boot := { s.boot with reads := !s.folFree } }
    if s.folFree then s.restoreRates.loadVault else s
  else s

/-- A program has ended: the reads of the boot that waited for it are made. -/
def State.readsLeft (s : State) : State := s.cond s.boot.reads (·.bootReads)

/-! ### Commands -/

/-- The pages whose remap waits or is in hand. -/
def State.remapQueue (s : State) : List Nat :=
  (s.fol.jobs ++ (s.fol.hand.map (·.job)).toList).filterMap (fun j => match j with
    | .remap q => some q
    | _ => none)

/-- Bank `b` has a spare that is free and that no waiting remap will take. -/
def State.spareFree (s : State) (b : Nat) : Bool :=
  decide (s.nextSpare b + (s.remapQueue.filter (fun q => q % 4 == b)).length < 16)

/-- A write of FOL_REMAP (R509): the flag says that it was accepted.
(DEDUCED, log entry 92, unsafe.) -/
def State.remapWrite (s : State) (w : Nat) : State × Bool :=
  let p := w % 2048
  if w / 2 ^ 31 = 0 then (s, true)
  else if s.remapQueue.contains p || !s.spareFree (p % 4) then (s, false)
  else (s.queueJob (.remap p), true)

/-- A write of FOL_PROT (R495): the flag says that it was accepted. While every access is refused, so is the program of
its cells (R492). It is a transaction to Folio like another: it is programmed at once, or waits behind those before it.
Until `State.protBy` names its master, its code is 3.
(DESIGN CHOICE, log entry 91, unsafe; DEDUCED, log entry 131, unsafe.) -/
def State.protWrite (s : State) (w : Nat) : State × Bool :=
  let v := w % 4
  if v = s.fol.prot then (s, true)
  else if !s.folWindow then (s, false)
  else if s.folRecall || s.folPfi then (s.refCount, true)
  else
    let s := s.setFol (fun x => { x with jobs := x.jobs.filter (fun j => j.order != 8) })
    if s.folFree && s.fol.txn.isNone && s.fol.txns.isEmpty && !s.fol.held then (s.startProg (.prot v) [], true)
    else (s.setFol (fun x => { x with txns := x.txns ++ [⟨.gone, some (v, 3), 0, [], 0⟩] }), true)

/-- The master whose code is `who` has made the writes of FOL_PROT that wait without a name. -/
def State.protBy (s : State) (who : Nat) : State :=
  s.setFol (fun x => { x with txns := x.txns.map (fun t => { t with
    prot := t.prot.map (fun p => (p.1, if p.2 = 3 then who else p.2)) }) })

/-- An image write of FOL_PROT (R495): a value equal to the stored one does nothing. -/
def State.protImage (s : State) (v : Nat) : State :=
  if v = s.fol.prot then s
  else (s.setFol (fun x => { x with jobs := x.jobs.filter (fun j => j.order != 8) })).queueJob (.prot v)

/-- A write of FOL_UCINC (R500). -/
def State.ucWrite (s : State) (w : Nat) : State := s.each (bitsOf w 8) (fun t n => t.liveAdd (38 + n) 1)

/-- A write of a word of FOL_LIVE (R502); SEQ, SESSION, FLAGS, the reserved words and CRC are read-only.
(DEDUCED, log entry 93, unsafe.) -/
def State.liveWrite (s : State) (i w : Nat) : State :=
  if i = 0 ∨ i = 1 ∨ i = 29 ∨ 46 ≤ i then s else s.wr (F.FOL_LIVE i).addr w

/-- The energy accumulators add their points (R501). -/
def State.energy (s : State) : State :=
  s.each [0, 1, 2, 3] (fun t k =>
    let p := t.f (F.FOL_ENPT_POINT k)
    if t.on (F.FOL_ENPT_EN k) && t.ptGood p then
      let lo := 30 + 2 * k
      let e := toS 64 (t.live lo + 2 ^ 32 * t.live (lo + 1)) + t.ptVal p
      let v := ofI 64 (clampI (-9223372036854775808) 9223372036854775807 e)
      (t.wr (F.FOL_LIVE lo).addr v).wr (F.FOL_LIVE (lo + 1)).addr (v / 2 ^ 32)
    else t)

/-- The retained counters of a second (R500).
(DEDUCED, log entry 93, unsafe.) -/
def State.liveSecond (s : State) : State :=
  let s := s.cond (s.fol.restored) (·.liveAdd 2 1)
  let s := s.each (List.range 6) (fun t d =>
    t.cond (decide (1 ≤ t.driveState d) && decide (t.driveState d ≤ 5)) (·.liveAdd (4 + d) 1))
  s.cond s.active (fun t => (t.liveAdd 3 1).energy)

/-- FOL_PGINFO (R510). -/
def State.pgInfo (s : State) : Nat :=
  let p := s.f F.FOL_PGSEL_PAGE
  s.fol.count (s.fol.phys p) + (match lookupAt s.fol.map p with
    | some k => 2 ^ 24 * k + 2 ^ 30
    | none => 0) + 2 ^ 31 * b2n (s.fol.torn.contains p)

/-- FOL_SPARES. -/
def State.sparesWord (s : State) : Nat :=
  let u := fun k => s.fol.used.getD k 0
  u 0 + 2 ^ 8 * u 1 + 2 ^ 16 * u 2 + 2 ^ 24 * u 3

/-- The check of enabled energy points against the whole slot (R511). -/
def State.folOk (s : State) : Bool :=
  [0, 1, 2, 3].all (fun k => !s.on (F.FOL_ENPT_EN k) || s.ptType (s.f (F.FOL_ENPT_POINT k)) != 0)

/-- POWER_DOWN_SAVE_END: the four pages of the save are written (R505). -/
def execPowerDownSaveEnd (s : State) : Result :=
  .next (match s.fol.prog with
    | some q =>
      if q.src = .save then
        let seq := numAt ((s.fol.latch.getD 0 [])) 0 4
        let s := s.each q.pages (·.pageDone ·)
        let s := (s.setFol (fun x => { x with prog := none })).setF F.FOL_STAT_BUSY 0
        ((s.setF F.FOL_STAT_SAVED 1).setF F.FOL_SAVE seq).readsLeft
      else s
    | none => s)

end Sys2Proof.Machine
end

