-- ==== Sys2Proof/Machine/Reset.lean ====
section
/-! DEFINITION. Resets (R59 to R64), the clear of what an image writes (R90), the start of boot step 3, changes of the
unit state, and the stops that THERMAL_HALT and demotion share. -/

namespace Sys2Proof.Machine

/-! ### Resets -/

/-- The bits of the register at `a` that AON keeps (R60).
(DEDUCED, log entry 27, unsafe.) -/
def aonMask (a : Nat) : Nat :=
  match findReg a with
  | some r => r.aon
  | none => 0

/-- A listed register after a reset other than power-on.
(DEDUCED, log entry 27, unsafe.) -/
def keepAon (e : Nat × Word) : Option (Nat × Word) :=
  let m := aonMask e.1
  let w := BitVec.ofNat 32 (andN e.2.toNat m + andNot (resetWord e.1).toNat m)
  if w = resetWord e.1 then none else some (e.1, w)

/-- What a reset other than power-on keeps of Folio: the array, and the program in progress with what it is for (R62,
R489, R530).
(DEDUCED, log entry 28, unsafe.) -/
def Folio.afterReset (x : Folio) : Folio :=
  { x with jobs := [], hand := x.lastGroup, txns := [], txn := none, held := false }

/-- Folio after such a reset: BUSY shows the program that runs on, FOL_PROT the stored value. -/
def State.folAfter (s : State) : State :=
  (s.setB F.FOL_STAT_BUSY s.fol.prog.isSome).setF F.FOL_PROT_BP s.fol.prot

/-- Every reset: the boot starts over, nothing is pending anywhere, the outputs are reset-safe (R59, R64, R560). -/
def State.clearRun (s : State) : State :=
  { s with shadow := [], annFifo := [], holdFrames := 0, boot := .reset, safe := ⟨[], false, 0⟩, adc := .reset,
           pwm := .reset, ce := .reset, alm := .reset, can := List.replicate 2 .reset,
           zp := List.replicate 2 .reset, pair := { Pair.reset with vaultEmpty := s.pair.vaultEmpty },
           thm := .reset, fox := { Foxing.reset with eq := s.fox.eq, eqDue := s.fox.eqDue }, snap := none,
           svc := ⟨false, [], 0, false⟩, reqs := [] }

/-- Outside the times of R546 a detent in progress is dropped: decoding starts again at the rest state. -/
def Enc.drop (e : Enc) : Enc := { e with steps := if e.a && e.b then some 0 else none }

/-- The detents in progress of both encoders are dropped (R546). -/
def State.encDrop (s : State) : State := { s with pnl := { s.pnl with encs := s.pnl.encs.map Enc.drop } }

/-- A reset other than power-on, with its cause bit (R59, R60). The states of the Perennial links start anew (R265).
(DEDUCED, log entry 26, safe; DEDUCED, log entry 27, unsafe.) -/
def State.otherReset (s : State) (cause : Fld) : State :=
  let hand := s.fol.afterReset.hand
  let s := { s.clearRun with
    regs := s.regs.filterMap keepAon, mem := Memory.clear s.mem 0x141000 0x142000, fol := s.fol.afterReset
    thm := { Thermal.reset with progNum := if hand.isSome then s.thm.progNum else none }
    clk := { s.clk with link3 := false, por := false } }
  ((s.setF cause 1).folAfter).encDrop

/-- The program in progress outlasts a power-on reset: a power-down save, when only VDDC has fallen (R505, R612). -/
def State.saveLasts (s : State) (core : Bool) : Bool := core && s.fol.prog.any (fun q => decide (q.src = .save))

/-- A power-on reset (R60). A program in progress is cut off (R498), but for a save whose rails still hold (R612).
(DESIGN CHOICE, log entry 8, unsafe; DEDUCED, log entry 28, unsafe.) -/
def State.powerReset (s : State) (core : Bool) : State :=
  let lasts := s.saveLasts core
  let s := match s.fol.prog with
    | some q => s.cond (!lasts) (fun t => t.dropHand.tearProg q)
    | none => s
  let s := { s.clearRun with
    regs := [], mem := [], pnl := .reset, fox := .reset, clk := ⟨false, false, true, false⟩
    fol := { s.fol.afterReset with
      latch := if lasts then s.fol.latch else List.replicate 4 [], restored := false, saveMade := false }
    pair := .reset }
  s.folAfter

/-! ### Boot step 3, and the clear of a failed image -/

/-- Offset within a controller's window at which masters and images write object words; none outside the objects. -/
def objOffset (a : Nat) : Option Nat :=
  let o := a % 0x8000
  if 0x1000 ≤ o ∧ o < 0x3800 then some ((o - 0x1000) % 0x50) else none

/-- The bits that an image may have set in a word of no register: a message object's (R408).
(DEDUCED, log entry 29, unsafe.) -/
def unwriteObj (a : Nat) : Nat := if blockOf a = 7 ∧ (objOffset a).isSome then 4294967295 else 0

/-- The words of a register that an image may have written return to their reset value, message objects with them
(R90), BOOT_PREF among them. No image may touch FOL_LIVE (R511), and FOL_PROT reads the stored value (R495).
(DEDUCED, log entry 29, unsafe.) -/
def unwrite (e : Nat × Word) : Option (Nat × Word) :=
  let m := match findReg e.1 with
    | some r => if e.1 = F.FOL_PROT_BP.addr ∨ r.name = "FOL_LIVE" then 0
        else if e.1 = F.CRT_FRAMECFG_NF.addr then 4294967295 else orN r.rw r.rwl
    | none => unwriteObj e.1
  let w := BitVec.ofNat 32 (andNot e.2.toNat m + andN (resetWord e.1).toNat m)
  if w = resetWord e.1 then none else some (e.1, w)

/-- Every register and memory that an image may target returns to its reset state, both copies of a shadowed one, the
staging area excepted (R86, R90).
(DEDUCED, log entry 29, unsafe.) -/
def State.clearImage (s : State) : State :=
  let s := { s with regs := s.regs.filterMap unwrite, shadow := [], holdFrames := 0 }
  let s := { s with mem := Memory.clear (Memory.clear s.mem 0 0x80000) 0x100000 0x200000 }
  let s := s.each (List.range 6) (fun t g => t.setGrp g (fun q => { q with nextAngle := 0 }))
  s.setFol (fun x => { x with jobs := x.jobs.filter (fun j => j.order != 8) })

/-- PHASE shows step `k`. -/
def State.phase (s : State) (k : Nat) : State := s.setF F.BOOT_STAT_PHASE k

/-- The boot is at `st`. -/
def State.toStage (s : State) (st : BootStage) : State := { s with boot := { s.boot with stage := st } }

/-- Step 3: the plane memories are zeroed, with what waits in their shadows; the flash is negotiated (R65).
(DEDUCED, log entry 26, safe.) -/
def State.bootFlash (s : State) : State :=
  let s := { s with
    mem := Memory.clear s.mem 0 0x200000, shadow := s.shadow.filter (fun e => !inMem e.1)
    boot := { s.boot with decided := false, alone := false, rest := [], sects := [], seen := [], wrote := [] } }
  ((s.setF F.BOOT_STAT_RECOVERY 0).toStage .flash).phase 3

/-- Steps 3 onward with slot `k` alone (R94). -/
def State.goSlot (s : State) (k : Nat) : State :=
  let s := s.bootFlash
  { s with boot := { s.boot with alone := true, cur := k } }

/-! ### Unit state -/

/-- The unit takes a state (R445); on leaving ACTIVE, FAILSRC and DUAL are cleared (R452, R481), and generators and
capture end (R323, R334). -/
def State.setUnit (s : State) (code : Nat) : State :=
  if s.unitCode = code then s
  else
    let s := if s.unitCode = 0 then
        (((s.setF F.PAIR_FAILSRC_SRC 0).setF F.PAIR_STAT_DUAL 0).gensAbort 0).capEnd false
      else s
    (s.setF F.PAIR_STAT_STATE code).setF F.SVC_IRQST_UNIT 1

/-- The Almanac stops; an evaluation in hand leaves nothing.
(DEDUCED, log entry 19, unsafe.) -/
def State.almHalt (s : State) : State :=
  { s with alm := { s.alm with due := false, armed := false, running := false, finished := false, staged := [] } }

/-- The link is off: no session, no lock; what waits to be sent, and a checkpoint being sent or assembled, is given up.
(DEDUCED, log entry 82, unsafe.) -/
def State.linkOff (s : State) : State :=
  let s := { s with pair := { s.pair with
    stage := .off, lock0 := false, lock1 := false, slow := false, asm := none, linkOut := [], mgmtOut := []
    ckSending := false, ckLeft := [], ckOut := [] } }
  ((s.setF F.PAIR_STAT_LINKUP 0).setF F.PAIR_STAT_PEERSTATE 7).setF F.PAIR_STAT_DUAL 0

/-- Every pin of drives and general channels is low (R64, R448). -/
def State.pinsLow (s : State) : State :=
  let s := s.each (List.range 6) (·.groupForce ·)
  s.each (List.range 32) (fun t c => t.setGpc c (fun q => { q with live := false, safe := false, pin := false }))

/-- The frame counter stops where it stands: a free position (R28, R523). -/
def State.frameStop (s : State) : State :=
  if s.boot.counting then
    let v := s.free
    { v.2.setF F.CRT_FRAMEPOS_POS (v.1 % s.nf) with boot := { s.boot with counting := false } }
  else s

/-- Engine, Almanac, bus controllers and link stop (R522). -/
def State.planesStop (s : State) : State := (((s.engineHalt.almHalt).canStop 0).canStop 1).linkOff

end Sys2Proof.Machine
end

