-- ==== Sys2Proof/Machine/Thermal.lean ====
section
/-! DEFINITION. Thermal watch (R513 to R532): sensors, levels, thermal state, WARM, HOT and THERMAL_HALT, the shutdown
record, and leaving HOT. -/

namespace Sys2Proof.Machine

/-- The state with thermal watch's hidden part changed. -/
def State.setThm (s : State) (f : Thermal → Thermal) : State := { s with thm := f s.thm }

/-- Sensor `k` is broken (R514). -/
def State.broken (s : State) (k : Nat) : Bool := s.f (F.THM_TS_CAUSE k) != 0

/-- Flag `j` of sensor `k`: 0 WLO, 1 WHI, 2 WV, 3 HV. -/
def State.tsFlag (s : State) (k j : Nat) : Bool := bit (s.f (F.THM_TS_FLAGS k)) j

/-- A reading in 1/16 °C lies beyond the entry threshold of flag `j` (R516). -/
def enterLevel (j : Nat) (t : Int) : Bool :=
  match j with
  | 0 => decide (t < -400)
  | 1 => decide (1680 < t)
  | 2 => decide (1920 ≤ t)
  | _ => decide (2160 ≤ t)

/-- A reading lies beyond the exit threshold of flag `j`. -/
def leaveLevel (j : Nat) (t : Int) : Bool :=
  match j with
  | 0 => decide (-320 ≤ t)
  | 1 => decide (t ≤ 1600)
  | 2 => decide (t < 1840)
  | _ => decide (t < 2080)

/-- A flag and its count after a sample: set by 4 consecutive samples, cleared by 16 (R516). -/
def levelStep (j : Nat) (t : Int) (flag : Bool) (run : Nat) : Bool × Nat :=
  if flag then
    if leaveLevel j t then (if 16 ≤ run + 1 then (false, 0) else (true, run + 1)) else (true, 0)
  else
    if enterLevel j t then (if 4 ≤ run + 1 then (true, 0) else (false, run + 1)) else (false, 0)

/-- Sensor `k` is found broken with a cause (R514); it counts as having WV and HV set (R516).
(DEDUCED, log entry 94, unsafe.) -/
def State.breakSensor (s : State) (k cause : Nat) : State :=
  (s.setF (F.THM_TS_CAUSE k) cause).setF (F.THM_TS_FLAGS k) (orN (s.f (F.THM_TS_FLAGS k)) 12)

/-- One sample of sensor `k` (R513, R514, R516).
(DEDUCED, log entry 94, unsafe.) -/
def State.sensor (s : State) (k : Nat) (t : Int) : State :=
  if s.broken k then s
  else
    let x := s.thm
    let op := if 3200 ≤ t then x.opens.getD k 0 + 1 else 0
    let sh := if t ≤ -960 then x.shorts.getD k 0 + 1 else 0
    let runs := x.runs.getD k [0, 0, 0, 0]
    let lv := (List.range 4).map (fun j => levelStep j t (s.tsFlag k j) (runs.getD j 0))
    let flags := (List.range 4).foldl (fun a j => a + 2 ^ j * b2n (lv.getD j (false, 0)).1) 0
    let s := s.setThm (fun y => { y with
      opens := y.opens.set k op, shorts := y.shorts.set k sh, runs := y.runs.set k (lv.map (·.2))
      cool := y.cool.set k (if t < 1840 then min (y.cool.getD k 0 + 1) 10000 else 0) })
    let s := (s.setI (F.THM_TS_TEMP k) t).setF (F.THM_TS_FLAGS k) flags
    if 4 ≤ op then s.breakSensor k 1 else if 4 ≤ sh then s.breakSensor k 2 else s

/-- The sensors that are intact. -/
def State.intact (s : State) : List Nat := (List.range 4).filter (fun k => !s.broken k)

/-- The highest reading of the intact sensors. -/
def State.topTemp (s : State) : Option Int :=
  (s.intact.map (fun k => s.fi (F.THM_TS_TEMP k))).foldl (fun m t => match m with
    | none => some t
    | some u => some (max u t)) none

/-- The sensors with flag `j` set. -/
def State.votes (s : State) (j : Nat) : List Nat := (List.range 4).filter (fun k => s.tsFlag k j)

/-- The release condition of R526. -/
def State.mayRelease (s : State) : Bool :=
  decide (3 ≤ s.intact.length) && !s.on F.THM_STAT_AONCMP && s.intact.all (fun k => s.thm.cool.getD k 0 == 10000)

/-- The state that the table of R518 gives. -/
def State.thermalCode (s : State) : Nat :=
  if decide (2 ≤ (s.votes 3).length) || s.on F.THM_STAT_AONCMP then 2 else if (s.votes 2).isEmpty then 0 else 1

/-- A thermal state is taken; SV_IRQ cause THERM at a change (R599). -/
def State.setThermal (s : State) (k : Nat) : State :=
  if s.f F.THM_STAT_STATE = k then s else (s.setF F.THM_STAT_STATE k).setF F.SVC_IRQST_THERM 1

/-- The write window follows the state and the levels (R519); one that closes ends a Vault copy (R490). FOL_STAT of a
Curator is held in reset (R460).
(DEDUCED, log entry 96, unsafe; DEDUCED, log entry 123, unsafe.) -/
def State.windowUpdate (s : State) : State :=
  let w := s.f F.THM_STAT_STATE == 0 && s.intact.all (fun k => !s.tsFlag k 0 && !s.tsFlag k 1)
  let s := if !w && s.folWindow then s.dropVaultCopy else s
  (s.setB F.THM_STAT_WINDOW w).cond (!s.plantHeld) (·.setB F.FOL_STAT_WINDOW w)

/-- Entry to WARM from normal (R520, R521). A latch whose bursts no longer run is judged without them (R312). -/
def State.warmEnter (s : State) : State :=
  let s := s.count F.THM_WARMCNT 174
  let t := fun (k : Nat) => s.f (F.THM_TS_TEMP k)
  let s := s.log 0x0C 0x10 (s.f F.THM_STAT_BROKEN) (t 1 * 65536 + t 0) (some (t 3 * 65536 + t 2)) true
  (((s.calWarm).capEnd true).each (List.range 6) (·.latchJudge ·)).failSource 7

/-- The shutdown record of now, with NUM and LOST (R529); `code` is the unit state before HOT. -/
def State.hotRecord (s : State) (num code : Nat) (lost : Bool) : List Byte :=
  let flags := s.f F.ALM_STAT_RTCSET + 2 * b2n lost + 4 * s.f F.THM_STAT_LATCH + 8 * s.f F.THM_STAT_AONCMP
  let hv := (s.votes 3).foldl (fun a k => a + 2 ^ k) 0
  let b := word4 num ++ word4 (s.f F.ALM_RTC) ++ word4 (s.f F.THM_AONSEC)
    ++ leBytes 4 (flags + 256 * (s.f F.THM_STAT_BROKEN + 16 * hv) + 65536 * code)
    ++ (List.range 4).flatMap (fun k => half2 (s.f (F.THM_TS_TEMP k))) ++ leBytes 36 0
  b ++ word4 (crc32 b)

/-- The latch test and the shift of R528. -/
def State.hotTimes (s : State) : State :=
  let t0 := s.f (F.THM_HOTT 0)
  let t1 := s.f (F.THM_HOTT 1)
  let now := s.f F.THM_AONSEC
  let s := s.cond (t0 != 0xFFFFFFFF && t1 != 0xFFFFFFFF && decide (now ≤ t0 + 86400)) (·.setF F.THM_STAT_LATCH 1)
  (s.setF (F.THM_HOTT 0) t1).setF (F.THM_HOTT 1) now

/-- The boot is held: at step 2 when step 1 is still to end, and not where the memory self-test has stopped it for good
(R66, R524, R526).
(DEDUCED, log entry 95, unsafe.) -/
def State.holdBoot (s : State) : State :=
  if s.boot.stage = .bistFail ∨ s.boot.stage = .pll then s else s.toStage .held

/-- HOT stops a boot, or RECOVERY, at once and puts the unit in THERMAL_HALT (R524): the frame counter and the converters
stand, and the boot is held.
(DEDUCED, log entry 95, unsafe.) -/
def State.bootHalt (s : State) : State :=
  let s := s.frameStop.convertersDown.setF F.BOOT_STAT_RECOVERY 0
  ((s.setThm (fun x => { x with halt := true })).holdBoot).setUnit 5

/-- Entry to HOT (R522 to R530). Before the first tick the boot stops at once (R524).
(DEDUCED, log entry 95, unsafe; DEDUCED, log entry 96, unsafe.) -/
def State.hotEnter (s : State) : State :=
  let code := if s.boot.ticked ∧ s.unitKnown then s.unitCode else 0xFF
  let early := !s.boot.ticked
  let s := (s.setThermal 2).safeAssert .hot
  let s := s.calWarm.capEnd false
  let s := (s.planesStop.dropJobs).folRefuseAll
  let s := (s.setF F.THM_STAT_HOLD 1).hotTimes
  let lost := s.on F.THM_STAT_RECPEND
  let s := s.cond lost (·.setF F.THM_STAT_RECLOST 1)
  let r := s.hotRecord ((s.f (F.THM_REC 0) + 1) % 2 ^ 32) code lost
  let s := s.each (List.range 16) (fun t w => t.setF (F.THM_REC w) (numAt r (4 * w) 4))
  let s := s.setF F.THM_STAT_RECPEND 1
  let s := (s.count F.THM_HOTCNT 175).liveAdd 28 1
  if early then s.bootHalt else s

/-- A pending record is queued when recall has ended, the window is open and it is neither queued nor in hand (R530).
(DEDUCED, log entry 96, unsafe.) -/
def State.queueRecord (s : State) : State :=
  let busy := s.fol.jobs.contains .thermal || (match s.fol.hand with
    | some w => decide (w.job = .thermal)
    | none => false)
  if s.boot.recalled && s.on F.THM_STAT_RECPEND && s.folWindow && !busy then s.queueJob .thermal else s

/-- The state follows the table of R518 while the unit is not in HOT, or is leaving it. -/
def State.thermalDecide (s : State) : State :=
  let old := s.f F.THM_STAT_STATE
  let new := s.thermalCode
  if new = 2 then s.hotEnter
  else
    let s := s.setThermal new
    if old = 0 ∧ new = 1 then s.warmEnter else s

/-- A boot that is held continues from step 3 (R526, R527).
(DEDUCED, log entry 95, unsafe.) -/
def State.thermalContinue (s : State) : State :=
  let s := s.setThm (fun x => { x with halt := false })
  let s := (s.setF F.THM_STAT_HOLD 0).setF F.PAIR_STAT_STATE 0
  let s := if s.f F.THM_STAT_STATE = 2 then (s.setThermal s.thermalCode).clearImage else s
  (s.safeRelease .hot).bootFlash

/-- The held boot continues when recall has ended, the release condition holds and the latch is clear.
(DEDUCED, log entry 95, unsafe.) -/
def State.tryContinue (s : State) : State :=
  if s.boot.stage = .held ∧ s.boot.recalled ∧ s.mayRelease ∧ !s.on F.THM_STAT_LATCH then s.thermalContinue else s

/-- The sensor converter runs: from the end of boot step 1 (R513). -/
def State.sensorsOn (s : State) : Bool := s.boot.stage != .reset && s.boot.stage != .pll

/-- A sample of the four sensors (R513 to R530).
(DEDUCED, log entry 96, unsafe.) -/
def State.thermalSample (s : State) (t : List Int) : State :=
  let s := s.each (List.range 4) (fun u k => u.sensor k (t.getD k 0))
  let s := s.setThm (fun x => { x with samples := min (x.samples + 1) 1024 })
  let s := s.setF F.THM_STAT_BROKEN ((List.range 4).foldl (fun a k => a + 2 ^ k * b2n (s.broken k)) 0)
  let s := match s.topTemp with
    | some m => (s.setI F.THM_MAX_NOW m).setI F.THM_MAX_PEAK (max (s.fi F.THM_MAX_PEAK) m)
    | none => s
  let s := (if s.hot then s else s.thermalDecide).tryContinue
  (s.windowUpdate.setB F.THM_STAT_RELEASE s.mayRelease).queueRecord

/-- A test sample: an intact sensor whose reading does not move by 32 to 48 °C is stuck (R514). -/
def State.testSample (s : State) (d : List Int) : State :=
  let s := s.setThm (fun x => { x with samples := 0 })
  s.each (List.range 4) (fun t k =>
    let m := d.getD k 0
    if t.broken k || (decide (512 ≤ m) && decide (m ≤ 768)) then t
    else (t.breakSensor k 3).setBit F.THM_STAT_BROKEN k)

/-- SENSOR_TEST_SAMPLE: every 1 024 samples (R514). -/
def execSensorTestSample (d0 d1 d2 d3 : BitVec 16) (s : State) : Result :=
  .next (if s.sensorsOn && s.thm.samples == 1024 then s.testSample [d0.toInt, d1.toInt, d2.toInt, d3.toInt] else s)

/-- A sample of the AON comparator (R515): it trips after 4 hot samples and clears after 16 cool ones. -/
def State.comparator (s : State) (above : Bool) : State :=
  let on := s.on F.THM_STAT_AONCMP
  let run := if above == on then 0 else s.thm.aonRun + 1
  let flip := decide ((if on then 16 else 4) ≤ run)
  let s := s.setThm (fun x => { x with aonRun := if flip then 0 else run })
  let s := s.cond flip (·.setB F.THM_STAT_AONCMP (!on))
  if flip && !on && !s.hot then s.hotEnter.windowUpdate else s

/-- THERMAL_HALT_ENTRY: no program runs any more; the counter stops and the pins are reset-safe (R523). -/
def execThermalHaltEntry (s : State) : Result :=
  .next (if s.hot && !s.halted && s.folFree && s.boot.ticked then
    let s := (s.setThm (fun x => { x with halt := true })).pinsLow.convertersDown
    let s := { s.frameStop with pair := { s.pair with hb := false, hs := false } }
    s.setUnit 5
  else s)

end Sys2Proof.Machine
end

