-- ==== Sys2Proof/Machine/Panel.lean ====
section
/-! DEFINITION. Panel keys and encoders (R533 to R551). -/

namespace Sys2Proof.Machine

/-- The state with the panel's hidden part changed. -/
def State.setPnl (s : State) (f : Panel → Panel) : State := { s with pnl := f s.pnl }

/-- The unit is SHELVED, REJOINING or INELIGIBLE. -/
def State.aside (s : State) : Bool := s.standby || (s.unitKnown && s.unitCode == 4)

/-- The scanner's mode from the end of this scan on: fast, unless R536 makes it slow and no key has woken it (R537). -/
def State.scanFast (s : State) : Bool := !(s.clk.lost || s.halted || (s.aside && !s.on F.PNL_STAT_WOKEN))

/-- Masked keys. -/
def State.keyMask (s : State) : Nat := s.f (F.PNL_MASK 0) + 2 ^ 32 * s.f (F.PNL_MASK 1)

/-- The bitmap. -/
def State.keyMap (s : State) : Nat := s.f (F.PNL_KEYS 0) + 2 ^ 32 * s.f (F.PNL_KEYS 1)

/-- The state with the bitmap set. -/
def State.setKeys (s : State) (v : Nat) : State := (s.setF (F.PNL_KEYS 0) v).setF (F.PNL_KEYS 1) (v / 2 ^ 32)

/-- The state with the masks set. -/
def State.setMask (s : State) (v : Nat) : State := (s.setF (F.PNL_MASK 0) v).setF (F.PNL_MASK 1) (v / 2 ^ 32)

/-- The number whose bits `f` gives, below `n`. -/
def bitsNum (n : Nat) (f : Nat → Bool) : Nat := (List.range n).foldl (fun a k => a + 2 ^ k * b2n (f k)) 0

/-- Some rectangle has the keys at all four corners set (R539). -/
def ghost (m : Nat) : Bool :=
  (List.range 8).any (fun r => (List.range r).any (fun q =>
    decide (2 ≤ (bitsOf (andN (m / 2 ^ (8 * r) % 256) (m / 2 ^ (8 * q) % 256)) 8).length)))

/-- The keys that combination `n` uses, as a bitmap (R541).
(DEDUCED, log entry 97, unsafe.) -/
def State.comboKeys (s : State) (n : Nat) : Nat :=
  let w := s.rd (F.PNL_COMBO_KEYS_USED0 n).addr
  (List.range 4).foldl (fun a j => if bit w (8 * j + 7) then orN a (2 ^ getBits w (8 * j) 6) else a) 0

/-- Debounce: the keys whose state changes in this scan, and the equal-scan counts (R535, R538). -/
def State.debounce (s : State) (keys : Nat) : State :=
  let n := if s.pnl.fast then 4 else 2
  let x := s.pnl
  let run := fun (k : Nat) => if bit keys k == bit x.raw k then min (x.runs.getD k 0 + 1) 4 else 1
  s.setPnl (fun y => { y with
    raw := keys, runs := (List.range 64).map run
    deb := bitsNum 64 (fun k => if n ≤ run k then bit keys k else bit x.deb k) })

/-- Key `k` is masked after STUCK seconds pressed, and unmasked after 1 s released (R540). -/
def State.stuckStep (s : State) (old dt k : Nat) : State :=
  let down := bit s.pnl.deb k
  let masked := bit s.keyMask k
  let t := s.pnl.time.getD k 0
  let counts := down != masked
  let t' := if !counts then 0 else if bit old k == down then t + dt else 0
  if counts && !masked && decide (4000 * s.f F.PNL_CFG_STUCK ≤ t') then
    let s := (s.setMask (orN s.keyMask (2 ^ k))).count F.PNL_STUCKCNT 176
    (s.log 0x0D 0x10 k 0 none false).setPnl (fun y => { y with time := y.time.set k 0 })
  else if counts && masked && decide (4000 ≤ t') then
    (s.setMask (s.keyMask - 2 ^ k)).setPnl (fun y => { y with time := y.time.set k 0 })
  else s.setPnl (fun y => { y with time := y.time.set k t' })

/-- A swap request (R453): `who` is the master code. Outside ACTIVE it is discarded.
(DEDUCED, log entry 45, unsafe.) -/
def State.swapReq (s : State) (who : Nat) : State :=
  if s.active then { s with pair := { s.pair with swapLeft := 5 } } else s.reject who F.PAIR_SWAP_REQ.addr

/-- A combination acts (R543). A swap request that is discarded is logged before the combination, its SUBSYS being the
lower (R559). -/
def State.comboAct (s : State) (n : Nat) : State :=
  let act := s.f (F.PNL_COMBO_CFG_ACTION n)
  let s := (s.setBit F.PNL_COMBOSTAT_EVENT n).count F.PNL_FIRECNT 177
  let s := (s.cond (act == 1) (·.swapReq 3)).log 0x0D 0x11 (n + 16 * act) (s.keyMap % 2 ^ 32) none true
  match act with
  | 0 => s.otherReset F.CRT_RSTCAUSE_PANEL
  | 1 => s
  | 2 => ((s.setF F.BOOT_PREF_NEXT 2).setF F.BOOT_PREF_ONCE 1).otherReset F.CRT_RSTCAUSE_PANEL
  | _ => s.setF F.THM_STAT_LATCH 0

/-- Combination `n` at a bitmap update (R541, R542).
(DEDUCED, log entry 97, unsafe.) -/
def State.comboStep (s : State) (dt n : Nat) : State :=
  let keys := s.comboKeys n
  let holds := keys != 0 && s.keyMap == keys
  let before := bit (s.f F.PNL_COMBOSTAT_HOLDING) n
  let t := if holds && before then s.pnl.timers.getD n 0 + dt else 0
  let s := s.setPnl (fun y => { y with timers := y.timers.set n t })
  if !holds then (s.clrBit F.PNL_COMBOSTAT_HOLDING n).clrBit F.PNL_COMBOSTAT_FIRED n
  else
    let s := s.setBit F.PNL_COMBOSTAT_HOLDING n
    if s.on (F.PNL_COMBO_CFG_EN n) && !bit (s.f F.PNL_COMBOSTAT_FIRED) n
        && decide (400 * s.f (F.PNL_COMBO_CFG_HOLD n) ≤ t) then
      (s.setBit F.PNL_COMBOSTAT_FIRED n).comboAct n
    else s

/-- KEY_SCAN_END: a scan ends (R535 to R544). A scan that a reset falls into keeps its mode, whatever FAST reads.
(DEDUCED, log entry 139, unsafe.) -/
def execKeyScanEnd (keys : BitVec 64) (s : State) : Result :=
  .next (
    if s.boot.stage = .reset ∧ s.clk.por then s
    else
      let dt := if s.pnl.fast then 4 else 125
      let old := s.pnl.deb
      let s := s.debounce keys.toNat
      let fresh := andNot (s.pnl.deb % 2 ^ 32) (orN old s.keyMask) + andNot (s.pnl.deb / 2 ^ 32) (orN old s.keyMask / 2 ^ 32)
      let s := s.cond (fresh != 0 && s.aside) (·.setF F.PNL_STAT_WOKEN 1)
      let s := s.each (List.range 64) (fun t k => t.stuckStep old dt k)
      let s := s.setKeys (bitsNum 64 (fun k => bit s.pnl.deb k && !bit s.keyMask k))
      let g := ghost s.keyMap
      let s := s.cond (g && !s.on F.PNL_STAT_GHOST) (·.count F.PNL_GHOSTCNT 179)
      let s := s.setB F.PNL_STAT_GHOST g
      let s := (s.setB F.PNL_STAT_FAST s.scanFast).setPnl (fun y => { y with fast := s.scanFast })
      s.each (List.range 4) (fun t n => t.comboStep dt n))

/-- SCANNER_WAKE_TIMEOUT: no unmasked key has been pressed for 10 s (R537). The mode changes at the end of the scan in
progress (R536). -/
def execScannerWakeTimeout (s : State) : Result :=
  .next (if s.on F.PNL_STAT_WOKEN && s.keyMap == 0 then s.setF F.PNL_STAT_WOKEN 0 else s)

/-- A write of a combination register (R545). -/
def State.comboWritten (s : State) (n : Nat) : State :=
  (s.setPnl (fun y => { y with timers := y.timers.set n 0 })).clrBit F.PNL_COMBOSTAT_FIRED n

/-- The encoders are decoded (R546). -/
def State.encLive (s : State) : Bool :=
  (s.boot.stage != .reset && !s.boot.ticked) || s.on F.BOOT_STAT_RECOVERY || s.on F.PNL_CFG_ENCTEST

/-- The unit is in RECOVERY. -/
def State.recovery (s : State) : Bool := s.on F.BOOT_STAT_RECOVERY

/-- While the encoders are not decoded their detents in progress are dropped (R546). -/
def State.encStop (s : State) : State := s.cond (!s.encLive) (·.encDrop)

/-- Encoder 0 moves the selection in RECOVERY (R93). -/
def State.recMove (s : State) (by_ : Nat) : State := s.setF F.BOOT_RECSEL_POS ((s.f F.BOOT_RECSEL_POS + by_) % 3)

/-- A detent ends (R93, R548). -/
def State.detent (s : State) (k : Nat) (kind : DetentKind) : State :=
  match kind with
  | .up =>
    let s := s.setF (F.PNL_ENC_COUNT k) (s.f (F.PNL_ENC_COUNT k) + 1)
    s.cond (s.recovery && k == 0) (·.recMove 1)
  | .down =>
    let s := s.setF (F.PNL_ENC_COUNT k) (s.f (F.PNL_ENC_COUNT k) + 65535)
    s.cond (s.recovery && k == 0) (·.recMove 2)
  | .invalid => s.count F.PNL_ENCERRCNT 178

/-- Place of a pair (A, B) in the sequence 11, 01, 00, 10 that counts up (R548). -/
def encPlace (a b : Bool) : Nat := if a then (if b then 0 else 3) else (if b then 1 else 2)

/-- The pair becomes `(a, b)`: the encoder, and what ends with it (R548). A detent is judged by the steps left over when
the pair is at rest again.
(DESIGN CHOICE, log entry 140, unsafe.) -/
def Enc.turn (e : Enc) (a b : Bool) : Enc × Option DetentKind :=
  let d := (encPlace a b + 4 - encPlace e.a e.b) % 4
  let e := { e with a := a, b := b }
  match e.steps with
  | none => (e.drop, none)
  | some n =>
    if d = 2 then (e.drop, some .invalid)
    else
      let n : Int := if d = 1 then n + 1 else if d = 3 then n - 1 else n
      if a && b then (e.drop, if n = 4 then some .up else if n = -4 then some .down else none)
      else ({ e with steps := some n }, none)

/-- Encoder `k` of the panel. -/
def State.enc (s : State) (k : Nat) : Enc := s.pnl.encs.getD k .reset

/-- The state with encoder `k` set. -/
def State.setEnc (s : State) (k : Nat) (e : Enc) : State := s.setPnl (fun x => { x with encs := x.encs.set k e })

/-- The filtered pair of encoder `k` becomes `p` (R546 to R548). -/
def State.encMove (s : State) (k : Nat) (p : Bool × Bool) : State :=
  if s.encLive then
    let x := (s.enc k).turn p.1 p.2
    let s := s.setEnc k x.1
    match x.2 with
    | some kind => s.detent k kind
    | none => s
  else s.setEnc k ({ s.enc k with a := p.1, b := p.2 }.drop)

/-- ENCODER_DETENT: the filtered pair (A, B) takes the values of `path` in turn (R93, R546, R548). -/
def execEncoderDetent (k : Fin 2) (path : List (Bool × Bool)) (s : State) : Result :=
  .next (s.each path (fun t p => t.encMove k p))

/-- ENCODER_SWITCH_PRESS: the filtered level of ENCk_SW falls, or rises when `down` is false (R93, R94, R549).
(DEDUCED, log entry 35, unsafe; DEDUCED, log entry 97, unsafe.) -/
def execEncoderSwitchPress (k : Fin 2) (s : State) (down : Bool := true) : Result :=
  let fell := down && !(s.enc k).sw
  .next (
  let s := s.setEnc k { s.enc k with sw := down }
  if !s.encLive || !fell then s
  else
    let s := s.setF (F.PNL_ENC_SWEV k) 1
    if s.recovery && k == 0 && s.boot.prog.isNone && decide (s.f F.BOOT_RECSEL_POS < 2) then
      s.goSlot (s.f F.BOOT_RECSEL_POS)
    else s)

/-- The structural check of the PNL section (R550). -/
def State.pnlOk (s : State) : Bool :=
  (List.range 4).all (fun n =>
    let hold := s.f (F.PNL_COMBO_CFG_HOLD n)
    let w := s.rd (F.PNL_COMBO_KEYS_USED0 n).addr
    let used := (List.range 4).filter (fun j => bit w (8 * j + 7))
    let stuck := s.f F.PNL_CFG_STUCK
    !s.on (F.PNL_COMBO_CFG_EN n) || (decide (5 ≤ hold) && s.comboKeys n != 0
      && (bitsOf (s.comboKeys n) 64).length == used.length && !ghost (s.comboKeys n)
      && (List.range 4).all (fun m => m == n || !s.on (F.PNL_COMBO_CFG_EN m) || s.comboKeys m != s.comboKeys n)
      && stuck != 0 && decide (hold < 10 * stuck)))

end Sys2Proof.Machine
end

