-- ==== Sys2Proof/Machine/Monitor.lean ====
section
/-! DEFINITION. The monitor block (R552 to R579): Ledger and snapshots, Annals ring and persistent log, Foxing. -/

namespace Sys2Proof.Machine

/-! ### Ledger -/

/-- Codes that name an event source (R553). -/
def sourceOk (c : Nat) : Bool :=
  [(0, 11), (16, 48), (56, 60), (64, 81), (88, 111), (112, 122), (128, 138), (144, 153), (160, 166), (168, 186)].any
    (fun r => decide (r.1 ≤ c) && decide (c ≤ r.2))

/-- Counter `k` becomes 0 (R555). -/
def State.ledgerZero (s : State) (k : Nat) : State := (s.setF (F.LDG_CNT_LO k) 0).setF (F.LDG_CNT_HI_COUNT k) 0

/-- A write of LDG_CLR (R555). -/
def State.ledgerClr (s : State) (w : Nat) : State := s.each (bitsOf w 32) (·.ledgerZero ·)

/-- A write of LDG_CNTk_SEL (R553, R555): the flag says that it was accepted. -/
def State.ledgerSel (s : State) (k w : Nat) : State × Bool :=
  if sourceOk (w % 256) then
    (((s.setF (F.LDG_CNT_SEL_SRC k) w).setF (F.LDG_CNT_SEL_EN k) (w / 2 ^ 31)).ledgerZero k, true)
  else (s, false)

/-- A write of LDG_SNAPCTL (R556): the flag says that it was accepted. -/
def State.snapWrite (s : State) (w : Nat) : State × Bool :=
  if w % 4 = 2 ∧ !newer32 (s.f F.LDG_SNAPFRAME) s.frame then (s, false)
  else ((s.setF F.LDG_SNAPCTL_PER (w / 256)).setF F.LDG_SNAPCTL_MODE w, true)

/-- The tick of frame `n` takes the copies of a snapshot when one is due (R556, R557).
(DEDUCED, log entry 18, unsafe.) -/
def State.snapTick (s : State) (n : Nat) : State :=
  let m := s.f F.LDG_SNAPCTL_MODE
  let due := m == 1 || (m == 2 && n == s.f F.LDG_SNAPFRAME) || (m == 3 && n % 2 ^ s.f F.LDG_SNAPCTL_PER == 0)
  if due then
    let v := (List.range 32).map (fun k => s.f (F.LDG_CNT_LO k) + 2 ^ 32 * s.f (F.LDG_CNT_HI_COUNT k))
    let s := s.cond (m != 3) (·.setF F.LDG_SNAPCTL_MODE 0)
    { s with snap := some ⟨n, s.f F.ALM_RTC, v⟩ }
  else s

/-- SNAPSHOT: the copies are stored (R557). -/
def execSnapshot (s : State) : Result :=
  .next (match s.snap with
    | none => s
    | some x =>
      let s := s.each (List.range 32) (fun t k =>
        let v := x.vals.getD k 0
        (t.setF (F.LDG_SNAP_LO k) v).setF (F.LDG_SNAP_HI_COUNT k) (v / 2 ^ 32))
      let s := (s.setF F.LDG_SNAPINFO0 x.frame).setF F.LDG_SNAPINFO1 x.rtc
      { s.setF F.LDG_SNAPSTAT_SEQ (s.f F.LDG_SNAPSTAT_SEQ + 1) with snap := none })

/-! ### Annals -/

/-- BLK of an entry (R558). -/
def AnnEvent.blk (e : AnnEvent) (cont : Bool) : Nat :=
  e.subsys + 32 * b2n cont + 64 * b2n e.rtcSet + 128 * b2n e.crit

/-- Bytes 8 to 15 of an entry. -/
def AnnEvent.body (e : AnnEvent) (cont : Bool) (detail : Nat) : List Byte :=
  leBytes 1 (e.blk cont) ++ leBytes 1 e.code ++ half2 e.arg ++ word4 detail

/-- One entry is written to the ring, and queued for the persistent log when it is CRIT (R558 to R562). -/
def State.ringEntry (s : State) (e : AnnEvent) (cont : Bool) (detail : Nat) : State :=
  let w := s.f F.ANL_STAT_WPOS
  let a := 0x400D4000 + 16 * w
  let b := e.body cont detail
  let s := (((s.wr a e.frame).wr (a + 4) e.rtc).wr (a + 8) (numAt b 0 4)).wr (a + 12) detail
  let s := (s.setF F.ANL_STAT_WPOS (w + 1)).count F.ANL_TOTAL 180
  if e.crit then (s.setF F.SVC_IRQST_CRIT 1).queueJob (.annals e.rtc b) else s

/-- ANNALS_RING_WRITE: the oldest event leaves the FIFO; its two entries go one after the other (R559). -/
def execAnnalsRingWrite (s : State) : Result :=
  .next (match s.annFifo with
    | [] => s
    | e :: rest =>
      let s := { s with annFifo := rest }
      let s := s.ringEntry e false e.detail
      match e.cont with
      | some d => s.ringEntry e true d
      | none => s)

/-- Persistent entry `i`, when it is valid (R564). -/
def Folio.persistent (x : Folio) (i : Nat) : Option (List Byte) :=
  let l := (List.range 16).map (fun k => x.at (0x11000 + 16 * i + k))
  let b := l.map (·.getD 0xFF)
  if l.all (·.isSome) && crc16 (b.take 14) == numAt b 14 2 then some b else none

/-- `a` is newer than `b` as a persistent sequence number (R564). -/
def newer16 (a b : Nat) : Bool :=
  let d := (a + 65536 - b % 65536) % 65536
  decide (1 ≤ d) && decide (d ≤ 32767)

/-- The valid entry with the newest PSEQ among those that `f` admits, with its index. -/
def Folio.newestEntry (x : Folio) (f : List Byte → Bool) : Option (Nat × List Byte) :=
  ((List.range 256).filterMap (fun i => (x.persistent i).bind (fun b => if f b then some (i, b) else none))).foldl
    (fun m e => match m with
      | none => some e
      | some o => if newer16 (numAt e.2 4 2) (numAt o.2 4 2) then some e else some o) none

/-- An entry of SUBSYS `sub` and code `code`, no continuation. -/
def entryIs (sub code : Nat) (b : List Byte) : Bool := numAt b 6 1 % 64 == sub && numAt b 7 1 == code

/-- EQ is restored from the newest valid summary after a power-on reset (R567). -/
def State.restoreEq (s : State) : State :=
  let s := { s with fox := { s.fox with eqDue := false } }
  match s.fol.newestEntry (entryIs 0x0F 0x11) with
  | some e =>
    let h := numAt e.2 10 4 % 2 ^ 27
    { s.setF F.FOX_EQH h with fox := { s.fox with eq := 921600 * h } }
  | none => s.setF F.FOX_STAT_EQHLOST 1

/-- PERSISTENT_LOG_READ_END (R564, R567). -/
def execPersistentLogReadEnd (s : State) : Result :=
  .next (if s.boot.recalled && !s.on F.ANL_PSTAT_READY && s.folFree && !s.folPfi then
    let s := (s.folRead 0x11000 4096).1
    let p := match s.fol.newestEntry (fun _ => true) with
      | some e => (e.1 + 1, numAt e.2 4 2 + 1)
      | none => (0, 0)
    let s := ((s.setF F.ANL_PSTAT_PIDX p.1).setF F.ANL_PSTAT_PSEQ p.2).setF F.ANL_PSTAT_READY 1
    if s.fox.eqDue then s.restoreEq else s
  else s)

/-! ### Foxing -/

/-- The state with Foxing's hidden part changed. -/
def State.setFox (s : State) (f : Foxing → Foxing) : State := { s with fox := f s.fox }

/-- NFAC, limited to the steps there are.
(DESIGN CHOICE, log entry 7, safe.) -/
def nfac : Nat := min Config.nfac.toNat 20

/-- N, the voltage step in use; the register holds its distance from NFAC, so that it resets to NFAC (R569).
(DEDUCED, log entry 99, safe.) -/
def State.foxN (s : State) : Nat := (s.f F.FOX_VREQ_N + nfac) % 32

/-- The state with N set.
(DEDUCED, log entry 99, safe.) -/
def State.setN (s : State) (n : Nat) : State := s.setF F.FOX_VREQ_N (n + 32 - nfac)

/-- A decision of Foxing (R572). -/
def State.decision (s : State) (kind val : Nat) : State :=
  let s := (s.log 0x0F 0x10 kind val none true).ledger 183
  (s.setF F.FOX_LAST_KIND kind).setF F.FOX_LAST_VALUE val

/-- Scans are suspended (R520).
(DEDUCED, log entry 98, unsafe.) -/
def State.foxSuspended (s : State) : Bool := s.sheds

/-- An RTC second edge counts toward the next scan (R565). -/
def State.foxSecond (s : State) : State :=
  if !s.boot.ticked then s
  else if 9 ≤ s.fox.secs then
    s.setFox (fun x => { x with secs := 0, scanDue := !s.foxSuspended && !s.on F.FOX_CTL_SCANOFF })
  else s.setFox (fun x => { x with secs := x.secs + 1 })

/-- The clock domain `d` of R565 runs (R26, R69, R445); that of Folio, while Folio works (R26). -/
def State.domainRuns (s : State) (d : Nat) : Bool :=
  !(s.aside && (d == 2 || d == 4 || d == 5 || (d == 7 && s.fol.prog.isNone)))

/-- FOXING_SCAN (R565, R566, R570). -/
def execFoxingScan (slack : List (BitVec 16)) (bgdiff cref : BitVec 16) (s : State) : Result :=
  if slack.length ≠ 9 then .refused .illFormed
  else .next (if !s.fox.scanDue || !s.boot.ticked then s
  else
    let run := (List.range 9).filter s.domainRuns
    let v := fun (d : Nat) => (slack.getD d 0).toInt
    let s := s.each run (fun t d => (t.setI (F.FOX_SLACK_NOW d) (v d)).setI (F.FOX_SLACK_MIN d)
      (min (t.fi (F.FOX_SLACK_MIN d)) (v d)))
    let s := (s.setF F.FOX_REF_BGDIFF bgdiff.toNat).setF F.FOX_REF_CREF cref.toNat
    let first := !s.fox.scanned
    let s := s.setFox (fun x => { x with scanDue := false, scanned := true, cref0 := if first then cref.toInt else x.cref0 })
    let low := run.any (fun d => decide (1 ≤ d) && decide (d ≤ 7) && decide (v d < (s.f F.FOX_CFG_GUARD : Nat)))
    if low && !s.on F.FOX_CTL_VLOCK && decide (s.foxN < 20) then
      let s := (s.setN (s.foxN + 1)).ledger 184
      (s.setFox (fun x => { x with hiRuns := 0 })).decision 2 s.foxN
    else s)

/-- Smin: the lowest MIN of the core monitors (R565). -/
def State.smin (s : State) : Int :=
  ([1, 2, 3, 4, 5, 6, 7].map (fun d => s.fi (F.FOX_SLACK_MIN d))).foldl min 32767

/-- The voltage decision of a re-plan (R569).
(DEDUCED, log entry 98, unsafe.) -/
def State.planVoltage (s : State) : State :=
  let m := s.smin
  let n := s.foxN
  let target : Int := (s.f F.FOX_CFG_TARGET : Nat)
  if m < target then
    let s := s.setFox (fun x => { x with hiRuns := 0 })
    if n < 20 then (s.setN (n + 1)).decision 1 (n + 1)
    else (s.setF F.FOX_STAT_VCAP 1).decision 5 (ofI 32 m)
  else if target + (s.f F.FOX_CFG_BAND : Nat) ≤ m then
    let c := min (s.fox.hiRuns + 1) 24
    if c = 24 ∧ nfac < n then ((s.setFox (fun x => { x with hiRuns := 0 })).setN (n - 1)).decision 1 (n - 1)
    else s.setFox (fun x => { x with hiRuns := c })
  else s.setFox (fun x => { x with hiRuns := 0 })

/-- The calibration interval takes a new value, which is a decision (R573). -/
def State.planInt (s : State) (v : Nat) : State :=
  if s.f F.ADC_CALINT_INT = v then s else (s.setF F.ADC_CALINT_INT v).decision 3 v

/-- The calibration decision of a re-plan (R573). -/
def State.planCal (s : State) : State :=
  let drift := (s.fi F.FOX_REF_CREF - s.fox.cref0).natAbs
  let i := s.f F.ADC_CALINT_INT
  if s.f F.FOX_CALCFG_DRHI < drift then
    (s.setFox (fun x => { x with loRuns := 0 })).planInt (max (i / 2) (s.f F.FOX_CALCFG_INTMIN))
  else if drift < s.f F.FOX_CALCFG_DRLO then
    if 24 ≤ s.fox.loRuns + 1 then
      (s.setFox (fun x => { x with loRuns := 0 })).planInt (min (i * 2) (s.f F.FOX_CALCFG_INTMAX))
    else s.setFox (fun x => { x with loRuns := x.loRuns + 1 })
  else s.setFox (fun x => { x with loRuns := 0 })

/-- The pages of bank `b`. -/
def bankPages (b : Nat) : List Nat := (List.range 512).map (fun q => 4 * q + b)

/-- Write count of the physical page that serves page `p`. -/
def Folio.servingCount (x : Folio) (p : Nat) : Nat := x.count (x.phys p)

/-- The page of bank `b` that is not remapped and has the highest count at or above REMAPTH; the lowest of equals. -/
def State.wornPage (s : State) (b : Nat) : Option Nat :=
  ((bankPages b).filter (fun p => (lookupAt s.fol.map p).isNone
      && decide (s.f F.FOX_REMAPTH_COUNT ≤ s.fol.servingCount p))).foldl (fun m p => match m with
    | none => some p
    | some o => if s.fol.servingCount o < s.fol.servingCount p then some p else some o) none

/-- The placement decision of a re-plan (R574). A page that is queued already is discarded as a device's own write
(R509, R583). -/
def State.planPages (s : State) : State :=
  s.each [0, 1, 2, 3] (fun t b => match t.wornPage b with
    | none => t
    | some p =>
      if !t.spareFree b then t
      else
        let r := t.remapWrite (2 ^ 31 + p)
        if r.2 then r.1.decision 4 p else t.reject 3 F.FOL_REMAP_GO.addr)

/-- A bank with no free spare holds a page at REMAPTH or more (R575). -/
def State.bankWorn (s : State) : Bool :=
  [0, 1, 2, 3].any (fun b => decide (16 ≤ s.fol.used.getD b 0)
    && (bankPages b).any (fun p => decide (s.f F.FOX_REMAPTH_COUNT ≤ s.fol.servingCount p)))

/-- The values published at a re-plan (R575). -/
def State.publishLife (s : State) : State :=
  let hours := s.fox.eq / 921600
  let left := 175200 - hours
  let vhead := 20 - s.foxN
  let spmin := ([0, 1, 2, 3].map (fun b => 16 - s.fol.used.getD b 0)).foldl min 16
  let life := if left = 0 ∨ s.on F.FOX_STAT_VCAP ∨ s.bankWorn then 2
    else if left < 35040 ∨ vhead ≤ 2 ∨ spmin ≤ 2 then 1 else 0
  let s := s.cond (s.f F.FOX_STAT_LIFE != life) (·.setF F.SVC_IRQST_LIFE 1)
  let s := ((s.setF F.FOX_LIFEH left).setF F.FOX_HEAD_VHEAD vhead).setF F.FOX_HEAD_SPMIN spmin
  s.setF F.FOX_STAT_LIFE life

/-- What a re-plan decides and publishes (R568 to R575). -/
def State.replan (s : State) : State :=
  let s := s.setFox (fun x => { x with replanDue := false, replans := (x.replans + 1) % 24 })
  let s := s.cond (s.fox.scanned && !s.on F.FOX_CTL_VLOCK) (·.planVoltage)
  let s := s.cond (s.fox.scanned && !s.on F.ADC_CALCTL_FOXLOCK && !s.curator) (·.planCal)
  let s := s.cond (!s.on F.FOX_CTL_REMAPOFF && !s.plantHeld) (·.planPages)
  let s := s.each (List.range 9) (fun t d => t.setF (F.FOX_SLACK_MIN d) 0x7FFF)
  let s := (s.setFox (fun x => { x with scanned := false })).publishLife
  if s.fox.replans = 0 then
    s.log 0x0F 0x11 (s.f F.ADC_CALINT_INT) (s.foxN * 2 ^ 27 + s.fox.eq / 921600 % 2 ^ 27) none true
  else s

/-- FOXING_REPLAN (R568 to R575). -/
def execFoxingReplan (s : State) : Result :=
  .next (if !s.fox.replanDue || !s.boot.ticked || s.halted then s else s.inCycle (·.replan))

/-- A decision of kind `k`, or a summary. -/
def entryKind (k : Nat → Bool) (b : List Byte) : Bool :=
  entryIs 0x0F 0x11 b || (entryIs 0x0F 0x10 b && k (numAt b 8 2))

/-- At the first tick after a reset Foxing takes N and INT from the persistent log (R576). -/
def State.foxRestore (s : State) : State :=
  if !s.on F.ANL_PSTAT_READY then s
  else
    let s := if s.on F.FOX_CTL_VLOCK then s
      else match s.fol.newestEntry (entryKind (fun k => k == 1 || k == 2)) with
        | some e =>
          let n := if numAt e.2 7 1 = 0x11 then numAt e.2 10 4 / 2 ^ 27 else numAt e.2 10 4
          s.setN (min (max n nfac) 20)
        | none => s
    if s.on F.ADC_CALCTL_FOXLOCK || s.curator then s
    else match s.fol.newestEntry (entryKind (· == 3)) with
      | some e =>
        let i := if numAt e.2 7 1 = 0x11 then numAt e.2 8 2 else numAt e.2 10 4
        s.setF F.ADC_CALINT_INT (min (max i (s.f F.FOX_CALCFG_INTMIN)) (s.f F.FOX_CALCFG_INTMAX))
      | none => s

/-- A write of FOX_VREQ (R577): the flag says that it was accepted. -/
def State.vreqWrite (s : State) (w : Nat) : State × Bool :=
  let n := w % 32
  if s.on F.FOX_CTL_VLOCK && decide (nfac ≤ n) && decide (n ≤ 20) then (s.setN n, true) else (s, false)

/-- AON_SECOND: THM_AONSEC counts, EQ grows by the weight of the temperature, a re-plan may fall due (R528, R567,
R568).
(DEDUCED, log entry 98, unsafe.) -/
def execAonSecond (s : State) : Result :=
  .next (if s.boot.stage = .reset ∧ s.clk.por then s
  else
    let n := min (s.f F.THM_AONSEC + 1) (2 ^ 32 - 1)
    let t := match s.topTemp with
      | some x => clampI (-40) 150 (x / 16)
      | none => 150
    let s := s.setF F.THM_AONSEC n
    let s := s.setFox (fun x => { x with
      eq := min (x.eq + agingWeight t) (2 ^ 48 - 1), replanDue := x.replanDue || (s.boot.ticked && n % 3600 == 1800) })
    s.setF F.FOX_EQH (s.fox.eq / 921600))

/-- LDG and ANL section: codes and mode (R578). -/
def State.ldgOk (s : State) : Bool :=
  (List.range 32).all (fun k => sourceOk (s.f (F.LDG_CNT_SEL_SRC k))) && s.f F.LDG_SNAPCTL_MODE != 2

/-- FOX section (R578): N is judged as the image wrote it. -/
def State.foxOk (s : State) : Bool :=
  let lo := s.f F.FOX_CALCFG_INTMIN
  let hi := s.f F.FOX_CALCFG_INTMAX
  decide (s.f F.FOX_CFG_GUARD < s.f F.FOX_CFG_TARGET) && s.f F.FOX_CFG_BAND != 0 && decide (1 ≤ lo) && decide (lo ≤ hi)
    && decide (s.f F.FOX_CALCFG_DRLO < s.f F.FOX_CALCFG_DRHI) && s.f F.FOX_REMAPTH_COUNT != 0
    && (!s.on F.FOX_CTL_VLOCK || decide (s.foxN ≤ 20))

/-- An image's N below NFAC becomes NFAC (R578); without VLOCK the image requests nothing, and N is NFAC (R571, R577).
(DEDUCED, log entry 99, safe.) -/
def State.foxImage (s : State) : State :=
  if s.foxN < nfac then (s.setN nfac).setF F.FOX_STAT_VREQLOW 1
  else s.cond (!s.on F.FOX_CTL_VLOCK) (·.setN nfac)

end Sys2Proof.Machine
end

