-- ==== Sys2Proof/Machine/Zp.lean ====
section
/-! DEFINITION. The Zone Protocol layer (R413 to R442): partners, streams, OFFERs and terms, FD use, points in and
out, violations and quarantine, and what happens at each RTC second edge. -/

namespace Sys2Proof.Machine

/-! ### Words of the layer -/

/-- An idle stream. -/
def ZpStream.idle : ZpStream := ⟨0, none, true, []⟩

/-- A partner that has never been heard. -/
def Partner.none : Partner := ⟨0, 0, 0, 0, .none, false, 0, 0, false, false, 0, [], false, .idle⟩

/-- What no register holds of the layer on bus `b`. -/
def State.zb (s : State) (b : Nat) : ZpBus :=
  s.zp.getD b ⟨0, [], .idle, .idle, [], 0, false, false, [], [], none⟩

/-- The state with the layer on bus `b` changed. -/
def State.setZb (s : State) (b : Nat) (f : ZpBus → ZpBus) : State := { s with zp := updAt s.zp b f }

/-- What the partner table does not hold of partner `n`. -/
def State.pn (s : State) (b n : Nat) : Partner := (s.zb b).partners.getD n .none

/-- The state with partner `n` changed. -/
def State.setPn (s : State) (b n : Nat) (f : Partner → Partner) : State :=
  s.setZb b (fun z => { z with partners := updAt z.partners n f })

/-- STATE of partner `n`. -/
def State.ptState (s : State) (b n : Nat) : Nat := s.f (F.ZP_PT0_STATE b n)

/-- The nodes of bus `b` whose STATE is one of `l`. -/
def State.nodes (s : State) (b : Nat) (l : List Nat) : List Nat :=
  (List.range 127).filter (fun n => n != 0 && l.contains (s.ptState b n))

/-- ENb. -/
def State.zpEn (s : State) (b : Nat) : Bool := s.on (if b = 0 then F.ZP_CTL_EN0 else F.ZP_CTL_EN1)

/-- The layer runs on bus `b`. -/
def State.zpRuns (s : State) (b : Nat) : Bool := s.zpEn b && s.canState b == 3

/-- The device's node on bus `b`. -/
def State.ownNode (s : State) (b : Nat) : Nat := s.f (if b = 0 then F.ZP_NODE_NODE0 else F.ZP_NODE_NODE1)

/-- HOLDb. -/
def zpHold (b : Nat) : Fld := if b = 0 then F.ZP_FDSTAT_HOLD0 else F.ZP_FDSTAT_HOLD1

/-- FDb. -/
def zpFd (b : Nat) : Fld := if b = 0 then F.ZP_FDSTAT_FD0 else F.ZP_FDSTAT_FD1

/-- The queue that the layer owns on bus `b`. -/
def State.zpQueue (s : State) (b : Nat) : Nat := if s.on (F.CAN_CTL_Q0OWN b) then 0 else 1

/-- Event counter `k` in the order of ZP_VIOLCNT to ZP_BADSRCCNT counts one, with its Ledger source. -/
def State.zpCount (s : State) (k : Nat) : State := s.count ⟨0x40080050 + 4 * k, 0, 32⟩ (144 + k)

/-- Set the RTC and mark it set (R346). -/
def State.setRtc (s : State) (v : Nat) : State := (s.setF F.ALM_RTC v).setF F.ALM_STAT_RTCSET 1

/-! ### Sending (R416, R420, R423, R434) -/

/-- Is `k` an FD size (R416)? -/
def isFdSize (k : Nat) : Bool := [8, 12, 16, 20, 24, 32, 48, 64].contains k

/-- The next FD size from `k` on. -/
def fdSize (k : Nat) : Nat := ([8, 12, 16, 20, 24, 32, 48, 64].find? (fun x => decide (k ≤ x))).getD 64

/-- PRIO of a type that the device sends. -/
def zpPrio (typ : Nat) : Nat := [0, 4, 0, 0, 3, 2, 0, 6, 0, 0, 5, 1].getD typ 0

/-- A control message, carried by object 0 (R416, R434). -/
def zpControl (typ : Nat) : Bool := [0, 1, 2, 3, 6, 7, 11].contains typ

/-- A frame joins those that wait for an object, or is dropped (R434). -/
def State.zpSend (s : State) (b : Nat) (f : ZpFrame) : State :=
  if 256 ≤ (s.zb b).wait.length then s.zpCount 7 else s.setZb b (fun z => { z with wait := z.wait ++ [f] })

/-- A classical control frame. -/
def State.zpSendCtl (s : State) (b typ dst : Nat) (data : List Byte) : State :=
  s.zpSend b ⟨typ, dst, false, false, data, []⟩

/-- A stream whose frame has ended: SEQ counts on when it was sent, and is used again when it was cancelled (R423). -/
def State.streamEnd (s : State) (b : Nat) (t : ZpStream) : ZpStream × List Nat :=
  match t.obj with
  | none => (t, [])
  | some o =>
    if s.objBusy b o then (t, [])
    else if bit (s.ob b o 8) 0 then (⟨if t.adv then (t.seq + 1) % 128 else t.seq, none, true, []⟩, [])
    else (⟨t.seq, none, true, []⟩, t.binds)

/-- Every stream whose frame has ended is free again; the bindings of cancelled frames are noted (R429). -/
def State.zpSettle (s : State) (b : Nat) : State :=
  let z := s.zb b
  let p := s.streamEnd b z.pub
  let c := s.streamEnd b z.bc
  let l := z.partners.map (fun x => s.streamEnd b x.tx)
  let again := p.2 ++ (l.map (·.2)).flatten
  s.setZb b (fun z => { z with
    pub := p.1, bc := c.1, resend := z.resend ++ again
    partners := (z.partners.zip l).map (fun x => { x.1 with tx := x.2.1 }) })

/-- The stream of a frame: 0 the device's PUBLISH, 1 its broadcasts, 2 + n directed to n; none without a stream. -/
def ZpFrame.stream (f : ZpFrame) : Option Nat :=
  if f.typ = 4 then some 0 else if f.typ = 6 ∨ f.typ = 7 then some 1
  else if zpControl f.typ then none else some (2 + f.dst)

/-- State of stream `k`. -/
def State.zpStream (s : State) (b k : Nat) : ZpStream :=
  if k = 0 then (s.zb b).pub else if k = 1 then (s.zb b).bc else (s.pn b (k - 2)).tx

/-- The state with stream `k` set. -/
def State.setStream (s : State) (b k : Nat) (t : ZpStream) : State :=
  if k = 0 then s.setZb b (fun z => { z with pub := t })
  else if k = 1 then s.setZb b (fun z => { z with bc := t })
  else s.setPn b (k - 2) (fun p => { p with tx := t })

/-- The object that frame `f` could be loaded into now. -/
def State.zpObject (s : State) (b : Nat) (f : ZpFrame) : Option Nat :=
  let free := match f.stream with
    | none => true
    | some k => (s.zpStream b k).obj.isNone
  if !free then none
  else if zpControl f.typ then (if s.objBusy b 0 then none else some 0)
  else ((List.range (s.f (F.CAN_CTL_ZPTX b))).filter (fun o => o != 0)).find? (fun o => !s.objBusy b o)

/-- Data length code of a length (R386). -/
def dlcOf (n : Nat) : Nat :=
  if n ≤ 8 then n else if n ≤ 12 then 9 else if n ≤ 16 then 10 else if n ≤ 20 then 11 else if n ≤ 24 then 12
  else if n ≤ 32 then 13 else if n ≤ 48 then 14 else 15

/-- Frame `f` is written into object `o` and requested (R413, R423). A request that may not be made, an FD frame while
FDTX is 0, is discarded and reported (R393); its records wait for the next scan.
(DEDUCED, log entry 122, unsafe.) -/
def State.zpLoad (s : State) (b o : Nat) (f : ZpFrame) : State :=
  let seq := match f.stream with
    | none => 0
    | some k => (s.zpStream b k).seq
  let id := zpPrio f.typ * 2 ^ 26 + f.typ * 2 ^ 21 + s.ownNode b * 2 ^ 14 + f.dst * 2 ^ 7 + seq
  let s := s.wr (objAddr b o 0) (id + 2 ^ 29)
  let s := s.wr (objAddr b o 4) (dlcOf f.data.length + 16 * b2n f.fd + 32 * b2n f.brs + 0x300)
  let s := s.each (List.range 16) (fun t k =>
    t.wr (objAddr b o (16 + 4 * k)) (leNat ((f.data.drop (4 * k)).take 4)))
  if s.txReqBad b o true then
    (s.reject 3 (F.CAN_TXREQ b (o / 32)).addr).setZb b (fun z => { z with resend := z.resend ++ f.binds })
  else
    let s := match f.stream with
      | none => s
      | some k => s.setStream b k ⟨seq, some o, true, f.binds⟩
    s.txReq b o

/-- The first frame of a list for which an object is free: the object, the frame and the list without it. A control
frame waits for those before it, and so does a frame of a stream. -/
def State.zpPick (s : State) (b : Nat) : List ZpFrame → List ZpFrame → Option (Nat × ZpFrame × List ZpFrame)
  | _, [] => none
  | seen, f :: r =>
    let wait := seen.any (fun g => (zpControl g.typ && zpControl f.typ) || (g.stream == f.stream && f.stream.isSome))
    match (if wait then none else s.zpObject b f) with
    | some o => some (o, f, seen ++ r)
    | none => s.zpPick b (seen ++ [f]) r

/-- ZP_FRAME_LOAD (R423, R434). -/
def execZpFrameLoad (b : Fin 2) (s : State) : Result :=
  .next (if s.zpRuns b then
    let s := s.zpSettle b
    match s.zpPick b [] (s.zb b).wait with
    | some (o, f, l) => (s.setZb b (fun z => { z with wait := l })).zpLoad b o f
    | none => s
  else s)

/-! ### FD use (R428 to R430) -/

/-- The condition of R428. -/
def State.fdUse (s : State) (b : Nat) : Bool :=
  s.on (F.CAN_CTL_FDOE b) && (s.nodes b [1, 2]).all (fun n => s.on (F.ZP_PT0_FDTOL b n)) && s.f (zpHold b) == 0

/-- Frames in FD format that wait while FD may not be sent are cancelled with those in objects (R429). -/
def State.zpDropFd (s : State) (b : Nat) : State :=
  s.setZb b (fun z => { z with
    resend := z.resend ++ ((z.wait.filter (·.fd)).map (·.binds)).flatten
    wait := z.wait.filter (fun f => !f.fd) })

/-- FDTX and FDb follow the condition of R428, while the layer runs on the bus. -/
def State.fdFollow (s : State) (b : Nat) : State :=
  if s.zpRuns b then
    let u := s.fdUse b
    let s := s.setB (zpFd b) u
    if u then s.setF (F.CAN_CTL_FDTX b) 1
    else if s.on (F.CAN_CTL_FDTX b) then ((s.setF (F.CAN_CTL_FDTX b) 0).fdOff b).zpDropFd b else s
  else s

/-! ### Partners (R424 to R427, R439) -/

/-- The points of partner `n` lose VALID (R427).
(DEDUCED, log entry 75, unsafe.) -/
def State.zpInvalidate (s : State) (b n : Nat) : State :=
  s.each (s.usedPts.filter (fun p => s.ptSrc p / 2 ^ 28 == 4 && getBits (s.ptSrc p) 16 7 == n && getBits (s.ptSrc p) 23 1 == b))
    (fun t p => (t.catTouched p).setM (ptAddr p + 12) (setBits (t.ptQual p) 20 1 0))

/-- Partner `n` becomes absent; the terms it had are gone.
(DEDUCED, log entry 75, unsafe.) -/
def State.zpAbsent (s : State) (b n : Nat) : State :=
  let s := (s.setF (F.ZP_PT0_STATE b n) 0).setF (F.ZP_PT0_VER b n) 0
  let s := ((s.setF (F.ZP_PT0_LEN b n) 0).setF (F.ZP_PT0_BRS b n) 0).setF (F.ZP_PT0_FDUSE b n) 0
  (s.setPn b n (fun p => { p with waiting := false, first := false })).fdFollow b

/-- A stream at the start of the layer: it begins at 0, after the frame of it that is still pending (R423). -/
def State.zpFresh (s : State) (b : Nat) (t : ZpStream) : ZpStream :=
  if t.obj.any (s.objBusy b) then ⟨0, t.obj, false, []⟩ else .idle

/-- The layer starts on bus `b`: every partner is absent and a ROLLCALL is due (R436, R441). -/
def State.zpStart (s : State) (b : Nat) : State :=
  let s := s.each (List.range 128) (fun t n => (t.wr (F.ZP_PT0_STATE b n).addr 0xFF000000).wr (F.ZP_PT1_VIOL b n).addr 0)
  let s := s.setZb b (fun z => { z with
    wait := [], pub := s.zpFresh b z.pub, bc := s.zpFresh b z.bc
    partners := (List.range 128).map (fun n => { Partner.none with tx := s.zpFresh b (s.pn b n).tx })
    rollCnt := 0, rollDue := true, holdEnd := false, resend := [] })
  s.fdFollow b

/-- Controller `c` reaches running: the layer starts at the first time after a start of the controller (R436), and FDTX
follows its condition anew (R428). -/
def State.canRunning (s : State) (c : Nat) : State :=
  let first := (s.cc c).fresh
  let s := (s.canSetState c 3).setCc c (fun x => { x with fresh := false })
  if first && s.zpEn c then s.zpStart c else s.fdFollow c

/-- What follows a write of ZP_CTL; `old` is the word before. -/
def State.zpCtlWritten (s : State) (old : Nat) : State :=
  s.each [0, 1] (fun t b => if t.zpEn b && !bit old b then t.zpStart b else t)

/-- The highest version of a set of versions. -/
def bestVer (v : Nat) : Option Nat := if bit v 2 then some 0x20 else if bit v 1 then some 0x11 else if bit v 0 then some 0x10 else none

/-- The terms of an OFFER to partner `n` at version `ver` (R425). -/
def State.zpTerms (s : State) (b n ver : Nat) : ZpOffer :=
  let p := s.pn b n
  let fd := s.fdUse b && ver == 0x20 && bit p.caps 1
  let brs := fd && bit p.caps 2 && s.on F.ZP_CFG_BRSEN
  ⟨ver, b2n fd + 2 * b2n brs, if fd then min p.maxlen (s.f F.ZP_CFG_MAXLEN) else 8, (s.zb b).session⟩

/-- An OFFER to partner `n` (R424). -/
def State.zpOffer (s : State) (b n : Nat) : State :=
  match bestVer (andN (s.f F.ZP_CFG_VERS) (s.pn b n).vers) with
  | none => s
  | some ver =>
    let o := s.zpTerms b n ver
    let s := s.setZb b (fun z => { z with session := (z.session + 1) % 65536 })
    let s := s.setPn b n (fun p => { p with offer := some o, waiting := true })
    s.zpSendCtl b 1 n (leBytes 1 o.ver ++ leBytes 1 o.fmt ++ leBytes 1 o.len ++ leBytes 1 0 ++ leBytes 2 o.session ++ leBytes 2 0)

/-- A NAK to partner `n`, unless it has had four since the last second edge (R438). -/
def State.zpNak (s : State) (b n code typ seq detail : Nat) : State :=
  if 4 ≤ (s.pn b n).naks then s.zpCount 3
  else
    (s.setPn b n (fun p => { p with naks := p.naks + 1 })).zpSendCtl b 11 n
      (leBytes 1 code ++ leBytes 1 typ ++ leBytes 1 seq ++ leBytes 1 0 ++ leBytes 4 detail)

/-- Partner `n` is quarantined (R439). -/
def State.zpQuarantine (s : State) (b n : Nat) : State :=
  let joined := s.ptState b n == 2
  let s := if joined then s.zpInvalidate b n else s
  let s := (s.zpAbsent b n).setF (F.ZP_PT0_STATE b n) 3
  ((s.setF (F.ZP_PT1_QLEFT b n) 600).zpCount 1).fdFollow b

/-- A violation by node `n` (R438, R439). -/
def State.zpViolate (s : State) (b n code typ seq detail : Nat) : State :=
  let s := s.log 9 0x10 (n + 256 * b) (code + 256 * typ + 65536 * seq) none false
  let s := s.zpCount 0
  let s := ((s.setF F.ZP_LASTVIOL_CODE code).setF F.ZP_LASTVIOL_TYPE typ).setF F.ZP_LASTVIOL_BUS b
  let s := s.setF F.ZP_LASTVIOL_NODE n
  let s := s.zpNak b n code typ seq detail
  if code = 8 ∨ s.ptState b n = 3 then s
  else
    let h := (s.pn b n).hist
    let s := s.setPn b n (fun p => { p with hist := 0 :: p.hist })
    let s := s.setF (F.ZP_PT1_VIOL b n) (min (h.length + 1) 16)
    if 15 ≤ h.length then s.zpQuarantine b n else s

/-! ### Received frames (R413 to R422) -/

/-- A frame that the layer takes from its queue. -/
structure ZpRx where
  /-- Queue entry. -/
  e : Nat
  /-- Identifier. -/
  id : Nat
  /-- Message type. -/
  typ : Nat
  /-- Sender. -/
  src : Nat
  /-- Destination. -/
  dst : Nat
  /-- SEQ. -/
  seq : Nat
  /-- CAN FD. -/
  fd : Bool
  /-- Bit-rate switch. -/
  brs : Bool
  /-- Data length in bytes. -/
  len : Nat
  /-- Extended data frame. -/
  ext : Bool
  deriving DecidableEq, Repr

/-- The entry of the owned queue that arrived first. -/
def State.zpOldest (s : State) (b : Nat) : Option Nat :=
  let q := s.zpQueue b
  let next := s.f (F.CAN_Q_STAT_ARRSEQ b q)
  let age := fun e => (next + 65536 - s.rd (qAddr b q e 8) % 65536) % 65536
  ((List.range 64).filter (s.qOwned b q)).foldl (fun m e => match m with
    | none => some e
    | some k => if age k < age e then some e else some k) none

/-- Entry `e` as a frame. -/
def State.zpRx (s : State) (b e : Nat) : ZpRx :=
  let q := s.zpQueue b
  let id := s.rd (qAddr b q e 0)
  let ctl := s.rd (qAddr b q e 4)
  ⟨e, id % 2 ^ 29, getBits id 21 5, getBits id 14 7, getBits id 7 7, id % 128, bit ctl 4, bit ctl 5,
    dlcBytes (bit ctl 4) (ctl % 16), bit id 29 && !bit id 30⟩

/-- Data byte `k` of a frame. -/
def State.rxByte (s : State) (b : Nat) (x : ZpRx) (k : Nat) : Nat :=
  getBits (s.rd (qAddr b (s.zpQueue b) x.e (16 + k / 4 * 4))) (8 * (k % 4)) 8

/-- The little-endian number in `n` bytes from byte `k`. -/
def State.rxNum (s : State) (b : Nat) (x : ZpRx) (k n : Nat) : Nat :=
  (List.range n).foldr (fun i a => s.rxByte b x (k + i) + 256 * a) 0

/-- What the layer does with a frame. -/
inductive ZpClass where
  /-- Ignored without checks (R413, R415, R439). -/
  | ignore
  /-- R414. -/
  | badSource
  /-- A JOIN. -/
  | join
  /-- An ACCEPT. -/
  | accept
  /-- A LEAVE. -/
  | leave
  /-- A PUBLISH. -/
  | publish
  /-- A TIME. -/
  | time
  /-- A ROLLCALL. -/
  | roll
  /-- A MGMT_READ. -/
  | mgmtRead
  /-- A MGMT_WRITE. -/
  | mgmtWrite
  /-- A NAK. -/
  | nak
  /-- A reserved type, or one that only the device sends. -/
  | unknown
  deriving DecidableEq, Repr

/-- The class of a frame. -/
def State.zpClass (s : State) (b : Nat) (x : ZpRx) : ZpClass :=
  let own := s.ownNode b
  if !x.ext then .ignore
  else if x.src = 0 ∨ x.src = 127 ∨ x.src = own then .badSource
  else if x.typ ≠ 4 ∧ x.dst ≠ own ∧ x.dst ≠ 127 then .ignore
  else if s.ptState b x.src = 3 ∧ x.typ ≠ 0 then .ignore
  else match x.typ with
    | 0 => .join
    | 2 => .accept
    | 3 => .leave
    | 4 => .publish
    | 6 => .time
    | 7 => .roll
    | 8 => .mgmtRead
    | 9 => .mgmtWrite
    | 11 => .nak
    | _ => .unknown

/-- The queue drops that came before arrival count `a` make every checked stream of the bus start anew (R422).
(DEDUCED, log entry 76, safe.) -/
def State.zpResync (s : State) (b a : Nat) : State :=
  let past := fun d => decide ((a + 65536 - d) % 65536 < 32768)
  if (s.cc b).drops.any past then
    let s := s.setCc b (fun x => { x with drops := x.drops.filter (fun d => !past d) })
    s.setZb b (fun z => { z with partners := z.partners.map (fun p => { p with resPub := true, resDir := true }) })
  else s

/-- The entry is released (R391). -/
def State.zpAck (s : State) (b : Nat) (x : ZpRx) : State := s.setOwned b (s.zpQueue b) x.e false

/-- The layer takes the oldest entry; entries to be ignored before it are released on the way.
(DEDUCED, log entry 74, unsafe.) -/
def State.zpNext (s : State) (b : Nat) : Nat → State × Option ZpRx
  | 0 => (s, none)
  | fuel + 1 =>
    match s.zpOldest b with
    | none => (s, none)
    | some e =>
      let x := s.zpRx b e
      let s := s.zpResync b (s.rd (qAddr b (s.zpQueue b) e 8) % 65536)
      if s.zpClass b x = .ignore then (s.zpAck b x).zpNext b fuel else (s, some x)

/-- Process the next entry when its class is `c` by `f`, and release it, unless an access that it asks for is not complete
yet (R431, R437).
(DEDUCED, log entry 74, unsafe.) -/
def State.zpProcess (s : State) (b : Nat) (c : ZpClass) (f : State → ZpRx → State) : State :=
  if s.zpRuns b ∧ (s.zb b).mgmt = none then
    match s.zpNext b 65 with
    | (t, none) => t
    | (t, some x) =>
      if t.zpClass b x = c then
        let u := f t x
        if (u.zb b).mgmt.isSome then u else u.zpAck b x
      else t
  else s

/-- A violation of code 5 in the format of a frame from node `n`: FD, BRS or a length beyond the terms in force or
newly offered (R438, R429). -/
def State.zpFormatBad (s : State) (b : Nat) (x : ZpRx) : Bool :=
  let n := x.src
  let within := fun (fd brs : Bool) (len : Nat) => (!x.fd || fd) && (!x.brs || brs) && decide (x.len ≤ len)
  let offered := match (s.pn b n).offer with
    | some o => (s.pn b n).waiting && within (bit o.fmt 0) (bit o.fmt 1) o.len
    | none => false
  !(within (s.on (F.ZP_PT0_FDUSE b n)) (s.on (F.ZP_PT0_BRS b n)) (s.f (F.ZP_PT0_LEN b n)) || offered)

/-- FD terms, in force or newly offered. -/
def State.zpFdTerms (s : State) (b n : Nat) : Bool :=
  s.on (F.ZP_PT0_FDUSE b n) || (match (s.pn b n).offer with
    | some o => (s.pn b n).waiting && bit o.fmt 0
    | none => false)

/-- A valid frame of node `n` has come. -/
def State.zpHeard (s : State) (b n : Nat) : State := s.setF (F.ZP_PT0_HEARD b n) 0

/-- The sequence check of a stream of partner `n`: `pub` its PUBLISH stream, else its directed one (R421, R422). -/
def State.zpSeq (s : State) (b : Nat) (x : ZpRx) (pub : Bool) : State :=
  let p := s.pn b x.src
  let want := if pub then p.expPub else p.expDir
  let free := if pub then p.resPub else p.resDir
  let s := s.setPn b x.src (fun p =>
    if pub then { p with expPub := (x.seq + 1) % 128, resPub := false }
    else { p with expDir := (x.seq + 1) % 128, resDir := false })
  if free || want == x.seq then s else s.zpViolate b x.src 3 x.typ x.seq want

/-- The first byte of a list of (offset, bad) pairs that is bad. -/
def firstBad (l : List (Nat × Bool)) : Option Nat := (l.find? (·.2)).map (·.1)

/-- Run `f`, unless one of the checks fails: `len` the length is right; `rng` the first byte out of range; `form` the
format or the version forbids it (R438). Codes are tried in ascending order.
(DEDUCED, log entry 74, unsafe.) -/
def State.zpChecked (s : State) (b : Nat) (x : ZpRx) (len : Bool) (rng : Option Nat) (form : Bool)
    (f : State → State) : State :=
  if !len then s.zpViolate b x.src 1 x.typ x.seq x.len
  else match rng with
    | some k => s.zpViolate b x.src 4 x.typ x.seq k
    | none => if form then s.zpViolate b x.src 5 x.typ x.seq 0 else f s

/-- As `zpChecked`, for a frame that only a joined partner may send (code 6).
(DEDUCED, log entry 74, unsafe.) -/
def State.zpJoined (s : State) (b : Nat) (x : ZpRx) (len : Bool) (rng : Option Nat) (form : Bool)
    (f : State → State) : State :=
  let joined := s.ptState b x.src == 2
  s.zpChecked b x len rng (joined && (form || s.zpFormatBad b x)) (fun s =>
    if joined then f (s.zpHeard b x.src) else s.zpViolate b x.src 6 x.typ x.seq 0)

/-- A control message in FD format goes beyond any terms (R416). -/
def ctlFd (x : ZpRx) : Bool := x.fd || x.brs

/-- ZP_BAD_SOURCE (R414). -/
def execZpBadSource (b : Fin 2) (s : State) : Result :=
  .next (s.zpProcess b .badSource (fun s x => (s.zpCount 9).log 9 0x11 b x.id none false))

/-- ZP_UNKNOWN_TYPE (R416, R438). -/
def execZpUnknownType (b : Fin 2) (s : State) : Result :=
  .next (s.zpProcess b .unknown (fun s x => s.zpViolate b x.src 2 x.typ x.seq 0))

/-- ZP_NAK_RECEIVED (R438). -/
def execZpNakReceived (b : Fin 2) (s : State) : Result :=
  .next (s.zpProcess b .nak (fun s x => (s.zpCount 2).log 9 0x12 (x.src + 256 * b) (s.rxNum b x 0 4) none false))

/-- ZP_JOIN (R424, R425, R429). -/
def execZpJoin (b : Fin 2) (s : State) : Result :=
  .next (s.zpProcess b .join (fun s x =>
    let n := x.src
    let vers := s.rxByte b x 0
    let caps := s.rxByte b x 1
    let maxlen := s.rxByte b x 2
    let rng := firstBad [(0, decide (vers = 0) || decide (8 ≤ vers)), (1, decide (8 ≤ caps)), (2, !isFdSize maxlen)]
    s.zpChecked b x (x.len == 8) rng (ctlFd x) (fun s =>
      let ours := s.f F.ZP_CFG_VERS
      if andN ours vers = 0 then
        let s := s.zpViolate b n 8 0 x.seq ours
        if s.ptState b n = 3 then s else s.zpAbsent b n
      else
        let used := s.fdUse b
        let s := s.setPn b n (fun p => { p with
          vers := vers, caps := caps, maxlen := maxlen, uid := s.rxNum b x 4 4, waiting := false
          hist := if s.ptState b n = 3 then [] else p.hist })
        let s := if s.ptState b n = 3 then (s.setF (F.ZP_PT1_QLEFT b n) 0).setF (F.ZP_PT1_VIOL b n) 0 else s
        let s := (s.setF (F.ZP_PT0_CLASS b n) (s.rxByte b x 3)).setB (F.ZP_PT0_FDTOL b n) (bit caps 0)
        let s := (s.zpHeard b n).setF (F.ZP_PT0_STATE b n) 1
        if used && !bit caps 0 then
          let s := (s.setF (zpHold b) 60).fdFollow b
          let s := s.zpOffer b n
          s.each ((s.nodes b [2]).filter (fun k => k != n && s.on (F.ZP_PT0_FDUSE b k))) (fun t k => t.zpOffer b k)
        else (s.fdFollow b).zpOffer b n)))

/-- ZP_ACCEPT (R424, R426). -/
def execZpAccept (b : Fin 2) (s : State) : Result :=
  .next (s.zpProcess b .accept (fun s x =>
    let n := x.src
    if x.len ≠ 8 then s.zpViolate b n 1 2 x.seq x.len
    else match (s.pn b n).offer with
      | none => s.zpViolate b n 6 2 x.seq 0
      | some o =>
        if s.rxNum b x 4 2 ≠ o.session then s
        else
          let diff := firstBad [(0, s.rxByte b x 0 != o.ver), (1, s.rxByte b x 1 != o.fmt), (2, s.rxByte b x 2 != o.len)]
          let res := firstBad [(3, s.rxByte b x 3 != 0), (6, s.rxByte b x 6 != 0), (7, s.rxByte b x 7 != 0)]
          if ctlFd x then s.zpViolate b n 5 2 x.seq 0
          else match diff, res with
            | some k, _ =>
              let s := s.zpViolate b n 4 2 x.seq k
              if s.ptState b n = 3 then s else s.zpAbsent b n
            | none, some k => s.zpViolate b n 4 2 x.seq k
            | none, none =>
              if s.ptState b n = 1 ∨ s.ptState b n = 2 then
                let s := (s.zpHeard b n).setF (F.ZP_PT0_STATE b n) 2
                let s := (s.setF (F.ZP_PT0_VER b n) (if o.ver = 0x20 then 3 else if o.ver = 0x11 then 2 else 1)).setF
                  (F.ZP_PT0_LEN b n) o.len
                let s := (s.setB (F.ZP_PT0_FDUSE b n) (bit o.fmt 0)).setB (F.ZP_PT0_BRS b n) (bit o.fmt 1)
                let s := s.setPn b n (fun p => { p with
                  waiting := false, expPub := 0, expDir := 0, resPub := false, resDir := false, first := true
                  tx := { p.tx with seq := 0, adv := false } })
                s.fdFollow b
              else s.zpViolate b n 6 2 x.seq 0))

/-- ZP_LEAVE (R427). -/
def execZpLeave (b : Fin 2) (s : State) : Result :=
  .next (s.zpProcess b .leave (fun s x =>
    s.zpJoined b x (x.len == 0) none (ctlFd x) (fun s =>
      if 2 ≤ s.f (F.ZP_PT0_VER b x.src) then (s.zpInvalidate b x.src).zpAbsent b x.src else s)))

/-- One record of a PUBLISH (R431). -/
def State.zpRecord (s : State) (b : Nat) (x : ZpRx) (r : Nat) : State :=
  let pid := s.rxNum b x (8 * r) 2
  let fl := s.rxByte b x (8 * r + 2)
  if pid = 0xFFFF then s
  else
    let key := 4 * 2 ^ 28 + 2 ^ 23 * b + 2 ^ 16 * x.src + pid
    let l := s.usedPts.filter (fun p => s.ptSrc p / 2 ^ 28 == 4 && (s.ptSrc p % 2 ^ 24 + 4 * 2 ^ 28) == key)
    if l.isEmpty then s.zpCount 6
    else s.each l (fun t p =>
      let t := t.catTouched p
      if bit fl 1 then t.setM (ptAddr p + 12) (setBits (t.ptQual p) 20 1 0)
      else t.ptUpdate p (toS 32 (t.rxNum b x (8 * r + 4) 4)) (bit fl 0))

/-- ZP_PUBLISH (R418, R421, R431). -/
def execZpPublish (b : Fin 2) (s : State) : Result :=
  .next (s.zpProcess b .publish (fun s x =>
    let n := x.src
    let r := x.len / 8
    let rng := firstBad ((List.range r).flatMap (fun k =>
      let real := s.rxNum b x (8 * k) 2 != 0xFFFF
      [(8 * k + 2, real && decide (4 ≤ s.rxByte b x (8 * k + 2))), (8 * k + 3, real && s.rxByte b x (8 * k + 3) != 0)]))
    let form := decide (1 < r) && !(s.f (F.ZP_PT0_VER b n) == 3 && s.zpFdTerms b n)
    s.zpJoined b x (isFdSize x.len && x.len % 8 == 0) rng form (fun s =>
      let s := s.zpSeq b x true
      if s.ptState b n = 2 then s.each (List.range r) (fun t k => t.zpRecord b x k) else s)))

/-- ZP_TIME (R435). -/
def execZpTime (b : Fin 2) (s : State) : Result :=
  .next (s.zpProcess b .time (fun s x =>
    if x.src ≠ s.f F.ZP_TIME_TIMENODE ∨ b.val ≠ s.f F.ZP_TIME_TIMEBUS then s
    else
      let ms := s.rxNum b x 4 2
      let rng := firstBad [(4, decide (999 < ms)), (6, s.rxByte b x 6 != 0), (7, s.rxByte b x 7 != 0)]
      s.zpJoined b x (x.len == 8) rng (ctlFd x) (fun s =>
        if s.on F.ZP_TIME_TIMEACC && s.active then s.setRtc (s.rxNum b x 0 4 + (if 500 ≤ ms then 1 else 0)) else s)))

/-- ZP_ROLLCALL_REPLY (R436). -/
def execZpRollcallReply (b : Fin 2) (s : State) : Result :=
  .next (s.zpProcess b .roll (fun s x =>
    s.zpChecked b x (x.len == 1) (firstBad [(0, decide (4 ≤ s.rxByte b x 0))]) (ctlFd x) (fun s => s.zpHeard b x.src)))

/-! ### Timeouts (R426, R427, R430, R436, R439) -/

/-- The OFFER of partner `n` has been sent: no such frame waits, and object 0 holds none that is pending. -/
def State.zpOfferSent (s : State) (b n : Nat) : Bool :=
  !(s.zb b).wait.any (fun f => f.typ == 1 && f.dst == n)
    && !(s.objBusy b 0 && getBits (s.ob b 0 0) 21 5 == 1 && getBits (s.ob b 0 0) 7 7 == n)

/-- ZP_OFFER_TIMEOUT (R426).
(DEDUCED, log entry 75, unsafe.) -/
def execZpOfferTimeout (b : Fin 2) (n : Fin 128) (s : State) : Result :=
  .next (if s.zpRuns b && (s.pn b n).waiting && s.zpOfferSent b n then (s.zpCount 4).zpAbsent b n else s)

/-- ZP_PARTNER_LOST (R427). -/
def execZpPartnerLost (b : Fin 2) (n : Fin 128) (s : State) : Result :=
  .next (if s.zpEn b && s.ptState b n == 2 && decide (s.f F.ZP_CFG_LOSTTO ≤ s.f (F.ZP_PT0_HEARD b n)) then
    ((s.zpInvalidate b n).zpCount 5).zpAbsent b n
  else s)

/-- ZP_QUARANTINE_END (R439).
(DEDUCED, log entry 75, unsafe.) -/
def execZpQuarantineEnd (b : Fin 2) (n : Fin 128) (s : State) : Result :=
  .next (if s.ptState b n == 3 && s.f (F.ZP_PT1_QLEFT b n) == 0 then
    ((s.setPn b n (fun p => { p with hist := [] })).setF (F.ZP_PT1_VIOL b n) 0).zpAbsent b n
  else s)

/-- ZP_FD_HOLD_END (R430). -/
def execZpFdHoldEnd (b : Fin 2) (s : State) : Result :=
  .next (if (s.zb b).holdEnd then
    let s := ((s.setF (zpHold b) 0).setZb b (fun z => { z with holdEnd := false })).fdFollow b
    s.each ((s.nodes b [2]).filter (fun n =>
      match bestVer (andN (s.f F.ZP_CFG_VERS) (s.pn b n).vers) with
      | some v => bit (s.zpTerms b n v).fmt 0
      | none => false)) (fun t n => t.zpOffer b n)
  else s)

/-- ZP_ROLLCALL_BROADCAST (R436). -/
def execZpRollcallBroadcast (b : Fin 2) (s : State) : Result :=
  .next (if s.zpRuns b && (s.zb b).rollDue then
    (s.setZb b (fun z => { z with rollDue := false, rollCnt := 0 })).zpSendCtl b 7 127 []
  else s)

/-- BUS_INTEGRATION_DONE (R384, R436): a controller whose TEC still says bus-off joins as bus-off (R401). -/
def execBusIntegrationDone (c : Fin 2) (s : State) : Result :=
  .next (if s.canState c = 2 then
    if s.f (F.CAN_STAT_ERRST c) = 2 then s.canSetState c 4 else s.canRunning c
  else s)

/-- BUS_OFF_RECOVERY_END (R402). -/
def execBusOffRecoveryEnd (c : Fin 2) (s : State) : Result :=
  .next (if s.canState c = 5 then (s.canErr c 0 0).canRunning c else s)

/-! ### The binding scan (R432, R433) -/

/-- The bindings of bus `b` in use, ascending. -/
def State.zpBindings (s : State) (b : Nat) : List Nat :=
  s.regs.filterMap (fun e =>
    if decide (0x40084000 ≤ e.1) && decide (e.1 < 0x40086000) && decide (e.1 % 16 = 0) && bit e.2.toNat 24
        && (getBits e.2.toNat 23 1 == b) then some ((e.1 - 0x40084000) / 16) else none)

/-- Target of binding `k`: 127 for a broadcast. -/
def State.bindTarget (s : State) (k : Nat) : Nat := if s.on (F.ZP_BIND0_BCAST k) then 127 else s.f (F.ZP_BIND0_NODE k)

/-- Binding `k` is due in this scan. -/
def State.bindDue (s : State) (b k : Nat) : Bool :=
  let t := s.bindTarget k
  let p := s.f (F.ZP_BIND0_POINT k)
  let per := s.f (F.ZP_BIND1_PERIOD k)
  let delta := s.fi (F.ZP_BIND2 k)
  let z := s.zb b
  (t == 127 || s.ptState b t == 2) && (
    (t != 127 && (s.pn b t).first) || z.resend.contains k
    || (decide (0 < per) && decide (per ≤ s.f (F.ZP_BIND1_AGE k) + 1))
    || (decide (0 < delta) && decide (delta ≤ ((s.ptVal p - s.fi (F.ZP_BIND3 k)).natAbs : Int)))
    || s.ptGood p != z.good.contains k)

/-- The record of binding `k` (R418, R433). -/
def State.bindRecord (s : State) (k : Nat) : List Byte :=
  let p := s.f (F.ZP_BIND0_POINT k)
  leBytes 2 (s.f (F.ZP_BIND1_PID k)) ++ leBytes 1 (b2n (bit (s.ptQual p) 24) + 2 * b2n (!s.ptGood p)) ++ leBytes 1 0
    ++ leBytes 4 (ofI 32 (s.ptVal p))

/-- A filler record. -/
def zpFiller : List Byte := leBytes 2 0xFFFF ++ leBytes 6 0

/-- A list cut into runs of at most `n`. -/
def chunks {α : Type} (n : Nat) : Nat → List α → List (List α)
  | 0, _ => []
  | fuel + 1, l => if l.isEmpty then [] else l.take (max n 1) :: chunks n fuel (l.drop (max n 1))

/-- The frames that carry the records of the bindings `l` to target `t` (R433). -/
def State.bindFrames (s : State) (b t : Nat) (l : List Nat) : List ZpFrame :=
  let all := s.nodes b [2]
  let fd := if t = 127 then s.fdUse b && all.all (fun n => s.on (F.ZP_PT0_FDUSE b n)) else s.on (F.ZP_PT0_FDUSE b t)
  let brs := fd && (if t = 127 then all.all (fun n => s.on (F.ZP_PT0_BRS b n)) else s.on (F.ZP_PT0_BRS b t))
  let per := if t = 127 then (if fd then 8 else 1) else s.f (F.ZP_PT0_LEN b t) / 8
  (chunks per l.length l).map (fun c =>
    let d := (c.map s.bindRecord).flatten
    let pad := if d.length = 40 ∨ d.length = 56 then zpFiller else []
    ⟨if t = 127 then 4 else 5, t, fd, brs, d ++ pad, c⟩)

/-- A binding has been scanned: its AGE, LASTVAL and last goodness (R433). -/
def State.bindScanned (s : State) (b k : Nat) (due : Bool) : State :=
  let p := s.f (F.ZP_BIND0_POINT k)
  if due then
    let g := s.ptGood p
    let s := (s.setI (F.ZP_BIND3 k) (s.ptVal p)).setF (F.ZP_BIND1_AGE k) 0
    s.setZb b (fun z => { z with good := if g then (if z.good.contains k then z.good else k :: z.good) else z.good.filter (· != k) })
  else s.inc (F.ZP_BIND1_AGE k)

/-- The scan of bus `b` (R433). -/
def State.zpScan (s : State) (b : Nat) : State :=
  let s := s.zpSettle b
  let l := s.zpBindings b
  let due := l.filter (s.bindDue b)
  let targets := (due.map s.bindTarget).eraseDups
  let frames := (targets.map (fun t => s.bindFrames b t (due.filter (fun k => s.bindTarget k == t)))).flatten
  let s := s.each l (fun t k => t.bindScanned b k (due.contains k))
  let s := s.setZb b (fun z => { z with resend := z.resend.filter (fun k => !due.contains k) })
  let s := s.setZb b (fun z => { z with partners := z.partners.map (fun p => { p with first := false }) })
  s.each frames (fun t f => t.zpSend b f)

/-- The layer's share of an RTC second edge on bus `b` (R427, R430, R433, R435, R436, R438, R439). -/
def State.zpSecondBus (s : State) (b : Nat) : State :=
  let s := s.each ((List.range 127).filter (· != 0)) (fun t n =>
    let t := if t.f (F.ZP_PT0_HEARD b n) = 255 then t else t.inc (F.ZP_PT0_HEARD b n)
    if t.f (F.ZP_PT1_QLEFT b n) = 0 then t else t.setF (F.ZP_PT1_QLEFT b n) (t.f (F.ZP_PT1_QLEFT b n) - 1))
  let s := s.setZb b (fun z => { z with
    partners := z.partners.map (fun p => { p with naks := 0, hist := (p.hist.map (· + 1)).filter (fun a => decide (a < 60)) }) })
  let s := s.each ((List.range 127).filter (fun n => s.f (F.ZP_PT1_VIOL b n) != 0)) (fun t n =>
    t.setF (F.ZP_PT1_VIOL b n) (min (t.pn b n).hist.length 16))
  let tol := (s.nodes b [2]).all (fun n => s.on (F.ZP_PT0_FDTOL b n))
  let h := s.f (zpHold b)
  let s := if h = 0 ∨ !tol then s
    else if h = 1 then s.setZb b (fun z => { z with holdEnd := true }) else s.setF (zpHold b) (h - 1)
  if s.zpRuns b then
    let s := s.setZb b (fun z =>
      let due := decide (0 < s.f F.ZP_CFG_ROLLPER) && decide (s.f F.ZP_CFG_ROLLPER ≤ z.rollCnt + 1)
      { z with rollCnt := z.rollCnt + 1, rollDue := z.rollDue || due })
    let s := s.zpScan b
    let per := s.f F.ZP_TIME_TIMEPER
    if per ≠ 0 ∧ s.on F.ALM_STAT_RTCSET ∧ s.f F.ALM_RTC % per = 0 then
      s.zpSendCtl b 6 127 (leBytes 4 (s.f F.ALM_RTC) ++ leBytes 4 0)
    else s
  else s

/-- The layer's share of an RTC second edge. -/
def State.zpSecond (s : State) : State := s.each [0, 1] (fun t b => if t.zpEn b then t.zpSecondBus b else t)

/-! ### The structural check (R440) -/

/-- Filter pair `k` can pass an extended data frame. -/
def State.fltExt (s : State) (b k : Nat) : Bool :=
  s.f (F.CAN_F_MASK_ACTION b k) != 0 && !s.on (F.CAN_F_MATCH_RTR b k)
    && (!s.on (F.CAN_F_MASK_IDEM b k) || s.on (F.CAN_F_MATCH_IDE b k))

/-- A filter pair sends every extended data frame to queue `q`, ahead of every pair that would not. -/
def State.fltAll (s : State) (b q : Nat) : Bool :=
  (List.range 64).any (fun k =>
    s.fltExt b k && s.f (F.CAN_F_MASK_IDM b k) == 0 && s.f (F.CAN_F_MASK_ACTION b k) == q + 1
      && (List.range k).all (fun j => !s.fltExt b j || s.f (F.CAN_F_MASK_ACTION b j) == q + 1))

/-- A node number of R440. -/
def nodeOk (n : Nat) : Bool := decide (1 ≤ n) && decide (n ≤ 126)

/-- The conditions on bus `b` that fail; a bus that is not enabled meets them all. -/
def State.zpBusBad (s : State) (b : Nat) : List (List Nat) :=
  if !s.zpEn b then []
  else failing [(0, nodeOk (s.ownNode b)), (1, s.on (F.CAN_CTL_Q0OWN b) != s.on (F.CAN_CTL_Q1OWN b)),
    (2, decide (2 ≤ s.f (F.CAN_CTL_ZPTX b))), (3, decide (s.f (F.CAN_CTL_ZPTX b) ≤ 64)), (4, s.fltAll b (s.zpQueue b))]

/-- The conditions on an enabled binding `k` that fail. -/
def State.bindBad (s : State) (k : Nat) : List (List Nat) :=
  failing [(0, s.ptType (s.f (F.ZP_BIND0_POINT k)) != 0), (1, nodeOk (s.f (F.ZP_BIND0_NODE k))),
    (2, s.zpEn (s.f (F.ZP_BIND0_BUS k)))]

/-- The conditions of the ZP section that fail (R440). -/
def State.zpBad (s : State) : List (List Nat) :=
  let keys := (s.usedPts.filter (fun p => s.ptKind p == 4)).map (fun p => (p, s.ptSrc p % 2 ^ 24))
  within 0 (withinEach 2 s.zpBusBad)
    ++ within 1 (failing [(0, s.f F.ZP_CFG_VERS != 0), (1, isFdSize (s.f F.ZP_CFG_MAXLEN)),
      (2, !s.on F.ZP_TIME_TIMEACC || nodeOk (s.f F.ZP_TIME_TIMENODE))])
    ++ within 2 (pairsBad (· == ·) keys)
    ++ within 3 ((s.zpBindings 0 ++ s.zpBindings 1).flatMap (fun k => within k (s.bindBad k)))

/-- The structural check of the ZP section. -/
def State.zpOk (s : State) : Bool := s.zpBad.isEmpty

end Sys2Proof.Machine
end

