-- ==== Sys2Proof/Machine/Pair.lean ====
section
/-! DEFINITION. Redundant pairs (R443 to R485): unit states, health word, the link session, the mirror, checkpoints,
takeover and demotion, the standby's self-test, and the Curator. -/

namespace Sys2Proof.Machine

/-- The state with the pair logic's hidden part changed. -/
def State.setPair (s : State) (f : Pair → Pair) : State := { s with pair := f s.pair }

/-- The unit is RESTORING. -/
def State.restoring (s : State) : Bool := s.unitKnown && s.unitCode == 2

/-- A link session runs. -/
def State.linkUp (s : State) : Bool := s.pair.stage == .up

/-- The unit may run its link: it is paired, past boot step 5, not in RECOVERY, and neither in HOT nor halted (R444,
R462, R522).
(DEDUCED, log entry 36, unsafe.) -/
def State.linkMay (s : State) : Bool :=
  s.paired && (s.boot.stage == .link || s.boot.decided) && !s.recovery && !s.hot && !s.halted

/-- A frame is sent over the link.
(DEDUCED, log entry 103, safe.) -/
def State.linkSend (s : State) (x : LinkOut) : State := s.setPair (fun p => { p with linkOut := p.linkOut ++ [x] })

/-- A valid frame has arrived (R465). -/
def State.linkHeard (s : State) : State := s.setPair (fun p => { p with quiet := 0 })

/-! ### Health (R451 to R455) -/

/-- H as it stands (R451). -/
def State.healthWord (s : State) : Nat :=
  s.unitCode + 8 * b2n (s.active && s.f F.PAIR_FAILSRC_SRC != 0) + 16 * b2n (s.active && decide (0 < s.pair.swapLeft))
    + 32 * b2n (s.standby && s.on F.PAIR_STAT_STALE) + 64 * b2n (s.standby && s.f F.PAIR_TESTSTAT_FAIL != 0)
    + 128 * b2n s.warm

/-- Check of a health word (R454). -/
def healthCheck (h : Nat) : Nat := Nat.xor (Nat.xor (h % 16) (h / 16 % 16)) 15

/-- Level of CUR_HS in frame `k` of a health frame that carries `h` (R454). -/
def healthLevel (h k : Nat) : Bool :=
  if k < 12 then decide (k < 6)
  else
    let c := k / 4
    let b := if c < 11 then bit h (c - 3) else if c < 15 then bit (healthCheck h) (c - 11) else false
    if k % 4 < 2 then !b else b

/-- Level of CUR_HS: low on a unit that is not paired, in RECOVERY and in THERMAL_HALT (R92, R444, R445, R449). It
changes at ticks only. -/
def State.curHs (s : State) : Bool := s.paired && !s.halted && !s.recovery && s.pair.hs

/-- CUR_HS takes the level of the present frame (R454). -/
def State.healthPin (s : State) : State := s.setPair (fun p => { p with hs := healthLevel p.health (s.frame % 64) })

/-- HEALTH_FRAME: H is sampled for the health frame in progress, and cell 3 starts with its bit 0 (R453, R454). -/
def execHealthFrame (s : State) : Result :=
  .next (if s.pair.healthDue then
    let s := s.setPair (fun p => { p with swapLeft := p.swapLeft - 1, healthDue := false })
    let h := s.healthWord
    ((s.setPair (fun p => { p with health := h })).setF F.PAIR_HEALTH_OWN h).healthPin
  else s)

/-! ### The tick and the second -/

/-- The MIRROR payload of the ending frame (R469).
(DEDUCED, log entry 78, unsafe.) -/
def State.mirrorBytes (s : State) : List Byte :=
  let forced := bitsNum 6 (fun g => s.on (F.PWM_G_STAT_FORCED g))
  let run := bitsNum 6 (fun d => s.driveState d == 5)
  let en := bitsNum 32 (fun c => s.on (F.PWM_GP_CFG_EN c))
  word4 s.frame ++ word4 (forced + 256 * b2n (!s.safe.srcs.isEmpty) + 65536 * run) ++ word4 en
    ++ (List.range 32).flatMap (fun c => half2 (s.f (F.PWM_GP_DUTY_DUTY c)))
    ++ (List.range 6).flatMap (fun d => word4 (s.dr d 0xAC) ++ word4 (s.dr d 0xB0) ++ word4 (s.dr d 0xB4))

/-- The STATUS frame of now (R463). -/
def State.statusRec (s : State) : StatusRec :=
  { state := BitVec.ofNat 3 s.unitCode, h := BitVec.ofNat 8 s.healthWord, frame := BitVec.ofNat 32 s.frame,
    rtc := BitVec.ofNat 32 (s.f F.ALM_RTC), rtcSet := s.on F.ALM_STAT_RTCSET, cknum := BitVec.ofNat 32 s.vaultNum }

/-- A record in chunks of at most 240 body bytes, the first at offset `off` (R472); `fuel` bounds their number. -/
def ckChunks (r : CkRec) : Nat → Nat → List Byte → List CkptChunk
  | 0, _, _ => []
  | fuel + 1, off, b =>
    let c : CkptChunk :=
      { kind := BitVec.ofNat 4 r.kind, index := BitVec.ofNat 12 r.index, frame := BitVec.ofNat 32 r.frame
        cknum := BitVec.ofNat 32 r.num, blen := BitVec.ofNat 16 r.blen, off := BitVec.ofNat 16 off, bytes := b.take 240 }
    if b.length ≤ 240 then [c] else c :: ckChunks r fuel (off + 240) (b.drop 240)

/-- The checkpoint in hand has been sent whole: its END goes out (R472).
(DEDUCED, log entry 82, unsafe.) -/
def State.ckSent (s : State) : State :=
  let p := s.pair
  let s := s.setPair (fun p => { p with ckSending := false })
  if !s.linkUp then s
  else
    let s := s.linkSend (.ckEnd p.ckNum p.ckRtc p.ckRecs)
    (((s.setF F.PAIR_CKNUM p.ckNum).setF F.PAIR_CKAGE_AGE 0).setF F.PAIR_CKAGE_RECS 0).ledger 166

/-- A chunk is sent; one that ends a record counts it in RECS. -/
def State.ckPut (s : State) (c : CkptChunk) (rest : List CkptChunk) : State :=
  let s := (s.setPair (fun p => { p with ckOut := rest })).cond s.linkUp (·.linkSend (.chunk c))
  s.cond rest.isEmpty (·.inc F.PAIR_CKAGE_RECS)

/-- The next CKPT frame of the checkpoint in hand: a chunk of the record in hand, else the first of the next record,
which is read now, else the END (R57, R472).
(DEDUCED, log entry 82, unsafe.) -/
def State.ckStep (s : State) : State :=
  if !s.pair.ckSending then s
  else match s.pair.ckOut, s.pair.ckLeft with
    | c :: rest, _ => s.ckPut c rest
    | [], x :: left =>
      let s := s.setPair (fun p => { p with ckLeft := left })
      (match ckChunks (s.takeRec s.pair.ckNum x) 274 0 (s.recBody x) with
      | c :: rest => s.ckPut c rest
      | [] => s)
    | [], [] => s.ckSent

/-- The CKPT frames of a frame: how many find room after MIRROR, STATUS and MGMT is open (R463, R472).
(DESIGN CHOICE, log entry 142, safe.) -/
def State.ckPump (s : State) : State :=
  if s.pair.ckSending then s.free.2.each (List.range (s.free.1 % 65)) (fun t _ => t.ckStep) else s

/-- The MGMT replies that wait are sent (R463). -/
def State.mgmtSend (s : State) : State :=
  s.setPair (fun p => { p with linkOut := p.linkOut ++ p.mgmtOut, mgmtOut := [] })

/-- The pair logic at a tick, `mirror` being the payload that describes the ending frame (R446, R449, R454, R463, R469,
R472).
(DEDUCED, log entry 78, unsafe.) -/
def State.pairTick (s : State) (mirror : List Byte) : State :=
  if !s.paired || !s.unitKnown then s
  else
    let s := if s.unitCode = 1 ∧ !s.pair.complete then s.setUnit 3 else s
    let s := if s.standby then s.setF F.PAIR_STAT_MIRAGE (min (s.f F.PAIR_STAT_MIRAGE + 1) 255) else s
    let up := s.linkUp
    let s := s.setPair (fun p => { p with
      hb := !p.hb
      healthDue := p.healthDue || s.frame % 64 == 12
      quiet := if up then p.quiet + 1 else 0
      since := if s.unitCode = 2 then p.since + 1 else 0
      ckDue := if p.ckDue = 1 then 2 else p.ckDue
      linkOut := [] })
    let s := s.healthPin
    let s := if up then ((s.cond s.active (·.linkSend (.mirror mirror))).linkSend (.status s.statusRec)).mgmtSend else s
    s.ckPump

/-- A SHELVED unit's checkpoint is too old, or its link is down (R475).
(DEDUCED, log entry 82, unsafe.) -/
def State.staleTest (s : State) : State :=
  s.cond (s.unitKnown && s.unitCode == 1 && (!s.linkUp || decide (s.f F.PAIR_CFG_STALETO < s.f F.PAIR_CKAGE_AGE)))
    (·.setF F.PAIR_STAT_STALE 1)

/-- The pair logic at an RTC second edge, the RTC having counted (R468, R472, R475, R476, R482).
(DEDUCED, log entry 82, unsafe; DEDUCED, log entry 86, safe.) -/
def State.pairSecond (s : State) : State :=
  if !s.paired || !s.unitKnown then s
  else
    let t := s.f F.ALM_RTC
    let s := (s.inc F.PAIR_CKAGE_AGE).setPair (fun p => { p with peerSecs := p.peerSecs + 1 })
    let s := s.staleTest
    let copy := s.unitCode == 1 && t % 3600 == 0 && !s.on F.PAIR_STAT_STALE && !s.sheds
    s.setPair (fun p => { p with
      ckDue := if s.active && !p.ckSending then 1 else p.ckDue
      copyDue := p.copyDue || copy
      testDue := p.testDue || (s.standby && t % 10 == 0) })

/-! ### Bring-up (R462) and compatibility (R466, R467) -/

/-- The COMPAT record of this unit (R466); until step 7 has decided its state, STATE is the code for unknown.
(DEDUCED, log entry 81, unsafe.) -/
def State.compatBytes (s : State) : List Byte :=
  half2 0xB103 ++ half2 (s.f F.BOOT_STAT_FORMAT) ++ leBytes 8 s.fprint
    ++ [BitVec.ofNat 8 (s.f F.ZP_CFG_VERS), BitVec.ofNat 8 (s.f F.PAIR_CFG_LVERS), 1, BitVec.ofNat 8 (if s.unitKnown then s.unitCode else 7)]
    ++ word4 (s.f F.ALM_RTC) ++ [BitVec.ofNat 8 (s.f F.ALM_STAT_RTCSET)] ++ leBytes 3 0 ++ word4 s.vaultNum ++ word4 0

/-- LINK_BRINGUP: an attempt starts at 250 Mbit/s (R462, R465). -/
def execLinkBringup (s : State) : Result :=
  .next (if s.linkMay && !s.linkUp then
    s.linkOff.setPair (fun p => { p with stage := .lock })
  else s)

/-- The CAPS frame that this unit sends. -/
def State.ownCaps (s : State) : LinkOut := .caps (s.f F.PAIR_CFG_LVERS) (s.pair.lock0 && s.pair.lock1) s.pair.slow

/-- LINK_LANE_LOCK: with lane 0 the exchange of CAPS begins.
(DEDUCED, log entry 81, unsafe.) -/
def execLinkLaneLock (lane : Fin 2) (s : State) : Result :=
  .next (if s.pair.stage = .lock ∨ s.pair.stage = .caps then
    let s := s.setPair (fun p => if lane.val = 0 then { p with lock0 := true, stage := .caps } else { p with lock1 := true })
    s.cond s.pair.lock0 (fun t => t.linkSend t.ownCaps)
  else s)

/-- LINK_RATE_FALLBACK: the search is repeated at 125 Mbit/s. -/
def execLinkRateFallback (s : State) : Result :=
  .next (if s.pair.stage = .lock ∧ !s.pair.slow then s.setPair (fun p => { p with slow := true, lock1 := false }) else s)

/-- LINK_CAPS_RECEIVED: version, lanes and rate are fixed; without a common version the attempt fails.
(DEDUCED, log entry 81, unsafe.) -/
def execLinkCapsReceived (caps : CapsRec) (s : State) : Result :=
  .next (if s.pair.stage ≠ .caps then s
  else
    let common := andN caps.vers.toNat (s.f F.PAIR_CFG_LVERS)
    if common = 0 then s.linkOff
    else
      let v2 := bit common 1
      let s := (s.setB F.PAIR_STAT_LVER v2).setB F.PAIR_STAT_LANES (v2 && s.pair.lock1 && caps.two)
      let s := (s.setB F.PAIR_STAT_RATE s.pair.slow).setPair (fun p => { p with stage := .compat })
      s.linkSend (.compat s.compatBytes))

/-- The fields in which two COMPAT records differ, as PAIR_MISMATCH shows them. -/
def compatDiff (a b : List Byte) : Nat :=
  let d := fun (k n : Nat) => b2n (numAt a k n != numAt b k n)
  d 0 2 + 2 * d 2 2 + 4 * d 4 8 + 8 * d 12 1 + 16 * d 13 1 + 32 * d 14 1

/-- What a comparison leads to (R467). A unit whose state is not decided yet is judged at step 7 (R68).
(DEDUCED, log entry 38, safe; DEDUCED, log entry 81, unsafe.) -/
def State.judgeCompat (s : State) (diff : Nat) : State :=
  let s := s.setF F.PAIR_MISMATCH_FIELD diff
  let peerActive := s.f F.PAIR_STAT_PEERSTATE == 0
  if diff = 0 then s.setF F.PAIR_STAT_MISMATCH 0
  else if s.standby && peerActive then s.setUnit 4
  else if peerActive && !s.unitKnown then s
  else s.setF F.PAIR_STAT_MISMATCH 1

/-- The number of the next checkpoint (R474). -/
def State.renumber (s : State) : State :=
  s.setPair (fun p => { p with
    ckNext := ((if newer32 p.peerCk s.vaultNum then p.peerCk else s.vaultNum) + 1) % 2 ^ 32 })

/-- Both units are ACTIVE (R481). -/
def State.dualTest (s : State) : State :=
  s.setB F.PAIR_STAT_DUAL (s.active && s.linkUp && s.f F.PAIR_STAT_PEERSTATE == 0)

/-- LINK_COMPAT: the records are compared; at bring-up the session begins, and the boot goes on (R462, R466, R467,
R474). A peer that enters ACTIVE is answered with this unit's record (R463).
(DEDUCED, log entry 81, unsafe.) -/
def execLinkCompat (r : CompatRec) (s : State) : Result :=
  if !r.wf then .refused .illFormed
  else .next (if s.pair.stage ≠ .compat ∧ s.pair.stage ≠ .up then s
  else
    let new := s.pair.stage == .compat
    let enters := !new && numAt r.bytes 15 1 == 0 && s.f F.PAIR_STAT_PEERSTATE != 0
    let s := (s.setF F.PAIR_STAT_PEERSTATE (numAt r.bytes 15 1)).setF F.PAIR_STAT_LINKUP 1
    let s := s.setPair (fun p => { p with
      stage := .up, quiet := 0, peerCk := numAt r.bytes 24 4, peerRtc := numAt r.bytes 16 4
      peerRtcSet := bit (numAt r.bytes 20 1) 0, peerSecs := 0 })
    let s := (s.judgeCompat (compatDiff r.bytes s.compatBytes)).dualTest
    let s := s.cond (new && s.active) (·.renumber)
    let s := s.cond enters (fun t => t.linkSend (.compat t.compatBytes))
    if s.boot.stage = .link then (s.toStage .unit).phase 7 else s)

/-- LINK_STATUS: the peer's state, health, time and checkpoint number (R463, R468).
(DEDUCED, log entry 86, safe.) -/
def execLinkStatus (r : StatusRec) (s : State) : Result :=
  .next (if !s.linkUp then s
  else
    let was := s.f F.PAIR_STAT_PEERSTATE
    let s := (s.setF F.PAIR_STAT_PEERSTATE r.state.toNat).setF F.PAIR_HEALTH_PEER r.h.toNat
    let own := s.f F.ALM_RTC
    let set := s.on F.ALM_STAT_RTCSET
    let follow := s.standby && r.state.toNat == 0
    let step := follow && !set && r.rtcSet
    let dir : Int := if follow && !step then sgnI ((r.rtc.toNat : Int) - own) else 0
    let s := s.setPair (fun p => { p with
      quiet := 0, peerCk := r.cknum.toNat, peerRtc := r.rtc.toNat, peerRtcSet := r.rtcSet, peerSecs := 0, trim := dir })
    let s := if step then s.setRtc r.rtc.toNat else s
    let s := s.cond (r.state.toNat == 0 && was != 0) (fun t => t.linkSend (.compat t.compatBytes))
    s.dualTest)

/-- LINK_MIRROR: a standby stores it (R469). -/
def execLinkMirror (bytes : List Byte) (s : State) : Result :=
  if bytes.length ≠ 148 then .refused .illFormed
  else .next (if !s.linkUp then s
  else
    let s := s.linkHeard
    if s.standby then (s.setPair (fun p => { p with mirror := bytes })).setF F.PAIR_STAT_MIRAGE 0 else s)

/-- Discarded checkpoint records are counted.
(DEDUCED, log entry 82, unsafe.) -/
def State.ckDrop (s : State) : State := (s.setPair (fun p => { p with asm := none })).count F.PAIR_CKDROPCNT 163

/-- LINK_CRC_FAIL: the frame is discarded and counted; what its type says it carried is lost (R463, R469, R473). -/
def execLinkCrcFail (typ : BitVec 8) (s : State) : Result :=
  .next (if s.pair.stage = .off ∨ s.pair.stage = .lock then s
  else
    let s := s.count F.PAIR_CRCCNT 160
    if !s.standby then s
    else if typ = 4 then s.count F.PAIR_MIRLOSTCNT 164
    else if typ = 5 then s.ckDrop
    else s)

/-- LINK_MGMT_REPLY: a valid frame; the block keeps nothing of a reply (R464).
(DEDUCED, log entry 84, safe.) -/
def execLinkMgmtReply (_tag _status : BitVec 8) (_words : List Word) (s : State) : Result :=
  .next (if s.linkUp then s.linkHeard else s)

/-- LINK_MGMT_TIMEOUT (R464).
(DEDUCED, log entry 84, safe.) -/
def execLinkMgmtTimeout (s : State) : Result := .next (if s.linkMay then s.count F.PAIR_MGMTTOCNT 165 else s)

/-- LINK_DOWN: LINKTO frames without a valid frame (R465, R475). -/
def execLinkDown (s : State) : Result :=
  .next (if s.linkUp && decide (s.f F.PAIR_CFG_LINKTO ≤ s.pair.quiet) then
    let s := s.linkOff.count F.PAIR_LINKDOWNCNT 161
    (s.dualTest).staleTest
  else s)

/-! ### Checkpoints (R471 to R477) -/

/-- A whole record has come: it goes to its slot (R473). -/
def State.ckRecord (s : State) (r : CkRec) : State :=
  let s := s.setPair (fun p => { p with asm := none })
  match s.planSlots.find? (fun x => x.kind == r.kind && x.index == r.index && x.len == r.blen) with
  | some x => (s.putRec x r).inc F.PAIR_CKAGE_RECS
  | none => s.count F.PAIR_CKDROPCNT 163

/-- The record that a chunk opens. -/
def ckOpen (c : CkptChunk) : CkRec :=
  ⟨c.kind.toNat, c.index.toNat, c.frame.toNat, c.cknum.toNat, c.blen.toNat, c.bytes⟩

/-- The chunk belongs to the record in hand and follows what has come of it. -/
def ckFollows (a : CkRec) (c : CkptChunk) : Bool :=
  a.kind == c.kind.toNat && a.index == c.index.toNat && a.frame == c.frame.toNat && a.num == c.cknum.toNat
    && a.blen == c.blen.toNat && a.body.length == c.off.toNat

/-- A record that is whole goes to its slot; one that is not is kept in hand. -/
def State.ckTake (s : State) (r : CkRec) : State :=
  if r.body.length = r.blen then s.ckRecord r else s.setPair (fun p => { p with asm := some r })

/-- The record opens a checkpoint: it is the first of the plan.
(DEDUCED, log entry 82, unsafe.) -/
def State.ckFirst (s : State) (c : CkptChunk) : Bool :=
  match s.planSlots with
  | [] => false
  | x :: _ => x.kind == c.kind.toNat && x.index == c.index.toNat

/-- LINK_CKPT_CHUNK (R473, R476). -/
def execLinkCkptChunk (c : CkptChunk) (s : State) : Result :=
  if !c.wf then .refused .illFormed
  else .next (if !s.linkUp then s
  else
    let s := s.linkHeard
    if !s.standby then s
    else if s.vaultCopying then (if c.off = 0 ∨ s.pair.asm.isSome then s.ckDrop else s)
    else match s.pair.asm with
      | none => if c.off = 0 then (s.cond (s.ckFirst c) (·.setF F.PAIR_CKAGE_RECS 0)).ckTake (ckOpen c) else s
      | some a =>
        if ckFollows a c then s.ckTake { a with body := a.body ++ c.bytes }
        else
          let s := s.ckDrop
          if c.off = 0 then s.ckTake (ckOpen c) else s)

/-- Every slot holds a record of checkpoint `n` or a newer one (R473). -/
def State.ckComplete (s : State) (n : Nat) : Bool :=
  s.planSlots.all (fun x => !s.slotEmpty x && (s.slotNum x == n || newer32 (s.slotNum x) n))

/-- The Vault header after a complete checkpoint (R470, R473). -/
def State.ckHeader (s : State) (num rtc nrec : Nat) : State :=
  let s := s.setBytes vaultBase (word4 num ++ word4 rtc ++ leBytes 8 s.fprint ++ word4 1 ++ word4 nrec)
  s.setPair (fun p => { p with vaultEmpty := false, complete := true })

/-- LINK_CKPT_END (R446, R473, R475). -/
def execLinkCkptEnd (cknum ckrtc nrec : BitVec 32) (s : State) : Result :=
  .next (if !s.linkUp then s
  else
    let s := s.linkHeard
    if !s.standby then s
    else
      let s := s.cond s.pair.asm.isSome (·.ckDrop)
      let s := s.setF F.PAIR_CKAGE_RECS 0
      if s.ckComplete cknum.toNat then
        let s := s.ckHeader cknum.toNat ckrtc.toNat nrec.toNat
        let s := ((s.setF F.PAIR_CKNUM cknum.toNat).setF F.PAIR_CKAGE_AGE 0).ledger 166
        let s := (s.setF F.PAIR_STAT_STALE 0).setF F.PAIR_STAT_COLD 0
        if s.unitCode = 3 ∧ s.f F.PAIR_STAT_MIRAGE ≤ s.f F.PAIR_CFG_MIRMAX then s.setUnit 1 else s
      else s)

/-- CHECKPOINT_START: a checkpoint starts at the first tick after a second edge; its records are read and sent from
then on (R471, R472, R474).
(DEDUCED, log entry 82, unsafe.) -/
def execCheckpointStart (s : State) : Result :=
  .next (if s.active && s.pair.ckDue == 2 && !s.pair.ckSending then
    let l := s.planSlots
    let s := s.setPair (fun p => { p with
      ckDue := 0, ckSending := true, ckNum := p.ckNext, ckNext := (p.ckNext + 1) % 2 ^ 32
      ckRtc := s.f F.ALM_RTC, ckRecs := l.length, ckLeft := l, ckOut := [] })
    s.setF F.PAIR_CKAGE_RECS 0
  else s)

/-- VAULT_COPY (R476); with the write window closed the copy is not started (R490). -/
def execVaultCopy (s : State) : Result :=
  .next (if s.pair.copyDue then
    let s := s.setPair (fun p => { p with copyDue := false })
    if s.unitKnown ∧ s.unitCode = 1 ∧ !s.on F.PAIR_STAT_STALE ∧ !s.sheds ∧ s.folWindow then s.queueJob .vault else s
  else s)

/-! ### Takeover and demotion (R446 to R448, R478 to R480) -/

/-- W of R478. -/
def State.frameW (s : State) : Nat := (10000000 + s.nf - 1) / s.nf

/-- K of R478. -/
def State.frameK (s : State) : Nat := (2000000 + s.nf - 1) / s.nf

/-- Word at offset `o` of the stored mirror. -/
def State.mirWord (s : State) (o : Nat) : Nat := numAt s.pair.mirror o 4

/-- The hold is not to be trusted: no mirror, an old one, or one sent with the safe-state bus asserted (R479).
(DEDUCED, log entry 78, unsafe.) -/
def State.safeStart (s : State) : Bool :=
  s.pair.mirror.isEmpty || decide (s.f F.PAIR_CFG_MIRMAX < s.f F.PAIR_STAT_MIRAGE) || bit (s.mirWord 4) 8

/-- Group `g` is held on the rotator from the mirror (R313, R479). -/
def State.holdGroup (s : State) (g : Nat) : State :=
  let o := 0x4C + 12 * g
  let v := s.mirWord o
  let inc := s.mirWord (o + 8)
  let ang := s.mirWord (o + 4) + inc * 2 ^ (s.grp g).rate * s.f F.PAIR_STAT_MIRAGE
  let s := (s.setF (F.PWM_G_VDQ_VD g) v).setF (F.PWM_G_VDQ_VQ g) (v / 65536)
  let s := ((s.setF (F.PWM_G_ANGLE g) ang).setF (F.PWM_G_INC g) inc).setF (F.PWM_G_COAST_EN g) 1
  let s := (s.angleWritten g).setF (F.PWM_G_CTL_OFF g) 0
  s.setDrv g (fun x => { x with resume := true })

/-- Duty that gives a general channel its safe value (R193).
(DEDUCED, log entry 79, unsafe.) -/
def State.safeDuty (s : State) (c : Nat) : Nat :=
  match s.f (F.PWM_GP_CFG_SAFE c) with
  | 0 => 0
  | 1 => 65535
  | _ => s.f (F.PWM_GP_DUTY_SAFEDUTY c)

/-- The outputs at S0: the hold of R479, or a safe start.
(DEDUCED, log entry 79, unsafe.) -/
def State.takeHold (s : State) : State :=
  let safe := s.safeStart
  let held := fun g => !safe && bit (s.mirWord 4) (16 + g) && !bit (s.mirWord 4) g
  let s := s.setF F.PWM_CTL_EN 1
  let s := s.each (List.range 6) (fun t g => if held g then t.holdGroup g else t.groupOff g)
  s.each (List.range 32) (fun t c =>
    if safe then t.setF (F.PWM_GP_DUTY_DUTY c) (t.safeDuty c)
    else
      let t := t.setF (F.PWM_GP_DUTY_DUTY c) (numAt t.pair.mirror (12 + 2 * c) 2)
      (t.setB (F.PWM_GP_CFG_EN c) (bit (t.mirWord 8) c)).gpEnWritten c)

/-- Takeover starts: S0 (R478). -/
def State.takeover (s : State) : State :=
  let detail := b2n s.safeStart + 2 * b2n s.vaultCold + 4 * b2n s.pair.vaultEmpty
  let s := (s.count F.PAIR_TAKEOVERCNT 162).log 0x0A 0x10 (s.f F.PAIR_STAT_MIRAGE) detail none true
  let s := (s.setUnit 2).takeHold
  let s := if s.pair.peerRtcSet then s.setRtc (s.pair.peerRtc + s.pair.peerSecs) else s
  let s := s.setPair (fun p => { p with
    trim := 0, testDue := false, copyDue := false, asm := none, since := 0
    restored := false, calOn := false, seqOn := false })
  s.powerUpCores

/-- The unit looks at CUR_SEL: it is paired and its tick runs (R457). -/
def State.selLive (s : State) : Bool := s.paired && s.unitKnown && !s.halted && s.boot.ticked && s.boot.counting

/-- CUR_SEL_HIGH: CUR_SEL is accepted high at a tick (R446, R447, R457, R478).
(DESIGN CHOICE, log entry 102, unsafe.) -/
def execCurSelHigh (s : State) : Result :=
  .next (if !s.selLive then s
  else
    let s := s.setF F.PAIR_STAT_SELIN 1
    if s.standby then s.takeover
    else if s.unitCode = 4 then s.setF F.PAIR_STAT_SELREF 1
    else s)

/-- Drive `d` keeps no state (R448): its state words are 0, and CE_DRd_FAULT and the bits of CE_DRd_STAT that show its
state are as after reset.
(DEDUCED, log entry 85, unsafe.) -/
def State.drvForget (s : State) (d : Nat) : State :=
  let s := s.each (List.range 32) (fun t k => t.setDr d (0x80 + 4 * k) 0)
  let s := s.setDrv d (fun x => { Drive.reset with folSeen := x.folSeen })
  let s := (s.setF (F.CE_DR_FAULT_CAUSE d) 0).setF (F.CE_DR_FAULT_FIRST d) 15
  let s := ((s.setF (F.CE_DR_STAT_STATE d) 0).setF (F.CE_DR_STAT_ANGVALID d) 0).setF (F.CE_DR_STAT_ANGSRC d) 0
  ((s.setF (F.CE_DR_STAT_PATTERN d) 0).setF (F.CE_DR_STAT_POL d) 0).setF (F.CE_DR_STAT_WARMLOW d) 0

/-- Demotion (R448).
(DEDUCED, log entry 85, unsafe.) -/
def State.demote (s : State) : State :=
  let s := (s.log 0x0A 0x11 0 s.frame none true).engineHalt
  let s := s.each (List.range 6) (fun t g => (t.groupOff g).drvForget g)
  let s := (s.setF F.PWM_CTL_EN 0).pinsLow
  let s := ((s.canStop 0).canStop 1).almHalt
  let s := (s.convertersDown).setPair (fun p => { p with
    ckDue := 0, ckSending := false, ckLeft := [], ckOut := [], swapLeft := 0 })
  (s.setUnit 3).dualTest

/-- CUR_SEL_LOW: CUR_SEL is accepted low at a tick (R446, R448, R457). -/
def execCurSelLow (s : State) : Result :=
  .next (if !s.selLive then s
  else
    let s := s.setF F.PAIR_STAT_SELIN 0
    if s.unitCode = 0 ∨ s.unitCode = 2 then s.demote else s)

/-- TAKEOVER_RESTORE_END (R478, R480). -/
def execTakeoverRestoreEnd (s : State) : Result :=
  .next (if s.restoring && !s.pair.restored then s.restoreVault.setPair (fun p => { p with restored := true }) else s)

/-- TAKEOVER_CALIBRATION: from S0 + W on (R126, R478).
(DEDUCED, log entry 80, safe.) -/
def execTakeoverCalibration (s : State) : Result :=
  .next (if s.restoring && decide (s.frameW ≤ s.pair.since) then s.setPair (fun p => { p with calOn := true }) else s)

/-- TAKEOVER_SEQUENCER_ENABLE: the calibration has ended, from S0 + W + K on (R126, R156, R478).
(DEDUCED, log entry 80, safe.) -/
def execTakeoverSequencerEnable (cal : CalResults) (s : State) : Result :=
  if !cal.wf then .refused .illFormed
  else .next (if s.restoring && s.pair.calOn && !s.pair.seqOn && decide (s.frameW + s.frameK ≤ s.pair.since) then
    ((s.calibrateAll cal false).convertersReady).setPair (fun p => { p with seqOn := true })
  else s)

/-- The unit becomes ACTIVE at a tick: engine, Almanac and buses start (R377, R474, R478).
(DEDUCED, log entry 81, unsafe.) -/
def State.becomeActive (s : State) : State :=
  let s := ((s.setUnit 0).renumber).dualTest
  let s := s.cond s.linkUp (fun t => t.linkSend (.compat t.compatBytes))
  (((s.engineTick).canStart 0).canStart 1)

/-- TAKEOVER_ENGINE_START (R478).
(DEDUCED, log entry 80, safe.) -/
def execTakeoverEngineStart (s : State) : Result :=
  .next (if s.restoring && s.pair.seqOn && s.pair.restored && decide (s.frameW + s.frameK + 1 ≤ s.pair.since) then
    s.becomeActive
  else s)

/-! ### Self-test (R482, R483) -/

/-- The next 32 pages of the Folio slice are read: the first page of which a check code fails.
(DEDUCED, log entry 83, unsafe.) -/
def State.folioSlice (s : State) : Option Nat × State :=
  let n := s.pair.folioNext
  let bad := ((List.range 32).map (32 * n + ·)).find? (fun p => !s.fol.whole p)
  let r := s.folRead (2048 * n) 2048
  (bad, r.1.setPair (fun p => { p with folioNext := (p.folioNext + 1) % 64 }))

/-- Slice `k` has failed (R483). -/
def State.sliceFail (s : State) (k detail : Nat) : State :=
  (s.setBit F.PAIR_TESTSTAT_FAIL k).log 0x0A 0x12 k detail none true

/-- Each code of the converter slice lies within 64 LSB of its reference (R482).
(DEDUCED, log entry 83, unsafe.) -/
def codesOk (codes : List (BitVec 14)) : Bool :=
  (codes.zip [0, 8192, 16383]).all (fun x => decide ((x.1.toNat : Int) - 64 ≤ x.2) && decide ((x.2 : Int) ≤ x.1.toNat + 64))

/-- Each edge of the PWM slice reads back at its commanded clock plus 4 (R482).
(DEDUCED, log entry 83, unsafe.) -/
def edgesOk (edges : List (BitVec 16 × BitVec 16)) : Bool := edges.all (fun x => x.2.toNat == x.1.toNat + 4)

/-- A self-test cycle, its slices in order (R482, R483). A powered core takes the factory trim (R122).
(DEDUCED, log entry 83, unsafe.) -/
def State.selfTest (s : State) (r : SelfTestResult) : State :=
  let a := 16384 * s.pair.sramNext
  let s := s.setPair (fun p => { p with testDue := false, sramNext := (p.sramNext + 1) % 128 })
  let s := match r.sram with
    | some o => s.sliceFail 0 (a + o.toNat)
    | none => s
  let core := s.f F.PAIR_TESTSTAT_CORENEXT
  let s := if s.sheds then s
    else
      let s := (s.powerUpCore core).cond (!codesOk r.codes) (·.sliceFail 1 core)
      s.setF F.PAIR_TESTSTAT_CORENEXT ((core + 1) % 9)
  let g := s.f F.PAIR_TESTSTAT_PWMNEXT
  let s := s.cond (!edgesOk r.edges) (·.sliceFail 2 g)
  let s := s.setF F.PAIR_TESTSTAT_PWMNEXT ((g + 1) % 7)
  let f := s.folioSlice
  let s := match f.1 with
    | some p => f.2.sliceFail 3 p
    | none => f.2
  s.inc F.PAIR_TESTSTAT_CYCLES

/-- SELF_TEST_CYCLE. Its Folio slice waits for a program to end, and the cycle with it (R489).
(DEDUCED, log entry 83, unsafe.) -/
def execSelfTestCycle (r : SelfTestResult) (s : State) : Result :=
  if !r.wf then .refused .illFormed
  else .next (if s.pair.testDue && s.standby && s.folFree then s.selfTest r else s)

/-! ### The Curator (R450, R455, R458 to R460) -/

/-- A unit's heartbeat after a sample of its CUR_HB; four samples make one T_F (R450).
(DEDUCED, log entry 87, unsafe.) -/
def CurUnit.heart (u : CurUnit) (hb : Bool) : CurUnit :=
  let d := u.edge + 1
  let counted := hb != u.hb && decide (2 ≤ d) && decide (d ≤ 6)
  let n := if counted then min (u.count + 1) 16 else if hb != u.hb then 0 else u.count
  let q := if counted then 0 else min (u.quiet + 1) 18
  let lost := q == 18
  { u with
    hb := hb, edge := if hb != u.hb then 0 else min d 255, quiet := q, count := if lost then 0 else n
    alive := !lost && (u.alive || n == 16) }

/-- The health word in the 26 levels of cells 3 to 15, when it is valid (R455). -/
def healthDecode (l : List Bool) : Option Nat :=
  let a := fun c => l.getD (2 * c) false
  let b := fun c => l.getD (2 * c + 1) false
  let h := bitsNum 8 b
  let k := bitsNum 4 (fun i => b (8 + i))
  if (List.range 13).all (fun c => a c != b c) && healthCheck h == k then some h else none

/-- The decoder of a health frame after a sample: `hs` the level, `run` the high run that has just ended.
(DEDUCED, log entry 87, unsafe.) -/
def CurUnit.decode (u : CurUnit) (hs : Bool) (run : Option Nat) : CurUnit :=
  match run with
  | some n => { u with dec := some (n, []) }
  | none =>
    match u.dec with
    | none => u
    | some (p, l) =>
      let p := p + 1
      let l := if 52 ≤ p ∧ p % 8 = 4 then l ++ [hs] else l
      if p < 252 then { u with dec := some (p, l) }
      else match healthDecode l with
        | some h => { u with dec := none, word := some h, age := 0 }
        | none => { u with dec := none }

/-- A unit's health word after a sample of its CUR_HS (R455, R458).
(DEDUCED, log entry 87, unsafe.) -/
def CurUnit.health (u : CurUnit) (hs : Bool) : CurUnit :=
  let run := if u.hs && !hs && decide (20 ≤ u.high) && decide (u.high ≤ 28) then some u.high else none
  let old := 768 ≤ u.age
  let u := { u with
    hs := hs, high := if hs then min (u.high + 1) 255 else 0
    age := min (u.age + 1) 769, word := if old then none else u.word }
  u.decode hs run

/-- STATE of the last health word; 7 when it is absent. -/
def CurUnit.state (u : CurUnit) : Nat := match u.word with
  | some h => h % 8
  | none => 7

/-- Bit `k` of the last health word. -/
def CurUnit.has (u : CurUnit) (k : Nat) : Bool := match u.word with
  | some h => bit h k
  | none => false

/-- Rank of a unit, lower first; none when it is not available (R458). -/
def CurUnit.rank (u : CurUnit) : Option Nat :=
  if !u.alive || u.has 6 then none
  else if u.state = 1 then some (if u.has 5 then 2 else 1)
  else if u.state = 3 then some 3
  else none

/-- The Curator's view of unit `k`. -/
def Pair.unit (p : Pair) (k : Nat) : CurUnit := p.cur.getD k .reset

/-- The highest-ranked available unit; unit A among equals. -/
def Pair.best (p : Pair) : Option Nat :=
  match (p.unit 0).rank, (p.unit 1).rank with
  | some a, some b => some (if a ≤ b then 0 else 1)
  | some _, none => some 0
  | none, some _ => some 1
  | none, none => none

/-- Unit `k` holds the plant: ACTIVE or RESTORING with a live heartbeat. -/
def Pair.drives (p : Pair) (k : Nat) : Bool := (p.unit k).alive && ((p.unit k).state == 0 || (p.unit k).state == 2)

/-- Nothing is known of unit `k`'s role yet: its heartbeat lives and its first health word may still come. -/
def Pair.silent (p : Pair) (k : Nat) : Bool := (p.unit k).alive && (p.unit k).word.isNone && decide ((p.unit k).age < 768)

/-- What the Curator decides: a unit to clear and a unit to set (R459). A Curator that does not know which latch is set
waits for what the units say of themselves, and clears the other unit's latch before it sets one.
(DEDUCED, log entry 87, unsafe.) -/
def Pair.decide (p : Pair) : Option Nat × Option Nat :=
  let drives := p.drives 0 || p.drives 1
  match p.sel with
  | none =>
    if drives || p.silent 0 || p.silent 1 then (none, none)
    else match p.best with
      | some v => (some (1 - v), some v)
      | none => (none, none)
  | some u =>
    let x := p.unit u
    let v := 1 - u
    if !x.alive then (some u, p.best)
    else if x.state = 0 ∧ (x.has 3 ∨ x.has 4) ∧ (p.unit v).rank = some 1 then (some u, some v)
    else if drives then (none, none)
    else match p.best with
      | some w => if w = u then (none, some u) else (some u, some w)
      | none => (none, none)

/-- The output of general channel `c` takes the level `b`. -/
def State.setPin (s : State) (c : Nat) (b : Bool) : State := s.setGpc c (fun q => { q with pin := b })

/-- The pulses of this sample, set and clear of each unit (R459, R460). -/
def State.curPins (s : State) (set clear : Option Nat) : State :=
  let s := (s.setPin 0 (set == some 0)).setPin 1 (clear == some 0)
  let s := (s.setPin 2 (set == some 1)).setPin 3 (clear == some 1)
  s.setPin 4 s.pair.best.isNone

/-- The unit whose latch is set, as far as the Curator can know: one that holds the plant while none is known. -/
def Pair.adopt (p : Pair) : Option Nat :=
  match p.sel with
  | some u => some u
  | none => if p.drives 0 then some 0 else if p.drives 1 then some 1 else none

/-- The Curator acts on what it has seen (R459). -/
def State.curAct (s : State) : State :=
  let s := s.setPair (fun p => if p.setAfter.isSome then p else { p with sel := p.adopt })
  match s.pair.setAfter with
  | some (v, n) =>
    if n ≤ 1 then (s.setPair (fun p => { p with sel := some v, setAfter := none })).curPins (some v) none
    else (s.setPair (fun p => { p with setAfter := some (v, n - 1) })).curPins none none
  | none =>
    match s.pair.decide with
    | (some u, v) =>
      (s.setPair (fun p => { p with sel := none, setAfter := v.map (fun x => (x, 4)) })).curPins none (some u)
    | (none, some v) => (s.setPair (fun p => { p with sel := some v })).curPins (some v) none
    | (none, none) => s.curPins none none

/-- CURATOR_SAMPLE (R460).
(DEDUCED, log entry 87, unsafe.) -/
def execCuratorSample (hbA hsA hbB hsB : Bool) (s : State) : Result :=
  .next (if s.curator && s.boot.ticked && s.boot.counting && !s.halted then
    let a := ((s.pair.unit 0).heart hbA).health hsA
    let b := ((s.pair.unit 1).heart hbB).health hsB
    (s.setPair (fun p => { p with cur := [a, b] })).curAct
  else s)

end Sys2Proof.Machine
end

