-- ==== Sys2Proof/Machine/Checks.lean ====
section
/-! DEFINITION. The structural checks of image sections and live writes (R42, R234, R260, R285, R317, R336), the access
of every memory word (R233, R266, R316, R320, R345, R349), who is stopped (R602), and the shadows (R37). -/

namespace Sys2Proof.Machine

/-! ### Structural checks -/

/-- The conditions of the CRT section that fail: frame length (R29) and window ends (R42). -/
def State.crtBad (s : State) : List (List Nat) :=
  let w1 := s.f F.CRT_WIN12_W1
  let w2 := s.f F.CRT_WIN12_W2
  let w3 := s.f F.CRT_WIN3_W3
  failing [(0, s.nf % 100 == 0), (1, decide (12500 ≤ s.nf)), (2, decide (s.nf ≤ 62500)), (3, decide (64 ≤ w1)),
    (4, decide (w1 ≤ w2)), (5, decide (w2 ≤ w3)), (6, decide (w3 ≤ s.nce))]

/-- The structural check of the CRT section (R29, R42). -/
def State.crtOk (s : State) : Bool := s.crtBad.isEmpty

/-- A source word of slot `i` (R230); `sp` says that it is SPSRC. -/
def State.srcWordOk (s : State) (i w : Nat) (sp : Bool) : Bool :=
  let x := w % 65536
  match w / 2 ^ 28 with
  | 0 => true
  | 1 => sp
  | 2 => decide (x < 4096)
  | 3 => decide (x < 64)
  | 4 => decide (x < 256)
  | 5 => sp && decide (x < 8)
  | 6 => decide (x < 512) && s.loopEn x && x != i
  | 7 => decide (x < 96)
  | _ => false

/-- The destination of slot `i` (R221, R234). -/
def State.destWordOk (s : State) (i : Nat) : Bool :=
  let w := s.ld i 0x30
  let x := w % 65536
  match w / 2 ^ 28 with
  | 0 => true
  | 1 => decide (x < 18) && s.loopClass i == 0
  | 2 => decide (x < 32)
  | 3 => decide (x < 4096)
  | 4 => decide (x < 512) && s.ld x 8 / 2 ^ 28 == 6 && s.ld x 8 % 65536 == i
  | 5 => decide (x / 8 < 6) && decide (x % 8 ≤ 3)
  | _ => false

/-- The conditions of R234, R260 and R223 on slot `i` alone that fail.
(DEDUCED, log entry 41, unsafe.) -/
def State.loopBad (s : State) (i : Nat) : List (List Nat) :=
  let h := s.loopHyst i
  let n := s.loopNsec i
  let mode0 := getBits (s.ld i 0) 6 2
  let law := if h then
      [(0, n == 0), (1, decide (s.ldI i 0x24 ≤ s.ldI i 0x14)), (2, !bit (s.ld i 0) 11), (3, s.ld i 0x34 == 0),
        (4, mode0 != 3)]
    else
      [(5, decide (1 ≤ n) && decide (n ≤ 6)), (6, decide (s.loopSec0 i + n ≤ 2048)),
        (7, decide (s.ldI i 0x1C ≤ s.ldI i 0x20)), (8, decide (0 ≤ s.ldI i 0x24)), (9, decide (0 ≤ s.ldI i 0x28)),
        (10, s.srcWordOk i (s.ld i 0x10) false)]
  failing (law ++ [(11, decide (s.loopPhase i < classPeriod (s.loopClass i))), (12, s.loopDrive i != 6),
    (13, s.loopDrive i == 7 || s.loopClass i == 0), (14, s.srcWordOk i (s.ld i 8) true),
    (15, s.srcWordOk i (s.ld i 0xC) false), (16, s.destWordOk i), (17, getBits (s.ld i 0) 14 2 != 3),
    (18, mode0 != 3 || s.ld i 0x30 / 2 ^ 28 != 0), (19, decide (0 ≤ s.ldI i 0x38)), (20, decide (0 ≤ s.ldI i 0x3C)),
    (21, s.ld i 0x2C % 65536 == 0 || s.ldI i 0x28 != 0),
    (22, !bit (s.ld i 0x2C) 28 || s.f (F.SEQ_IS_CFG_SRC (getBits (s.ld i 0x2C) 24 3)) == 6)])

/-- Two ranges (start, length) overlap. -/
def rangesMeet (a b : Nat × Nat) : Bool := decide (b.1 < a.1 + a.2) && decide (a.1 < b.1 + b.2)

/-- Link number of slot `i`, when it has one. -/
def State.linkOf (s : State) (i : Nat) : Option Nat :=
  if bit (s.ld i 0x34) 31 then some (s.ld i 0x34 % 128) else none

/-- The conditions of R285 on link `l` of slot `i` that fail.
(DESIGN CHOICE, log entry 40, safe.) -/
def State.linkBad (s : State) (i l : Nat) : List (List Nat) :=
  let base := s.lk l 4
  let lim := if s.lkAngle l then s.lkN l else 1440
  let d := getBits (s.lk l 0) 4 3
  failing [(0, decide (s.lk l 0 % 4 < 2)), (1, base % 4 == 0), (2, decide (0x2000 ≤ base)),
    (3, decide (base + s.lkBytes l ≤ 0x80000)), (4, !s.lkAngle l || decide (d ≤ 5)),
    (5, !s.lkAngle l || decide (s.loopClass i ≤ 1)),
    (6, !s.lkAngle l || decide (5 < d) || decide (1 < s.loopClass i) || s.lkPpr l == 1
      || decide ((Config.maxSpeed d).toNat * classPeriod (s.loopClass i) * s.nf * 4 < 65536 * 1000000000)),
    (7, decide (s.lk l 0x18 % 2048 < lim)), (8, decide (getBits (s.lk l 0x18) 16 11 < lim)),
    (9, decide (0 ≤ toS 32 (s.lk l 0x10)))]

/-- The slots of the enabled loops with a link, each with its link. -/
def State.linkUse (s : State) : List (Nat × Nat) :=
  s.enabledSlots.filterMap (fun i => (s.linkOf i).map (fun l => (i, l)))

/-- The conditions of R285 on the links of the enabled loops that fail. -/
def State.linksBad (s : State) : List (List Nat) :=
  within 0 (s.linkUse.flatMap (fun u => within u.1 (within u.2 (s.linkBad u.1 u.2))))
    ++ within 1 (pairsBad (· == ·) s.linkUse)
    ++ within 2 (pairsBad rangesMeet (s.linkUse.map (fun u => (u.1, (s.lk u.2 4, s.lkBytes u.2)))))

/-- The conditions on loops, links and drive chains that fail: the part of the CE check that live writes of RWL words
are held to beside R336 (R234, R260, R285, R317). -/
def State.engineBad (s : State) : List (List Nat) :=
  let en := s.enabledSlots
  let bq := en.filter (fun i => !s.loopHyst i)
  let dest := (en.map (fun i => (i, s.ld i 0x30))).filter (fun w => decide (1 ≤ w.2 / 2 ^ 28) && decide (w.2 / 2 ^ 28 ≤ 3))
  within 0 (en.flatMap (fun i => within i (s.loopBad i)))
    ++ within 1 (pairsBad rangesMeet (bq.map (fun i => (i, (s.loopSec0 i, s.loopNsec i)))))
    ++ within 2 (pairsBad (· == ·) dest)
    ++ within 3 s.linksBad ++ within 4 (withinEach 6 s.chainBad)

/-- The conditions of the CE section that fail (R234, R260, R285, R317, R336). -/
def State.ceBad (s : State) : List (List Nat) :=
  within 0 s.engineBad ++ within 1 s.captureBad
    ++ within 2 (withinEach 8 (fun k =>
      failing [(0, s.f (F.CE_PI_CFG_MODE k) == 0 || s.f (F.CE_PI_CFG_TOUT k) != 0)]))

/-- The structural check of the CE section. -/
def State.ceOk (s : State) : Bool := s.ceBad.isEmpty

/-! ### Who is stopped -/

/-- The owner of the RWL fields at a register address is stopped (R602). -/
def State.ownerStopped (s : State) (a : Nat) : Bool :=
  match blockOf a with
  | 1 => s.on F.BOOT_STAT_RECOVERY
  | 6 => !s.on F.ALM_CTL_RUN
  | 7 => s.canState ((a - 0x40070000) / 0x8000) == 0
  | 8 => !s.zpEn 0 && !s.zpEn 1
  | 9 => s.unitCode == 1 || s.unitCode == 3 || s.unitCode == 4
  | _ => s.ceStopped

/-! ### The words of memory -/

/-- How masters access a word of memory. A mask names the bits that a write may set; the others are reserved or
read-only. -/
inductive MemAcc where
  /-- RW at once. -/
  | plain (mask : Nat)
  /-- RW, shadowed. -/
  | shadowed (mask : Nat)
  /-- RWL, owned by the control engine. -/
  | engine (mask : Nat)
  /-- RWL, owned by the Almanac. -/
  | almanac (mask : Nat)
  /-- Read-only. -/
  | readOnly
  /-- A generator's parameter word. -/
  | generator (n mask : Nat)
  /-- A capture channel's source word. -/
  | capture
  /-- VALUE of a Catalogue point. -/
  | value (p : Nat)
  deriving DecidableEq, Repr

/-- All 32 bits. -/
def full : Nat := 4294967295

/-- Catalogue words (R337, R345). -/
def catalogueAcc (a : Nat) : MemAcc :=
  match a % 32 with
  | 8 => .value (a / 32)
  | 12 => .almanac 0xF0000
  | 16 => .almanac 0xFFFF
  | 20 => .readOnly
  | 24 => .shadowed full
  | 28 => .shadowed full
  | _ => .almanac full

/-- Zone words (R354). -/
def zoneAcc (o : Nat) : MemAcc :=
  if 0x80 ≤ o then .almanac (if o = 0x80 then 0xFFFFF else if o < 0xA0 then full else 0)
  else .shadowed (match o with
    | 0x00 => 0xFF07C3FF
    | 0x04 => 0x81FF81FF
    | 0x08 => 0x81FF81FF
    | 0x0C => 0x8FFF8FFF
    | 0x18 => 0xFFFF
    | _ => if o < 0x5C then full else 0)

/-- Rule words (R367). -/
def ruleAcc (o : Nat) : MemAcc :=
  .shadowed (if o = 0 then 0xC0FFFFFF
    else if o < 0x24 then (if o % 8 = 4 then 0xF3FFF else full)
    else if o = 0x24 then 0x0FFFFF1F
    else if o < 0x30 then full else 0)

/-- Stage words (R365). -/
def stageAcc (o : Nat) : MemAcc :=
  if o = 0 then .shadowed 0x0FFF000F else if o < 0x10 then .shadowed full
  else if o = 0x10 then .almanac 0xFFFF0007 else .almanac 0

/-- Words of the Almanac tables (R349 to R368). -/
def tableAcc (a : Nat) : MemAcc :=
  if a < 0x24000 then zoneAcc (a % 0x100)
  else if a < 0x24400 then .shadowed full
  else if a < 0x26400 then
    .shadowed (if a % 0x100 = 0 then 0x7F else if a % 0x100 < 0x20 then 0 else 0x800F37FF)
  else if a < 0x26800 then
    .shadowed (if a % 16 = 8 then 0x8000001F else if a % 16 = 12 then 0 else full)
  else if a < 0x2A800 then ruleAcc (a % 0x40)
  else if a < 0x2A840 then
    .shadowed (if a = 0x2A800 then 0xFF01 else if a < 0x2A814 then full else 0)
  else if a < 0x2A900 then stageAcc ((a - 0x2A840) % 0x20)
  else if a < 0x2B000 then .plain full
  else .almanac (if a % 8 = 0 then 0xFF01FFFF else full)

/-- Loop descriptor words (R228, R233); `hyst` says that the slot's LAW is HYST. -/
def loopAcc (o : Nat) (hyst : Bool) : MemAcc :=
  match o with
  | 0x00 => .engine 0x01FFFFFF
  | 0x04 => .engine 0x07FF07FF
  | 0x08 => .engine 0xF000FFFF
  | 0x0C => .engine 0xF000FFFF
  | 0x10 => if hyst then .shadowed full else .engine 0xF000FFFF
  | 0x2C => .shadowed 0x173FFFFF
  | 0x30 => .engine 0xF000FFFF
  | 0x34 => .engine 0x8000007F
  | _ => .shadowed full

/-- Section words (R231, R233). -/
def sectAcc (o : Nat) : MemAcc :=
  if o < 0x14 then .shadowed full else if o = 0x14 then .shadowed 0x3FFFFFFF
  else if o = 0x18 then .engine 3 else .engine 0

/-- Loop state words (R232, R233). -/
def loopStateAcc (o : Nat) : MemAcc :=
  if o = 0xC then .shadowed full else if o = 0x14 then .engine 0x00FFF7FF
  else if o = 0x1C then .engine 0 else .engine full

/-- Drive record words (R315, R316). -/
def driveAcc (o : Nat) : MemAcc :=
  match o with
  | 0x00 => .engine 0x3F777F
  | 0x04 => .engine 0x01FF01FF
  | 0x08 => .engine 0x03FF01FF
  | 0x1C => .shadowed 0xFFFFFF
  | 0x28 => .shadowed 0xFFF
  | 0x44 => .shadowed 0x3FF
  | 0x4C => .engine full
  | 0x50 => .engine 0x3FFFFFFF
  | 0x5C => .engine 0x0FFFFFFF
  | 0xD4 => .engine 0xFFF07
  | 0xE8 => .engine 7
  | _ => if o < 0x80 then .shadowed full else if o < 0xEC then .engine full else .engine 0

/-- Generator words (R319, R320). -/
def genAcc (n o : Nat) : MemAcc :=
  if o = 0 then .generator n 0xFDFF
  else if o < 0x18 then .generator n full
  else if o < 0x24 then .readOnly else .generator n 0

/-- Link descriptor and state words (R264 to R266). -/
def linkAcc (a : Nat) : MemAcc :=
  if a < 0x141000 then
    match a % 32 with
    | 0 => .engine 0xF3F7FF
    | 4 => .engine full
    | 0x14 => .shadowed 0xFFF
    | 0x18 => .shadowed 0x07FF07FF
    | 0x1C => .engine 0
    | _ => .shadowed full
  else
    match a % 32 with
    | 8 => .engine 0x0FFF7FFF
    | 0x14 => .engine 0xFFFFFF
    | 0x1C => .engine 0x0FFF7F7F
    | _ => .engine full

/-- Words of CE memory (R227, R233, R315, R318, R327).
(DEDUCED, log entry 42, unsafe.) -/
def State.ceAcc (s : State) (a : Nat) : MemAcc :=
  if a < 0x108000 then loopAcc (a % 64) (s.loopHyst ((a - 0x100000) / 64))
  else if a < 0x118000 then sectAcc (a % 32)
  else if a < 0x120000 then .engine full
  else if a < 0x124000 then loopStateAcc (a % 32)
  else if a < 0x124600 then driveAcc (a % 256)
  else if a < 0x125000 then .engine 0
  else if a < 0x125200 then genAcc ((a - 0x125000) / 64) (a % 64)
  else if a < 0x125240 then .capture
  else .engine 0

/-- The access of the word of memory at `a` (R580). -/
def State.memAcc (s : State) (a : Nat) : MemAcc :=
  if a < 0x20000 then catalogueAcc a
  else if a < 0x2B800 then tableAcc a
  else if a < 0x100000 then .plain full
  else if a < 0x140000 then s.ceAcc a
  else if a < 0x142000 then linkAcc a
  else if a < 0x1C0000 then .plain full
  else if a < 0x1E0000 then .readOnly
  else .plain full

/-! ### Shadows -/

/-- The bits of a shadowed word that a write may set. -/
def State.shadowMask (s : State) (a : Nat) : Nat :=
  if inMem a then
    match s.memAcc a with
    | .shadowed m => m
    | _ => 0
  else match findReg a with
    | some r => orN r.rw r.rwl
    | none => 0

/-- One shadowed word is committed (R37). -/
def State.commitWord (s : State) (a v : Nat) : State :=
  let m := s.shadowMask a
  s.poke a (andNot (s.peek a) m + andN v m)

/-- Every pending shadow is committed, oldest first. -/
def State.commitShadow (s : State) : State :=
  { s.each s.shadow (fun t e => t.commitWord e.1 e.2.toNat) with shadow := [] }

/-- A write waits in its shadow. A later one to the same word replaces it.
(DEDUCED, log entry 13, safe.) -/
def State.pushShadow (s : State) (a v : Nat) : State :=
  { s with shadow := s.shadow.filter (fun e => e.1 != a) ++ [(a, BitVec.ofNat 32 v)] }

/-! ### Live writes -/

/-- The structural checks, each as the conditions of it that fail; what waits in shadows counts as written for the
Almanac's.
(DEDUCED, log entry 39, unsafe.) -/
def State.liveChecks (s : State) : List (State → List (List Nat)) :=
  let zp := s.boot.seen.contains 9
  [State.crtBad, State.adcBad, State.seqBad, State.pwmBad, State.engineBad, fun t => t.commitShadow.almBad,
    fun t => t.canBad 0 zp, fun t => t.canBad 1 zp, State.zpBad, State.pairBad]

/-- A write that turns `s` into `t` would break a condition of a structural check: one that is met before it and fails
after, whatever other conditions fail (R142, R170, R202, R234, R285, R336, R373, R408, R440, R484).
(DEDUCED, log entry 39, unsafe.) -/
def State.wouldBreak (s t : State) : Bool :=
  s.liveChecks.any (fun c => (c t).any (fun v => !(c s).contains v))

end Sys2Proof.Machine
end

