-- ==== Sys2Proof/Machine/Boot.lean ====
section
/-! DEFINITION. Start-up: the boot sequence (R65), the configuration image (R78 to R91), RECOVERY (R92 to R96) and the
events of the boot. -/

namespace Sys2Proof.Machine

/-! ### Trailer and Colophon -/

/-- TARGET codes of the table of R81, with INSTANCE in range. -/
def targetOk (target inst : Nat) : Bool :=
  decide (1 ≤ target) && decide (target ≤ 0x10) && (if target = 8 then decide (inst ≤ 1) else inst == 0)

/-- Is the target code one of R81? -/
def targetKnown (target : Nat) : Bool := decide (1 ≤ target) && decide (target ≤ 0x10)

/-- The section entries of a Colophon body (R81). -/
def sectTable (c : List Byte) : List SectEntry :=
  (List.range (numAt c 0x0A 2)).map (fun i =>
    let o := 32 + 16 * i
    { idx := i, target := numAt c o 1, inst := numAt c (o + 1) 1, sflags := numAt c (o + 2) 2
      offset := numAt c (o + 4) 4, length := numAt c (o + 8) 4, scrc := numAt c (o + 12) 4 })

/-- The checks 0x01 to 0x03 of R89 on the trailer: the failure code, 0 for none. -/
def trailerCheck (t : List Byte) : Nat :=
  if numAt t 0 4 ≠ 0x4F435354 then 1
  else if crc32 (t.take 12) ≠ numAt t 12 4 then 2
  else if numAt t 4 2 ≠ 1 ∧ numAt t 4 2 ≠ 2 then 3 else 0

/-- REVMASK, FLAGS and the reserved fields of the Colophon header (check 0x06). -/
def colophonFields (fmt : Nat) (c : List Byte) : Bool :=
  let rev := numAt c 0x0C 2
  numAt c 0x08 2 == 0x6440 && (rev == 0 || (fmt == 2 && bit rev 3))
    && decide (numAt c 0x0E 2 < 2) && numAt c 0x14 12 == 0

/-- The checks 0x04 to 0x07 of R89 on the Colophon body. -/
def colophonCheck (t c : List Byte) : Nat :=
  let fmt := numAt t 4 2
  let n := numAt c 0x0A 2
  if numAt t 6 2 ≠ 32 + 16 * n ∨ (if fmt = 1 then 32 else 64) < n then 4
  else if crc32 c ≠ numAt t 8 4 then 5
  else if !colophonFields fmt c then 6
  else if crc64 (c.drop 8) ≠ numAt c 0 8 then 7 else 0

/-- Bounds of a section (R83); `stop` is where section data ends in the slot. -/
def sectIn (stop : Nat) (e : SectEntry) : Bool :=
  e.offset % 16 == 0 && e.length % 4 == 0 && decide (e.offset + e.length ≤ stop)

/-- Two sections overlap. An empty section whose offset lies inside another one counts as overlapping it, which the
manual leaves open.
(DESIGN CHOICE, log entry 125, unsafe.) -/
def sectsMeet (a b : SectEntry) : Bool :=
  decide (a.offset < b.offset + b.length) && decide (b.offset < a.offset + a.length)

/-- The first entry that fails check 0x08: out of bounds, or overlapping an earlier one; `done` are those before it.
(DEDUCED, log entry 30, unsafe.) -/
def boundsBad (stop : Nat) : List SectEntry → List SectEntry → Option Nat
  | _, [] => none
  | done, e :: r => if !sectIn stop e || done.any (sectsMeet e) then some e.idx else boundsBad stop (e :: done) r

/-- The fields of an entry (check 0x09). -/
def entryOk (fmt : Nat) (e : SectEntry) : Bool :=
  decide (e.sflags < 2) && (fmt == 2 || e.sflags == 0)
    && (targetOk e.target e.inst || (!targetKnown e.target && e.sflags == 1))

/-- The checks 0x01 to 0x09: failure code and section index, or no failure. -/
def headCheck (t c : List Byte) : Option (Nat × Nat) :=
  let tab := sectTable c
  if trailerCheck t ≠ 0 then some (trailerCheck t, 0xFF)
  else if colophonCheck t c ≠ 0 then some (colophonCheck t c, 0xFF)
  else match boundsBad (0x80000 - 16 - numAt t 6 2) [] tab with
    | some i => some (8, i)
    | none => (tab.find? (fun e => !entryOk (numAt t 4 2) e)).map (fun e => (9, e.idx))

/-- The header's Colophon is as long as its trailer says, where the trailer is sound. -/
def headerFits (h : SlotHeader) : Bool :=
  h.wf && (trailerCheck h.trailer != 0 || h.colophon.length == numAt h.trailer 6 2)

/-! ### Records -/

/-- A register of which no bit can be written. -/
def RegRow.readOnly (r : RegRow) : Bool := r.rw == 0 && r.rwl == 0 && r.w1c == 0 && r.wo == 0

/-- The register at `a` is one of which no bit can be written. -/
def readOnlyReg (a : Nat) : Bool :=
  match findReg a with
  | some r => r.readOnly
  | none => false

/-- Addresses of the memory windows that a target owns.
(DEDUCED, log entry 31, unsafe.) -/
def targetMem (target a : Nat) : Bool :=
  match target with
  | 4 => decide (0x1C0000 ≤ a) && decide (a < 0x1E0000)
  | 6 => (decide (0x100000 ≤ a) && decide (a < 0x1C0000)) || (decide (0x1E0000 ≤ a) && decide (a < 0x200000))
  | 7 => decide (a < 0x100000)
  | _ => false

/-- Addresses of a target's register block. -/
def targetRegs (target inst a : Nat) : Bool :=
  let o := a % 0x10000
  decide (0x40000000 ≤ a) && decide (a < 0x400F0000) && (match target with
    | 8 => blockOf a == 7 && o / 0x8000 == inst
    | 0xE => blockOf a == 0xD && decide (o < 0x8000)
    | 0xF => blockOf a == 0xD && decide (0x8000 ≤ o)
    | 0x10 => blockOf a == 0xE
    | _ => blockOf a + 1 == target)

/-- Words within its space that an image record may not touch (R336, R408, R511, R550, R578, R601). -/
def imageBarred (target a : Nat) : Bool :=
  let o := a % 0x10000
  match target with
  | 6 => decide (0x125000 ≤ a) && decide (a < 0x125200) && decide (0x18 ≤ a % 64) && decide (a % 64 < 0x24)
  | 8 => readOnlyReg a || (decide (0x4000 ≤ o % 0x8000) && decide (o % 0x8000 < 0x6800))
      || objOffset a == some 8 || objOffset a == some 0xC
  | 0xB => decide (0x100 ≤ o) && decide (o < 0x200)
  | 0xD => readOnlyReg a
  | 0xE => readOnlyReg a || (decide (0x4000 ≤ o) && decide (o < 0x8000))
  | 0xF => readOnlyReg a
  | 0x10 => a != F.SVC_IRQEN_ROEN.addr
  | _ => false

/-- A record of the target may touch the word at `a` (R85); `ram` says that the image is staged in shared RAM (R95).
(DEDUCED, log entry 30, unsafe; DEDUCED, log entry 31, unsafe.) -/
def recordMay (ram : Bool) (target inst a : Nat) : Bool :=
  (targetMem target a || targetRegs target inst a) && !imageBarred target a
    && !(ram && decide (0x80000 ≤ a) && decide (a < 0x100000))

/-- The bits of a memory word that an image record sets; the word FFSRC of a slot is a limit in a HYST one, and loses
its reserved bits when the image is in use otherwise (`State.trimFfsrc`). -/
def State.imageMask (s : State) (a : Nat) : Nat :=
  match s.memAcc a with
  | .plain m => m
  | .shadowed m => m
  | .engine m => if a < 0x108000 ∧ a % 64 = 0x10 then full else m
  | .almanac m => if a < 0x20000 ∧ a % 32 = 12 then 0x01FFFFFF else m
  | .readOnly => 0
  | .generator _ m => m
  | .capture => 0xF01FFFFF
  | .value _ => full

/-- An image record writes a memory word (R84). Loop state words that it writes are noted (R219). -/
def State.imageMem (s : State) (a w : Nat) : State :=
  let s := s.setM a (andN w (s.imageMask a))
  if 0x120000 ≤ a ∧ a < 0x124000 then { s with boot := { s.boot with wrote := a :: s.boot.wrote } } else s

/-- Bits of an object's word that a write may set (R386).
(DEDUCED, log entry 46, unsafe.) -/
def objMask (o : Nat) : Nat := if o = 0 then 0x7FFFFFFF else if o = 4 then 0x37F else full

/-- An image record writes a register (R86): both copies of a shadowed one, and RWL fields. A clear register clears, and a
write of LDG_CNTk_SEL sets its counter to 0, as a master's does (R20, R555). `idx` is its section. -/
def State.imageReg (s : State) (idx a w : Nat) : State :=
  if a = F.CRT_FRAMECFG_NF.addr then
    let s := s.setF F.CRT_FRAMECFG_NF (w % 65536)
    s.setF F.CRT_FRAMECFG_NCE s.nce
  else if !(counterList a).isEmpty then s.counterClr a w
  else if a = F.LDG_CLR.addr then s.ledgerClr w
  else if a = F.FOL_PROT_BP.addr then s.protImage (w % 4)
  else if a = F.FOX_VREQ_N.addr then s.setN (w % 32)
  else
    match findReg a with
    | none =>
      (match objOffset a with
      | some o => if blockOf a = 7 then s.wr a (andN w (objMask o)) else s
      | none => s)
    | some r =>
      let m := orN r.rw r.rwl
      let s := s.wr a (andNot (s.rd a) m + andN w m)
      let s := s.each (List.range 6) (fun t g => if a = (F.PWM_G_ANGLE g).addr then t.angleWritten g else t)
      let s := s.each (List.range 4) (fun t n =>
        if a = (F.PNL_COMBO_CFG_EN n).addr ∨ a = (F.PNL_COMBO_KEYS_USED0 n).addr then t.comboWritten n else t)
      let s := s.each (List.range 32) (fun t k => if a = (F.LDG_CNT_SEL_SRC k).addr then t.ledgerZero k else t)
      s.each (List.range 4) (fun t k =>
        if a = (F.FOL_ENPT_EN k).addr then
          { t with boot := { t.boot with enpt := updAt t.boot.enpt k (fun _ => idx) } }
        else t)

/-- An image record writes the word at `a`: its working copy, and its shadow, in which nothing waits any more (R86). -/
def State.imageWrite (s : State) (idx a w : Nat) : State :=
  let s := { s with shadow := s.shadow.filter (fun e => e.1 != a) }
  if inMem a then s.imageMem a w else s.imageReg idx a w

/-- The words of a record are written from `a` onward; false when one lies outside the target's space. -/
def State.recordWords (s : State) (ram : Bool) (e : SectEntry) : Nat → List Nat → State × Bool
  | _, [] => (s, true)
  | a, w :: r =>
    if recordMay ram e.target e.inst a then State.recordWords (s.imageWrite e.idx a w) ram e (a + 4) r
    else (s, false)

/-- The little-endian words that a list of bytes spells. -/
def wordsOf : Nat → List Byte → List Nat
  | 0, _ => []
  | n + 1, l => leNat (l.take 4) :: wordsOf n (l.drop 4)

/-- The records of a section are applied one after another (R84); false at the first that fails check 0x0A. `fuel`
bounds their number.
(DEDUCED, log entry 30, unsafe.) -/
def State.records (s : State) (ram : Bool) (e : SectEntry) : Nat → List Byte → State × Bool
  | 0, l => (s, l.isEmpty)
  | fuel + 1, l =>
    if l.isEmpty then (s, true)
    else
      let a := numAt l 0 4
      let kind := numAt l 4 1
      let n := numAt l 6 2
      let pay := if kind = 1 then n else 1
      if l.length < 8 + 4 * pay ∨ a % 4 ≠ 0 ∨ numAt l 5 1 ≠ 0 ∨ (kind ≠ 1 ∧ kind ≠ 2) then (s, false)
      else
        let ws := if kind = 1 then wordsOf n (l.drop 8) else List.replicate n (numAt l 8 4)
        let r := s.recordWords ram e a ws
        if r.2 then State.records r.1 ram e fuel (l.drop (8 + 4 * pay)) else r

/-! ### Checking and applying sections -/

/-- The structural check of a section's target (check 0x0C) after its records; `rest` are the sections to come. The
check sees the targets as written so far: PWM groups at 4× are judged with the N_F of the sections before, and not
again when a later CRT section writes another N_F, which the manual leaves open (R31).
(DEDUCED, log entry 30, unsafe; DESIGN CHOICE, log entry 124, unsafe.) -/
def State.targetCheck (s : State) (e : SectEntry) (rest : List SectEntry) : Bool :=
  match e.target with
  | 1 => s.crtOk
  | 3 => s.adcOk && !s.on F.ADC_CALCTL_PERM
  | 4 => s.seqOk
  | 5 => s.pwmOk
  | 6 => s.ceOk
  | 7 => s.almOk && rest.all (fun x => x.target != 6)
  | 8 => s.canOk e.inst (s.boot.seen.contains 9)
  | 9 => s.zpOk
  | 0xA => s.pairOk
  | 0xC => e.length == 0
  | 0xD => s.pnlOk
  | 0xE => s.ldgOk
  | 0xF => s.foxOk
  | _ => true

/-- One section is applied and checked: the code of the first failed check of 0x0A to 0x0C, 0 for none (R89). -/
def State.applySection (s : State) (ram : Bool) (e : SectEntry) (rest : List SectEntry) (b : List Byte) : State × Nat :=
  let r := s.records ram e b.length b
  if !r.2 then (r.1, 0xA)
  else if crc32 b ≠ e.scrc then (r.1, 0xB)
  else if !r.1.targetCheck e rest then (r.1, 0xC)
  else (r.1, 0)

/-- The checks after the last section: energy points against the whole slot (R511), then required targets (0x0D). -/
def State.slotCheck (s : State) : Option (Nat × Nat) :=
  let bad := [0, 1, 2, 3].find? (fun k =>
    s.on (F.FOL_ENPT_EN k) && s.ptType (s.f (F.FOL_ENPT_POINT k)) == 0)
  match bad with
  | some k => if s.folOk then none else some (0xC, s.boot.enpt.getD k 0)
  | none => if s.boot.seen.contains 1 then none else some (0xD, 0xFF)

/-- Boot values of loop states (R219). -/
def State.loopBoot (s : State) : State :=
  s.each s.enabledSlots (fun t i =>
    let a := lsAddr i
    let t := if s.boot.wrote.contains (a + 0x14) then t else t.setM (a + 0x14) (getBits (t.ld i 0) 6 2)
    if t.loopHyst i && !s.boot.wrote.contains (a + 0x10) then t.setM (a + 0x10) 0xFFFF0000 else t)

/-- The reserved bits of FFSRC at `a` read 0 where the slot is a BIQUAD one (R17, R230). -/
def State.trimFf (s : State) (a : Nat) : State :=
  match s.memAcc a with
  | .engine m => s.setM a (andN (s.mw a) m)
  | _ => s

/-- The reserved bits of FFSRC in every BIQUAD slot read 0 (R17, R230). -/
def State.trimFfsrc (s : State) : State :=
  let l := s.mem.filterMap (fun c =>
    if decide (0x100000 ≤ c.1) && decide (c.1 < 0x108000) && (c.1 % 64 == 0x12 || c.1 % 64 == 0x13) then
      some (c.1 / 4 * 4) else none)
  s.each l (·.trimFf ·)

/-- Step 5 starts (R66). -/
def State.toSelfTest (s : State) : State := (s.toStage .selfTest).phase 5

/-- The image in hand has passed every check: it is in use, and step 5 follows. -/
def State.imageUp (s : State) : State :=
  let src := s.boot.cur
  let s := s.setF F.BOOT_STAT_SOURCE src
  let s := s.setB F.BOOT_STAT_FALLBACK (src == 1 && !s.boot.alone && s.f F.BOOT_FAILA_CODE != 0)
  let s := s.setF F.BOOT_STAT_FORMAT s.boot.format
  let s := (s.setF (F.BOOT_FPRINT 0) s.boot.fprint).setF (F.BOOT_FPRINT 1) (s.boot.fprint / 2 ^ 32)
  (s.trimFfsrc.loopBoot.keepLoops).foxImage.toSelfTest

/-- The slot in hand has failed a check: recorded, and its state is to be cleared (R89, R90).
(DEDUCED, log entry 32, unsafe.) -/
def State.slotFail (s : State) (code sect : Nat) : State :=
  let k := s.boot.cur
  let s := if k = 1 then (s.setF F.BOOT_FAILB_CODE code).setF F.BOOT_FAILB_SECT sect
    else (s.setF F.BOOT_FAILA_CODE code).setF F.BOOT_FAILA_SECT sect
  let s := s.log 0x02 0x10 (code + 256 * sect) k none true
  { s with boot := { s.boot with stage := .clear, sects := [] } }

/-- After the last section: the slot passes or fails.
(DEDUCED, log entry 32, unsafe.) -/
def State.slotEnd (s : State) : State :=
  match s.slotCheck with
  | some (code, sect) => s.slotFail code sect
  | none => s.imageUp

/-- The reading of slot `k` (2: the staged image) starts with its trailer and Colophon.
(DEDUCED, log entry 32, unsafe.) -/
def State.slotStart (s : State) (k : Nat) (t c : List Byte) : State :=
  let s := if k = 1 then (s.setF F.BOOT_FAILB_CODE 0).setF F.BOOT_FAILB_SECT 0xFF
    else (s.setF F.BOOT_FAILA_CODE 0).setF F.BOOT_FAILA_SECT 0xFF
  let s := s.phase 4
  let tab := sectTable c
  let known := tab.filter (fun e => targetKnown e.target)
  let s := { s with boot := { s.boot with
    stage := .slot, cur := k, sects := known, seen := known.map (·.target), fprint := numAt c 0 8
    format := numAt t 4 2, enpt := [0, 0, 0, 0], wrote := [] } }
  match headCheck t c with
  | some (code, sect) => s.slotFail code sect
  | none => if known.isEmpty then s.slotEnd else s

/-- RECOVERY is entered (R92, R93). SOURCE reads 3, none, also after a staged image has failed, which the manual leaves
open.
(DEDUCED, log entry 35, unsafe; DESIGN CHOICE, log entry 126, unsafe.) -/
def State.enterRecovery (s : State) : State :=
  let s := (s.setF F.BOOT_STAT_RECOVERY 1).setF F.BOOT_STAT_SOURCE 3
  let s := (s.setF F.BOOT_STAT_FORMAT 0).setF F.BOOT_STAT_FALLBACK 0
  let s := (s.setF (F.BOOT_FPRINT 0) 0).setF (F.BOOT_FPRINT 1) 0
  let s := s.setF F.BOOT_RECSEL_POS 0
  let s := (s.setF (F.PNL_ENC_COUNT 0) 0).setF (F.PNL_ENC_COUNT 1) 0
  { s.toStage .recovery with boot := { s.boot with stage := .recovery, decided := false, rest := [], sects := [] } }

/-! ### The staged image (R95, R96) -/

/-- Trailer of the staged image. -/
def State.stagedTrailer (s : State) : List Byte := s.bytesAt 0xFFFF0 16

/-- Colophon body of the staged image. -/
def State.stagedColophon (s : State) : List Byte :=
  let n := numAt s.stagedTrailer 6 2
  s.bytesAt (0xFFFF0 - n) n

/-- The sections of the staged image are applied in table order until one fails. -/
def State.stagedSections (s : State) : List SectEntry → State
  | [] => s.slotEnd
  | e :: rest =>
    let r := s.applySection true e rest (s.bytesAt (0x80000 + e.offset) e.length)
    if r.2 = 0 then State.stagedSections { r.1 with boot := { r.1.boot with sects := rest } } rest
    else r.1.slotFail r.2 e.idx

/-- The staged image is checked and applied to a state whose image targets are at reset. -/
def State.stagedApply (s : State) : State :=
  let s := s.slotStart 2 s.stagedTrailer s.stagedColophon
  if s.boot.stage = .slot then s.stagedSections s.boot.sects else s

/-- GO_RAM (R95).
(DEDUCED, log entry 32, unsafe.) -/
def State.bootRam (s : State) : State :=
  let s := s.clearImage.setF F.BOOT_STAT_RECOVERY 0
  { s with boot := { s.boot with alone := true, rest := [] } }.stagedApply

/-- The staged image passes every check of R89, tried on a copy.
(DESIGN CHOICE, log entry 33, safe.) -/
def State.stagedPasses (s : State) : Bool := s.clearImage.stagedApply.boot.stage == .selfTest

/-- The commands that program slot `k` from the staging area: its 4 KiB blocks are erased, its pages written in ascending
order, the trailer with the last one, and it is read back (R96).
(DESIGN CHOICE, log entry 33, safe.) -/
def slotOps (opcode k : Nat) : List FlashOp :=
  (List.range 128).map (fun i => .erase opcode (0x80000 * k + 4096 * i))
    ++ (List.range 2048).map (fun i => .page (0x80000 * k + 256 * i) (256 * i)) ++ [.verify k]

/-- PROG_A, PROG_B (R96): the check, then the programming of slot `k`.
(DESIGN CHOICE, log entry 33, safe.) -/
def State.progSlot (s : State) (k : Nat) : State :=
  if s.stagedPasses then
    { s.setF F.BOOT_STAT_PROGBUSY 1 with
      boot := { s.boot with prog := some k, flashOps := slotOps s.boot.erase4k k } }
  else s.setF F.BOOT_STAT_PROGERR 1

/-! ### The events of the boot -/

/-- RESET_RELEASE: the cause of the reset has passed, a lost crystal runs again (R59, R65). -/
def execResetRelease (s : State) : Result :=
  .next (if s.boot.stage = .reset then
    let t := (s.toStage .pll).phase 1
    { t with clk := { t.clk with lost := false } }
  else s)

/-- PLL_LOCK: step 1 ends; the recall scan and step 3 start, unless the boot is held at step 2 (R27, R61, R65, R526). The
LINK tick latency is settled by the lock (R35) and is a free value.
(DEDUCED, log entry 25, unsafe; DEDUCED, log entry 32, unsafe.) -/
def execPllLock (s : State) : Result :=
  .next (if s.boot.stage = .pll then
    let s := ((s.setF F.CRT_CLKSTAT_LOCK_M 1).setF F.CRT_CLKSTAT_LOCK_L 1).showForced
    let v := s.free
    let s := { v.2 with clk := { v.2.clk with link3 := bit v.1 0 } }
    if s.on F.THM_STAT_HOLD || s.on F.THM_STAT_LATCH then
      (((s.setThm (fun x => { x with halt := true })).toStage .held).phase 2).setUnit 5
    else s.bootFlash
  else s)

/-- The order in which slots are tried (R91); none for RECOVERY. -/
def State.slotOrder (s : State) : List Nat :=
  if s.boot.alone then [s.boot.cur]
  else match s.f F.BOOT_PREF_NEXT with
    | 1 => [1, 0]
    | 2 => []
    | _ => [0, 1]

/-- The first of the slots `l` is read, or RECOVERY is entered when none is left. -/
def State.nextSlot (s : State) (l : List Nat) (hdr : SlotHeader) : Result :=
  match l with
  | [] => .next s.enterRecovery
  | k :: rest =>
    if headerFits hdr then
      .next ({ s with boot := { s.boot with rest := rest } }.slotStart k hdr.trailer hdr.colophon)
    else .refused .illFormed

/-- The quad-enable method is known (R76). -/
def bfptQuad (b : Bfpt) : Bool := decide (15 ≤ b.dwords.toNat) && decide (b.qer.toNat ≤ 5)

/-- Order number, opcode and clocks of the read mode: the first of the list of R75 that the table reports. -/
def bfptMode (b : Bfpt) : Nat × Nat × Nat :=
  let row := fun (k : Nat) (ok : Bool) (m : Option ReadMode) (opcode : Option Nat) =>
    if ok then m.map (fun x => (k, opcode.getD x.opcode.toNat, x.clocks.toNat)) else none
  let quad := bfptQuad b
  let l := [row 1 (quad && b.dtr && decide (16 ≤ b.dwords.toNat)) b.r144 (some 0xED), row 2 quad b.r144 none,
    row 3 quad b.r114 none, row 4 true b.r122 none, row 5 true b.r112 none]
  (l.filterMap id).headD (6, 0x0B, 8)

/-- The parameter table that the device uses: the signature reads 0x5044_4653, the major revision is 1, and the table
reads as valid (R74, R77).
(DESIGN CHOICE, log entry 107, safe.) -/
def flashTable (f : FlashInfo) : Option Bfpt :=
  if f.signature = 0x50444653 ∧ f.major = 1 then f.bfpt else none

/-- Order number, opcode and clocks of the read mode (R75, R77).
(DESIGN CHOICE, log entry 107, safe.) -/
def flashMode (f : FlashInfo) : Nat × Nat × Nat :=
  match flashTable f with
  | some b => bfptMode b
  | none => (6, 0x0B, 8)

/-- The quad-enable write before the first quad read: none, or whether it is volatile (R76).
(DESIGN CHOICE, log entry 107, safe.) -/
def flashQuadWrite (f : FlashInfo) : Option Bool :=
  if (flashMode f).1 ≤ 3 ∧ !f.quadOn then (flashTable f).map (·.volatileWrite) else none

/-- What step 3 found of the flash is in use (R74 to R77, R96).
(DESIGN CHOICE, log entry 107, safe.) -/
def State.takeFlash (s : State) (f : FlashInfo) : State :=
  let s := s.setB F.BOOT_STAT_NOSFDP (flashTable f).isNone
  let s := s.setF F.BOOT_FLASH_SFDPMIN (if (flashTable f).isSome then f.minor.toNat else 0)
  let s := ((s.setF F.BOOT_FLASH_MODE (flashMode f).1).setF F.BOOT_FLASH_OPCODE (flashMode f).2.1).setF F.BOOT_FLASH_DUMMY (flashMode f).2.2
  { s with boot := { s.boot with
    quadWrite := flashQuadWrite f, erase4k := ((flashTable f).map (·.erase4k.toNat)).getD 0x20 } }

/-- FLASH_NEGOTIATION_DONE: step 3 ends, and the first slot's trailer and Colophon are read (R74 to R77, R89, R91). -/
def execFlashNegotiationDone (info : FlashInfo) (hdr : SlotHeader) (s : State) : Result :=
  if s.boot.stage = .flash then
    let s := s.takeFlash info
    let l := s.slotOrder
    let s := if !s.boot.alone && s.on F.BOOT_PREF_ONCE then s.setF F.BOOT_PREF_NEXT 0 else s
    (s.phase 4).nextSlot l hdr
  else .next s

/-- SECTION_RECEIVED: the next section is applied and checked (R84 to R89). -/
def execSectionReceived (bytes : List Byte) (s : State) : Result :=
  match s.boot.stage, s.boot.sects with
  | .slot, e :: rest =>
    if bytes.length ≠ e.length then .refused .illFormed
    else
      let r := s.applySection false e rest bytes
      let t := { r.1 with boot := { r.1.boot with sects := rest } }
      .next (if r.2 ≠ 0 then t.slotFail r.2 e.idx else if rest.isEmpty then t.slotEnd else t)
  | _, _ => .next s

/-- IMAGE_CLEAR_DONE: what the failed image wrote is cleared; the next slot is read, or RECOVERY is entered (R90, R94,
R95). -/
def execImageClearDone (hdr : SlotHeader) (s : State) : Result :=
  if s.boot.stage = .clear then s.clearImage.nextSlot s.boot.rest hdr else .next s

/-- MEMORY_SELF_TEST_DONE: step 5 ends (R66). A standalone unit and a Curator have no step 6 (R444, R460).
(DESIGN CHOICE, log entry 34, safe; DEDUCED, log entry 36, unsafe.) -/
def execMemorySelfTestDone (march crc : Bool) (s : State) : Result :=
  .next (if s.boot.stage = .selfTest then
    if march && crc then
      if s.f F.PAIR_CFG_MODE = 1 then (s.toStage .link).phase 6 else (s.toStage .unit).phase 7
    else (s.setF F.BOOT_STAT_BIST_FAIL 1).toStage .bistFail
  else s)

/-- LINK_BRINGUP_TIMEOUT: step 6 ends without a peer (R67). -/
def execLinkBringupTimeout (s : State) : Result :=
  .next (if s.boot.stage = .link then (s.toStage .unit).phase 7 else s)

/-- The frame counter starts (R70). -/
def State.countStart (s : State) : State :=
  { s.phase 9 with boot := { s.boot with counting := true, stage := .run } }

/-- The frame counter starts, and carriers and buses with it (R70, step 9). -/
def State.frameStart (s : State) : State := ((s.countStart.pwmStart).canStart 0).canStart 1

/-- The subsystems that a Curator holds in reset take their reset state: registers, but for what AON keeps, memories, and
what goes on in them (R460). A program of Folio runs to its end, as in any reset (R62).
(DEDUCED, log entry 123, unsafe.) -/
def State.holdPlant (s : State) : State :=
  let s := s.folShut
  { s with
    regs := s.regs.filterMap (fun (e : Nat × Word) => if curatorHeld e.1 then keepAon e else some e)
    mem := Memory.clear (Memory.clear s.mem 0 0x2B800) 0x100000 0x200000
    shadow := s.shadow.filter (fun (e : Nat × Word) => !curatorHeld e.1)
    adc := .reset, pwm := .reset, ce := .reset, alm := .reset, can := List.replicate 2 .reset
    zp := List.replicate 2 .reset, fol := s.fol.afterReset }.folAfter

/-- UNIT_STATE_DECIDED: step 7 (R68 to R70, R444, R446, R474, R477). The unit state changes from none to the first
(R599).
(DEDUCED, log entry 36, unsafe; DEDUCED, log entry 37, unsafe; DEDUCED, log entry 38, safe.) -/
def execUnitStateDecided (sel : Bool) (s : State) : Result :=
  .next (if s.boot.stage = .unit then
    let s := { s with boot := { s.boot with decided := true } }
    let s := s.cond (!s.curator) (·.setF F.SVC_IRQST_UNIT 1)
    let s := s.cond s.paired (·.setB F.PAIR_STAT_SELIN sel)
    let bad := s.f F.PAIR_MISMATCH_FIELD != 0 && s.f F.PAIR_STAT_PEERSTATE == 0
    if s.curator then s.holdPlant.countStart
    else if s.paired && bad then (s.setUnit 4).frameStart.bootReads
    else if s.paired && !sel then (s.setUnit 1).frameStart.bootReads
    else
      let s := (((s.setUnit 0).bootReads).renumber).dualTest
      let s := s.cond s.linkUp (fun t => t.linkSend (.compat t.compatBytes))
      ((s.toStage .calib).phase 8).powerUpCores
  else s)

/-- INITIAL_CALIBRATION_DONE: step 8 ends (R70, R125). -/
def execInitialCalibrationDone (cal : CalResults) (s : State) : Result :=
  if !cal.wf then .refused .illFormed
  else .next (if s.boot.stage = .calib then ((s.calibrateAll cal true).convertersReady).frameStart else s)

/-- The slot has taken the staged image: every erase and program ended well, and it reads back as staged (R96). -/
def State.slotMatches (s : State) (out : ProgOutcome) : Bool :=
  out.erased && out.programmed && out.back.all (fun x => x.2 == Memory.byte s.mem (0x80000 + x.1.toNat))

/-- SLOT_PROGRAMMING_DONE (R96).
(DESIGN CHOICE, log entry 33, safe.) -/
def execSlotProgrammingDone (out : ProgOutcome) (s : State) : Result :=
  .next (if s.boot.prog.isSome then
    let t := { s.setF F.BOOT_STAT_PROGBUSY 0 with boot := { s.boot with prog := none, flashOps := [] } }
    t.cond (!s.slotMatches out) (·.setF F.BOOT_STAT_PROGERR 1)
  else s)

end Sys2Proof.Machine
end

