-- ==== Sys2Proof/Machine/Bus.lean ====
section
/-! DEFINITION. Accesses of the masters to the address space, Folio's window apart: who may write when (R586), access types
and stopped-only fields (R16, R587, R588), the registers with behaviour of their own, the words of memory, and reads
(R581, R585). -/

namespace Sys2Proof.Machine

/-- Is the address mapped (R580)? -/
def mapped (a : Nat) : Bool := decide (a < 0x230000) || (decide (0x40000000 ≤ a) && decide (a < 0x400F0000))

/-- Is the address in the Folio window? -/
def inFolio (a : Nat) : Bool := decide (0x200000 ≤ a) && decide (a < 0x220000)

/-- A master may write at `a` now (R586). -/
def State.writeGate (s : State) (a : Nat) : Bool :=
  if s.recovery then decide (a < 0x100000) || [1, 0xA, 0xC, 0xD, 0xE].contains (blockOf a)
  else s.boot.ticked

/-! ### Registers without behaviour of their own -/

/-- The word of a register after a write under its access types (R16); `free` says that its RWL fields take it. -/
def RegRow.apply (r : RegRow) (old w : Nat) (free : Bool) : Nat :=
  let m := orN r.rw (if free then r.rwl else 0)
  andNot (andNot old m) (andN w r.w1c) + andN w m

/-- The write leaves every RWL field as it is (R587). -/
def RegRow.keepsRwl (r : RegRow) (old w : Nat) : Bool := andN old r.rwl == andN w r.rwl

/-- A write that may change what a structural check judges: an RWL field, the calibration interval (R142), any register
of the Almanac (R373).
(DEDUCED, log entry 39, unsafe.) -/
def RegRow.judged (r : RegRow) (a old w : Nat) : Bool :=
  !r.keepsRwl old w || a == F.ADC_CALINT_INT.addr || blockOf a == 6

/-- A write under access types and state rules (R16, R587, R588, R142, R170, R202 and their kind). The flag says that
nothing was discarded.
(DEDUCED, log entry 39, unsafe.) -/
def State.plainWrite (s : State) (a w : Nat) : State × Bool :=
  match findReg a with
  | none => (s, true)
  | some r =>
    if r.shadowed then (s.pushShadow a w, true)
    else
      let old := s.rd a
      let free := s.ownerStopped a
      let t := s.wr a (r.apply old w free)
      if r.judged a old w && s.wouldBreak t then (s, false) else (t, free || r.keepsRwl old w)

/-- `f` on the state of an accepted write. -/
def onWrite (x : State × Bool) (f : State → State) : State × Bool := (f x.1, x.2)

/-! ### Registers with behaviour of their own, block by block -/

/-- BOOT_CTL (R94 to R97).
(DEDUCED, log entry 35, unsafe.) -/
def State.bootCtlWrite (s : State) (w : Nat) : State × Bool :=
  match bitsOf w 5 with
  | [] => (s, true)
  | [k] =>
    if s.boot.stage ≠ .recovery ∨ s.boot.prog.isSome then (s, false)
    else match k with
      | 0 => (s.bootRam, true)
      | 1 => (s.goSlot 0, true)
      | 2 => (s.goSlot 1, true)
      | 3 => (s.progSlot 0, true)
      | _ => (s.progSlot 1, true)
  | _ => (s, false)

/-- BOOT_SHADOWCTL (R99, R100). -/
def State.holdWrite (s : State) (w : Nat) : State × Bool :=
  let old := s.on F.BOOT_SHADOWCTL_HOLD
  onWrite (s.plainWrite F.BOOT_SHADOWCTL_HOLD.addr w) (fun t =>
    if old = bit w 0 then t else { t with holdFrames := 0 })

/-- Registers of BOOT. -/
def State.bootWrite (s : State) (a w : Nat) : State × Bool :=
  if a = F.BOOT_CTL_GO_A.addr then s.bootCtlWrite w
  else if a = F.BOOT_SHADOWCTL_HOLD.addr then s.holdWrite w
  else s.plainWrite a w

/-- Registers of ADC. -/
def State.adcWrite (s : State) (a w : Nat) : State × Bool :=
  if a = F.ADC_CALCTL_PERM.addr then s.calCtlWrite w
  else if a = 0x40020000 then
    let old := s.rd a
    onWrite (s.plainWrite a w) (·.coreEnWritten old)
  else s.plainWrite a w

/-- Registers of SEQ. -/
def State.seqWrite (s : State) (a w : Nat) : State × Bool :=
  if a = F.SEQ_CTL_EN.addr then onWrite (s.plainWrite a w) (·.enChanged (s.on F.SEQ_CTL_EN))
  else if a = F.SEQ_REGSTART_GO.addr then (s.regStartWrite w, true)
  else if a = F.SEQ_ISTRIG_GO.addr then (s.istrigWrite w none, true)
  else if 0x40030800 ≤ a ∧ a < 0x40030900 ∧ a % 16 = 0 then
    let r := (a - 0x40030800) / 16
    let old := s.on (F.SEQ_RING_CFG_EN r)
    onWrite (s.plainWrite a w) (fun t => if !old && t.on (F.SEQ_RING_CFG_EN r) then t.ringStart r else t)
  else s.plainWrite a w

/-- A register of drive group `g`, at offset `o`. -/
def State.groupWrite (s : State) (g o a w : Nat) : State × Bool :=
  match o with
  | 0x00 => onWrite (s.plainWrite a w) (·.enWritten g)
  | 0x0C => onWrite (s.plainWrite a w) (·.offWritten g)
  | 0x10 => (s.writeCompare g 0 (w % 65536), true)
  | 0x14 => (s.writeCompare g 1 (w % 65536), true)
  | 0x18 => (s.writeCompare g 2 (w % 65536), true)
  | 0x2C => onWrite (s.plainWrite a w) (·.coastWritten g)
  | 0x34 => if s.on (F.PWM_G_COAST_EN g) then (s, false) else onWrite (s.plainWrite a w) (·.angleWritten g)
  | _ => s.plainWrite a w

/-- A register of PWM takes a write. -/
def State.pwmReg (s : State) (a w : Nat) : State × Bool :=
  if a = F.PWM_CTL_EN.addr then
    onWrite (s.plainWrite a w) (fun t =>
      (t.each (List.range 6) (·.enWritten ·)).each (List.range 32) (·.gpEnWritten ·))
  else if 0x40040100 ≤ a ∧ a < 0x40040400 then s.groupWrite ((a - 0x40040100) / 0x80) ((a - 0x40040100) % 0x80) a w
  else if 0x40040400 ≤ a ∧ a < 0x40040600 ∧ a % 16 = 0 then
    onWrite (s.plainWrite a w) (·.gpEnWritten ((a - 0x40040400) / 16))
  else if 0x40040400 ≤ a ∧ a < 0x40040600 ∧ a % 16 = 4 then
    onWrite (s.plainWrite a w) (·.gpDutyWritten ((a - 0x40040400) / 16))
  else s.plainWrite a w

/-- Registers of PWM. The trip inputs go on acting: a flag cleared while its input is active is set anew (R189).
(DESIGN CHOICE, log entry 128, safe.) -/
def State.pwmWrite (s : State) (a w : Nat) : State × Bool :=
  onWrite (s.pwmReg a w) (fun t => t.tripNow.tripLevels (t.tripNow.f F.PWM_STAT_TRIPIN))

/-- CE_MODECMD (R252). -/
def State.modeCmdWrite (s : State) (w : Nat) : State × Bool :=
  let i := w % 512
  let setMode := bit w 14
  if !s.loopEn i || (!setMode && !bit w 16)
      || (setMode && getBits w 12 2 == 3 && (s.loopHyst i || s.ld i 0x30 / 2 ^ 28 == 0)) then (s, false)
  else (s.pendCmd i (andN w 0x1F1FF), true)

/-- Registers of CE. -/
def State.ceWrite (s : State) (a w : Nat) : State × Bool :=
  if a = F.CE_MODECMD_SLOT.addr then s.modeCmdWrite w
  else if a = 0x40050044 then s.prnClrWrite w
  else if 0x40050200 ≤ a ∧ a < 0x40050380 ∧ (a - 0x40050200) % 0x40 = 0 then
    s.driveCmdWrite ((a - 0x40050200) / 0x40) (w % 16)
  else if a = F.CE_CAPCTL_ARM.addr then s.capCtlWrite w
  else if a = F.CE_CAPCFG_DEC.addr ∨ a = F.CE_CAPEN_CHEN.addr ∨ a = F.CE_CAPTHR.addr then
    (if s.capBusy then (s, false) else s.plainWrite a w)
  else if a = F.CE_INJCMD_GEN.addr then s.injCmdWrite w
  else s.plainWrite a w

/-- Registers of ALM. -/
def State.almWrite (s : State) (a w : Nat) : State × Bool :=
  if a = F.ALM_RTCSET.addr then (s.setRtc w, true)
  else if a = F.ALM_FORCE_POINT.addr then s.forceWrite w
  else s.plainWrite a w

/-- CAN_CTL of controller `c`; `busy`: a frame or error frame is in progress on the bus (R376, R378, R399). -/
def State.canCtlWrite (s : State) (c w : Nat) (busy : Bool) : State × Bool :=
  onWrite (s.plainWrite (F.CAN_CTL_EN c).addr w) (fun t => (t.canCtlWritten c busy).fdFollow c)

/-- Registers and objects of controller `c`, at offset `o` of its window. Whether a frame is in progress on the bus at a
write of CAN_CTL is a free value.
(DESIGN CHOICE, log entry 119, safe.) -/
def State.canWrite (s : State) (c o a w : Nat) : State × Bool :=
  if o = 0 then s.free.2.canCtlWrite c w (bit s.free.1 0)
  else if o = 0x20 then (if bit w 0 then s.canRecover c else (s, true))
  else if 0x30 ≤ o ∧ o < 0x40 then s.txReqWrite c ((o - 0x30) / 4) w
  else if 0x40 ≤ o ∧ o < 0x50 then s.txCanWrite c ((o - 0x40) / 4) w
  else if o = 0x84 ∨ o = 0x94 then s.ackEntry c ((o - 0x84) / 16) (w % 64) false
  else if 0x1000 ≤ o ∧ o < 0x3800 then s.objWrite c ((o - 0x1000) / 0x50) ((o - 0x1000) % 0x50) w
  else if 0x4000 ≤ o ∧ o < 0x6800 then (s, false)
  else s.plainWrite a w

/-- Registers of ZP. -/
def State.zpWrite (s : State) (a w : Nat) : State × Bool :=
  if a = F.ZP_CTL_EN0.addr then
    let old := s.rd a
    onWrite (s.plainWrite a w) (·.zpCtlWritten old)
  else s.plainWrite a w

/-- A write of PAIR_CFG: a unit that is no longer paired keeps CUR_HB and CUR_HS low and its link off (R444, R449); one
that a write makes a Curator holds from then on what R460 names.
(DEDUCED, log entry 123, unsafe.) -/
def State.modeWritten (s : State) : State :=
  if s.paired then s
  else
    let t := s.linkOff
    { t with pair := { t.pair with hb := false, hs := false } }.cond t.plantHeld (·.holdPlant)

/-- Registers of PAIR. A swap request outside ACTIVE is discarded; the operation reports it itself (R453). -/
def State.pairWrite (s : State) (a w : Nat) : State × Bool :=
  if a = F.PAIR_SWAP_REQ.addr then
    (if !bit w 0 then (s, true) else if s.active then (s.swapReq 0, true) else (s, false))
  else if a = F.PAIR_CFG_MODE.addr then onWrite (s.plainWrite a w) (·.modeWritten)
  else s.plainWrite a w

/-- Registers of FOL. -/
def State.folWrite (s : State) (a w : Nat) : State × Bool :=
  if a = F.FOL_PROT_BP.addr then s.protWrite w
  else if a = F.FOL_REMAP_GO.addr then s.remapWrite w
  else if a = F.FOL_CTL_CLRMISSED.addr then
    (if bit w 0 then s.wr (F.FOL_LIVE 1).addr (andNot (s.live 1) 65536) else s, true)
  else if a = F.FOL_UCINC_INC.addr then (s.ucWrite w, true)
  else if 0x400A0100 ≤ a ∧ a < 0x400A0200 then (s.liveWrite ((a - 0x400A0100) / 4) w, true)
  else s.plainWrite a w

/-- Registers of PNL. -/
def State.pnlWrite (s : State) (a w : Nat) : State × Bool :=
  onWrite (s.plainWrite a w) (fun t => t.encStop.each (List.range 4) (fun u n =>
    if a = (F.PNL_COMBO_CFG_EN n).addr ∨ a = (F.PNL_COMBO_KEYS_USED0 n).addr then u.comboWritten n else u))

/-- Registers of LDG, ANL and FOX. -/
def State.ldgWrite (s : State) (a w : Nat) : State × Bool :=
  if a = F.LDG_CLR.addr then (s.ledgerClr w, true)
  else if a = F.LDG_SNAPCTL_MODE.addr then s.snapWrite w
  else if 0x400D0100 ≤ a ∧ a < 0x400D0300 ∧ a % 16 = 0 then s.ledgerSel ((a - 0x400D0100) / 16) w
  else if a = F.FOX_VREQ_N.addr then s.vreqWrite w
  else s.plainWrite a w

/-- A write of the register at `a` in the state in which masters may write it; the flag says that nothing was
discarded. -/
def State.regWrite (s : State) (a w : Nat) : State × Bool :=
  if !(counterList a).isEmpty then (s.counterClr a w, true)
  else match blockOf a with
    | 1 => s.bootWrite a w
    | 2 => s.adcWrite a w
    | 3 => s.seqWrite a w
    | 4 => s.pwmWrite a w
    | 5 => s.ceWrite a w
    | 6 => s.almWrite a w
    | 7 => s.canWrite ((a - 0x40070000) / 0x8000) (a % 0x8000) a w
    | 8 => s.zpWrite a w
    | 9 => s.pairWrite a w
    | 0xA => s.folWrite a w
    | 0xC => s.pnlWrite a w
    | 0xD => s.ldgWrite a w
    | _ => s.plainWrite a w

/-! ### Words of memory -/

/-- A write of an RWL word of memory: `m` are its bits, `free` says that its owner is stopped (R587).
(DEDUCED, log entry 39, unsafe.) -/
def State.ownedWrite (s : State) (a w m : Nat) (free : Bool) : State × Bool :=
  let v := andNot (s.mw a) m + andN w m
  if v = s.mw a then (s, true)
  else if !free then (s, false)
  else
    let t := s.setM a v
    if s.wouldBreak t then (s, false) else (t, true)

/-- A write of the word of memory at `a`; the flag says that nothing was discarded. A descriptor's CTL that makes its slot a
BIQUAD one leaves FFSRC no more than its fields (R17).
(DEDUCED, log entry 42, unsafe.) -/
def State.memWrite (s : State) (a w : Nat) : State × Bool :=
  match s.memAcc a with
  | .plain m => (s.setM a (andN w m), true)
  | .shadowed m =>
    if m = 0 then (s, true)
    else
      let t := s.pushShadow a w
      if a < 0x100000 ∧ s.wouldBreak t then (s, false) else (t, true)
  | .engine m => onWrite (s.ownedWrite a w m s.ceStopped) (fun t => t.cond (decide (a < 0x108000) && a % 64 == 0) (·.trimFf (a + 0x10)))
  | .almanac m => s.ownedWrite a w m (!s.on F.ALM_CTL_RUN)
  | .readOnly => (s, true)
  | .generator n m =>
    if 0x18 ≤ a % 64 ∧ a % 64 < 0x24 then (s, true)
    else if s.genState n = 1 ∨ s.genState n = 2 then (s, false)
    else (s.setM a (andN w m), true)
  | .capture => if s.capBusy then (s, false) else (s.setM a (andN w 0xF01FFFFF), true)
  | .value p => s.valueWrite p w

/-! ### Accesses -/

/-- The word belongs to a subsystem that a Curator holds in reset (R460). -/
def State.heldReg (s : State) (a : Nat) : Bool := s.plantHeld && curatorHeld a

/-- A write of the word at `a`, a mapped address outside Folio's window; the flag says that nothing was discarded. A
subsystem held in reset takes none.
(DEDUCED, log entry 123, unsafe.) -/
def State.busWrite (s : State) (a w : Nat) : State × Bool :=
  if !s.writeGate a then (s, false) else if s.heldReg a then (s, true) else if inMem a then s.memWrite a w else s.regWrite a w

/-- What the report of a discarded write adds (R589). -/
def State.report (x : State × Bool) (who a : Nat) : State := if x.2 then x.1 else x.1.reject who a

/-- A master writes the word at `a`: `who` is its code. A discarded write is reported under the address `at_`. -/
def State.masterWrite (s : State) (who a w at_ : Nat) : State × Bool :=
  let x := s.busWrite a w
  (State.report (x.1.cond (x.2 && a == F.FOL_PROT_BP.addr) (·.protBy who), x.2) who at_, x.2)

/-- The word at `a` as a byte write finds it (R582): one that waits in its shadow counts as its present value.
(DEDUCED, log entry 44, unsafe.) -/
def State.pendWord (s : State) (a : Nat) : Nat :=
  match s.shadow.find? (fun e => e.1 == a) with
  | some e => e.2.toNat
  | none => s.peek a

/-- SVC_IRQST with its RO causes (R599). -/
def State.irqCauses (s : State) : Nat :=
  let can := fun c => b2n (andN (s.rd (0x400700A0 + 0x8000 * c)) (s.rd (0x400700A4 + 0x8000 * c)) != 0)
  andNot (s.rd F.SVC_IRQST_REJECT.addr) 7 + can 0 + 2 * can 1 + 4 * b2n (s.on F.ALM_ALARM_PEND)

/-- Level of SV_IRQ_N: low while an enabled cause is set, from the first tick on and outside THERMAL_HALT (R599). -/
def State.irqLine (s : State) : Bool :=
  !(s.boot.ticked && !s.halted && andN s.irqCauses (s.rd F.SVC_IRQEN_ROEN.addr) != 0)

/-- A fused or working trim word of core `k` (R121, R122). -/
def State.trimWord (s : State) (k : Nat) (working : Bool) : Nat :=
  let c := if working then s.setInUse k else factorySet k
  c.ofs.toNat + 65536 * c.gain.toNat

/-- The value of the register at `a`, for those whose value follows other state; WO fields read 0.
(DEDUCED, log entry 43, unsafe.) -/
def State.viewReg (s : State) (a : Nat) : Nat :=
  if a = F.SVC_IRQST_REJECT.addr then s.irqCauses
  else if 0x40020100 ≤ a ∧ a < 0x40020148 then s.trimWord ((a - 0x40020100) / 8) (a % 8 == 4)
  else if a = (F.AZ_UID 0).addr then Config.uid.toNat % 2 ^ 32
  else if a = (F.AZ_UID 1).addr then Config.uid.toNat / 2 ^ 32
  else if a = F.FOX_VREQ_N.addr then s.foxN + 256 * nfac
  else if a = F.FOX_STAT_SUSP.addr then setBits (s.rd a) 2 1 (b2n s.foxSuspended)
  else if a = F.PNL_STAT_ENCLIVE.addr then setBits (s.rd a) 3 1 (b2n s.encLive)
  else if a = F.FOL_PGINFO_COUNT.addr then s.pgInfo
  else if a = F.FOL_SPARES_BANK0.addr then s.sparesWord
  else if a = F.ALM_STAT_STOPPED.addr then setBits (s.rd a) 0 1 (b2n (!s.on F.ALM_CTL_RUN))
  else if a = F.BOOT_SHADOWCTL_PENDING.addr then setBits (s.rd a) 1 1 (b2n (!s.shadow.isEmpty))
  else if 0x40050200 ≤ a ∧ a < 0x40050380 ∧ (a - 0x40050200) % 0x40 = 4 then
    let st := s.driveState ((a - 0x40050200) / 0x40)
    setBits (setBits (s.rd a) 0 3 st) 7 1 (b2n (st == 5))
  else if 0x40081000 ≤ a ∧ a < 0x40081800 ∧ (a % 0x400 / 8 = 0 ∨ a % 0x400 / 8 = 127) then 0
  else match findReg a with
    | some r => andNot (s.rd a) r.wo
    | none => s.rd a

/-- SEQ_STAT with ISACT: the bit of a sequence that runs is set or has just been cleared at its last sample, which the
moment of the read decides (R152).
(DESIGN CHOICE, log entry 109, safe.) -/
def State.isactWord (s : State) (v : Nat) : Nat :=
  let gone := bitsNum 8 (fun n => (s.iseq n).st == 2 && !bit v n)
  setBits (s.rd F.SEQ_STAT_ISACT.addr) F.SEQ_STAT_ISACT.lo F.SEQ_STAT_ISACT.width (andNot (s.f F.SEQ_STAT_ISACT) gone)

/-- A read of PNL_ENCk: AB and SW show the filtered levels while the encoders are decoded (R547).
(DESIGN CHOICE, log entry 6, safe.) -/
def State.encRead (s : State) (a : Nat) : Nat × State :=
  let e := s.enc ((a - (F.PNL_ENC_AB 0).addr) / 4)
  if s.encLive then (setBits (setBits (s.rd a) 16 1 (b2n e.sw)) 18 2 (2 * b2n e.a + b2n e.b), s)
  else (setBits (setBits (s.rd a) 16 1 s.free.1) 18 2 (s.free.1 / 2), s.free.2)

/-- A read of the word at `a`, a mapped address outside Folio's window (R581, R585), and the state after it: what depends
on the instant within the frame or on a pin is a free value. -/
def State.busRead (s : State) (a : Nat) : Nat × State :=
  if inMem a then (s.mw a, s)
  else if a = F.CRT_FRAMEPOS_POS.addr then
    (if s.boot.counting then (s.free.1 % s.nf, s.free.2) else (s.f F.CRT_FRAMEPOS_POS, s))
  else if a = F.SEQ_STAT_ISACT.addr then (s.isactWord s.free.1, s.free.2)
  else if a = F.PWM_STAT_TRIPIN.addr then (s.tripNow.viewReg a, s.tripNow)
  else if a = (F.PNL_ENC_AB 0).addr ∨ a = (F.PNL_ENC_AB 1).addr then s.encRead a
  else (s.viewReg a, s)

end Sys2Proof.Machine
end

