-- ==== Sys2Proof/Machine/Svc.lean ====
section
/-! DEFINITION. Requests of the masters (R583 to R589): the service port (R590 to R598), the peer's MGMT requests (R464),
the partners' management messages (R437), and the events that end their waits for Folio. -/

namespace Sys2Proof.Machine

/-! ### A request -/

/-- Bytes of the range of a request. -/
def Req.bytesOf (r : Req) : Nat := if r.bytes then r.n else 4 * r.n

/-- The whole range is mapped (R580). -/
def rangeMapped (a len : Nat) : Bool :=
  decide (a + len ≤ 0x230000) || (decide (0x40000000 ≤ a) && decide (a + len ≤ 0x400F0000))

/-- The service port's check of a request as a whole (R592): its status, 0 for none. -/
def portCheck (bytes : Bool) (a len : Nat) : Nat :=
  if 2 ^ 32 < a + len then 5
  else if bytes ∧ a < 0x400F0000 ∧ 0x40000000 < a + len then 5
  else if !bytes ∧ a % 4 ≠ 0 then 5
  else if !rangeMapped a len then 2 else 0

/-- The data bytes of a write request, in the order of its range. -/
def Req.payload (r : Req) : List Byte :=
  if r.bytes then r.data.map (fun b => BitVec.ofNat 8 b) else r.data.flatMap word4

/-- Bytes `i … j - 1` of the payload. -/
def Req.slice (r : Req) (i j : Nat) : List Byte := (r.payload.drop i).take (j - i)

/-- The Annals code of a requester (R583). -/
def Requester.code : Requester → Nat
  | .port => 0
  | .peer => 1
  | .partner _ => 2
  | .gone => 3

/-- Bytes that the next word access of a request covers: a word, or the bytes of a group of four that lie in one
word (R594). -/
def Req.step (r : Req) : Nat :=
  if r.bytes then min (4 - (r.addr + r.k) % 4) (min (r.bytesOf - r.k) (4 - r.k % 4)) else 4

/-- The word that the next access of a write writes: for bytes, those of the group put into the word (R582).
(DEDUCED, log entry 44, unsafe.) -/
def State.reqWord (s : State) (r : Req) : Nat :=
  let a := r.addr + r.k
  if r.bytes then
    (List.range (r.step)).foldl (fun w i => setBits w (8 * ((a + i) % 4)) 8 (r.data.getD (r.k + i) 0)) (s.pendWord (a - a % 4))
  else r.data.getD (r.k / 4) 0

/-- One word access of a request outside Folio's window (R584, R596): the state, and the request after it.
(DEDUCED, log entry 44, unsafe.) -/
def State.reqAccess (s : State) (r : Req) : State × Req :=
  let a := r.addr + r.k
  if r.write then
    let x := s.masterWrite r.who.code (a - a % 4) (s.reqWord r) a
    (x.1, { r with k := r.k + r.step, status := if x.2 then 0 else 3 })
  else
    let x := s.busRead a
    (x.2, { r with k := r.k + 4, out := r.out ++ [x.1] })

/-- A transaction to Folio for bytes `i … j - 1` of a request joins those that wait; the request waits for it. -/
def State.folSend (s : State) (r : Req) (i j : Nat) : State × Req :=
  let t : FolTxn := ⟨r.who, none, r.addr + i - 0x200000, if r.write then r.slice i j else [], if r.write then 0 else j - i⟩
  (s.setFol (fun x => { x with txns := x.txns ++ [t] }), { r with wait := some j })

/-- An access of this request at `a` goes to Folio: a write that no master may make now is discarded before it gets
there (R492, R586). -/
def State.toFolio (s : State) (r : Req) (a : Nat) : Bool := inFolio a && (!r.write || s.writeGate a)

/-- A request goes on for so many words, until it is done, fails or waits for Folio, whose part of it is taken whole
(R584).
(DESIGN CHOICE, log entry 11, unsafe.) -/
def State.runReq (s : State) (r : Req) : Nat → State × Req
  | 0 => (s, r)
  | fuel + 1 =>
    let a := r.addr + r.k
    if r.bytesOf ≤ r.k ∨ r.status ≠ 0 then (s, r)
    else if s.toFolio r a then s.folSend r r.k (r.k + min (r.bytesOf - r.k) (0x220000 - a))
    else
      let x := s.reqAccess r
      State.runReq x.1 x.2 fuel

/-- First byte of a request that lies in the same Folio page as the byte before `j`. -/
def Req.pageFrom (r : Req) (j : Nat) : Nat := j - ((r.addr + j - 1) % 64 + 1)

/-- Folio works for others, or others wait for it before this transaction. -/
def State.folBusy (s : State) : Bool :=
  s.fol.prog.isSome || s.fol.txn.isSome || (!s.fol.held && !s.fol.txns.isEmpty)

/-- The wait point of a transaction whose host clocks word by word (R594, R596). Words for Folio are gathered until
their page, or the transaction, ends (R488); while Folio is busy the first of them waits for it (R489). After a failure
the words are only counted. -/
def State.waitPoint (s : State) (r : Req) : State × Req :=
  let a := r.addr + r.k
  let j := r.k + r.step
  if r.status ≠ 0 then (s, { r with k := j, out := if r.write then [] else r.out ++ [0] })
  else if s.toFolio r a then
    if !r.write then s.folSend r r.k j
    else if (r.addr + j) % 64 = 0 ∨ r.bytesOf ≤ j then s.folSend r (r.pageFrom j) j
    else if s.folBusy then s.folSend r j j
    else (s.setFol (fun x => { x with held := true }), { r with k := j })
  else (s.setFol (fun x => { x with held := false })).reqAccess r

/-! ### The end of a request -/

/-- The service port ends a READ, WRITE or WRITEB with its status byte (R593, R598).
(DEDUCED, log entry 100, unsafe.) -/
def State.portEnd (s : State) (r : Req) : State :=
  let s := s.setF F.SVC_STAT_LASTST r.status
  let s := s.cond (r.status == 5) (fun t => (t.setF F.SVC_STAT_FMT 1).inc F.SVC_FMTCNT)
  let n := r.bytesOf / 4
  let out := if r.write then [] else (r.out ++ List.replicate n 0).take n
  { s.setFol (fun x => { x with held := false }) with svc := {
      split := false, miso := out.map (fun w => BitVec.ofNat 32 w), status := BitVec.ofNat 8 r.status
      lastErr := r.status != 0 } }

/-- The answer to a partner's management request (R437): words only for a read that was done.
(DEDUCED, log entry 77, unsafe.) -/
def State.partnerReply (s : State) (b node seq status : Nat) (words : List Nat) : State :=
  let d := word4 (seq + 256 * status) ++ words.flatMap word4
  let n := fdSize d.length
  let fd := s.on (F.ZP_PT0_FDUSE b node)
  s.zpSend b ⟨0xA, node, fd, fd && s.on (F.ZP_PT0_BRS b node), d ++ List.replicate (n - d.length) 0, []⟩

/-- A request is over: its requester is told. -/
def State.reqEnd (s : State) (r : Req) : State :=
  let words := if r.write ∨ r.status ≠ 0 then [] else r.out
  match r.who with
  | .port => s.portEnd r
  | .peer =>
    s.cond s.linkUp (·.setPair (fun p => { p with mgmtOut := p.mgmtOut ++ [.mgmtReply r.tag r.status words] }))
  | .partner b =>
    (match (s.zb b).mgmt with
    | none => s
    | some m =>
      let s := (s.setZb b (fun z => { z with mgmt := none })).setOwned b (s.zpQueue b) m.entry false
      s.partnerReply b m.node m.seq r.status words)
  | .gone => s

/-- The request is over but for the status byte of one that the host clocks word by word. -/
def Req.over (r : Req) (clocked : Bool) : Bool :=
  r.wait.isNone && !clocked && (decide (r.bytesOf ≤ r.k) || r.status != 0)

/-- The host clocks this request word by word. -/
def State.clocked (s : State) (r : Req) : Bool := r.who == .port && s.svc.split

/-- A request that does not wait goes on, and ends or stays. A transaction of the port that is clocked word by word goes
on at its wait points only, of which a group of four bytes that lies in two words has one; other requests may go on
word by word while the queue is empty.
(DESIGN CHOICE, log entry 11, unsafe.) -/
def State.reqOn (s : State) (r : Req) : State :=
  let clocked := s.clocked r
  let x := if r.wait.isSome then (s, r)
    else if clocked then (if r.bytes ∧ r.k % 4 ≠ 0 ∧ r.k < r.bytesOf then s.waitPoint r else (s, r))
    else s.runReq r (if r.split then 0 else r.bytesOf + 1)
  if x.2.over clocked then x.1.reqEnd x.2 else { x.1 with reqs := x.1.reqs ++ [x.2] }

/-- Requests in the order in which they are served (R584: the service port first, then the peer, then partners). -/
def inTurn (l : List Req) : List Req :=
  let has := fun (w : Requester) => l.filter (fun r => decide (r.who = w))
  has .port ++ has .peer ++ has (.partner 0) ++ has (.partner 1)

/-- Every request that has stopped waiting goes on (R584).
(DESIGN CHOICE, log entry 11, unsafe.) -/
def State.settle (s : State) : State := { s with reqs := [] }.each (inTurn s.reqs) (·.reqOn ·)

/-- A step without a command: each request that is carried out word by word has its next word carried out (R584).
(DESIGN CHOICE, log entry 11, unsafe.) -/
def State.idle (s : State) : State :=
  s.each (inTurn (s.reqs.filter (fun r => r.split && r.wait.isNone))) (fun t r =>
    let x := { t with reqs := t.reqs.erase r }.runReq r 1
    x.1.reqOn x.2)

/-- The requester has a request in hand. -/
def State.hasReq (s : State) (w : Requester) : Bool := s.reqs.any (fun r => decide (r.who = w))

/-! ### The service port -/

/-- A READ, WRITE or WRITEB: the check of its header, and its accesses (R591 to R596).
(DEDUCED, log entry 100, unsafe.) -/
def State.portOpen (s : State) (write bytes : Bool) (addr n : Nat) (data : List Nat) (split : Bool) : State :=
  if !s.portLive || s.hasReq .port then s
  else
    let r : Req := { who := .port, write := write, bytes := bytes, addr := addr, n := n, data := data, k := 0
                     out := [], status := portCheck bytes addr (if bytes then n else 4 * n), wait := none, tag := 0
                     split := false }
    { s with svc := { s.svc with split := split } }.reqOn r

/-- SPI_READ (R591). -/
def execSpiRead (addr : BitVec 32) (len : BitVec 8) (split : Bool) (s : State) : Result :=
  .next (s.portOpen false false addr.toNat (len.toNat + 1) [] split)

/-- SPI_WRITE (R591): 1 to 256 words. -/
def execSpiWrite (addr : BitVec 32) (words : List Word) (split : Bool) (s : State) : Result :=
  if words.length = 0 ∨ 256 < words.length then .refused .illFormed
  else .next (s.portOpen true false addr.toNat words.length (words.map (·.toNat)) split)

/-- SPI_WRITEB (R591): 1 to 256 bytes. -/
def execSpiWriteb (addr : BitVec 32) (bytes : List Byte) (split : Bool) (s : State) : Result :=
  if bytes.length = 0 ∨ 256 < bytes.length then .refused .illFormed
  else .next (s.portOpen true true addr.toNat bytes.length (bytes.map (·.toNat)) split)

/-- SPI_WAIT_POINT: the next word access of an open transaction, unless the last one still waits (R594). After the last
word the host clocks the status byte, and the transaction ends (R591, R597).
(DESIGN CHOICE, log entry 5, unsafe; DESIGN CHOICE, log entry 11, unsafe.) -/
def execSpiWaitPoint (s : State) : Result :=
  .next (match s.reqs.find? (fun r => decide (r.who = .port)) with
    | none => s
    | some r =>
      if !s.svc.split || r.wait.isSome then s
      else
        let s := { s with reqs := s.reqs.erase r }
        if r.bytesOf ≤ r.k then s.reqEnd r
        else
          let x := s.waitPoint r
          x.1.reqOn x.2)

/-- A transaction is aborted (R597). -/
def State.portAbort (s : State) : State := (s.setF F.SVC_STAT_ABORT 1).inc F.SVC_ABORTCNT

/-- Bytes of a transaction whose wait points have begun when `k` bytes are done, or are being done. -/
def Req.begun (r : Req) (k : Nat) : Nat := min r.bytesOf (4 * ((k + 3) / 4))

/-- Bytes of an aborted write that Folio has still to program, their wait points having begun (R597): the first, and the
one after the last, as offsets in its range.
(DEDUCED, log entry 100, unsafe.) -/
def State.stands (s : State) (r : Req) : Nat × Nat :=
  match s.fol.txn.filter (fun t => t.who == .port), r.wait with
  | some t, _ => (t.off + 0x200000 - r.addr, r.begun (t.off + 0x200000 - r.addr))
  | none, some j => if s.svc.split then (r.pageFrom j, r.begun j) else (r.k, r.begun (r.k + 1))
  | none, none => if s.fol.held && decide (r.k < r.bytesOf) && (r.addr + r.k) % 64 != 0 then (r.pageFrom r.k, r.k) else (0, 0)

/-- What an aborted transaction still wants of Folio: nothing but the bytes that stand (R597). -/
def State.folAbort (s : State) (r : Req) : State :=
  let i := s.stands r
  let cut := fun (t : FolTxn) => if t.who = .port then { t with who := .gone, data := [] } else t
  let s := s.setFol (fun x => { x with
    txns := x.txns.filter (fun t => t.who != .port), txn := x.txn.map cut, held := false })
  s.cond (r.write && r.status == 0 && decide (i.1 < i.2)) (fun t => (t.folSend { r with who := .gone } i.1 i.2).1)

/-- SPI_ABORT: what has begun stands; words gathered for Folio are programmed (R597). With no transaction open, one ends
within its header.
(DEDUCED, log entry 100, unsafe.) -/
def execSpiAbort (s : State) : Result :=
  .next (match s.reqs.find? (fun r => decide (r.who = .port)) with
    | none => if s.portLive then { s.portAbort with svc := { s.svc with lastErr := true } } else s
    | some r =>
      let s := ({ s with reqs := s.reqs.erase r }.folAbort r).portAbort
      { s with svc := { s.svc with split := false, lastErr := true } })

/-- The port status byte (R598).
(DEDUCED, log entry 101, unsafe.) -/
def State.portStatus (s : State) : Nat :=
  let st := if s.boot.decided ∧ !s.recovery then s.unitCode else 7
  st + 8 * b2n s.recovery + 16 * b2n s.boot.ticked + 32 * b2n s.fol.prog.isSome
    + 64 * b2n (andN s.irqCauses (s.rd F.SVC_IRQEN_ROEN.addr) != 0) + 128 * b2n s.svc.lastErr

/-- SPI_STATUS: the status byte at once (R591, R598). -/
def execSpiStatus (s : State) : Result :=
  .next (if !s.portLive || s.hasReq .port then s
  else { s with svc := { s.svc with status := BitVec.ofNat 8 s.portStatus } })

/-- SPI_RESET: the two bytes 0x5A, 0xA5 cause a service-port reset; anything else is aborted (R59, R597).
(DEDUCED, log entry 100, unsafe.) -/
def execSpiReset (bytes : List Byte) (s : State) : Result :=
  .next (if s.boot.stage = .reset || s.hasReq .port then s
  else if bytes = [0x5A#8, 0xA5#8] then s.otherReset F.CRT_RSTCAUSE_SVC
  else s.portAbort)

/-- SPI_BAD_OPCODE: answered with status 0x05 when the host clocks it; else SV_CS_N has risen before the status byte
(R591, R597).
(DEDUCED, log entry 100, unsafe.) -/
def execSpiBadOpcode (op : Byte) (clocked : Bool) (s : State) : Result :=
  if [0x02#8, 0x03#8, 0x05#8, 0x06#8, 0x99#8].contains op then .refused .illFormed
  else .next (if !s.portLive || s.hasReq .port then s
  else if clocked then
    let s := (s.setF F.SVC_STAT_FMT 1).inc F.SVC_FMTCNT
    { s with svc := { s.svc with status := 5 } }
  else s.portAbort)

/-! ### The peer and the partners -/

/-- LINK_MGMT_REQUEST: the peer's request is carried out as a master access (R464), at once or word by word (R584).
(DESIGN CHOICE, log entry 11, unsafe.) -/
def execLinkMgmtRequest (write : Bool) (tag : BitVec 8) (addr : BitVec 32) (n : BitVec 8) (words : List Word)
    (s : State) (split : Bool := false) : Result :=
  let a := addr.toNat
  if a % 4 ≠ 0 ∨ n.toNat = 0 ∨ 64 < n.toNat ∨ words.length ≠ (if write then n.toNat else 0) then .refused .illFormed
  else .next (if !s.linkUp || s.hasReq .peer then s
  else
    s.linkHeard.reqOn { who := .peer, write := write, bytes := false, addr := a, n := n.toNat
                        data := words.map (·.toNat), k := 0, out := []
                        status := if rangeMapped a (4 * n.toNat) then 0 else 2, wait := none, tag := tag.toNat
                        split := split })

/-- A partner's management request (R437): refused with STATUS 0x01 without permission, else carried out.
(DEDUCED, log entry 77, unsafe.) -/
def State.zpManage (s : State) (b : Nat) (x : ZpRx) (write : Bool) (n : Nat) (split : Bool) : State :=
  let a := s.rxNum b x 0 4
  let s := s.zpSeq b x false
  if s.ptState b x.src ≠ 2 then s
  else if !bit (s.f (F.ZP_MGMTEN b (x.src / 32))) (x.src % 32) then
    (s.zpCount 8).partnerReply b x.src x.seq 1 []
  else
    let data := if write then (List.range n).map (fun k => s.rxNum b x (4 + 4 * k) 4) else []
    (s.setZb b (fun z => { z with mgmt := some ⟨x.src, x.seq, write, x.e⟩ })).reqOn {
      who := .partner b, write := write, bytes := false, addr := a, n := n, data := data, k := 0, out := []
      status := if rangeMapped a (4 * n) then 0 else 2, wait := none, tag := 0, split := split }

/-- ZP_MGMT_READ (R416, R437, R438), carried out at once or word by word (R584).
(DESIGN CHOICE, log entry 11, unsafe.) -/
def execZpMgmtRead (b : Fin 2) (s : State) (split : Bool := false) : Result :=
  .next (s.zpProcess b .mgmtRead (fun s x =>
    let nw := s.rxByte b x 4
    let big := decide (s.f (F.ZP_PT0_LEN b x.src) < 4 + 4 * nw)
    let rng := firstBad [(0, s.rxByte b x 0 % 4 != 0), (4, nw == 0 || decide (15 < nw) || (s.ptState b x.src == 2 && big)),
      (5, s.rxByte b x 5 != 0), (6, s.rxByte b x 6 != 0), (7, s.rxByte b x 7 != 0)]
    s.zpJoined b x (x.len == 8) rng (decide (s.f (F.ZP_PT0_VER b x.src) < 2)) (fun s => s.zpManage b x false nw split)))

/-- ZP_MGMT_WRITE (R416, R437, R438), carried out at once or word by word (R584).
(DESIGN CHOICE, log entry 11, unsafe.) -/
def execZpMgmtWrite (b : Fin 2) (s : State) (split : Bool := false) : Result :=
  .next (s.zpProcess b .mgmtWrite (fun s x =>
    let rng := firstBad [(0, s.rxByte b x 0 % 4 != 0)]
    s.zpJoined b x (isFdSize x.len) rng (decide (s.f (F.ZP_PT0_VER b x.src) < 2)) (fun s =>
      s.zpManage b x true ((x.len - 4) / 4) split)))

/-! ### Events that end waits -/

/-- FOLIO_MASTER_ACCESS (R490, R492). -/
def execFolioMasterAccess (s : State) : Result := .next s.folAccess.settle

/-- FOLIO_PROGRAM_END (R488).
(DESIGN CHOICE, log entry 3, unsafe; DESIGN CHOICE, log entry 5, unsafe.) -/
def execFolioProgramEnd (s : State) : Result := .next s.progEnd.readsLeft.settle

/-- FOLIO_RECALL_SCAN_END: after the end of a program that a reset has left running (R62, R497); not in a Curator (R460).
(DEDUCED, log entry 28, unsafe; DEDUCED, log entry 123, unsafe.) -/
def execFolioRecallScanEnd (s : State) : Result :=
  .next (if s.folRecall && s.folFree && s.portLive && !s.plantHeld then (s.recallEnd.bootReads).tryContinue.settle else s)

/-- PFI_ACCEPTED (R505); a Curator's Folio is held in reset (R460).
(DESIGN CHOICE, log entry 102, unsafe; DEDUCED, log entry 123, unsafe.) -/
def execPfiAccepted (s : State) : Result := .next (if s.plantHeld then s else s.pfi.settle)

/-- SENSOR_SAMPLE (R513 to R530). -/
def execSensorSample (t0 t1 t2 t3 : BitVec 16) (s : State) : Result :=
  .next (if s.sensorsOn then (s.thermalSample [t0.toInt, t1.toInt, t2.toInt, t3.toInt]).settle else s)

/-- AON_COMPARATOR_SAMPLE (R515); thermal watch runs from boot step 1 on. -/
def execAonComparatorSample (above : Bool) (s : State) : Result :=
  .next (if s.boot.stage = .reset then s else (s.comparator above).settle)

end Sys2Proof.Machine
end

