-- ==== Sys2Proof/Machine/Commands.lean ====
section
/-! DEFINITION. The writes of masters that the table lists as operations of their own, COUNTER_CLEAR and REGISTER_WRITE
among them. Each is one word written at one address under the rules of every write (R16, R98, R583 to R589). -/

namespace Sys2Proof.Machine

/-- A master can reach the part: the port is served, the link is up, or the Zone Protocol layer runs on a bus.
(DEDUCED, log entry 12, safe.) -/
def State.reaches (s : State) (m : Master) : Bool :=
  match m with
  | .port => s.portLive
  | .peer => s.linkUp
  | .partner => s.zpRuns 0 || s.zpRuns 1

/-- Master `m` writes `w` at address `a`.
(DESIGN CHOICE, log entry 3, unsafe; DEDUCED, log entry 12, safe.) -/
def State.masterOp (s : State) (m : Master) (a w : Nat) : State :=
  if s.reaches m then (s.masterWrite (masterCode m) a w a).1 else s

/-- A master's write at `a` whose effect is `f`, not the plain one: the gate of R586, the report of R589 and a Curator's
hold (R460) apply. -/
def State.masterOpBy (s : State) (m : Master) (a : Nat) (f : State → State × Bool) : State :=
  if s.reaches m then
    State.report (if !s.writeGate a then (s, false) else if s.heldReg a then (s, true) else f s) (masterCode m) a
  else s

/-! ### Boot -/

/-- GO_RAM (R95). -/
def execGoRam (m : Master) (s : State) : Result := .next (s.masterOp m F.BOOT_CTL_GO_RAM.addr 1)

/-- GO_A (R94). -/
def execGoA (m : Master) (s : State) : Result := .next (s.masterOp m F.BOOT_CTL_GO_A.addr 2)

/-- GO_B (R94). -/
def execGoB (m : Master) (s : State) : Result := .next (s.masterOp m F.BOOT_CTL_GO_B.addr 4)

/-- PROG_A (R96). -/
def execProgA (m : Master) (s : State) : Result := .next (s.masterOp m F.BOOT_CTL_PROG_A.addr 8)

/-- PROG_B (R96). -/
def execProgB (m : Master) (s : State) : Result := .next (s.masterOp m F.BOOT_CTL_PROG_B.addr 16)

/-- SHADOW_HOLD_WRITE (R99). -/
def execShadowHoldWrite (m : Master) (w : Word) (s : State) : Result :=
  .next (s.masterOp m F.BOOT_SHADOWCTL_HOLD.addr w.toNat)

/-! ### Converters and sequencer -/

/-- CALIBRATION_FORCE: ADC_CALCTL with FORCE 1 (R137). -/
def execCalibrationForce (m : Master) (w : Word) (s : State) : Result :=
  .next (s.masterOp m F.ADC_CALCTL_PERM.addr (orN w.toNat 4))

/-- PERMANENT_SUBSTITUTION_SET: ADC_CALCTL with PERM 1 (R138). -/
def execPermanentSubstitutionSet (m : Master) (w : Word) (s : State) : Result :=
  .next (s.masterOp m F.ADC_CALCTL_PERM.addr (orN w.toNat 8))

/-- PERMANENT_SUBSTITUTION_CLEAR: ADC_CALCTL with PERM 0 (R138). -/
def execPermanentSubstitutionClear (m : Master) (w : Word) (s : State) : Result :=
  .next (s.masterOp m F.ADC_CALCTL_PERM.addr (andNot w.toNat 8))

/-- REGULAR_START_GO: SEQ_REGSTART (R146). -/
def execRegularStartGo (m : Master) (w : Word) (s : State) : Result :=
  .next (s.masterOp m F.SEQ_REGSTART_GO.addr w.toNat)

/-- INJECTED_SOFTWARE_TRIGGER: SEQ_ISTRIG, reaching the PWM domain at clock `t` of the frame (R150). -/
def execInjectedSoftwareTrigger (m : Master) (w : Word) (t : BitVec 16) (s : State) : Result :=
  .next (s.masterOpBy m F.SEQ_ISTRIG_GO.addr (fun s => (s.istrigWrite w.toNat (some t.toNat), true)))

/-! ### PWM -/

/-- Address of the registers of drive group `g`. -/
def groupAddr (g : Nat) : Nat := 0x40040100 + 0x80 * g

/-- COMPARE_WRITE: a compare buffer of group `g` (R179). -/
def execCompareWrite (m : Master) (g : Fin 6) (x : Fin 3) (w : Word) (s : State) : Result :=
  .next (s.masterOp m (groupAddr g + 0x10 + 4 * x.val) w.toNat)

/-- GROUP_OFF_WRITE: PWM_Gg_CTL (R196). -/
def execGroupOffWrite (m : Master) (g : Fin 6) (w : Word) (s : State) : Result :=
  .next (s.masterOp m (groupAddr g + 0x0C) w.toNat)

/-- COAST_ENABLE: PWM_Gg_COAST with EN 1 (R197). -/
def execCoastEnable (m : Master) (g : Fin 6) (s : State) : Result := .next (s.masterOp m (groupAddr g + 0x2C) 1)

/-- COAST_DISABLE: PWM_Gg_COAST with EN 0 (R199). -/
def execCoastDisable (m : Master) (g : Fin 6) (s : State) : Result := .next (s.masterOp m (groupAddr g + 0x2C) 0)

/-- COAST_ANGLE_WRITE: PWM_Gg_ANGLE (R199). -/
def execCoastAngleWrite (m : Master) (g : Fin 6) (w : Word) (s : State) : Result :=
  .next (s.masterOp m (groupAddr g + 0x34) w.toNat)

/-- CARRIER_RATE_PHASE_CHANGE: PWM_Gg_CFG of group `ch`, or PWM_GPc_CFG of general channel `ch - 6` (R629). -/
def execCarrierRatePhaseChange (m : Master) (ch : Fin 38) (w : Word) (s : State) : Result :=
  .next (s.masterOp m (if ch.val < 6 then groupAddr ch else 0x40040400 + 16 * (ch.val - 6)) w.toNat)

/-! ### Control engine -/

/-- ENGINE_RUN: CE_CTL.RUN written 1 (R235). -/
def execEngineRun (m : Master) (s : State) : Result := .next (s.masterOp m F.CE_CTL_RUN.addr 1)

/-- ENGINE_STOP: CE_CTL.RUN written 0 (R235). -/
def execEngineStop (m : Master) (s : State) : Result := .next (s.masterOp m F.CE_CTL_RUN.addr 0)

/-- MODE_COMMAND: CE_MODECMD (R252, R253). -/
def execModeCommand (m : Master) (w : Word) (s : State) : Result :=
  .next (s.masterOp m F.CE_MODECMD_SLOT.addr w.toNat)

/-- Address of CE_DRd_CMD. -/
def driveCmdAddr (d : Nat) : Nat := 0x40050200 + 0x40 * d

/-- DRIVE_START: CE_DRd_CMD.START, with DIR (R304). -/
def execDriveStart (m : Master) (d : Fin 6) (back : Bool) (s : State) : Result :=
  .next (s.masterOp m (driveCmdAddr d) (1 + 8 * b2n back))

/-- DRIVE_STOP: CE_DRd_CMD.STOP (R304). -/
def execDriveStop (m : Master) (d : Fin 6) (s : State) : Result := .next (s.masterOp m (driveCmdAddr d) 2)

/-- DRIVE_FAULTCLR: CE_DRd_CMD.FAULTCLR (R304). -/
def execDriveFaultclr (m : Master) (d : Fin 6) (s : State) : Result := .next (s.masterOp m (driveCmdAddr d) 4)

/-- PERENNIAL_CLEAR: CE_PRNCLR (R280). -/
def execPerennialClear (m : Master) (w : Word) (s : State) : Result := .next (s.masterOp m 0x40050044 w.toNat)

/-- GENERATOR_START: CE_INJCMD.START (R324). -/
def execGeneratorStart (m : Master) (n : Fin 8) (s : State) : Result :=
  .next (s.masterOp m F.CE_INJCMD_GEN.addr (n.val + 256))

/-- GENERATOR_STOP: CE_INJCMD.STOP (R326). -/
def execGeneratorStop (m : Master) (n : Fin 8) (s : State) : Result :=
  .next (s.masterOp m F.CE_INJCMD_GEN.addr (n.val + 512))

/-- CAPTURE_ARM: CE_CAPCTL.ARM (R331). -/
def execCaptureArm (m : Master) (s : State) : Result := .next (s.masterOp m F.CE_CAPCTL_ARM.addr 1)

/-- CAPTURE_STOP: CE_CAPCTL.STOP (R334). -/
def execCaptureStop (m : Master) (s : State) : Result := .next (s.masterOp m F.CE_CAPCTL_ARM.addr 2)

/-! ### Catalogue and RTC -/

/-- POINT_FORCE_SET: ALM_FORCE with SET (R343). -/
def execPointForceSet (m : Master) (p : Fin 4096) (s : State) : Result :=
  .next (s.masterOp m F.ALM_FORCE_POINT.addr (p.val + 2 ^ 16))

/-- POINT_FORCE_CLEAR: ALM_FORCE with CLEAR (R343). -/
def execPointForceClear (m : Master) (p : Fin 4096) (s : State) : Result :=
  .next (s.masterOp m F.ALM_FORCE_POINT.addr (p.val + 2 ^ 17))

/-- RTC_SET: ALM_RTCSET (R346). -/
def execRtcSet (m : Master) (w : Word) (s : State) : Result := .next (s.masterOp m F.ALM_RTCSET.addr w.toNat)

/-- CATALOGUE_VALUE_WRITE: VALUE of point `p` (R341, R345). -/
def execCatalogueValueWrite (m : Master) (p : Fin 4096) (w : Word) (s : State) : Result :=
  .next (s.masterOp m (ptAddr p + 8) w.toNat)

/-! ### Bus controllers -/

/-- Address of offset `o` in the window of controller `c`. -/
def canAddr (c o : Nat) : Nat := 0x40070000 + 0x8000 * c + o

/-- CAN_ENABLE: CAN_CTL with EN 1 (R376, R382). -/
def execCanEnable (c : Fin 2) (m : Master) (w : Word) (s : State) : Result :=
  .next (s.masterOp m (canAddr c 0) (orN w.toNat 1))

/-- CAN_DISABLE: CAN_CTL with EN 0 (R378). -/
def execCanDisable (c : Fin 2) (m : Master) (w : Word) (busy : Bool) (s : State) : Result :=
  .next (s.masterOpBy m (canAddr c 0) (·.canCtlWrite c (andNot w.toNat 1) busy))

/-- TRANSMIT_REQUEST: CAN_TXREQk (R393). -/
def execTransmitRequest (c : Fin 2) (m : Master) (k : Fin 4) (w : Word) (s : State) : Result :=
  .next (s.masterOp m (canAddr c (0x30 + 4 * k.val)) w.toNat)

/-- TRANSMIT_CANCEL: CAN_TXCANk (R397). -/
def execTransmitCancel (c : Fin 2) (m : Master) (k : Fin 4) (w : Word) (s : State) : Result :=
  .next (s.masterOp m (canAddr c (0x40 + 4 * k.val)) w.toNat)

/-- BUS_OFF_RECOVERY: CAN_RECOVER.GO (R402). -/
def execBusOffRecovery (c : Fin 2) (m : Master) (s : State) : Result := .next (s.masterOp m (canAddr c 0x20) 1)

/-- QUEUE_ACK: CAN_Qq_ACK (R391). -/
def execQueueAck (c : Fin 2) (m : Master) (q : Fin 2) (w : Word) (s : State) : Result :=
  .next (s.masterOp m (F.CAN_Q_ACK_IDX c q).addr w.toNat)

/-- FD_TRANSMIT_OFF: CAN_CTL with FDTX 0 (R399). -/
def execFdTransmitOff (c : Fin 2) (m : Master) (w : Word) (s : State) : Result :=
  .next (s.masterOp m (canAddr c 0) (andNot w.toNat (2 ^ (F.CAN_CTL_FDTX c).lo)))

/-- OBJECT_WRITE: word `i` of message object `n` (R387). -/
def execObjectWrite (c : Fin 2) (m : Master) (n : Fin 128) (i : Fin 20) (w : Word) (s : State) : Result :=
  .next (s.masterOp m (objAddr c n (4 * i.val)) w.toNat)

/-! ### Pair and Folio -/

/-- SWAP_REQUEST: PAIR_SWAP (R453). -/
def execSwapRequest (m : Master) (w : Word) (s : State) : Result :=
  .next (s.masterOp m F.PAIR_SWAP_REQ.addr w.toNat)

/-- FOLIO_REMAP: FOL_REMAP (R509). -/
def execFolioRemap (m : Master) (w : Word) (s : State) : Result :=
  .next (s.masterOp m F.FOL_REMAP_GO.addr w.toNat)

/-- FOLIO_PROT_WRITE: FOL_PROT (R495). -/
def execFolioProtWrite (m : Master) (w : Word) (s : State) : Result :=
  .next (s.masterOp m F.FOL_PROT_BP.addr w.toNat)

/-- CLEAR_MISSED: FOL_CTL (R502). -/
def execClearMissed (m : Master) (w : Word) (s : State) : Result :=
  .next (s.masterOp m F.FOL_CTL_CLRMISSED.addr w.toNat)

/-- USER_COUNTER_INC: FOL_UCINC (R500). -/
def execUserCounterInc (m : Master) (w : Word) (s : State) : Result :=
  .next (s.masterOp m F.FOL_UCINC_INC.addr w.toNat)

/-- FOL_LIVE_WRITE: word `i` of FOL_LIVE (R502). -/
def execFolLiveWrite (m : Master) (i : Fin 64) (w : Word) (s : State) : Result :=
  .next (s.masterOp m (0x400A0100 + 4 * i.val) w.toNat)

/-! ### Panel, Ledger, Foxing -/

/-- COMBINATION_WRITE: PNL_COMBOn_CFG, else PNL_COMBOn_KEYS (R545). -/
def execCombinationWrite (m : Master) (n : Fin 4) (cfg : Bool) (w : Word) (s : State) : Result :=
  .next (s.masterOp m (if cfg then (F.PNL_COMBO_CFG_EN n).addr else (F.PNL_COMBO_KEYS_USED0 n).addr) w.toNat)

/-- LEDGER_CLEAR: LDG_CLR (R555). -/
def execLedgerClear (m : Master) (w : Word) (s : State) : Result := .next (s.masterOp m F.LDG_CLR.addr w.toNat)

/-- LEDGER_SELECT: LDG_CNTk_SEL (R553, R555). -/
def execLedgerSelect (m : Master) (k : Fin 32) (w : Word) (s : State) : Result :=
  .next (s.masterOp m (0x400D0100 + 16 * k.val) w.toNat)

/-- SNAPSHOT_MODE_WRITE: LDG_SNAPCTL (R556). -/
def execSnapshotModeWrite (m : Master) (w : Word) (s : State) : Result :=
  .next (s.masterOp m F.LDG_SNAPCTL_MODE.addr w.toNat)

/-- FOX_VREQ_WRITE: FOX_VREQ (R577). -/
def execFoxVreqWrite (m : Master) (w : Word) (s : State) : Result := .next (s.masterOp m F.FOX_VREQ_N.addr w.toNat)

/-! ### Every other register -/

/-- COUNTER_CLEAR: a clear register of a block (R58, R20). -/
def execCounterClear (m : Master) (a : BitVec 32) (w : Word) (s : State) : Result :=
  if (counterList a.toNat).isEmpty then .refused .illFormed else .next (s.masterOp m a.toNat w.toNat)

/-- REGISTER_WRITE: any aligned address of the register space (R16 to R19, R98, R580). -/
def execRegisterWrite (m : Master) (a : BitVec 32) (w : Word) (s : State) : Result :=
  if a.toNat % 4 ≠ 0 ∨ a.toNat < 0x40000000 ∨ 0x400F0000 ≤ a.toNat then .refused .illFormed
  else .next (s.masterOp m a.toNat w.toNat)

end Sys2Proof.Machine
end

