-- ==== Sys2Proof/Machine/Frame.lean ====
section
/-! DEFINITION. The tick (R36), the second edge of the RTC, resets as events, and the other events of clocks and of the
safe-state bus. -/

namespace Sys2Proof.Machine

/-! ### The Almanac's commit -/

/-- One staged write of an evaluation is committed (R50, R370). What a master would see discarded is logged with the
device's own master code. A capture sample of the tick reads a point as it stood before (R329).
(DEDUCED, log entry 45, unsafe.) -/
def State.commitStaged (s : State) (x : Staged) : State :=
  match x with
  | .point p v => s.catWritten (s.ptUpdate p v false) p 0
  | .word a v => s.setM a v
  | .mode w => State.report (s.modeCmdWrite w) 3 F.CE_MODECMD_SLOT.addr
  | .drive d w =>
    let r := s.driveCmdWrite d w
    if r.2 then r.1.setDrv d (fun x => { x with cmdAlm := x.cmdAlm || w % 8 != 0 }) else (r.1.reject 3 (0x40050200 + 0x40 * d)).inc F.ALM_STGREJCNT
  | .busRec c => State.report (s.canRecover c) 3 (0x40070020 + 0x8000 * c)
  | .swap => s.swapReq 3
  | .reg a v => s.wr a v
  | .alarm rule code left =>
    let s := s.log 7 0x10 code (ofI 32 left) (some rule) true
    ((s.setF F.ALM_ALARM_CODE code).setF F.ALM_ALARM_RULE rule).setF F.ALM_ALARM_PEND 1
  | .fired => s.inc F.ALM_FIRECNT
  | .failed => s.inc F.ALM_ACTFAILCNT
  | .saveRates => s.queueJob .rates

/-- The evaluation in hand is over. -/
def State.almIdle (s : State) : State :=
  { s with alm := { s.alm with running := false, finished := false, staged := [] } }

/-- The Almanac at a tick: a finished evaluation is committed, an unfinished one abandoned and counted (R50, R51). One
whose unit has left ACTIVE, or whose RUN is 0, leaves nothing (R371).
(DEDUCED, log entry 14, unsafe; DEDUCED, log entry 19, unsafe.) -/
def State.almCommit (s : State) : State :=
  if !s.alm.running then s
  else if !(s.active && s.on F.ALM_CTL_RUN) then s.almIdle
  else if s.alm.finished then
    let t := s.almIdle
    let t := { t with alm := { t.alm with evals := s.alm.evals + 1, hid := s.alm.next } }
    t.inCycle (·.each s.alm.staged (·.commitStaged ·))
  else s.almIdle.count F.CRT_ALMOVR 10

/-- A second edge lets an evaluation start at the first tick after it (R50). One that was not started then starts no
more.
(DEDUCED, log entry 20, safe.) -/
def State.almArm (s : State) : State :=
  { s with alm := { s.alm with due := s.alm.due && !s.alm.armed, armed := s.alm.due && !s.alm.armed } }

/-! ### TICK -/

/-- CRT_FRAMENO at a tick: 0 at the first, one more at each other (R33). -/
def State.frameCount (s : State) : State := if s.boot.ticked then s.setF F.CRT_FRAMENO (s.frame + 1) else s

/-- What a tick does in the PWM domain (R36, R629): carriers at their phases, then staged compares. -/
def State.tickPwm (s : State) : State :=
  let s := s.pwmTick
  (s.cond (s.safe.ticks == 2) (·.failSource 5)).copyStaged

/-- The ending frame is closed, when there was one of an ACTIVE unit (R36, R45 to R49).
(DEDUCED, log entry 24, unsafe.) -/
def State.tickClose (s : State) : State := (s.cond (s.active && s.boot.ticked) (·.closeFrame)).catClear

/-- Register shadows and memory shadows are committed, unless HOLD is set (R37, R99, R100).
(DEDUCED, log entry 13, safe; DEDUCED, log entry 14, unsafe.) -/
def State.tickShadow (s : State) : State :=
  if s.on F.BOOT_SHADOWCTL_HOLD then { s with holdFrames := s.holdFrames + 1 } else s.commitShadow

/-- A clear of Perennial tables ends before the second tick after it began (R280).
(DEDUCED, log entry 21, safe.) -/
def State.tickClear (s : State) : State :=
  let s := s.cond (decide (1 ≤ s.ce.clearTicks)) (·.endClear)
  { s with ce := { s.ce with clearTicks := if s.ce.clears.isEmpty then 0 else 1 } }

/-- What only the first tick does (R65, R576). FFMS depends on how long the boot took: a free value. -/
def State.firstTick (s : State) : State :=
  if s.boot.ticked then s
  else
    let v := s.free
    let s := (v.2.setF F.BOOT_STAT_FFMS (min (v.1 % 65536) 255)).phase 10
    ({ s with boot := { s.boot with ticked := true } }.foxRestore).encStop

/-- A tick of a Curator: only CRT, PAIR and the monitor block run (R460), and BOOT goes on counting the frames of HOLD
(R99, R100). The first tick ends the boot (R65).
(DEDUCED, log entry 123, unsafe.) -/
def State.curatorTick (s : State) : State :=
  let s := s.frameCount
  ((s.snapTick s.frame).tickShadow.firstTick).ledger 185

/-- The Catalogue after a tick: the DI filters, then the visits (R339, R630).
(DESIGN CHOICE, log entry 22, unsafe.) -/
def State.tickCatalogue (s : State) (di : Nat) : State := (s.diSample di).catVisits

/-- TICK, in the order of R36: the PWM domain; the end of the frame in the engine; shadows and the Almanac's writes; the
new frame in engine, sequencer and capture; the link. Snapshots are taken of the counts before the tick's own
occurrences (R554, R557).
(DESIGN CHOICE, log entry 3, unsafe; DESIGN CHOICE, log entry 5, unsafe; DEDUCED, log entry 14, unsafe; DEDUCED, log entry 18, unsafe.) -/
def execTick (di : BitVec 16) (s : State) : Result :=
  .next (if !s.boot.counting then s
  else if s.curator then s.curatorTick
  else
    let mirror := s.mirrorBytes
    let s := s.frameCount.tickPwm
    let s := (s.snapTick s.frame).tickClose
    let s := (s.tickShadow.almCommit).tickClear
    let s := s.engineTick.seqTick.capTick
    let s := (s.almArm.tickCatalogue di.toNat).firstTick
    ((s.canTick).pairTick mirror).ledger 185)

/-! ### Shadows held back -/

/-- SHADOW_HOLD_EXPIRY: the device clears HOLD after 2048 frames (R100). -/
def execShadowHoldExpiry (s : State) : Result :=
  .next (if s.on F.BOOT_SHADOWCTL_HOLD && decide (2048 ≤ s.holdFrames) then
    { (s.setF F.BOOT_SHADOWCTL_HOLD 0).setF F.BOOT_SHADOWCTL_HOLDEXP 1 with holdFrames := 0 }
  else s)

/-! ### Clocks and resets -/

/-- PLL_LOCK_LOSS: the lock bits; after the boot the safe-state bus, and with PLL_M the frame counter stops (R28).
(DEDUCED, log entry 16, unsafe.) -/
def execPllLockLoss (link : Bool) (s : State) : Result :=
  .next (if !s.portLive then s
  else
    let s := if link then (s.setF F.CRT_CLKSTAT_LOCK_L 0).setF F.CRT_CLKSTAT_LOCKLOSS_L 1
      else (s.setF F.CRT_CLKSTAT_LOCK_M 0).setF F.CRT_CLKSTAT_LOCKLOSS_M 1
    if s.boot.stage ≠ .run then s
    else
      let s := s.safeAssert (if link then .pllL else .pllM)
      if link then s else s.frameStop)

/-- PLL_L_RELOCK: PLL_L is locked again, its latency fixed anew, and it no longer holds the safe-state bus (R28, R35,
R55).
(DEDUCED, log entry 15, safe.) -/
def execPllLRelock (three : Bool) (s : State) : Result :=
  .next (if s.portLive && !s.on F.CRT_CLKSTAT_LOCK_L then
    let s := (s.setF F.CRT_CLKSTAT_LOCK_L 1).safeRelease .pllL
    { s with clk := { s.clk with link3 := three } }
  else s)

/-- FRAME_WATCHDOG_EXPIRY: armed from the first tick on (R52).
(DESIGN CHOICE, log entry 102, unsafe.) -/
def execFrameWatchdogExpiry (s : State) : Result :=
  .next (if s.boot.ticked then (s.safeAssert .watchdog).otherReset F.CRT_RSTCAUSE_WDOG else s)

/-- CRYSTAL_LOSS (R54, R536).
(DESIGN CHOICE, log entry 102, unsafe.) -/
def execCrystalLoss (s : State) : Result :=
  let t := (s.safeAssert .crystal).otherReset F.CRT_RSTCAUSE_XTAL
  .next { t with clk := { t.clk with lost := true } }

/-- POWER_ON_RESET (R60): of VDDAON, or of VDDC alone (R612). -/
def execPowerOnReset (s : State) (core : Bool := false) : Result := .next (s.powerReset core)

/-- PIN_RESET (R59).
(DESIGN CHOICE, log entry 102, unsafe.) -/
def execPinReset (s : State) : Result := .next (s.otherReset F.CRT_RSTCAUSE_PIN)

/-- AON_CLOCK_CHANGEOVER (R608). -/
def execAonClockChangeover (s : State) : Result := .next { s with clk := { s.clk with aonXtal := true } }

/-! ### The second edge -/

/-- What a second edge brings to the Almanac, the converters, the buses and the retained counters; none of them runs in
a Curator (R460).
(DEDUCED, log entry 123, unsafe.) -/
def State.plantSecond (s : State) : State :=
  (({ s with alm := { s.alm with due := !s.hot } }.calSecond.canSecond).zpSecond).liveSecond

/-- RTC_SECOND_EDGE: the RTC counts, and the work of a second falls due in every block (R346).
(DESIGN CHOICE, log entry 5, unsafe.) -/
def execRtcSecondEdge (s : State) : Result :=
  .next (
    let s := s.setF F.ALM_RTC (s.f F.ALM_RTC + 1)
    let s := s.cond (!s.curator) (·.plantSecond)
    (s.foxSecond.pairSecond).ledger 186)

/-! ### The safe-state bus -/

/-- What the source reports lasts: the bus stays asserted until a reset, or until the relock of PLL_L (R28, R52, R54,
R505, R522).
(DEDUCED, log entry 17, unsafe.) -/
def State.sourceStands (s : State) (src : SafeSource) : Bool :=
  match src with
  | .pllM => !s.on F.CRT_CLKSTAT_LOCK_M
  | .pllL => !s.on F.CRT_CLKSTAT_LOCK_L
  | .hot => s.hot
  | .pfi => s.folPfi
  | _ => true

/-- SAFE_STATE_ASSERT (R55). -/
def execSafeStateAssert (src : SafeSource) (s : State) : Result :=
  .next (if s.boot.stage = .reset then s else s.safeAssert src)

/-- SAFE_STATE_RELEASE: the outputs follow from the next tick on (R55, R195).
(DEDUCED, log entry 17, unsafe.) -/
def execSafeStateRelease (src : SafeSource) (s : State) : Result :=
  .next (if s.sourceStands src then s else s.safeRelease src)

/-! ### Perennial -/

/-- PERENNIAL_CLEAR_END (R280, R281).
(DEDUCED, log entry 21, safe.) -/
def execPerennialClearEnd (s : State) : Result :=
  .next (let s := s.endClear
         { s with ce := { s.ce with clearTicks := 0 } })

end Sys2Proof.Machine
end

