-- ==== Sys2Proof/Machine/Pulse.lean ====
section
/-! DEFINITION. The pulse inputs (R239 to R241). -/

namespace Sys2Proof.Machine

/-- The pulse inputs measure: the PWM clock runs, and the unit has a control plane. -/
def State.pulseLive (s : State) : Bool := s.portLive && s.on F.CRT_CLKSTAT_LOCK_M && !s.halted && !s.curator

/-- Edges that input `n` has seen, up to 2. -/
def State.piEdges (s : State) (n : Nat) : Nat := (s.ce.pis.getD n ⟨0⟩).edges

/-- The state in which input `n` has seen `k` edges. -/
def State.setPiEdges (s : State) (n k : Nat) : State :=
  { s with ce := { s.ce with pis := updAt s.ce.pis n (fun _ => ⟨k⟩) } }

/-- VALUE of R240 for a latched PERIOD and HIGH, as MODE `mode` computes it, not limited. -/
def pulseValue (mode period high : Nat) : Nat :=
  match mode with
  | 0 => 0
  | 1 => (8192000000000 + period / 2) / period
  | 2 => (8192000000 + period / 2) / period
  | _ => (high * 6553600 + period / 2) / period

/-- PERIOD, HIGH and VALUE of input `n` after a latch (R240). A KHZ value that VALUE has no room for is not stated: it is
a free value.
(DEDUCED, log entry 65, unsafe.) -/
def State.pulseLatch (s : State) (n period high : Nat) : State :=
  let mode := s.f (F.CE_PI_CFG_MODE n)
  if mode = 0 then s.setF (F.CE_PI_VALUE n) 0
  else
    let s := (s.setF (F.CE_PI_PERIOD n) period).setF (F.CE_PI_HIGH n) high
    let v := pulseValue mode period high
    if v < 2 ^ 31 then s.setF (F.CE_PI_VALUE n) v
    else if mode = 1 then (s.setF (F.CE_PI_VALUE n) (2 ^ 31 - 1)).setF (F.CE_PI_CFG_SAT n) 1
    else s.free.2.setF (F.CE_PI_VALUE n) s.free.1

/-- PULSE_EDGE: a filtered rising edge. The first one only starts the count; from the second on the counts are latched and
NOSIG clears (R240, R241). -/
def execPulseEdge (n : Fin 8) (period high : BitVec 32) (s : State) : Result :=
  if !s.pulseLive then .next s
  else if s.piEdges n = 0 then .next (s.setPiEdges n 1)
  else if high.toNat = 0 ∨ period.toNat ≤ high.toNat then .refused .illFormed
  else .next (((s.setPiEdges n 2).setF (F.CE_PI_CFG_NOSIG n) 0).pulseLatch n period.toNat high.toNat)

/-- PULSE_TIMEOUT: no filtered rising edge for TOUT × 0.1 s (R241).
(DEDUCED, log entry 65, unsafe.) -/
def execPulseTimeout (n : Fin 8) (level : Bool) (s : State) : Result :=
  .next (if !s.pulseLive then s
  else
    let v := if s.f (F.CE_PI_CFG_MODE n) = 3 ∧ level then 6553600 else 0
    ((s.setPiEdges n 0).setF (F.CE_PI_VALUE n) v).setF (F.CE_PI_CFG_NOSIG n) 1)

end Sys2Proof.Machine
end

