-- ==== Sys2Proof/Machine/Dispatch.lean ====
section
/-! DEFINITION. One arm per command. -/

namespace Sys2Proof.Machine

/-- The effect of a command on everything but the queue. -/
def exec (i : Instr) (s : State) : Host.Outcome State Fault Refusal :=
  match i with
  | .tick di => Sys2Proof.Machine.execTick di s
  | .c0Release d w => Sys2Proof.Machine.execC0Release d w s
  | .itemStart lane => Sys2Proof.Machine.execItemStart lane s
  | .itemComplete lane => Sys2Proof.Machine.execItemComplete lane s
  | .pllLockLoss link => Sys2Proof.Machine.execPllLockLoss link s
  | .frameWatchdogExpiry => Sys2Proof.Machine.execFrameWatchdogExpiry s
  | .crystalLoss => Sys2Proof.Machine.execCrystalLoss s
  | .rtcSecondEdge => Sys2Proof.Machine.execRtcSecondEdge s
  | .almanacEvaluationStart => Sys2Proof.Machine.execAlmanacEvaluationStart s
  | .almanacEvaluationEnd => Sys2Proof.Machine.execAlmanacEvaluationEnd s
  | .powerOnReset core => Sys2Proof.Machine.execPowerOnReset s core
  | .pinReset => Sys2Proof.Machine.execPinReset s
  | .resetRelease => Sys2Proof.Machine.execResetRelease s
  | .pllLock => Sys2Proof.Machine.execPllLock s
  | .flashNegotiationDone info hdr => Sys2Proof.Machine.execFlashNegotiationDone info hdr s
  | .sectionReceived bytes => Sys2Proof.Machine.execSectionReceived bytes s
  | .imageClearDone hdr => Sys2Proof.Machine.execImageClearDone hdr s
  | .memorySelfTestDone march crc => Sys2Proof.Machine.execMemorySelfTestDone march crc s
  | .linkBringupTimeout => Sys2Proof.Machine.execLinkBringupTimeout s
  | .unitStateDecided sel => Sys2Proof.Machine.execUnitStateDecided sel s
  | .initialCalibrationDone cal => Sys2Proof.Machine.execInitialCalibrationDone cal s
  | .encoderDetent k path => Sys2Proof.Machine.execEncoderDetent k path s
  | .encoderSwitchPress k down => Sys2Proof.Machine.execEncoderSwitchPress k s down
  | .goA m => Sys2Proof.Machine.execGoA m s
  | .goB m => Sys2Proof.Machine.execGoB m s
  | .goRam m => Sys2Proof.Machine.execGoRam m s
  | .progA m => Sys2Proof.Machine.execProgA m s
  | .progB m => Sys2Proof.Machine.execProgB m s
  | .slotProgrammingDone out => Sys2Proof.Machine.execSlotProgrammingDone out s
  | .shadowHoldWrite m w => Sys2Proof.Machine.execShadowHoldWrite m w s
  | .shadowHoldExpiry => Sys2Proof.Machine.execShadowHoldExpiry s
  | .conversionResult core c => Sys2Proof.Machine.execConversionResult core c s
  | .calibrationCycleDue => Sys2Proof.Machine.execCalibrationCycleDue s
  | .coreCalibrationEnd trim weights => Sys2Proof.Machine.execCoreCalibrationEnd trim weights s
  | .calibrationHandoff j => Sys2Proof.Machine.execCalibrationHandoff s j
  | .handoffDeadline => Sys2Proof.Machine.execHandoffDeadline s
  | .calibrationRetry => Sys2Proof.Machine.execCalibrationRetry s
  | .calibrationHandback j => Sys2Proof.Machine.execCalibrationHandback s j
  | .lateHandback => Sys2Proof.Machine.execLateHandback s
  | .calibrationForce m w => Sys2Proof.Machine.execCalibrationForce m w s
  | .permanentSubstitutionSet m w => Sys2Proof.Machine.execPermanentSubstitutionSet m w s
  | .permanentSubstitutionClear m w => Sys2Proof.Machine.execPermanentSubstitutionClear m w s
  | .regularTriggerDue => Sys2Proof.Machine.execRegularTriggerDue s
  | .regularStartGo m w => Sys2Proof.Machine.execRegularStartGo m w s
  | .regularPassStart j => Sys2Proof.Machine.execRegularPassStart s j
  | .regularPassEnd => Sys2Proof.Machine.execRegularPassEnd s
  | .injectedTriggerDue n t => Sys2Proof.Machine.execInjectedTriggerDue n t s
  | .injectedSoftwareTrigger m w t => Sys2Proof.Machine.execInjectedSoftwareTrigger m w t s
  | .injectedSequenceStart n j => Sys2Proof.Machine.execInjectedSequenceStart n j s
  | .carrierValley g trips => Sys2Proof.Machine.execCarrierValley g trips s
  | .carrierPeak g => Sys2Proof.Machine.execCarrierPeak g s
  | .peakWidthCopy d => Sys2Proof.Machine.execPeakWidthCopy d s
  | .gpPeriodStart c => Sys2Proof.Machine.execGpPeriodStart c s
  | .tripRegistered n t => Sys2Proof.Machine.execTripRegistered n t s
  | .safeStateAssert src => Sys2Proof.Machine.execSafeStateAssert src s
  | .safeStateRelease src => Sys2Proof.Machine.execSafeStateRelease src s
  | .compareWrite m g x w => Sys2Proof.Machine.execCompareWrite m g x w s
  | .groupOffWrite m g w => Sys2Proof.Machine.execGroupOffWrite m g w s
  | .coastEnable m g => Sys2Proof.Machine.execCoastEnable m g s
  | .coastDisable m g => Sys2Proof.Machine.execCoastDisable m g s
  | .coastAngleWrite m g w => Sys2Proof.Machine.execCoastAngleWrite m g w s
  | .carrierRatePhaseChange m ch w => Sys2Proof.Machine.execCarrierRatePhaseChange m ch w s
  | .engineRun m => Sys2Proof.Machine.execEngineRun m s
  | .engineStop m => Sys2Proof.Machine.execEngineStop m s
  | .modeCommand m w => Sys2Proof.Machine.execModeCommand m w s
  | .driveStart m d back => Sys2Proof.Machine.execDriveStart m d back s
  | .driveStop m d => Sys2Proof.Machine.execDriveStop m d s
  | .driveFaultclr m d => Sys2Proof.Machine.execDriveFaultclr m d s
  | .driveBack lane => Sys2Proof.Machine.execDriveBack lane s
  | .pulseEdge n period high => Sys2Proof.Machine.execPulseEdge n period high s
  | .pulseTimeout n level => Sys2Proof.Machine.execPulseTimeout n level s
  | .perennialClear m w => Sys2Proof.Machine.execPerennialClear m w s
  | .perennialClearEnd => Sys2Proof.Machine.execPerennialClearEnd s
  | .generatorStart m n => Sys2Proof.Machine.execGeneratorStart m n s
  | .generatorStop m n => Sys2Proof.Machine.execGeneratorStop m n s
  | .captureArm m => Sys2Proof.Machine.execCaptureArm m s
  | .captureStop m => Sys2Proof.Machine.execCaptureStop m s
  | .captureSample => Sys2Proof.Machine.execCaptureSample s
  | .pointForceSet m p => Sys2Proof.Machine.execPointForceSet m p s
  | .pointForceClear m p => Sys2Proof.Machine.execPointForceClear m p s
  | .rtcSet m w => Sys2Proof.Machine.execRtcSet m w s
  | .catalogueValueWrite m p w => Sys2Proof.Machine.execCatalogueValueWrite m p w s
  | .canEnable c m w => Sys2Proof.Machine.execCanEnable c m w s
  | .canDisable c m w busy => Sys2Proof.Machine.execCanDisable c m w busy s
  | .rateDetectionDone c nrate drate rounds => Sys2Proof.Machine.execRateDetectionDone c nrate drate rounds s
  | .busIntegrationDone c => Sys2Proof.Machine.execBusIntegrationDone c s
  | .frameReceived c f ago pos => Sys2Proof.Machine.execFrameReceived c f ago pos s
  | .transmitRequest c m k w => Sys2Proof.Machine.execTransmitRequest c m k w s
  | .transmitCancel c m k w => Sys2Proof.Machine.execTransmitCancel c m k w s
  | .cancelTaken c n => Sys2Proof.Machine.execCancelTaken c n s
  | .transmitCommit c => Sys2Proof.Machine.execTransmitCommit c s
  | .arbitrationLost c => Sys2Proof.Machine.execArbitrationLost c s
  | .transmitSuccess c ago pos tdc => Sys2Proof.Machine.execTransmitSuccess c ago pos tdc s
  | .busError c e => Sys2Proof.Machine.execBusError c e s
  | .busOffRecovery c m => Sys2Proof.Machine.execBusOffRecovery c m s
  | .busOffRecoveryEnd c => Sys2Proof.Machine.execBusOffRecoveryEnd c s
  | .protocolException c => Sys2Proof.Machine.execProtocolException c s
  | .queueAck c m q w => Sys2Proof.Machine.execQueueAck c m q w s
  | .aloneProbe c => Sys2Proof.Machine.execAloneProbe c s
  | .fdTransmitOff c m w => Sys2Proof.Machine.execFdTransmitOff c m w s
  | .objectWrite c m n ix w => Sys2Proof.Machine.execObjectWrite c m n ix w s
  | .zpJoin b => Sys2Proof.Machine.execZpJoin b s
  | .zpAccept b => Sys2Proof.Machine.execZpAccept b s
  | .zpLeave b => Sys2Proof.Machine.execZpLeave b s
  | .zpPublish b => Sys2Proof.Machine.execZpPublish b s
  | .zpTime b => Sys2Proof.Machine.execZpTime b s
  | .zpRollcallReply b => Sys2Proof.Machine.execZpRollcallReply b s
  | .zpMgmtRead b split => Sys2Proof.Machine.execZpMgmtRead b s split
  | .zpMgmtWrite b split => Sys2Proof.Machine.execZpMgmtWrite b s split
  | .zpNakReceived b => Sys2Proof.Machine.execZpNakReceived b s
  | .zpBadSource b => Sys2Proof.Machine.execZpBadSource b s
  | .zpOfferTimeout b node => Sys2Proof.Machine.execZpOfferTimeout b node s
  | .zpPartnerLost b node => Sys2Proof.Machine.execZpPartnerLost b node s
  | .zpQuarantineEnd b node => Sys2Proof.Machine.execZpQuarantineEnd b node s
  | .zpFdHoldEnd b => Sys2Proof.Machine.execZpFdHoldEnd b s
  | .zpRollcallBroadcast b => Sys2Proof.Machine.execZpRollcallBroadcast b s
  | .zpFrameLoad b => Sys2Proof.Machine.execZpFrameLoad b s
  | .curSelHigh => Sys2Proof.Machine.execCurSelHigh s
  | .curSelLow => Sys2Proof.Machine.execCurSelLow s
  | .takeoverRestoreEnd => Sys2Proof.Machine.execTakeoverRestoreEnd s
  | .takeoverCalibration => Sys2Proof.Machine.execTakeoverCalibration s
  | .takeoverSequencerEnable cal => Sys2Proof.Machine.execTakeoverSequencerEnable cal s
  | .takeoverEngineStart => Sys2Proof.Machine.execTakeoverEngineStart s
  | .healthFrame => Sys2Proof.Machine.execHealthFrame s
  | .curatorSample hbA hsA hbB hsB => Sys2Proof.Machine.execCuratorSample hbA hsA hbB hsB s
  | .linkBringup => Sys2Proof.Machine.execLinkBringup s
  | .linkCompat record => Sys2Proof.Machine.execLinkCompat record s
  | .linkStatus st => Sys2Proof.Machine.execLinkStatus st s
  | .linkMirror bytes => Sys2Proof.Machine.execLinkMirror bytes s
  | .linkCkptChunk c => Sys2Proof.Machine.execLinkCkptChunk c s
  | .linkCkptEnd cknum ckrtc nrec => Sys2Proof.Machine.execLinkCkptEnd cknum ckrtc nrec s
  | .linkCrcFail typ => Sys2Proof.Machine.execLinkCrcFail typ s
  | .linkMgmtRequest write tag addr n words split => Sys2Proof.Machine.execLinkMgmtRequest write tag addr n words s split
  | .linkMgmtReply tag status words => Sys2Proof.Machine.execLinkMgmtReply tag status words s
  | .linkMgmtTimeout => Sys2Proof.Machine.execLinkMgmtTimeout s
  | .linkDown => Sys2Proof.Machine.execLinkDown s
  | .checkpointStart => Sys2Proof.Machine.execCheckpointStart s
  | .vaultCopy => Sys2Proof.Machine.execVaultCopy s
  | .swapRequest m w => Sys2Proof.Machine.execSwapRequest m w s
  | .selfTestCycle r => Sys2Proof.Machine.execSelfTestCycle r s
  | .folioMasterAccess => Sys2Proof.Machine.execFolioMasterAccess s
  | .folioJobStart => Sys2Proof.Machine.execFolioJobStart s
  | .folioProgramEnd => Sys2Proof.Machine.execFolioProgramEnd s
  | .folioRecallScanEnd => Sys2Proof.Machine.execFolioRecallScanEnd s
  | .pfiAccepted => Sys2Proof.Machine.execPfiAccepted s
  | .powerDownSaveEnd => Sys2Proof.Machine.execPowerDownSaveEnd s
  | .folioRemap m w => Sys2Proof.Machine.execFolioRemap m w s
  | .folioProtWrite m w => Sys2Proof.Machine.execFolioProtWrite m w s
  | .clearMissed m w => Sys2Proof.Machine.execClearMissed m w s
  | .userCounterInc m w => Sys2Proof.Machine.execUserCounterInc m w s
  | .folLiveWrite m ix w => Sys2Proof.Machine.execFolLiveWrite m ix w s
  | .sensorSample t0 t1 t2 t3 => Sys2Proof.Machine.execSensorSample t0 t1 t2 t3 s
  | .sensorTestSample d0 d1 d2 d3 => Sys2Proof.Machine.execSensorTestSample d0 d1 d2 d3 s
  | .aonComparatorSample above => Sys2Proof.Machine.execAonComparatorSample above s
  | .thermalHaltEntry => Sys2Proof.Machine.execThermalHaltEntry s
  | .aonSecond => Sys2Proof.Machine.execAonSecond s
  | .keyScanEnd keys => Sys2Proof.Machine.execKeyScanEnd keys s
  | .scannerWakeTimeout => Sys2Proof.Machine.execScannerWakeTimeout s
  | .combinationWrite m n cfg w => Sys2Proof.Machine.execCombinationWrite m n cfg w s
  | .ledgerClear m w => Sys2Proof.Machine.execLedgerClear m w s
  | .ledgerSelect m k w => Sys2Proof.Machine.execLedgerSelect m k w s
  | .snapshotModeWrite m w => Sys2Proof.Machine.execSnapshotModeWrite m w s
  | .snapshot => Sys2Proof.Machine.execSnapshot s
  | .annalsRingWrite => Sys2Proof.Machine.execAnnalsRingWrite s
  | .persistentLogReadEnd => Sys2Proof.Machine.execPersistentLogReadEnd s
  | .foxingScan slack bgdiff cref => Sys2Proof.Machine.execFoxingScan slack bgdiff cref s
  | .foxingReplan => Sys2Proof.Machine.execFoxingReplan s
  | .foxVreqWrite m w => Sys2Proof.Machine.execFoxVreqWrite m w s
  | .spiRead addr len split => Sys2Proof.Machine.execSpiRead addr len split s
  | .spiWrite addr words split => Sys2Proof.Machine.execSpiWrite addr words split s
  | .spiWriteb addr bytes split => Sys2Proof.Machine.execSpiWriteb addr bytes split s
  | .spiStatus => Sys2Proof.Machine.execSpiStatus s
  | .spiReset bytes => Sys2Proof.Machine.execSpiReset bytes s
  | .spiBadOpcode op clocked => Sys2Proof.Machine.execSpiBadOpcode op clocked s
  | .spiWaitPoint => Sys2Proof.Machine.execSpiWaitPoint s
  | .spiAbort => Sys2Proof.Machine.execSpiAbort s
  | .counterClear m a w => Sys2Proof.Machine.execCounterClear m a w s
  | .registerWrite m a w => Sys2Proof.Machine.execRegisterWrite m a w s
  | .switchEdge t clk padOk => Sys2Proof.Machine.execSwitchEdge t clk padOk s
  | .linkLaneLock lane => Sys2Proof.Machine.execLinkLaneLock lane s
  | .linkRateFallback => Sys2Proof.Machine.execLinkRateFallback s
  | .linkCapsReceived caps => Sys2Proof.Machine.execLinkCapsReceived caps s
  | .zpUnknownType b => Sys2Proof.Machine.execZpUnknownType b s
  | .pllLRelock three => Sys2Proof.Machine.execPllLRelock three s
  | .aonClockChangeover => Sys2Proof.Machine.execAonClockChangeover s

end Sys2Proof.Machine
end

