-- ==== Sys2Proof/Machine/Pins.lean ====
section
/-! DEFINITION. Levels of the output pins between two commands, as functions of the state: what a pin shows where the
manual fixes it by the state and not by a waveform. CUR_HS is `State.curHs`, SV_IRQ_N is `State.irqLine`. -/

namespace Sys2Proof.Machine

/-- Level of the gate pin of phase `p` (0 U, 1 V, 2 W) of drive group `g`: the high side, or the low side (R64, R195, R196). -/
def State.gatePin (s : State) (g p : Nat) (high : Bool) : Bool :=
  match ((s.pwm.groups[g]?).bind (fun x => x.ph[p]?)) with
  | some x => if high then x.hi else x.lo
  | none => false

/-- Level of GPc (R64, R193, R200). -/
def State.generalPin (s : State) (c : Nat) : Bool :=
  match s.pwm.gps[c]? with
  | some x => x.pin
  | none => false

/-- Level of CUR_HB: low on a unit that is not paired (R64, R444, R449). -/
def State.curHb (s : State) : Bool := s.paired && s.pair.hb

/-- Level of CANn_TX: high, recessive, from the start of a reset until the first tick and while the controller does not
drive its bus (R64, R376); none while it carries what the controller sends.
(DEDUCED, log entry 103, safe.) -/
def State.canTx (s : State) (c : Nat) : Option Bool := if s.boot.ticked && s.canDrives c then none else some true

/-- Level of PL_TX0 and PL_TX1: a steady logic 0 until the link starts (R64, R462); none while a lane is sent.
(DEDUCED, log entry 103, safe.) -/
def State.plTx (s : State) : Option Bool := if s.linkMay then none else some false

/-- Level of QS_CS_N: high (R64) but while the flash is read or programmed (R65, R96); none then.
(DEDUCED, log entry 103, safe.) -/
def State.qsCsN (s : State) : Option Bool :=
  if s.boot.stage = .flash ∨ s.boot.stage = .slot ∨ s.boot.prog.isSome then none else some true

/-- SV_MISO is driven only inside a transaction; it is high impedance while SV_CS_N is high (R64).
(DEDUCED, log entry 103, safe.) -/
def State.svMisoDriven (s : State) : Bool := s.portLive && s.svc.split

/-- A scan may drive a column KC0 to KC7 low; they are high impedance otherwise, and while a power-on reset holds the
scanner (R64, R533, R534). R64 has them high impedance up to the first tick, where R536 and R544 have the scanner run:
the model lets its scans drive them.
(DEDUCED, log entry 103, safe; DESIGN CHOICE, log entry 129, unsafe.) -/
def State.kcScanned (s : State) : Bool := !(s.boot.stage == .reset && s.clk.por)

/-- Level of CANn_STB: high while the controller is disabled, and from the start of a reset until the first tick
(R64, R376).
(DEDUCED, log entry 103, safe.) -/
def State.canStb (s : State) (c : Nat) : Bool := !s.boot.ticked || s.canState c == 0

/-- Level of SV_RDY: low until PLL_M locks after a reset, then high, but for a wait point of an open transaction whose
access waits (R64, R594, R598).
(DEDUCED, log entry 103, safe.) -/
def State.svRdy (s : State) : Bool :=
  s.portLive && !s.reqs.any (fun r => r.who == .port && r.wait.isSome)

/-- PWM clocks of each 2,000 for which AVS_PWM is high; none while it is high impedance. From reset release to the
first tick it is the factory duty, and in THERMAL_HALT again (R64, R523, R571).
(DEDUCED, log entry 103, safe.) -/
def State.avsHigh (s : State) : Option Nat :=
  if s.boot.stage = .reset then none
  else some (500 + 50 * (if s.boot.ticked && !s.halted then s.foxN else nfac))

end Sys2Proof.Machine
end

