-- ==== Sys2Proof/Safety.lean ====
section
/-! DEFINITION. What counts as a sound state and a safe step, in the terms that statements use. -/

namespace Sys2Proof.Machine

/-- The stored form of a state is canonical: no register is listed with its reset word, no byte of memory with 0, and
addresses rise. Equal contents are then equal data. -/
def State.wf (s : State) : Bool := regsWf s.regs && Memory.wf s.mem

/-! The shape of the state. A list that stands for a fixed number of things has that many entries (log entry 10). -/

/-- Six drive groups of three phases, 32 general channels. -/
def Pwm.shaped (x : Pwm) : Bool :=
  x.groups.length == 6 && x.groups.all (fun g => g.ph.length == 3) && x.gps.length == 32

/-- Nine cores, of which eight convert, eight sequences, 16 rings, six drive latches. -/
def Conv9.shaped (x : Conv9) : Bool :=
  x.wtrim.length == 9 && x.rejRun.length == 9 && x.inj.length == 8 && x.reg.length == 8 && x.seqs.length == 8
    && x.ringDec.length == 16 && x.latchDone.length == 6

/-- Four lanes, six drives, eight generators and pulse inputs; mode commands by rising slot. -/
def Engine.shaped (x : Engine) : Bool :=
  x.lanes.length == 4 && x.drives.length == 6 && x.gens.length == 8 && x.pis.length == 8 && risingFrom 0 x.cmds

/-- Four staging conditions, 64 zones. -/
def AlmHidden.shaped (x : AlmHidden) : Bool :=
  x.stageCnt.length == 4 && x.dayType.length == 64 && x.ovr.length == 64 && x.os.length == 64

/-- 16 digital inputs. -/
def Alm.shaped (x : Alm) : Bool := x.hid.shaped && x.next.shaped && x.diRun.length == 16

/-- Four banks; cells, write counts and map entries by rising address. -/
def Folio.shaped (x : Folio) : Bool :=
  x.intent.length == 4 && x.used.length == 4 && x.latch.length == 4 && canonical (fun _ => some 0xFF) x.cells
    && canonical (fun _ => 0) x.counts && risingFrom 0 x.map

/-- Four sensors of four thresholds. -/
def Thermal.shaped (x : Thermal) : Bool :=
  x.runs.length == 4 && x.runs.all (fun r => r.length == 4) && x.opens.length == 4 && x.shorts.length == 4
    && x.cool.length == 4

/-- Two encoders, 64 keys, four combinations. -/
def Panel.shaped (x : Panel) : Bool :=
  x.encs.length == 2 && x.runs.length == 64 && x.time.length == 64 && x.timers.length == 4

/-- The state has its shape. The Annals FIFO holds at most 32 events (R559). -/
def State.shaped (s : State) : Bool :=
  s.pwm.shaped && s.adc.shaped && s.ce.shaped && s.alm.shaped && s.can.length == 2 && s.zp.length == 2
    && s.zp.all (fun z => z.partners.length == 128) && s.pair.cur.length == 2 && s.fol.shaped && s.thm.shaped
    && s.pnl.shaped && s.boot.enpt.length == 4 && decide (s.annFifo.length ≤ 32)

/-- No phase of a drive group has both of its switches on (R175). -/
def State.neverBoth (s : State) : Bool := s.pwm.groups.all (fun g => g.ph.all (fun q => !(q.hi && q.lo)))

/-- A step is safe when it answers a state, or refuses a command that nothing outside can send. -/
def safeOutcome (o : Host.Outcome State Fault Refusal) : Bool :=
  match o with
  | .next _ => true
  | .refused .illFormed => true
  | _ => false

/-- Every register outside the list reads in `t` as in `s`. -/
def sameRegs (s t : State) (l : List Nat) : Prop := ∀ a, a ∉ l → t.rd a = s.rd a

/-- Every byte of memory reads in `t` as in `s`. -/
def sameMem (s t : State) : Prop := ∀ a, t.mb a = s.mb a

/-- Every byte of memory reads in `t` as in `s`, but for the states of the Perennial links, which start anew (R60, R265). -/
def afterReset (s t : State) : Prop :=
  ∀ a, t.mb a = if 0x141000 ≤ a ∧ a < 0x142000 then (memReset a).toNat else s.mb a

/-- Master `m` reaches the part and may write at `a` in the state that stands (R586), and no Curator holds the register's
subsystem in reset (R460). -/
def State.admits (s : State) (m : Master) (a : Nat) : Bool := s.reaches m && s.writeGate a && !s.heldReg a

/-- The registers of the Ledger's counters and ANL_LOSTCNT: what counting and logging an event may change, whatever
else the event does. -/
def countRegs : List Nat :=
  F.ANL_LOSTCNT.addr :: (List.range 32).flatMap (fun k => [(F.LDG_CNT_LO k).addr, (F.LDG_CNT_HI_COUNT k).addr])

/-- The registers with RWL fields whose write does nothing but write them (R602). -/
def ownedNames : List String :=
  ["CRT_WIN12", "CRT_WIN3", "ADC_DIFFF", "ADC_DIFFS", "ADC_ALIGN0", "ADC_ALIGN1", "ADC_ALIGN2", "ADC_ILV", "SEQ_REGCFG",
   "SEQ_SCAN", "SEQ_SCANG", "SEQ_IS_CFG", "SEQ_IS_ENT", "SEQ_IS_BURST", "SEQ_IS_LATCH", "SEQ_RING_BASE", "CAN_NBT",
   "CAN_DBT", "CAN_TDC", "CAN_ADCFG", "CAN_F_MATCH", "CAN_F_MASK", "ZP_CFG", "ZP_NODE", "ZP_BIND0", "PAIR_PLANA",
   "PAIR_PLANB"]

/-- The conditions under which a regular trigger is taken: the first tick has come, the sequencer is enabled, and some
core takes part and each that does is up (R144, R156). -/
def State.regularReady (s : State) : Bool :=
  s.boot.ticked && s.on F.SEQ_CTL_EN && !s.passCores.isEmpty && s.passCores.all s.coreUp

/-- Every register outside the PWM block, the counters of the Ledger and ANL_LOSTCNT apart, and all of memory, read in `t`
as in `s`. -/
def outsidePwm (s t : State) : Prop :=
  (∀ a, (a < 0x40040000 ∨ 0x40050000 ≤ a) → a ∉ countRegs → t.rd a = s.rd a) ∧ sameMem s t

/-- A write of a register of PWM changes the registers in `l`; besides, TRIPIN loses the inputs that have fallen (the model's
choice, log entry 128), and the flags of those that are active are set, and no other (R189). -/
def pwmFrame (s t : State) (l : List Nat) : Prop :=
  sameRegs s t (l ++ F.PWM_TRIPFLAG_FLAG.addr :: F.PWM_STAT_TRIPIN.addr ::
    (List.range 6).map (fun g => (F.PWM_G_STAT_TRIP g).addr)) ∧
  andNot (t.f F.PWM_STAT_TRIPIN) (s.f F.PWM_STAT_TRIPIN) = 0 ∧ t.on F.PWM_STAT_SAFE = s.on F.PWM_STAT_SAFE ∧
  t.f F.PWM_TRIPFLAG_FLAG = orN (s.f F.PWM_TRIPFLAG_FLAG) (t.f F.PWM_STAT_TRIPIN) ∧
  (∀ g, g < 6 → (F.PWM_G_STAT_TRIP g).addr ∉ l → t.rd (F.PWM_G_STAT_TRIP g).addr =
    orN (s.rd (F.PWM_G_STAT_TRIP g).addr)
      (if andN (s.f (F.PWM_G_TRIPMAP_MAP g)) (t.f F.PWM_STAT_TRIPIN) = 0 then 0 else 2 ^ (F.PWM_G_STAT_TRIP g).lo)) ∧
  sameMem s t

/-- Every register outside the 64 KiB windows whose numbers are in `l` (R581), the counters of the Ledger and ANL_LOSTCNT
apart, reads in `t` as in `s`. -/
def outside (l : List Nat) (s t : State) : Prop := ∀ a, blockOf a ∉ l → a ∉ countRegs → t.rd a = s.rd a

/-- Lane `l` of `t` runs slot `i` in class `k` from CE cycle `c` on: it has read its inputs in `s` as they stood before that
cycle (R56), the slot's waiting command is in hand (R223), BUSY shows it; the other lanes and memory are as in `s`. -/
def runBegun (s t : State) (l i k c : Nat) : Prop :=
  (t.lane l).run = some ((s.catAsOf c).beginRun i k c) ∧ t.ce.cmds = dropAt s.ce.cmds i ∧
  bit (t.f F.CE_STAT_BUSY) l = true ∧ (∀ j, j < 4 → j ≠ l → t.lane j = s.lane j) ∧ sameMem s t

/-- Lane `l` of `t` has begun the chain of drive `d` at CE cycle `c`: its loops wait behind FRONT, which has taken the drive's
command and read its currents where it ends within the frame (R287, R288, R304); the rest of the part is as in `s`, but for
what FRONT writes. -/
def chainBegun (s t : State) (l d c : Nat) : Prop :=
  (t.lane l).chain = some d ∧ (t.lane l).cyc = c + s.frontCost d ∧ (t.lane l).chainTodo = s.chainLoops d ∧
  (t.lane l).run = none ∧ bit (t.f F.CE_STAT_BUSY) l = true ∧ (∀ j, j < 4 → j ≠ l → t.lane j = s.lane j) ∧
  (∀ e, e < 6 → e ≠ d → t.drv e = s.drv e) ∧
  (c + s.frontCost d ≤ s.nce → (t.drv d).cmd = none ∧
    (t.drv d).iu = s.latchVal (getBits (s.dr d 0) 4 3) (s.frame % 2) 0) ∧
  (s.nce < c + s.frontCost d → sameRegs s t [F.CE_STAT_BUSY.addr] ∧ sameMem s t) ∧
  outside [4, 5, 6, 9, 10, 14] s t ∧ ∀ b, (b < 0x118000 ∨ 0x124600 ≤ b) → t.mb b = s.mb b

/-- The Zone Protocol layer on bus `b` has a frame of class `c` to process: `t` is the state in which the frames to be
ignored before it are released, `x` the frame. -/
def State.zpFront (s : State) (b : Nat) (c : ZpClass) (t : State) (x : ZpRx) : Prop :=
  s.zpRuns b = true ∧ (s.zb b).mgmt = none ∧ s.zpNext b 65 = (t, some x) ∧ t.zpClass b x = c

/-- The sender of frame `x` is joined, and its frame keeps to the terms (R424, R438). -/
def State.zpGood (s : State) (b : Nat) (x : ZpRx) : Bool := s.ptState b x.src == 2 && !s.zpFormatBad b x

/-- The layer has released the entry of frame `x`, which `t` holds, and beyond its own registers, those of the bus
controllers and the blocks in `l` no register differs from `t` (R391, R431). -/
def zpReleasedBut (l : List Nat) (t u : State) (b : Nat) (x : ZpRx) : Prop :=
  u.qOwned b (t.zpQueue b) x.e = false ∧ (∀ e, e < 64 → e ≠ x.e → u.qOwned b (t.zpQueue b) e = t.qOwned b (t.zpQueue b) e) ∧
  outside (7 :: 8 :: l) t u

/-- The layer has released the entry of frame `x`, which `t` holds, and beyond its own registers and those of the bus
controllers no register differs from `t` (R391, R431). -/
def zpReleased (t u : State) (b : Nat) (x : ZpRx) : Prop := zpReleasedBut [] t u b x

/-- From `t` to `u` a violation of code `code` by the sender of frame `x` has been counted and reported (R438). -/
def zpViolated (t u : State) (b : Nat) (x : ZpRx) (code : Nat) : Prop :=
  u.f F.ZP_LASTVIOL_CODE = code ∧ u.f F.ZP_LASTVIOL_TYPE = x.typ ∧ u.f F.ZP_LASTVIOL_NODE = x.src ∧
  u.f F.ZP_LASTVIOL_BUS = b ∧ u.f F.ZP_VIOLCNT = min (t.f F.ZP_VIOLCNT + 1) (2 ^ 32 - 1)

/-- From `s` to `u` the event `code` of the Zone Protocol has entered the Annals FIFO, or was lost where it was full
(R558, R559). -/
def zpLogged (s u : State) (code arg detail : Nat) : Prop :=
  (s.annFifo.length < 32 → u.annFifo.map (fun e => (e.subsys, e.code, e.arg, e.detail))
    = s.annFifo.map (fun e => (e.subsys, e.code, e.arg, e.detail)) ++ [(9, code, arg % 65536, detail % 2 ^ 32)]) ∧
  (32 ≤ s.annFifo.length → u.annFifo = s.annFifo ∧ u.f F.ANL_LOSTCNT = min (s.f F.ANL_LOSTCNT + 1) (2 ^ 32 - 1))

/-- The command's operands are ones that the outside world can send to `s`; any other command is refused.
(DESIGN CHOICE, log entry 2, safe.) -/
def sendable (c : Instr) (s : State) : Bool :=
  match c with
  | .rateDetectionDone _ nrate drate _ => ratesWf nrate.toNat drate.toNat
  | .frameReceived _ f _ _ => f.wf
  | .foxingScan slack _ _ => slack.length == 9
  | .linkCompat r => r.wf
  | .linkMirror bytes => bytes.length == 148
  | .linkCkptChunk k => k.wf
  | .takeoverSequencerEnable cal => cal.wf
  | .selfTestCycle r => r.wf
  | .flashNegotiationDone _ hdr => (decide (s.boot.stage ≠ .flash) || s.slotOrder.isEmpty || headerFits hdr)
  | .sectionReceived bytes => match s.boot.stage, s.boot.sects with
    | .slot, e :: _ => bytes.length == e.length
    | _, _ => true
  | .imageClearDone hdr => decide (s.boot.stage ≠ .clear) || s.boot.rest.isEmpty || headerFits hdr
  | .initialCalibrationDone cal => cal.wf
  | .spiWrite _ words _ => decide (1 ≤ words.length) && decide (words.length ≤ 256)
  | .spiWriteb _ bytes _ => decide (1 ≤ bytes.length) && decide (bytes.length ≤ 256)
  | .spiBadOpcode op _ => !([0x02#8, 0x03#8, 0x05#8, 0x06#8, 0x99#8].contains op)
  | .linkMgmtRequest write _ addr n words _ => decide (addr.toNat % 4 = 0) && decide (1 ≤ n.toNat) && decide (n.toNat ≤ 64)
      && words.length == (if write then n.toNat else 0)
  | .counterClear _ a _ => !(counterList a.toNat).isEmpty
  | .registerWrite _ a _ => decide (a.toNat % 4 = 0) && decide (0x40000000 ≤ a.toNat) && decide (a.toNat < 0x400F0000)
  | .pulseEdge n period high => !s.pulseLive || s.piEdges n == 0
      || (decide (0 < high.toNat) && decide (high.toNat < period.toNat))
  | _ => true

end Sys2Proof.Machine
end

