-- ==== Sys2Proof/Certificates/Slice0/Obligations.lean ====
section
/-! DEFINITION. The statements for the provers. -/

open Sys2Proof Sys2Proof.Machine

/-! ### The queue and the outcomes -/

/-- A step takes the command at the front of the queue and carries it out on the state with the rest of the queue.
With an empty queue a step idles but for the requests that are carried out word by word, and it changes nothing where
there is none (model's choice, log entries 1 and 11). -/
def Obligations.StepFollowsTheQueue : Prop :=
  (∀ (c : Instr) (rest : List Instr) (s : State), s.pending = c :: rest → step s = exec c { s with pending := rest }) ∧
  (∀ s : State, s.pending = [] → step s = .next s.idle ∧
    ((∀ r, r ∈ s.reqs → r.split = true → r.wait.isSome = true) → s.idle = s))

/-- A command is refused exactly when its operands are ones the outside world cannot send, and then as ill-formed (the
model's choice, log entry 2); every other command answers a next state. -/
def Obligations.SendableCommandsComplete : Prop :=
  ∀ (c : Instr) (s : State), if sendable c s then ∃ t, exec c s = .next t else exec c s = .refused .illFormed

/-- The stored form of registers and memory stays canonical through every step, and so does the shape of the state: every
list that stands for a fixed number of things keeps its length, Folio's cells and write counts their canonical form, the
Annals FIFO its bound (R559). The form is the model's (log entries 8, 9, 10). -/
def Obligations.StepKeepsStoredForm : Prop :=
  (∀ s t : State, s.wf = true → step s = .next t → t.wf = true) ∧
  (∀ s t : State, s.shaped = true → step s = .next t → t.shaped = true)

/-- The state after reset has the canonical form and the shape (the model's, log entries 8, 9, 10). -/
def Obligations.ResetHasStoredForm : Prop :=
  State.reset.wf = true ∧ State.reset.shaped = true

/-- No command changes the queue of the commands that wait behind it. -/
def Obligations.ExecLeavesQueue : Prop :=
  ∀ (c : Instr) (s t : State), s.wf = true → exec c s = .next t → t.pending = s.pending

/-! ### Resets (R59 to R64) -/

/-- A power-on reset: memory and the Vault are cleared, every register reads its reset word (FOL_PROT reads the value
that Folio stores), the boot starts over and nothing is pending (R15, R60). Where only VDDC has fallen, `core`, a
power-down save runs on, and FOL_STAT shows it (R505, R612). What the Vault and main SRAM read then (log entry 8), a
register without a reset value (log entry 9) and the idle state of what no register shows (log entry 10) are the model's
choices, and so is what Folio keeps (log entry 28). -/
def Obligations.PowerOnResetClears : Prop :=
  ∀ (s : State) (core : Bool), ∃ t, exec (.powerOnReset core) s = .next t ∧ t.mem = [] ∧
    (∀ a, a ≠ F.FOL_PROT_BP.addr → a ≠ F.FOL_STAT_BUSY.addr → t.rd a = (resetWord a).toNat) ∧
    t.rd F.FOL_STAT_BUSY.addr = setBits (resetWord F.FOL_STAT_BUSY.addr).toNat F.FOL_STAT_BUSY.lo 1 (b2n t.fol.prog.isSome) ∧
    (∀ g, s.fol.prog = some g → t.fol.prog = if core = true ∧ g.src = .save then some g else none) ∧
    (s.fol.prog = none → t.fol.prog = none) ∧
    t.boot = Boot.reset ∧ t.safe.srcs = [] ∧ t.shadow = [] ∧ t.annFifo = [] ∧ t.reqs = [] ∧ t.pair = Pair.reset ∧
    t.clk = ⟨false, false, true, false⟩ ∧ t.adc = .reset ∧ t.pwm = .reset ∧ t.ce = .reset ∧ t.alm = .reset ∧
    t.can = List.replicate 2 .reset ∧ t.zp = List.replicate 2 .reset ∧ t.thm = .reset ∧ t.pnl = .reset ∧ t.fox = .reset ∧
    t.fol.jobs = [] ∧ t.fol.txns = [] ∧ t.fol.prot = s.fol.prot

/-- The resets other than power-on start over with their own cause bit: PIN_N, the crystal, the frame watchdog once a
tick has been seen, and the RESET transaction on an idle port with the part out of reset. The safe-state bus is asserted
first by the crystal and by the watchdog (R52, R54, R59, R63).
What a reset other than power-on keeps: main SRAM and the Vault, but for the states of the Perennial links, which start
anew (R60, R265); the bits of each register that the AON domain or Folio holds, and no other bit (R60). Its cause bit is
added to those that CRT_RSTCAUSE holds, and LOCKLOSS_M stays (R60, R63). FOL_STAT and FOL_PROT are written besides: the
program that runs on, and the stored protection. That main SRAM is kept (log entry 26) and which bits AON holds (log
entry 27) are the model's reading. -/
def Obligations.OtherResetsKeepAonBits : Prop :=
  (∀ s : State,
    exec .pinReset s = .next (s.otherReset F.CRT_RSTCAUSE_PIN) ∧
    (∃ t, exec .crystalLoss s = .next { t with clk := { t.clk with lost := true } } ∧
      t = (s.safeAssert .crystal).otherReset F.CRT_RSTCAUSE_XTAL) ∧
    (s.boot.ticked = true →
      exec .frameWatchdogExpiry s = .next ((s.safeAssert .watchdog).otherReset F.CRT_RSTCAUSE_WDOG)) ∧
    (s.boot.stage ≠ .reset → s.hasReq .port = false →
      exec (.spiReset [0x5A, 0xA5]) s = .next (s.otherReset F.CRT_RSTCAUSE_SVC))) ∧
  (∀ s : State, s.wf = true →
    (∃ t, exec .pinReset s = .next t ∧ t.on F.CRT_RSTCAUSE_PIN = true ∧ t.boot.stage = .reset ∧ afterReset s t ∧
      ∀ a, a ≠ F.CRT_RSTCAUSE_PIN.addr → a ≠ F.FOL_STAT_BUSY.addr → a ≠ F.FOL_PROT_BP.addr →
        t.rd a = andN (s.rd a) (aonMask a) + andNot (resetWord a).toNat (aonMask a)) ∧
    (∃ t, exec .crystalLoss s = .next t ∧ t.on F.CRT_RSTCAUSE_XTAL = true ∧ t.boot.stage = .reset ∧ t.clk.lost = true ∧
      afterReset s t) ∧
    (s.boot.ticked = true →
      ∃ t, exec .frameWatchdogExpiry s = .next t ∧ t.on F.CRT_RSTCAUSE_WDOG = true ∧ t.boot.stage = .reset ∧ afterReset s t) ∧
    (s.boot.stage ≠ .reset → s.hasReq .port = false →
      ∃ t, exec (.spiReset [0x5A, 0xA5]) s = .next t ∧ t.on F.CRT_RSTCAUSE_SVC = true ∧ t.boot.stage = .reset ∧ afterReset s t)) ∧
  (∀ (s : State) (cause : Fld), s.wf = true →
    cause ∈ [F.CRT_RSTCAUSE_PIN, F.CRT_RSTCAUSE_XTAL, F.CRT_RSTCAUSE_WDOG, F.CRT_RSTCAUSE_SVC, F.CRT_RSTCAUSE_PANEL] →
    (s.otherReset cause).on cause = true ∧
    (s.otherReset cause).boot.stage = .reset ∧ (s.otherReset cause).boot.ticked = false ∧
    afterReset s (s.otherReset cause) ∧
    (∀ k, k < 32 → bit ((s.otherReset cause).rd F.CRT_RSTCAUSE_PIN.addr) k =
      ((k == cause.lo) || (decide (k < 6) && bit (s.rd F.CRT_RSTCAUSE_PIN.addr) k))) ∧
    (s.otherReset cause).f F.CRT_CLKSTAT_LOCKLOSS_M = s.f F.CRT_CLKSTAT_LOCKLOSS_M ∧
    ∀ a, a ≠ cause.addr → a ≠ F.FOL_STAT_BUSY.addr → a ≠ F.FOL_PROT_BP.addr →
      (s.otherReset cause).rd a = andN (s.rd a) (aonMask a) + andNot (resetWord a).toNat (aonMask a))

/-! ### The boot (R65 to R71) -/

/-- Reset release starts step 1. The PLL lock leads to step 3 with the plane memories zeroed, and holds a unit that thermal
watch holds at step 2 (R65, R526): PHASE shows the step, and no other register changes in step 1 (R65).
Steps 5 to 9: the memory self-test leads to the link in a paired unit and to step 7 otherwise, its failure stops the
boot for good; the link step ends by its timeout too; calibration is followed by the frame counter, and the pins then
leave their reset-safe states (R65 to R70). That a held boot shows PHASE 2 and THERMAL_HALT (log entry 32) and that only
a paired unit makes step 6 (log entry 36) are the model's reading. -/
def Obligations.BootStepsFollow : Prop :=
  (∀ s : State, s.wf = true → s.boot.stage = .reset →
    ∃ t, exec .resetRelease s = .next t ∧ t.boot.stage = .pll ∧ t.f F.BOOT_STAT_PHASE = 1 ∧ t.clk.lost = false ∧
      sameRegs s t [F.BOOT_STAT_PHASE.addr] ∧ sameMem s t) ∧
  (∀ s : State, s.wf = true → s.boot.stage = .pll → s.on F.THM_STAT_HOLD = false → s.on F.THM_STAT_LATCH = false →
    ∃ t, exec .pllLock s = .next t ∧ t.boot.stage = .flash ∧ t.f F.BOOT_STAT_PHASE = 3 ∧ t.on F.CRT_CLKSTAT_LOCK_M = true ∧
      t.on F.CRT_CLKSTAT_LOCK_L = true ∧ t.on F.BOOT_STAT_RECOVERY = false ∧ t.boot.alone = false ∧
      (∀ a, a < 0x200000 → t.mb a = (memReset a).toNat) ∧ outside [0, 1, 4] s t ∧ ∀ a, 0x200000 ≤ a → t.mb a = s.mb a) ∧
  (∀ s : State, s.wf = true → s.boot.stage = .pll → (s.on F.THM_STAT_HOLD = true ∨ s.on F.THM_STAT_LATCH = true) →
    ∃ t, exec .pllLock s = .next t ∧ t.boot.stage = .held ∧ t.f F.BOOT_STAT_PHASE = 2 ∧ t.on F.CRT_CLKSTAT_LOCK_M = true ∧
      t.on F.CRT_CLKSTAT_LOCK_L = true ∧ t.halted = true ∧ t.unitCode = 5 ∧ outside [0, 1, 4, 5, 9, 14] s t ∧ sameMem s t) ∧
  (∀ s : State, s.wf = true → s.boot.stage = .selfTest → s.f F.PAIR_CFG_MODE = 1 →
    ∃ t, exec (.memorySelfTestDone true true) s = .next t ∧ t.boot.stage = .link ∧ t.f F.BOOT_STAT_PHASE = 6 ∧
      sameRegs s t [F.BOOT_STAT_PHASE.addr] ∧ sameMem s t) ∧
  (∀ s : State, s.wf = true → s.boot.stage = .selfTest → s.f F.PAIR_CFG_MODE ≠ 1 →
    ∃ t, exec (.memorySelfTestDone true true) s = .next t ∧ t.boot.stage = .unit ∧ t.f F.BOOT_STAT_PHASE = 7 ∧
      sameRegs s t [F.BOOT_STAT_PHASE.addr] ∧ sameMem s t) ∧
  (∀ (s : State) (march crc : Bool), s.wf = true → s.boot.stage = .selfTest → (march && crc) = false →
    ∃ t, exec (.memorySelfTestDone march crc) s = .next t ∧ t.boot.stage = .bistFail ∧ t.on F.BOOT_STAT_BIST_FAIL = true ∧
      sameRegs s t [F.BOOT_STAT_BIST_FAIL.addr] ∧ sameMem s t) ∧
  (∀ s : State, s.wf = true → s.boot.stage = .link →
    ∃ t, exec .linkBringupTimeout s = .next t ∧ t.boot.stage = .unit ∧ t.f F.BOOT_STAT_PHASE = 7 ∧
      sameRegs s t [F.BOOT_STAT_PHASE.addr] ∧ sameMem s t) ∧
  (∀ (s : State) (cal : CalResults), s.wf = true → cal.wf = true → s.boot.stage = .calib →
    ∃ t, exec (.initialCalibrationDone cal) s = .next t ∧ t = ((s.calibrateAll cal true).convertersReady).frameStart ∧
      t.boot.stage = .run ∧ t.boot.counting = true ∧ t.adc.ready = true ∧ t.f F.BOOT_STAT_PHASE = 9 ∧
      outside [1, 2, 4, 7, 8, 9] s t ∧ sameMem s t)

/-- With the flash step in hand, the parameter table that the flash reports decides the read mode: none leaves NOSFDP and
mode 6 with opcode 0x0B and 8 clocks (R77), a mode on four lines is taken only where the quad-enable method is known
(R75, R76), and a flash without its QE bit gets a quad-enable write before the first quad read, volatile where it can be
(R76). The slots are then tried in the order of BOOT_PREF, or the slot a choice of RECOVERY names alone (R91, R94): the
first one's trailer and Colophon are judged, and without one the boot enters RECOVERY (R92).
A section of the length its table entry gives is applied: it writes no register and no memory outside its target, and
the words of a WRITE or FILL record take effect at once, both copies of a shadowed one (R84 to R86). A failed check ends the slot with its code, and after the clear of what it wrote the next slot in order follows, or
RECOVERY when none is left (R84 to R90, R92). What the clear returns to reset (log entry 29) and SOURCE 3 where no image
is in use (log entry 126) are the model's reading. -/
def Obligations.FlashAndSectionsAreReadInOrder : Prop :=
  (∀ f : FlashInfo, flashTable f = none → flashMode f = (6, 0x0B, 8) ∧ flashQuadWrite f = none) ∧
  (∀ f : FlashInfo, (f.signature ≠ 0x50444653 ∨ f.major ≠ 1) → flashTable f = none) ∧
  (∀ (f : FlashInfo) (b : Bfpt), flashTable f = some b →
    ((flashMode f).1 ≤ 3 → 15 ≤ b.dwords.toNat ∧ b.qer.toNat ≤ 5 ∧
      flashQuadWrite f = (if f.quadOn then none else some b.volatileWrite)) ∧
    (3 < (flashMode f).1 → flashQuadWrite f = none) ∧
    (∀ m, b.r144 = some m → 15 ≤ b.dwords.toNat → b.qer.toNat ≤ 5 →
      flashMode f = if b.dtr = true ∧ 16 ≤ b.dwords.toNat then (1, 0xED, m.clocks.toNat)
        else (2, m.opcode.toNat, m.clocks.toNat)) ∧
    (∀ m, b.r144 = none → b.r114 = some m → 15 ≤ b.dwords.toNat → b.qer.toNat ≤ 5 →
      flashMode f = (3, m.opcode.toNat, m.clocks.toNat)) ∧
    (∀ m, (b.dwords.toNat < 15 ∨ 5 < b.qer.toNat) → b.r122 = some m → flashMode f = (4, m.opcode.toNat, m.clocks.toNat)) ∧
    (∀ m, (b.dwords.toNat < 15 ∨ 5 < b.qer.toNat) → b.r122 = none → b.r112 = some m →
      flashMode f = (5, m.opcode.toNat, m.clocks.toNat)) ∧
    (b.r144 = none → b.r114 = none → b.r122 = none → b.r112 = none → flashMode f = (6, 0x0B, 8))) ∧
  (∀ (s : State) (info : FlashInfo) (hdr : SlotHeader), s.wf = true → s.boot.stage = .flash →
    (s.slotOrder = [] ∨ headerFits hdr = true) →
    ∃ t, exec (.flashNegotiationDone info hdr) s = .next t ∧ t.on F.BOOT_STAT_NOSFDP = (flashTable info).isNone ∧
      t.f F.BOOT_FLASH_MODE = (flashMode info).1 ∧ t.f F.BOOT_FLASH_OPCODE = (flashMode info).2.1 ∧
      t.f F.BOOT_FLASH_DUMMY = (flashMode info).2.2 ∧ t.boot.quadWrite = flashQuadWrite info ∧
      t.boot.erase4k = (match flashTable info with
        | some b => b.erase4k.toNat
        | none => 0x20) ∧
      (s.slotOrder = [] → t.boot.stage = .recovery ∧ t.on F.BOOT_STAT_RECOVERY = true ∧ t.f F.BOOT_STAT_SOURCE = 3 ∧
        t.f F.BOOT_RECSEL_POS = 0) ∧
      (∀ k rest, s.slotOrder = k :: rest → t.boot.cur = k ∧ t.boot.rest = rest ∧ t.f F.BOOT_STAT_PHASE = 4 ∧
        (∀ c i, headCheck hdr.trailer hdr.colophon = some (c, i) → t.boot.stage = .clear ∧
          (k = 1 → t.f F.BOOT_FAILB_CODE = c ∧ t.f F.BOOT_FAILB_SECT = i % 256) ∧
          (k ≠ 1 → t.f F.BOOT_FAILA_CODE = c ∧ t.f F.BOOT_FAILA_SECT = i % 256)) ∧
        (headCheck hdr.trailer hdr.colophon = none →
          (sectTable hdr.colophon).filter (fun e => targetKnown e.target) ≠ [] →
          t.boot.stage = .slot ∧ t.boot.sects = (sectTable hdr.colophon).filter (fun e => targetKnown e.target))) ∧
      (s.boot.alone = false → s.on F.BOOT_PREF_ONCE = true → t.f F.BOOT_PREF_NEXT = 0) ∧ outside [1, 0xC] s t ∧ sameMem s t) ∧
  (∀ s : State, (s.boot.alone = true → s.slotOrder = [s.boot.cur]) ∧
    (s.boot.alone = false → s.slotOrder = if s.f F.BOOT_PREF_NEXT = 1 then [1, 0] else
      if s.f F.BOOT_PREF_NEXT = 2 then [] else [0, 1])) ∧
  (∀ (s : State) (e : SectEntry) (rest : List SectEntry) (bytes : List Byte), s.wf = true →
    s.boot.stage = .slot → s.boot.sects = e :: rest → bytes.length = e.length →
    ∃ t, exec (.sectionReceived bytes) s = .next t ∧
      ((s.applySection false e rest bytes).2 ≠ 0 → t.boot.stage = .clear ∧ t.boot.sects = [] ∧
        (s.boot.cur = 1 → t.f F.BOOT_FAILB_CODE = (s.applySection false e rest bytes).2 ∧
          t.f F.BOOT_FAILB_SECT = e.idx % 256) ∧
        (s.boot.cur ≠ 1 → t.f F.BOOT_FAILA_CODE = (s.applySection false e rest bytes).2 ∧
          t.f F.BOOT_FAILA_SECT = e.idx % 256)) ∧
      ((s.applySection false e rest bytes).2 = 0 → rest = [] → (t.boot.stage = .selfTest ∨ t.boot.stage = .clear)) ∧
      ((s.applySection false e rest bytes).2 = 0 → rest ≠ [] → t.boot.stage = .slot ∧ t.boot.sects = rest ∧
        (∀ a, targetRegs e.target e.inst a = false → t.rd a = s.rd a) ∧
        ∀ a, targetMem e.target a = false → t.mb a = s.mb a)) ∧
  (∀ (s : State) (e : SectEntry) (rest : List SectEntry) (a kind n : Nat) (ws : List Word) (fill : Word)
    (bytes : List Byte), s.wf = true →
    s.boot.stage = .slot → s.boot.sects = e :: rest → rest ≠ [] → a < 2 ^ 32 → n < 65536 →
    ((kind = 1 ∧ ws.length = n) ∨ (kind = 2 ∧ ws = List.replicate n fill)) →
    bytes = leBytes 4 a ++ leBytes 1 kind ++ [0] ++ leBytes 2 n ++
      (if kind = 1 then ws.flatMap (fun w => leBytes 4 w.toNat) else leBytes 4 fill.toNat) →
    bytes.length = e.length → (s.applySection false e rest bytes).2 = 0 →
    ∃ t, exec (.sectionReceived bytes) s = .next t ∧
      (∀ j w, ws[j]? = some w → t.shadow.all (fun x => x.1 != a + 4 * j) = true ∧
        (inMem (a + 4 * j) = true → ∀ m, (s.memAcc (a + 4 * j) = .plain m ∨ s.memAcc (a + 4 * j) = .shadowed m) →
          t.mw (a + 4 * j) = andN w.toNat m) ∧
        (blockOf (a + 4 * j) ∈ [2, 3, 4, 5, 6, 8, 9] → ∀ r, findReg (a + 4 * j) = some r → counterList (a + 4 * j) = [] →
          ∀ k, bit (orN r.rw r.rwl) k = true → bit (t.rd (a + 4 * j)) k = bit w.toNat k))) ∧
  (∀ (s : State) (hdr : SlotHeader), s.wf = true → s.boot.stage = .clear → (s.boot.rest = [] ∨ headerFits hdr = true) →
    ∃ t, exec (.imageClearDone hdr) s = .next t ∧
      (∀ a, t.mb a = if a < 0x80000 ∨ (0x100000 ≤ a ∧ a < 0x200000) then (memReset a).toNat else s.mb a) ∧
      (∀ a r, findReg a = some r → blockOf a ∈ [2, 3, 4, 5, 6, 7, 8] → ∀ k, bit (orN r.rw r.rwl) k = true →
        bit (t.rd a) k = bit (resetWord a).toNat k) ∧
      t.f F.BOOT_PREF_NEXT = 0 ∧ t.on F.BOOT_PREF_ONCE = false ∧ t.shadow = [] ∧
      (s.boot.rest = [] → t.boot.stage = .recovery ∧ t.on F.BOOT_STAT_RECOVERY = true ∧ t.f F.BOOT_STAT_SOURCE = 3 ∧
        t.f F.BOOT_RECSEL_POS = 0) ∧
      (∀ k rest, s.boot.rest = k :: rest → t.boot.cur = k ∧ t.boot.rest = rest ∧ t.f F.BOOT_STAT_PHASE = 4))

/-- Step 7 (R68, R69): a standalone unit becomes ACTIVE and goes on to calibration, and so does a paired one that is no
mismatch of an ACTIVE peer and finds CUR_SEL high; with CUR_SEL low it becomes SHELVED, with a mismatching ACTIVE peer
INELIGIBLE (R446, R467); the Curator goes straight to the frame counter, with the plant's subsystems in reset, but for
what AON keeps (R460). SVC_IRQST.UNIT is set by the first decision (the model's choice, log entry 37), a mismatch that is
known earlier waits for step 7 (log entry 38), and which registers and memories a Curator holds is log entry 123. -/
def Obligations.UnitStateIsDecided : Prop :=
  (∀ (s : State) (sel : Bool), s.wf = true → s.boot.stage = .unit → s.curator = true →
    ∃ t, exec (.unitStateDecided sel) s = .next t ∧ t.boot.stage = .run ∧ t.boot.decided = true ∧ t.boot.counting = true ∧
      t.f F.BOOT_STAT_PHASE = 9 ∧ (∀ a, curatorHeld a = true → a ≠ F.FOL_STAT_BUSY.addr → a ≠ F.FOL_PROT_BP.addr →
        t.rd a = andN (s.rd a) (aonMask a) + andNot (resetWord a).toNat (aonMask a)) ∧
      (∀ a, curatorHeld a = false → a ≠ F.BOOT_STAT_PHASE.addr → t.rd a = s.rd a) ∧
      (∀ a, t.mb a = if a < 0x2B800 ∨ (0x100000 ≤ a ∧ a < 0x200000) then (memReset a).toNat else s.mb a)) ∧
  (∀ (s : State) (sel : Bool), s.wf = true → s.boot.stage = .unit → s.curator = false →
    (s.paired = false ∨ (sel = true ∧ (s.f F.PAIR_MISMATCH_FIELD = 0 ∨ s.f F.PAIR_STAT_PEERSTATE ≠ 0))) →
    ∃ t, exec (.unitStateDecided sel) s = .next t ∧ t.boot.stage = .calib ∧ t.boot.decided = true ∧ t.unitCode = 0 ∧
      t.f F.BOOT_STAT_PHASE = 8 ∧ t.on F.SVC_IRQST_UNIT = true ∧ (s.paired = true → t.on F.PAIR_STAT_SELIN = true)) ∧
  (∀ (s : State), s.wf = true → s.boot.stage = .unit → s.curator = false → s.paired = true →
    (s.f F.PAIR_MISMATCH_FIELD = 0 ∨ s.f F.PAIR_STAT_PEERSTATE ≠ 0) →
    ∃ t, exec (.unitStateDecided false) s = .next t ∧ t.boot.stage = .run ∧ t.boot.counting = true ∧ t.unitCode = 1 ∧
      t.f F.BOOT_STAT_PHASE = 9 ∧ t.on F.SVC_IRQST_UNIT = true ∧ t.on F.PAIR_STAT_SELIN = false) ∧
  (∀ (s : State) (sel : Bool), s.wf = true → s.boot.stage = .unit → s.curator = false → s.paired = true →
    s.f F.PAIR_MISMATCH_FIELD ≠ 0 → s.f F.PAIR_STAT_PEERSTATE = 0 →
    ∃ t, exec (.unitStateDecided sel) s = .next t ∧ t.boot.stage = .run ∧ t.boot.counting = true ∧ t.unitCode = 4 ∧
      t.f F.BOOT_STAT_PHASE = 9 ∧ t.on F.PAIR_STAT_SELIN = sel)

/-! ### Accesses of the masters (R8, R16, R20, R22, R581 to R589) -/

/-- A master that cannot reach the part changes nothing, a write that its state does not admit is reported and changes
nothing else (R586, R589), and a register that a Curator holds in reset takes none (R460). That an unreachable master
leaves no trace (log entry 12) and which registers a Curator holds (log entry 123) are the model's reading, and so is the
block that the entry names (log entry 45).
What the report of a discarded write writes: the address, block and master of the write and the REJECT cause, an
entry in the FIFO with the code 0x01, and counts; memory and every other register stay (R589). -/
def Obligations.MasterWritesAreGated : Prop :=
  (∀ (s : State) (m : Master) (a : BitVec 32) (w : Word), a.toNat % 4 = 0 → 0x40000000 ≤ a.toNat → a.toNat < 0x400F0000 →
    (s.reaches m = false → exec (.registerWrite m a w) s = .next s) ∧
    (s.reaches m = true → s.writeGate a.toNat = false →
      exec (.registerWrite m a w) s = .next (s.reject (masterCode m) a.toNat)) ∧
    (s.reaches m = true → s.writeGate a.toNat = true → s.heldReg a.toNat = true →
      exec (.registerWrite m a w) s = .next s)) ∧
  (∀ (s : State) (who a : Nat), s.wf = true → who < 4 → a < 2 ^ 32 →
    (s.reject who a).rd F.SVC_REJADDR.addr = a ∧
    (s.reject who a).f F.SVC_REJINFO_SUBSYS = subsysOf a ∧
    (s.reject who a).f F.SVC_REJINFO_MASTER = who ∧
    (s.reject who a).on F.SVC_IRQST_REJECT = true ∧
    (s.annFifo.length < 32 → (s.reject who a).annFifo = s.annFifo ++
      [⟨s.frame, s.f F.ALM_RTC, s.on F.ALM_STAT_RTCSET, subsysOf a, 1, who, a, none, false⟩]) ∧
    (32 ≤ s.annFifo.length → (s.reject who a).annFifo = s.annFifo ∧
      (s.reject who a).f F.ANL_LOSTCNT = min (s.f F.ANL_LOSTCNT + 1) (2 ^ 32 - 1)) ∧
    sameRegs s (s.reject who a)
      ([F.SVC_REJADDR.addr, F.SVC_REJINFO_SUBSYS.addr, F.SVC_IRQST_REJECT.addr] ++ countRegs) ∧
    sameMem s (s.reject who a))

/-- A write of a register of CRT, THM or SVC that is neither shadowed nor a clear register: RW bits take the written
value, W1C bits are cleared by a 1, RWL bits keep theirs, and so do all others; nothing else changes (R16). A write that
would change an RWL bit is no such write.
A write that would change an RWL bit, in any block: while the owner runs the RWL bits keep their value and the write is
reported, the RW and W1C bits taking effect; while the owner is stopped the RWL bits take the written value too and
nothing is reported (R587, R602). Which unit owns the fields of a block is R602's table. The second part is for the
registers whose write does nothing else, and a write that would break a structural check is no such write (R588).
At an offset where no register stands a write is ignored and a read gives zero (R581); the same for all blocks whose
registers have no behaviour of their own. -/
def Obligations.PlainRegistersFollowAccessTypes : Prop :=
  (∀ (s : State) (m : Master) (a : BitVec 32) (w : Word) (r : RegRow), s.wf = true → s.admits m a.toNat = true →
    a.toNat % 4 = 0 → a.toNat < 0x400F0000 → blockOf a.toNat ∈ [0, 0xB, 0xE] → counterList a.toNat = [] →
    findReg a.toNat = some r → r.shadowed = false → r.keepsRwl (s.rd a.toNat) w.toNat = true →
    ∃ t, exec (.registerWrite m a w) s = .next t ∧
      (∀ k, k < 32 → bit (t.rd a.toNat) k =
        (if bit r.rw k then bit w.toNat k else if bit r.w1c k && bit w.toNat k then false else bit (s.rd a.toNat) k)) ∧
      sameRegs s t [a.toNat] ∧ sameMem s t) ∧
  (∀ (s : State) (m : Master) (a : BitVec 32) (w : Word) (r : RegRow), s.wf = true → s.admits m a.toNat = true →
    a.toNat % 4 = 0 → a.toNat < 0x400F0000 → findReg a.toNat = some r → r.shadowed = false →
    s.ownerStopped a.toNat = false → r.keepsRwl (s.rd a.toNat) w.toNat = false →
    ∃ t, exec (.registerWrite m a w) s = .next t ∧ t.on F.SVC_IRQST_REJECT = true ∧
      ∀ k, bit r.rwl k = true → bit (t.rd a.toNat) k = bit (s.rd a.toNat) k) ∧
  (∀ (s : State) (m : Master) (a : BitVec 32) (w : Word) (r : RegRow), s.wf = true → s.admits m a.toNat = true →
    a.toNat % 4 = 0 → a.toNat < 0x400F0000 → findReg a.toNat = some r → r.name ∈ ownedNames →
    r.keepsRwl (s.rd a.toNat) w.toNat = false →
    s.wouldBreak (s.wr a.toNat (r.apply (s.rd a.toNat) w.toNat (s.ownerStopped a.toNat))) = false →
    ∃ t, exec (.registerWrite m a w) s = .next t ∧
      (∀ k, k < 32 → bit (t.rd a.toNat) k =
        (if bit r.rw k || (s.ownerStopped a.toNat && bit r.rwl k) then bit w.toNat k
         else if bit r.w1c k && bit w.toNat k then false else bit (s.rd a.toNat) k)) ∧
      (s.ownerStopped a.toNat = true → sameRegs s t [a.toNat]) ∧
      (s.ownerStopped a.toNat = false → t.rd F.SVC_REJADDR.addr = a.toNat ∧ t.on F.SVC_IRQST_REJECT = true ∧
        sameRegs s t ([a.toNat, F.SVC_REJADDR.addr, F.SVC_REJINFO_SUBSYS.addr, F.SVC_IRQST_REJECT.addr] ++ countRegs)) ∧
      sameMem s t) ∧
  (∀ (s : State) (a : Nat),
    (blockOf a ∈ [0, 2, 3, 4, 5] → s.ownerStopped a = s.on F.CE_STAT_STOPPED) ∧
    (blockOf a = 1 → s.ownerStopped a = s.on F.BOOT_STAT_RECOVERY) ∧
    (blockOf a = 6 → s.ownerStopped a = !s.on F.ALM_CTL_RUN) ∧
    (∀ c, c < 2 → 0x40070000 + 0x8000 * c ≤ a → a < 0x40078000 + 0x8000 * c →
      s.ownerStopped a = (s.f (F.CAN_STAT_STATE c) == 0)) ∧
    (blockOf a = 8 → s.ownerStopped a = !(s.on F.ZP_CTL_EN0 || s.on F.ZP_CTL_EN1)) ∧
    (blockOf a = 9 → s.ownerStopped a = [1, 3, 4].contains (s.f F.PAIR_STAT_STATE))) ∧
  (∀ (s : State) (m : Master) (a : BitVec 32) (w : Word), s.admits m a.toNat = true →
    a.toNat % 4 = 0 → a.toNat < 0x400F0000 → blockOf a.toNat ∈ [0, 0xB, 0xE] → findReg a.toNat = none →
    exec (.registerWrite m a w) s = .next s ∧ (lookupAt s.regs a.toNat = none → s.busRead a.toNat = (0, s)))

/-- A write of a shadowed register waits in its shadow, whatever else waits: a read goes on giving the working copy, and the
tick that commits the shadows gives the register the written bits in its RW and RWL fields, and leaves every other bit
(R37, R585). With HOLD set the shadow waits on (R99). -/
def Obligations.ShadowsWaitForTheTick : Prop :=
  ∀ (s : State) (a : Nat) (w : Word) (r : RegRow), s.wf = true → findReg a = some r → r.shadowed = true → inMem a = false →
    ∃ t, s.plainWrite a w.toNat = (t, true) ∧ t.rd a = s.rd a ∧ sameRegs s t [] ∧ sameMem s t ∧
      (s.on F.BOOT_SHADOWCTL_HOLD = true → t.tickShadow.shadow = t.shadow ∧ t.tickShadow.rd a = s.rd a) ∧
      (s.on F.BOOT_SHADOWCTL_HOLD = false → t.tickShadow.shadow = [] ∧
        ∀ k, k < 32 → bit (t.tickShadow.rd a) k = if bit (orN r.rw r.rwl) k then bit w.toNat k else bit (s.rd a) k)

/-- A read of a shadowed register or word returns the working copy, and a value that was written and is not yet committed
cannot be read back (R585): whatever is written, the read gives what it gave, until a tick. -/
def Obligations.ShadowedReadsGiveTheWorkingCopy : Prop :=
  (∀ (s : State) (a : Nat) (w : Word), inMem a = true → (∃ m, s.memAcc a = .shadowed m) →
    (s.busRead a).1 = s.mw a ∧ ((s.busWrite a w.toNat).1.busRead a).1 = s.mw a) ∧
  (∀ (s : State) (a : Nat) (w : Word) (r : RegRow), inMem a = false → findReg a = some r → r.shadowed = true →
    (s.busRead a).1 = s.rd a ∧ ((s.busWrite a w.toNat).1.busRead a).1 = s.rd a)

/-- Outside RECOVERY a write of 1 to any bit of BOOT_CTL is discarded and reported, whatever the master and whatever other
bits are written (R97). -/
def Obligations.BootCtlOutsideRecoveryIsDiscarded : Prop :=
  ∀ (s : State) (m : Master) (w : Word), s.reaches m = true → s.boot.stage ≠ .recovery → bitsOf w.toNat 5 ≠ [] →
    exec (.registerWrite m 0x4001001C w) s = .next (s.reject (masterCode m) 0x4001001C)

/-- Memory is little-endian, a byte per address: a stored word reads back from its bytes, and bytes outside it stay
(R8). -/
def Obligations.MemoryIsLittleEndian : Prop :=
  ∀ (s : State) (a v : Nat), s.wf = true → v < 2 ^ 32 →
    (s.setM a v).mw a = v ∧ (s.setM a v).mb a = v % 256 ∧ (s.setM a v).mb (a + 3) = v / 2 ^ 24 ∧
    ∀ b, (b < a ∨ a + 4 ≤ b) → (s.setM a v).mb b = s.mb b

/-- Counters saturate and do not wrap (R20).
A clear register sets the counters of its set bits to 0, leaves the others, and clears no other register, as the tables
of the CNTCLR registers say; a bit of the CRT's returns the headroom minima to 0xFFFF (CRT_HEADn), and one of the thermal
watch's starts the peak temperature anew (THM_MAX). -/
def Obligations.CountersSaturateAndClear : Prop :=
  (∀ (s : State) (x : Fld) (n : Nat), s.wf = true → x.lo + x.width ≤ 32 →
    (s.add x n).f x = min (s.f x + n) (2 ^ x.width - 1) ∧ sameRegs s (s.add x n) [x.addr] ∧ sameMem s (s.add x n)) ∧
  (∀ (s : State) (m : Master) (a : BitVec 32) (w : Word), s.wf = true → s.admits m a.toNat = true →
    counterList a.toNat ≠ [] →
    ∃ t, exec (.counterClear m a w) s = .next t ∧
      (∀ k c, (counterList a.toNat)[k]? = some c → t.rd c = if bit w.toNat k then 0 else s.rd c) ∧
      (a.toNat = 0x40000054 → ∀ k, k < 4 →
        t.f (F.CRT_HEAD_MIN k) = if bit w.toNat 4 then 0xFFFF else s.f (F.CRT_HEAD_MIN k)) ∧
      (a.toNat = 0x400B0038 → t.f F.THM_MAX_PEAK = if bit w.toNat 2 then 0x8000 else s.f F.THM_MAX_PEAK) ∧
      sameRegs s t (counterList a.toNat
        ++ (if a.toNat = 0x40000054 then (List.range 4).map (fun k => (F.CRT_HEAD_MIN k).addr) else [])
        ++ (if a.toNat = 0x400B0038 then [F.THM_MAX_PEAK.addr] else [])) ∧ sameMem s t)

/-! ### Boot choices and encoders (R93 to R97, R546 to R549) -/

/-- In RECOVERY, with no slot being programmed, each bit of BOOT_CTL acts: the staged image is applied, a slot is booted
alone, or a slot is programmed when the staged image passes every check (R94 to R96). While a slot is programmed each is
turned away (R96).
Programming a slot ends: BUSY clears, and PROGERR shows a slot that did not take the staged image (R96). -/
def Obligations.BootChoicesAct : Prop :=
  (∀ (s : State) (m : Master), s.wf = true → s.admits m 0x4001001C = true → s.boot.stage = .recovery →
    s.boot.prog = none →
    (∃ t, exec (.goRam m) s = .next t ∧ t.boot.alone = true ∧ t.boot.cur = 2 ∧
      ((t.boot.stage = .selfTest ∧ t.f F.BOOT_STAT_SOURCE = 2 ∧ t.on F.BOOT_STAT_RECOVERY = false) ∨
        (t.boot.stage = .clear ∧ t.f F.BOOT_FAILA_CODE ≠ 0)) ∧
      ∀ a, 0x80000 ≤ a → a < 0x100000 → t.mb a = s.mb a) ∧
    (∃ t, exec (.goA m) s = .next t ∧ t.boot.stage = .flash ∧ t.boot.alone = true ∧ t.boot.cur = 0 ∧
      t.f F.BOOT_STAT_PHASE = 3 ∧ t.on F.BOOT_STAT_RECOVERY = false ∧ (∀ a, a < 0x200000 → t.mb a = (memReset a).toNat) ∧
      sameRegs s t [F.BOOT_STAT_PHASE.addr] ∧ ∀ a, 0x200000 ≤ a → t.mb a = s.mb a) ∧
    (∃ t, exec (.goB m) s = .next t ∧ t.boot.stage = .flash ∧ t.boot.alone = true ∧ t.boot.cur = 1 ∧
      t.f F.BOOT_STAT_PHASE = 3 ∧ t.on F.BOOT_STAT_RECOVERY = false ∧ (∀ a, a < 0x200000 → t.mb a = (memReset a).toNat) ∧
      sameRegs s t [F.BOOT_STAT_PHASE.addr] ∧ ∀ a, 0x200000 ≤ a → t.mb a = s.mb a) ∧
    (∃ t, exec (.progA m) s = .next t ∧
      (s.stagedPasses = true → t.boot.prog = some 0 ∧ t.on F.BOOT_STAT_PROGBUSY = true ∧
        t.boot.flashOps = slotOps s.boot.erase4k 0) ∧
      (s.stagedPasses = false → t.boot.prog = none ∧ t.on F.BOOT_STAT_PROGERR = true) ∧
      sameRegs s t [F.BOOT_STAT_PROGBUSY.addr] ∧ sameMem s t) ∧
    (∃ t, exec (.progB m) s = .next t ∧
      (s.stagedPasses = true → t.boot.prog = some 1 ∧ t.on F.BOOT_STAT_PROGBUSY = true ∧
        t.boot.flashOps = slotOps s.boot.erase4k 1) ∧
      (s.stagedPasses = false → t.boot.prog = none ∧ t.on F.BOOT_STAT_PROGERR = true) ∧
      sameRegs s t [F.BOOT_STAT_PROGBUSY.addr] ∧ sameMem s t)) ∧
  (∀ (s : State) (m : Master), s.admits m 0x4001001C = true → s.boot.stage = .recovery → s.boot.prog.isSome = true →
    ∀ c ∈ [Instr.goRam m, .goA m, .goB m, .progA m, .progB m], exec c s = .next (s.reject (masterCode m) 0x4001001C)) ∧
  (∀ (s : State) (out : ProgOutcome), s.wf = true → s.boot.prog.isSome = true →
    ∃ t, exec (.slotProgrammingDone out) s = .next t ∧ t.on F.BOOT_STAT_PROGBUSY = false ∧ t.boot.prog = none ∧
      t.boot.flashOps = [] ∧ t.on F.BOOT_STAT_PROGERR = (s.on F.BOOT_STAT_PROGERR || !(out.erased && out.programmed &&
        out.back.all (fun x => x.2 == Memory.byte s.mem (0x80000 + x.1.toNat)))) ∧
      sameRegs s t [F.BOOT_STAT_PROGBUSY.addr] ∧ sameMem s t)

/-- While the encoders are decoded a full cycle of the pair (A, B) moves COUNT by one, modulo 2^16; a cycle that turns back by
the states it came through leaves no trace; a change of both inputs is counted, and decoding then waits for 11 (R546 to
R548). A press sets SWEV, a release nothing (R549). In RECOVERY encoder 0 moves the selection too, through three
positions, and its press confirms slot A or B (R93, R94): the third position has no effect (the model's reading, log
entry 35), nor has a confirmation while a slot is programmed (log entry 97). Outside those times only the levels follow the
pins, and a detent in progress is dropped (R546). A cycle that goes to and fro on its way counts by its end (log
entry 140). -/
def Obligations.EncodersCountAndSelect : Prop :=
  (∀ (s : State) (k : Fin 2), s.wf = true → s.pnl.encs.length = 2 → s.encLive = true → (s.recovery = false ∨ k = 1) →
    (s.enc k).a = true → (s.enc k).b = true → (s.enc k).steps = some 0 →
    (∃ t, exec (.encoderDetent k [(false, true), (false, false), (true, false), (true, true)]) s = .next t ∧
      t.f (F.PNL_ENC_COUNT k) = (s.f (F.PNL_ENC_COUNT k) + 1) % 2 ^ 16 ∧ t.pnl = s.pnl ∧
      sameRegs s t [(F.PNL_ENC_COUNT k).addr] ∧ sameMem s t) ∧
    (∃ t, exec (.encoderDetent k [(true, false), (false, false), (false, true), (true, true)]) s = .next t ∧
      t.f (F.PNL_ENC_COUNT k) = (s.f (F.PNL_ENC_COUNT k) + 2 ^ 16 - 1) % 2 ^ 16 ∧ t.pnl = s.pnl ∧
      sameRegs s t [(F.PNL_ENC_COUNT k).addr] ∧ sameMem s t)) ∧
  (∀ (s : State) (k : Fin 2) (x : Bool), s.pnl.encs.length = 2 → s.encLive = true →
    (s.enc k).a = true → (s.enc k).b = true → (s.enc k).steps = some 0 →
    exec (.encoderDetent k [(x, !x), (true, true)]) s = .next s ∧
    exec (.encoderDetent k [(x, !x), (false, false), (x, !x), (true, true)]) s = .next s ∧
    exec (.encoderDetent k [(x, !x), (false, false), (!x, x), (false, false), (x, !x), (true, true)]) s = .next s) ∧
  (∀ (s : State) (k : Fin 2) (n : Int), s.wf = true → s.pnl.encs.length = 2 → s.encLive = true →
    (s.enc k).steps = some n →
    ∃ t, exec (.encoderDetent k [(!(s.enc k).a, !(s.enc k).b)]) s = .next t ∧
      t.f F.PNL_ENCERRCNT = min (s.f F.PNL_ENCERRCNT + 1) (2 ^ 32 - 1) ∧
      t.enc k = { s.enc k with a := !(s.enc k).a, b := !(s.enc k).b,
                               steps := if (s.enc k).a || (s.enc k).b then none else some 0 } ∧
      sameRegs s t (F.PNL_ENCERRCNT.addr :: countRegs) ∧ sameMem s t) ∧
  (∀ (s : State) (k : Fin 2) (path : List (Bool × Bool)) (p : Bool × Bool), s.wf = true → s.pnl.encs.length = 2 →
    ((s.encLive = true ∧ (s.enc k).steps = none ∧ (true, true) ∉ path) ∨ s.encLive = false) →
    ∃ t, exec (.encoderDetent k (path ++ [p])) s = .next t ∧
      t.enc k = ⟨p.1, p.2, (s.enc k).sw, if p.1 && p.2 then some 0 else none⟩ ∧ t.boot = s.boot ∧
      sameRegs s t [] ∧ sameMem s t) ∧
  (∀ (s : State) (k : Fin 2), s.wf = true → s.pnl.encs.length = 2 → s.encLive = true → (s.recovery = false ∨ k = 1) →
    (s.enc k).sw = false →
    ∃ t, exec (.encoderSwitchPress k) s = .next t ∧ t.on (F.PNL_ENC_SWEV k) = true ∧ (t.enc k).sw = true ∧
      sameRegs s t [(F.PNL_ENC_SWEV k).addr] ∧ sameMem s t) ∧
  (∀ (s : State) (k : Fin 2) (down : Bool), s.wf = true → s.pnl.encs.length = 2 →
    (s.encLive = false ∨ down = false ∨ (s.enc k).sw = true) →
    ∃ t, exec (.encoderSwitchPress k down) s = .next t ∧ (t.enc k).sw = down ∧ t.boot = s.boot ∧
      sameRegs s t [] ∧ sameMem s t) ∧
  (∀ s : State, s.wf = true → s.pnl.encs.length = 2 → s.recovery = true →
    ((s.enc 0).a = true → (s.enc 0).b = true → (s.enc 0).steps = some 0 →
      (∃ t, exec (.encoderDetent 0 [(false, true), (false, false), (true, false), (true, true)]) s = .next t ∧
        t.f F.BOOT_RECSEL_POS = (s.f F.BOOT_RECSEL_POS + 1) % 3 ∧
        t.f (F.PNL_ENC_COUNT 0) = (s.f (F.PNL_ENC_COUNT 0) + 1) % 2 ^ 16 ∧
        sameRegs s t [(F.PNL_ENC_COUNT 0).addr, F.BOOT_RECSEL_POS.addr] ∧ sameMem s t) ∧
      (∃ t, exec (.encoderDetent 0 [(true, false), (false, false), (false, true), (true, true)]) s = .next t ∧
        t.f F.BOOT_RECSEL_POS = (s.f F.BOOT_RECSEL_POS + 2) % 3 ∧
        t.f (F.PNL_ENC_COUNT 0) = (s.f (F.PNL_ENC_COUNT 0) + 2 ^ 16 - 1) % 2 ^ 16 ∧
        sameRegs s t [(F.PNL_ENC_COUNT 0).addr, F.BOOT_RECSEL_POS.addr] ∧ sameMem s t)) ∧
    ((s.enc 0).sw = false → s.boot.prog = none → s.f F.BOOT_RECSEL_POS < 2 →
      ∃ t, exec (.encoderSwitchPress 0) s = .next t ∧ t.on (F.PNL_ENC_SWEV 0) = true ∧ t.boot.stage = .flash ∧
        t.boot.alone = true ∧ t.boot.cur = s.f F.BOOT_RECSEL_POS ∧ t.on F.BOOT_STAT_RECOVERY = false ∧
        sameRegs s t [(F.PNL_ENC_SWEV 0).addr, F.BOOT_STAT_PHASE.addr] ∧ ∀ a, 0x200000 ≤ a → t.mb a = s.mb a) ∧
    ((s.enc 0).sw = false → (s.boot.prog.isSome = true ∨ 2 ≤ s.f F.BOOT_RECSEL_POS) →
      ∃ t, exec (.encoderSwitchPress 0) s = .next t ∧ t.on (F.PNL_ENC_SWEV 0) = true ∧ t.boot = s.boot ∧
        sameRegs s t [(F.PNL_ENC_SWEV 0).addr] ∧ sameMem s t))

/-! ### Clocks, frame and second (R28, R33, R36, R50, R52, R99, R100, R346, R608) -/

/-- Lock loss is shown in its bits, during the boot too; after the boot it asserts the safe-state bus, and with PLL_M the
frame counter stops where it stands (R28). That a loss before the boot's end changes only those bits is the model's reading
(log entry 16).
PLL_L locked again: LOCK_L shows it, the latency of the LINK tick is the one then fixed, and PLL_L holds the
safe-state bus no more; the AON domain's changeover changes only what the clock state says (R28, R35, R55, R608). -/
def Obligations.LockLossAndRelock : Prop :=
  (∀ s : State, s.wf = true → s.boot.stage = .run →
    (∃ t, exec (.pllLockLoss false) s = .next t ∧ t.on F.CRT_CLKSTAT_LOCK_M = false ∧ t.on F.CRT_CLKSTAT_LOCKLOSS_M = true ∧
      t.boot.counting = false ∧ SafeSource.pllM ∈ t.safe.srcs ∧ t.on F.CRT_CLKSTAT_LOCK_L = s.on F.CRT_CLKSTAT_LOCK_L ∧
      outside [0, 4] s t ∧ sameMem s t) ∧
    (∃ t, exec (.pllLockLoss true) s = .next t ∧ t.on F.CRT_CLKSTAT_LOCK_L = false ∧ t.on F.CRT_CLKSTAT_LOCKLOSS_L = true ∧
      t.boot = s.boot ∧ SafeSource.pllL ∈ t.safe.srcs ∧ t.on F.CRT_CLKSTAT_LOCK_M = s.on F.CRT_CLKSTAT_LOCK_M ∧
      outside [0, 4] s t ∧ sameMem s t)) ∧
  (∀ (s : State) (link : Bool), s.wf = true → s.boot.stage ∉ [.reset, .pll, .run] →
    ∃ t, exec (.pllLockLoss link) s = .next t ∧
      (link = true → t.on F.CRT_CLKSTAT_LOCK_L = false ∧ t.on F.CRT_CLKSTAT_LOCKLOSS_L = true) ∧
      (link = false → t.on F.CRT_CLKSTAT_LOCK_M = false ∧ t.on F.CRT_CLKSTAT_LOCKLOSS_M = true) ∧ t.safe = s.safe ∧
      t.boot = s.boot ∧ sameRegs s t [F.CRT_CLKSTAT_LOCK_L.addr] ∧ sameMem s t) ∧
  (∀ (s : State) (three : Bool), s.wf = true → s.portLive = true → s.on F.CRT_CLKSTAT_LOCK_L = false →
    ∃ t, exec (.pllLRelock three) s = .next t ∧ t.on F.CRT_CLKSTAT_LOCK_L = true ∧ t.clk.link3 = three ∧
      SafeSource.pllL ∉ t.safe.srcs ∧ (∀ x, x ≠ SafeSource.pllL → (x ∈ t.safe.srcs ↔ x ∈ s.safe.srcs)) ∧
      sameRegs s t [F.CRT_CLKSTAT_LOCK_L.addr, F.PWM_STAT_SAFE.addr] ∧ sameMem s t) ∧
  (∀ s : State, exec .aonClockChangeover s = .next { s with clk := { s.clk with aonXtal := true } })

/-- A tick works in the order of R36: the frame number and the PWM domain, the end of the frame, shadows and the Almanac's
writes, the new frame in engine, sequencer and capture, the Catalogue, the buses, the link. The frame number counts from 0
at the first tick (R33). A Curator's tick is one of the frame number, of BOOT's shadows and of the monitor block only (R460). Without a running
frame counter nothing happens. Shadows before staged writes (log entry 14), a snapshot that does not hold what the tick
itself counts (log entry 18) and the parts of a Curator's tick (log entry 123) are the model's choices. -/
def Obligations.TickFollowsItsOrder : Prop :=
  (∀ (s : State) (di : BitVec 16), s.boot.counting = false → exec (.tick di) s = .next s) ∧
  (∀ (s : State) (di : BitVec 16), s.boot.counting = true → s.curator = false →
    ∃ a b c d : State, exec (.tick di) s = .next (((d.canTick).pairTick s.mirrorBytes).ledger 185) ∧
      a = ((s.frameCount.tickPwm).snapTick s.frameCount.tickPwm.frame).tickClose ∧
      b = (a.tickShadow.almCommit).tickClear ∧ c = b.engineTick.seqTick.capTick ∧
      d = (c.almArm.tickCatalogue di.toNat).firstTick) ∧
  (∀ (s : State) (di : BitVec 16), s.wf = true → s.boot.counting = true → s.curator = true →
    (s.shadow = [] ∨ s.on F.BOOT_SHADOWCTL_HOLD = true) →
    ∃ t, exec (.tick di) s = .next t ∧ t.boot.ticked = true ∧
      t.f F.CRT_FRAMENO = (if s.boot.ticked then (s.f F.CRT_FRAMENO + 1) % 2 ^ 32 else s.f F.CRT_FRAMENO) ∧
      outside [0, 1, 0xA, 0xD] s t ∧ sameMem s t) ∧
  (∀ s : State, s.wf = true → s.boot.ticked = true → s.frameCount.frame = (s.frame + 1) % 2 ^ 32) ∧
  (∀ s : State, s.boot.ticked = false → s.frameCount = s ∧ s.firstTick.boot.ticked = true)

/-- A write of BOOT_SHADOWCTL sets or clears HOLD; when that changes it, the count of frames starts anew (R99, R100).
HOLD set for 2048 frames is cleared by the device, which shows it (R100). -/
def Obligations.HoldIsWrittenAndExpires : Prop :=
  (∀ (s : State) (m : Master) (w : Word), s.wf = true → s.admits m F.BOOT_SHADOWCTL_HOLD.addr = true →
    ∃ t, exec (.shadowHoldWrite m w) s = .next t ∧ t.on F.BOOT_SHADOWCTL_HOLD = bit w.toNat 0 ∧
      t.holdFrames = (if s.on F.BOOT_SHADOWCTL_HOLD = bit w.toNat 0 then s.holdFrames else 0) ∧
      t.shadow = s.shadow ∧ sameRegs s t [F.BOOT_SHADOWCTL_HOLD.addr] ∧ sameMem s t) ∧
  (∀ s : State, s.wf = true → s.on F.BOOT_SHADOWCTL_HOLD = true → 2048 ≤ s.holdFrames →
    ∃ t, exec .shadowHoldExpiry s = .next t ∧ t.on F.BOOT_SHADOWCTL_HOLD = false ∧ t.on F.BOOT_SHADOWCTL_HOLDEXP = true ∧
      t.holdFrames = 0 ∧ t.shadow = s.shadow ∧ sameRegs s t [F.BOOT_SHADOWCTL_HOLD.addr] ∧ sameMem s t)

/-- A second edge of the RTC counts one second and makes the Almanac's evaluation due, but for HOT (R346, R522); what it brings
to the other blocks, in the order calibration, buses, Zone Protocol, Folio, Foxing, pair, is the model's choice of order
(log entry 5), and so is what a Curator does at it (log entry 123).
An evaluation starts at the tick after a second edge, in an ACTIVE unit whose Almanac runs, and its end stages its
writes and publishes its cost; neither writes a point or a register besides ALM_STAT (R371, R372). That it reads everything
at its end is the model's reading (log entry 68).
What it decides. Local time is the RTC with TZ and daylight saving, between Sundays of R347. The schedule takes the latest
used point of the day, of two at one minute the later in the list, else UNOCCUPIED with the default set (R351). A zone's
mode is the schedule's, STANDBY without a clock (R348), then an override's, then PROTECT (R355); presence raises and lowers
it (R358), protection enters and leaves by its dwell (R359), setpoints and loop modes follow (R360, R362), the capacity
request is a maximum or an average (R364), staging conditions act after their dwell (R366), rules compare, fire and count
(R367, R368), and an action that cannot be taken is counted (R369). -/
def Obligations.SecondEdgeAndEvaluation : Prop :=
  (∀ s : State, s.curator = false → ∃ u : State, u.alm = { s.alm with due := !s.hot } ∧
    u.regs = (s.setF F.ALM_RTC (s.f F.ALM_RTC + 1)).regs ∧ u.mem = s.mem ∧
    exec .rtcSecondEdge s = .next ((((((u.calSecond).canSecond).zpSecond).liveSecond).foxSecond).pairSecond.ledger 186)) ∧
  (∀ s : State, s.wf = true →
    ∃ t, exec .rtcSecondEdge s = .next t ∧ t.f F.ALM_RTC = (s.f F.ALM_RTC + 1) % 2 ^ 32 ∧
      (s.curator = false → t.alm.due = !s.hot) ∧ (s.curator = true → t.alm = s.alm ∧ outside [6, 9, 0xD] s t) ∧
      outside [2, 6, 7, 8, 9, 0xA, 0xD] s t ∧ sameMem s t) ∧
  (∀ s : State, s.alm.due = true → s.alm.armed = true → s.alm.running = false → s.active = true → s.hot = false →
    s.on F.ALM_CTL_RUN = true →
    ∃ t, exec .almanacEvaluationStart s = .next t ∧ t.alm.running = true ∧ t.alm.due = false ∧ t.alm.armed = false ∧
      sameRegs s t [] ∧ sameMem s t) ∧
  (∀ s : State, s.alm.running = true → s.alm.finished = false →
    ∃ t, exec .almanacEvaluationEnd s = .next t ∧ t.alm.finished = true ∧ t.alm.staged = s.evaluate.1 ∧
      t.alm.next = s.evaluate.2 ∧ sameRegs s t [F.ALM_STAT_COST.addr] ∧ sameMem s t) ∧
  (∀ s : State, s.almCost = 300
      + 36 * ((List.range 64).map (fun z => b2n (bit (s.zw z 0) 0))).sum
      + 24 * ((List.range 6).map (fun k => b2n (bit (s.mw (stageAddr k)) 0))).sum
      + ((List.range 256).map (fun r => b2n (bit (s.mw (ruleAddr r)) 31) *
          (4 + 4 * ([0, 1, 2, 3].map (fun c => b2n (getBits (s.mw (ruleAddr r + 4 + 8 * c)) 12 2 != 0))).sum))).sum) ∧
  (∀ s : State, let std : Int := (s.f F.ALM_RTC / 60 : Nat) + toS 16 (s.f F.ALM_TZ_TZ)
    let w := s.rd F.ALM_DST_EN.addr
    let y := (civil (std / 1440)).1
    let a := sundayOf y (w % 16) (getBits w 4 3) * 1440 + (getBits w 7 5 * 60 : Nat)
    let b := sundayOf y (getBits w 12 4) (getBits w 16 3) * 1440 + (getBits w 19 5 * 60 : Nat)
    let on := s.on F.ALM_DST_EN = true ∧ ((a ≤ b ∧ a ≤ std ∧ std < b) ∨ (b < a ∧ ¬(b ≤ std ∧ std < a)))
    (on → s.localTime = ⟨((std + getBits w 24 7) % 1440).toNat, (std + getBits w 24 7) / 1440, true⟩) ∧
    (¬on → s.localTime = ⟨(std % 1440).toNat, std / 1440, false⟩)) ∧
  (civil 0 = (2000, 1, 1) ∧ weekday 0 = 5 ∧ (∀ n : Int, weekday (n + 1) = (weekday n + 1) % 7) ∧
    ∀ y m wk : Nat, 1601 ≤ y → 1 ≤ m → m ≤ 12 → 1 ≤ wk → wk ≤ 5 → weekday (sundayOf y m wk) = 6 ∧
      (wk < 5 → dayNumber y m 1 + 7 * (wk - 1 : Nat) ≤ sundayOf y m wk ∧ sundayOf y m wk < dayNumber y m 1 + 7 * wk) ∧
      (wk = 5 → dayNumber y m (monthDays y m) - 7 < sundayOf y m wk ∧ sundayOf y m wk ≤ dayNumber y m (monthDays y m))) ∧
  (∀ (s : State) (p dflt m : Nat) (n : Int),
    (∀ l r x, (s.dayPoints p dflt n).1 = l ++ x :: r → x.minute ≤ m → (∀ y, y ∈ l → y.minute ≤ m → y.minute ≤ x.minute) →
      (∀ y, y ∈ r → y.minute ≤ m → y.minute < x.minute) → s.scheduled p dflt n m = (x.mode, x.set)) ∧
    ((∀ y, y ∈ (s.dayPoints p dflt n).1 → m < y.minute) →
      (∀ j : Nat, 1 ≤ j → j ≤ 7 → (s.dayPoints p dflt (n - j)).1 = []) → s.scheduled p dflt n m = (2, dflt)) ∧
    (∀ x, s.exception p n = some x → (s.dayPoints p dflt n).2 = bit x 3 ∧
      (x % 8 = 7 → (s.dayPoints p dflt n).1 = [⟨0, 2, dflt⟩]))) ∧
  (∀ (s : State) (lt : LocalTime) (a : ZoneAcc) (z : Nat), bit (s.zw z 0) 0 = true →
    ∃ v, .word (zoneAddr z + 0x80) v ∈ (s.evalZone lt a z).staged ∧ v % 4 = (s.zoneMode z lt
      (if s.on F.ALM_STAT_RTCSET then s.scheduled (getBits (s.zw z 0) 1 5) (getBits (s.zw z 0) 6 4) lt.day lt.minute
        else (1, getBits (s.zw z 0) 6 4))).mode % 4) ∧
  (∀ (s : State) (lt : LocalTime) (z : Nat) (sched : Nat × Nat), let m := s.zoneMode z lt sched
    (getBits m.zstat 4 4 ≠ 0 → m.mode = 3) ∧
    (getBits m.zstat 4 4 = 0 → bit (s.zw z 0x80) 19 = true →
      m.mode = getBits (s.zw z 0x80) 17 2 ∧ m.set = getBits (s.zw z 0) 6 4) ∧
    (getBits m.zstat 4 4 = 0 → bit (s.zw z 0x80) 19 = false → (s.on F.ALM_STAT_RTCSET = false ∨
        (bit (s.zw z 0) 16 = false ∧ bit (s.zw z 0x80) 2 = false)) →
      m.set = sched.2 ∧
      (bit (s.zw z 0xC) 15 = false → m.mode = sched.1) ∧
      (∀ c, c = min (s.zw z 0x84 % 65536 + 1) 65535 → bit (s.zw z 0xC) 15 = true → s.ptGood (s.zw z 0xC % 4096) = true →
        ((s.ptVal (s.zw z 0xC % 4096) ≠ 0 ∧ 0 < s.zw z 0x10 % 65536) ∨
          (s.ptVal (s.zw z 0xC % 4096) = 0 ∧ c < s.zw z 0x10 % 65536) →
          m.mode = if bit (s.zw z 0) 14 = true ∧ (sched.1 = 1 ∨ sched.1 = 2) then 0 else sched.1) ∧
        (s.ptVal (s.zw z 0xC % 4096) = 0 → s.zw z 0x10 % 65536 ≤ c →
          m.mode = if bit (s.zw z 0) 15 = true ∧ sched.1 = 0 then 1 else sched.1)))) ∧
  (∀ pc n dwell raw clr : Nat, n < 65536 → dwell < 65536 →
    (pc = 0 → raw = 0 → protectStep pc n dwell raw clr = (0, 0)) ∧
    (pc = 0 → raw ≠ 0 → dwell ≤ min (n + 1) 65535 → protectStep pc n dwell raw clr = (raw, 0)) ∧
    (pc = 0 → raw ≠ 0 → min (n + 1) 65535 < dwell → protectStep pc n dwell raw clr = (0, min (n + 1) 65535)) ∧
    (pc ≠ 0 → clr ≠ 15 → protectStep pc n dwell raw clr = (orN pc raw, 0)) ∧
    (pc ≠ 0 → clr = 15 → dwell ≤ min (n + 1) 65535 → protectStep pc n dwell raw clr = (0, 0)) ∧
    (pc ≠ 0 → clr = 15 → min (n + 1) 65535 < dwell → protectStep pc n dwell raw clr = (orN pc raw, min (n + 1) 65535))) ∧
  (∀ (s : State) (z pc : Nat) (t h : Int), let x := s.protectMasks z pc (some t) (some h)
    bit x.1 0 = decide (t < s.zi z 0x1C) ∧ bit x.1 1 = decide (s.zi z 0x20 < t) ∧ bit x.1 2 = decide (h < s.zi z 0x24) ∧
    bit x.1 3 = decide (s.zi z 0x28 < h) ∧
    (x.2 = 15 ↔ s.zi z 0x1C + s.zi z 0x2C ≤ t ∧ t ≤ s.zi z 0x20 - s.zi z 0x2C ∧ s.zi z 0x24 + s.zi z 0x2C ≤ h ∧
      h ≤ s.zi z 0x28 - s.zi z 0x2C) ∧
    ((s.protectMasks z pc none none).1 = pc % 16)) ∧
  (∀ (s : State) (z mode set k : Nat), k < 4 → mode < 4 →
    (mode = 3 → s.zoneSp z mode set k = s.zi z (0x30 + 4 * k)) ∧
    (mode < 3 → (k ≠ 0 ∨ mode = 2 ∨ bit (s.zw z 0xC) 31 = false ∨ s.ptGood (getBits (s.zw z 0xC) 16 12) = false) →
      s.zoneSp z mode set k = s.mi (0x24000 + 0x40 * set + 0x10 * mode + 4 * k)) ∧
    (mode < 2 → bit (s.zw z 0xC) 31 = true → s.ptGood (getBits (s.zw z 0xC) 16 12) = true →
      s.zoneSp z mode set 0 = sat32 (s.mi (0x24000 + 0x40 * set + 0x10 * mode)
        + clampI (-s.zi z 0x50) (s.zi z 0x50) (s.ptVal (getBits (s.zw z 0xC) 16 12))))) ∧
  (∀ (s : State) (z mode k i : Nat) (a : LoopModes), k < 4 → mode < 4 → a.want < 16 → s.zslot z k = some i →
    let t := s.loopWant z mode a k
    let auto := !bit t.bad k && bit (getBits (s.zw z 0x18) (4 * mode) 4) k
    bit t.want k = auto ∧
    (bit (s.zw z 0x80) 16 = true → bit a.want k = auto → t.cmds = a.cmds) ∧
    ((bit (s.zw z 0x80) 16 = false ∨ bit a.want k = !auto) → t.cmds = a.cmds ++
      if auto then [.mode (i + 2 * 2 ^ 12 + 2 ^ 14)]
      else [.word (lsAddr i + 0xC) (s.zw z (0x40 + 4 * k)), .mode (i + 2 ^ 12 + 2 ^ 14 + 2 ^ 15)])) ∧
  (∀ (s : State) (l : List (Nat × Int)),
    ((∀ p, p ∈ l → p.1 = 0) → s.capacity l = 0) ∧
    (bit (s.mw 0x2A800) 0 = true → (∃ p, p ∈ l ∧ p.1 ≠ 0) →
      s.capacity l = rdiv (l.map (fun p => (p.1 : Int) * p.2)).sum (l.map (fun p => (p.1 : Int))).sum) ∧
    (bit (s.mw 0x2A800) 0 = false → (∀ p, p ∈ l → 0 ≤ p.2) → (∀ p, p ∈ l → rdiv (p.1 * p.2) 255 ≤ s.capacity l) ∧
      (s.capacity l = 0 ∨ ∃ p, p ∈ l ∧ s.capacity l = rdiv (p.1 * p.2) 255))) ∧
  (∀ (s : State) (l : List StageEv) (c : Int) (cnt : List Nat) (i : Nat), i < 4 → cnt.length = 4 →
    let na : Int := (l.filter (·.avail)).length
    let n : Int := (l.filter (·.run)).length
    let hold := (i = 0 ∧ n = 0 ∧ s.mi 0x2A804 < c) ∨ (i = 1 ∧ 1 ≤ n ∧ s.mi 0x2A80C < rdiv (c * na) n) ∨
      (i = 2 ∧ 2 ≤ n ∧ rdiv (c * na) (n - 1) < s.mi 0x2A810) ∨ (i = 3 ∧ n = 1 ∧ c < s.mi 0x2A808)
    let k := min (cnt.getD i 0 + 1) 65535
    let dwell := getBits (s.mw 0x2A800) 8 8
    (¬hold → s.stageCond l c cnt i = (0, [])) ∧ (hold → k < dwell → s.stageCond l c cnt i = (k, [])) ∧
    (hold → dwell ≤ k → s.pickStage l i = none → s.stageCond l c cnt i = (k, [])) ∧
    (hold → dwell ≤ k → ∀ e, s.pickStage l i = some e →
      s.stageCond l c cnt i = (0, [.drive e.drive (if i < 2 then 1 else 2)]) ∧ e ∈ l ∧
      (i < 2 → e.avail = true ∧ e.run = false ∧ s.mw (stageAddr e.idx + 0xC) / 65536 ≤ e.tmr) ∧
      (2 ≤ i → e.run = true ∧ s.mw (stageAddr e.idx + 0xC) % 65536 ≤ e.tmr))) ∧
  (∀ (s : State) (r c : Nat), let w := s.mw (ruleAddr r + 4 + 8 * c)
    let v := s.mw (ruleAddr r + 8 + 8 * c)
    let a : Int := if getBits w 12 2 = 1 then s.ptVal (w % 4096) else if getBits w 12 2 = 2 then 65536 * s.statusItem (w % 4096)
      else if s.ptGood (w % 4096) then 65536 else 0
    let b : Int := if bit w 19 then s.ptVal (v % 4096) else toS 32 v
    let op := getBits w 16 3
    (getBits w 12 2 = 0 → s.ruleCmp r c = true) ∧
    (getBits w 12 2 ≠ 0 → (s.ruleCmp r c = true ↔ (op = 0 ∧ a < b) ∨ (op = 1 ∧ a ≤ b) ∨ (op = 2 ∧ a = b) ∨ (op = 3 ∧ a ≠ b) ∨
      (op = 4 ∧ b ≤ a) ∨ (op = 5 ∧ b < a)))) ∧
  (∀ (s : State) (acc : List Staged) (r : Nat), r < 256 → bit (s.mw (ruleAddr r)) 31 = true →
    (s.alm.evals + 1) % 3600 ≠ 0 →
    let st := s.mw (0x2B000 + 8 * r)
    let hdr := s.mw (ruleAddr r)
    let cond := [0, 1, 2, 3].all (s.ruleCmp r)
    let held := if cond then min (st % 65536 + 1) 65535 else 0
    let fire := cond = true ∧ hdr % 65536 ≤ held ∧ (bit st 16 = false ∨ bit hdr 30 = true) ∧
      (getBits hdr 16 8 = 0 ∨ st / 2 ^ 24 < getBits hdr 16 8)
    let out := s.almOut (0x300 + r) (65536 * b2n cond)
    (¬fire → s.evalRule acc r = acc ++ out ++
      [.word (0x2B000 + 8 * r) (held + 65536 * b2n (cond && bit st 16) + st / 2 ^ 24 * 2 ^ 24)]) ∧
    (fire → s.evalRule acc r = acc ++ out ++ s.ruleAction r (acc ++ out) ++ [.fired] ++
      [.word (0x2B000 + 8 * r) ((if bit hdr 30 then 0 else held) + 65536 + min (st / 2 ^ 24 + 1) 255 * 2 ^ 24),
       .word (0x2B000 + 8 * r + 4) (min (s.mw (0x2B000 + 8 * r + 4) + 1) 4294967295)])) ∧
  (∀ (s : State) (acc : List Staged) (r : Nat), let w := s.mw (ruleAddr r + 0x24)
    let v := s.mw (ruleAddr r + 0x28)
    (w % 16 = 0 → s.ruleAction r acc = []) ∧
    (w % 16 = 1 → (s.ptKind (getBits w 16 12) ≠ 0 ∨ (bit w 4 = true ∧ s.ptGood (v % 4096) = false)) →
      s.ruleAction r acc = [.failed]) ∧
    (w % 16 = 1 → s.ptKind (getBits w 16 12) = 0 → (bit w 4 = true → s.ptGood (v % 4096) = true) →
      s.ruleAction r acc = [.point (getBits w 16 12) (if bit w 4 then s.ptVal (v % 4096) else toS 32 v)]) ∧
    (w % 16 = 2 → 63 < getBits w 8 8 → s.ruleAction r acc = [.failed]) ∧
    (w % 16 = 3 → s.ruleAction r acc = [.mode (getBits w 16 12 % 512 + v % 4 * 2 ^ 12 + 2 ^ 14 + 2 ^ 16 * b2n (bit v 2))]) ∧
    (w % 16 = 4 → s.ruleAction r acc =
      [.alarm r (s.mw (ruleAddr r + 0x2C) % 65536) (s.ruleLeft (s.mw (ruleAddr r + 4)))]) ∧
    (w % 16 = 5 → s.ruleAction r acc = if 1 < getBits w 8 8 then [.failed] else [.busRec (getBits w 8 8)]) ∧
    (w % 16 = 6 → s.ruleAction r acc = if s.f F.PAIR_CFG_MODE = 0 then [.failed] else [.swap]))

/-! ### Converters: background calibration (R124 to R138) -/

/-- A background cycle starts when the interval timer is out: S calibrates itself first, and CORE names the next enabled F
core; WARM makes the cycle wait (R127 to R129, R136). A postponed cycle is tried again at frames whose number is a
multiple of 64 (R133).
The end of a core's calibration: a set within the limits of R124 is taken, and the phase moves on; a set outside them is
counted and flagged in REJ, the core keeps the set it has, and one of S ends the cycle. That the set of S before the cycle is kept beside the new one (log
entry 49) and that HOT holds a cycle as WARM does (log entry 96) are the model's choices. -/
def Obligations.CalibrationCycleStartsAndIsJudged : Prop :=
  (∀ (s : State) (k : Nat), s.wf = true → k < 4 → s.nextCore = some k → s.adc.ready = true → s.coreEn 8 = true →
    s.f F.ADC_CALSTAT_PHASE = 0 → s.on F.ADC_CALCTL_PERM = false → s.calHeld = false →
    (s.on F.ADC_CALCTL_BGEN = true → s.adc.timer = 0 → s.adc.postponed = false →
      ∃ t, exec .calibrationCycleDue s = .next t ∧ t.f F.ADC_CALSTAT_PHASE = 1 ∧ t.f F.ADC_CALSTAT_CORE = k ∧
        t.adc.due = false ∧ sameRegs s t [F.ADC_CALSTAT_PHASE.addr] ∧ sameMem s t) ∧
    (s.adc.postponed = true → s.frame % 64 = 0 →
      ∃ t, exec .calibrationRetry s = .next t ∧ t.f F.ADC_CALSTAT_PHASE = 1 ∧ t.f F.ADC_CALSTAT_CORE = k ∧
        t.adc.due = false ∧ sameRegs s t [F.ADC_CALSTAT_PHASE.addr] ∧ sameMem s t)) ∧
  (∀ s : State, s.on F.ADC_CALCTL_BGEN = true → s.adc.timer = 0 → s.f F.ADC_CALSTAT_PHASE = 0 → s.adc.ready = true →
    s.adc.postponed = false → s.calHeld = true →
    ∃ t, exec .calibrationCycleDue s = .next t ∧ t.adc.due = true ∧ sameRegs s t [] ∧ sameMem s t) ∧
  (∀ (s : State) (c : CalSet), s.wf = true → s.adc.wtrim.length = 9 → s.f F.ADC_CALSTAT_PHASE = 1 →
    setAccepted 8 c.ofs.toNat c.gain.toNat = true →
    ∃ t, exec (.coreCalibrationEnd (c.ofs, c.gain) c.weights) s = .next t ∧ t.f F.ADC_CALSTAT_PHASE = 2 ∧
      t.adc.wtrim[8]? = some (some c) ∧ t.adc.prevS = s.adc.wtrim.getD 8 none ∧
      sameRegs s t [F.ADC_CALSTAT_PHASE.addr] ∧ sameMem s t) ∧
  (∀ (s : State) (c : CalSet), s.wf = true → s.f F.ADC_CALSTAT_PHASE = 1 →
    setAccepted 8 c.ofs.toNat c.gain.toNat = false →
    ∃ t, exec (.coreCalibrationEnd (c.ofs, c.gain) c.weights) s = .next t ∧ t.f F.ADC_CALSTAT_PHASE = 0 ∧
      bit (t.f F.ADC_CALSTAT_REJ) 4 = true ∧ t.f F.ADC_REJCNT = min (s.f F.ADC_REJCNT + 1) (2 ^ 32 - 1) ∧
      t.adc.wtrim = s.adc.wtrim ∧ t.adc.timer = s.f F.ADC_CALINT_INT ∧ t.adc.postponed = false ∧
      sameRegs s t (F.ADC_CALSTAT_PHASE.addr :: F.ADC_REJCNT.addr :: countRegs) ∧ sameMem s t) ∧
  (∀ (s : State) (c : CalSet), s.wf = true → s.adc.wtrim.length = 9 → s.f F.ADC_CALSTAT_PHASE = 3 →
    setAccepted (s.f F.ADC_CALSTAT_CORE) c.ofs.toNat c.gain.toNat = true →
    ∃ t, exec (.coreCalibrationEnd (c.ofs, c.gain) c.weights) s = .next t ∧ t.f F.ADC_CALSTAT_PHASE = 4 ∧
      t.f (calAge (s.f F.ADC_CALSTAT_CORE)) = 0 ∧ t.adc.wtrim[s.f F.ADC_CALSTAT_CORE]? = some (some c) ∧
      sameRegs s t [F.ADC_CALSTAT_PHASE.addr, (calAge (s.f F.ADC_CALSTAT_CORE)).addr] ∧ sameMem s t) ∧
  (∀ (s : State) (c : CalSet), s.wf = true → s.f F.ADC_CALSTAT_PHASE = 3 →
    setAccepted (s.f F.ADC_CALSTAT_CORE) c.ofs.toNat c.gain.toNat = false →
    ∃ t, exec (.coreCalibrationEnd (c.ofs, c.gain) c.weights) s = .next t ∧ t.f F.ADC_CALSTAT_PHASE = 4 ∧
      bit (t.f F.ADC_CALSTAT_REJ) (s.f F.ADC_CALSTAT_CORE) = true ∧
      t.f F.ADC_REJCNT = min (s.f F.ADC_REJCNT + 1) (2 ^ 32 - 1) ∧ t.adc.wtrim = s.adc.wtrim ∧
      sameRegs s t (F.ADC_CALSTAT_PHASE.addr :: F.ADC_REJCNT.addr :: F.PAIR_FAILSRC_SRC.addr :: countRegs) ∧ sameMem s t)

/-- Handoff and handback at an eligible point, from which on S, and later the core again, takes the core's regular samples;
the deadline that postpones a cycle, and the late handback (R131, R133 to R135, R138). What makes a point eligible beyond
R131 (log entry 105) and that a handback under PERM leads to the handoff of PCORE (log entry 106) are the model's choices. -/
def Obligations.HandoffAndHandback : Prop :=
  (∀ (s : State) (j : BitVec 16), s.wf = true → s.f F.ADC_CALSTAT_PHASE = 2 →
    s.eligible (s.f F.ADC_CALSTAT_CORE) j.toNat = true →
    ∃ t, exec (.calibrationHandoff j) s = .next t ∧ t.adc.sub = some (s.f F.ADC_CALSTAT_CORE) ∧
      t.f F.ADC_CALSTAT_PHASE = (if s.on F.ADC_CALCTL_PERM then 5 else 3) ∧
      (∀ c, c ∈ t.adc.reg.getD (s.f F.ADC_CALSTAT_CORE) [] → 2 * (j.toNat : Int) ≤ c.edge → c.sub = true) ∧
      t.adc.inj = s.adc.inj ∧ sameRegs s t [F.ADC_CALSTAT_PHASE.addr] ∧ sameMem s t) ∧
  (∀ s : State, s.wf = true → s.f F.ADC_CALSTAT_PHASE = 2 → s.on F.ADC_CALCTL_PERM = false →
    ∃ t, exec .handoffDeadline s = .next t ∧ t.f F.ADC_CALSTAT_PHASE = 0 ∧ t.adc.postponed = true ∧
      t.f F.ADC_POSTCNT = min (s.f F.ADC_POSTCNT + 1) (2 ^ 32 - 1) ∧
      sameRegs s t (F.ADC_CALSTAT_PHASE.addr :: F.ADC_POSTCNT.addr :: countRegs) ∧ sameMem s t) ∧
  (∀ (s : State) (j : BitVec 16), s.wf = true → s.f F.ADC_CALSTAT_PHASE = 4 →
    s.eligible (s.f F.ADC_CALSTAT_CORE) j.toNat = true →
    ∃ t, exec (.calibrationHandback j) s = .next t ∧ t.adc.sub = none ∧ t.adc.lastF = s.f F.ADC_CALSTAT_CORE ∧
      t.f F.ADC_CALSTAT_PHASE = (if s.on F.ADC_CALCTL_PERM then 2 else 0) ∧
      (s.on F.ADC_CALCTL_PERM = true → t.f F.ADC_CALSTAT_CORE = s.f F.ADC_CALCTL_PCORE) ∧
      t.adc.timer = s.f F.ADC_CALINT_INT ∧ t.adc.postponed = false ∧
      (∀ c, c ∈ t.adc.reg.getD (s.f F.ADC_CALSTAT_CORE) [] → 2 * (j.toNat : Int) ≤ c.edge → c.sub = false) ∧
      t.adc.inj = s.adc.inj ∧ sameRegs s t [F.ADC_CALSTAT_PHASE.addr] ∧ sameMem s t) ∧
  (∀ s : State, s.wf = true → s.f F.ADC_CALSTAT_PHASE = 4 →
    ∃ t, exec .lateHandback s = .next t ∧ t.on F.ADC_CALSTAT_LATEBACK = true ∧ t.f F.ADC_CALSTAT_PHASE = 4 ∧
      sameRegs s t (F.ADC_CALSTAT_LATEBACK.addr :: countRegs) ∧ sameMem s t)

/-- FORCE starts a cycle at once, and is turned away while one runs, in WARM and HOT, and with BGEN clear (R137); under a permanent
substitution its cycle waits (the model's choice, log entry 111). PERM set sends S to PCORE, where a core that is out comes
back first; PERM cleared gives the core back after a calibration from its factory trim, where it is still enabled (R138; that a cycle before its
handoff is given up, and what happens without S, are the model's choices, log entry 106). -/
def Obligations.CalibrationCommandsAct : Prop :=
  (∀ (s : State) (m : Master) (w : Word) (k : Nat), s.wf = true → s.admits m F.ADC_CALCTL_PERM.addr = true → k < 4 →
    s.nextCore = some k → s.adc.ready = true → s.coreEn 8 = true → s.f F.ADC_CALSTAT_PHASE = 0 → s.sheds = false →
    s.on F.ADC_CALCTL_BGEN = true → s.on F.ADC_CALCTL_PERM = false → bit w.toNat 3 = false →
    ∃ t, exec (.calibrationForce m w) s = .next t ∧ t.f F.ADC_CALSTAT_PHASE = 1 ∧ t.f F.ADC_CALSTAT_CORE = k ∧
      t.on F.ADC_CALCTL_BGEN = bit w.toNat 0 ∧
      sameRegs s t [F.ADC_CALCTL_PERM.addr, F.ADC_CALSTAT_PHASE.addr] ∧ sameMem s t) ∧
  (∀ (s : State) (m : Master) (w : Word), s.wf = true → s.admits m F.ADC_CALCTL_PERM.addr = true →
    s.f F.ADC_CALSTAT_PHASE = 5 → s.sheds = false → s.on F.ADC_CALCTL_BGEN = true → s.on F.ADC_CALCTL_PERM = true →
    bit w.toNat 3 = true → getBits w.toNat 4 2 = s.f F.ADC_CALCTL_PCORE →
    ∃ t, exec (.calibrationForce m w) s = .next t ∧ t.adc.due = true ∧ t.f F.ADC_CALSTAT_PHASE = 5 ∧
      sameRegs s t [F.ADC_CALCTL_PERM.addr] ∧ sameMem s t) ∧
  (∀ (s : State) (m : Master) (w : Word), s.admits m F.ADC_CALCTL_PERM.addr = true →
    ((s.f F.ADC_CALSTAT_PHASE ≠ 0 ∧ s.f F.ADC_CALSTAT_PHASE ≠ 5) ∨ s.sheds = true ∨ s.on F.ADC_CALCTL_BGEN = false) →
    exec (.calibrationForce m w) s = .next (s.reject (masterCode m) F.ADC_CALCTL_PERM.addr)) ∧
  (∀ (s : State) (m : Master) (w : Word), s.wf = true → s.admits m F.ADC_CALCTL_PERM.addr = true →
    s.on F.ADC_CALCTL_PERM = false → bit w.toNat 2 = false →
    ∃ t, exec (.permanentSubstitutionSet m w) s = .next t ∧ t.on F.ADC_CALCTL_PERM = true ∧
      t.f F.ADC_CALCTL_PCORE = getBits w.toNat 4 2 ∧
      ((s.f F.ADC_CALSTAT_PHASE = 3 ∨ s.f F.ADC_CALSTAT_PHASE = 4) → t.f F.ADC_CALSTAT_PHASE =
        if s.f F.ADC_CALSTAT_CORE = getBits w.toNat 4 2 then 5 else s.f F.ADC_CALSTAT_PHASE) ∧
      (s.f F.ADC_CALSTAT_PHASE ≠ 3 → s.f F.ADC_CALSTAT_PHASE ≠ 4 → s.adc.ready = true → s.coreEn 8 = true →
        t.f F.ADC_CALSTAT_PHASE = 2 ∧ t.f F.ADC_CALSTAT_CORE = getBits w.toNat 4 2) ∧
      sameRegs s t [F.ADC_CALCTL_PERM.addr, F.ADC_CALSTAT_PHASE.addr] ∧ sameMem s t) ∧
  (∀ (s : State) (m : Master) (w : Word), s.wf = true → s.admits m F.ADC_CALCTL_PERM.addr = true →
    s.on F.ADC_CALCTL_PERM = true → bit w.toNat 2 = false → getBits w.toNat 4 2 = s.f F.ADC_CALCTL_PCORE →
    ∃ t, exec (.permanentSubstitutionClear m w) s = .next t ∧ t.on F.ADC_CALCTL_PERM = false ∧
      (s.f F.ADC_CALSTAT_PHASE = 5 → s.coreEn (s.f F.ADC_CALSTAT_CORE) = false → t.f F.ADC_CALSTAT_PHASE = 0) ∧
      (s.f F.ADC_CALSTAT_PHASE = 5 → s.coreEn (s.f F.ADC_CALSTAT_CORE) = true → t.f F.ADC_CALSTAT_PHASE = 3 ∧ t.f (calAge (s.f F.ADC_CALSTAT_CORE)) = 0xFFFF ∧
        t.adc.wtrim.getD (s.f F.ADC_CALSTAT_CORE) none = none ∧ t.adc.unperm = true) ∧
      (s.f F.ADC_CALSTAT_PHASE = 2 → t.f F.ADC_CALSTAT_PHASE = 0) ∧
      (s.f F.ADC_CALSTAT_PHASE ≠ 5 → s.f F.ADC_CALSTAT_PHASE ≠ 2 → t.f F.ADC_CALSTAT_PHASE = s.f F.ADC_CALSTAT_PHASE) ∧
      sameRegs s t [F.ADC_CALCTL_PERM.addr, F.ADC_CALSTAT_PHASE.addr, F.ADC_CALAGE0_AGE_F0.addr,
        F.ADC_CALAGE1_AGE_F2.addr] ∧ sameMem s t)

/-! ### The sequencer and the results (R113, R139 to R168) -/

/-- A regular trigger becomes due in each mode: CONTINUOUS at once, PERIODIC at frames that DIV divides, ON REQUEST by
SEQ_REGSTART; REGRUN shows it. One that becomes due during a pass is an overrun, in CONTINUOUS mode only the one of the
first tick after EN is set (R146 to R148).
A pass that is due starts at its edge: each core that takes part converts the inputs of its scan mask in ascending order,
odd inputs of differential pairs left out; its end clears REGRUN (R106, R144, R145, R147). -/
def Obligations.RegularPassIsTriggeredAndRuns : Prop :=
  (∀ s : State, s.wf = true → s.regularReady = true → s.on F.SEQ_STAT_REGRUN = false →
    (s.f F.SEQ_REGCFG_MODE = 1 → ∃ t, exec .regularTriggerDue s = .next t ∧ t.on F.SEQ_STAT_REGRUN = true ∧
      t.adc.regDue = true ∧ t.adc.regEdge = none ∧ sameRegs s t [F.SEQ_STAT_REGRUN.addr] ∧ sameMem s t) ∧
    (s.f F.SEQ_REGCFG_MODE = 2 → s.frame % max (s.f F.SEQ_REGCFG_DIV) 1 = 0 →
      ∃ t, exec .regularTriggerDue s = .next t ∧ t.on F.SEQ_STAT_REGRUN = true ∧ t.adc.regDue = true ∧
        t.adc.regEdge = some (firstEdge (s.f F.SEQ_REGCFG_OFFSET) : Int) ∧
        sameRegs s t [F.SEQ_STAT_REGRUN.addr] ∧ sameMem s t) ∧
    (∀ (m : Master) (w : Word), s.f F.SEQ_REGCFG_MODE = 3 → s.admits m F.SEQ_REGSTART_GO.addr = true →
      bit w.toNat 0 = true → ∃ t, exec (.regularStartGo m w) s = .next t ∧ t.on F.SEQ_STAT_REGRUN = true ∧
        t.adc.regDue = true ∧ t.adc.regEdge = none ∧ sameRegs s t [F.SEQ_STAT_REGRUN.addr] ∧ sameMem s t)) ∧
  (∀ s : State, s.wf = true → s.regularReady = true → s.on F.SEQ_STAT_REGRUN = true →
    (s.f F.SEQ_REGCFG_MODE = 1 → s.adc.enDue = false → exec .regularTriggerDue s = .next s) ∧
    (s.f F.SEQ_REGCFG_MODE = 1 → s.adc.enDue = true →
      ∃ t, exec .regularTriggerDue s = .next t ∧ t.on F.SEQ_OVRFLAG_ROVR = true ∧ t.adc.enDue = false ∧
        t.f F.SEQ_ROVRCNT = min (s.f F.SEQ_ROVRCNT + 1) (2 ^ 32 - 1) ∧
        sameRegs s t (F.SEQ_OVRFLAG_ROVR.addr :: F.SEQ_ROVRCNT.addr :: countRegs) ∧ sameMem s t) ∧
    (s.f F.SEQ_REGCFG_MODE = 2 → s.frame % max (s.f F.SEQ_REGCFG_DIV) 1 = 0 →
      ∃ t, exec .regularTriggerDue s = .next t ∧ t.on F.SEQ_OVRFLAG_ROVR = true ∧
        t.f F.SEQ_ROVRCNT = min (s.f F.SEQ_ROVRCNT + 1) (2 ^ 32 - 1) ∧
        sameRegs s t (F.SEQ_OVRFLAG_ROVR.addr :: F.SEQ_ROVRCNT.addr :: countRegs) ∧ sameMem s t) ∧
    (∀ (m : Master) (w : Word), s.f F.SEQ_REGCFG_MODE = 3 → s.admits m F.SEQ_REGSTART_GO.addr = true →
      bit w.toNat 0 = true → ∃ t, exec (.regularStartGo m w) s = .next t ∧ t.on F.SEQ_OVRFLAG_ROVR = true ∧
        t.f F.SEQ_ROVRCNT = min (s.f F.SEQ_ROVRCNT + 1) (2 ^ 32 - 1) ∧
        sameRegs s t (F.SEQ_OVRFLAG_ROVR.addr :: F.SEQ_ROVRCNT.addr :: countRegs) ∧ sameMem s t)) ∧
  (∀ (s : State) (j : BitVec 16), s.wf = true → s.adc.regDue = true → s.adc.reg = List.replicate 8 [] →
    (s.adc.regEdge = none ∨ s.adc.regEdge = some (j.toNat : Int)) →
    ∃ t, exec (.regularPassStart j) s = .next t ∧ t.adc.passOn = true ∧ t.adc.regDue = false ∧ t.adc.regEdge = none ∧
      (∀ k, k < 8 → (t.adc.reg.getD k []).map (·.input) = if s.interleaved k then []
        else ((bitsOf (s.scanMask k) 24).map (scanIndex k)).filter (fun i => !s.oddDiff i)) ∧
      t.on F.SEQ_STAT_REGRUN = s.on F.SEQ_STAT_REGRUN ∧ sameRegs s t [F.SEQ_STAT_ISACT.addr] ∧ sameMem s t) ∧
  (∀ s : State, s.wf = true → s.adc.passOn = true →
    ∃ t, exec .regularPassEnd s = .next t ∧ t.adc.passOn = false ∧ t.on F.SEQ_STAT_REGRUN = false ∧
      sameRegs s t [F.SEQ_STAT_REGRUN.addr] ∧ sameMem s t)

/-- The trigger of an injected sequence whose event has come falls due and makes the sequence due at the edge that follows,
shown in ISACT, or is counted as an overrun while the sequence is pending or runs (R150, R152, R155). A software trigger
falls due at once when DELAY is 0, and DELAY clocks later otherwise (R150).
A due sequence starts at the first edge at which its cores are free; a start after its own edge is late and counted
(R151, R154). -/
def Obligations.InjectedSequencesAreTriggeredAndStart : Prop :=
  (∀ (s : State) (n : Fin 8) (c : BitVec 16) (r : List (Option Int)), s.wf = true → s.adc.seqs.length = 8 →
    s.trigIgnored n = false → takeReq (s.iseq n).req c.toNat = some r →
    (((s.iseq n).st = 0 ∨ ((s.iseq n).st = 2 ∧ 25 * (s.iseq n).lastEdge < 4 * (c.toNat : Int))) →
      ∃ t, exec (.injectedTriggerDue n c) s = .next t ∧ (t.iseq n).st = 1 ∧ (t.iseq n).edge = firstEdge c.toNat ∧
        (t.iseq n).req = r ∧ bit (t.f F.SEQ_STAT_ISACT) n = true ∧ t.on F.SEQ_STAT_REGRUN = s.on F.SEQ_STAT_REGRUN ∧
        sameRegs s t [F.SEQ_STAT_ISACT.addr] ∧ sameMem s t) ∧
    (((s.iseq n).st = 1 ∨ ((s.iseq n).st = 2 ∧ 4 * (c.toNat : Int) ≤ 25 * (s.iseq n).lastEdge)) →
      ∃ t, exec (.injectedTriggerDue n c) s = .next t ∧ (t.iseq n).st = (s.iseq n).st ∧ (t.iseq n).edge = (s.iseq n).edge ∧
        (t.iseq n).req = r ∧ bit (t.f F.SEQ_OVRFLAG_IOVR) n = true ∧
        t.f F.SEQ_IOVRCNT = min (s.f F.SEQ_IOVRCNT + 1) (2 ^ 32 - 1) ∧
        sameRegs s t (F.SEQ_STAT_ISACT.addr :: F.SEQ_OVRFLAG_IOVR.addr :: F.SEQ_IOVRCNT.addr :: countRegs) ∧ sameMem s t)) ∧
  (∀ (s : State) (n : Fin 8) (c : BitVec 16), takeReq (s.iseq n).req c.toNat = none →
    exec (.injectedTriggerDue n c) s = .next s) ∧
  (∀ (s : State) (m : Master) (n : Fin 8) (c : BitVec 16), s.wf = true → s.adc.seqs.length = 8 →
    s.admits m F.SEQ_ISTRIG_GO.addr = true → s.f (F.SEQ_IS_CFG_SRC n) = 1 →
    (s.f (F.SEQ_IS_CFG_DELAY n) = 0 → s.trigIgnored n = false → (s.iseq n).st = 0 →
      ∃ t, exec (.injectedSoftwareTrigger m (BitVec.ofNat 32 (2 ^ n.val)) c) s = .next t ∧ (t.iseq n).st = 1 ∧
        (t.iseq n).edge = firstEdge c.toNat ∧ bit (t.f F.SEQ_STAT_ISACT) n = true ∧
        t.on F.SEQ_STAT_REGRUN = s.on F.SEQ_STAT_REGRUN ∧ sameRegs s t [F.SEQ_STAT_ISACT.addr] ∧ sameMem s t) ∧
    (s.f (F.SEQ_IS_CFG_DELAY n) ≠ 0 →
      ∃ t, exec (.injectedSoftwareTrigger m (BitVec.ofNat 32 (2 ^ n.val)) c) s = .next t ∧
        (t.iseq n).req = (s.iseq n).req ++ [some ((c.toNat + s.f (F.SEQ_IS_CFG_DELAY n) : Nat) : Int)] ∧
        (∀ k, k < 8 → k ≠ n.val → t.iseq k = s.iseq k) ∧ sameRegs s t [] ∧ sameMem s t)) ∧
  (∀ (s : State) (m : Master) (w : Word) (c : BitVec 16), s.admits m F.SEQ_ISTRIG_GO.addr = true →
    (∀ n, n < 8 → bit w.toNat n = true → s.f (F.SEQ_IS_CFG_SRC n) ≠ 1) →
    exec (.injectedSoftwareTrigger m w c) s = .next s) ∧
  (∀ (s : State) (n : Fin 8) (j : BitVec 16), s.wf = true → s.adc.seqs.length = 8 → (s.iseq n).st = 1 →
    (s.iseq n).edge ≤ (j.toNat : Int) → s.coresFree n j.toNat = true →
    ∃ t, exec (.injectedSequenceStart n j) s = .next t ∧ (t.iseq n).st = (if s.seqSpan n = 0 then 0 else 2) ∧
      (t.iseq n).occ = (s.iseq n).occ + 1 ∧ (t.iseq n).lastEdge = 2 * (j.toNat : Int) + s.seqSpan n ∧
      bit (t.f F.SEQ_STAT_ISACT) n = (decide (s.seqSpan n ≠ 0) && bit (s.f F.SEQ_STAT_ISACT) n) ∧
      ((s.iseq n).edge = (j.toNat : Int) → sameRegs s t [F.SEQ_STAT_ISACT.addr]) ∧
      ((s.iseq n).edge < (j.toNat : Int) → bit (t.f F.SEQ_OVRFLAG_LATE) n = true ∧
        t.f F.SEQ_LATECNT = min (s.f F.SEQ_LATECNT + 1) (2 ^ 32 - 1) ∧
        sameRegs s t (F.SEQ_STAT_ISACT.addr :: F.SEQ_OVRFLAG_LATE.addr :: F.SEQ_LATECNT.addr :: countRegs)) ∧ sameMem s t)

/-- The conversion of a core that was sampled first comes out of its queue, and the latest-value entry of its input gets the
code, single-ended or differential, as Q16.16, or what the shaper makes of it (R104, R107, R113, R139, R159, R163). A clipped
one is counted. An injected result is written to its latch entry too (R164). -/
def Obligations.ResultsAreFiled : Prop :=
  (∀ (s : State) (core : Fin 8) (c : ConvOutcome) (cv : Conv) (inj reg : List Conv), s.wf = true → s.adc.inj.length = 8 →
    s.adc.reg.length = 8 → takeConv (s.adc.inj.getD core.val []) (s.adc.reg.getD core.val []) = some (cv, inj, reg) →
    cv.input < 64 → cv.entry < 32 →
    ∃ t, exec (.conversionResult core c) s = .next t ∧ t.adc.inj = s.adc.inj.set core.val inj ∧
      t.adc.reg = s.adc.reg.set core.val reg ∧
      (s.isDiff cv.input = false → s.on (F.SEQ_SH_CFG_EN cv.input) = false → t.latest cv.input =
        65536 * (if c.vp < 0 then 0 else if 1600000000000 < c.vp then 16383 else clampI 0 16383 (c.vp / 97656250 + c.err))) ∧
      (s.isDiff cv.input = true → s.on (F.SEQ_SH_CFG_EN cv.input) = false → 0 ≤ c.vp → c.vp ≤ 1600000000000 → 0 ≤ c.vn →
        c.vn ≤ 1600000000000 →
        t.latest cv.input = 65536 * clampI (-8192) 8191 ((c.vp - c.vn) / 195312500 + c.err)) ∧
      (s.isDiff cv.input = false → s.on (F.SEQ_SH_CFG_EN cv.input) = true → 0 ≤ c.vp → c.vp ≤ 1600000000000 →
        t.latest cv.input = (resultShape true (s.fi (F.SEQ_SH_GAIN cv.input)) (s.fi (F.SEQ_SH_OFS cv.input))
          (s.f (F.SEQ_SH_CFG_GSH cv.input)) (clampI 0 16383 (c.vp / 97656250 + c.err))).1) ∧
      (s.isDiff cv.input = false → (c.vp < 0 ∨ 1600000000000 < c.vp) →
        t.f F.ADC_CLIPCNT = min (s.f F.ADC_CLIPCNT + 1) (2 ^ 32 - 1)) ∧
      (cv.seq < 8 → t.latchVal cv.seq (cv.frame % 2) cv.entry = t.latest cv.input ∧
        t.mw (latchAddr cv.seq (cv.frame % 2) cv.entry) = t.mw (latestAddr cv.input)) ∧
      outside [2, 3] s t ∧ ∀ b, b < 0x1C0000 → t.mb b = s.mb b) ∧
  (∀ (s : State) (core : Fin 8) (c : ConvOutcome) (cv : Conv) (inj reg : List Conv), s.wf = true →
    takeConv (s.adc.inj.getD core.val []) (s.adc.reg.getD core.val []) = some (cv, inj, reg) → cv.seq = 8 →
    (∀ r, r < 16 → s.on (F.SEQ_RING_CFG_EN r) = false) →
    ∃ t, exec (.conversionResult core c) s = .next t ∧
      ∀ b, (b < latestAddr cv.input ∨ latestAddr cv.input + 8 ≤ b) → t.mb b = s.mb b) ∧
  (∀ (s : State) (core : Fin 8) (c : ConvOutcome), s.adc.inj.getD core.val [] = [] → s.adc.reg.getD core.val [] = [] →
    exec (.conversionResult core c) s = .next s)

/-! ### PWM (R174 to R203, R297, R629) -/

/-- Writes of masters to a drive group: a compare buffer takes its 16 bits, and not while the rotator supplies the widths
(R179, R197); OFF forces the group's pins off, its carries become 0 (R182, R196); COAST.EN starts and ends coasting, ANGLE
is writable only while EN is 0 (R197, R199); RATE and PHASE of groups and channels are written, where the access types and
the checks take the write, and are taken over at the next tick only (R629). A trip input that is active keeps its flags
set (R189). That ANGLE reads the written value until a valley uses it (log entry 113) and which trip inputs have fallen
unseen (log entry 128) are the model's choices. -/
def Obligations.DriveGroupWritesAct : Prop :=
  (∀ (s : State) (m : Master) (g : Fin 6) (x : Fin 3) (w : Word), s.wf = true →
    s.admits m (groupAddr g + 0x10 + 4 * x.val) = true →
    ∃ t, exec (.compareWrite m g x w) s = .next t ∧
      t.f (F.PWM_G_CMP_WIDTH g x) = (if (s.grp g).coasting then s.f (F.PWM_G_CMP_WIDTH g x) else w.toNat % 65536) ∧
      t.pwm = s.pwm ∧ pwmFrame s t [(F.PWM_G_CMP_WIDTH g x).addr]) ∧
  (∀ (s : State) (m : Master) (g : Fin 6) (w : Word), s.wf = true → s.pwm.groups.length = 6 →
    s.admits m (groupAddr g + 0x0C) = true →
    ∃ t, exec (.groupOffWrite m g w) s = .next t ∧ t.on (F.PWM_G_CTL_OFF g) = bit w.toNat 0 ∧
      (bit w.toNat 0 = true → t.on (F.PWM_G_STAT_FORCED g) = true ∧ (t.grp g).live = false ∧
        (∀ x, x < 3 → t.carry g x = 0) ∧
        (∀ p, p ∈ (t.grp g).ph → p.hi = false ∧ p.lo = false)) ∧
      (bit w.toNat 0 = false → t.pwm = s.pwm) ∧
      pwmFrame s t [(F.PWM_G_CTL_OFF g).addr, (F.PWM_G_STAT_FORCED g).addr, (F.PWM_G_ACT_CARRY g 0).addr,
        (F.PWM_G_ACT_CARRY g 1).addr, (F.PWM_G_ACT_CARRY g 2).addr]) ∧
  (∀ (s : State) (m : Master) (g : Fin 6), s.wf = true → s.pwm.groups.length = 6 → s.admits m (groupAddr g + 0x2C) = true →
    (∃ t, exec (.coastEnable m g) s = .next t ∧ t.on (F.PWM_G_COAST_EN g) = true ∧ t.pwm = s.pwm ∧
      pwmFrame s t [(F.PWM_G_COAST_EN g).addr]) ∧
    (∃ t, exec (.coastDisable m g) s = .next t ∧ t.on (F.PWM_G_COAST_EN g) = false ∧
      t.on (F.PWM_G_STAT_COASTING g) = false ∧ (t.grp g).coasting = false ∧
      pwmFrame s t [(F.PWM_G_COAST_EN g).addr, (F.PWM_G_STAT_COASTING g).addr])) ∧
  (∀ (s : State) (m : Master) (g : Fin 6) (w : Word), s.wf = true → s.pwm.groups.length = 6 →
    s.admits m (groupAddr g + 0x34) = true →
    (s.on (F.PWM_G_COAST_EN g) = true → exec (.coastAngleWrite m g w) s =
      .next ((s.tripNow.tripLevels (s.tripNow.f F.PWM_STAT_TRIPIN)).reject (masterCode m) (groupAddr g + 0x34))) ∧
    (s.on (F.PWM_G_COAST_EN g) = false →
      ∃ t, exec (.coastAngleWrite m g w) s = .next t ∧ t.rd (F.PWM_G_ANGLE g).addr = w.toNat ∧
        (t.grp g).nextAngle = w.toNat ∧ pwmFrame s t [(F.PWM_G_ANGLE g).addr])) ∧
  (∀ (s : State) (m : Master) (g : Fin 6) (w : Word), s.wf = true → s.pwm.groups.length = 6 →
    s.admits m (groupAddr g) = true → (s.plainWrite (groupAddr g) w.toNat).2 = true →
    ∃ t, exec (.carrierRatePhaseChange m ⟨g.val, by omega⟩ w) s = .next t ∧
      t.f (F.PWM_G_CFG_RATE g) = getBits w.toNat (F.PWM_G_CFG_RATE g).lo (F.PWM_G_CFG_RATE g).width ∧
      t.f (F.PWM_G_CFG_PHASE g) = getBits w.toNat (F.PWM_G_CFG_PHASE g).lo (F.PWM_G_CFG_PHASE g).width ∧
      (t.grp g).rate = (s.grp g).rate ∧ (t.grp g).phase = (s.grp g).phase ∧
      (t.on (F.PWM_G_CFG_EN g) = true → s.on F.PWM_CTL_EN = true → t.pwm = s.pwm) ∧
      pwmFrame s t [groupAddr g, (F.PWM_G_STAT_FORCED g).addr, (F.PWM_G_ACT_CARRY g 0).addr,
        (F.PWM_G_ACT_CARRY g 1).addr, (F.PWM_G_ACT_CARRY g 2).addr]) ∧
  (∀ (s : State) (m : Master) (c : Fin 32) (w : Word), s.wf = true → s.pwm.gps.length = 32 →
    s.admits m (F.PWM_GP_CFG_RATE c).addr = true → (s.plainWrite (F.PWM_GP_CFG_RATE c).addr w.toNat).2 = true →
    ∃ t, exec (.carrierRatePhaseChange m ⟨c.val + 6, by omega⟩ w) s = .next t ∧
      t.f (F.PWM_GP_CFG_RATE c) = getBits w.toNat (F.PWM_GP_CFG_RATE c).lo (F.PWM_GP_CFG_RATE c).width ∧
      t.f (F.PWM_GP_CFG_PHASE c) = getBits w.toNat (F.PWM_GP_CFG_PHASE c).lo (F.PWM_GP_CFG_PHASE c).width ∧
      (t.gpc c).rate = (s.gpc c).rate ∧ (t.gpc c).phase = (s.gpc c).phase ∧
      (t.gpEnabled c = true → s.safe.held = false → (s.gpc c).safe = false → t.pwm = s.pwm) ∧
      pwmFrame s t [(F.PWM_GP_CFG_RATE c).addr]) ∧
  (∀ (s : State) (g : Fin 6), s.wf = true → s.pwm.groups.length = 6 →
    ((s.regroup g).grp g).rate = s.f (F.PWM_G_CFG_RATE g) ∧ ((s.regroup g).grp g).phase = s.f (F.PWM_G_CFG_PHASE g))

/-- A carrier valley samples the trips, follows what holds the group, shows it in FORCED and loads the widths, with every
carry at 0 while the group makes no drop test; the valley of one group leaves every other group's widths (R178, R191 to
R194). A cut ends at the first valley whose sample finds no input of its map active, the valley of the clock in which it
began left out, and is carried over otherwise (R187, R188, R190). A width too short or too long for dead time and minimum
pulse drops the pulse of its switch, and the carry of the dropped width is added at the next valley (R181, R182). While COAST.EN is set the rotator supplies them at the angle that INC moves on (R197 to R199). A peak with LOAD
loads the buffers, limited to the period (R178). Valleys and peaks raise the triggers of the injected sequences that name
them (R150). The peak's widths of a pattern are copied (R297). A general channel's period starts with its DUTY, with its
safe value, or not at all (R193, R195, R200). What ACT shows of a group or channel that is idle or not enabled is the
model's reading (log entry 54), and so is the order within a valley where R191 is silent (log entry 52). -/
def Obligations.CarrierEventsLoad : Prop :=
  (∀ (s : State) (g : Fin 6) (trips : BitVec 8), s.wf = true → s.pwm.groups.length = 6 → s.adc.seqs.length = 8 →
    (s.grp g).ph.length = 3 → s.pwmOn = true →
    ∃ t, exec (.carrierValley g trips) s = .next t ∧ t.on (F.PWM_G_STAT_FORCED g) = s.groupHeld g ∧
      (t.grp g).live = !s.groupHeld g ∧ (t.grp g).clk0 = false ∧ t.f F.PWM_STAT_TRIPIN = trips.toNat ∧
      t.f F.PWM_TRIPFLAG_FLAG = orN (s.f F.PWM_TRIPFLAG_FLAG) trips.toNat ∧
      (s.groupQuiet g = true → ∀ x, x < 3 → t.carry g x = 0) ∧
      (s.on (F.PWM_G_COAST_EN g) = false → (s.groupQuiet g = true ∨ s.on (F.PWM_G_CFG_CARRY g) = false) →
        ∀ x, x < 3 → t.f (F.PWM_G_ACT_WIDTH g x) = min (s.f (F.PWM_G_CMP_WIDTH g x)) (s.np g) % 65536) ∧
      (s.on (F.PWM_G_STAT_CUT g) = true →
        let trip := andN (s.f (F.PWM_G_TRIPMAP_MAP g)) trips.toNat
        ((s.grp g).fresh = true → t.on (F.PWM_G_STAT_CUT g) = true ∧ t.rd (F.PWM_G_TCARCNT g).addr = s.rd (F.PWM_G_TCARCNT g).addr) ∧
        ((s.grp g).fresh = false → trip = 0 → t.on (F.PWM_G_STAT_CUT g) = false ∧
          t.rd (F.PWM_G_TCARCNT g).addr = s.rd (F.PWM_G_TCARCNT g).addr ∧
          t.on (F.PWM_G_STAT_TCARRIED g) = s.on (F.PWM_G_STAT_TCARRIED g)) ∧
        ((s.grp g).fresh = false → trip ≠ 0 → t.on (F.PWM_G_STAT_CUT g) = true ∧ t.on (F.PWM_G_STAT_TCARRIED g) = true ∧
          t.f (F.PWM_G_TCARCNT g) = min (s.f (F.PWM_G_TCARCNT g) + 1) (2 ^ 32 - 1))) ∧
      (s.on (F.PWM_G_STAT_CUT g) = false → t.on (F.PWM_G_STAT_CUT g) = false) ∧ (t.grp g).fresh = false ∧
      (t.on (F.PWM_G_STAT_CUT g) = true → ∀ x, x < 3 → t.carry g x = 0) ∧
      (s.groupQuiet g = false → t.on (F.PWM_G_STAT_CUT g) = false → s.on (F.PWM_G_COAST_EN g) = false →
        ∀ x, x < 3 → ∀ p, (s.grp g).ph[x]? = some p → ∀ weff, weff = (clampI 0 (s.np g)
            ((min (s.f (F.PWM_G_CMP_WIDTH g x)) (s.np g) : Nat) +
              (if s.on (F.PWM_G_CFG_CARRY g) then s.carry g x else 0))).toNat →
          ∀ th, th = s.f (F.PWM_G_DEADTIME_DT g) + s.f (F.PWM_G_DEADTIME_MINP g) → 2 * th ≤ s.np g →
          ∃ q, (t.grp g).ph[x]? = some q ∧ t.f (F.PWM_G_ACT_WIDTH g x) = weff % 65536 ∧
            q.r = (s.np g / 2 : Nat) - ((weff + 1) / 2 : Nat) ∧ q.f = (s.np g / 2 : Nat) + (weff / 2 : Nat) ∧
            q.dropH = decide (0 < weff ∧ weff < th) ∧ q.dropL = decide (s.np g < weff + th ∧ weff < s.np g) ∧
            (q.dropH = true → bit (t.f (F.PWM_G_STAT_DROPH g)) x = true) ∧
            (q.dropL = true → bit (t.f (F.PWM_G_STAT_DROPL g)) x = true) ∧
            t.f (F.PWM_G_ACT_CARRY g x) = ofI 12 (if s.on (F.PWM_G_CFG_CARRY g) = false then 0
              else if q.dropH then weff else if q.dropL then (weff : Int) - s.np g else 0)) ∧
      (s.groupQuiet g = false → t.on (F.PWM_G_STAT_CUT g) = false →
        t.f (F.PWM_G_DROPCNT g) = min (s.f (F.PWM_G_DROPCNT g)
          + ((t.grp g).ph.map (fun q => b2n (q.dropH || q.dropL))).sum) (2 ^ 32 - 1)) ∧
      (s.on (F.PWM_G_COAST_EN g) = true → t.on (F.PWM_G_STAT_COASTING g) = true ∧ (t.grp g).coasting = true ∧
        t.f (F.PWM_G_ANGLE g) = (s.grp g).nextAngle % 2 ^ 32 ∧
        (t.grp g).nextAngle = ((s.grp g).nextAngle + s.f (F.PWM_G_INC g)) % 2 ^ 32 ∧
        ∀ x, x < 3 → t.f (F.PWM_G_CMP_WIDTH g x) =
          (rotatorWidths (s.grp g).nextAngle (s.fi (F.PWM_G_VDQ_VD g)) (s.fi (F.PWM_G_VDQ_VQ g)) (s.np g)).1.getD x 0 % 65536) ∧
      (∀ n, n < 8 → (t.iseq n).req = if s.carrierSrc g 2 n = true then (s.iseq n).req ++
        [some ((s.carrierClock g 0 (s.grp g).valleys + s.f (F.SEQ_IS_CFG_DELAY n) : Nat) : Int)] else (s.iseq n).req) ∧
      (∀ (h : Fin 6) (x : Nat), x < 3 → h ≠ g → t.rd (F.PWM_G_CMP_WIDTH h x).addr = s.rd (F.PWM_G_CMP_WIDTH h x).addr ∧
        t.rd (F.PWM_G_ACT_WIDTH h x).addr = s.rd (F.PWM_G_ACT_WIDTH h x).addr) ∧ outsidePwm s t) ∧
  (∀ (s : State) (g : Fin 6), s.wf = true → s.adc.seqs.length = 8 → s.pwmOn = true →
    ∃ t, exec (.carrierPeak g) s = .next t ∧
      (s.on (F.PWM_G_CFG_LOAD g) = true →
        ∀ x, x < 3 → t.f (F.PWM_G_ACT_WIDTH g x) = min (s.f (F.PWM_G_CMP_WIDTH g x)) (s.np g) % 65536) ∧
      (s.on (F.PWM_G_CFG_LOAD g) = false → sameRegs s t []) ∧
      (∀ n, n < 8 → (t.iseq n).req = if s.carrierSrc g 3 n = true then (s.iseq n).req ++
        [some ((s.carrierClock g (s.np g / 2) (s.grp g).peaks + s.f (F.SEQ_IS_CFG_DELAY n) : Nat) : Int)]
        else (s.iseq n).req) ∧
      sameRegs s t [(F.PWM_G_ACT_WIDTH g 0).addr, (F.PWM_G_ACT_WIDTH g 1).addr, (F.PWM_G_ACT_WIDTH g 2).addr] ∧ sameMem s t) ∧
  (∀ (s : State) (d : Fin 6) (ws : List Nat), s.wf = true → s.ce.drives.length = 6 → (s.drv d).peakWait = some ws →
    ∃ t, exec (.peakWidthCopy d) s = .next t ∧ (t.drv d).peakWait = none ∧
      (∀ x, x < 3 → t.f (F.PWM_G_CMP_WIDTH d x) =
        if (s.grp d).coasting then s.f (F.PWM_G_CMP_WIDTH d x) else ws.getD x 0 % 65536) ∧
      sameRegs s t [(F.PWM_G_CMP_WIDTH d 0).addr, (F.PWM_G_CMP_WIDTH d 1).addr, (F.PWM_G_CMP_WIDTH d 2).addr] ∧ sameMem s t) ∧
  (∀ (s : State) (c : Fin 32), s.wf = true → s.pwm.gps.length = 32 → s.pwmOn = true →
    ∃ t, exec (.gpPeriodStart c) s = .next t ∧ t.f (F.PWM_GP_ACT_DUTY c) = s.f (F.PWM_GP_DUTY_DUTY c) ∧
      (t.gpc c).pin = (s.gpEnabled c &&
        (if s.safe.held then s.gpSafeLevel c 0 else decide (0 < s.f (F.PWM_GP_DUTY_DUTY c)))) ∧
      (t.gpc c).live = (s.gpEnabled c && !s.safe.held) ∧ (t.gpc c).safe = (s.gpEnabled c && s.safe.held) ∧
      sameRegs s t [(F.PWM_GP_ACT_DUTY c).addr] ∧ sameMem s t)

/-- A registered trip sets its flag and cuts every drive group that maps it and is not cut yet: CUT is set, the cut is
counted, carries become 0, every switch is commanded off (R183 to R190); FOL_LIVE counts the cut (R500). While the frame
counter stands there is nothing to cut, and only the flags are set (the model's choice, log entry 141).
The first source to assert the safe-state bus forces every drive group off, with its carries at 0, gives every enabled
general channel its safe value, and shows it; a further source is added, and one that stands already changes nothing. A
release is shown in SAFE, and the pins keep their safe values until a tick without any source (R55, R192, R193, R195). A
Curator has no outputs to force, and holds SAFE (the model's reading of R460, log entry 123). -/
def Obligations.TripsAndSafeStateForceOutputs : Prop :=
  (∀ (s : State) (n : Fin 8) (c : BitVec 16), s.wf = true → s.pwm.groups.length = 6 → s.adc.seqs.length = 8 →
    s.portLive = true → s.halted = false → s.pwmOn = true →
    ∃ t, exec (.tripRegistered n c) s = .next t ∧ bit (t.f F.PWM_TRIPFLAG_FLAG) n = true ∧
      bit (t.f F.PWM_STAT_TRIPIN) n = true ∧
      (∀ g, g < 6 → bit (s.f (F.PWM_G_TRIPMAP_MAP g)) n = true → t.on (F.PWM_G_STAT_TRIP g) = true ∧
        t.on (F.PWM_G_STAT_CUT g) = true) ∧
      (∀ g, g < 6 → bit (s.f (F.PWM_G_TRIPMAP_MAP g)) n = true → s.on (F.PWM_G_STAT_CUT g) = false →
        t.f (F.PWM_G_TRIPCNT g) = min (s.f (F.PWM_G_TRIPCNT g) + 1) (2 ^ 32 - 1) ∧
        t.f (F.FOL_LIVE (22 + g)) = min (s.f (F.FOL_LIVE (22 + g)) + 1) (2 ^ 32 - 1) ∧ (∀ x, x < 3 → t.carry g x = 0) ∧
        (∀ p, p ∈ (t.grp g).ph → p.hi = false ∧ p.lo = false)) ∧
      (∀ g, g < 6 → (bit (s.f (F.PWM_G_TRIPMAP_MAP g)) n = false ∨ s.on (F.PWM_G_STAT_CUT g) = true) →
        t.on (F.PWM_G_STAT_CUT g) = s.on (F.PWM_G_STAT_CUT g) ∧ t.rd (F.PWM_G_TRIPCNT g).addr = s.rd (F.PWM_G_TRIPCNT g).addr) ∧
      (∀ k, k < 8 → (t.iseq k).req =
        if s.f (F.SEQ_IS_CFG_SRC k) = 5 ∧ s.f (F.SEQ_IS_CFG_GRP k) = n.val then (s.iseq k).req ++
          [some ((c.toNat + s.f (F.SEQ_IS_CFG_DELAY k) : Nat) : Int)] else (s.iseq k).req) ∧
      (∀ a, (a < 0x40040000 ∨ 0x40050000 ≤ a) → a ∉ countRegs →
        (∀ g, g < 6 → a ≠ (F.FOL_LIVE (22 + g)).addr) → t.rd a = s.rd a) ∧ sameMem s t) ∧
  (∀ (s : State) (n : Fin 8) (c : BitVec 16), s.wf = true → s.portLive = true → s.halted = false → s.plantHeld = false →
    s.boot.counting = false →
    ∃ t, exec (.tripRegistered n c) s = .next t ∧ t.f F.PWM_STAT_TRIPIN = orN (s.f F.PWM_STAT_TRIPIN) (2 ^ n.val) ∧
      t.f F.PWM_TRIPFLAG_FLAG = orN (s.f F.PWM_TRIPFLAG_FLAG) (t.f F.PWM_STAT_TRIPIN) ∧ t.pwm = s.pwm ∧ t.adc = s.adc ∧
      (∀ g, g < 6 → t.on (F.PWM_G_STAT_CUT g) = s.on (F.PWM_G_STAT_CUT g)) ∧
      sameRegs s t (F.PWM_STAT_TRIPIN.addr :: F.PWM_TRIPFLAG_FLAG.addr ::
        (List.range 6).map (fun g => (F.PWM_G_STAT_TRIP g).addr) ++ countRegs) ∧ sameMem s t) ∧
  (∀ (s : State) (src : SafeSource), s.wf = true → s.pwm.groups.length = 6 → s.pwm.gps.length = 32 →
    s.boot.stage ≠ .reset → s.safe.srcs = [] → s.plantHeld = false →
    ∃ t, exec (.safeStateAssert src) s = .next t ∧ t.safe.held = true ∧ t.safe.srcs = [src] ∧ t.on F.PWM_STAT_SAFE = true ∧
      (∀ g, g < 6 → t.on (F.PWM_G_STAT_FORCED g) = true ∧ (t.grp g).live = false ∧ (∀ x, x < 3 → t.carry g x = 0) ∧
        (∀ p, p ∈ (t.grp g).ph → p.hi = false ∧ p.lo = false)) ∧
      (∀ c, c < 32 → s.gpEnabled c = true → (t.gpc c).safe = true ∧
        (s.f (F.PWM_GP_CFG_SAFE c) = 0 → (t.gpc c).pin = false) ∧ (s.f (F.PWM_GP_CFG_SAFE c) = 1 → (t.gpc c).pin = true) ∧
        (2 ≤ s.f (F.PWM_GP_CFG_SAFE c) → s.f (F.PWM_GP_DUTY_SAFEDUTY c) = 0 → (t.gpc c).pin = false) ∧
        (2 ≤ s.f (F.PWM_GP_CFG_SAFE c) → s.period (s.gpc c).rate ≤ s.f (F.PWM_GP_DUTY_SAFEDUTY c) →
          0 < s.f (F.PWM_GP_DUTY_SAFEDUTY c) → (t.gpc c).pin = true)) ∧ outsidePwm s t) ∧
  (∀ (s : State) (src : SafeSource), s.wf = true → s.boot.stage ≠ .reset → s.safe.srcs ≠ [] → src ∉ s.safe.srcs →
    s.plantHeld = false →
    ∃ t, exec (.safeStateAssert src) s = .next t ∧ t.safe.held = true ∧ t.safe.srcs = src :: s.safe.srcs ∧
      t.on F.PWM_STAT_SAFE = true ∧ t.pwm = s.pwm ∧ sameRegs s t [F.PWM_STAT_SAFE.addr] ∧ sameMem s t) ∧
  (∀ (s : State) (src : SafeSource), s.wf = true → s.boot.stage ≠ .reset → src ∉ s.safe.srcs → s.plantHeld = true →
    ∃ t, exec (.safeStateAssert src) s = .next t ∧ t.safe.held = true ∧ t.safe.srcs = src :: s.safe.srcs ∧
      t.pwm = s.pwm ∧ sameRegs s t countRegs ∧ sameMem s t) ∧
  (∀ (s : State) (src : SafeSource), src ∈ s.safe.srcs → exec (.safeStateAssert src) s = .next s) ∧
  (∀ (s : State) (src : SafeSource), s.wf = true → s.sourceStands src = false → s.plantHeld = false →
    ∃ t, exec (.safeStateRelease src) s = .next t ∧ (∀ x, x ∈ t.safe.srcs ↔ x ∈ s.safe.srcs ∧ x ≠ src) ∧
      t.on F.PWM_STAT_SAFE = !t.safe.srcs.isEmpty ∧ t.safe.held = s.safe.held ∧ t.pwm = s.pwm ∧
      sameRegs s t [F.PWM_STAT_SAFE.addr] ∧ sameMem s t) ∧
  (∀ s : State, s.safe.srcs = [] → s.pwmTick.safe.held = false) ∧
  (∀ s : State, s.safe.srcs ≠ [] → s.pwmTick.safe.held = s.safe.held)

/-- The two switches of a phase are never on together: every command keeps that of every group, and reset leaves all of
them off (R175). A switch edge turns a switch on no sooner than the dead
time after the other went off and only when the pads read back as commanded; a pad that does not shows PADFLT (R175,
R177). A cut group and one that is not live follow no edge (R186, R196). A general channel's pin follows its compare, or
its safe value (R193, R200). That an edge is a command, which tells what the pads read back, is the model's choice (log
entry 55). -/
def Obligations.DeadTimeIsKept : Prop :=
  State.reset.neverBoth = true ∧
  (∀ (c : Instr) (s t : State), s.neverBoth = true → exec c s = .next t → t.neverBoth = true) ∧
  (∀ s t : State, s.neverBoth = true → step s = .next t → t.neverBoth = true) ∧
  (∀ (s : State) (g : Fin 6) (x : Fin 3) (clk : BitVec 16) (ok : Bool) (p : Phase), s.wf = true → s.pwm.groups.length = 6 →
    s.pwmOn = true → (s.grp g).live = true → s.on (F.PWM_G_STAT_CUT g) = false → (s.grp g).ph[x.val]? = some p →
    ¬(p.hi = true ∧ p.lo = true) →
    ∃ (t : State) (q : Phase), exec (.switchEdge (.phase g x) clk ok) s = .next t ∧ (t.grp g).ph[x.val]? = some q ∧
      ¬(q.hi = true ∧ q.lo = true) ∧
      (q.hi = true → p.hi = false →
        ok = true ∧ (s.f (F.PWM_G_DEADTIME_DT g) : Int) ≤ (clk.toNat : Int) - q.loOff) ∧
      (q.lo = true → p.lo = false →
        ok = true ∧ (s.f (F.PWM_G_DEADTIME_DT g) : Int) ≤ (clk.toNat : Int) - q.hiOff) ∧
      ((p.edge clk.toNat (s.f (F.PWM_G_DEADTIME_DT g)) (s.f (F.PWM_G_DEADTIME_MINP g)) ok).2.2 = true →
        ok = false ∧ t.on (F.PWM_G_STAT_PADFLT g) = true) ∧ sameMem s t ∧ outside [4, 9] s t) ∧
  (∀ (s : State) (g : Fin 6) (x : Fin 3) (clk : BitVec 16) (ok : Bool), s.pwmOn = true →
    ((s.grp g).live = false ∨ s.on (F.PWM_G_STAT_CUT g) = true) → exec (.switchEdge (.phase g x) clk ok) s = .next s) ∧
  (∀ (s : State) (c : Fin 32) (clk : BitVec 16) (ok : Bool), s.pwm.gps.length = 32 → s.pwmOn = true →
    ∃ t, exec (.switchEdge (.gp c) clk ok) s = .next t ∧
      (s.gpEnabled c = false → (t.gpc c).pin = false) ∧
      (s.gpEnabled c = true → (s.gpc c).safe = true → (t.gpc c).pin = s.gpSafeLevel c clk.toNat) ∧
      (s.gpEnabled c = true → (s.gpc c).safe = false → (s.gpc c).live = true →
        (t.gpc c).pin = decide (clk.toNat < s.f (F.PWM_GP_ACT_DUTY c))) ∧
      (s.gpEnabled c = true → (s.gpc c).safe = false → (s.gpc c).live = false → (t.gpc c).pin = (s.gpc c).pin) ∧
      sameRegs s t [] ∧ sameMem s t)

/-! ### Control engine (R38 to R49, R211 to R336) -/

/-- RUN is written at once and takes effect at ticks only (R235); a mode command for an enabled slot becomes the slot's
pending command and replaces an earlier one, which REPLACED shows; one for a slot that is not enabled, one that asks for
nothing, and TRACK for a loop that cannot track are turned away (R252, R253).
Drive commands (R304): START is held for the drive's next FRONT in a STOPPED drive without a fault cause or NTC
condition, in an ACTIVE unit whose engine runs and whose group is enabled, of a drive with RIPEN outside WARM only; STOP is
always held; FAULTCLR is held in SAFESTOP when no level test fails. Where those conditions do not hold, START and FAULTCLR
are turned away. -/
def Obligations.EngineAndDriveCommandsAct : Prop :=
  (∀ (s : State) (m : Master), s.wf = true → s.admits m F.CE_CTL_RUN.addr = true →
    (∃ t, exec (.engineRun m) s = .next t ∧ t.on F.CE_CTL_RUN = true ∧ t.ce = s.ce ∧
      sameRegs s t [F.CE_CTL_RUN.addr] ∧ sameMem s t) ∧
    (∃ t, exec (.engineStop m) s = .next t ∧ t.on F.CE_CTL_RUN = false ∧ t.ce = s.ce ∧
      sameRegs s t [F.CE_CTL_RUN.addr] ∧ sameMem s t)) ∧
  (∀ (s : State) (m : Master) (w : Word) (i : Nat), s.wf = true → canonical (fun _ => 2 ^ 32) s.ce.cmds = true →
    s.admits m F.CE_MODECMD_SLOT.addr = true → i = w.toNat % 512 → s.loopEn i = true →
    (bit w.toNat 14 = true ∨ bit w.toNat 16 = true) →
    ((bit w.toNat 14 = true → getBits w.toNat 12 2 = 3 → s.loopHyst i = false ∧ s.ld i 0x30 / 2 ^ 28 ≠ 0) →
      ∃ t, exec (.modeCommand m w) s = .next t ∧ lookupAt t.ce.cmds i = some (andN w.toNat 0x1F1FF) ∧
        (∀ k, k < 512 → k ≠ i → lookupAt t.ce.cmds k = lookupAt s.ce.cmds k) ∧
        t.on F.CE_CMDSTAT_REPLACED = ((lookupAt s.ce.cmds i).isSome || s.on F.CE_CMDSTAT_REPLACED) ∧
        sameRegs s t [F.CE_CMDSTAT_REPLACED.addr] ∧ sameMem s t) ∧
    (bit w.toNat 14 = true → getBits w.toNat 12 2 = 3 → (s.loopHyst i = true ∨ s.ld i 0x30 / 2 ^ 28 = 0) →
      exec (.modeCommand m w) s = .next (s.reject (masterCode m) F.CE_MODECMD_SLOT.addr))) ∧
  (∀ (s : State) (m : Master) (w : Word), s.admits m F.CE_MODECMD_SLOT.addr = true →
    (s.loopEn (w.toNat % 512) = false ∨ (bit w.toNat 14 = false ∧ bit w.toNat 16 = false)) →
    exec (.modeCommand m w) s = .next (s.reject (masterCode m) F.CE_MODECMD_SLOT.addr)) ∧
  (∀ (s : State) (m : Master) (d : Fin 6) (back : Bool), s.ce.drives.length = 6 → s.admits m (driveCmdAddr d) = true →
    (s.driveState d = 0 → s.f (F.CE_DR_FAULT_CAUSE d) = 0 → (s.drv d).ntc = false → s.ceStopped = false →
      s.active = true → s.on (F.PWM_G_CFG_EN d) = true → (s.ripen d = false ∨ s.warm = false) →
      ∃ t, exec (.driveStart m d back) s = .next t ∧ (t.drv d).cmd = some (1 + 8 * b2n back) ∧
        (∀ k, k < 6 → k ≠ d.val → t.drv k = s.drv k) ∧ sameRegs s t [] ∧ sameMem s t) ∧
    ((s.driveState d ≠ 0 ∨ s.f (F.CE_DR_FAULT_CAUSE d) ≠ 0 ∨ (s.drv d).ntc = true ∨ s.ceStopped = true ∨
        s.active = false ∨ s.on (F.PWM_G_CFG_EN d) = false ∨ (s.ripen d = true ∧ s.warm = true)) →
      exec (.driveStart m d back) s = .next (s.reject (masterCode m) (driveCmdAddr d)))) ∧
  (∀ (s : State) (m : Master) (d : Fin 6), s.ce.drives.length = 6 → s.admits m (driveCmdAddr d) = true →
    ∃ t, exec (.driveStop m d) s = .next t ∧ (t.drv d).cmd = some 2 ∧
      (∀ k, k < 6 → k ≠ d.val → t.drv k = s.drv k) ∧ sameRegs s t [] ∧ sameMem s t) ∧
  (∀ (s : State) (m : Master) (d : Fin 6), s.ce.drives.length = 6 → s.admits m (driveCmdAddr d) = true →
    (s.driveState d = 6 → (s.drv d).level = false →
      ∃ t, exec (.driveFaultclr m d) s = .next t ∧ (t.drv d).cmd = some 4 ∧
        (∀ k, k < 6 → k ≠ d.val → t.drv k = s.drv k) ∧ sameRegs s t [] ∧ sameMem s t) ∧
    ((s.driveState d ≠ 6 ∨ (s.drv d).level = true) →
      exec (.driveFaultclr m d) s = .next (s.reject (masterCode m) (driveCmdAddr d))))

/-- C0_RELEASE: once the latch of drive `d` has reported, its C0 items are released four cycles after the completing write,
never before cycle 64 (R41); the chain that is then the lane's next C0 item starts at once (R288, R224).
ITEM_START: a free lane starts, in the order of R224, the C0 item that comes next, a chain through its FRONT (R287, R288),
then the chain's loops; then class by class the next due item that fits the class window (R40, R43), while each that does
not fit is counted as skipped (R43). A lane that is busy, or in a frame in which the engine is stopped, starts nothing.
ITEM_COMPLETE: a run that ends within the frame has its effect and frees its lane at its last cycle (R39); one that would
end later has none.
DRIVE_BACK: when the chain's loops are done, BACK computes the drive's compare values (R303) and ends the chain 96 cycles
later (R288); a chain that would end after the frame ends nothing.
The end of a frame in an ACTIVE unit: a chain that has not completed sets its drive's OVR bit and raises its consecutive
count, which stops at 3 and returns to 0 where the chain has completed (R45, R46); the frame that brings it to 3 takes a
drive that runs into safe stop, its group off (R46, R310); a C0 item of no chain that has not completed sets OVR_OTHER and
nothing else (R47). Every lane is given up, and nothing that had not completed is written (R39).
What an item reads of a Catalogue entry before its visit (log entry 22), the place of a chain among the C0 items (log entry
56), and what FRONT and BACK read at their start and end (log entry 60) are the model's choices. -/
def Obligations.LanesRunItems : Prop :=
  (∀ (s u : State) (d : Fin 6) (w l : Nat), s.wf = true → s.ce.drives.length = 6 → s.ce.lanes.length = 4 → s.ceLive = true →
    s.adc.latchDone.getD d false = true → (s.drv d).rel = none →
    u = s.setDrv d (fun x => { x with rel := some (max 64 (w + 4)) }) → l = s.chainLane d →
    ((s.chained d = false ∨ (s.lane l).cls ≠ 0 ∨ (s.lane l).run.isSome = true ∨ (s.lane l).chain.isSome = true ∨
        (∀ p, u.c0Pick l = some p → p.1 < 512)) →
      ∃ t, exec (.c0Release d w) s = .next t ∧ (t.drv d).rel = some (max 64 (w + 4)) ∧
        (∀ k, k < 6 → k ≠ d.val → t.drv k = s.drv k) ∧ t.ce.lanes = s.ce.lanes ∧ sameRegs s t [] ∧ sameMem s t) ∧
    (∀ (e : Fin 6) (r : Nat), s.chained d = true → (s.lane l).cls = 0 → (s.lane l).run = none → (s.lane l).chain = none →
      u.c0Pick l = some (512 + e.val, r) →
      ∃ t, exec (.c0Release d w) s = .next t ∧ (t.drv d).rel = some (max 64 (w + 4)) ∧
        chainBegun u t l e (max (s.lane l).cyc r))) ∧
  (∀ (s : State) (d : Fin 6) (w : Nat),
    (s.ceLive = false ∨ s.adc.latchDone.getD d false = false ∨ (s.drv d).rel.isSome = true) →
    exec (.c0Release d w) s = .next s) ∧
  (∀ (s : State) (l : Fin 4) (i : Nat) (rest : List Nat), s.wf = true → s.ce.lanes.length = 4 → s.ceLive = true →
    (s.lane l).run = none → (s.lane l).chain = none → 1 ≤ (s.lane l).cls → (s.lane l).cls ≤ 3 → (s.lane l).todo = i :: rest →
    ((s.lane l).cyc + s.loopCost i ≤ s.window (s.lane l).cls →
      ∃ t, exec (.itemStart l) s = .next t ∧ runBegun s t l i (s.lane l).cls (s.lane l).cyc ∧ (t.lane l).todo = rest ∧
        sameRegs s t [F.CE_STAT_BUSY.addr]) ∧
    (∀ (j : Nat) (more : List Nat), s.window (s.lane l).cls < (s.lane l).cyc + s.loopCost i → rest = j :: more →
      (s.lane l).cyc + s.loopCost j ≤ s.window (s.lane l).cls →
      ∃ t, exec (.itemStart l) s = .next t ∧ runBegun s t l j (s.lane l).cls (s.lane l).cyc ∧ (t.lane l).todo = more ∧
        t.f (F.CRT_SKIP ((s.lane l).cls - 1)) = min (s.f (F.CRT_SKIP ((s.lane l).cls - 1)) + 1) (2 ^ 32 - 1) ∧
        sameRegs s t (F.CE_STAT_BUSY.addr :: (F.CRT_SKIP ((s.lane l).cls - 1)).addr :: countRegs)) ∧
    (s.window (s.lane l).cls < (s.lane l).cyc + s.loopCost i → rest = [] → (s.lane l).cls = 3 →
      ∃ t, exec (.itemStart l) s = .next t ∧ (t.lane l).cls = 4 ∧ (t.lane l).run = none ∧
        t.f (F.CRT_SKIP 2) = min (s.f (F.CRT_SKIP 2) + 1) (2 ^ 32 - 1) ∧
        sameRegs s t ((F.CRT_SKIP 2).addr :: countRegs) ∧ sameMem s t)) ∧
  (∀ (s : State) (l : Fin 4) (k i : Nat) (rest : List Nat), s.wf = true → s.ce.lanes.length = 4 → s.ceLive = true →
    (s.lane l).run = none → (s.lane l).chain = none → (s.lane l).cls = k → (s.lane l).todo = [] → k < 3 →
    (k = 0 → (s.lane l).c0 = []) → s.dueItems s.frame l (k + 1) = i :: rest →
    (s.lane l).cyc + s.loopCost i ≤ s.window (k + 1) →
    ∃ t, exec (.itemStart l) s = .next t ∧ runBegun s t l i (k + 1) (s.lane l).cyc ∧ (t.lane l).cls = k + 1 ∧
      (t.lane l).todo = rest ∧ sameRegs s t [F.CE_STAT_BUSY.addr]) ∧
  (∀ (s : State) (l : Fin 4) (k r : Nat), s.wf = true → s.ce.lanes.length = 4 → s.ceLive = true → (s.lane l).run = none →
    (s.lane l).chain = none → (s.lane l).cls = 0 → s.c0Pick l = some (k, r) → max (s.lane l).cyc r < s.nce →
    (k < 512 →
      ∃ t, exec (.itemStart l) s = .next t ∧ runBegun s t l k 0 (max (s.lane l).cyc r) ∧
        (t.lane l).c0 = (s.lane l).c0.filter (· != k) ∧ sameRegs s t [F.CE_STAT_BUSY.addr]) ∧
    (∀ d : Fin 6, k = 512 + d.val →
      ∃ t, exec (.itemStart l) s = .next t ∧ chainBegun s t l d (max (s.lane l).cyc r))) ∧
  (∀ (s : State) (l : Fin 4) (d i : Nat) (rest : List Nat), s.wf = true → s.ce.lanes.length = 4 → s.ceLive = true →
    (s.lane l).run = none → (s.lane l).chain = some d → (s.lane l).chainTodo = i :: rest →
    ((s.lane l).cyc < s.nce →
      ∃ t, exec (.itemStart l) s = .next t ∧ runBegun s t l i 0 (s.lane l).cyc ∧ (t.lane l).chainTodo = rest ∧
        (t.lane l).chain = some d ∧ sameRegs s t [F.CE_STAT_BUSY.addr]) ∧
    (s.nce ≤ (s.lane l).cyc → exec (.itemStart l) s = .next s)) ∧
  (∀ (s : State) (l : Fin 4), (s.ceLive = false ∨ (s.lane l).run.isSome = true) → exec (.itemStart l) s = .next s) ∧
  (∀ (s : State) (l : Fin 4) (r : Run), s.wf = true → s.ce.lanes.length = 4 → s.ceLive = true → (s.lane l).run = some r →
    (r.start + r.cost ≤ s.nce →
      ∃ t, exec (.itemComplete l) s = .next t ∧ (t.lane l).run = none ∧ (t.lane l).cyc = r.start + r.cost ∧
        (t.lane l).chain = (s.lane l).chain ∧ bit (t.f F.CE_STAT_BUSY) l = (s.lane l).chain.isSome ∧
        t.mem = (s.finishRun r).mem ∧ (∀ a, a ≠ F.CE_STAT_BUSY.addr → t.rd a = (s.finishRun r).rd a) ∧
        t.mw (lsAddr r.slot + 0x18) = s.frame ∧ (∀ k : Fin 4, k ≠ l → t.lane k = s.lane k) ∧ outside [4, 5] s t) ∧
    (s.nce < r.start + r.cost → exec (.itemComplete l) s = .next s)) ∧
  (∀ (s : State) (l : Fin 4), (s.ceLive = false ∨ (s.lane l).run = none) → exec (.itemComplete l) s = .next s) ∧
  (∀ (s : State) (l : Fin 4) (d : Fin 6), s.wf = true → s.ce.lanes.length = 4 → s.ce.drives.length = 6 → s.ceLive = true →
    (s.lane l).run = none → (s.lane l).chain = some d.val → (s.lane l).chainTodo = [] → (s.lane l).cls = 0 →
    ((s.lane l).cyc + 96 ≤ s.nce → (s.lane l).c0 = [] →
      ∃ t, exec (.driveBack l) s = .next t ∧ (t.lane l).chain = none ∧ (t.lane l).cyc = (s.lane l).cyc + 96 ∧
        (t.drv d).done = true ∧ (t.drv d).staged.isSome = true ∧ t.drI d 0xA4 = (sat32 (s.backVolts d).1) ∧
        bit (t.f F.CE_STAT_BUSY) l = false ∧ (∀ k : Fin 4, k ≠ l → t.lane k = s.lane k) ∧
        (∀ k, k < 6 → k ≠ d.val → t.drv k = s.drv k) ∧ outside [4, 5, 10] s t ∧
        ∀ b, (b < drAddr d ∨ drAddr d + 0x100 ≤ b) → t.mb b = s.mb b) ∧
    (s.nce < (s.lane l).cyc + 96 → exec (.driveBack l) s = .next s)) ∧
  (∀ (s : State) (l : Fin 4), ((s.lane l).run.isSome = true ∨ (s.lane l).chain = none ∨ (s.lane l).chainTodo ≠ [] ∨
      s.ceLive = false) → exec (.driveBack l) s = .next s) ∧
  (∀ (s : State) (d n : Nat), s.wf = true → s.ce.drives.length = 6 → s.active = true → s.boot.ticked = true →
    s.chained d = true → n = getBits (s.f F.CRT_C0STAT_CONSEC) (2 * d) 2 →
    let t := s.tickClose
    ((s.drv d).done = true → getBits (t.f F.CRT_C0STAT_CONSEC) (2 * d) 2 = 0 ∧
      bit (t.f F.CRT_C0STAT_OVR) d = bit (s.f F.CRT_C0STAT_OVR) d ∧ t.driveState d = s.driveState d) ∧
    ((s.drv d).done = false → getBits (t.f F.CRT_C0STAT_CONSEC) (2 * d) 2 = min (n + 1) 3 ∧
      bit (t.f F.CRT_C0STAT_OVR) d = true ∧
      (n = 2 → s.driveState d ≠ 0 → s.driveState d ≠ 6 → t.driveState d = 6 ∧ bit (t.f (F.CE_DR_FAULT_CAUSE d)) 7 = true ∧
        t.f (F.CE_DR_FAULTCNT d) = min (s.f (F.CE_DR_FAULTCNT d) + 1) (2 ^ 32 - 1) ∧
        t.on (F.PWM_G_CTL_OFF d) = true ∧ t.dr d 0x84 = 0 ∧ t.on F.SVC_IRQST_DRVFLT = true) ∧
      ((n ≠ 2 ∨ s.driveState d = 0 ∨ s.driveState d = 6) → t.driveState d = s.driveState d ∧
        t.rd (F.CE_DR_FAULT_CAUSE d).addr = s.rd (F.CE_DR_FAULT_CAUSE d).addr))) ∧
  (∀ s : State, s.wf = true → s.ce.lanes.length = 4 → s.active = true → s.boot.ticked = true → s.ceLive = true →
    let t := s.tickClose
    (t.on F.CRT_C0STAT_OVR_OTHER = true ↔ s.on F.CRT_C0STAT_OVR_OTHER = true ∨ ∃ l : Fin 4, (s.lane l).cls = 0 ∧
      (((s.lane l).run.isSome = true ∧ (s.lane l).chain = none) ∨ ∃ k, k ∈ (s.lane l).c0 ∧ k < 512)) ∧
    (∀ l : Fin 4, (t.lane l).run = none ∧ (t.lane l).chain = none) ∧ t.f F.CE_STAT_BUSY = 0 ∧
    ((∀ d, s.chained d = true → (s.drv d).done = true) → sameMem s t ∧ outside [0, 5] s t))

/-- The arithmetic of the engine stays in its range: a section that is frozen keeps its output and its state (R212), one
that is not writes the saturated sum (R211); a rotator's width lies within the period (R198); the shaper's step never
exceeds SHRATE once its velocity is within it (R243), and with SHRATE 0 the setpoint jumps to the target (R243). -/
def Obligations.EngineArithmeticStaysInRange : Prop :=
  (∀ (c : Sect) (x : Int) (hi lo : Bool), -2147483648 ≤ c.y1 → c.y1 ≤ 2147483647 →
    -2147483648 ≤ (c.run x hi lo).out ∧ (c.run x hi lo).out ≤ 2147483647 ∧ (c.run x hi lo).y1 = (c.run x hi lo).out ∧
    ((c.run x hi lo).froze = true → c.integ = true ∧ (c.run x hi lo).out = c.y1 ∧ (c.run x hi lo).x1 = c.x1 ∧
      (c.run x hi lo).x2 = c.x2 ∧ (c.run x hi lo).y2 = c.y2) ∧
    ((c.run x hi lo).froze = false → (c.run x hi lo).out = sat32 (term c.b0 (toS 6 c.ex) x
        + term c.b1 (toS 6 (c.ex / 2 ^ 6)) c.x1 + term c.b2 (toS 6 (c.ex / 2 ^ 12)) c.x2
        - term c.a1 (toS 6 (c.ex / 2 ^ 18)) c.y1 - term c.a2 (toS 6 (c.ex / 2 ^ 24)) c.y2) ∧
      (c.run x hi lo).x1 = x ∧ (c.run x hi lo).x2 = c.x1 ∧ (c.run x hi lo).y2 = c.y1)) ∧
  (∀ (a : Nat) (vd vq : Int) (np : Nat), (rotatorWidths a vd vq np).1.length = 3 ∧
    ∀ w, w ∈ (rotatorWidths a vd vq np).1 → w ≤ np) ∧
  (∀ shrate shacc t spsh spvel : Int, 0 < shrate → -shrate ≤ spvel → spvel ≤ shrate →
    -shrate ≤ (shaper shrate shacc t spsh spvel).2.1 ∧ (shaper shrate shacc t spsh spvel).2.1 ≤ shrate) ∧
  (∀ shrate shacc t spsh spvel : Int, shrate ≤ 0 → shaper shrate shacc t spsh spvel = (t, 0, false))

/-- A pulse input: the first edge only starts the count; from the second on PERIOD and HIGH are latched, VALUE is computed
as MODE says and NOSIG clears (R240, R241); an HZ value above the field's range saturates and sets SAT, while the manual
states no value for one of the other modes; with MODE OFF nothing is latched, VALUE reads 0 and NOSIG
follows the signal, which is the model's reading (log entry 65). A timeout sets NOSIG and the
value 0, or full scale for a duty input that stands high (R241). While the PWM clock stands still or the unit has no control
plane, nothing is measured. -/
def Obligations.PulseInputsMeasure : Prop :=
  (∀ (s : State) (n : Fin 8) (period high : BitVec 32), s.ce.pis.length = 8 → s.pulseLive = true → s.piEdges n = 0 →
    ∃ t, exec (.pulseEdge n period high) s = .next t ∧ t.piEdges n = 1 ∧
      (∀ k : Fin 8, k ≠ n → t.piEdges k = s.piEdges k) ∧ sameRegs s t [] ∧ sameMem s t) ∧
  (∀ (s : State) (n : Fin 8) (period high : BitVec 32), s.wf = true → s.ce.pis.length = 8 → s.pulseLive = true →
    s.piEdges n ≠ 0 → 0 < high.toNat → high.toNat < period.toNat →
    ∃ t, exec (.pulseEdge n period high) s = .next t ∧ t.piEdges n = 2 ∧ t.on (F.CE_PI_CFG_NOSIG n) = false ∧
      (s.f (F.CE_PI_CFG_MODE n) = 0 → t.f (F.CE_PI_VALUE n) = 0 ∧ t.f (F.CE_PI_PERIOD n) = s.f (F.CE_PI_PERIOD n) ∧
        t.f (F.CE_PI_HIGH n) = s.f (F.CE_PI_HIGH n)) ∧
      (s.f (F.CE_PI_CFG_MODE n) ≠ 0 → t.f (F.CE_PI_PERIOD n) = period.toNat ∧ t.f (F.CE_PI_HIGH n) = high.toNat ∧
        (pulseValue (s.f (F.CE_PI_CFG_MODE n)) period.toNat high.toNat < 2 ^ 31 →
          t.f (F.CE_PI_VALUE n) = pulseValue (s.f (F.CE_PI_CFG_MODE n)) period.toNat high.toNat)) ∧
      (s.f (F.CE_PI_CFG_MODE n) = 1 → 2 ^ 31 ≤ pulseValue 1 period.toNat high.toNat →
        t.f (F.CE_PI_VALUE n) = 2 ^ 31 - 1 ∧ t.on (F.CE_PI_CFG_SAT n) = true) ∧
      ((s.f (F.CE_PI_CFG_MODE n) ≠ 1 ∨ pulseValue 1 period.toNat high.toNat < 2 ^ 31) →
        t.on (F.CE_PI_CFG_SAT n) = s.on (F.CE_PI_CFG_SAT n)) ∧
      sameRegs s t [(F.CE_PI_CFG_NOSIG n).addr, (F.CE_PI_PERIOD n).addr, (F.CE_PI_HIGH n).addr, (F.CE_PI_VALUE n).addr] ∧
      sameMem s t) ∧
  (∀ (s : State) (n : Fin 8) (level : Bool), s.wf = true → s.ce.pis.length = 8 → s.pulseLive = true →
    ∃ t, exec (.pulseTimeout n level) s = .next t ∧ t.piEdges n = 0 ∧ t.on (F.CE_PI_CFG_NOSIG n) = true ∧
      t.f (F.CE_PI_VALUE n) = (if s.f (F.CE_PI_CFG_MODE n) = 3 ∧ level = true then 100 * 2 ^ 16 else 0) ∧
      sameRegs s t [(F.CE_PI_CFG_NOSIG n).addr, (F.CE_PI_VALUE n).addr] ∧ sameMem s t) ∧
  (∀ (s : State) (n : Fin 8) (period high : BitVec 32) (level : Bool), s.pulseLive = false →
    exec (.pulseEdge n period high) s = .next s ∧ exec (.pulseTimeout n level) s = .next s)

/-- CE_PRNCLR with GO starts a clear of a Perennial link, shown in CE_PRNSTAT; a second one is turned away until it ends;
its end zeroes the link's tables (R280, R281), and with no clear in hand there is none to end. Generators take START where
R324 allows it and STOP while they are PENDING or RUNNING, and turn both away otherwise (R324, R326).
ARM starts a capture where R331 allows it, its counts at 0, and is turned away otherwise; STOP ends one that is armed or
triggered (R334). At a sample instant each enabled channel's value is stored at WIDX, limited to 16 bits, and the sample is
counted, NVALID saturating at 4096 (R329, R330); between sample instants nothing is stored. The trigger test of R332 is
made on the sample of channel TRGCH; the trigger sample takes FRAMENO, and after 4095 - PRE further ones the capture is
DONE (R333).
A link learns: an angle link updates one entry from the filtered error of the run before, limited to TLIM, once per visit of
the entry (R274, R275); a calendar link gathers the errors of a minute, and learns from their mean when three minutes have
followed one another (R276). That CE_PRNCLR with GO = 0 is ignored during a clear too, and that a clear takes BASE as it
stands, are the model's choices (log entry 137). -/
def Obligations.ClearsGeneratorsAndCaptureAct : Prop :=
  (∀ (s : State) (m : Master) (w : Word), s.wf = true → s.admits m 0x40050044 = true →
    (bit w.toNat 7 = false → exec (.perennialClear m w) s = .next s) ∧
    (bit w.toNat 7 = true → s.ce.clears ≠ [] → exec (.perennialClear m w) s = .next (s.reject (masterCode m) 0x40050044)) ∧
    (bit w.toNat 7 = true → s.ce.clears = [] →
      ∃ t, exec (.perennialClear m w) s = .next t ∧ t.ce.clears = [w.toNat % 128] ∧ t.on F.CE_PRNSTAT_CLEARING = true ∧
        t.f F.CE_PRNSTAT_LINK = w.toNat % 128 ∧ bit (t.lkStat (w.toNat % 128)) 4 = true ∧
        bit (t.lkStat (w.toNat % 128)) 3 = bit (s.lkStat (w.toNat % 128)) 3 ∧
        sameRegs s t [F.CE_PRNSTAT_CLEARING.addr] ∧
        ∀ b, (b < lkAddr (w.toNat % 128) ∨ lkAddr (w.toNat % 128) + 32 ≤ b) → t.mb b = s.mb b)) ∧
  (∀ (s : State) (l : Nat), s.wf = true → l < 128 → s.ce.clears = [l] →
    s.lkTab l + s.lkBytes l ≤ 0x1C0000 → lkAddr l + 32 ≤ s.lkTab l →
    ∃ t, exec .perennialClearEnd s = .next t ∧ t.ce.clears = [] ∧ t.on F.CE_PRNSTAT_CLEARING = false ∧
      bit (t.lkStat l) 4 = false ∧ (∀ b, s.lkTab l ≤ b → b < s.lkTab l + s.lkBytes l → t.mb b = 0) ∧
      sameRegs s t [F.CE_PRNSTAT_CLEARING.addr] ∧
      ∀ b, (b < s.lkTab l ∨ s.lkTab l + s.lkBytes l ≤ b) → (b < lkAddr l + 28 ∨ lkAddr l + 32 ≤ b) → t.mb b = s.mb b) ∧
  (∀ (s : State) (l k : Nat) (rest : List Nat), s.wf = true → l < 128 → k < 128 → s.ce.clears = l :: k :: rest →
    lkAddr l + 32 ≤ s.lkTab l →
    ∃ t, exec .perennialClearEnd s = .next t ∧ t.ce.clears = k :: rest ∧ t.f F.CE_PRNSTAT_LINK = k ∧
      t.on F.CE_PRNSTAT_CLEARING = s.on F.CE_PRNSTAT_CLEARING ∧ bit (t.lkStat l) 4 = (k :: rest).contains l ∧
      (∀ b, s.lkTab l ≤ b → b < s.lkTab l + s.lkBytes l → t.mb b = 0) ∧ sameRegs s t [F.CE_PRNSTAT_CLEARING.addr] ∧
      ∀ b, (b < s.lkTab l ∨ s.lkTab l + s.lkBytes l ≤ b) → (b < lkAddr l + 28 ∨ lkAddr l + 32 ≤ b) → t.mb b = s.mb b) ∧
  (∀ s : State, s.ce.clears = [] → exec .perennialClearEnd s = .next s) ∧
  (∀ (s : State) (m : Master) (n : Fin 8), s.wf = true → s.ce.gens.length = 8 → s.admits m F.CE_INJCMD_GEN.addr = true →
    (s.genStartLegal n = false → exec (.generatorStart m n) s = .next (s.reject (masterCode m) F.CE_INJCMD_GEN.addr)) ∧
    (s.genStartLegal n = true →
      ∃ t, exec (.generatorStart m n) s = .next t ∧ t.genState n = 1 ∧ (∀ k, k < 8 → k ≠ n.val → t.genState k = s.genState k) ∧
        sameRegs s t [F.CE_INJSTAT_STATE.addr] ∧ sameMem s t) ∧
    (s.genState n = 0 ∨ s.genState n = 3 →
      exec (.generatorStop m n) s = .next (s.reject (masterCode m) F.CE_INJCMD_GEN.addr)) ∧
    (s.genState n = 1 ∨ s.genState n = 2 →
      ∃ t, exec (.generatorStop m n) s = .next t ∧ t.ce.gens[n.val]? = some ⟨true⟩ ∧ sameRegs s t [] ∧ sameMem s t)) ∧
  (∀ (s : State) (m : Master), s.wf = true → s.admits m F.CE_CAPCTL_ARM.addr = true →
    (s.capBusy = false → s.f F.CE_CAPEN_CHEN ≠ 0 → s.active = true → s.sheds = false →
      ∃ t, exec (.captureArm m) s = .next t ∧ t.capState = 1 ∧ t.f F.CE_CAPSTAT_WIDX = 0 ∧ t.f F.CE_CAPSTAT_NVALID = 0 ∧
        t.f F.CE_CAPCLIP_CLIP = 0 ∧ t.ce.cap.frames = none ∧
        sameRegs s t [F.CE_CAPSTAT_STATE.addr, F.CE_CAPCLIP_CLIP.addr] ∧ sameMem s t) ∧
    ((s.capBusy = true ∨ s.f F.CE_CAPEN_CHEN = 0 ∨ s.active = false ∨ s.sheds = true) →
      exec (.captureArm m) s = .next (s.reject (masterCode m) F.CE_CAPCTL_ARM.addr)) ∧
    (s.capBusy = true →
      ∃ t, exec (.captureStop m) s = .next t ∧ t.capState = 3 ∧ t.on F.CE_CAPSTAT_STOPPED = true ∧
        sameRegs s t [F.CE_CAPSTAT_STATE.addr] ∧ sameMem s t) ∧
    (s.capBusy = false → exec (.captureStop m) s = .next s)) ∧
  (∀ (s : State) (k : Nat), s.wf = true → s.ce.cap.frames = some k → s.capBusy = true → s.ce.cap.taken = false →
    k % (s.f F.CE_CAPCFG_DEC + 1) = 0 →
    ∃ t, exec .captureSample s = .next t ∧ t.ce.cap.taken = true ∧
      t.f F.CE_CAPSTAT_WIDX = (s.f F.CE_CAPSTAT_WIDX + 1) % 4096 ∧
      t.f F.CE_CAPSTAT_NVALID = min (s.f F.CE_CAPSTAT_NVALID + 1) 4096 ∧
      (∀ c : Fin 16, bit (s.f F.CE_CAPEN_CHEN) c = true →
        toS 16 (t.mb (0x1E0000 + 0x2000 * c.val + 2 * s.f F.CE_CAPSTAT_WIDX)
          + 256 * t.mb (0x1E0000 + 0x2000 * c.val + 2 * s.f F.CE_CAPSTAT_WIDX + 1))
          = clampI (-32768) 32767 (rnd (s.capValue c) (getBits (s.capSrc c) 16 5 : Nat))) ∧
      sameRegs s t [F.CE_CAPSTAT_STATE.addr, F.CE_CAPSTAT_WIDX.addr, F.CE_CAPSTAT_NVALID.addr, F.CE_CAPCLIP_CLIP.addr,
        F.CE_CAPTRGF.addr] ∧
      ∀ b, (∀ c : Fin 16, bit (s.f F.CE_CAPEN_CHEN) c = true → b ≠ 0x1E0000 + 0x2000 * c.val + 2 * s.f F.CE_CAPSTAT_WIDX ∧
        b ≠ 0x1E0000 + 0x2000 * c.val + 2 * s.f F.CE_CAPSTAT_WIDX + 1) → t.mb b = s.mb b) ∧
  (∀ (s : State) (k pre : Nat) (v thr : Int), s.wf = true → s.ce.cap.frames = some k → s.capBusy = true →
    s.ce.cap.taken = false → k % (s.f F.CE_CAPCFG_DEC + 1) = 0 → v = s.capValue (s.f F.CE_CAPCFG_TRGCH) →
    thr = toS 32 (s.rd F.CE_CAPTHR.addr) → pre = (if s.f F.CE_CAPCFG_TRG = 0 then 0 else s.f F.CE_CAPEN_PRE) →
    let fires := s.capState = 1 ∧ (s.f F.CE_CAPCFG_TRG = 0 ∨
      (s.f F.CE_CAPCFG_TRG = 1 ∧ thr ≤ v ∧ s.ce.cap.prev.any (fun p => decide (p < thr)) = true) ∨
      (s.f F.CE_CAPCFG_TRG = 2 ∧ v ≤ thr ∧ s.ce.cap.prev.any (fun p => decide (thr < p)) = true) ∨
      (s.f F.CE_CAPCFG_TRG = 3 ∧ s.ce.cap.genRan = true))
    ∃ t, exec .captureSample s = .next t ∧ t.ce.cap.prev = some v ∧
      (fires → t.f F.CE_CAPTRGF = s.frame ∧ t.ce.cap.left = 4095 - pre ∧ t.capState = (if pre = 4095 then 3 else 2)) ∧
      (s.capState = 1 → ¬fires → t.capState = 1 ∧ t.f F.CE_CAPTRGF = s.f F.CE_CAPTRGF) ∧
      (s.capState = 2 → t.ce.cap.left = s.ce.cap.left - 1 ∧ t.capState = (if s.ce.cap.left ≤ 1 then 3 else 2) ∧
        t.f F.CE_CAPTRGF = s.f F.CE_CAPTRGF)) ∧
  (∀ (s : State) (l idx k n : Nat) (ep tl : Int) (frozen : Bool), s.wf = true → l < 128 → -2 ^ 31 ≤ ep → ep < 2 ^ 31 →
    0x2000 ≤ s.lk l 4 → n = 256 * 2 ^ getBits (s.lk l 0) 2 2 → tl = toS 32 (s.lk l 0x10) → 0 ≤ tl →
    k = (s.lkIdx l % 2048 + n - getBits (s.lk l 0x18) 0 11 % n) % n →
    let t := s.learnAngle l idx ep frozen
    let learns := getBits (s.lkIdx l) 12 2 = 2 ∧ frozen = false ∧ bit (s.lkStat l) 4 = false ∧
      ¬(bit (s.lkIdx l) 27 = true ∧ k = getBits (s.lkIdx l) 16 11)
    let qe := if bit (s.lk l 0) 7 then s.mi (lkAddr l + 4) else asr (s.mi (lkAddr l) + 2 * s.mi (lkAddr l + 4) + ep + 2) 2
    let v := sat32 (term (toS 32 (s.lk l 8)) (toS 6 (s.lk l 0x14)) (s.mi (s.lkTab l + 4 * k))
      + term (toS 32 (s.lk l 0xC)) (toS 6 (s.lk l 0x14 / 64)) qe)
    t.mi (lkAddr l) = s.mi (lkAddr l + 4) ∧ t.mi (lkAddr l + 4) = ep ∧ t.lkIdx l % 2048 = idx % 2048 ∧
    getBits (t.lkIdx l) 12 2 = min (getBits (s.lkIdx l) 12 2 + 1) 2 ∧
    (learns → t.mi (s.lkTab l + 4 * k) = clampI (-tl) tl v ∧ getBits (t.lkIdx l) 16 11 = k % 2048 ∧
      bit (t.lkIdx l) 27 = true ∧ t.f F.CE_PRNUPDCNT = min (s.f F.CE_PRNUPDCNT + 1) (2 ^ 32 - 1) ∧
      (v ≠ clampI (-tl) tl v → bit (t.lkStat l) 5 = true ∧ t.on F.CE_PRNSTAT_TLIMHIT = true ∧
        t.f F.CE_PRNTLIMCNT = min (s.f F.CE_PRNTLIMCNT + 1) (2 ^ 32 - 1)) ∧
      (v = clampI (-tl) tl v → sameRegs s t [F.CE_PRNUPDCNT.addr])) ∧
    (¬learns → t.lkStat l = s.lkStat l ∧ sameRegs s t []) ∧
    ∀ b, (b < lkAddr l ∨ lkAddr l + 32 ≤ b) → (learns → b < s.lkTab l + 4 * k ∨ s.lkTab l + 4 * k + 4 ≤ b) →
      t.mb b = s.mb b) ∧
  (∀ (s : State) (l m : Nat) (dt frozen : Bool) (ep : Int), s.wf = true → l < 128 → m < 1440 → 0x2000 ≤ s.lk l 4 →
    -2 ^ 31 ≤ ep → ep < 2 ^ 31 →
    let t := s.learnCal l m dt ep frozen
    (m = getBits (s.lkStat l) 16 11 → dt = bit (s.lkStat l) 27 →
      t.mw (lkAddr l + 0xC) = ofI 32 (s.mw (lkAddr l + 0xC) + ep) ∧
      t.mw (lkAddr l + 0x14) = min (s.mw (lkAddr l + 0x14) % 2 ^ 24 + 1) (2 ^ 24 - 1) ∧
      bit (t.lkStat l) 6 = (frozen || bit (s.lkStat l) 6) ∧ sameRegs s t [] ∧
      ∀ b, (b < lkAddr l + 0xC ∨ lkAddr l + 0x20 ≤ b) → t.mb b = s.mb b) ∧
    ((m ≠ getBits (s.lkStat l) 16 11 ∨ dt ≠ bit (s.lkStat l) 27) →
      toS 64 (t.mw (lkAddr l + 0xC) + t.mw (lkAddr l + 0x10) * 2 ^ 32) = ep ∧ t.mw (lkAddr l + 0x14) = 1 ∧
      getBits (t.lkStat l) 16 11 = m ∧ bit (t.lkStat l) 27 = dt ∧ bit (t.lkStat l) 6 = frozen ∧
      t.mw (lkAddr l) = (s.learnMinute l).mw (lkAddr l) ∧ t.mw (lkAddr l + 4) = (s.learnMinute l).mw (lkAddr l + 4) ∧
      t.lkIdx l = (s.learnMinute l).lkIdx l ∧ t.regs = (s.learnMinute l).regs ∧
      ∀ b, (b < lkAddr l ∨ lkAddr l + 32 ≤ b) → t.mb b = (s.learnMinute l).mb b)) ∧
  (∀ (s : State) (l cnt hc cur k sh : Nat) (mean tl : Int), s.wf = true → l < 128 → 0x2000 ≤ s.lk l 4 →
    cnt = s.mw (lkAddr l + 0x14) % 2 ^ 24 → cnt ≠ 0 → cur = getBits (s.lkStat l) 16 11 →
    mean = (2 * toS 64 (s.mw (lkAddr l + 0xC) + s.mw (lkAddr l + 0x10) * 2 ^ 32) + cnt) / (2 * cnt) →
    -2 ^ 31 ≤ mean → mean < 2 ^ 31 → tl = toS 32 (s.lk l 0x10) → 0 ≤ tl → sh = getBits (s.lk l 0) 20 4 →
    hc = (if 0 < getBits (s.lkIdx l) 12 2 ∧ cur ≠ (s.lkIdx l % 2048 + 1) % 1440 then 0 else getBits (s.lkIdx l) 12 2) →
    k = (s.lkIdx l % 2048 + 1440 - getBits (s.lk l 0x18) 0 11 % 1440) % 1440 →
    let t := s.learnMinute l
    let b := bit (s.lkIdx l) 11
    let learns := hc = 2 ∧ bit (s.lkIdx l) 14 = false ∧ bit (s.lkStat l) 4 = false
    let qe := if bit (s.lk l 0) 7 then s.mi (lkAddr l + 4) else asr (s.mi (lkAddr l) + 2 * s.mi (lkAddr l + 4) + mean + 2) 2
    let v := sat32 (term (toS 32 (s.lk l 8)) (toS 6 (s.lk l 0x14)) (s.calEntry l b k * 2 ^ sh)
      + term (toS 32 (s.lk l 0xC)) (toS 6 (s.lk l 0x14 / 64)) qe)
    t.mi (lkAddr l) = s.mi (lkAddr l + 4) ∧ t.mi (lkAddr l + 4) = mean ∧ t.lkIdx l % 2048 = cur ∧
    getBits (t.lkIdx l) 12 2 = min (hc + 1) 2 ∧ bit (t.lkIdx l) 11 = bit (s.lkStat l) 27 ∧
    bit (t.lkIdx l) 14 = bit (s.lkStat l) 6 ∧
    (learns → t.calEntry l b k = clampI (-32768) 32767 (rnd (clampI (-tl) tl v) sh) ∧
      t.f F.CE_PRNUPDCNT = min (s.f F.CE_PRNUPDCNT + 1) (2 ^ 32 - 1)) ∧
    (¬learns → sameRegs s t [] ∧ ∀ a, (a < lkAddr l ∨ lkAddr l + 32 ≤ a) → t.mb a = s.mb a)) ∧
  (∀ s : State, (s.capBusy = false ∨ s.ce.cap.taken = true ∨ s.ce.cap.frames = none ∨
      ∃ k, s.ce.cap.frames = some k ∧ k % (s.f F.CE_CAPCFG_DEC + 1) ≠ 0) → exec .captureSample s = .next s)

/-! ### Catalogue and RTC (R341, R343, R345, R346) -/

/-- Forcing a point in use writes FORCEVAL into its VALUE and shows FORCED; ending it returns VALUE to the raw value; an
unused entry is turned away (R343). A written VALUE updates a point without a source and is turned away for any other
(R341, R345). A written RTC is the RTC from then on, and marked set (R346).
Each tick visits every used entry: one whose KIND calls for it is refreshed, which R341 spells out, and every other one ages
by its step; STALE is set where AGE has come to STALETO (R339, R341, R342). That the visits follow the tick at once, their
readers apart, is the model's choice (log entry 22). -/
def Obligations.CatalogueAndRtcCommandsAct : Prop :=
  (∀ (s : State) (m : Master) (p : Fin 4096), s.wf = true → s.admits m F.ALM_FORCE_POINT.addr = true →
    (s.ptType p = 0 → exec (.pointForceSet m p) s = .next (s.reject (masterCode m) F.ALM_FORCE_POINT.addr) ∧
      exec (.pointForceClear m p) s = .next (s.reject (masterCode m) F.ALM_FORCE_POINT.addr)) ∧
    (s.ptType p ≠ 0 →
      (∃ t, exec (.pointForceSet m p) s = .next t ∧ t.mw (ptAddr p + 8) = s.f F.ALM_FORCEVAL ∧ bit (t.ptQual p) 22 = true ∧
        sameRegs s t [] ∧ ∀ b, (b < ptAddr p + 8 ∨ ptAddr p + 16 ≤ b) → t.mb b = s.mb b) ∧
      (∃ t, exec (.pointForceClear m p) s = .next t ∧ t.mw (ptAddr p + 8) = s.mw (ptAddr p + 20) ∧
        bit (t.ptQual p) 22 = false ∧
        sameRegs s t [] ∧ ∀ b, (b < ptAddr p + 8 ∨ ptAddr p + 16 ≤ b) → t.mb b = s.mb b))) ∧
  (∀ (s : State) (m : Master) (p : Fin 4096) (w : Word), s.wf = true → s.admits m (ptAddr p + 8) = true →
    (s.ptKind p ≠ 0 → exec (.catalogueValueWrite m p w) s = .next (s.reject (masterCode m) (ptAddr p + 8))) ∧
    (s.ptKind p = 0 →
      ∃ t, exec (.catalogueValueWrite m p w) s = .next t ∧ t.mw (ptAddr p + 20) = w.toNat ∧
        (bit (s.ptQual p) 22 = false → t.mw (ptAddr p + 8) = w.toNat) ∧
        (bit (s.ptQual p) 22 = true → t.mw (ptAddr p + 8) = s.mw (ptAddr p + 8)) ∧
        bit (t.ptQual p) 20 = true ∧ bit (t.ptQual p) 21 = false ∧ t.ptQual p % 65536 = 0 ∧
        bit (t.ptQual p) 23 = outOfRange (toS 32 w.toNat) (s.mi (ptAddr p + 24)) (s.mi (ptAddr p + 28)) ∧
        sameRegs s t [] ∧ ∀ b, (b < ptAddr p + 8 ∨ (ptAddr p + 16 ≤ b ∧ b < ptAddr p + 20) ∨ ptAddr p + 24 ≤ b) → t.mb b = s.mb b)) ∧
  (∀ (s : State) (p : Nat), s.wf = true → p < 4096 → let w := s.ptSrc p
    (w / 2 ^ 28 = 1 → s.visitValue p = if s.alm.fresh.contains (w % 64)
      then some (s.latest (w % 64), bit (s.mw (latestAddr (w % 64))) 17) else none) ∧
    (w / 2 ^ 28 = 2 → s.visitValue p = some (if bit (s.f F.ALM_DISTAT_DI) (w % 16) = bit w 8 then 65536 else 0, false)) ∧
    (w / 2 ^ 28 = 3 → s.visitValue p = some (s.fi (F.CE_PI_VALUE (w % 8)), s.on (F.CE_PI_CFG_NOSIG (w % 8)))) ∧
    (w / 2 ^ 28 = 7 → s.visitValue p = some (((65536 * s.statusItem (w % 256) : Nat) : Int), false)) ∧
    (w / 2 ^ 28 ∉ [1, 2, 3, 7] → s.visitValue p = none) ∧
    (∀ v b, s.visitValue p = some (v, b) → let t := s.visit p
      t.mw (ptAddr p + 20) = ofI 32 v ∧ t.ptQual p % 65536 = 0 ∧ bit (t.ptQual p) 20 = true ∧ bit (t.ptQual p) 21 = false ∧
      bit (t.ptQual p) 24 = b ∧ bit (t.ptQual p) 22 = bit (s.ptQual p) 22 ∧
      bit (t.ptQual p) 23 = outOfRange (sat32 v) (s.mi (ptAddr p + 24)) (s.mi (ptAddr p + 28)) ∧
      t.mw (ptAddr p + 8) = (if bit (s.ptQual p) 22 then s.mw (ptAddr p + 8) else ofI 32 v)) ∧
    (s.visitValue p = none → let t := s.visit p
      let age := if s.frame % 2 ^ getBits (s.ptQual p) 16 4 = 0 then min (s.ptQual p % 65536 + 1) 65535 else s.ptQual p % 65536
      t.ptQual p % 65536 = age ∧ t.mw (ptAddr p + 8) = s.mw (ptAddr p + 8) ∧ t.mw (ptAddr p + 20) = s.mw (ptAddr p + 20) ∧
      (bit (t.ptQual p) 21 = true ↔ bit (s.ptQual p) 21 = true ∨ (s.mw (ptAddr p + 16) % 65536 ≠ 0 ∧
        s.mw (ptAddr p + 16) % 65536 ≤ age)) ∧
      ∀ k, (k = 20 ∨ 22 ≤ k) → bit (t.ptQual p) k = bit (s.ptQual p) k) ∧
    sameRegs s (s.visit p) [] ∧
    (∀ b, (b < ptAddr p + 8 ∨ (ptAddr p + 16 ≤ b ∧ b < ptAddr p + 20) ∨ ptAddr p + 24 ≤ b) → (s.visit p).mb b = s.mb b) ∧
    (s.ptType p ≠ 0 → ∀ o, o < 32 → (s.catVisits).mb (ptAddr p + o) = (s.visit p).mb (ptAddr p + o)) ∧
    (s.ptType p = 0 → ∀ o, o < 32 → (s.catVisits).mb (ptAddr p + o) = s.mb (ptAddr p + o)) ∧
    s.catVisits.alm.fresh = [] ∧ (∀ di, (s.tickCatalogue di) = (s.diSample di).catVisits)) ∧
  (∀ (s : State) (m : Master) (w : Word), s.wf = true → s.admits m F.ALM_RTCSET.addr = true →
    ∃ t, exec (.rtcSet m w) s = .next t ∧ t.f F.ALM_RTC = w.toNat ∧ t.on F.ALM_STAT_RTCSET = true ∧
      sameRegs s t [F.ALM_RTC.addr, F.ALM_STAT_RTCSET.addr] ∧ sameMem s t)

/-! ### Bus controllers (R375 to R408) -/

/-- A controller that is enabled while the unit may run detects its rates, or else integrates, or begins the recovery that
waits (R377, R382, R402); one that is disabled stops, at once or when the frame in progress ends (R378). FDTX written 0
ends every FD object that is pending or parked (R399). The write of CAN_CTL itself is taken under its access types and checks.
The events of a controller: detected rates are written into its timing registers and it integrates (R382); an integrated
one joins the bus, or as bus-off when its error state says so, and the Zone Protocol layer starts with it (R384, R401,
R436); recovery is taken only in bus-off, waits in a controller that is not integrating yet, and ends it with both counters
at 0 (R402); a protocol exception is counted and makes a joined controller integrate anew (R403). Each event that has no
place in the controller's state changes nothing. That a stop gives up a waiting recovery (log entry 72), that TDCEN is 0 below
2 Mbit/s (log entry 73) and what a GO leaves in a controller off its bus (log entry 120) are the model's reading. -/
def Obligations.BusControllersFollowTheirStates : Prop :=
  (∀ (s : State) (c : Fin 2) (m : Master) (w : Word), s.wf = true → s.can.length = 2 → s.admits m (canAddr c 0) = true →
    (s.free.2.plainWrite (canAddr c 0) (orN w.toNat 1)).2 = true →
    ∃ t, exec (.canEnable c m w) s = .next t ∧ t.on (F.CAN_CTL_EN c) = true ∧ (t.cc c).stopping = false ∧
      (s.canState c = 0 → s.canMayRun = true → (t.cc c).fresh = true ∧
        t.canState c = (if bit w.toNat (F.CAN_CTL_AUTO c).lo then 1 else if (s.cc c).recover then 5 else 2)) ∧
      ((s.canState c ≠ 0 ∨ s.canMayRun = false) → t.canState c = s.canState c) ∧ sameMem s t ∧ outside [7, 8] s t) ∧
  (∀ (s : State) (c : Fin 2) (m : Master) (w : Word) (busy : Bool), s.wf = true → s.can.length = 2 →
    s.admits m (canAddr c 0) = true → (s.plainWrite (canAddr c 0) (andNot w.toNat 1)).2 = true →
    (s.canState c = 3 → bit w.toNat (F.CAN_CTL_LOM c).lo = false → (busy = true ∨ (s.cc c).committed ≠ none) →
      ∃ t, exec (.canDisable c m w busy) s = .next t ∧ t.canState c = 3 ∧ (t.cc c).stopping = true ∧
        t.on (F.CAN_CTL_EN c) = false ∧ sameMem s t ∧ outside [7, 8] s t) ∧
    ((s.canState c ≠ 3 ∨ bit w.toNat (F.CAN_CTL_LOM c).lo = true ∨ (busy = false ∧ (s.cc c).committed = none)) →
      ∃ t, exec (.canDisable c m w busy) s = .next t ∧ t.canState c = 0 ∧ t.on (F.CAN_CTL_EN c) = false ∧
        (s.canState c ≠ 0 → (t.cc c).committed = none ∧ (t.cc c).cancels = [] ∧ (t.cc c).recover = false) ∧
        sameMem s t ∧ outside [7, 8] s t)) ∧
  (∀ (s : State) (c : Fin 2) (m : Master) (w : Word), s.wf = true → s.can.length = 2 → s.admits m (canAddr c 0) = true →
    (s.free.2.plainWrite (canAddr c 0) (andNot w.toNat (2 ^ (F.CAN_CTL_FDTX c).lo))).2 = true → s.zpEn c = false →
    bit w.toNat (F.CAN_CTL_EN c).lo = true →
    ∃ t, exec (.fdTransmitOff c m w) s = .next t ∧ t.on (F.CAN_CTL_FDTX c) = false ∧
      (∀ n : Fin 128, s.objBusy c n = true → s.objFd c n = true → bit (t.ob c n 8) 4 = true ∧
        ((s.cc c).committed ≠ some n.val → t.objBusy c n = false ∧ bit (t.ob c n 8) 1 = true) ∧
        ((s.cc c).committed = some n.val → t.isPend c n = s.isPend c n ∧ (t.cc c).held = true)) ∧
      (∀ n : Fin 128, (s.objBusy c n = false ∨ s.objFd c n = false) → t.objBusy c n = s.objBusy c n ∧
        ∀ o, o < 80 → t.ob c n o = s.ob c n o) ∧ sameMem s t ∧ outside [7] s t) ∧
  (∀ (s : State) (c : Fin 2) (nr dr : BitVec 4) (rounds : BitVec 16), s.wf = true → s.can.length = 2 →
    ratesWf nr.toNat dr.toNat = true →
    (s.canState c = 1 → nr ≠ 0 →
      ∃ t, exec (.rateDetectionDone c nr dr rounds) s = .next t ∧ t.canState c = (if (s.cc c).recover then 5 else 2) ∧
        t.f (F.CAN_ADSTAT_NRATE c) = nr.toNat ∧ t.on (F.CAN_IRQST_DET c) = true ∧
        t.rd (F.CAN_NBT_NBRP c).addr = [0, 0x09094400, 0x0C0C5500, 0x09094401, 0x09094403, 0x09094407, 0x09094409,
          0x0909440B, 0x09094413, 0x09094431, 0x09094463].getD nr.toNat 0 ∧
        t.f (F.CAN_ADSTAT_ROUNDS c) = min (s.f (F.CAN_ADSTAT_ROUNDS c) + rounds.toNat) 65535 ∧
        ((s.on (F.CAN_CTL_FDOE c) = false ∨ s.f (F.CAN_ADCFG_DWAIT c) = 0 ∨ dr = 0) → t.f (F.CAN_ADSTAT_DRATE c) = 0 ∧
          t.rd (F.CAN_DBT_DBRP c).addr = s.rd (F.CAN_DBT_DBRP c).addr ∧
          t.rd (F.CAN_TDC_TDCEN c).addr = s.rd (F.CAN_TDC_TDCEN c).addr) ∧
        (s.on (F.CAN_CTL_FDOE c) = true → s.f (F.CAN_ADCFG_DWAIT c) ≠ 0 → dr ≠ 0 → t.f (F.CAN_ADSTAT_DRATE c) = dr.toNat ∧
          t.rd (F.CAN_DBT_DBRP c).addr =
            [0, 0x09091C01, 0x09091C00, 0x04040D00, 0x03030A00, 0x02020500].getD dr.toNat 0 ∧
          t.on (F.CAN_TDC_TDCEN c) = decide (2 ≤ dr.toNat) ∧
          (2 ≤ dr.toNat → t.f (F.CAN_TDC_TDCO c) = [0, 0, 30, 15, 12, 7].getD dr.toNat 0)) ∧
        sameRegs s t [(F.CAN_NBT_NBRP c).addr, (F.CAN_DBT_DBRP c).addr, (F.CAN_TDC_TDCEN c).addr, (F.CAN_ADSTAT_NRATE c).addr,
          (F.CAN_IRQST_DET c).addr, (F.CAN_STAT_STATE c).addr] ∧ sameMem s t) ∧
    (s.canState c = 1 → nr = 0 →
      ∃ t, exec (.rateDetectionDone c nr dr rounds) s = .next t ∧ t.canState c = 1 ∧
        t.f (F.CAN_ADSTAT_ROUNDS c) = min (s.f (F.CAN_ADSTAT_ROUNDS c) + rounds.toNat) 65535 ∧
        sameRegs s t [(F.CAN_ADSTAT_NRATE c).addr] ∧ sameMem s t) ∧
    (s.canState c ≠ 1 → exec (.rateDetectionDone c nr dr rounds) s = .next s)) ∧
  (∀ (s : State) (c : Fin 2), s.wf = true → s.can.length = 2 → s.zp.length = 2 →
    (s.canState c = 2 → s.f (F.CAN_STAT_ERRST c) = 2 →
      ∃ t, exec (.busIntegrationDone c) s = .next t ∧ t.canState c = 4 ∧ sameRegs s t [(F.CAN_STAT_STATE c).addr] ∧ sameMem s t) ∧
    (s.canState c = 2 → s.f (F.CAN_STAT_ERRST c) ≠ 2 →
      ∃ t, exec (.busIntegrationDone c) s = .next t ∧ t.canState c = 3 ∧ (t.cc c).fresh = false ∧ sameMem s t ∧
        outside [7, 8] s t ∧ (s.zpEn c = false → sameRegs s t [(F.CAN_STAT_STATE c).addr]) ∧
        (s.zpEn c = true → (s.cc c).fresh = true → (t.zb c).rollDue = true ∧ (t.zb c).wait = [] ∧
          ∀ n : Fin 128, t.ptState c n = 0)) ∧
    (s.canState c ≠ 2 → exec (.busIntegrationDone c) s = .next s)) ∧
  (∀ (s : State) (c : Fin 2) (m : Master), s.wf = true → s.can.length = 2 → s.admits m (canAddr c 0x20) = true →
    ((s.f (F.CAN_STAT_ERRST c) ≠ 2 ∨ s.canState c = 5 ∨ (s.cc c).recover = true) →
      exec (.busOffRecovery c m) s = .next (s.reject (masterCode m) (canAddr c 0x20))) ∧
    (s.f (F.CAN_STAT_ERRST c) = 2 → (s.cc c).recover = false → (s.canState c = 0 ∨ s.canState c = 1) →
      ∃ t, exec (.busOffRecovery c m) s = .next t ∧ (t.cc c).recover = true ∧ sameRegs s t [] ∧ sameMem s t) ∧
    (s.f (F.CAN_STAT_ERRST c) = 2 → (s.cc c).recover = false → 2 ≤ s.canState c → s.canState c ≠ 5 →
      ∃ t, exec (.busOffRecovery c m) s = .next t ∧ t.canState c = 5 ∧ sameRegs s t [(F.CAN_STAT_STATE c).addr] ∧ sameMem s t)) ∧
  (∀ (s : State) (c : Fin 2), s.wf = true → s.can.length = 2 → s.zp.length = 2 →
    (s.canState c = 5 →
      ∃ t, exec (.busOffRecoveryEnd c) s = .next t ∧ t.canState c = 3 ∧ t.tec c = 0 ∧ t.recErr c = 0 ∧
        t.f (F.CAN_STAT_ERRST c) = 0 ∧ t.on (F.CAN_STAT_WARN c) = false ∧ sameMem s t ∧ outside [7, 8] s t ∧
        (s.zpEn c = false →
          sameRegs s t [(F.CAN_STAT_STATE c).addr, (F.CAN_ERRCNT_TEC c).addr, (F.CAN_IRQST_ERRST c).addr])) ∧
    (s.canState c ≠ 5 → exec (.busOffRecoveryEnd c) s = .next s)) ∧
  (∀ (s : State) (c : Fin 2), s.wf = true → s.can.length = 2 → (s.cc c).stopping = false →
    ((s.canState c = 1 ∨ s.canState c = 3) → (s.cc c).committed = none → s.on (F.CAN_CTL_FDOE c) = false →
      s.on (F.CAN_CTL_PXHD c) = false →
      ∃ t, exec (.protocolException c) s = .next t ∧ t.canState c = (if s.canState c = 3 then 2 else 1) ∧
        t.f (F.CAN_PEXCNT c) = min (s.f (F.CAN_PEXCNT c) + 1) (2 ^ 32 - 1) ∧ t.on (F.CAN_IRQST_PEX c) = true ∧
        (s.canState c = 3 → (t.cc c).cancels = []) ∧ sameMem s t ∧ outside [7] s t ∧
        (s.canState c = 1 → sameRegs s t ((F.CAN_PEXCNT c).addr :: (F.CAN_IRQST_PEX c).addr :: countRegs))) ∧
    (((s.canState c ≠ 1 ∧ s.canState c ≠ 3) ∨ (s.cc c).committed ≠ none ∨ s.on (F.CAN_CTL_FDOE c) = true ∨
        s.on (F.CAN_CTL_PXHD c) = true) → exec (.protocolException c) s = .next s))

/-- A received frame goes to the lowest enabled receive object of its identifier, which gets its ID, time stamp and NEWDAT
(R388, R389); else the first filter that it passes sends it to a queue, whose first free entry from WIDX on takes it, or
which drops it when there is none (R390), or discards it; one that neither an object nor a filter takes is counted (R388).
A controller on the bus that receives without error lowers REC (R400). What cannot be received changes nothing. An owned
queue entry is released by ACK, and an ACK of any other, or of a queue that the Zone Protocol layer owns, is turned away
(R391, R392).
Error counters and objects: an error of a receiver adds 1 or 8 to REC, one of the transmitter 8 to TEC, and a frame that
nobody acknowledges adds 8 only to the TEC of a node that is not error passive, or where the error flag meets a dominant bit;
its object is parked once it has gone unacknowledged often enough (R400, R404). TEC above 255 makes the controller
bus-off (R401). Words of an object are writable while the object is idle; STAT bits are cleared by writing 1; the objects
of the Zone Protocol layer are closed to masters (R387, R392). The steps of TEC and REC are taken from the standard (log
entry 69), the bits of an object's words that a write may set are log entry 46. -/
def Obligations.FramesAndErrorsOfTheBusAreTaken : Prop :=
  (∀ (s : State) (c : Fin 2) (f : CanFrame) (ago pos : BitVec 16), s.wf = true → s.can.length = 2 → f.wf = true →
    (s.canState c = 1 ∨ s.canState c = 3) → (s.cc c).committed = none → (s.cc c).stopping = false → s.tec c ≤ 255 →
    (f.fdf = false ∨ s.on (F.CAN_CTL_FDOE c) = true) →
    (∀ n, s.rxMatch c f = some n → n < 128 →
      ∃ t, exec (.frameReceived c f ago pos) s = .next t ∧ t.ob c n 0 = frameId f ∧
        t.ob c n 12 = s.stamp ago.toNat pos.toNat ∧ bit (t.ob c n 8) 0 = true ∧
        getBits (t.ob c n 8) 8 8 = (getBits (s.ob c n 8) 8 8 + 1) % 256 ∧ t.on (F.CAN_IRQST_RXOBJ c) = true ∧
        (∀ k, k < 128 → k ≠ n → ∀ o, o < 80 → t.ob c k o = s.ob c k o) ∧ sameMem s t ∧ outside [7] s t) ∧
    (∀ (k : Nat) (q : Fin 2), s.rxMatch c f = none → (List.range 64).find? (fun k => s.filterHit c k f) = some k →
      s.f (F.CAN_F_MASK_ACTION c k) = 1 + q.val →
      (∀ e, ((List.range 64).map (fun i => (s.f (F.CAN_Q_STAT_WIDX c q) + i) % 64)).find? (fun e => !s.qOwned c q e) = some e →
        ∃ t, exec (.frameReceived c f ago pos) s = .next t ∧ t.qOwned c q e = true ∧
          (∀ j, j < 64 → j ≠ e → t.qOwned c q j = s.qOwned c q j) ∧ t.rd (qAddr c q e 0) = frameId f ∧
          t.rd (qAddr c q e 8) % 65536 = s.f (F.CAN_Q_STAT_ARRSEQ c q) ∧ t.rd (qAddr c q e 12) = s.stamp ago.toNat pos.toNat ∧
          t.f (F.CAN_Q_STAT_ARRSEQ c q) = (s.f (F.CAN_Q_STAT_ARRSEQ c q) + 1) % 65536 ∧
          t.f (F.CAN_Q_STAT_WIDX c q) = (e + 1) % 64 ∧
          t.on (if q = 0 then F.CAN_IRQST_Q0 c else F.CAN_IRQST_Q1 c) = true ∧ sameMem s t ∧ outside [7] s t) ∧
      ((∀ e, e < 64 → s.qOwned c q e = true) →
        ∃ t, exec (.frameReceived c f ago pos) s = .next t ∧ t.on (F.CAN_IRQST_QDROP c) = true ∧
          t.f (if q = 0 then F.CAN_Q0DROPCNT c else F.CAN_Q1DROPCNT c)
            = min (s.f (if q = 0 then F.CAN_Q0DROPCNT c else F.CAN_Q1DROPCNT c) + 1) (2 ^ 32 - 1) ∧
          (∀ e, e < 64 → t.qOwned c q e = true) ∧ sameMem s t ∧ outside [7] s t)) ∧
    (s.rxMatch c f = none → (∀ k, k < 64 → s.filterHit c k f = false) →
      ∃ t, exec (.frameReceived c f ago pos) s = .next t ∧
        t.f (F.CAN_NOMATCHCNT c) = min (s.f (F.CAN_NOMATCHCNT c) + 1) (2 ^ 32 - 1) ∧
        sameRegs s t ((F.CAN_NOMATCHCNT c).addr :: (F.CAN_ERRCNT_TEC c).addr :: (F.CAN_STAT_STATE c).addr ::
          (F.CAN_IRQST_ERRST c).addr :: countRegs) ∧ sameMem s t) ∧
    (s.canDrives c = true → 0 < s.recErr c → s.recErr c ≤ 127 →
      ∃ t, exec (.frameReceived c f ago pos) s = .next t ∧ t.recErr c = s.recErr c - 1 ∧ t.tec c = s.tec c)) ∧
  (∀ (s : State) (c : Fin 2) (f : CanFrame) (ago pos : BitVec 16), f.wf = true →
    ((s.canState c ≠ 1 ∧ s.canState c ≠ 3) ∨ (s.cc c).committed ≠ none ∨
      (f.fdf = true ∧ s.on (F.CAN_CTL_FDOE c) = false)) → exec (.frameReceived c f ago pos) s = .next s) ∧
  (∀ (s : State) (c q : Fin 2) (m : Master) (w : Word), s.wf = true → s.admits m (F.CAN_Q_ACK_IDX c q).addr = true →
    ((s.qOwned c q (w.toNat % 64) = false ∨ s.on (if q = 0 then F.CAN_CTL_Q0OWN c else F.CAN_CTL_Q1OWN c) = true) →
      exec (.queueAck c m q w) s = .next (s.reject (masterCode m) (F.CAN_Q_ACK_IDX c q).addr)) ∧
    (s.qOwned c q (w.toNat % 64) = true → s.on (if q = 0 then F.CAN_CTL_Q0OWN c else F.CAN_CTL_Q1OWN c) = false →
      ∃ t, exec (.queueAck c m q w) s = .next t ∧ t.qOwned c q (w.toNat % 64) = false ∧
        (∀ e, e < 64 → e ≠ w.toNat % 64 → t.qOwned c q e = s.qOwned c q e) ∧
        sameRegs s t [(F.CAN_Q_OWN0 c q).addr, (F.CAN_Q_OWN1 c q).addr, (F.CAN_Q_STAT_NOWNED c q).addr] ∧ sameMem s t)) ∧
  (∀ (s : State) (c : Fin 2), s.wf = true → s.can.length = 2 → s.canDrives c = true → (s.cc c).stopping = false →
    s.tec c ≤ 247 →
    ((s.cc c).committed = none → ∀ heavy : Bool,
      ∃ t, exec (.busError c ⟨if heavy then .receiverHeavy else .receiver, none⟩) s = .next t ∧
        t.recErr c = min (s.recErr c + (if heavy then 8 else 1)) 255 ∧ t.tec c = s.tec c ∧ t.canState c = 3 ∧
        t.f (F.CAN_STAT_ERRST c) = (if 127 < s.tec c ∨ 127 < s.recErr c + (if heavy then 8 else 1) then 1 else 0) ∧
        sameRegs s t ((F.CAN_ERRCNT_TEC c).addr :: (F.CAN_STAT_STATE c).addr :: (F.CAN_IRQST_ERRST c).addr :: countRegs) ∧
        sameMem s t) ∧
    ((s.cc c).committed = none →
      ∃ t, exec (.busError c ⟨.transmitterHeavy, none⟩) s = .next t ∧ t.tec c = s.tec c + 8 ∧ t.recErr c = s.recErr c ∧
        sameRegs s t ((F.CAN_ERRCNT_TEC c).addr :: (F.CAN_STAT_STATE c).addr :: (F.CAN_IRQST_ERRST c).addr :: countRegs) ∧
        sameMem s t) ∧
    (∀ n, n < 128 → (s.cc c).committed = some n → (s.cc c).held = false → (s.cc c).probes = [] →
      (∃ t, exec (.busError c ⟨.transmitter false, none⟩) s = .next t ∧ t.tec c = s.tec c + 8 ∧ t.recErr c = s.recErr c ∧
        (t.cc c).committed = none ∧ t.isPend c n = s.isPend c n ∧
        getBits (t.ob c n 8) 8 8 = min (getBits (s.ob c n 8) 8 8 + 1) 255 ∧
        sameRegs s t ((F.CAN_ERRCNT_TEC c).addr :: (F.CAN_STAT_STATE c).addr :: (F.CAN_IRQST_ERRST c).addr ::
          objAddr c n 8 :: countRegs) ∧ sameMem s t) ∧
      (∃ t, exec (.busError c ⟨.stuffArb, none⟩) s = .next t ∧ t.tec c = s.tec c ∧ t.recErr c = s.recErr c ∧
        (t.cc c).committed = none ∧ t.isPend c n = s.isPend c n ∧ sameRegs s t [objAddr c n 8] ∧ sameMem s t) ∧
      (∀ quiet : Bool,
        ∃ t, exec (.busError c ⟨.ack quiet, none⟩) s = .next t ∧ (t.cc c).committed = none ∧
          t.tec c = s.tec c + (if s.f (F.CAN_STAT_ERRST c) = 1 ∧ quiet = true then 0 else 8) ∧
          getBits (t.ob c n 8) 16 8 = min (getBits (s.ob c n 8) 16 8 + 1) 255 ∧
          (if s.on (F.CAN_STAT_ALONE c) = true ∨ max (s.f (F.CAN_CTL_ALONETH c)) 1 ≤ getBits (s.ob c n 8) 16 8 + 1 then
            t.isPend c n = false ∧ t.isPark c n = true ∧ t.on (F.CAN_STAT_ALONE c) = true
          else t.isPend c n = s.isPend c n ∧ t.isPark c n = s.isPark c n ∧ t.on (F.CAN_STAT_ALONE c) = false) ∧
          sameMem s t ∧ outside [7] s t))) ∧
  (∀ (s : State) (c : Fin 2) (n : Nat), s.wf = true → s.can.length = 2 → s.canDrives c = true → (s.cc c).stopping = false →
    n < 128 → (s.cc c).committed = some n → 247 < s.tec c → s.tec c ≤ 255 → s.f (F.CAN_STAT_ERRST c) ≠ 2 →
    ∃ t, exec (.busError c ⟨.transmitter false, none⟩) s = .next t ∧ t.canState c = 4 ∧ t.f (F.CAN_STAT_ERRST c) = 2 ∧
      t.tec c = 256 ∧ t.on (F.CAN_IRQST_BUSOFF c) = true ∧ (t.cc c).committed = none ∧ (t.cc c).cancels = [] ∧
      sameMem s t ∧ outside [7, 9] s t) ∧
  (∀ (s : State) (c : Fin 2) (e : BusErr), (s.cc c).stopping = false → s.canDrives c = false →
    exec (.busError c e) s = .next s) ∧
  (∀ (s : State) (c : Fin 2) (m : Master) (n : Fin 128) (i : Fin 20) (w : Word), s.wf = true →
    s.admits m (objAddr c n (4 * i.val)) = true →
    ((s.f (F.CAN_CTL_ZPTX c) > n.val ∨ (i.val ≠ 2 ∧ bit (s.ob c n 4) 8 = true ∧ s.objBusy c n = true) ∨
        (i.val ≠ 2 ∧ bit (s.ob c n 4) 8 = false ∧ bit (s.ob c n 4) 9 = true) ∨ i.val = 3 ∨
        (4 ≤ i.val ∧ bit (s.ob c n 4) 8 = false) ∨
        (i.val = 0 ∧ s.objBad c n (w.toNat % 2 ^ 31) (s.ob c n 4) = true) ∨
        (i.val = 1 ∧ s.objBad c n (s.ob c n 0) (andN w.toNat 0x37F) = true)) →
      exec (.objectWrite c m n i w) s = .next (s.reject (masterCode m) (objAddr c n (4 * i.val)))) ∧
    (s.f (F.CAN_CTL_ZPTX c) ≤ n.val → i.val = 2 →
      ∃ t, exec (.objectWrite c m n i w) s = .next t ∧
        t.ob c n 8 = andNot (s.ob c n 8) (andN w.toNat (if bit (s.ob c n 4) 8 then 31 else 3)) ∧
        sameRegs s t [objAddr c n 8] ∧ sameMem s t) ∧
    (s.f (F.CAN_CTL_ZPTX c) ≤ n.val →
      (bit (s.ob c n 4) 8 = true → s.objBusy c n = false) → (bit (s.ob c n 4) 8 = false → bit (s.ob c n 4) 9 = false) →
      (i.val = 0 → s.objBad c n (w.toNat % 2 ^ 31) (s.ob c n 4) = false →
        ∃ t, exec (.objectWrite c m n i w) s = .next t ∧ t.ob c n 0 = w.toNat % 2 ^ 31 ∧
          sameRegs s t [objAddr c n 0] ∧ sameMem s t) ∧
      (i.val = 1 → s.objBad c n (s.ob c n 0) (andN w.toNat 0x37F) = false →
        ∃ t, exec (.objectWrite c m n i w) s = .next t ∧ t.ob c n 4 = andN w.toNat 0x37F ∧
          sameRegs s t [objAddr c n 4] ∧ sameMem s t) ∧
      (4 ≤ i.val → bit (s.ob c n 4) 8 = true →
        ∃ t, exec (.objectWrite c m n i w) s = .next t ∧ t.ob c n (4 * i.val) = w.toNat ∧
          sameRegs s t [objAddr c n (4 * i.val)] ∧ sameMem s t)))

/-- Transmission: a request makes the idle transmit objects that it names pending and clears their flags; one that names an
object not enabled for transmission, an FD object while FD may not be sent, or one of the Zone Protocol layer is turned away
(R392, R393); off the bus a cancellation is taken at once, on it when its sample point comes (R397, R398); from the
first tick on, the lowest key is committed (R64, R395), returns to pending when arbitration is lost, and ends DONE on success,
its frame sent (R396, R409), which also ends ALONE (R406); while ALONE the lowest parked object is tried again after each
second edge (R405). A cancellation that names an object of the layer is discarded (log entry 46), and a success takes 1 from
TEC (log entry 69): the model's reading. -/
def Obligations.FramesAreTransmitted : Prop :=
  (∀ (s : State) (c : Fin 2) (m : Master) (k : Fin 4) (w : Word), s.wf = true →
    s.admits m (canAddr c (0x30 + 4 * k.val)) = true →
    ((∃ n, n ∈ wordObjs k w.toNat ∧ s.txReqBad c n false = true) →
      exec (.transmitRequest c m k w) s = .next (s.reject (masterCode m) (canAddr c (0x30 + 4 * k.val)))) ∧
    ((∀ n, n ∈ wordObjs k w.toNat → s.txReqBad c n false = false) →
      ∃ t, exec (.transmitRequest c m k w) s = .next t ∧
        (∀ n, n ∈ wordObjs k w.toNat → s.objBusy c n = false → t.isPend c n = true ∧ t.ob c n 8 = andN (s.ob c n 8) 8) ∧
        (∀ n, n < 128 → (n ∉ wordObjs k w.toNat ∨ s.objBusy c n = true) → t.isPend c n = s.isPend c n ∧
          t.ob c n 8 = s.ob c n 8) ∧
        sameRegs s t ((F.CAN_TXPEND c k).addr :: (wordObjs k w.toNat).map (fun n => objAddr c n 8)) ∧ sameMem s t)) ∧
  (∀ (s : State) (c : Fin 2) (m : Master) (k : Fin 4) (w : Word), s.wf = true → s.can.length = 2 →
    s.admits m (canAddr c (0x40 + 4 * k.val)) = true →
    ((∃ n, n ∈ wordObjs k w.toNat ∧ n < s.f (F.CAN_CTL_ZPTX c)) →
      exec (.transmitCancel c m k w) s = .next (s.reject (masterCode m) (canAddr c (0x40 + 4 * k.val)))) ∧
    ((∀ n, n ∈ wordObjs k w.toNat → s.f (F.CAN_CTL_ZPTX c) ≤ n) →
      (s.canDrives c = true →
        ∃ t, exec (.transmitCancel c m k w) s = .next t ∧ (t.cc c).cancels = (s.cc c).cancels ++
            (wordObjs k w.toNat).filter (fun n => s.objBusy c n && !(s.cc c).cancels.contains n) ∧
          sameRegs s t [] ∧ sameMem s t) ∧
      (s.canDrives c = false → (s.cc c).committed = none →
        ∃ t, exec (.transmitCancel c m k w) s = .next t ∧
          (∀ n, n ∈ wordObjs k w.toNat → t.objBusy c n = false ∧ (s.objBusy c n = true → bit (t.ob c n 8) 1 = true)) ∧
          (∀ n, n < 128 → n ∉ wordObjs k w.toNat → t.objBusy c n = s.objBusy c n ∧ t.ob c n 8 = s.ob c n 8) ∧
          ((∃ n, n ∈ wordObjs k w.toNat ∧ s.objBusy c n = true) → t.on (F.CAN_IRQST_TXEND c) = true) ∧
          sameMem s t ∧ outside [7] s t))) ∧
  (∀ (s : State) (c : Fin 2) (n : Fin 128), s.wf = true → s.can.length = 2 → (s.cc c).cancels.contains n.val = true →
    (s.objBusy c n = true → (s.cc c).committed ≠ some n.val →
      ∃ t, exec (.cancelTaken c n) s = .next t ∧ (t.cc c).cancels = (s.cc c).cancels.filter (· != n.val) ∧
        t.objBusy c n = false ∧ bit (t.ob c n 8) 1 = true ∧ t.on (F.CAN_IRQST_TXEND c) = true ∧
        (∀ k : Fin 128, k ≠ n → t.objBusy c k = s.objBusy c k ∧ t.ob c k 8 = s.ob c k 8) ∧ sameMem s t ∧ outside [7] s t) ∧
    (s.objBusy c n = true → (s.cc c).committed = some n.val →
      ∃ t, exec (.cancelTaken c n) s = .next t ∧ (t.cc c).held = true ∧
        (t.cc c).cancels = (s.cc c).cancels.filter (· != n.val) ∧ sameRegs s t [] ∧ sameMem s t) ∧
    (s.objBusy c n = false →
      ∃ t, exec (.cancelTaken c n) s = .next t ∧ (t.cc c).cancels = (s.cc c).cancels.filter (· != n.val) ∧
        sameRegs s t [] ∧ sameMem s t)) ∧
  (∀ (s : State) (c : Fin 2) (n : Fin 128), (s.cc c).cancels.contains n.val = false → exec (.cancelTaken c n) s = .next s) ∧
  (∀ (s : State) (c : Fin 2) (n : Nat), s.can.length = 2 → s.boot.ticked = true → s.canDrives c = true →
    (s.cc c).committed = none → (s.cc c).stopping = false →
    s.lowestKey c ((List.range 128).filter (s.isPend c)) = some n →
    ∃ t, exec (.transmitCommit c) s = .next t ∧ (t.cc c).committed = some n ∧ (t.cc c).held = false ∧
      (∀ k, k < 128 → s.isPend c k = true → s.objKey c n ≤ s.objKey c k) ∧ sameRegs s t [] ∧ sameMem s t) ∧
  (∀ (s : State) (c : Fin 2), (s.boot.ticked = false ∨ s.canDrives c = false ∨ (s.cc c).committed ≠ none ∨
      (s.cc c).stopping = true ∨ ∀ k, k < 128 → s.isPend c k = false) → exec (.transmitCommit c) s = .next s) ∧
  (∀ (s : State) (c : Fin 2) (n : Nat), s.wf = true → s.can.length = 2 → n < 128 → (s.cc c).committed = some n →
    ((s.cc c).held = false → (s.cc c).probes = [] →
      ∃ t, exec (.arbitrationLost c) s = .next t ∧ (t.cc c).committed = none ∧ t.isPend c n = s.isPend c n ∧
        getBits (t.ob c n 8) 8 8 = min (getBits (s.ob c n 8) 8 8 + 1) 255 ∧ sameRegs s t [objAddr c n 8] ∧ sameMem s t) ∧
    ((s.cc c).held = true →
      ∃ t, exec (.arbitrationLost c) s = .next t ∧ (t.cc c).committed = none ∧ t.objBusy c n = false ∧
        bit (t.ob c n 8) 1 = true ∧ t.on (F.CAN_IRQST_TXEND c) = true ∧ sameMem s t ∧ outside [7] s t) ∧
    (∀ (ago pos : BitVec 16) (v : BitVec 8), s.tec c ≤ 256 → (s.cc c).stopping = false →
      ∃ t, exec (.transmitSuccess c ago pos v) s = .next t ∧ (t.cc c).committed = none ∧ t.isPend c n = false ∧
        (t.cc c).sent = (s.cc c).sent ++ [s.sentFrame c n] ∧ bit (t.ob c n 8) 0 = true ∧
        bit (t.ob c n 8) 2 = ((s.cc c).held || bit (s.ob c n 8) 2) ∧ getBits (t.ob c n 8) 16 8 = 0 ∧
        t.ob c n 12 = s.stamp ago.toNat pos.toNat ∧ t.on (F.CAN_IRQST_TXDONE c) = true ∧
        ((s.cc c).held = true → t.f (F.CAN_LATECNT c) = min (s.f (F.CAN_LATECNT c) + 1) (2 ^ 32 - 1) ∧
          t.on (F.CAN_IRQST_TXEND c) = true) ∧
        t.on (F.CAN_STAT_ALONE c) = false ∧ t.tec c = s.tec c - 1 ∧
        (∀ k : Fin 128, k.val ≠ n → t.isPend c k = s.objBusy c k ∧ t.isPark c k = false) ∧ sameMem s t ∧
        outside [7] s t)) ∧
  (∀ (s : State) (c : Fin 2) (ago pos : BitVec 16) (v : BitVec 8), (s.cc c).committed = none →
    exec (.arbitrationLost c) s = .next s ∧ exec (.transmitSuccess c ago pos v) s = .next s) ∧
  (∀ (s : State) (c : Fin 2), s.wf = true → s.can.length = 2 → s.boot.ticked = true → s.canDrives c = true →
    s.on (F.CAN_STAT_ALONE c) = true → (s.cc c).probeDue = true → (s.cc c).committed = none →
    (∀ n, n < 128 → s.lowestKey c ((List.range 128).filter (s.isPark c)) = some n →
      ∃ t, exec (.aloneProbe c) s = .next t ∧ t.isPend c n = true ∧ t.isPark c n = false ∧ (t.cc c).probeDue = false ∧
        (t.cc c).probes = (s.cc c).probes ++ [n] ∧
        sameRegs s t [(F.CAN_TXPEND c (n / 32)).addr, (F.CAN_TXPARK c (n / 32)).addr] ∧ sameMem s t) ∧
    ((∀ n, n < 128 → s.isPark c n = false) →
      ∃ t, exec (.aloneProbe c) s = .next t ∧ (t.cc c).probeDue = false ∧ sameRegs s t [] ∧ sameMem s t)) ∧
  (∀ (s : State) (c : Fin 2), (s.boot.ticked = false ∨ s.canDrives c = false ∨ s.on (F.CAN_STAT_ALONE c) = false ∨
      (s.cc c).probeDue = false ∨ (s.cc c).committed ≠ none) → exec (.aloneProbe c) s = .next s)

/-! ### The Zone Protocol (R413 to R439) -/

/-- A sound JOIN makes its sender joining, keeps what it offered and sends it an OFFER (R424), out of a quarantine too
(R439); one without a common version is a violation of code 8 and leaves its sender absent (R424, R438). An ACCEPT of the
terms that were offered makes it joined, with those terms in force and its streams anew (R424, R426); other terms are a
violation of code 4 and leave it absent, an ACCEPT of an OFFER of another session is ignored (R426). A LEAVE of a joined
partner makes it absent from version 1.1 on (R427); a rollcall reply counts as a valid frame (R436). Frames of a wrong length
or, but for JOIN, from a node that is not joined are violations of code 1 and 6 (R438). Each frame is released. The order of the checks (log entry 74) and that only the
joined state is left with VALID lost (log entry 75) are the model's reading. -/
def Obligations.ZonePartnersJoinAndLeave : Prop :=
  (∀ (s t : State) (b : Fin 2) (x : ZpRx), s.wf = true → s.zp.length = 2 → (t.zb b).partners.length = 128 →
    s.zpFront b .join t x →
    (x.len = 8 → ctlFd x = false → 1 ≤ t.rxByte b x 0 → t.rxByte b x 0 < 8 → t.rxByte b x 1 < 8 →
      isFdSize (t.rxByte b x 2) = true →
      (andN (t.f F.ZP_CFG_VERS) (t.rxByte b x 0) ≠ 0 →
        ∃ u, exec (.zpJoin b) s = .next u ∧ u.ptState b x.src = 1 ∧ u.f (F.ZP_PT0_HEARD b x.src) = 0 ∧
          u.f (F.ZP_PT0_CLASS b x.src) = t.rxByte b x 3 ∧ u.on (F.ZP_PT0_FDTOL b x.src) = bit (t.rxByte b x 1) 0 ∧
          (u.pn b x.src).vers = t.rxByte b x 0 ∧ (u.pn b x.src).caps = t.rxByte b x 1 ∧
          (u.pn b x.src).maxlen = t.rxByte b x 2 ∧ (u.pn b x.src).waiting = true ∧ (u.pn b x.src).offer.isSome = true ∧
          ((t.zb b).wait.length < 256 → (u.zb b).wait.any (fun f => f.typ == 1 && f.dst == x.src) = true) ∧
          (t.ptState b x.src = 3 → u.f (F.ZP_PT1_QLEFT b x.src) = 0 ∧ u.f (F.ZP_PT1_VIOL b x.src) = 0) ∧
          zpReleased t u b x ∧ sameMem s u) ∧
      (andN (t.f F.ZP_CFG_VERS) (t.rxByte b x 0) = 0 →
        ∃ u, exec (.zpJoin b) s = .next u ∧ u.ptState b x.src = (if t.ptState b x.src = 3 then 3 else 0) ∧
          zpViolated t u b x 8 ∧ zpReleased t u b x ∧ sameMem s u)) ∧
    (x.len ≠ 8 → ∃ u, exec (.zpJoin b) s = .next u ∧ zpViolated t u b x 1 ∧ zpReleased t u b x)) ∧
  (∀ (s t : State) (b : Fin 2) (x : ZpRx), s.wf = true → s.zp.length = 2 → (t.zb b).partners.length = 128 →
    s.zpFront b .accept t x →
    (∀ o : ZpOffer, x.len = 8 → (t.pn b x.src).offer = some o → t.rxNum b x 4 2 = o.session →
      (ctlFd x = false → t.rxByte b x 0 = o.ver → t.rxByte b x 1 = o.fmt → t.rxByte b x 2 = o.len →
        t.rxByte b x 3 = 0 → t.rxByte b x 6 = 0 → t.rxByte b x 7 = 0 → (t.ptState b x.src = 1 ∨ t.ptState b x.src = 2) →
        ∃ u, exec (.zpAccept b) s = .next u ∧ u.ptState b x.src = 2 ∧ u.f (F.ZP_PT0_HEARD b x.src) = 0 ∧
          u.f (F.ZP_PT0_VER b x.src) = (if o.ver = 0x20 then 3 else if o.ver = 0x11 then 2 else 1) ∧
          u.f (F.ZP_PT0_LEN b x.src) = o.len ∧
          u.on (F.ZP_PT0_FDUSE b x.src) = bit o.fmt 0 ∧ u.on (F.ZP_PT0_BRS b x.src) = bit o.fmt 1 ∧
          (u.pn b x.src).waiting = false ∧ (u.pn b x.src).first = true ∧ (u.pn b x.src).expPub = 0 ∧
          (u.pn b x.src).expDir = 0 ∧ (u.pn b x.src).tx.seq = 0 ∧ zpReleased t u b x ∧ sameMem s u) ∧
      (ctlFd x = false → (t.rxByte b x 0 ≠ o.ver ∨ t.rxByte b x 1 ≠ o.fmt ∨ t.rxByte b x 2 ≠ o.len) →
        (t.pn b x.src).hist.length < 15 →
        ∃ u, exec (.zpAccept b) s = .next u ∧ u.ptState b x.src = (if t.ptState b x.src = 3 then 3 else 0) ∧
          zpViolated t u b x 4 ∧ zpReleased t u b x ∧ sameMem s u)) ∧
    (∀ o : ZpOffer, x.len = 8 → (t.pn b x.src).offer = some o → t.rxNum b x 4 2 ≠ o.session →
      exec (.zpAccept b) s = .next (t.zpAck b x)) ∧
    (x.len ≠ 8 → ∃ u, exec (.zpAccept b) s = .next u ∧ zpViolated t u b x 1 ∧ zpReleased t u b x) ∧
    (x.len = 8 → (t.pn b x.src).offer = none →
      ∃ u, exec (.zpAccept b) s = .next u ∧ zpViolated t u b x 6 ∧ zpReleased t u b x)) ∧
  (∀ (s t : State) (b : Fin 2) (x : ZpRx), s.wf = true → s.zp.length = 2 → s.zpFront b .leave t x →
    (x.len = 0 → ctlFd x = false → t.zpGood b x = true →
      ∃ u, exec (.zpLeave b) s = .next u ∧
        (2 ≤ t.f (F.ZP_PT0_VER b x.src) → u.ptState b x.src = 0 ∧ u.f (F.ZP_PT0_VER b x.src) = 0 ∧
          u.f (F.ZP_PT0_LEN b x.src) = 0) ∧
        (t.f (F.ZP_PT0_VER b x.src) < 2 → u.ptState b x.src = 2 ∧ sameMem s u) ∧ zpReleased t u b x ∧
        ∀ a, 0x20000 ≤ a → u.mb a = s.mb a) ∧
    (x.len ≠ 0 → ∃ u, exec (.zpLeave b) s = .next u ∧ zpViolated t u b x 1 ∧ zpReleased t u b x) ∧
    (x.len = 0 → t.ptState b x.src ≠ 2 →
      ∃ u, exec (.zpLeave b) s = .next u ∧ zpViolated t u b x 6 ∧ zpReleased t u b x)) ∧
  (∀ (s t : State) (b : Fin 2) (x : ZpRx), s.wf = true → s.zp.length = 2 → s.zpFront b .roll t x →
    (x.len = 1 → ctlFd x = false → t.rxByte b x 0 < 4 →
      ∃ u, exec (.zpRollcallReply b) s = .next u ∧ u.f (F.ZP_PT0_HEARD b x.src) = 0 ∧
        u.ptState b x.src = t.ptState b x.src ∧ u.zp = t.zp ∧ zpReleased t u b x ∧ sameMem s u) ∧
    (x.len ≠ 1 → ∃ u, exec (.zpRollcallReply b) s = .next u ∧ zpViolated t u b x 1 ∧ zpReleased t u b x))

/-- Frames of joined partners within their terms: a PUBLISH updates the points its records name, or marks them not valid, and
counts a record that names none (R421, R431), and one out of sequence is a violation of code 3 besides (R421, R438). A TIME of
the time partner sets the RTC, rounded to the nearer second, where TIMEACC is set and the unit is ACTIVE, and a TIME of another
node is ignored (R435). A management request of a partner without permission is refused and counted; a permitted read of
main SRAM is answered with its words, a permitted write of one word has its effect as a master's write, and the answer
carries its status (R437). One that is carried out word by word waits for the steps that carry out its words (R584; log entry
11).
Frames that are only reported: a bad source and a NAK are logged and counted (R414, R438), a type that no partner may
send is a violation of code 2 (R416), frames of wrong length are violations of code 1, frames of nodes that are not joined of
code 6 (R438). Each frame is released. The order of the checks (log entry 74) and what a failed reply carries (log entry 77)
are the model's reading. -/
def Obligations.ZoneFramesActAndFaultsAreReported : Prop :=
  (∀ (s t : State) (b : Fin 2) (x : ZpRx), s.wf = true → s.zp.length = 2 → (t.zb b).partners.length = 128 →
    s.zpFront b .publish t x →
    (t.zpGood b x = true → x.len = 8 → t.rxNum b x 0 2 ≠ 0xFFFF → t.rxByte b x 2 < 4 → t.rxByte b x 3 = 0 →
      ((t.pn b x.src).resPub = true ∨ (t.pn b x.src).expPub = x.seq) →
      ∃ u, exec (.zpPublish b) s = .next u ∧ (u.pn b x.src).expPub = (x.seq + 1) % 128 ∧
        u.f (F.ZP_PT0_HEARD b x.src) = 0 ∧ u.f F.ZP_VIOLCNT = t.f F.ZP_VIOLCNT ∧
        (∀ p, p ∈ s.usedPts → p < 4096 → s.ptSrc p / 2 ^ 28 = 4 →
          s.ptSrc p % 2 ^ 24 = 2 ^ 23 * b.val + 2 ^ 16 * x.src + t.rxNum b x 0 2 →
          (bit (t.rxByte b x 2) 1 = true → bit (u.ptQual p) 20 = false ∧ u.mw (ptAddr p + 8) = s.mw (ptAddr p + 8)) ∧
          (bit (t.rxByte b x 2) 1 = false → bit (u.ptQual p) 20 = true ∧ bit (u.ptQual p) 24 = bit (t.rxByte b x 2) 0 ∧
            u.mw (ptAddr p + 20) = t.rxNum b x 4 4 ∧
            (bit (s.ptQual p) 22 = false → u.mw (ptAddr p + 8) = t.rxNum b x 4 4))) ∧
        ((∀ p, p ∈ s.usedPts → s.ptSrc p / 2 ^ 28 = 4 →
            s.ptSrc p % 2 ^ 24 ≠ 2 ^ 23 * b.val + 2 ^ 16 * x.src + t.rxNum b x 0 2) →
          u.f F.ZP_NOPTCNT = min (t.f F.ZP_NOPTCNT + 1) (2 ^ 32 - 1) ∧ sameMem s u) ∧
        zpReleased t u b x ∧ ∀ a, 0x20000 ≤ a → u.mb a = s.mb a) ∧
    (t.zpGood b x = true → x.len = 8 → t.rxNum b x 0 2 = 0xFFFF →
      ((t.pn b x.src).resPub = true ∨ (t.pn b x.src).expPub = x.seq) →
      ∃ u, exec (.zpPublish b) s = .next u ∧ (u.pn b x.src).expPub = (x.seq + 1) % 128 ∧ zpReleased t u b x ∧ sameMem s u) ∧
    (t.zpGood b x = true → x.len = 8 → (t.rxNum b x 0 2 = 0xFFFF ∨ (t.rxByte b x 2 < 4 ∧ t.rxByte b x 3 = 0)) →
      (t.pn b x.src).resPub = false → (t.pn b x.src).expPub ≠ x.seq →
      ∃ u, exec (.zpPublish b) s = .next u ∧ zpViolated t u b x 3 ∧ zpReleased t u b x) ∧
    ((isFdSize x.len && x.len % 8 == 0) = false →
      ∃ u, exec (.zpPublish b) s = .next u ∧ zpViolated t u b x 1 ∧ zpReleased t u b x) ∧
    (t.ptState b x.src ≠ 2 → x.len = 8 → t.rxByte b x 2 < 4 → t.rxByte b x 3 = 0 →
      ∃ u, exec (.zpPublish b) s = .next u ∧ zpViolated t u b x 6 ∧ zpReleased t u b x)) ∧
  (∀ (s t : State) (b : Fin 2) (x : ZpRx), s.wf = true → s.zp.length = 2 → s.zpFront b .time t x →
    (x.src = t.f F.ZP_TIME_TIMENODE → b.val = t.f F.ZP_TIME_TIMEBUS → t.zpGood b x = true → x.len = 8 →
      ctlFd x = false → t.rxNum b x 4 2 ≤ 999 → t.rxByte b x 6 = 0 → t.rxByte b x 7 = 0 →
      ∃ u, exec (.zpTime b) s = .next u ∧ u.f (F.ZP_PT0_HEARD b x.src) = 0 ∧ zpReleasedBut [6] t u b x ∧ sameMem s u ∧
        (t.on F.ZP_TIME_TIMEACC = true → t.active = true →
          u.f F.ALM_RTC = (t.rxNum b x 0 4 + (if 500 ≤ t.rxNum b x 4 2 then 1 else 0)) % 2 ^ 32 ∧
          u.on F.ALM_STAT_RTCSET = true) ∧
        ((t.on F.ZP_TIME_TIMEACC = false ∨ t.active = false) → zpReleased t u b x)) ∧
    ((x.src ≠ t.f F.ZP_TIME_TIMENODE ∨ b.val ≠ t.f F.ZP_TIME_TIMEBUS) → exec (.zpTime b) s = .next (t.zpAck b x)) ∧
    (x.src = t.f F.ZP_TIME_TIMENODE → b.val = t.f F.ZP_TIME_TIMEBUS → x.len ≠ 8 →
      ∃ u, exec (.zpTime b) s = .next u ∧ zpViolated t u b x 1 ∧ zpReleased t u b x)) ∧
  (∀ (s t : State) (b : Fin 2) (x : ZpRx) (a n : Nat) (sp : Bool), s.wf = true → s.zp.length = 2 → (t.zb b).partners.length = 128 →
    s.zpFront b .mgmtRead t x → t.zpGood b x = true → x.len = 8 → a = t.rxNum b x 0 4 → n = t.rxByte b x 4 →
    a % 4 = 0 → 1 ≤ n → n ≤ 15 → 4 + 4 * n ≤ t.f (F.ZP_PT0_LEN b x.src) → t.rxByte b x 5 = 0 → t.rxByte b x 6 = 0 →
    t.rxByte b x 7 = 0 → 2 ≤ t.f (F.ZP_PT0_VER b x.src) → (t.zb b).wait.length < 256 →
    ((t.pn b x.src).resDir = true ∨ (t.pn b x.src).expDir = x.seq) →
    (bit (t.f (F.ZP_MGMTEN b (x.src / 32))) (x.src % 32) = true → a + 4 * n ≤ 0x200000 →
      ∃ u f, exec (.zpMgmtRead b) s = .next u ∧ (u.zb b).wait = (t.zb b).wait ++ [f] ∧ f.typ = 0xA ∧ f.dst = x.src ∧
        f.data.take (4 + 4 * n) = word4 x.seq ++ (List.range n).flatMap (fun k => word4 (s.mw (a + 4 * k))) ∧
        zpReleased t u b x ∧ sameMem s u) ∧
    (bit (t.f (F.ZP_MGMTEN b (x.src / 32))) (x.src % 32) = true → 0x200000 ≤ a → a + 4 * n ≤ 0x220000 →
      ∃ u, exec (.zpMgmtRead b) s = .next u ∧ (u.zb b).mgmt = some ⟨x.src, x.seq, false, x.e⟩ ∧
        u.fol.txns = s.fol.txns ++ [⟨.partner b, none, a - 0x200000, [], 4 * n⟩] ∧ u.qOwned b (t.zpQueue b) x.e = true ∧
        sameMem s u ∧ outside [7, 8] s u) ∧
    (bit (t.f (F.ZP_MGMTEN b (x.src / 32))) (x.src % 32) = true → a + 4 * n ≤ 0x220000 →
      ∃ u r, exec (.zpMgmtRead b true) s = .next u ∧ (u.zb b).mgmt = some ⟨x.src, x.seq, false, x.e⟩ ∧
        u.reqs = s.reqs ++ [r] ∧ r.who = .partner b ∧ r.split = true ∧ r.write = false ∧ r.addr = a ∧ r.n = n ∧ r.k = 0 ∧
        r.status = 0 ∧ r.wait = none ∧ u.qOwned b (t.zpQueue b) x.e = true ∧ sameMem s u ∧ outside [7, 8] s u) ∧
    (bit (t.f (F.ZP_MGMTEN b (x.src / 32))) (x.src % 32) = false →
      ∃ u f, exec (.zpMgmtRead b sp) s = .next u ∧ (u.zb b).wait = (t.zb b).wait ++ [f] ∧ f.typ = 0xA ∧ f.dst = x.src ∧
        f.data.take 4 = word4 (x.seq + 256) ∧ u.f ⟨0x40080070, 0, 32⟩ = min (t.f ⟨0x40080070, 0, 32⟩ + 1) (2 ^ 32 - 1) ∧
        zpReleased t u b x ∧ sameMem s u)) ∧
  (∀ (s t v : State) (b : Fin 2) (x : ZpRx) (a : Nat) (sp : Bool), s.wf = true → s.zp.length = 2 → (t.zb b).partners.length = 128 →
    s.zpFront b .mgmtWrite t x → t.zpGood b x = true → x.len = 8 → a = t.rxNum b x 0 4 → a % 4 = 0 →
    2 ≤ t.f (F.ZP_PT0_VER b x.src) → (t.zb b).wait.length < 256 → inFolio a = false → mapped a = true →
    ((t.pn b x.src).resDir = true ∨ (t.pn b x.src).expDir = x.seq) →
    v = (((t.zpHeard b x.src).zpSeq b x false).setZb b (fun z => { z with mgmt := some ⟨x.src, x.seq, true, x.e⟩ })) →
    (bit (t.f (F.ZP_MGMTEN b (x.src / 32))) (x.src % 32) = true →
      ∃ u, exec (.zpMgmtWrite b) s = .next u ∧ u.mem = (v.masterWrite 2 a (t.rxNum b x 4 4) a).1.mem ∧
        (∀ k, blockOf k ≠ 7 → blockOf k ≠ 8 → u.rd k = (v.masterWrite 2 a (t.rxNum b x 4 4) a).1.rd k) ∧
        (blockOf a ≠ 7 → blockOf a ≠ 8 → ∃ f, (u.zb b).wait = (t.zb b).wait ++ [f] ∧ f.typ = 0xA ∧ f.dst = x.src ∧
          f.data.take 4 = word4 (x.seq + 256 * (if (v.busWrite a (t.rxNum b x 4 4)).2 then 0 else 3)))) ∧
    (bit (t.f (F.ZP_MGMTEN b (x.src / 32))) (x.src % 32) = true →
      ∃ u r, exec (.zpMgmtWrite b true) s = .next u ∧ (u.zb b).mgmt = some ⟨x.src, x.seq, true, x.e⟩ ∧
        u.reqs = s.reqs ++ [r] ∧ r.who = .partner b ∧ r.split = true ∧ r.write = true ∧ r.addr = a ∧ r.n = 1 ∧ r.k = 0 ∧
        r.data = [t.rxNum b x 4 4] ∧ r.status = 0 ∧ r.wait = none ∧ u.qOwned b (t.zpQueue b) x.e = true ∧ sameMem s u ∧
        outside [7, 8] s u) ∧
    (bit (t.f (F.ZP_MGMTEN b (x.src / 32))) (x.src % 32) = false →
      ∃ u f, exec (.zpMgmtWrite b sp) s = .next u ∧ (u.zb b).wait = (t.zb b).wait ++ [f] ∧ f.typ = 0xA ∧ f.dst = x.src ∧
        f.data.take 4 = word4 (x.seq + 256) ∧ zpReleased t u b x ∧ sameMem s u)) ∧
  (∀ (s t : State) (b : Fin 2) (x : ZpRx) (sp : Bool), s.wf = true → s.zp.length = 2 → s.zpFront b .mgmtRead t x →
    (x.len ≠ 8 → ∃ u, exec (.zpMgmtRead b sp) s = .next u ∧ zpViolated t u b x 1 ∧ zpReleased t u b x)) ∧
  (∀ (s t : State) (b : Fin 2) (x : ZpRx) (sp : Bool), s.wf = true → s.zp.length = 2 → s.zpFront b .mgmtWrite t x →
    (isFdSize x.len = false → ∃ u, exec (.zpMgmtWrite b sp) s = .next u ∧ zpViolated t u b x 1 ∧ zpReleased t u b x)) ∧
  (∀ (s t : State) (b : Fin 2) (x : ZpRx), s.wf = true → s.zpFront b .badSource t x →
    ∃ u, exec (.zpBadSource b) s = .next u ∧ u.f F.ZP_BADSRCCNT = min (t.f F.ZP_BADSRCCNT + 1) (2 ^ 32 - 1) ∧
      zpLogged s u 0x11 b.val x.id ∧ u.zp = t.zp ∧ zpReleased t u b x ∧ sameMem s u) ∧
  (∀ (s t : State) (b : Fin 2) (x : ZpRx), s.wf = true → s.zpFront b .nak t x →
    ∃ u, exec (.zpNakReceived b) s = .next u ∧ u.f F.ZP_NAKRXCNT = min (t.f F.ZP_NAKRXCNT + 1) (2 ^ 32 - 1) ∧
      zpLogged s u 0x12 (x.src + 256 * b.val) (t.rxNum b x 0 4) ∧ u.zp = t.zp ∧ zpReleased t u b x ∧ sameMem s u) ∧
  (∀ (s t : State) (b : Fin 2) (x : ZpRx), s.wf = true → s.zp.length = 2 → (t.zb b).partners.length = 128 →
    s.zpFront b .unknown t x →
    ∃ u, exec (.zpUnknownType b) s = .next u ∧ zpViolated t u b x 2 ∧ zpReleased t u b x ∧
      ((t.pn b x.src).hist.length < 15 → sameMem s u ∧
        u.f (F.ZP_PT1_VIOL b x.src) = (t.pn b x.src).hist.length + 1) ∧
      (15 ≤ (t.pn b x.src).hist.length → u.ptState b x.src = 3 ∧ u.f (F.ZP_PT1_QLEFT b x.src) = 600))

/-- The layer's timeouts: an OFFER without an ACCEPT, a silent partner and the end of a quarantine make the partner absent
(R426, R427, R439); the end of HOLD lets FD frames be used again (R430); a due ROLLCALL is sent to all (R436), or dropped and
counted where 256 frames wait (R434); a waiting frame is loaded into the object that is free for it, with its stream's
SEQ, and requested (R423), or reported where it is an FD frame that may not be sent (R393). What is not due changes
nothing. The master code of the layer's own report (log entry 122) and which ways of leaving lose VALID (log entry 75) are
the model's reading. -/
def Obligations.ZoneTimeoutsAct : Prop :=
  (∀ (s : State) (b : Fin 2) (n : Fin 128), s.wf = true → s.zp.length = 2 → (s.zb b).partners.length = 128 →
    (s.zpRuns b = true → (s.pn b n).waiting = true → s.zpOfferSent b n = true →
      ∃ t, exec (.zpOfferTimeout b n) s = .next t ∧ t.ptState b n = 0 ∧ t.f (F.ZP_PT0_LEN b n) = 0 ∧
        (t.pn b n).waiting = false ∧ t.f F.ZP_JOINFAILCNT = min (s.f F.ZP_JOINFAILCNT + 1) (2 ^ 32 - 1) ∧ sameMem s t ∧
        (∀ k : Fin 128, k ≠ n → t.ptState b k = s.ptState b k) ∧ outside [7, 8] s t) ∧
    ((s.zpRuns b = false ∨ (s.pn b n).waiting = false ∨ s.zpOfferSent b n = false) →
      exec (.zpOfferTimeout b n) s = .next s)) ∧
  (∀ (s : State) (b : Fin 2) (n : Fin 128), s.wf = true → s.zp.length = 2 → (s.zb b).partners.length = 128 →
    (s.zpEn b = true → s.ptState b n = 2 → s.f F.ZP_CFG_LOSTTO ≤ s.f (F.ZP_PT0_HEARD b n) →
      ∃ t, exec (.zpPartnerLost b n) s = .next t ∧ t.ptState b n = 0 ∧
        t.f F.ZP_LOSTCNT = min (s.f F.ZP_LOSTCNT + 1) (2 ^ 32 - 1) ∧
        (∀ p, p ∈ s.usedPts → p < 4096 → s.ptSrc p / 2 ^ 28 = 4 → getBits (s.ptSrc p) 16 7 = n.val →
          getBits (s.ptSrc p) 23 1 = b.val → bit (t.ptQual p) 20 = false) ∧
        (∀ k : Fin 128, k ≠ n → t.ptState b k = s.ptState b k) ∧
        outside [7, 8] s t ∧ ∀ a, 0x20000 ≤ a → t.mb a = s.mb a) ∧
    ((s.zpEn b = false ∨ s.ptState b n ≠ 2 ∨ s.f (F.ZP_PT0_HEARD b n) < s.f F.ZP_CFG_LOSTTO) →
      exec (.zpPartnerLost b n) s = .next s)) ∧
  (∀ (s : State) (b : Fin 2) (n : Fin 128), s.wf = true → s.zp.length = 2 → (s.zb b).partners.length = 128 →
    (s.ptState b n = 3 → s.f (F.ZP_PT1_QLEFT b n) = 0 →
      ∃ t, exec (.zpQuarantineEnd b n) s = .next t ∧ t.ptState b n = 0 ∧ t.f (F.ZP_PT1_VIOL b n) = 0 ∧
        (t.pn b n).hist = [] ∧ (∀ k : Fin 128, k ≠ n → t.ptState b k = s.ptState b k) ∧ sameMem s t ∧ outside [7, 8] s t) ∧
    ((s.ptState b n ≠ 3 ∨ s.f (F.ZP_PT1_QLEFT b n) ≠ 0) → exec (.zpQuarantineEnd b n) s = .next s)) ∧
  (∀ (s : State) (b : Fin 2), s.wf = true → s.zp.length = 2 →
    ((s.zb b).holdEnd = true →
      ∃ t, exec (.zpFdHoldEnd b) s = .next t ∧ t.f (zpHold b) = 0 ∧ (t.zb b).holdEnd = false ∧
        (s.zpRuns b = true → s.on (F.CAN_CTL_FDOE b) = true → (∀ n : Fin 127, n.val ≠ 0 →
          (s.ptState b n = 1 ∨ s.ptState b n = 2) → s.on (F.ZP_PT0_FDTOL b n) = true) →
          t.on (F.CAN_CTL_FDTX b) = true ∧ t.on (zpFd b) = true) ∧ sameMem s t ∧ outside [7, 8] s t) ∧
    ((s.zb b).holdEnd = false → exec (.zpFdHoldEnd b) s = .next s)) ∧
  (∀ (s : State) (b : Fin 2), s.wf = true → s.zp.length = 2 →
    (s.zpRuns b = true → (s.zb b).rollDue = true →
      ∃ t, exec (.zpRollcallBroadcast b) s = .next t ∧ (t.zb b).rollDue = false ∧ (t.zb b).rollCnt = 0 ∧ sameMem s t ∧
        ((s.zb b).wait.length < 256 →
          (t.zb b).wait = (s.zb b).wait ++ [⟨7, 127, false, false, [], []⟩] ∧ sameRegs s t []) ∧
        (256 ≤ (s.zb b).wait.length → (t.zb b).wait = (s.zb b).wait ∧
          t.f ⟨0x4008006C, 0, 32⟩ = min (s.f ⟨0x4008006C, 0, 32⟩ + 1) (2 ^ 32 - 1) ∧
          sameRegs s t (0x4008006C :: countRegs))) ∧
    ((s.zpRuns b = false ∨ (s.zb b).rollDue = false) → exec (.zpRollcallBroadcast b) s = .next s)) ∧
  (∀ (s u : State) (b : Fin 2) (o : Nat) (f : ZpFrame) (l : List ZpFrame), s.wf = true → s.zp.length = 2 →
    s.zpRuns b = true → u = s.zpSettle b → u.zpPick b [] (u.zb b).wait = some (o, f, l) →
    ((f.fd = false ∨ (s.on (F.CAN_CTL_FDOE b) = true ∧ s.on (F.CAN_CTL_FDTX b) = true)) →
      ∃ t, exec (.zpFrameLoad b) s = .next t ∧ (t.zb b).wait = l ∧ t.isPend b o = true ∧
        t.ob b o 0 = (2 ^ 29 + zpPrio f.typ * 2 ^ 26 + f.typ * 2 ^ 21 + s.ownNode b * 2 ^ 14 + f.dst * 2 ^ 7
          + (f.stream.elim 0 (fun k => (u.zpStream b k).seq))) % 2 ^ 32 ∧
        t.ob b o 4 = dlcOf f.data.length + 16 * b2n f.fd + 32 * b2n f.brs + 0x300 ∧
        (∀ k, k < 16 → t.ob b o (16 + 4 * k) = leNat ((f.data.drop (4 * k)).take 4)) ∧ sameMem s t ∧ outside [7] s t) ∧
    (f.fd = true → (s.on (F.CAN_CTL_FDOE b) = false ∨ s.on (F.CAN_CTL_FDTX b) = false) →
      ∃ t, exec (.zpFrameLoad b) s = .next t ∧ (t.zb b).wait = l ∧ (t.zb b).resend = (u.zb b).resend ++ f.binds ∧
        t.isPend b o = false ∧ t.f F.SVC_REJINFO_MASTER = 3 ∧ sameMem s t ∧ outside [7, 14] s t)) ∧
  (∀ (s : State) (b : Fin 2), s.zpRuns b = true → (s.zpSettle b).zpPick b [] ((s.zpSettle b).zb b).wait = none →
    ∃ t, exec (.zpFrameLoad b) s = .next t ∧ t.regs = s.regs ∧ t.mem = s.mem ∧ (t.zb b).wait = (s.zb b).wait)

/-! ### Pairs and the Curator (R443 to R485) -/

/-- What the selection line does: accepted high on a standby it starts the takeover: the unit is RESTORING, its drive groups
are held on the rotator from the mirror where the mirror is to be trusted and are off otherwise, its general channels take the
mirror's duties or their safe values, and the RTC is the peer's (R446, R478, R479); on an ineligible unit it is only shown with
SELREF, on one that holds the plant already with nothing else (R446). Accepted low on a unit that holds the plant it demotes it:
every output is low, engine, Almanac and bus controllers stop (R448). A unit that is not paired or has no tick does not look at
the line (R457). A takeover without a mirror to trust (log entry 78), the duties of a safe start (log entry 79) and what a
demoted unit keeps of its drives (log entry 85) are the model's reading. -/
def Obligations.SelectionMakesAndUnmakesActive : Prop :=
  (∀ s : State, s.wf = true → s.ce.drives.length = 6 → s.pwm.groups.length = 6 → s.selLive = true → s.standby = true →
    ∃ t, exec .curSelHigh s = .next t ∧ t.unitCode = 2 ∧ t.on F.PAIR_STAT_SELIN = true ∧ t.on F.SVC_IRQST_UNIT = true ∧
      t.f F.PAIR_TAKEOVERCNT = min (s.f F.PAIR_TAKEOVERCNT + 1) (2 ^ 32 - 1) ∧ t.on F.PWM_CTL_EN = true ∧
      t.pair.since = 0 ∧ t.pair.restored = false ∧ t.pair.calOn = false ∧ t.pair.seqOn = false ∧ t.pair.asm = none ∧
      (∀ g : Fin 6, s.safeStart = false → bit (s.mirWord 4) (16 + g) = true → bit (s.mirWord 4) g = false →
        t.on (F.PWM_G_COAST_EN g) = true ∧ t.on (F.PWM_G_CTL_OFF g) = false ∧ (t.drv g).resume = true ∧
        t.f (F.PWM_G_VDQ_VD g) = s.mirWord (0x4C + 12 * g) % 65536 ∧ t.f (F.PWM_G_INC g) = s.mirWord (0x54 + 12 * g)) ∧
      (∀ g : Fin 6, (s.safeStart = true ∨ bit (s.mirWord 4) (16 + g) = false ∨ bit (s.mirWord 4) g = true) →
        t.on (F.PWM_G_CTL_OFF g) = true) ∧
      (∀ c : Fin 32, t.f (F.PWM_GP_DUTY_DUTY c) =
        (if s.safeStart then s.safeDuty c else numAt s.pair.mirror (12 + 2 * c) 2)) ∧
      (s.pair.peerRtcSet = true → t.f F.ALM_RTC = (s.pair.peerRtc + s.pair.peerSecs) % 2 ^ 32 ∧
        t.on F.ALM_STAT_RTCSET = true) ∧
      (s.pair.peerRtcSet = false → t.f F.ALM_RTC = s.f F.ALM_RTC) ∧ outside [2, 4, 5, 6, 9, 14] s t ∧ sameMem s t) ∧
  (∀ s : State, s.wf = true → s.selLive = true → s.unitCode = 4 →
    ∃ t, exec .curSelHigh s = .next t ∧ t.on F.PAIR_STAT_SELIN = true ∧ t.on F.PAIR_STAT_SELREF = true ∧ t.unitCode = 4 ∧
      sameRegs s t [F.PAIR_STAT_SELIN.addr] ∧ sameMem s t) ∧
  (∀ s : State, s.wf = true → s.selLive = true → (s.unitCode = 0 ∨ s.unitCode = 2) →
    ∃ t, exec .curSelHigh s = .next t ∧ t.on F.PAIR_STAT_SELIN = true ∧ t.unitCode = s.unitCode ∧
      sameRegs s t [F.PAIR_STAT_SELIN.addr] ∧ sameMem s t) ∧
  (∀ s : State, s.wf = true → s.can.length = 2 → s.ce.drives.length = 6 → s.selLive = true →
    (s.unitCode = 0 ∨ s.unitCode = 2) →
    ∃ t, exec .curSelLow s = .next t ∧ t.unitCode = 3 ∧ t.on F.PAIR_STAT_SELIN = false ∧ t.on F.PWM_CTL_EN = false ∧
      (∀ (g p : Nat) (high : Bool), t.gatePin g p high = false) ∧ (∀ c, t.generalPin c = false) ∧
      t.ceStopped = true ∧ (∀ d : Fin 6, t.driveState d = 0 ∧ (t.drv d).cmd = none ∧ t.f (F.CE_DR_FAULT_CAUSE d) = 0 ∧
        t.f (F.CE_DR_STAT_STATE d) = 0 ∧ ∀ o, 0x80 ≤ o → o < 0x100 → t.mb (drAddr d + o) = 0) ∧
      t.canState 0 = 0 ∧ t.canState 1 = 0 ∧ t.alm.running = false ∧ t.alm.staged = [] ∧ t.adc.ready = false ∧
      t.on F.SVC_IRQST_UNIT = true ∧ t.pair.ckSending = false ∧ t.pair.swapLeft = 0 ∧ t.on F.PAIR_STAT_DUAL = false ∧
      outside [2, 3, 4, 5, 7, 8, 9, 14] s t ∧ ∀ a, (a < 0x100000 ∨ 0x200000 ≤ a) → t.mb a = s.mb a) ∧
  (∀ s : State, s.wf = true → s.selLive = true → s.unitCode ≠ 0 → s.unitCode ≠ 2 →
    ∃ t, exec .curSelLow s = .next t ∧ t.on F.PAIR_STAT_SELIN = false ∧ t.unitCode = s.unitCode ∧
      sameRegs s t [F.PAIR_STAT_SELIN.addr] ∧ sameMem s t) ∧
  (∀ s : State, s.selLive = false → exec .curSelHigh s = .next s ∧ exec .curSelLow s = .next s)

/-- The stages of a takeover: the Vault is restored, each link in the state of R265, an empty Vault leaving the loops as the
image had them, a loop record giving the loop its words (R480, R284); from W frames on the converters calibrate, from W + K
on the sequencer is enabled, and a frame later, with the restore done, the unit is ACTIVE, its engine, buses and checkpoints
started (R377, R474, R478). Before its time a stage does not come.
A swap request shows in four health frames of an ACTIVE unit and is discarded and reported on any other (R453); the
standby's self-test runs its four slices, of which the converter's is left out in WARM, marks and logs each failure, and
counts the cycle (R482, R483). That a stage comes at its frame or after it (log entry 80) and when a slice is left out, in
WARM or with Folio busy (log entry 83), are the model's reading. -/
def Obligations.TakeoverStagesAndSelfTest : Prop :=
  (∀ s : State, s.wf = true → s.restoring = true → s.pair.restored = false →
    (∃ t, exec .takeoverRestoreEnd s = .next t ∧ t.pair.restored = true ∧ t.mem = s.restoreVault.mem ∧ outside [5] s t) ∧
    (s.pair.vaultEmpty = true → (∀ c, c ∈ s.boot.loops → 0x118000 ≤ c.1 ∧ c.1 < 0x124000) →
      ∃ t, exec .takeoverRestoreEnd s = .next t ∧ t.ce.resumed = [] ∧ (∀ l : Fin 128, t.lkStat l = 8) ∧ sameRegs s t [] ∧
        (∀ a, (a < 0x118000 ∨ (0x124000 ≤ a ∧ a < 0x141000) ∨ 0x1C0000 ≤ a) → t.mb a = s.mb a)) ∧
    (∀ x : Slot, s.pair.vaultEmpty = false → s.planSlots = [x] → x.kind = 1 → s.slotEmpty x = false →
      s.vaultCold = false → s.loopSec0 x.index + s.loopNsec x.index ≤ 2048 →
      ∃ t, exec .takeoverRestoreEnd s = .next t ∧ sameRegs s t [] ∧
        (∀ k, k < 24 → t.mb (lsAddr x.index + k) = s.mb (vaultBase + x.off + 16 + k)) ∧
        (∀ k, k < 16 * s.loopNsec x.index →
          t.mb (sectState (s.loopSec0 x.index) + k) = s.mb (vaultBase + x.off + 40 + k)))) ∧
  (∀ s : State, s.restoring = true → s.frameW ≤ s.pair.since →
    ∃ t, exec .takeoverCalibration s = .next t ∧ t.pair.calOn = true ∧ t.unitCode = 2 ∧ sameRegs s t [] ∧ sameMem s t) ∧
  (∀ (s : State) (cal : CalResults), s.wf = true → cal.wf = true → s.restoring = true → s.pair.calOn = true →
    s.pair.seqOn = false → s.frameW + s.frameK ≤ s.pair.since →
    ∃ t, exec (.takeoverSequencerEnable cal) s = .next t ∧ t.pair.seqOn = true ∧ t.adc.ready = true ∧ t.unitCode = 2 ∧
      t.adc.timer = s.f F.ADC_CALINT_INT ∧ outside [2] s t ∧ sameMem s t) ∧
  (∀ s : State, s.wf = true → s.can.length = 2 → s.restoring = true → s.pair.seqOn = true → s.pair.restored = true →
    s.frameW + s.frameK + 1 ≤ s.pair.since →
    ∃ t, exec .takeoverEngineStart s = .next t ∧ t.unitCode = 0 ∧ t.on F.SVC_IRQST_UNIT = true ∧
      t.ceStopped = !(s.on F.CE_CTL_RUN && !s.hot) ∧ (∀ l : Fin 4, (t.lane l).cls = 0 ∧ (t.lane l).run = none) ∧
      (∀ c : Fin 2, s.canState c = 0 → s.on (F.CAN_CTL_EN c) = true → t.canState c ≠ 0 ∧ (t.cc c).fresh = true) ∧
      t.pair.ckNext = ((if newer32 s.pair.peerCk s.vaultNum then s.pair.peerCk else s.vaultNum) + 1) % 2 ^ 32 ∧
      outside [5, 7, 9, 14] s t ∧ sameMem s t) ∧
  (∀ (s : State) (cal : CalResults), cal.wf = true →
    ((s.restoring = false ∨ s.pair.restored = true) → exec .takeoverRestoreEnd s = .next s) ∧
    ((s.restoring = false ∨ s.pair.since < s.frameW) → exec .takeoverCalibration s = .next s) ∧
    ((s.restoring = false ∨ s.pair.calOn = false ∨ s.pair.seqOn = true ∨ s.pair.since < s.frameW + s.frameK) →
      exec (.takeoverSequencerEnable cal) s = .next s) ∧
    ((s.restoring = false ∨ s.pair.seqOn = false ∨ s.pair.restored = false ∨ s.pair.since ≤ s.frameW + s.frameK) →
      exec .takeoverEngineStart s = .next s)) ∧
  (∀ (s : State) (m : Master) (w : Word), s.admits m F.PAIR_SWAP_REQ.addr = true →
    (bit w.toNat 0 = true → s.active = true →
      ∃ t, exec (.swapRequest m w) s = .next t ∧ t.pair.swapLeft = 5 ∧ bit t.healthWord 4 = true ∧ sameRegs s t [] ∧
        sameMem s t) ∧
    (bit w.toNat 0 = true → s.active = false →
      exec (.swapRequest m w) s = .next (s.reject (masterCode m) F.PAIR_SWAP_REQ.addr)) ∧
    (bit w.toNat 0 = false → exec (.swapRequest m w) s = .next s)) ∧
  (∀ (s : State) (r : SelfTestResult), s.wf = true → r.wf = true →
    (s.pair.testDue = true → s.standby = true → s.folFree = true →
      ∃ t, exec (.selfTestCycle r) s = .next t ∧ t.pair.testDue = false ∧
        t.f F.PAIR_TESTSTAT_CYCLES = min (s.f F.PAIR_TESTSTAT_CYCLES + 1) (2 ^ 16 - 1) ∧
        bit (t.f F.PAIR_TESTSTAT_FAIL) 0 = (r.sram.isSome || bit (s.f F.PAIR_TESTSTAT_FAIL) 0) ∧
        bit (t.f F.PAIR_TESTSTAT_FAIL) 1 = ((!s.warm && !codesOk r.codes) || bit (s.f F.PAIR_TESTSTAT_FAIL) 1) ∧
        bit (t.f F.PAIR_TESTSTAT_FAIL) 2 = (!edgesOk r.edges || bit (s.f F.PAIR_TESTSTAT_FAIL) 2) ∧
        bit (t.f F.PAIR_TESTSTAT_FAIL) 3 = ((List.range 32).any (fun p => !s.fol.whole (32 * s.pair.folioNext + p))
          || bit (s.f F.PAIR_TESTSTAT_FAIL) 3) ∧
        t.f F.PAIR_TESTSTAT_CORENEXT = (if s.warm then s.f F.PAIR_TESTSTAT_CORENEXT
          else (s.f F.PAIR_TESTSTAT_CORENEXT + 1) % 9) ∧
        t.f F.PAIR_TESTSTAT_PWMNEXT = (s.f F.PAIR_TESTSTAT_PWMNEXT + 1) % 7 ∧
        t.pair.sramNext = (s.pair.sramNext + 1) % 128 ∧ t.pair.folioNext = (s.pair.folioNext + 1) % 64 ∧
        outside [2, 9, 10] s t ∧ sameMem s t) ∧
    ((s.pair.testDue = false ∨ s.standby = false ∨ s.folFree = false) → exec (.selfTestCycle r) s = .next s))

/-- The health word: it is sampled once for each health frame, and cell 3 starts with its bit 0 (R453, R454), and the Curator
that samples the two halves of its cells reads back the word that was sent (R455). A heartbeat without an edge for 18 samples
is lost (R450). The Curator sets one latch at a time: what it decides never sets a unit that is not available, nor the one it
clears (R458, R459); its sample takes in the four lines and gives its decision as a pulse on GP0 to GP3, a set after a clear
four samples later, while GP4 shows that no unit is available (R459, R460). Four samples to a frame, 18 of them for a lost heartbeat and four for the delay of a
set are the model's reading (log entry 87). -/
def Obligations.HealthIsSentAndRead : Prop :=
  (∀ s u : State, s.wf = true → u = s.setPair (fun p => { p with swapLeft := p.swapLeft - 1, healthDue := false }) →
    (s.pair.healthDue = true →
      ∃ t, exec .healthFrame s = .next t ∧ t.pair.health = u.healthWord ∧ t.pair.healthDue = false ∧
        t.pair.swapLeft = s.pair.swapLeft - 1 ∧ bit t.pair.health 4 = (s.active && decide (1 < s.pair.swapLeft)) ∧
        t.pair.hs = healthLevel u.healthWord (s.frame % 64) ∧
        t.f F.PAIR_HEALTH_OWN = u.healthWord % 2 ^ 8 ∧ sameRegs s t [F.PAIR_HEALTH_OWN.addr] ∧ sameMem s t) ∧
    (s.pair.healthDue = false → exec .healthFrame s = .next s)) ∧
  (∀ h, h < 256 → healthDecode ((List.range 26).map (fun k => healthLevel h (12 + 2 * k))) = some h) ∧
  (∀ u : CurUnit, 17 ≤ u.quiet → (u.heart u.hb).alive = false) ∧
  (∀ (p : Pair) (c : Option Nat) (v : Nat), p.decide = (c, some v) →
    v < 2 ∧ (p.unit v).rank.isSome = true ∧ c ≠ some v) ∧
  (∀ (s : State) (hbA hsA hbB hsB : Bool) (p : Pair), s.pwm.gps.length = 32 → s.curator = true → s.boot.ticked = true →
    s.boot.counting = true → s.halted = false →
    p = { s.pair with cur := [((s.pair.unit 0).heart hbA).health hsA, ((s.pair.unit 1).heart hbB).health hsB] } →
    ∃ t, exec (.curatorSample hbA hsA hbB hsB) s = .next t ∧ t.pair.cur = p.cur ∧
      (t.gpc 4).pin = p.best.isNone ∧ sameRegs s t [] ∧ sameMem s t ∧
      (∀ v n, s.pair.setAfter = some (v, n) → n ≤ 1 → t.pair.sel = some v ∧ t.pair.setAfter = none ∧
        ∀ j : Fin 4, (t.gpc j).pin = decide (j.val = 2 * v ∧ v < 2)) ∧
      (∀ v n, s.pair.setAfter = some (v, n) → 1 < n → t.pair.setAfter = some (v, n - 1) ∧
        ∀ j : Fin 4, (t.gpc j).pin = false) ∧
      (s.pair.setAfter = none → ∀ c v, ({ p with sel := p.adopt }).decide = (c, v) →
        (∀ j : Fin 4, (t.gpc j).pin = decide ((∃ u, c = some u ∧ u < 2 ∧ j.val = 2 * u + 1) ∨
          (c = none ∧ ∃ u, v = some u ∧ j.val = 2 * u))) ∧
        (c ≠ none → t.pair.sel = none ∧ t.pair.setAfter = v.map (fun x => (x, 4))) ∧
        (c = none → v ≠ none → t.pair.sel = v))) ∧
  (∀ (s : State) (hbA hsA hbB hsB : Bool), (s.curator = false ∨ s.boot.ticked = false ∨ s.boot.counting = false ∨
      s.halted = true) → exec (.curatorSample hbA hsA hbB hsB) s = .next s)

/-- A link session comes about in stages: an attempt, lock of the lanes, the lower rate, CAPS, COMPAT (R462, R466): a
comparison that finds no difference clears MISMATCH, one that does makes a standby of an ACTIVE peer ineligible and sets
MISMATCH on any other unit whose state is decided (R467); a peer that enters ACTIVE is sent this unit's record (R463), and a
unit at boot step 6 goes on to step 7 (R68). An event that has no place in the stage at hand changes nothing. When CAPS and COMPAT are sent again, and that a comparison without a difference clears MISMATCH, are the
model's reading (log entry 81). -/
def Obligations.LinkComesUp : Prop :=
  (∀ s : State, s.wf = true →
    (s.linkMay = true → s.linkUp = false →
      ∃ t, exec .linkBringup s = .next t ∧ t.pair.stage = .lock ∧ t.pair.lock0 = false ∧ t.pair.lock1 = false ∧
        t.pair.slow = false ∧ t.on F.PAIR_STAT_LINKUP = false ∧ sameRegs s t [F.PAIR_STAT_LINKUP.addr] ∧ sameMem s t) ∧
    ((s.linkMay = false ∨ s.linkUp = true) → exec .linkBringup s = .next s)) ∧
  (∀ (s : State) (lane : Fin 2),
    ((s.pair.stage = .lock ∨ s.pair.stage = .caps) →
      ∃ t, exec (.linkLaneLock lane) s = .next t ∧ (lane = 0 → t.pair.lock0 = true ∧ t.pair.stage = .caps) ∧
        (lane = 1 → t.pair.lock1 = true ∧ t.pair.stage = s.pair.stage) ∧
        (t.pair.lock0 = true → t.pair.linkOut = s.pair.linkOut ++ [t.ownCaps]) ∧
        (t.pair.lock0 = false → t.pair.linkOut = s.pair.linkOut) ∧ sameRegs s t [] ∧ sameMem s t) ∧
    (s.pair.stage ≠ .lock → s.pair.stage ≠ .caps → exec (.linkLaneLock lane) s = .next s)) ∧
  (∀ s : State,
    (s.pair.stage = .lock → s.pair.slow = false →
      ∃ t, exec .linkRateFallback s = .next t ∧ t.pair.slow = true ∧ t.pair.stage = .lock ∧ t.pair.lock1 = false ∧
        sameRegs s t [] ∧ sameMem s t) ∧
    ((s.pair.stage ≠ .lock ∨ s.pair.slow = true) → exec .linkRateFallback s = .next s)) ∧
  (∀ (s : State) (caps : CapsRec), s.wf = true →
    (s.pair.stage = .caps → andN caps.vers.toNat (s.f F.PAIR_CFG_LVERS) ≠ 0 →
      ∃ t, exec (.linkCapsReceived caps) s = .next t ∧ t.pair.stage = .compat ∧
        t.on F.PAIR_STAT_LVER = bit (andN caps.vers.toNat (s.f F.PAIR_CFG_LVERS)) 1 ∧
        t.on F.PAIR_STAT_LANES = (bit (andN caps.vers.toNat (s.f F.PAIR_CFG_LVERS)) 1 && s.pair.lock1 && caps.two) ∧
        t.on F.PAIR_STAT_RATE = s.pair.slow ∧ t.pair.linkOut = s.pair.linkOut ++ [.compat s.compatBytes] ∧
        sameRegs s t [F.PAIR_STAT_RATE.addr] ∧ sameMem s t) ∧
    (s.pair.stage = .caps → andN caps.vers.toNat (s.f F.PAIR_CFG_LVERS) = 0 →
      ∃ t, exec (.linkCapsReceived caps) s = .next t ∧ t.pair.stage = .off ∧ t.on F.PAIR_STAT_LINKUP = false ∧
        sameRegs s t [F.PAIR_STAT_LINKUP.addr] ∧ sameMem s t) ∧
    (s.pair.stage ≠ .caps → exec (.linkCapsReceived caps) s = .next s)) ∧
  (∀ (s : State) (r : CompatRec) (diff peer : Nat), s.wf = true → r.wf = true →
    diff = compatDiff r.bytes s.compatBytes → peer = numAt r.bytes 15 1 % 8 →
    ((s.pair.stage = .compat ∨ s.pair.stage = .up) →
      ∃ t, exec (.linkCompat r) s = .next t ∧ t.pair.stage = .up ∧ t.on F.PAIR_STAT_LINKUP = true ∧
        t.f F.PAIR_STAT_PEERSTATE = peer ∧ t.pair.peerCk = numAt r.bytes 24 4 ∧ t.pair.peerRtc = numAt r.bytes 16 4 ∧
        t.pair.quiet = 0 ∧ t.f F.PAIR_MISMATCH_FIELD = diff ∧
        (diff = 0 → t.on F.PAIR_STAT_MISMATCH = false ∧ t.unitCode = s.unitCode) ∧
        (diff ≠ 0 → s.standby = true → peer = 0 → t.unitCode = 4) ∧
        (diff ≠ 0 → (s.standby = false ∨ peer ≠ 0) → t.unitCode = s.unitCode ∧
          t.on F.PAIR_STAT_MISMATCH = (s.on F.PAIR_STAT_MISMATCH || s.unitKnown || decide (peer ≠ 0))) ∧
        (s.pair.stage = .up → numAt r.bytes 15 1 = 0 → s.f F.PAIR_STAT_PEERSTATE ≠ 0 →
          t.pair.linkOut.length = s.pair.linkOut.length + 1) ∧
        (s.boot.stage = .link → t.boot.stage = .unit ∧ t.f F.BOOT_STAT_PHASE = 7) ∧
        (s.boot.stage ≠ .link → t.boot.stage = s.boot.stage) ∧ outside [1, 9, 14] s t ∧ sameMem s t) ∧
    (s.pair.stage ≠ .compat → s.pair.stage ≠ .up → exec (.linkCompat r) s = .next s))

/-- What a frame of the session does: STATUS shows the peer and, on a standby of an ACTIVE peer, sets an unset RTC or says
which way a set one is trimmed (R463, R468); MIRROR is stored by a standby (R469), a reply only counts as a valid frame
(R464), and a bad CRC is counted, with what the frame carried for a standby (R463, R469, R473). An overdue answer is
counted (R464), and after LINKTO frames without a valid one the link is down (R465, R475). Without a session nothing
happens. A management reply of this unit waits for the next tick, and goes before the checkpoint's chunks (R463). That a
reply or a timeout leaves nothing else (log entry 84), that the trim only tells a direction (log entry 86) and what follows
STATUS (log entry 81) are the model's reading. -/
def Obligations.LinkFramesAct : Prop :=
  (∀ (s : State) (r : StatusRec), s.wf = true →
    (s.linkUp = true →
      ∃ t, exec (.linkStatus r) s = .next t ∧ t.f F.PAIR_STAT_PEERSTATE = r.state.toNat ∧
        t.f F.PAIR_HEALTH_PEER = r.h.toNat ∧ t.pair.quiet = 0 ∧ t.pair.peerCk = r.cknum.toNat ∧
        t.pair.peerRtc = r.rtc.toNat ∧ t.pair.peerRtcSet = r.rtcSet ∧
        (s.standby = true → r.state = 0 → r.rtcSet = true → s.on F.ALM_STAT_RTCSET = false →
          t.f F.ALM_RTC = r.rtc.toNat ∧ t.on F.ALM_STAT_RTCSET = true ∧ t.pair.trim = 0) ∧
        ((s.on F.ALM_STAT_RTCSET = true ∨ r.rtcSet = false ∨ s.standby = false ∨ r.state ≠ 0) →
          t.f F.ALM_RTC = s.f F.ALM_RTC) ∧
        (s.standby = true → r.state = 0 → (s.on F.ALM_STAT_RTCSET = true ∨ r.rtcSet = false) →
          t.pair.trim = sgnI ((r.rtc.toNat : Int) - s.f F.ALM_RTC)) ∧
        ((s.standby = false ∨ r.state ≠ 0) → t.pair.trim = 0) ∧
        (r.state = 0 → s.f F.PAIR_STAT_PEERSTATE ≠ 0 → t.pair.linkOut.length = s.pair.linkOut.length + 1) ∧
        t.on F.PAIR_STAT_DUAL = (s.active && decide (r.state = 0)) ∧ sameMem s t ∧ outside [6, 9] s t) ∧
    (s.linkUp = false → exec (.linkStatus r) s = .next s)) ∧
  (∀ (s : State) (bytes : List Byte), s.wf = true → bytes.length = 148 →
    (s.linkUp = true → s.standby = true →
      ∃ t, exec (.linkMirror bytes) s = .next t ∧ t.pair.mirror = bytes ∧ t.f F.PAIR_STAT_MIRAGE = 0 ∧ t.pair.quiet = 0 ∧
        sameRegs s t [F.PAIR_STAT_MIRAGE.addr] ∧ sameMem s t) ∧
    (s.linkUp = true → s.standby = false →
      ∃ t, exec (.linkMirror bytes) s = .next t ∧ t.pair.mirror = s.pair.mirror ∧ t.pair.quiet = 0 ∧ sameRegs s t [] ∧
        sameMem s t) ∧
    (s.linkUp = false → exec (.linkMirror bytes) s = .next s)) ∧
  (∀ (s : State) (typ : BitVec 8), s.wf = true →
    (s.pair.stage ≠ .off → s.pair.stage ≠ .lock →
      ∃ t, exec (.linkCrcFail typ) s = .next t ∧ t.f F.PAIR_CRCCNT = min (s.f F.PAIR_CRCCNT + 1) (2 ^ 32 - 1) ∧
        (s.standby = true → typ = 4 → t.f F.PAIR_MIRLOSTCNT = min (s.f F.PAIR_MIRLOSTCNT + 1) (2 ^ 32 - 1)) ∧
        (s.standby = true → typ = 5 → t.f F.PAIR_CKDROPCNT = min (s.f F.PAIR_CKDROPCNT + 1) (2 ^ 32 - 1) ∧ t.pair.asm = none) ∧
        sameRegs s t (F.PAIR_CRCCNT.addr :: ((if s.standby = true ∧ typ = 4 then [F.PAIR_MIRLOSTCNT.addr] else [])
          ++ (if s.standby = true ∧ typ = 5 then [F.PAIR_CKDROPCNT.addr] else []) ++ countRegs)) ∧ sameMem s t) ∧
    ((s.pair.stage = .off ∨ s.pair.stage = .lock) → exec (.linkCrcFail typ) s = .next s)) ∧
  (∀ (s : State) (tag status : BitVec 8) (words : List Word),
    (s.linkUp = true →
      ∃ t, exec (.linkMgmtReply tag status words) s = .next t ∧ t.pair.quiet = 0 ∧ sameRegs s t [] ∧ sameMem s t) ∧
    (s.linkUp = false → exec (.linkMgmtReply tag status words) s = .next s)) ∧
  (∀ s : State, s.wf = true →
    (s.linkMay = true →
      ∃ t, exec .linkMgmtTimeout s = .next t ∧ t.f F.PAIR_MGMTTOCNT = min (s.f F.PAIR_MGMTTOCNT + 1) (2 ^ 32 - 1) ∧
        sameRegs s t (F.PAIR_MGMTTOCNT.addr :: countRegs) ∧ sameMem s t) ∧
    (s.linkMay = false → exec .linkMgmtTimeout s = .next s)) ∧
  (∀ s : State, s.wf = true →
    (s.linkUp = true → s.f F.PAIR_CFG_LINKTO ≤ s.pair.quiet →
      ∃ t, exec .linkDown s = .next t ∧ t.pair.stage = .off ∧ t.on F.PAIR_STAT_LINKUP = false ∧
        t.f F.PAIR_STAT_PEERSTATE = 7 ∧ t.on F.PAIR_STAT_DUAL = false ∧ t.pair.ckSending = false ∧ t.pair.asm = none ∧
        t.f F.PAIR_LINKDOWNCNT = min (s.f F.PAIR_LINKDOWNCNT + 1) (2 ^ 32 - 1) ∧
        (s.unitKnown = true → s.unitCode = 1 → t.on F.PAIR_STAT_STALE = true) ∧
        sameRegs s t ([F.PAIR_STAT_LINKUP.addr, F.PAIR_LINKDOWNCNT.addr] ++ countRegs) ∧ sameMem s t) ∧
    ((s.linkUp = false ∨ s.pair.quiet < s.f F.PAIR_CFG_LINKTO) → exec .linkDown s = .next s)) ∧
  (∀ (s : State) (m : List Byte), s.wf = true → s.paired = true → s.unitKnown = true →
    (s.linkUp = true → ∃ r out, (s.pairTick m).pair.linkOut =
        (if s.active then [.mirror m] else []) ++ [.status r] ++ s.pair.mgmtOut ++ out ∧
      (s.pairTick m).pair.mgmtOut = [] ∧ r.state.toNat = (s.pairTick m).unitCode ∧
      ∀ x, x ∈ out → (∃ c, x = .chunk c) ∨ ∃ a b c, x = .ckEnd a b c) ∧
    (s.linkUp = false → (s.pairTick m).pair.linkOut = [] ∧ (s.pairTick m).pair.mgmtOut = s.pair.mgmtOut)) ∧
  (∀ (s : State) (r : Req), r.who = .peer → s.linkUp = true →
    (s.reqEnd r).pair.mgmtOut = s.pair.mgmtOut ++
      [.mgmtReply r.tag r.status (if r.write = true ∨ r.status ≠ 0 then [] else r.out)] ∧
    sameRegs s (s.reqEnd r) [] ∧ sameMem s (s.reqEnd r))

/-- Checkpoints: the first tick after a second edge starts one on the ACTIVE unit, with the records of its plan (R471,
R472); they go out in chunks of at most 240 bytes, and the END follows the last (R472). A standby gathers the chunks of a
record in order, drops what does not follow, and stores a whole record in its slot when the slot is empty or older (R473);
a checkpoint that has come whole writes the Vault's header and clears STALE and COLD (R473, R475), and a REJOINING unit
whose mirror is fresh is then SHELVED (R446). An hourly copy is queued for Folio while its write window is open and
given up otherwise (R476, R490). When a checkpoint starts and ends, what RECS counts and which chunks are dropped is log
entry 82 (the model's reading). -/
def Obligations.CheckpointsAreSentAndStored : Prop :=
  (∀ s : State, s.wf = true →
    (s.active = true → s.pair.ckDue = 2 → s.pair.ckSending = false →
      ∃ t, exec .checkpointStart s = .next t ∧ t.pair.ckDue = 0 ∧ t.pair.ckSending = true ∧ t.pair.ckNum = s.pair.ckNext ∧
        t.pair.ckNext = (s.pair.ckNext + 1) % 2 ^ 32 ∧ t.pair.ckRtc = s.f F.ALM_RTC ∧ t.pair.ckLeft = s.planSlots ∧
        t.pair.ckRecs = s.planSlots.length ∧ t.f F.PAIR_CKAGE_RECS = 0 ∧
        sameRegs s t [F.PAIR_CKAGE_RECS.addr] ∧ sameMem s t) ∧
    ((s.active = false ∨ s.pair.ckDue ≠ 2 ∨ s.pair.ckSending = true) → exec .checkpointStart s = .next s)) ∧
  (∀ (r : CkRec) (fuel off : Nat) (b : List Byte) (c : CkptChunk), c ∈ ckChunks r fuel off b → c.bytes.length ≤ 240) ∧
  (∀ (s : State) (c : CkptChunk) (rest : List CkptChunk), s.pair.ckSending = true → s.linkUp = true →
    s.pair.ckOut = c :: rest →
    s.ckStep.pair.linkOut = s.pair.linkOut ++ [.chunk c] ∧ s.ckStep.pair.ckOut = rest) ∧
  (∀ s : State, s.wf = true → s.pair.ckSending = true → s.linkUp = true → s.pair.ckOut = [] → s.pair.ckLeft = [] →
    s.ckStep.pair.linkOut = s.pair.linkOut ++ [.ckEnd s.pair.ckNum s.pair.ckRtc s.pair.ckRecs] ∧
    s.ckStep.pair.ckSending = false ∧ s.ckStep.f F.PAIR_CKNUM = s.pair.ckNum % 2 ^ 32 ∧
    s.ckStep.f F.PAIR_CKAGE_AGE = 0) ∧
  (∀ (s : State) (c : CkptChunk), s.wf = true → c.wf = true → s.linkUp = true →
    (s.standby = false →
      ∃ t, exec (.linkCkptChunk c) s = .next t ∧ t.pair.quiet = 0 ∧ sameRegs s t [] ∧ sameMem s t) ∧
    (s.standby = true → s.vaultCopying = true → (c.off = 0 ∨ s.pair.asm.isSome = true) →
      ∃ t, exec (.linkCkptChunk c) s = .next t ∧ t.pair.asm = none ∧
        t.f F.PAIR_CKDROPCNT = min (s.f F.PAIR_CKDROPCNT + 1) (2 ^ 32 - 1) ∧
        sameRegs s t (F.PAIR_CKDROPCNT.addr :: countRegs) ∧ sameMem s t) ∧
    (s.standby = true → s.vaultCopying = false → s.pair.asm = none → c.off = 0 → c.bytes.length ≠ c.blen.toNat →
      ∃ t, exec (.linkCkptChunk c) s = .next t ∧ t.pair.asm = some (ckOpen c) ∧ t.pair.quiet = 0 ∧
        sameRegs s t [F.PAIR_CKAGE_RECS.addr] ∧ sameMem s t) ∧
    (s.standby = true → s.pair.asm = none → c.off ≠ 0 →
      ∃ t, exec (.linkCkptChunk c) s = .next t ∧ t.pair.asm = none ∧ t.pair.quiet = 0 ∧ sameRegs s t [] ∧ sameMem s t) ∧
    (∀ a : CkRec, s.standby = true → s.vaultCopying = false → s.pair.asm = some a → ckFollows a c = true →
      ((a.body ++ c.bytes).length ≠ a.blen →
        ∃ t, exec (.linkCkptChunk c) s = .next t ∧ t.pair.asm = some { a with body := a.body ++ c.bytes } ∧
          t.pair.quiet = 0 ∧ sameRegs s t [] ∧ sameMem s t) ∧
      (∀ x : Slot, (a.body ++ c.bytes).length = a.blen → a.kind < 16 → a.index < 4096 →
        s.planSlots.find? (fun x => x.kind == a.kind && x.index == a.index && x.len == a.blen) = some x →
        ∃ t, exec (.linkCkptChunk c) s = .next t ∧ t.pair.asm = none ∧
          t.f F.PAIR_CKAGE_RECS = min (s.f F.PAIR_CKAGE_RECS + 1) 65535 ∧ sameRegs s t [F.PAIR_CKAGE_RECS.addr] ∧
          ((s.slotEmpty x = true ∨ newer32 a.num (s.slotNum x) = true) →
            t.slotHead x = a.kind * 2 ^ 28 + a.index ∧ t.slotNum x = a.num % 2 ^ 32 ∧
            t.bytesAt (vaultBase + x.off + 16) a.blen = a.body ++ c.bytes ∧
            ∀ b, (b < vaultBase + x.off ∨ vaultBase + x.off + 16 + a.blen ≤ b) → t.mb b = s.mb b) ∧
          (s.slotEmpty x = false → newer32 a.num (s.slotNum x) = false → sameMem s t)) ∧
      ((a.body ++ c.bytes).length = a.blen →
        s.planSlots.find? (fun x => x.kind == a.kind && x.index == a.index && x.len == a.blen) = none →
        ∃ t, exec (.linkCkptChunk c) s = .next t ∧ t.pair.asm = none ∧
          t.f F.PAIR_CKDROPCNT = min (s.f F.PAIR_CKDROPCNT + 1) (2 ^ 32 - 1) ∧
          sameRegs s t (F.PAIR_CKDROPCNT.addr :: countRegs) ∧ sameMem s t)) ∧
    (∀ a : CkRec, s.standby = true → s.vaultCopying = false → s.pair.asm = some a → ckFollows a c = false → c.off ≠ 0 →
      ∃ t, exec (.linkCkptChunk c) s = .next t ∧ t.pair.asm = none ∧
        t.f F.PAIR_CKDROPCNT = min (s.f F.PAIR_CKDROPCNT + 1) (2 ^ 32 - 1) ∧
        sameRegs s t (F.PAIR_CKDROPCNT.addr :: countRegs) ∧ sameMem s t)) ∧
  (∀ (s : State) (cknum ckrtc nrec : BitVec 32), s.wf = true → s.linkUp = true → s.standby = true →
    (s.ckComplete cknum.toNat = true →
      ∃ t, exec (.linkCkptEnd cknum ckrtc nrec) s = .next t ∧ t.f F.PAIR_CKNUM = cknum.toNat ∧ t.f F.PAIR_CKAGE_AGE = 0 ∧
        t.f F.PAIR_CKAGE_RECS = 0 ∧ t.on F.PAIR_STAT_STALE = false ∧ t.on F.PAIR_STAT_COLD = false ∧
        t.pair.complete = true ∧ t.pair.vaultEmpty = false ∧ t.pair.asm = none ∧ t.mw vaultBase = cknum.toNat ∧
        t.mw (vaultBase + 4) = ckrtc.toNat ∧ t.mw (vaultBase + 16) = 1 ∧ t.mw (vaultBase + 20) = nrec.toNat ∧
        (s.unitCode = 3 → s.f F.PAIR_STAT_MIRAGE ≤ s.f F.PAIR_CFG_MIRMAX → t.unitCode = 1) ∧
        ((s.unitCode ≠ 3 ∨ s.f F.PAIR_CFG_MIRMAX < s.f F.PAIR_STAT_MIRAGE) → t.unitCode = s.unitCode) ∧
        (∀ a, (a < vaultBase ∨ vaultBase + 24 ≤ a) → t.mb a = s.mb a) ∧ outside [9, 14] s t) ∧
    (s.ckComplete cknum.toNat = false →
      ∃ t, exec (.linkCkptEnd cknum ckrtc nrec) s = .next t ∧ t.f F.PAIR_CKAGE_RECS = 0 ∧ t.pair.asm = none ∧
        t.pair.complete = s.pair.complete ∧
        sameRegs s t (F.PAIR_CKAGE_RECS.addr :: F.PAIR_CKDROPCNT.addr :: countRegs) ∧ sameMem s t)) ∧
  (∀ (s : State) (c : CkptChunk) (cknum ckrtc nrec : BitVec 32), c.wf = true → s.linkUp = false →
    exec (.linkCkptChunk c) s = .next s ∧ exec (.linkCkptEnd cknum ckrtc nrec) s = .next s) ∧
  (∀ (s : State) (cknum ckrtc nrec : BitVec 32), s.linkUp = true → s.standby = false →
    ∃ t, exec (.linkCkptEnd cknum ckrtc nrec) s = .next t ∧ t.pair.quiet = 0 ∧ sameRegs s t [] ∧ sameMem s t) ∧
  (∀ s : State,
    (s.pair.copyDue = true → s.unitKnown = true → s.unitCode = 1 → s.on F.PAIR_STAT_STALE = false → s.warm = false →
      s.folWindow = true → s.fol.jobs.length < 16 →
      ∃ t, exec .vaultCopy s = .next t ∧ t.pair.copyDue = false ∧ t.fol.jobs = s.fol.jobs ++ [.vault] ∧ sameRegs s t [] ∧
        sameMem s t) ∧
    (s.pair.copyDue = true → (s.unitKnown = false ∨ s.unitCode ≠ 1 ∨ s.on F.PAIR_STAT_STALE = true ∨ s.warm = true ∨
        s.folWindow = false) →
      ∃ t, exec .vaultCopy s = .next t ∧ t.pair.copyDue = false ∧ t.fol = s.fol ∧ sameRegs s t [] ∧ sameMem s t) ∧
    (s.pair.copyDue = false → exec .vaultCopy s = .next s))

/-! ### Folio (R486 to R512) -/

/-- Programs of Folio, one at a time (R488, R490). FOLIO_JOB_START: where Folio is free for it, the next group of the job in
hand is programmed, or of the ready jobs that wait the first in the order of R490 comes into hand; else nothing happens.
FOLIO_PROGRAM_END: BUSY falls; the pages hold what was written and are counted (R510); a transaction goes on with its next page
or is answered; a job goes on to its next group or is over; the protection or a map entry is stored (R495, R509).
FOLIO_MASTER_ACCESS: the oldest access that may run, a write of FOL_PROT among them (R490, R495): what R492 refuses is counted
and answered REFUSED, a read is answered, a write is programmed a page at a time; FOL_PROT is programmed, or discarded where
the window has closed meanwhile. While a transaction of the port is open word by word, only its own accesses run (R584). The
map entry of a spare follows its copy at once (R509). What is the model's reading: the write counts rise at a program's end
(log entry 88), a job reads its data at its start and a job that lost its groups to a reset starts anew (log entries 28, 92),
a FOL_PROT that waits is judged when it is taken (log entry 131), the map entry leaves no gap (log entry 130). -/
def Obligations.FolioTakesOneAtATime : Prop :=
  (∀ (s : State) (j : FolJob), s.wf = true → s.jobsMayRun = true → s.fol.hand = none → s.nextJob = some j →
    (∀ k, k ∈ s.fol.jobs → s.jobReady k = true → j.order ≤ k.order) ∧
    ∃ t w, exec .folioJobStart s = .next t ∧ t.fol.prog.isSome = true ∧ t.on F.FOL_STAT_BUSY = true ∧
      t.fol.hand = some w ∧ w.job = j ∧ t.fol.jobs = s.fol.jobs.erase j ∧ t.mem = s.mem ∧ outside [10, 13] s t) ∧
  (∀ (s : State) (w : FolWork) (g : List PageProg) (l : List (List PageProg)), s.wf = true → s.jobsMayRun = true →
    s.fol.hand = some w → w.todo = g :: l →
    ∃ t q, exec .folioJobStart s = .next t ∧ t.fol.prog = some q ∧ q.pages = g ∧
      (q.src = .job ∨ (∃ v, w.job = .prot v ∧ q.src = .prot v) ∨
        (∃ p, w.job = .remap p ∧ g = [] ∧ q.src = .map p (s.nextSpare p))) ∧
      t.fol.hand = some w ∧ t.fol.jobs = s.fol.jobs ∧ t.on F.FOL_STAT_BUSY = true ∧
      sameRegs s t [F.FOL_STAT_BUSY.addr] ∧ sameMem s t) ∧
  (∀ s : State, (s.jobsMayRun = false ∨ (s.fol.hand = none ∧ s.nextJob = none)) → exec .folioJobStart s = .next s) ∧
  (∀ (s : State) (j : FolJob), s.wf = true → s.jobsMayRun = true → s.fol.hand = some ⟨j, []⟩ →
    ∃ t q w, exec .folioJobStart s = .next t ∧ t.fol.prog = some q ∧ t.fol.hand = some w ∧ w.job = j ∧
      q.pages = w.todo.headD [] ∧ t.fol.jobs = s.fol.jobs ∧ t.on F.FOL_STAT_BUSY = true ∧ t.mem = s.mem ∧
      outside [10, 13] s t) ∧
  (∀ s : State, s.fol.prog = none → s.reqs = [] → s.boot.reads = false → exec .folioProgramEnd s = .next s) ∧
  (∀ (s : State) (q : FolProg), s.fol.prog = some q → q.src = .save → s.reqs = [] → s.boot.reads = false →
    exec .folioProgramEnd s = .next s) ∧
  (∀ (s : State) (q : FolProg) (w : FolWork), s.wf = true → s.fol.prog = some q → q.src = .job →
    s.fol.hand = some w → s.reqs = [] → s.boot.reads = false → (w.job.order = 7 → w.todo.length ≤ 1) →
    ∃ t, exec .folioProgramEnd s = .next t ∧ t.fol.prog = none ∧ t.on F.FOL_STAT_BUSY = false ∧
      (∀ g h l, w.todo = g :: h :: l → t.fol.hand = some ⟨w.job, h :: l⟩ ∧
        sameRegs s t (F.FOL_STAT_BUSY.addr :: countRegs)) ∧
      (w.todo.length ≤ 1 → t.fol.hand = none ∧
        (w.job ≠ .thermal → sameRegs s t (F.FOL_STAT_BUSY.addr :: countRegs)) ∧
        (w.job = .thermal → s.thm.progNum = some (s.f (F.THM_REC 0)) → t.on F.THM_STAT_RECPEND = false ∧
          sameRegs s t (F.FOL_STAT_BUSY.addr :: F.THM_STAT_RECPEND.addr :: countRegs))) ∧
      t.fol.jobs = s.fol.jobs ∧ sameMem s t) ∧
  (∀ (s : State) (q : FolProg) (x : FolTxn), s.wf = true → s.fol.prog = some q → q.src = .txn → s.fol.txn = some x →
    x.n = 0 → s.reqs = [] → s.boot.reads = false →
    ∃ t, exec .folioProgramEnd s = .next t ∧
      (x.data = [] → t.fol.prog = none ∧ t.fol.txn = none ∧ t.on F.FOL_STAT_BUSY = false ∧
        sameRegs s t (F.FOL_STAT_BUSY.addr :: countRegs)) ∧
      (x.data ≠ [] → s.folRefuses x = true → t.fol.prog = none ∧ t.fol.txn = none ∧ t.on F.FOL_STAT_BUSY = false ∧
        t.f F.FOL_REFCNT = min (s.f F.FOL_REFCNT + 1) (2 ^ 32 - 1)) ∧
      (x.data ≠ [] → s.folRefuses x = false →
        (∃ g : PageProg, t.fol.prog = some ⟨.txn, [g]⟩ ∧ g.page = x.off / 64 ∧ g.off = x.off % 64 ∧
          g.bytes = x.data.take (64 - x.off % 64)) ∧ t.on F.FOL_STAT_BUSY = true) ∧
      outside [10] s t ∧ sameMem s t) ∧
  (∀ (s : State) (q : FolProg) (x : FolTxn) (r : Req), s.wf = true → s.fol.prog = some q → q.src = .txn →
    s.fol.txn = some x → x.data = [] → s.reqs = [r] → x.who = .port → r.who = .port → r.write = true → r.status = 0 →
    r.wait = some r.bytesOf → s.svc.split = false → s.boot.reads = false →
    ∃ t, exec .folioProgramEnd s = .next t ∧ t.reqs = [] ∧ t.svc.status = 0 ∧ t.svc.lastErr = false ∧
      outside [10, 14] s t ∧ sameMem s t) ∧
  (∀ (s : State) (q : FolProg) (v : Nat), s.wf = true → s.fol.prog = some q → q.src = .prot v → v < 4 → s.reqs = [] →
    s.boot.reads = false →
    ∃ t, exec .folioProgramEnd s = .next t ∧ t.fol.prog = none ∧ t.fol.prot = v ∧ t.f F.FOL_PROT_BP = v ∧
      (s.protInHand = false → t.fol.hand = s.fol.hand) ∧
      (∀ l, s.fol.hand = some ⟨.prot v, l⟩ → l.length ≤ 1 → t.fol.hand = none) ∧
      sameRegs s t (F.FOL_STAT_BUSY.addr :: F.FOL_PROT_BP.addr :: countRegs) ∧ sameMem s t) ∧
  (∀ (s : State) (q : FolProg) (p k : Nat) (w : FolWork), s.wf = true → s.fol.prog = some q → q.src = .map p k →
    q.pages = [] → s.fol.hand = some w → w.job = .remap p → w.todo.length ≤ 1 → s.fol.used.length = 4 → s.reqs = [] →
    risingFrom 0 s.fol.map = true → s.boot.reads = false →
    ∃ t, exec .folioProgramEnd s = .next t ∧ t.fol.prog = none ∧ t.fol.hand = none ∧
      t.fol.phys p = 2048 + 16 * (p % 4) + k ∧ (∀ p', p' ≠ p → t.fol.phys p' = s.fol.phys p') ∧
      t.fol.used.getD (p % 4) 0 = s.fol.used.getD (p % 4) 0 + 1 ∧
      sameRegs s t (F.FOL_STAT_BUSY.addr :: countRegs) ∧ sameMem s t) ∧
  (∀ (s : State) (q : FolProg) (p : Nat) (g h : List PageProg) (l : List (List PageProg)), s.wf = true →
    s.fol.prog = some q → q.src = .job → s.fol.hand = some ⟨.remap p, g :: h :: l⟩ → s.reqs = [] → s.boot.reads = false →
    ∃ t, exec .folioProgramEnd s = .next t ∧
      (s.folWindow = true → t.fol.prog = some ⟨.map p (s.nextSpare p), []⟩ ∧ t.fol.hand = some ⟨.remap p, [[]]⟩ ∧
        t.on F.FOL_STAT_BUSY = true) ∧
      (s.folWindow = false → t.fol.prog = none ∧ t.fol.hand = some ⟨.remap p, []⟩ ∧ t.on F.FOL_STAT_BUSY = false) ∧
      (∀ x, t.fol.phys x = s.fol.phys x) ∧ t.fol.jobs = s.fol.jobs ∧ t.fol.txns = s.fol.txns ∧
      sameRegs s t (F.FOL_STAT_BUSY.addr :: countRegs) ∧ sameMem s t) ∧
  (∀ (s : State) (g : PageProg), canonical (fun _ => 0) s.fol.counts = true →
    canonical (fun _ => some 0xFF#8) s.fol.cells = true →
    (s.pageDone g).fol.count g.phys = min (s.fol.count g.phys + 1) (2 ^ 24 - 1) ∧
    (∀ k, k < g.bytes.length → (s.pageDone g).fol.cell (64 * g.phys + g.off + k) = some (g.bytes.getD k 0)) ∧
    (∀ a, (a < 64 * g.phys + g.off ∨ 64 * g.phys + g.off + g.bytes.length ≤ a) →
      (s.pageDone g).fol.cell a = s.fol.cell a)) ∧
  (∀ s : State, s.reqs = [] → (s.folFree = false ∨ s.fol.txn.isSome = true ∨
      ∀ x, x ∈ s.fol.txns → s.fol.held = true ∧ x.who ≠ .port) →
    exec .folioMasterAccess s = .next s) ∧
  (∀ (s : State) (x : FolTxn) (l : List FolTxn) (v m : Nat), s.wf = true → s.reqs = [] → s.folFree = true →
    s.fol.txn = none → s.fol.txns.filter (fun y => !s.fol.held || decide (y.who = .port)) = x :: l →
    x.prot = some (v, m) → x.who = .gone →
    ∃ t, exec .folioMasterAccess s = .next t ∧ t.fol.txns = s.fol.txns.erase x ∧ sameMem s t ∧
      (v = s.fol.prot → t.fol.prog = none ∧ sameRegs s t []) ∧
      (v ≠ s.fol.prot → (s.folRecall = true ∨ s.folPfi = true) → t.fol.prog = none ∧
        t.f F.FOL_REFCNT = (if s.plantHeld then s.f F.FOL_REFCNT else min (s.f F.FOL_REFCNT + 1) (2 ^ 32 - 1)) ∧
        sameRegs s t (F.FOL_REFCNT.addr :: countRegs)) ∧
      (v ≠ s.fol.prot → s.folRecall = false → s.folPfi = false → s.folWindow = false → t.fol.prog = none ∧
        t.annFifo = (s.reject m F.FOL_PROT_BP.addr).annFifo ∧
        sameRegs (s.reject m F.FOL_PROT_BP.addr) t []) ∧
      (v ≠ s.fol.prot → s.folRecall = false → s.folPfi = false → s.folWindow = true →
        t.fol.prog = some ⟨.prot v, []⟩ ∧ t.on F.FOL_STAT_BUSY = true ∧ sameRegs s t [F.FOL_STAT_BUSY.addr])) ∧
  (∀ (s : State) (x : FolTxn) (l : List FolTxn), s.wf = true → s.folFree = true → s.fol.txn = none →
    s.fol.txns.filter (fun y => !s.fol.held || decide (y.who = .port)) = x :: l → s.reqs = [] → x.prot = none →
    (x.n ≠ 0 ∨ x.data ≠ []) →
    ∃ t, exec .folioMasterAccess s = .next t ∧ t.fol.txns = s.fol.txns.erase x ∧
      (s.folRefuses x = true → t.fol.prog = none ∧
        t.f F.FOL_REFCNT = (if s.plantHeld then s.f F.FOL_REFCNT else min (s.f F.FOL_REFCNT + 1) (2 ^ 32 - 1))) ∧
      (s.folRefuses x = false → x.n ≠ 0 → t.fol.prog = none ∧ t.fol.txn = none ∧ t.f F.FOL_REFCNT = s.f F.FOL_REFCNT) ∧
      (s.folRefuses x = false → x.n = 0 → x.data ≠ [] →
        (∃ g : PageProg, t.fol.prog = some ⟨.txn, [g]⟩ ∧ g.page = x.off / 64 ∧ g.off = x.off % 64 ∧
          g.phys = s.fol.phys g.page ∧ g.bytes = x.data.take (64 - x.off % 64)) ∧ t.on F.FOL_STAT_BUSY = true ∧
        ∃ y, t.fol.txn = some y ∧ y.data = x.data.drop (64 - x.off % 64) ∧ y.off = x.off + (64 - x.off % 64)) ∧
      outside [10] s t ∧ sameMem s t) ∧
  (∀ (s : State) (x : FolTxn) (r : Req) (n : Nat), s.wf = true → s.folFree = true → s.fol.txn = none →
    s.fol.txns = [x] → x.prot = none → x.who = .port → s.reqs = [r] → r.who = .port → r.write = false →
    r.bytes = false → r.out = [] → r.status = 0 → r.n = n → r.wait = some (4 * n) → x.n = 4 * n → n ≠ 0 →
    s.svc.split = false →
    ∃ t, exec .folioMasterAccess s = .next t ∧ t.reqs = [] ∧ t.fol.txns = [] ∧
      (s.folRefuses x = true → t.svc.status = 4 ∧ t.svc.lastErr = true) ∧
      (s.folRefuses x = false → t.svc.status = 0 ∧ t.svc.miso = (List.range n).map (fun i => BitVec.ofNat 32
        (numAt ((List.range (4 * n)).map (fun k => (s.fol.at (x.off + k)).getD 0xFF)) (4 * i) 4))) ∧
      outside [10, 14] s t ∧ sameMem s t)

/-- The end of the recall scan: pages that an intent cell names are marked torn, and what a power-on reset restores is
restored, once, and a session opened (R497, R503, R504); a boot that is held goes on where it may (R526). The acceptance of PFI_N:
jobs and waiting transactions end, the program in progress is abandoned, its pages are torn, and the save starts where R505
and R506 allow it. The end of the save (R505). Elsewhere, and in a Curator, which holds Folio
in reset (R460; log entry 123), nothing happens. That a save is made once for each
power-on is log entry 92, what a reset leaves of a program log entry 28 (the model's reading). -/
def Obligations.RecallAndPowerDown : Prop :=
  (∀ s : State, s.wf = true → s.folRecall = true → s.folFree = true → s.portLive = true →
    s.plantHeld = false → (s.boot.stage ≠ .held ∨ s.mayRelease = false ∨ s.on F.THM_STAT_LATCH = true) → s.reqs = [] →
    ∃ t, exec .folioRecallScanEnd s = .next t ∧ t.on F.FOL_STAT_RECALL = false ∧ t.boot.recalled = true ∧
      (∀ p, some p ∈ s.fol.intent → p ∈ t.fol.torn) ∧ (∀ p, p ∈ s.fol.torn → p ∈ t.fol.torn) ∧
      (∀ i, i ∈ t.fol.intent → i = none) ∧ t.f F.FOL_TORN_NTORN = t.fol.torn.length % 2 ^ 12 ∧
      (s.fol.restored = false → t.fol.restored = true ∧ (s.fol.jobs.length < 16 → FolJob.session ∈ t.fol.jobs)) ∧
      (s.fol.restored = true → t.fol.jobs = s.fol.jobs ∧ ∀ k, k < 64 → t.live k = s.live k) ∧
      outside [10, 14] s t ∧ ∀ a, (a < 0x100000 ∨ 0x200000 ≤ a) → t.mb a = s.mb a) ∧
  (∀ s : State, s.wf = true → s.folRecall = true → s.folFree = true → s.boot.stage = .held → s.mayRelease = true →
    s.on F.THM_STAT_LATCH = false → s.clk.por = false → s.reqs = [] → s.plantHeld = false →
    s.portLive = true →
    ∃ t, exec .folioRecallScanEnd s = .next t ∧ t.on F.FOL_STAT_RECALL = false ∧ t.boot.recalled = true ∧
      t.boot.stage = .flash ∧ t.on F.THM_STAT_HOLD = false) ∧
  (∀ s : State, (s.folRecall = false ∨ s.folFree = false ∨ s.portLive = false ∨ s.plantHeld = true) →
    exec .folioRecallScanEnd s = .next s) ∧
  (∀ s : State, s.plantHeld = true → exec .pfiAccepted s = .next s) ∧
  (∀ s : State, s.wf = true → s.reqs = [] → s.plantHeld = false →
    ∃ t, exec .pfiAccepted s = .next t ∧ t.on F.FOL_STAT_PFI = true ∧ t.fol.jobs = [] ∧ t.fol.hand = none ∧
      t.fol.txns = [] ∧ t.fol.txn = none ∧ t.safe.srcs.contains .pfi = true ∧
      (∀ q g, s.fol.prog = some q → g ∈ q.pages → s.fol.phys g.page = g.phys → g.page ∈ t.fol.torn) ∧
      (s.saveAllowed = true → t.fol.saveMade = true ∧ ∃ l, t.fol.prog = some ⟨.save, l⟩) ∧
      (s.saveAllowed = false → t.fol.prog = none) ∧
      outside [4, 10] s t ∧ sameMem s t) ∧
  (∀ (s : State) (r : Req), s.wf = true → s.reqs = [r] → r.who = .port → r.wait.isSome = true → r.status = 0 →
    s.svc.split = false → s.plantHeld = false →
    ∃ t, exec .pfiAccepted s = .next t ∧ t.on F.FOL_STAT_PFI = true ∧ t.reqs = [] ∧ t.svc.status = 4 ∧
      t.fol.txns = [] ∧ outside [4, 10, 14] s t ∧ sameMem s t) ∧
  (∀ (s : State) (q : FolProg), s.wf = true → s.fol.prog = some q → q.src = .save → s.boot.reads = false →
    ∃ t, exec .powerDownSaveEnd s = .next t ∧ t.fol.prog = none ∧ t.on F.FOL_STAT_BUSY = false ∧
      t.on F.FOL_STAT_SAVED = true ∧ t.f F.FOL_SAVE = numAt (s.fol.latch.getD 0 []) 0 4 ∧
      sameRegs s t ([F.FOL_STAT_BUSY.addr, F.FOL_SAVE.addr] ++ countRegs) ∧ sameMem s t) ∧
  (∀ s : State, (∀ q, s.fol.prog = some q → q.src ≠ .save) → exec .powerDownSaveEnd s = .next s)

/-- The masters' writes to Folio's registers: a remap request with GO is queued, dropped where the queue is full (R491), or
discarded (R509), one without GO does nothing; the protection is programmed at once, waits behind the accesses that came before
it, or is discarded with the window closed (R495), and refused during recall and after PFI_N (R492); MISSED is cleared by bit 0
(R502); user counters count (R500), and the words of FOL_LIVE are written but for those that are read-only (R502). That a write
of FOL_PROT is refused like an access is log entry 91, that one which waits is judged when it is taken log entry 131, and the
layout of FOL_LIVE log entry 93. -/
def Obligations.FolioRegisterWritesAct : Prop :=
  (∀ (s : State) (m : Master) (w : Word), s.admits m F.FOL_REMAP_GO.addr = true →
    (w.toNat < 2 ^ 31 → exec (.folioRemap m w) s = .next s) ∧
    ((s.remapWrite w.toNat).2 = false →
      exec (.folioRemap m w) s = .next (s.reject (masterCode m) F.FOL_REMAP_GO.addr)) ∧
    (2 ^ 31 ≤ w.toNat → (s.remapWrite w.toNat).2 = true → s.fol.jobs.length < 16 →
      ∃ t, exec (.folioRemap m w) s = .next t ∧ t.fol.jobs = s.fol.jobs ++ [.remap (w.toNat % 2048)] ∧ sameRegs s t [] ∧
        sameMem s t) ∧
    (2 ^ 31 ≤ w.toNat → (s.remapWrite w.toNat).2 = true → 16 ≤ s.fol.jobs.length → s.wf = true →
      ∃ t, exec (.folioRemap m w) s = .next t ∧ t.fol.jobs = s.fol.jobs ∧ t.on F.FOL_STAT_QDROP = true ∧
        t.f F.FOL_QDROPCNT = min (s.f F.FOL_QDROPCNT + 1) (2 ^ 32 - 1) ∧
        sameRegs s t (F.FOL_STAT_QDROP.addr :: F.FOL_QDROPCNT.addr :: countRegs) ∧ sameMem s t) ∧
    (2 ^ 31 ≤ w.toNat → (16 ≤ s.nextSpare (w.toNat % 2048) ∨ FolJob.remap (w.toNat % 2048) ∈ s.fol.jobs) →
      (s.remapWrite w.toNat).2 = false) ∧
    (2 ^ 31 ≤ w.toNat → s.nextSpare (w.toNat % 2048) < 16 → (∀ j, j ∈ s.fol.jobs → j.order ≠ 7) → s.fol.hand = none →
      (s.remapWrite w.toNat).2 = true)) ∧
  (∀ (s : State) (m : Master) (w : Word), s.wf = true → s.admits m F.FOL_PROT_BP.addr = true →
    (w.toNat % 4 = s.fol.prot → exec (.folioProtWrite m w) s = .next s) ∧
    (w.toNat % 4 ≠ s.fol.prot → s.folWindow = false →
      exec (.folioProtWrite m w) s = .next (s.reject (masterCode m) F.FOL_PROT_BP.addr)) ∧
    (w.toNat % 4 ≠ s.fol.prot → s.folWindow = true → s.folFree = true → s.fol.txn = none → s.fol.txns = [] →
      s.fol.held = false → s.folRecall = false → s.folPfi = false →
      ∃ t, exec (.folioProtWrite m w) s = .next t ∧ t.fol.prog = some ⟨.prot (w.toNat % 4), []⟩ ∧ t.fol.txns = [] ∧
        (∀ j, j ∈ t.fol.jobs ↔ j ∈ s.fol.jobs ∧ j.order ≠ 8) ∧
        t.on F.FOL_STAT_BUSY = true ∧ sameRegs s t [F.FOL_STAT_BUSY.addr] ∧ sameMem s t) ∧
    (w.toNat % 4 ≠ s.fol.prot → s.folWindow = true → (s.folRecall = true ∨ s.folPfi = true) →
      ∃ t, exec (.folioProtWrite m w) s = .next t ∧ t.f F.FOL_REFCNT = min (s.f F.FOL_REFCNT + 1) (2 ^ 32 - 1) ∧
        t.fol = s.fol ∧ sameRegs s t (F.FOL_REFCNT.addr :: countRegs) ∧ sameMem s t) ∧
    (w.toNat % 4 ≠ s.fol.prot → s.folWindow = true →
      (s.folFree = false ∨ s.fol.txn.isSome = true ∨ s.fol.txns ≠ [] ∨ s.fol.held = true) →
      s.folRecall = false → s.folPfi = false →
      ∃ t x, exec (.folioProtWrite m w) s = .next t ∧ t.fol.txns.length = s.fol.txns.length + 1 ∧
        t.fol.txns.getLast? = some x ∧ x.prot = some (w.toNat % 4, masterCode m) ∧ x.who = .gone ∧
        t.fol.prog = s.fol.prog ∧ (∀ j, j ∈ t.fol.jobs ↔ j ∈ s.fol.jobs ∧ j.order ≠ 8) ∧ sameRegs s t [] ∧
        sameMem s t)) ∧
  (∀ (s : State) (m : Master) (w : Word), s.wf = true → s.admits m F.FOL_CTL_CLRMISSED.addr = true →
    ∃ t, exec (.clearMissed m w) s = .next t ∧
      (∀ k, k < 32 → bit (t.live 1) k = (bit (s.live 1) k && !(decide (k = 16) && bit w.toNat 0))) ∧
      sameRegs s t [(F.FOL_LIVE 1).addr] ∧ sameMem s t) ∧
  (∀ (s : State) (m : Master) (w : Word), s.wf = true → s.admits m F.FOL_UCINC_INC.addr = true →
    ∃ t, exec (.userCounterInc m w) s = .next t ∧
      (∀ n, n < 8 → t.live (38 + n) = if bit w.toNat n then min (s.live (38 + n) + 1) (2 ^ 32 - 1) else s.live (38 + n)) ∧
      sameRegs s t ((List.range 8).map (fun n => (F.FOL_LIVE (38 + n)).addr)) ∧ sameMem s t) ∧
  (∀ (s : State) (m : Master) (i : Fin 64) (w : Word), s.wf = true → s.admits m (F.FOL_LIVE i).addr = true →
    ((i = 0 ∨ i = 1 ∨ i = 29 ∨ 46 ≤ i) → exec (.folLiveWrite m i w) s = .next s) ∧
    (¬(i = 0 ∨ i = 1 ∨ i = 29 ∨ 46 ≤ i) →
      ∃ t, exec (.folLiveWrite m i w) s = .next t ∧ t.live i = w.toNat ∧ sameRegs s t [(F.FOL_LIVE i).addr] ∧ sameMem s t))

/-! ### Thermal watch, panel and monitor (R513 to R579) -/

/-- Samples of the sensors: readings are shown (R513), each flag is set by the fourth sample beyond its entry threshold and
cleared by the sixteenth beyond its exit threshold (R516), the thermal state is HOT with two hot votes or the comparator, else
WARM with a warm vote, else normal (R518), and writing is open in the normal state only (R519). A sensor that does not answer
its test, made every 1 024 samples, is broken (R514). The AON comparator trips with its fourth hot sample, which leads to HOT,
and clears with its sixteenth cool one (R515, R522). THERMAL_HALT begins when no program runs any more (R523). A second of the
AON domain counts, ages and makes the hourly re-plan due (R528, R567, R568). Elsewhere nothing happens. TEMP of a broken sensor
(log entry 94), the boot that HOT stops (log entry 95) and the order within a sample (log entry 96) are the model's reading. -/
def Obligations.ThermalWatchActs : Prop :=
  (∀ (s : State) (t0 t1 t2 t3 : BitVec 16), s.wf = true → s.sensorsOn = true → s.reqs = [] →
    ∃ t, exec (.sensorSample t0 t1 t2 t3) s = .next t ∧
      (∀ k, k < 4 → s.broken k = false →
        t.fi (F.THM_TS_TEMP k) = (([t0, t1, t2, t3] : List (BitVec 16)).getD k 0).toInt ∧
        (t.broken k = false → ∀ j, j < 4 →
          let x := (([t0, t1, t2, t3] : List (BitVec 16)).getD k 0).toInt
          let run := (s.thm.runs.getD k [0, 0, 0, 0]).getD j 0
          t.tsFlag k j = if s.tsFlag k j
            then !([decide (-320 ≤ x), decide (x ≤ 1600), decide (x < 1840), decide (x < 2080)].getD j false &&
              decide (15 ≤ run))
            else [decide (x < -400), decide (1680 < x), decide (1920 ≤ x), decide (2160 ≤ x)].getD j false &&
              decide (3 ≤ run))) ∧
      (∀ k, k < 4 → s.broken k = true → t.f (F.THM_TS_CAUSE k) = s.f (F.THM_TS_CAUSE k) ∧
        t.f (F.THM_TS_TEMP k) = s.f (F.THM_TS_TEMP k)) ∧
      (s.hot = false →
        (((∃ j k, j < k ∧ k < 4 ∧ t.tsFlag j 3 = true ∧ t.tsFlag k 3 = true) ∨ t.on F.THM_STAT_AONCMP = true) →
          t.f F.THM_STAT_STATE = 2) ∧
        ((∀ j k, j < k → k < 4 → t.tsFlag j 3 = false ∨ t.tsFlag k 3 = false) → t.on F.THM_STAT_AONCMP = false →
          ((∃ k, k < 4 ∧ t.tsFlag k 2 = true) → t.f F.THM_STAT_STATE = 1) ∧
          ((∀ k, k < 4 → t.tsFlag k 2 = false) → t.f F.THM_STAT_STATE = 0))) ∧
      (t.on F.THM_STAT_WINDOW = true → t.f F.THM_STAT_STATE = 0) ∧
      t.on F.FOL_STAT_WINDOW = t.on F.THM_STAT_WINDOW ∧ t.thm.samples = min (s.thm.samples + 1) 1024 ∧
      (s.boot.ticked = true → s.boot.stage ≠ .held → outside [4, 9, 10, 11, 14] s t ∧ sameMem s t)) ∧
  (∀ (s : State) (t0 t1 t2 t3 : BitVec 16), s.sensorsOn = false → exec (.sensorSample t0 t1 t2 t3) s = .next s) ∧
  (∀ (s : State) (d0 d1 d2 d3 : BitVec 16), s.wf = true → s.sensorsOn = true → s.thm.samples = 1024 →
    ∃ t, exec (.sensorTestSample d0 d1 d2 d3) s = .next t ∧ t.thm.samples = 0 ∧
      (∀ k, k < 4 → s.broken k = false →
        t.broken k = !(decide (512 ≤ (([d0, d1, d2, d3] : List (BitVec 16)).getD k 0).toInt)
          && decide ((([d0, d1, d2, d3] : List (BitVec 16)).getD k 0).toInt ≤ 768))) ∧
      (∀ k, k < 4 → s.broken k = true → t.f (F.THM_TS_CAUSE k) = s.f (F.THM_TS_CAUSE k)) ∧
      sameRegs s t (F.THM_STAT_BROKEN.addr :: (List.range 4).map (fun k => (F.THM_TS_CAUSE k).addr)) ∧ sameMem s t) ∧
  (∀ (s : State) (d0 d1 d2 d3 : BitVec 16), (s.sensorsOn = false ∨ s.thm.samples ≠ 1024) →
    exec (.sensorTestSample d0 d1 d2 d3) s = .next s) ∧
  (∀ (s : State) (above : Bool), s.boot.stage = .reset → exec (.aonComparatorSample above) s = .next s) ∧
  (∀ (s : State) (above : Bool), s.wf = true → s.boot.stage ≠ .reset → s.reqs = [] →
    ∃ t, exec (.aonComparatorSample above) s = .next t ∧
      (above = s.on F.THM_STAT_AONCMP → t.thm.aonRun = 0 ∧ sameRegs s t [] ∧ sameMem s t) ∧
      (above ≠ s.on F.THM_STAT_AONCMP → s.thm.aonRun + 1 < (if above then 4 else 16) →
        t.thm.aonRun = s.thm.aonRun + 1 ∧ sameRegs s t [] ∧ sameMem s t) ∧
      (above ≠ s.on F.THM_STAT_AONCMP → (if above then 4 else 16) ≤ s.thm.aonRun + 1 →
        t.thm.aonRun = 0 ∧ t.on F.THM_STAT_AONCMP = above ∧
        (above = false ∨ s.hot = true → sameRegs s t [F.THM_STAT_AONCMP.addr] ∧ sameMem s t) ∧
        (above = true → s.hot = false →
          t.f F.THM_STAT_STATE = 2 ∧ t.on F.THM_STAT_HOLD = true ∧
          t.on F.THM_STAT_RECPEND = true ∧ t.on F.THM_STAT_WINDOW = false ∧ t.pair.stage = .off ∧
          t.fol.jobs = [] ∧ t.fol.txns = [] ∧
          t.safe.srcs.contains .hot = true ∧ t.f F.THM_HOTCNT = min (s.f F.THM_HOTCNT + 1) (2 ^ 32 - 1) ∧
          t.f (F.THM_REC 0) = (s.f (F.THM_REC 0) + 1) % 2 ^ 32 ∧
          outside [4, 9, 10, 11, 14] s t ∧ sameMem s t))) ∧
  (∀ s : State, s.wf = true → s.hot = true → s.halted = false → s.folFree = true → s.boot.ticked = true →
    ∃ t, exec .thermalHaltEntry s = .next t ∧ t.halted = true ∧ t.unitCode = 5 ∧ t.boot.counting = false ∧ t.pair.hb = false ∧
      t.pair.hs = false ∧
    outside [2, 3, 4, 5, 6, 7, 8, 9, 14] s t ∧ ∀ a, (a < 0x100000 ∨ 0x200000 ≤ a) → t.mb a = s.mb a) ∧
  (∀ s : State, (s.hot = false ∨ s.halted = true ∨ s.folFree = false ∨ s.boot.ticked = false) →
    exec .thermalHaltEntry s = .next s) ∧
  (∀ s : State, s.wf = true → (s.boot.stage ≠ .reset ∨ s.clk.por = false) →
    ∃ t, exec .aonSecond s = .next t ∧ t.f F.THM_AONSEC = min (s.f F.THM_AONSEC + 1) (2 ^ 32 - 1) ∧
      t.fox.eq = min (s.fox.eq + agingWeight (match s.topTemp with
        | some x => clampI (-40) 150 (x / 16)
        | none => 150)) (2 ^ 48 - 1) ∧
      t.f F.FOX_EQH = t.fox.eq / 921600 % 2 ^ 32 ∧
      t.fox.replanDue = (s.fox.replanDue || (s.boot.ticked && t.f F.THM_AONSEC % 3600 == 1800)) ∧
      sameRegs s t [F.THM_AONSEC.addr, F.FOX_EQH.addr] ∧ sameMem s t) ∧
  (∀ s : State, s.boot.stage = .reset → s.clk.por = true → exec .aonSecond s = .next s)

/-- The key scanner: a key that has read the same in four fast or two slow scans is debounced (R535, R538), the bitmap is the
debounced keys without the masked ones (R540), GHOST shows a rectangle (R539). An enabled combination whose keys are held long
enough fires once, and its action is done (R542, R543). Without a key for 10 s a wake ends, and the mode follows at the end of a
scan (R536, R537); a write of a combination starts its timer anew (R545). A combination that names no key never holds (log entry
97), and a scan that began before a reset ends in the mode it began in (log entry 139). -/
def Obligations.PanelKeysAct : Prop :=
  (∀ (s : State) (keys : BitVec 64), s.wf = true → (s.boot.stage ≠ .reset ∨ s.clk.por = false) →
    (∀ n, n < 4 → s.on (F.PNL_COMBO_CFG_EN n) = false ∨ bit (s.f F.PNL_COMBOSTAT_FIRED) n = true ∨
      s.pnl.timers.getD n 0 + (if s.pnl.fast then 4 else 125) < 400 * s.f (F.PNL_COMBO_CFG_HOLD n)) →
    ∃ t, exec (.keyScanEnd keys) s = .next t ∧ t.pnl.raw = keys.toNat ∧
      (∀ k, k < 64 → bit t.pnl.deb k =
        if (if s.pnl.fast then 4 else 2) ≤
            (if bit keys.toNat k = bit s.pnl.raw k then min (s.pnl.runs.getD k 0 + 1) 4 else 1)
        then bit keys.toNat k else bit s.pnl.deb k) ∧
      (∀ k, k < 64 → bit t.keyMap k = (bit t.pnl.deb k && !bit t.keyMask k)) ∧
      (∀ n, n < 4 → bit (t.f F.PNL_COMBOSTAT_HOLDING) n = (decide (t.comboKeys n ≠ 0) && t.keyMap == t.comboKeys n)) ∧
      t.on F.PNL_STAT_GHOST = ghost t.keyMap ∧ t.on F.PNL_STAT_FAST = t.scanFast ∧ sameMem s t ∧
      outside [12] s t) ∧
  (∀ (s : State) (n : Nat), s.wf = true → n < 4 → (s.boot.stage ≠ .reset ∨ s.clk.por = false) →
    (∀ k, k < 4 → s.on (F.PNL_COMBO_CFG_EN k) = decide (k = n)) → s.keyMap = s.comboKeys n → s.keyMap ≠ 0 →
    s.pnl.raw = s.keyMap → s.pnl.deb = s.keyMap → s.keyMask = 0 → s.pnl.timers.length = 4 →
    (∀ k, k < 64 → s.pnl.time.getD k 0 + 125 < 4000 * s.f F.PNL_CFG_STUCK) →
    bit (s.f F.PNL_COMBOSTAT_HOLDING) n = true → bit (s.f F.PNL_COMBOSTAT_FIRED) n = false →
    400 * s.f (F.PNL_COMBO_CFG_HOLD n) ≤ s.pnl.timers.getD n 0 + 4 →
    ∃ t, exec (.keyScanEnd (BitVec.ofNat 64 s.keyMap)) s = .next t ∧
      ((s.f (F.PNL_COMBO_CFG_ACTION n) = 0 ∨ s.f (F.PNL_COMBO_CFG_ACTION n) = 2) →
        t.on F.CRT_RSTCAUSE_PANEL = true ∧ t.boot.stage = .reset) ∧
      (s.f (F.PNL_COMBO_CFG_ACTION n) = 2 → t.f F.BOOT_PREF_NEXT = 2 ∧ t.on F.BOOT_PREF_ONCE = true) ∧
      ((s.f (F.PNL_COMBO_CFG_ACTION n) = 1 ∨ s.f (F.PNL_COMBO_CFG_ACTION n) = 3) →
        bit (t.f F.PNL_COMBOSTAT_FIRED) n = true ∧ bit (t.f F.PNL_COMBOSTAT_EVENT) n = true ∧
        t.f F.PNL_FIRECNT = min (s.f F.PNL_FIRECNT + 1) (2 ^ 32 - 1) ∧ sameMem s t ∧ outside [9, 11, 12, 14] s t) ∧
      (s.f (F.PNL_COMBO_CFG_ACTION n) = 1 → s.active = true → t.pair.swapLeft = 5) ∧
      (s.f (F.PNL_COMBO_CFG_ACTION n) = 3 → t.f F.THM_STAT_LATCH = 0)) ∧
  (∀ (s : State) (keys : BitVec 64), s.boot.stage = .reset → s.clk.por = true → exec (.keyScanEnd keys) s = .next s) ∧
  (∀ s : State, s.wf = true → s.on F.PNL_STAT_WOKEN = true → s.keyMap = 0 →
    ∃ t, exec .scannerWakeTimeout s = .next t ∧ t.on F.PNL_STAT_WOKEN = false ∧
      t.on F.PNL_STAT_FAST = s.on F.PNL_STAT_FAST ∧ sameRegs s t [F.PNL_STAT_WOKEN.addr] ∧ sameMem s t) ∧
  (∀ s : State, (s.on F.PNL_STAT_WOKEN = false ∨ s.keyMap ≠ 0) → exec .scannerWakeTimeout s = .next s) ∧
  (∀ (s : State) (m : Master) (n : Fin 4) (w : Word), s.wf = true → s.admits m (F.PNL_COMBO_CFG_EN n).addr = true →
    s.pnl.timers.length = 4 →
    (∃ t, exec (.combinationWrite m n true w) s = .next t ∧
      (∀ k, k < 32 → bit (t.rd (F.PNL_COMBO_CFG_EN n).addr) k =
        if bit 0x80001FE3 k then bit w.toNat k else bit (s.rd (F.PNL_COMBO_CFG_EN n).addr) k) ∧
      t.pnl.timers.getD n 0 = 0 ∧ bit (t.f F.PNL_COMBOSTAT_FIRED) n = false ∧
      sameRegs s t [(F.PNL_COMBO_CFG_EN n).addr, F.PNL_COMBOSTAT_FIRED.addr] ∧ sameMem s t) ∧
    (∃ t, exec (.combinationWrite m n false w) s = .next t ∧
      (∀ k, k < 32 → bit (t.rd (F.PNL_COMBO_KEYS_USED0 n).addr) k =
        if bit 0xBFBFBFBF k then bit w.toNat k else bit (s.rd (F.PNL_COMBO_KEYS_USED0 n).addr) k) ∧
      t.pnl.timers.getD n 0 = 0 ∧ bit (t.f F.PNL_COMBOSTAT_FIRED) n = false ∧
      sameRegs s t [(F.PNL_COMBO_KEYS_USED0 n).addr, F.PNL_COMBOSTAT_FIRED.addr] ∧ sameMem s t))

/-- The Ledger: counters are cleared and chosen by a code that names a source (R553, R555), the mode of the snapshot is
written unless its frame has passed (R556), and the copies taken at a tick appear (R557).
Annals: the oldest event of the FIFO goes to the ring where WPOS points, with its continuation after it, and a CRIT entry to
the persistent log (R558, R559, R562); the boot read of the persistent log finds where it goes on, and after a power-on reset
restores EQ (R564, R567), also when another reset came between (log entry 28, the model's reading). Elsewhere nothing happens. -/
def Obligations.LedgerAndAnnalsAreWritten : Prop :=
  (∀ (s : State) (m : Master) (w : Word), s.wf = true → s.admits m F.LDG_CLR.addr = true →
    ∃ t, exec (.ledgerClear m w) s = .next t ∧
      (∀ k, k < 32 → bit w.toNat k = true → t.f (F.LDG_CNT_LO k) = 0 ∧ t.f (F.LDG_CNT_HI_COUNT k) = 0) ∧
      (∀ k, k < 32 → bit w.toNat k = false → t.f (F.LDG_CNT_LO k) = s.f (F.LDG_CNT_LO k) ∧
        t.f (F.LDG_CNT_HI_COUNT k) = s.f (F.LDG_CNT_HI_COUNT k)) ∧
      sameRegs s t ((List.range 32).flatMap (fun k => [(F.LDG_CNT_LO k).addr, (F.LDG_CNT_HI_COUNT k).addr])) ∧ sameMem s t) ∧
  (∀ (s : State) (m : Master) (k : Fin 32) (w : Word), s.wf = true → s.admits m (F.LDG_CNT_SEL_SRC k).addr = true →
    (sourceOk (w.toNat % 256) = true → ∃ t, exec (.ledgerSelect m k w) s = .next t ∧
      t.f (F.LDG_CNT_SEL_SRC k) = w.toNat % 256 ∧ t.on (F.LDG_CNT_SEL_EN k) = bit w.toNat 31 ∧ t.f (F.LDG_CNT_LO k) = 0 ∧
      t.f (F.LDG_CNT_HI_COUNT k) = 0 ∧
      sameRegs s t [(F.LDG_CNT_SEL_SRC k).addr, (F.LDG_CNT_LO k).addr, (F.LDG_CNT_HI_COUNT k).addr] ∧ sameMem s t) ∧
    (sourceOk (w.toNat % 256) = false →
      exec (.ledgerSelect m k w) s = .next (s.reject (masterCode m) (F.LDG_CNT_SEL_SRC k).addr))) ∧
  (∀ (s : State) (m : Master) (w : Word), s.wf = true → s.admits m F.LDG_SNAPCTL_MODE.addr = true →
    ((w.toNat % 4 ≠ 2 ∨ newer32 (s.f F.LDG_SNAPFRAME) s.frame = true) → ∃ t, exec (.snapshotModeWrite m w) s = .next t ∧
      t.f F.LDG_SNAPCTL_MODE = w.toNat % 4 ∧ t.f F.LDG_SNAPCTL_PER = w.toNat / 256 % 32 ∧
      sameRegs s t [F.LDG_SNAPCTL_MODE.addr] ∧ sameMem s t) ∧
    (w.toNat % 4 = 2 → newer32 (s.f F.LDG_SNAPFRAME) s.frame = false →
      exec (.snapshotModeWrite m w) s = .next (s.reject (masterCode m) F.LDG_SNAPCTL_MODE.addr))) ∧
  (∀ (s : State) (x : Snap), s.wf = true → s.snap = some x →
    ∃ t, exec .snapshot s = .next t ∧ t.snap = none ∧ t.f F.LDG_SNAPSTAT_SEQ = (s.f F.LDG_SNAPSTAT_SEQ + 1) % 2 ^ 16 ∧
      t.f F.LDG_SNAPINFO0 = x.frame % 2 ^ 32 ∧ t.f F.LDG_SNAPINFO1 = x.rtc % 2 ^ 32 ∧
      (∀ k, k < 32 → t.f (F.LDG_SNAP_LO k) = x.vals.getD k 0 % 2 ^ 32 ∧
        t.f (F.LDG_SNAP_HI_COUNT k) = x.vals.getD k 0 / 2 ^ 32 % 2 ^ 16) ∧ sameMem s t ∧
        outside [13] s t) ∧
  (∀ s : State, s.snap = none → exec .snapshot s = .next s) ∧
  (∀ (s : State) (e : AnnEvent) (l : List AnnEvent), s.wf = true → s.annFifo = e :: l →
    ∃ t, exec .annalsRingWrite s = .next t ∧ t.annFifo = l ∧
      t.f F.ANL_STAT_WPOS = (s.f F.ANL_STAT_WPOS + (if e.cont.isSome then 2 else 1)) % 2 ^ 10 ∧
      t.rd (0x400D4000 + 16 * s.f F.ANL_STAT_WPOS) = e.frame % 2 ^ 32 ∧
      t.rd (0x400D4000 + 16 * s.f F.ANL_STAT_WPOS + 4) = e.rtc % 2 ^ 32 ∧
      t.rd (0x400D4000 + 16 * s.f F.ANL_STAT_WPOS + 8) = numAt (e.body false e.detail) 0 4 ∧
      t.rd (0x400D4000 + 16 * s.f F.ANL_STAT_WPOS + 12) = e.detail % 2 ^ 32 ∧
      (∀ d, e.cont = some d →
        t.rd (0x400D4000 + 16 * ((s.f F.ANL_STAT_WPOS + 1) % 2 ^ 10)) = e.frame % 2 ^ 32 ∧
        t.rd (0x400D4000 + 16 * ((s.f F.ANL_STAT_WPOS + 1) % 2 ^ 10) + 8) = numAt (e.body true d) 0 4 ∧
        t.rd (0x400D4000 + 16 * ((s.f F.ANL_STAT_WPOS + 1) % 2 ^ 10) + 12) = d % 2 ^ 32) ∧
      t.f F.ANL_TOTAL = min (s.f F.ANL_TOTAL + (if e.cont.isSome then 2 else 1)) (2 ^ 32 - 1) ∧
      (e.crit = false → t.fol.jobs = s.fol.jobs ∧ outside [13] s t) ∧
      (e.crit = true → t.on F.SVC_IRQST_CRIT = true ∧ outside [10, 13, 14] s t ∧
        (s.fol.jobs.length < 15 → t.fol.jobs = s.fol.jobs ++ FolJob.annals e.rtc (e.body false e.detail) ::
          (e.cont.toList.map (fun d => FolJob.annals e.rtc (e.body true d))))) ∧ sameMem s t) ∧
  (∀ s : State, s.annFifo = [] → exec .annalsRingWrite s = .next s) ∧
  (∀ s : State, s.wf = true → s.boot.recalled = true → s.on F.ANL_PSTAT_READY = false → s.folFree = true →
    s.folPfi = false →
    ∃ t, exec .persistentLogReadEnd s = .next t ∧ t.on F.ANL_PSTAT_READY = true ∧
      (∀ e, s.fol.newestEntry (fun _ => true) = some e →
        t.f F.ANL_PSTAT_PIDX = (e.1 + 1) % 2 ^ 8 ∧ t.f F.ANL_PSTAT_PSEQ = (numAt e.2 4 2 + 1) % 2 ^ 16) ∧
      (s.fol.newestEntry (fun _ => true) = none → t.f F.ANL_PSTAT_PIDX = 0 ∧ t.f F.ANL_PSTAT_PSEQ = 0) ∧
      (∀ e, s.fox.eqDue = true → s.fol.newestEntry (entryIs 0x0F 0x11) = some e →
        t.f F.FOX_EQH = numAt e.2 10 4 % 2 ^ 27 ∧ t.fox.eq = 921600 * t.f F.FOX_EQH) ∧
      (s.fox.eqDue = true → s.fol.newestEntry (entryIs 0x0F 0x11) = none → t.on F.FOX_STAT_EQHLOST = true) ∧
      (s.fox.eqDue = false → t.fox = s.fox) ∧ sameMem s t ∧
      outside [10, 13] s t) ∧
  (∀ s : State, (s.boot.recalled = false ∨ s.on F.ANL_PSTAT_READY = true ∨ s.folFree = false ∨ s.folPfi = true) →
    exec .persistentLogReadEnd s = .next s)

/-- Foxing: a scan shows the slack of every running domain and keeps its minimum, and a slack of a core below the guard raises
the voltage at once (R565, R566, R570); a re-plan returns the minima to 0x7FFF and publishes the life that is left (R568, R575);
FOX_VREQ is written while VLOCK holds it, within its range (R577). What is not due does nothing. When a
re-plan counts and when it steps is log entry 98, the stored form of N with its bound log entry 99 (the model's reading). -/
def Obligations.FoxingScansAndPlans : Prop :=
  (∀ (s : State) (slack : List (BitVec 16)) (g c : BitVec 16), s.wf = true → slack.length = 9 → s.fox.scanDue = true →
    s.boot.ticked = true →
    ∃ t, exec (.foxingScan slack g c) s = .next t ∧ t.fox.scanDue = false ∧ t.fox.scanned = true ∧
      (∀ d, d < 9 → s.domainRuns d = true → t.fi (F.FOX_SLACK_NOW d) = (slack.getD d 0).toInt ∧
        t.fi (F.FOX_SLACK_MIN d) = min (s.fi (F.FOX_SLACK_MIN d)) (slack.getD d 0).toInt) ∧
      (∀ d, d < 9 → s.domainRuns d = false → t.rd (F.FOX_SLACK_NOW d).addr = s.rd (F.FOX_SLACK_NOW d).addr) ∧
      t.f F.FOX_REF_BGDIFF = g.toNat ∧ t.f F.FOX_REF_CREF = c.toNat ∧
      (s.fox.scanned = false → t.fox.cref0 = c.toInt) ∧ (s.fox.scanned = true → t.fox.cref0 = s.fox.cref0) ∧
      ((∃ d, 1 ≤ d ∧ d ≤ 7 ∧ s.domainRuns d = true ∧ (slack.getD d 0).toInt < (s.f F.FOX_CFG_GUARD : Nat)) →
        s.on F.FOX_CTL_VLOCK = false → s.foxN < 20 →
        t.foxN = s.foxN + 1 ∧ t.fox.hiRuns = 0 ∧ t.f F.FOX_LAST_KIND = 2 ∧ t.f F.FOX_LAST_VALUE = s.foxN + 1) ∧
      (((∀ d, 1 ≤ d → d ≤ 7 → s.domainRuns d = true → (s.f F.FOX_CFG_GUARD : Int) ≤ (slack.getD d 0).toInt) ∨
          s.on F.FOX_CTL_VLOCK = true ∨ 20 ≤ s.foxN) → t.foxN = s.foxN ∧ t.f F.FOX_LAST_KIND = s.f F.FOX_LAST_KIND) ∧
      sameMem s t ∧ outside [13] s t) ∧
  (∀ (s : State) (slack : List (BitVec 16)) (g c : BitVec 16), slack.length = 9 →
    (s.fox.scanDue = false ∨ s.boot.ticked = false) → exec (.foxingScan slack g c) s = .next s) ∧
  (∀ s : State, s.wf = true → s.fox.replanDue = true → s.boot.ticked = true → s.halted = false →
    ∃ t, exec .foxingReplan s = .next t ∧ t.fox.replanDue = false ∧ t.fox.scanned = false ∧
      t.fox.replans = (s.fox.replans + 1) % 24 ∧
      (∀ d, d < 9 → t.f (F.FOX_SLACK_MIN d) = 0x7FFF) ∧
      (s.fox.scanned = true → s.on F.FOX_CTL_VLOCK = false → s.smin < (s.f F.FOX_CFG_TARGET : Nat) → s.foxN < 20 →
        t.foxN = s.foxN + 1) ∧
      ((s.fox.scanned = false ∨ s.on F.FOX_CTL_VLOCK = true) → t.foxN = s.foxN) ∧
      t.f F.FOX_LIFEH = (175200 - s.fox.eq / 921600) % 2 ^ 32 ∧ t.f F.FOX_HEAD_VHEAD = (20 - t.foxN) % 2 ^ 5 ∧ sameMem s t ∧
      outside [2, 10, 13, 14] s t) ∧
  (∀ s : State, (s.fox.replanDue = false ∨ s.boot.ticked = false ∨ s.halted = true) → exec .foxingReplan s = .next s) ∧
  (∀ (s : State) (m : Master) (w : Word), s.wf = true → s.admits m F.FOX_VREQ_N.addr = true →
    (s.on F.FOX_CTL_VLOCK = true → nfac ≤ w.toNat % 32 → w.toNat % 32 ≤ 20 →
      ∃ t, exec (.foxVreqWrite m w) s = .next t ∧ t.foxN = w.toNat % 32 ∧ sameRegs s t [F.FOX_VREQ_N.addr] ∧ sameMem s t) ∧
    ((s.on F.FOX_CTL_VLOCK = false ∨ w.toNat % 32 < nfac ∨ 20 < w.toNat % 32) →
      exec (.foxVreqWrite m w) s = .next (s.reject (masterCode m) F.FOX_VREQ_N.addr)))

/-! ### Requests of the masters (R464, R583 to R598) -/

/-- The service port reads and writes: a READ answers the words of its range, of a register what the register shows (R591,
R593); a WRITE or WRITEB writes word after word under the rules of every write and stops with status 0x03 at the first that is
discarded (R589, R594, R596); a header that is refused is answered with the status of R592 and writes nothing; what lies in
Folio waits for it (R584); a transaction clocked word by word stays open (R594); nothing is heard before the PLL has locked or
while a transaction is open.
The peer's request is a master access: a read answers the words of its range, a write writes them, a range outside the map is
answered STATUS 0x02 and no word (R464); the reply waits for the next tick; with the link down a request is not heard. One that
is carried out word by word has one word carried out in each step without a command (R584).
That a request runs whole in one step, or a word at a time where its command says so, is log entry 11; how the bytes of one
word combine, log entry 44; what a port request that fails shows, log entry 100 (the model's reading). -/
def Obligations.RequestsOfMastersAct : Prop :=
  (∀ (s : State) (a : BitVec 32) (len : BitVec 8), s.wf = true → s.portLive = true → s.hasReq .port = false →
    a.toNat % 4 = 0 → a.toNat + 4 * (len.toNat + 1) ≤ 0x200000 →
    ∃ t, exec (.spiRead a len false) s = .next t ∧ t.svc.status = 0 ∧ t.svc.lastErr = false ∧
      t.svc.miso = (List.range (len.toNat + 1)).map (fun i => BitVec.ofNat 32 (s.mw (a.toNat + 4 * i))) ∧
      t.f F.SVC_STAT_LASTST = 0 ∧ sameRegs s t [F.SVC_STAT_LASTST.addr] ∧ sameMem s t) ∧
  (∀ (s : State) (a : BitVec 32), s.wf = true → s.portLive = true → s.hasReq .port = false →
    a.toNat % 4 = 0 → 0x40000000 ≤ a.toNat → a.toNat < 0x400F0000 →
    ∃ t, exec (.spiRead a 0 false) s = .next t ∧ t.svc.status = 0 ∧
      t.svc.miso = [BitVec.ofNat 32 (s.busRead a.toNat).1] ∧ sameRegs s t [F.SVC_STAT_LASTST.addr] ∧ sameMem s t) ∧
  (∀ (s : State) (a : BitVec 32) (len : BitVec 8), s.portLive = true → s.hasReq .port = false →
    a.toNat % 4 = 0 → 0x200000 ≤ a.toNat → a.toNat + 4 * (len.toNat + 1) ≤ 0x220000 →
    ∃ t r, exec (.spiRead a len false) s = .next t ∧ t.reqs = s.reqs ++ [r] ∧ r.who = .port ∧
      r.wait = some (4 * (len.toNat + 1)) ∧
      t.fol.txns = s.fol.txns ++ [⟨.port, none, a.toNat - 0x200000, [], 4 * (len.toNat + 1)⟩] ∧ sameRegs s t [] ∧ sameMem s t) ∧
  (∀ (s : State) (a : BitVec 32) (len : BitVec 8), s.portLive = true → s.hasReq .port = false →
    ∃ t r, exec (.spiRead a len true) s = .next t ∧ t.reqs = s.reqs ++ [r] ∧ r.who = .port ∧ r.write = false ∧
      r.addr = a.toNat ∧ r.n = len.toNat + 1 ∧ r.k = 0 ∧ r.wait = none ∧
      r.status = portCheck false a.toNat (4 * (len.toNat + 1)) ∧ t.svc.split = true ∧ sameRegs s t [] ∧ sameMem s t) ∧
  (∀ (s : State) (a : BitVec 32) (words : List Word), s.portLive = true → s.hasReq .port = false → words ≠ [] →
    words.length ≤ 256 →
    ∃ t r, exec (.spiWrite a words true) s = .next t ∧ t.reqs = s.reqs ++ [r] ∧ r.who = .port ∧ r.write = true ∧
      r.bytes = false ∧ r.addr = a.toNat ∧ r.n = words.length ∧ r.data = words.map (·.toNat) ∧ r.k = 0 ∧ r.wait = none ∧
      t.svc.split = true ∧ sameRegs s t [] ∧ sameMem s t) ∧
  (∀ (s : State) (a : BitVec 32) (bytes : List Byte), s.portLive = true → s.hasReq .port = false → bytes ≠ [] →
    bytes.length ≤ 256 →
    ∃ t r, exec (.spiWriteb a bytes true) s = .next t ∧ t.reqs = s.reqs ++ [r] ∧ r.who = .port ∧ r.write = true ∧
      r.bytes = true ∧ r.addr = a.toNat ∧ r.n = bytes.length ∧ r.data = bytes.map (·.toNat) ∧ r.k = 0 ∧ r.wait = none ∧
      t.svc.split = true ∧ sameRegs s t [] ∧ sameMem s t) ∧
  (∀ (s : State) (a : BitVec 32) (len : BitVec 8) (words : List Word) (bytes : List Byte) (split : Bool), words ≠ [] →
    words.length ≤ 256 → bytes ≠ [] → bytes.length ≤ 256 → (s.portLive = false ∨ s.hasReq .port = true) →
    exec (.spiRead a len split) s = .next s ∧ exec (.spiWrite a words split) s = .next s ∧
    exec (.spiWriteb a bytes split) s = .next s) ∧
  (∀ (s : State) (a : BitVec 32) (len : BitVec 8), s.wf = true → s.portLive = true → s.hasReq .port = false →
    portCheck false a.toNat (4 * (len.toNat + 1)) ≠ 0 →
    ∃ t, exec (.spiRead a len false) s = .next t ∧
      t.svc.status = BitVec.ofNat 8 (portCheck false a.toNat (4 * (len.toNat + 1))) ∧ t.svc.lastErr = true ∧
      (t.svc.status = 5 → t.on F.SVC_STAT_FMT = true ∧ t.f F.SVC_FMTCNT = min (s.f F.SVC_FMTCNT + 1) (2 ^ 32 - 1)) ∧
      sameRegs s t [F.SVC_STAT_LASTST.addr, F.SVC_FMTCNT.addr] ∧ sameMem s t) ∧
  (∀ (s : State) (a : BitVec 32) (words : List Word), s.wf = true → s.portLive = true → s.hasReq .port = false →
    words ≠ [] → words.length ≤ 256 → portCheck false a.toNat (4 * words.length) ≠ 0 →
    ∃ t, exec (.spiWrite a words false) s = .next t ∧
      t.svc.status = BitVec.ofNat 8 (portCheck false a.toNat (4 * words.length)) ∧ t.svc.lastErr = true ∧
      sameRegs s t [F.SVC_STAT_LASTST.addr, F.SVC_FMTCNT.addr] ∧ sameMem s t) ∧
  (∀ (s : State) (a : BitVec 32) (bytes : List Byte), s.wf = true → s.portLive = true → s.hasReq .port = false →
    bytes ≠ [] → bytes.length ≤ 256 → portCheck true a.toNat bytes.length ≠ 0 →
    ∃ t, exec (.spiWriteb a bytes false) s = .next t ∧
      t.svc.status = BitVec.ofNat 8 (portCheck true a.toNat bytes.length) ∧ t.svc.lastErr = true ∧
      sameRegs s t [F.SVC_STAT_LASTST.addr, F.SVC_FMTCNT.addr] ∧ sameMem s t) ∧
  (∀ (s : State) (a w : BitVec 32), s.wf = true → s.portLive = true → s.hasReq .port = false → s.svc.split = false →
    a.toNat % 4 = 0 → rangeMapped a.toNat 4 = true → s.toFolio ⟨.port, true, false, a.toNat, 1, [w.toNat], 0, [], 0, none, 0, false⟩
      a.toNat = false →
    ∃ t, exec (.spiWrite a [w] false) s = .next t ∧ t.svc.status = (if (s.busWrite a.toNat w.toNat).2 then 0 else 3) ∧
      t.svc.miso = [] ∧ t.svc.lastErr = !(s.busWrite a.toNat w.toNat).2 ∧
      sameRegs (s.masterWrite 0 a.toNat w.toNat a.toNat).1 t [F.SVC_STAT_LASTST.addr] ∧
      sameMem (s.masterWrite 0 a.toNat w.toNat a.toNat).1 t) ∧
  (∀ (s : State) (a b w : BitVec 32) (words : List Word), s.portLive = true → s.hasReq .port = false →
    s.svc.split = false → a.toNat % 4 = 0 → words ≠ [] → words.length ≤ 255 → a.toNat + 4 * (words.length + 1) ≤ 0x200000 →
    b.toNat = a.toNat + 4 →
    ∃ t, exec (.spiWrite a (w :: words) false) s = .next t ∧
      ((s.busWrite a.toNat w.toNat).2 = true →
        exec (.spiWrite b words false) (s.masterWrite 0 a.toNat w.toNat a.toNat).1 = .next t) ∧
      ((s.busWrite a.toNat w.toNat).2 = false → t.svc.status = 3 ∧
        sameRegs (s.masterWrite 0 a.toNat w.toNat a.toNat).1 t [F.SVC_STAT_LASTST.addr] ∧
        sameMem (s.masterWrite 0 a.toNat w.toNat a.toNat).1 t)) ∧
  (∀ (s : State) (a : BitVec 32) (words : List Word), s.portLive = true → s.hasReq .port = false → words ≠ [] →
    words.length ≤ 256 → a.toNat % 4 = 0 → 0x200000 ≤ a.toNat → a.toNat + 4 * words.length ≤ 0x220000 →
    s.writeGate a.toNat = true →
    ∃ t r, exec (.spiWrite a words false) s = .next t ∧ t.reqs = s.reqs ++ [r] ∧ r.who = .port ∧
      r.wait = some (4 * words.length) ∧
      t.fol.txns = s.fol.txns ++ [⟨.port, none, a.toNat - 0x200000, words.flatMap (fun w => word4 w.toNat), 0⟩] ∧
      sameRegs s t [] ∧ sameMem s t) ∧
  (∀ (s : State) (a : BitVec 32) (bytes : List Byte), s.portLive = true → s.hasReq .port = false → bytes ≠ [] →
    bytes.length ≤ 256 → 0x200000 ≤ a.toNat → a.toNat + bytes.length ≤ 0x220000 → s.writeGate a.toNat = true →
    ∃ t r, exec (.spiWriteb a bytes false) s = .next t ∧ t.reqs = s.reqs ++ [r] ∧ r.who = .port ∧
      r.wait = some bytes.length ∧ t.fol.txns = s.fol.txns ++ [⟨.port, none, a.toNat - 0x200000, bytes, 0⟩] ∧
      sameRegs s t [] ∧ sameMem s t) ∧
  (∀ (s : State) (a : BitVec 32) (b : Byte), s.wf = true → s.portLive = true → s.hasReq .port = false → s.svc.split = false →
    inMem a.toNat = true →
    ∃ t, exec (.spiWriteb a [b] false) s = .next t ∧
      t.svc.lastErr = !(s.busWrite (a.toNat - a.toNat % 4)
        (setBits (s.pendWord (a.toNat - a.toNat % 4)) (8 * (a.toNat % 4)) 8 b.toNat)).2 ∧
      sameMem (s.masterWrite 0 (a.toNat - a.toNat % 4)
        (setBits (s.pendWord (a.toNat - a.toNat % 4)) (8 * (a.toNat % 4)) 8 b.toNat) a.toNat).1 t ∧
      sameRegs (s.masterWrite 0 (a.toNat - a.toNat % 4)
        (setBits (s.pendWord (a.toNat - a.toNat % 4)) (8 * (a.toNat % 4)) 8 b.toNat) a.toNat).1 t
        [F.SVC_STAT_LASTST.addr]) ∧
  (∀ (s : State) (tag n : BitVec 8) (a : BitVec 32), s.linkUp = true → s.hasReq .peer = false → a.toNat % 4 = 0 →
    1 ≤ n.toNat → n.toNat ≤ 64 → a.toNat + 4 * n.toNat ≤ 0x200000 →
    ∃ t, exec (.linkMgmtRequest false tag a n []) s = .next t ∧ t.pair.quiet = 0 ∧
      t.pair.mgmtOut = s.pair.mgmtOut ++
        [.mgmtReply tag.toNat 0 ((List.range n.toNat).map (fun i => s.mw (a.toNat + 4 * i)))] ∧
      sameRegs s t [] ∧ sameMem s t) ∧
  (∀ (s : State) (tag : BitVec 8) (a w : BitVec 32), s.linkUp = true → s.hasReq .peer = false → a.toNat % 4 = 0 →
    a.toNat + 4 ≤ 0x200000 →
    ∃ t, exec (.linkMgmtRequest true tag a 1 [w]) s = .next t ∧
      t.pair.mgmtOut = s.pair.mgmtOut ++ [.mgmtReply tag.toNat (if (s.busWrite a.toNat w.toNat).2 then 0 else 3) []] ∧
      sameRegs (s.masterWrite 1 a.toNat w.toNat a.toNat).1 t [] ∧
      sameMem (s.masterWrite 1 a.toNat w.toNat a.toNat).1 t) ∧
  (∀ (s : State) (write : Bool) (tag n : BitVec 8) (a : BitVec 32) (words : List Word) (sp : Bool), s.linkUp = true →
    s.hasReq .peer = false → a.toNat % 4 = 0 → 1 ≤ n.toNat → n.toNat ≤ 64 →
    words.length = (if write then n.toNat else 0) → rangeMapped a.toNat (4 * n.toNat) = false →
    ∃ t, exec (.linkMgmtRequest write tag a n words sp) s = .next t ∧
      t.pair.mgmtOut = s.pair.mgmtOut ++ [.mgmtReply tag.toNat 2 []] ∧ sameRegs s t [] ∧ sameMem s t) ∧
  (∀ (s : State) (write : Bool) (tag n : BitVec 8) (a : BitVec 32) (words : List Word), s.linkUp = true →
    s.hasReq .peer = false → a.toNat % 4 = 0 → 1 ≤ n.toNat → n.toNat ≤ 64 → words.length = (if write then n.toNat else 0) →
    0x200000 ≤ a.toNat → a.toNat + 4 * n.toNat ≤ 0x220000 → (write = true → s.writeGate a.toNat = true) →
    ∃ t r, exec (.linkMgmtRequest write tag a n words) s = .next t ∧ t.reqs = s.reqs ++ [r] ∧ r.who = .peer ∧
      r.wait = some (4 * n.toNat) ∧ t.fol.txns.length = s.fol.txns.length + 1 ∧ sameRegs s t [] ∧ sameMem s t) ∧
  (∀ (s : State) (write : Bool) (tag n : BitVec 8) (a : BitVec 32) (words : List Word), s.linkUp = true →
    s.hasReq .peer = false → a.toNat % 4 = 0 → 1 ≤ n.toNat → n.toNat ≤ 64 → words.length = (if write then n.toNat else 0) →
    rangeMapped a.toNat (4 * n.toNat) = true →
    ∃ t r, exec (.linkMgmtRequest write tag a n words true) s = .next t ∧ t.reqs = s.reqs ++ [r] ∧ r.who = .peer ∧
      r.split = true ∧ r.write = write ∧ r.bytes = false ∧ r.addr = a.toNat ∧ r.n = n.toNat ∧
      r.data = words.map (·.toNat) ∧ r.k = 0 ∧ r.out = [] ∧ r.status = 0 ∧ r.wait = none ∧ r.tag = tag.toNat ∧
      t.pair.mgmtOut = s.pair.mgmtOut ∧ sameRegs s t [] ∧ sameMem s t) ∧
  (∀ (s : State) (r : Req), s.pending = [] → s.reqs = [r] → r.who = .peer → r.split = true → r.wait = none → r.status = 0 →
    r.bytes = false → r.addr % 4 = 0 → r.k % 4 = 0 → r.addr + r.k + 4 ≤ 0x200000 → r.k + 4 < 4 * r.n →
    ∃ t, step s = .next t ∧
      (r.write = false → t.reqs = [{ r with k := r.k + 4, out := r.out ++ [s.mw (r.addr + r.k)] }] ∧ sameRegs s t [] ∧
        sameMem s t) ∧
      (r.write = true → (s.busWrite (r.addr + r.k) (r.data.getD (r.k / 4) 0)).2 = true →
        t.reqs = [{ r with k := r.k + 4 }] ∧
        sameRegs (s.masterWrite 1 (r.addr + r.k) (r.data.getD (r.k / 4) 0) (r.addr + r.k)).1 t [] ∧
        sameMem (s.masterWrite 1 (r.addr + r.k) (r.data.getD (r.k / 4) 0) (r.addr + r.k)).1 t)) ∧
  (∀ (s : State) (write : Bool) (tag n : BitVec 8) (a : BitVec 32) (words : List Word) (sp : Bool), a.toNat % 4 = 0 → 1 ≤ n.toNat →
    n.toNat ≤ 64 → words.length = (if write then n.toNat else 0) → (s.linkUp = false ∨ s.hasReq .peer = true) →
    exec (.linkMgmtRequest write tag a n words sp) s = .next s)

/-- The port's other transactions: STATUS (R598), the reset opcode with the bytes of its key or others (R59, R597), an opcode
that is none, clocked or given up (R597), the wait points of an open transaction: a word read, a word written, a word for
Folio, which waits while Folio works for others (R489), words after a failure, nothing while one waits, and the status byte
(R594, R596), an abort, in the header or later: what has begun stands, and what was gathered for Folio is programmed (R597).
That bad opcodes and other bytes are aborts, what stands of an aborted transaction and when its status is given are log entry
100, the status byte before step 7 log entry 101 (the model's reading). -/
def Obligations.PortStatusAbortsAndWaits : Prop :=
  (∀ s : State, s.portLive = true → s.hasReq .port = false →
    ∃ t, exec .spiStatus s = .next t ∧ t.svc.status = BitVec.ofNat 8 s.portStatus ∧ t.svc.miso = s.svc.miso ∧
      sameRegs s t [] ∧ sameMem s t) ∧
  (∀ (s : State) (op : Byte) (clocked : Bool), [0x02#8, 0x03#8, 0x05#8, 0x06#8, 0x99#8].contains op = false →
    (s.portLive = false ∨ s.hasReq .port = true) →
    exec .spiStatus s = .next s ∧ exec (.spiBadOpcode op clocked) s = .next s) ∧
  (∀ (s : State) (bytes : List Byte), (s.boot.stage = .reset ∨ s.hasReq .port = true) →
    exec (.spiReset bytes) s = .next s) ∧
  (∀ (s : State) (bytes : List Byte), s.wf = true → s.boot.stage ≠ .reset → s.hasReq .port = false →
    bytes ≠ [0x5A#8, 0xA5#8] →
    ∃ t, exec (.spiReset bytes) s = .next t ∧ t.on F.SVC_STAT_ABORT = true ∧
      t.f F.SVC_ABORTCNT = min (s.f F.SVC_ABORTCNT + 1) (2 ^ 32 - 1) ∧ t.boot = s.boot ∧
      sameRegs s t [F.SVC_STAT_ABORT.addr, F.SVC_ABORTCNT.addr] ∧ sameMem s t) ∧
  (∀ s : State, s.boot.stage ≠ .reset → s.hasReq .port = false →
    ∃ t, exec (.spiReset [0x5A#8, 0xA5#8]) s = .next t ∧ t.boot.stage = .reset ∧ t.on F.CRT_RSTCAUSE_SVC = true ∧
      t.clk.por = false ∧ t.reqs = [] ∧ afterReset s t) ∧
  (∀ (s : State) (op : Byte), s.wf = true → s.portLive = true → s.hasReq .port = false →
    [0x02#8, 0x03#8, 0x05#8, 0x06#8, 0x99#8].contains op = false →
    (∃ t, exec (.spiBadOpcode op true) s = .next t ∧ t.svc.status = 5 ∧ t.on F.SVC_STAT_FMT = true ∧
      t.f F.SVC_FMTCNT = min (s.f F.SVC_FMTCNT + 1) (2 ^ 32 - 1) ∧
      sameRegs s t [F.SVC_STAT_FMT.addr, F.SVC_FMTCNT.addr] ∧ sameMem s t) ∧
    (∃ t, exec (.spiBadOpcode op false) s = .next t ∧ t.on F.SVC_STAT_ABORT = true ∧
      t.f F.SVC_ABORTCNT = min (s.f F.SVC_ABORTCNT + 1) (2 ^ 32 - 1) ∧
      sameRegs s t [F.SVC_STAT_ABORT.addr, F.SVC_ABORTCNT.addr] ∧ sameMem s t)) ∧
  (∀ s : State, s.hasReq .port = false → exec .spiWaitPoint s = .next s) ∧
  (∀ s : State, s.hasReq .port = false → s.portLive = false → exec .spiAbort s = .next s) ∧
  (∀ s : State, s.wf = true → s.hasReq .port = false → s.portLive = true →
    ∃ t, exec .spiAbort s = .next t ∧ t.on F.SVC_STAT_ABORT = true ∧
      t.f F.SVC_ABORTCNT = min (s.f F.SVC_ABORTCNT + 1) (2 ^ 32 - 1) ∧ t.svc.lastErr = true ∧ t.reqs = s.reqs ∧
      sameRegs s t [F.SVC_STAT_ABORT.addr, F.SVC_ABORTCNT.addr] ∧ sameMem s t) ∧
  (∀ (s : State) (r : Req), s.reqs.find? (fun r => decide (r.who = .port)) = some r →
    (s.svc.split = false ∨ r.wait.isSome = true) → exec .spiWaitPoint s = .next s) ∧
  (∀ (s : State) (r : Req), s.reqs = [r] → r.who = .port → s.svc.split = true → r.write = false → r.bytes = false →
    r.wait = none → r.status = 0 → r.addr + r.k < 0x200000 → r.k < 4 * r.n →
    ∃ t, exec .spiWaitPoint s = .next t ∧
      t.reqs = [{ r with k := r.k + 4, out := r.out ++ [s.mw (r.addr + r.k)] }] ∧ sameRegs s t [] ∧ sameMem s t) ∧
  (∀ (s : State) (r : Req), s.reqs = [r] → r.who = .port → s.svc.split = true → r.write = true → r.bytes = false →
    r.wait = none → r.status = 0 → r.addr % 4 = 0 → r.k % 4 = 0 → r.addr + r.k < 0x200000 → r.k < 4 * r.n →
    ∃ t, exec .spiWaitPoint s = .next t ∧
      t.reqs = [{ r with k := r.k + 4,
                         status := if (s.busWrite (r.addr + r.k) (r.data.getD (r.k / 4) 0)).2 then 0 else 3 }] ∧
      sameRegs (s.masterWrite 0 (r.addr + r.k) (r.data.getD (r.k / 4) 0) (r.addr + r.k)).1 t [] ∧
      sameMem (s.masterWrite 0 (r.addr + r.k) (r.data.getD (r.k / 4) 0) (r.addr + r.k)).1 t) ∧
  (∀ (s : State) (r : Req), s.reqs = [r] → r.who = .port → s.svc.split = true → r.bytes = false → r.wait = none →
    r.status ≠ 0 → r.k < 4 * r.n →
    ∃ t u, exec .spiWaitPoint s = .next t ∧ t.reqs = [u] ∧ u.k = r.k + 4 ∧ u.status = r.status ∧ sameRegs s t [] ∧
      sameMem s t) ∧
  (∀ (s : State) (r : Req), s.wf = true → s.reqs = [r] → r.who = .port → s.svc.split = true → r.wait = none →
    r.status < 256 → (if r.bytes then r.n else 4 * r.n) ≤ r.k →
    ∃ t, exec .spiWaitPoint s = .next t ∧ t.reqs = [] ∧ t.svc.split = false ∧ t.svc.status.toNat = r.status ∧
      t.svc.lastErr = decide (r.status ≠ 0) ∧ t.f F.SVC_STAT_LASTST = r.status ∧ t.fol.held = false ∧
      (r.write = true → t.svc.miso = []) ∧
      (r.write = false → r.bytes = false → t.svc.miso =
        ((r.out ++ List.replicate r.n 0).take r.n).map (fun w => BitVec.ofNat 32 w)) ∧
      t.f F.SVC_FMTCNT = (if r.status = 5 then min (s.f F.SVC_FMTCNT + 1) (2 ^ 32 - 1) else s.f F.SVC_FMTCNT) ∧
      sameRegs s t [F.SVC_STAT_LASTST.addr, F.SVC_FMTCNT.addr] ∧ sameMem s t) ∧
  (∀ (s : State) (r : Req), s.reqs = [r] → r.who = .port → s.svc.split = true → r.write = false → r.bytes = false →
    r.wait = none → r.status = 0 → 0x200000 ≤ r.addr + r.k → r.addr + r.k < 0x220000 → r.k < 4 * r.n →
    ∃ t, exec .spiWaitPoint s = .next t ∧ t.reqs = [{ r with wait := some (r.k + 4) }] ∧
      t.fol.txns = s.fol.txns ++ [⟨.port, none, r.addr + r.k - 0x200000, [], 4⟩] ∧ sameRegs s t [] ∧ sameMem s t) ∧
  (∀ (s : State) (r : Req), s.reqs = [r] → r.who = .port → s.svc.split = true → r.write = true → r.bytes = false →
    r.wait = none → r.status = 0 → 0x200000 ≤ r.addr + r.k → r.addr + r.k < 0x220000 → r.k + 4 < 4 * r.n →
    s.writeGate (r.addr + r.k) = true → (r.addr + r.k + 4) % 64 ≠ 0 →
    ∃ t, exec .spiWaitPoint s = .next t ∧ sameRegs s t [] ∧ sameMem s t ∧
      ((s.fol.prog = none ∧ s.fol.txn = none ∧ (s.fol.held = true ∨ s.fol.txns = [])) →
        t.reqs = [{ r with k := r.k + 4 }] ∧ t.fol.held = true ∧ t.fol.txns = s.fol.txns) ∧
      ((s.fol.prog ≠ none ∨ s.fol.txn ≠ none ∨ (s.fol.held = false ∧ s.fol.txns ≠ [])) →
        t.reqs = [{ r with wait := some (r.k + 4) }] ∧
        t.fol.txns = s.fol.txns ++ [⟨.port, none, r.addr + r.k + 4 - 0x200000, [], 0⟩])) ∧
  (∀ (s : State) (r : Req), s.reqs = [r] → r.who = .port → s.svc.split = true → r.write = true → r.bytes = false →
    r.wait = none → r.status = 0 → 0x200000 ≤ r.addr + r.k → r.addr + r.k < 0x220000 → r.k < 4 * r.n →
    s.writeGate (r.addr + r.k) = true → ((r.addr + r.k + 4) % 64 = 0 ∨ 4 * r.n ≤ r.k + 4) →
    ∃ t, exec .spiWaitPoint s = .next t ∧ t.reqs = [{ r with wait := some (r.k + 4) }] ∧ t.fol.txns.length = s.fol.txns.length + 1 ∧ sameRegs s t [] ∧ sameMem s t) ∧
  (∀ (s : State) (r : Req), s.wf = true → s.reqs.find? (fun r => decide (r.who = .port)) = some r →
    ∃ t, exec .spiAbort s = .next t ∧ t.reqs = s.reqs.erase r ∧ t.on F.SVC_STAT_ABORT = true ∧
      t.f F.SVC_ABORTCNT = min (s.f F.SVC_ABORTCNT + 1) (2 ^ 32 - 1) ∧ t.svc.split = false ∧ t.svc.lastErr = true ∧
      t.fol.held = false ∧ t.fol.prog = s.fol.prog ∧ (∀ x, x ∈ t.fol.txns → x.who ≠ .port) ∧
      (∀ x, t.fol.txn = some x → x.who ≠ .port) ∧
      ((r.write = false ∨ r.status ≠ 0) → t.fol.txns = s.fol.txns.filter (fun x => x.who ≠ .port)) ∧
      sameRegs s t [F.SVC_STAT_ABORT.addr, F.SVC_ABORTCNT.addr] ∧ sameMem s t) ∧
  (∀ (s : State) (r : Req), s.reqs.find? (fun r => decide (r.who = .port)) = some r → r.write = true → r.bytes = false →
    r.status = 0 → r.k % 4 = 0 → 0x200000 ≤ r.addr + r.k → r.data.length = r.n →
    (∀ x, s.fol.txn = some x → x.who ≠ .port) →
    ∃ t, exec .spiAbort s = .next t ∧
      (s.svc.split = false → r.wait.isSome = true → r.k < 4 * r.n →
        t.fol.txns = s.fol.txns.filter (fun x => x.who ≠ .port) ++
          [⟨.gone, none, r.addr + r.k - 0x200000, (r.data.flatMap word4).drop r.k |>.take 4, 0⟩]) ∧
      (s.svc.split = true → r.wait = none → s.fol.held = true → 0x200000 ≤ r.addr → 0 < r.k → r.k < 4 * r.n →
        (r.addr + r.k) % 64 ≠ 0 → ∃ x, t.fol.txns = s.fol.txns.filter (fun x => x.who ≠ .port) ++ [x] ∧
          x.who = .gone ∧ x.prot = none ∧ x.n = 0 ∧ x.off + x.data.length = r.addr + r.k - 0x200000 ∧
          (x.off % 64 = 0 ∨ x.off + 0x200000 = r.addr) ∧
          x.data = ((r.data.flatMap word4).drop (x.off + 0x200000 - r.addr)).take x.data.length)) ∧
  (∀ (s : State) (r : Req) (x : FolTxn), s.reqs.find? (fun r => decide (r.who = .port)) = some r →
    s.fol.txn = some x → x.who = .port →
    ∃ t, exec .spiAbort s = .next t ∧ t.fol.txn = some { x with who := .gone, data := [] })
end

