-- ==== Sys2Proof/Laws/Sparse.lean ====
section
/-! SUPPORT. Laws of the sparse lists: what a read finds after a write, and that every operation keeps the canonical
form. -/

namespace Sys2Proof.Machine

variable {β : Type}

/-! ### Reading -/

theorem lookupAt_putAt_same (l : List (Nat × β)) (a : Nat) (v : β) : lookupAt (putAt l a v) a = some v := by
  induction l with
  | nil => simp [putAt, lookupAt]
  | cons e r ih =>
    obtain ⟨k, w⟩ := e
    simp only [putAt]
    split
    · simp [lookupAt]
    · split
      · simp [lookupAt]
      · simp [lookupAt, *]

theorem lookupAt_putAt_ne (l : List (Nat × β)) {a b : Nat} (v : β) (h : b ≠ a) :
    lookupAt (putAt l a v) b = lookupAt l b := by
  induction l with
  | nil => simp [putAt, lookupAt, Ne.symm h]
  | cons e r ih =>
    obtain ⟨k, w⟩ := e
    simp only [putAt]
    split
    · subst k; simp [lookupAt, Ne.symm h]
    · split
      · simp [lookupAt, Ne.symm h]
      · simp [lookupAt, ih]

theorem lookupAt_dropAt_ne (l : List (Nat × β)) {a b : Nat} (h : b ≠ a) :
    lookupAt (dropAt l a) b = lookupAt l b := by
  induction l with
  | nil => rfl
  | cons e r ih =>
    obtain ⟨k, w⟩ := e
    simp only [dropAt]
    split
    · subst k; simp [lookupAt, Ne.symm h]
    · split
      · rfl
      · simp [lookupAt, ih]

/-- Below its first key a rising list has no entry. -/
theorem lookupAt_of_rising {l : List (Nat × β)} {lo a : Nat} (h : risingFrom lo l = true) (ha : a < lo) :
    lookupAt l a = none := by
  induction l generalizing lo with
  | nil => rfl
  | cons e r ih =>
    obtain ⟨k, w⟩ := e
    simp only [risingFrom, Bool.and_eq_true, decide_eq_true_eq] at h
    have hk : k ≠ a := by omega
    simp only [lookupAt, hk, if_false]
    exact ih h.2 (by omega)

theorem lookupAt_dropAt_same {l : List (Nat × β)} {lo : Nat} (h : risingFrom lo l = true) (a : Nat) :
    lookupAt (dropAt l a) a = none := by
  induction l generalizing lo with
  | nil => rfl
  | cons e r ih =>
    obtain ⟨k, w⟩ := e
    simp only [risingFrom, Bool.and_eq_true, decide_eq_true_eq] at h
    simp only [dropAt]
    split
    · subst k; exact lookupAt_of_rising h.2 (by omega)
    · split
      · have hk : k ≠ a := by omega
        simp only [lookupAt, hk, if_false]
        exact lookupAt_of_rising h.2 (by omega)
      · rename_i hk _
        simp only [lookupAt, hk, if_false]
        exact ih h.2

/-! ### The canonical form -/

theorem risingFrom_mono {l : List (Nat × β)} {lo lo' : Nat} (h : risingFrom lo l = true) (hl : lo' ≤ lo) :
    risingFrom lo' l = true := by
  cases l with
  | nil => rfl
  | cons e r =>
    simp only [risingFrom, Bool.and_eq_true, decide_eq_true_eq] at h ⊢
    exact ⟨by omega, h.2⟩

theorem risingFrom_dropAt {l : List (Nat × β)} {lo : Nat} (h : risingFrom lo l = true) (a : Nat) :
    risingFrom lo (dropAt l a) = true := by
  induction l generalizing lo with
  | nil => rfl
  | cons e r ih =>
    obtain ⟨k, w⟩ := e
    simp only [dropAt]
    split
    · simp only [risingFrom, Bool.and_eq_true, decide_eq_true_eq] at h
      exact risingFrom_mono h.2 (by omega)
    · split
      · exact h
      · simp only [risingFrom, Bool.and_eq_true, decide_eq_true_eq] at h ⊢
        exact ⟨h.1, ih h.2⟩

theorem risingFrom_putAt {l : List (Nat × β)} {lo a : Nat} (h : risingFrom lo l = true) (ha : lo ≤ a) (v : β) :
    risingFrom lo (putAt l a v) = true := by
  induction l generalizing lo with
  | nil => simp [putAt, risingFrom, ha]
  | cons e r ih =>
    obtain ⟨k, w⟩ := e
    simp only [risingFrom, Bool.and_eq_true, decide_eq_true_eq] at h
    simp only [putAt]
    split
    · subst k; simp [risingFrom, h.1, h.2]
    · split
      · simp only [risingFrom, Bool.and_eq_true, decide_eq_true_eq]
        exact ⟨ha, by omega, h.2⟩
      · simp only [risingFrom, Bool.and_eq_true, decide_eq_true_eq]
        exact ⟨h.1, ih h.2 (by omega)⟩

theorem all_dropAt {l : List (Nat × β)} {p : Nat × β → Bool} (h : l.all p = true) (a : Nat) :
    (dropAt l a).all p = true := by
  induction l with
  | nil => rfl
  | cons e r ih =>
    obtain ⟨k, w⟩ := e
    simp only [List.all_cons, Bool.and_eq_true] at h
    simp only [dropAt]
    split
    · exact h.2
    · split
      · simp [h.1, h.2]
      · simp [h.1, ih h.2]

theorem all_putAt {l : List (Nat × β)} {p : Nat × β → Bool} (h : l.all p = true) {a : Nat} {v : β}
    (hv : p (a, v) = true) : (putAt l a v).all p = true := by
  induction l with
  | nil => simp [putAt, hv]
  | cons e r ih =>
    obtain ⟨k, w⟩ := e
    simp only [List.all_cons, Bool.and_eq_true] at h
    simp only [putAt]
    split
    · simp [hv, h.2]
    · split
      · simp [hv, h.1, h.2]
      · simp [h.1, ih h.2]

theorem canonical_storeAt [DecidableEq β] {d : Nat → β} {l : List (Nat × β)} (h : canonical d l = true) (a : Nat)
    (v : β) : canonical d (storeAt l a v (d a)) = true := by
  simp only [canonical, Bool.and_eq_true] at h ⊢
  unfold storeAt
  split
  · exact ⟨risingFrom_dropAt h.1 a, all_dropAt h.2 a⟩
  · exact ⟨risingFrom_putAt h.1 (Nat.zero_le a) v, all_putAt h.2 (by simpa using ‹_›)⟩

theorem risingFrom_filter {l : List (Nat × β)} {lo : Nat} (h : risingFrom lo l = true) (p : Nat × β → Bool) :
    risingFrom lo (l.filter p) = true := by
  induction l generalizing lo with
  | nil => rfl
  | cons e r ih =>
    obtain ⟨k, w⟩ := e
    simp only [risingFrom, Bool.and_eq_true, decide_eq_true_eq] at h
    simp only [List.filter_cons]
    split
    · simp only [risingFrom, Bool.and_eq_true, decide_eq_true_eq]
      exact ⟨h.1, ih h.2⟩
    · exact ih (risingFrom_mono h.2 (by omega))

theorem canonical_filter [DecidableEq β] {d : Nat → β} {l : List (Nat × β)} (h : canonical d l = true)
    (p : Nat × β → Bool) : canonical d (l.filter p) = true := by
  simp only [canonical, Bool.and_eq_true, List.all_eq_true] at h ⊢
  exact ⟨risingFrom_filter h.1 p, fun x hx => h.2 x (List.mem_filter.1 hx).1⟩

theorem risingFrom_filterMap {l : List (Nat × β)} {lo : Nat} (h : risingFrom lo l = true)
    (g : Nat × β → Option (Nat × β)) (hg : ∀ e x, g e = some x → x.1 = e.1) :
    risingFrom lo (l.filterMap g) = true := by
  induction l generalizing lo with
  | nil => rfl
  | cons e r ih =>
    obtain ⟨k, w⟩ := e
    simp only [risingFrom, Bool.and_eq_true, decide_eq_true_eq] at h
    simp only [List.filterMap_cons]
    split
    · exact ih (risingFrom_mono h.2 (by omega))
    · rename_i x hx
      have := hg _ _ hx
      simp only [risingFrom, Bool.and_eq_true, decide_eq_true_eq]
      exact ⟨by omega, ih (by rw [this]; exact h.2)⟩

/-- A map over the entries that keeps every key and drops what has become the default keeps the form. -/
theorem canonical_filterMap [DecidableEq β] {d : Nat → β} {l : List (Nat × β)} (h : canonical d l = true)
    (g : Nat × β → Option (Nat × β)) (hg : ∀ e x, g e = some x → x.1 = e.1)
    (hd : ∀ e x, e.2 ≠ d e.1 → g e = some x → x.2 ≠ d x.1) : canonical d (l.filterMap g) = true := by
  simp only [canonical, Bool.and_eq_true, List.all_eq_true] at h ⊢
  refine ⟨risingFrom_filterMap h.1 g hg, fun x hx => ?_⟩
  obtain ⟨e, hl, he⟩ := List.mem_filterMap.1 hx
  simpa using hd e x (by simpa using h.2 e hl) he

/-- In a canonical list, reading where a value has been stored finds that value. -/
theorem lookupAt_storeAt_same [DecidableEq β] {d : Nat → β} {l : List (Nat × β)} (h : canonical d l = true) (a : Nat)
    (v : β) : (lookupAt (storeAt l a v (d a)) a).getD (d a) = v := by
  simp only [canonical, Bool.and_eq_true] at h
  unfold storeAt
  split
  · rename_i hv; simp [lookupAt_dropAt_same h.1 a, hv]
  · simp [lookupAt_putAt_same]

/-- Reading anywhere else finds what was there. -/
theorem lookupAt_storeAt_ne [DecidableEq β] (l : List (Nat × β)) {a b : Nat} (v d : β) (h : b ≠ a) :
    lookupAt (storeAt l a v d) b = lookupAt l b := by
  unfold storeAt
  split
  · exact lookupAt_dropAt_ne l h
  · exact lookupAt_putAt_ne l v h

/-- What a key reads after a map over the entries that keeps every key. -/
theorem lookupAt_filterMap {l : List (Nat × β)} {lo : Nat} (h : risingFrom lo l = true)
    (g : Nat × β → Option (Nat × β)) (hg : ∀ e x, g e = some x → x.1 = e.1) (a : Nat) :
    lookupAt (l.filterMap g) a = (lookupAt l a).bind (fun v => (g (a, v)).map Prod.snd) := by
  induction l generalizing lo with
  | nil => rfl
  | cons e r ih =>
    obtain ⟨k, v⟩ := e
    simp only [risingFrom, Bool.and_eq_true, decide_eq_true_eq] at h
    have ih := ih h.2
    simp only [List.filterMap_cons, lookupAt]
    by_cases hk : k = a
    · subst hk
      have hr : lookupAt r k = none := lookupAt_of_rising h.2 (by omega)
      rw [hr] at ih
      cases hv : g (k, v) with
      | none => simpa [hv] using ih
      | some x => simp [lookupAt, hg _ _ hv, hv]
    · cases hv : g (k, v) with
      | none => simpa [hk] using ih
      | some x => simpa [lookupAt, hg _ _ hv, hk] using ih
end Sys2Proof.Machine
end

