-- ==== Sys2Proof/Laws/Kept.lean ====
section
/-! SUPPORT. What every operation keeps: the canonical form of the register file and of memory, and the queue of waiting
commands. The lemmas named `…_kept`, one for each function of the model, stand in the files after this one. -/

namespace Sys2Proof.Machine

/-- The stored form is canonical and the queue is `pq`. -/
def State.Kept (pq : List Instr) (s : State) : Prop := regsWf s.regs = true ∧ Memory.wf s.mem = true ∧ s.pending = pq

/-- A state answered by an outcome is kept. -/
def KeptOut (pq : List Instr) (o : Host.Outcome State Fault Refusal) : Prop :=
  match o with
  | .next t => t.Kept pq
  | _ => True

variable {pq : List Instr} {s t : State} {α : Type}

/-! ### Memory -/

theorem Memory.wf_setByte {m : List Host.Cell} (h : Memory.wf m = true) (a : Nat) (b : Byte) :
    Memory.wf (Memory.setByte m a b) = true := canonical_storeAt (d := memReset) h a b

theorem Memory.wf_setWord {m : List Host.Cell} (h : Memory.wf m = true) (a v : Nat) :
    Memory.wf (Memory.setWord m a v) = true :=
  Memory.wf_setByte (Memory.wf_setByte (Memory.wf_setByte (Memory.wf_setByte h _ _) _ _) _ _) _ _

theorem Memory.wf_clear {m : List Host.Cell} (h : Memory.wf m = true) (lo hi : Nat) :
    Memory.wf (Memory.clear m lo hi) = true := canonical_filter h _

theorem Memory.wf_foldl {m : List Host.Cell} (h : Memory.wf m = true) (l : List (Byte × Nat)) (a : Nat) :
    Memory.wf (l.foldl (fun m p => Memory.setByte m (a + p.2) p.1) m) = true := by
  induction l generalizing m with
  | nil => exact h
  | cons x r ih => exact ih (Memory.wf_setByte h _ _)

/-! ### The operations of Ops -/

/-- An update of anything but the registers, the memory and the queue. -/
theorem kept_of (h : s.Kept pq) (hr : t.regs = s.regs) (hm : t.mem = s.mem) (hp : t.pending = s.pending) : t.Kept pq := by
  unfold State.Kept at h ⊢; rw [hr, hm, hp]; exact h

/-- An update of the memory, and of anything but the registers and the queue. -/
theorem kept_mem (h : s.Kept pq) (hr : t.regs = s.regs) (hm : Memory.wf t.mem = true) (hp : t.pending = s.pending) :
    t.Kept pq := by unfold State.Kept at h ⊢; rw [hr, hp]; exact ⟨h.1, hm, h.2.2⟩

/-- A record update that leaves the registers, the memory and the queue. -/
theorem kept_mk {a b c d e f g h i j k l m n o p q r u v w} (hs : s.Kept pq) :
    (State.mk s.pending s.regs s.mem a b c d e f g h i j k l m n o p q r u v w).Kept pq := hs

/-- A record update that also stores to memory. -/
theorem kept_mk_mem {a b c d e f g h i j k l m n o p q r u v w} {m' : List Host.Cell} (hm : Memory.wf m' = true)
    (hs : s.Kept pq) : (State.mk s.pending s.regs m' a b c d e f g h i j k l m n o p q r u v w).Kept pq :=
  ⟨hs.1, hm, hs.2.2⟩

theorem kept_wf (h : s.Kept pq) : Memory.wf s.mem = true := h.2.1

theorem kept_ite {c : Prop} {_ : Decidable c} (hs : s.Kept pq) (ht : t.Kept pq) : (if c then s else t).Kept pq := by
  split <;> assumption

/-- The state of a pair is kept. -/
def Kept1 (pq : List Instr) (x : State × α) : Prop := x.1.Kept pq

/-- The state at the end of a pair is kept. -/
def Kept2 (pq : List Instr) (x : α × State) : Prop := x.2.Kept pq

theorem kept_elim {o : Option α} {f : α → State} (h : s.Kept pq) (hf : ∀ v, (f v).Kept pq) : (o.elim s f).Kept pq := by
  cases o
  · exact h
  · exact hf _

theorem kept1_mk {a : α} (h : s.Kept pq) : Kept1 pq (s, a) := h

theorem kept2_mk {a : α} (h : s.Kept pq) : Kept2 pq (a, s) := h

theorem kept1_of {x : State × α} (h : x.1.Kept pq) : Kept1 pq x := h

theorem kept2_of {x : α × State} (h : x.2.Kept pq) : Kept2 pq x := h

theorem kept1_ite {c : Prop} {_ : Decidable c} {x y : State × α} (hx : Kept1 pq x) (hy : Kept1 pq y) :
    Kept1 pq (if c then x else y) := by split <;> assumption

theorem kept2_ite {c : Prop} {_ : Decidable c} {x y : α × State} (hx : Kept2 pq x) (hy : Kept2 pq y) :
    Kept2 pq (if c then x else y) := by split <;> assumption

theorem kept_fst {x : State × α} (h : Kept1 pq x) : x.1.Kept pq := h

theorem kept_snd {x : α × State} (h : Kept2 pq x) : x.2.Kept pq := h

theorem kept_eq1 {x : State × α} {a : α} (e : x = (t, a)) (h : x.1.Kept pq) : t.Kept pq := by rw [e] at h; exact h

theorem kept_eq2 {x : α × State} {a : α} (e : x = (a, t)) (h : x.2.Kept pq) : t.Kept pq := by rw [e] at h; exact h

theorem kept_seq (x : State) {Q : Prop} (h : x.Kept pq) (k : x.Kept pq → Q) : Q := k h

theorem kept_seq1 (x : State × α) {Q : Prop} (h : Kept1 pq x) (k : Kept1 pq x → Q) : Q := k h

theorem kept_seq2 (x : α × State) {Q : Prop} (h : Kept2 pq x) (k : Kept2 pq x → Q) : Q := k h

theorem keptOut_next (h : s.Kept pq) : KeptOut pq (.next s) := h

theorem keptOut_refused (r : Refusal) : KeptOut pq (.refused r) := trivial

theorem keptOut_ite {c : Prop} {_ : Decidable c} {x y : Host.Outcome State Fault Refusal} (hx : KeptOut pq x)
    (hy : KeptOut pq y) : KeptOut pq (if c then x else y) := by split <;> assumption

theorem State.wr_kept (a v : Nat) (h : s.Kept pq) : (s.wr a v).Kept pq :=
  ⟨canonical_storeAt (d := resetWord) h.1 a _, h.2.1, h.2.2⟩

theorem State.setF_kept (x : Fld) (v : Nat) (h : s.Kept pq) : (s.setF x v).Kept pq := State.wr_kept _ _ h

theorem State.setB_kept (x : Fld) (b : Bool) (h : s.Kept pq) : (s.setB x b).Kept pq := State.setF_kept _ _ h

theorem State.setI_kept (x : Fld) (i : Int) (h : s.Kept pq) : (s.setI x i).Kept pq := State.setF_kept _ _ h

theorem State.orF_kept (x : Fld) (m : Nat) (h : s.Kept pq) : (s.orF x m).Kept pq := State.setF_kept _ _ h

theorem State.setBit_kept (x : Fld) (k : Nat) (h : s.Kept pq) : (s.setBit x k).Kept pq := State.orF_kept _ _ h

theorem State.clrBit_kept (x : Fld) (k : Nat) (h : s.Kept pq) : (s.clrBit x k).Kept pq := State.setF_kept _ _ h

theorem State.add_kept (x : Fld) (n : Nat) (h : s.Kept pq) : (s.add x n).Kept pq := State.setF_kept _ _ h

theorem State.inc_kept (x : Fld) (h : s.Kept pq) : (s.inc x).Kept pq := State.add_kept _ _ h

theorem State.setM_kept (a v : Nat) (h : s.Kept pq) : (s.setM a v).Kept pq :=
  ⟨h.1, Memory.wf_setWord h.2.1 a v, h.2.2⟩

theorem State.setMI_kept (a : Nat) (v : Int) (h : s.Kept pq) : (s.setMI a v).Kept pq := State.setM_kept _ _ h

theorem State.setMB_kept (a v : Nat) (h : s.Kept pq) : (s.setMB a v).Kept pq :=
  ⟨h.1, Memory.wf_setByte h.2.1 a _, h.2.2⟩

theorem State.setBytes_kept (a : Nat) (l : List Byte) (h : s.Kept pq) : (s.setBytes a l).Kept pq :=
  ⟨h.1, Memory.wf_foldl h.2.1 _ a, h.2.2⟩

theorem State.poke_kept (a v : Nat) (h : s.Kept pq) : (s.poke a v).Kept pq :=
  kept_ite (State.setM_kept _ _ h) (State.wr_kept _ _ h)

theorem State.free_kept (h : s.Kept pq) : s.free.2.Kept pq := h

theorem foldl_kept {f : State → α → State} (hf : ∀ t x, t.Kept pq → (f t x).Kept pq) (l : List α) (h : s.Kept pq) :
    (l.foldl f s).Kept pq := by
  induction l generalizing s with
  | nil => exact h
  | cons x r ih => exact ih (hf s x h)

theorem foldr_kept {f : α → State → State} (hf : ∀ x t, t.Kept pq → (f x t).Kept pq) (l : List α) (h : s.Kept pq) :
    (l.foldr f s).Kept pq := by
  induction l with
  | nil => exact h
  | cons x r ih => exact hf x _ ih

theorem State.each_kept {f : State → α → State} (hf : ∀ t x, t.Kept pq → (f t x).Kept pq) (l : List α)
    (h : s.Kept pq) : (s.each l f).Kept pq := foldl_kept hf l h

theorem State.cond_kept {f : State → State} (hf : ∀ t, t.Kept pq → (f t).Kept pq) (b : Bool) (h : s.Kept pq) :
    (s.cond b f).Kept pq := kept_ite (hf s h) h

theorem State.ledgerAdd_kept (n k : Nat) (h : s.Kept pq) : (s.ledgerAdd n k).Kept pq :=
  State.setF_kept _ _ (State.setF_kept _ _ h)

theorem State.ledgerN_kept (src n : Nat) (h : s.Kept pq) : (s.ledgerN src n).Kept pq :=
  foldl_kept (fun _ k ht => State.ledgerAdd_kept n k ht) _ h

theorem State.ledger_kept (src : Nat) (h : s.Kept pq) : (s.ledger src).Kept pq := State.ledgerN_kept src 1 h

theorem State.count_kept (x : Fld) (src : Nat) (h : s.Kept pq) : (s.count x src).Kept pq :=
  State.ledger_kept _ (State.inc_kept _ h)

theorem State.log_kept (a b c d : Nat) (e : Option Nat) (f : Bool) (h : s.Kept pq) : (s.log a b c d e f).Kept pq := by
  unfold State.log; exact kept_ite (kept_of h rfl rfl rfl) (State.inc_kept _ h)

theorem State.inCycle_kept {f : State → State} (hf : ∀ t, t.Kept pq → (f t).Kept pq) (h : s.Kept pq) :
    (s.inCycle f).Kept pq :=
  State.each_kept (fun _ _ ht => State.inc_kept _ ht) _ (kept_mk (hf _ (kept_mk h)))

theorem State.counterClr_kept (a w : Nat) (h : s.Kept pq) : (s.counterClr a w).Kept pq := by
  unfold State.counterClr
  have hc := foldl_kept (pq := pq) (f := fun t (p : Nat × Nat) => if bit w p.2 then t.wr p.1 0 else t)
    (fun t p ht => kept_ite (State.wr_kept _ _ ht) ht) (counterList a).zipIdx h
  exact kept_ite (State.each_kept (fun _ _ ht => State.setF_kept _ _ ht) _ hc) (kept_ite (State.setF_kept _ _ hc) hc)

theorem State.reject_kept (who a : Nat) (h : s.Kept pq) : (s.reject who a).Kept pq :=
  State.setF_kept _ _ (State.setF_kept _ _ (State.setF_kept _ _ (State.setF_kept _ _
    (State.ledger_kept _ (State.log_kept _ _ _ _ _ _ h)))))

end Sys2Proof.Machine
end

