-- ==== Sys2Proof/Laws/State.lean ====
section
/-! SUPPORT. What each update of the state leaves of every other part, and what registers, fields and memory read after
it. All but the last group hold by computation. -/

namespace Sys2Proof.Machine

variable (s : State)

/-! ### wr -/

@[simp] theorem State.wr_pending (a v : Nat) : (s.wr a v).pending = s.pending := rfl

@[simp] theorem State.wr_mem (a v : Nat) : (s.wr a v).mem = s.mem := rfl

@[simp] theorem State.wr_shadow (a v : Nat) : (s.wr a v).shadow = s.shadow := rfl

@[simp] theorem State.wr_freeCount (a v : Nat) : (s.wr a v).freeCount = s.freeCount := rfl

@[simp] theorem State.wr_annFifo (a v : Nat) : (s.wr a v).annFifo = s.annFifo := rfl

@[simp] theorem State.wr_holdFrames (a v : Nat) : (s.wr a v).holdFrames = s.holdFrames := rfl

@[simp] theorem State.wr_boot (a v : Nat) : (s.wr a v).boot = s.boot := rfl

@[simp] theorem State.wr_safe (a v : Nat) : (s.wr a v).safe = s.safe := rfl

@[simp] theorem State.wr_adc (a v : Nat) : (s.wr a v).adc = s.adc := rfl

@[simp] theorem State.wr_pwm (a v : Nat) : (s.wr a v).pwm = s.pwm := rfl

@[simp] theorem State.wr_ce (a v : Nat) : (s.wr a v).ce = s.ce := rfl

@[simp] theorem State.wr_alm (a v : Nat) : (s.wr a v).alm = s.alm := rfl

@[simp] theorem State.wr_can (a v : Nat) : (s.wr a v).can = s.can := rfl

@[simp] theorem State.wr_zp (a v : Nat) : (s.wr a v).zp = s.zp := rfl

@[simp] theorem State.wr_pair (a v : Nat) : (s.wr a v).pair = s.pair := rfl

@[simp] theorem State.wr_fol (a v : Nat) : (s.wr a v).fol = s.fol := rfl

@[simp] theorem State.wr_thm (a v : Nat) : (s.wr a v).thm = s.thm := rfl

@[simp] theorem State.wr_pnl (a v : Nat) : (s.wr a v).pnl = s.pnl := rfl

@[simp] theorem State.wr_fox (a v : Nat) : (s.wr a v).fox = s.fox := rfl

@[simp] theorem State.wr_snap (a v : Nat) : (s.wr a v).snap = s.snap := rfl

@[simp] theorem State.wr_clk (a v : Nat) : (s.wr a v).clk = s.clk := rfl

@[simp] theorem State.wr_svc (a v : Nat) : (s.wr a v).svc = s.svc := rfl

@[simp] theorem State.wr_reqs (a v : Nat) : (s.wr a v).reqs = s.reqs := rfl

@[simp] theorem State.wr_mw (a v : Nat) (j : Nat) : (s.wr a v).mw j = s.mw j := rfl

@[simp] theorem State.wr_mb (a v : Nat) (j : Nat) : (s.wr a v).mb j = s.mb j := rfl

/-! ### setF -/

@[simp] theorem State.setF_pending (x : Fld) (v : Nat) : (s.setF x v).pending = s.pending := rfl

@[simp] theorem State.setF_mem (x : Fld) (v : Nat) : (s.setF x v).mem = s.mem := rfl

@[simp] theorem State.setF_shadow (x : Fld) (v : Nat) : (s.setF x v).shadow = s.shadow := rfl

@[simp] theorem State.setF_freeCount (x : Fld) (v : Nat) : (s.setF x v).freeCount = s.freeCount := rfl

@[simp] theorem State.setF_annFifo (x : Fld) (v : Nat) : (s.setF x v).annFifo = s.annFifo := rfl

@[simp] theorem State.setF_holdFrames (x : Fld) (v : Nat) : (s.setF x v).holdFrames = s.holdFrames := rfl

@[simp] theorem State.setF_boot (x : Fld) (v : Nat) : (s.setF x v).boot = s.boot := rfl

@[simp] theorem State.setF_safe (x : Fld) (v : Nat) : (s.setF x v).safe = s.safe := rfl

@[simp] theorem State.setF_adc (x : Fld) (v : Nat) : (s.setF x v).adc = s.adc := rfl

@[simp] theorem State.setF_pwm (x : Fld) (v : Nat) : (s.setF x v).pwm = s.pwm := rfl

@[simp] theorem State.setF_ce (x : Fld) (v : Nat) : (s.setF x v).ce = s.ce := rfl

@[simp] theorem State.setF_alm (x : Fld) (v : Nat) : (s.setF x v).alm = s.alm := rfl

@[simp] theorem State.setF_can (x : Fld) (v : Nat) : (s.setF x v).can = s.can := rfl

@[simp] theorem State.setF_zp (x : Fld) (v : Nat) : (s.setF x v).zp = s.zp := rfl

@[simp] theorem State.setF_pair (x : Fld) (v : Nat) : (s.setF x v).pair = s.pair := rfl

@[simp] theorem State.setF_fol (x : Fld) (v : Nat) : (s.setF x v).fol = s.fol := rfl

@[simp] theorem State.setF_thm (x : Fld) (v : Nat) : (s.setF x v).thm = s.thm := rfl

@[simp] theorem State.setF_pnl (x : Fld) (v : Nat) : (s.setF x v).pnl = s.pnl := rfl

@[simp] theorem State.setF_fox (x : Fld) (v : Nat) : (s.setF x v).fox = s.fox := rfl

@[simp] theorem State.setF_snap (x : Fld) (v : Nat) : (s.setF x v).snap = s.snap := rfl

@[simp] theorem State.setF_clk (x : Fld) (v : Nat) : (s.setF x v).clk = s.clk := rfl

@[simp] theorem State.setF_svc (x : Fld) (v : Nat) : (s.setF x v).svc = s.svc := rfl

@[simp] theorem State.setF_reqs (x : Fld) (v : Nat) : (s.setF x v).reqs = s.reqs := rfl

@[simp] theorem State.setF_mw (x : Fld) (v : Nat) (j : Nat) : (s.setF x v).mw j = s.mw j := rfl

@[simp] theorem State.setF_mb (x : Fld) (v : Nat) (j : Nat) : (s.setF x v).mb j = s.mb j := rfl

/-! ### setB -/

@[simp] theorem State.setB_pending (x : Fld) (b : Bool) : (s.setB x b).pending = s.pending := rfl

@[simp] theorem State.setB_mem (x : Fld) (b : Bool) : (s.setB x b).mem = s.mem := rfl

@[simp] theorem State.setB_shadow (x : Fld) (b : Bool) : (s.setB x b).shadow = s.shadow := rfl

@[simp] theorem State.setB_freeCount (x : Fld) (b : Bool) : (s.setB x b).freeCount = s.freeCount := rfl

@[simp] theorem State.setB_annFifo (x : Fld) (b : Bool) : (s.setB x b).annFifo = s.annFifo := rfl

@[simp] theorem State.setB_holdFrames (x : Fld) (b : Bool) : (s.setB x b).holdFrames = s.holdFrames := rfl

@[simp] theorem State.setB_boot (x : Fld) (b : Bool) : (s.setB x b).boot = s.boot := rfl

@[simp] theorem State.setB_safe (x : Fld) (b : Bool) : (s.setB x b).safe = s.safe := rfl

@[simp] theorem State.setB_adc (x : Fld) (b : Bool) : (s.setB x b).adc = s.adc := rfl

@[simp] theorem State.setB_pwm (x : Fld) (b : Bool) : (s.setB x b).pwm = s.pwm := rfl

@[simp] theorem State.setB_ce (x : Fld) (b : Bool) : (s.setB x b).ce = s.ce := rfl

@[simp] theorem State.setB_alm (x : Fld) (b : Bool) : (s.setB x b).alm = s.alm := rfl

@[simp] theorem State.setB_can (x : Fld) (b : Bool) : (s.setB x b).can = s.can := rfl

@[simp] theorem State.setB_zp (x : Fld) (b : Bool) : (s.setB x b).zp = s.zp := rfl

@[simp] theorem State.setB_pair (x : Fld) (b : Bool) : (s.setB x b).pair = s.pair := rfl

@[simp] theorem State.setB_fol (x : Fld) (b : Bool) : (s.setB x b).fol = s.fol := rfl

@[simp] theorem State.setB_thm (x : Fld) (b : Bool) : (s.setB x b).thm = s.thm := rfl

@[simp] theorem State.setB_pnl (x : Fld) (b : Bool) : (s.setB x b).pnl = s.pnl := rfl

@[simp] theorem State.setB_fox (x : Fld) (b : Bool) : (s.setB x b).fox = s.fox := rfl

@[simp] theorem State.setB_snap (x : Fld) (b : Bool) : (s.setB x b).snap = s.snap := rfl

@[simp] theorem State.setB_clk (x : Fld) (b : Bool) : (s.setB x b).clk = s.clk := rfl

@[simp] theorem State.setB_svc (x : Fld) (b : Bool) : (s.setB x b).svc = s.svc := rfl

@[simp] theorem State.setB_reqs (x : Fld) (b : Bool) : (s.setB x b).reqs = s.reqs := rfl

@[simp] theorem State.setB_mw (x : Fld) (b : Bool) (j : Nat) : (s.setB x b).mw j = s.mw j := rfl

@[simp] theorem State.setB_mb (x : Fld) (b : Bool) (j : Nat) : (s.setB x b).mb j = s.mb j := rfl

/-! ### setI -/

@[simp] theorem State.setI_pending (x : Fld) (i : Int) : (s.setI x i).pending = s.pending := rfl

@[simp] theorem State.setI_mem (x : Fld) (i : Int) : (s.setI x i).mem = s.mem := rfl

@[simp] theorem State.setI_shadow (x : Fld) (i : Int) : (s.setI x i).shadow = s.shadow := rfl

@[simp] theorem State.setI_freeCount (x : Fld) (i : Int) : (s.setI x i).freeCount = s.freeCount := rfl

@[simp] theorem State.setI_annFifo (x : Fld) (i : Int) : (s.setI x i).annFifo = s.annFifo := rfl

@[simp] theorem State.setI_holdFrames (x : Fld) (i : Int) : (s.setI x i).holdFrames = s.holdFrames := rfl

@[simp] theorem State.setI_boot (x : Fld) (i : Int) : (s.setI x i).boot = s.boot := rfl

@[simp] theorem State.setI_safe (x : Fld) (i : Int) : (s.setI x i).safe = s.safe := rfl

@[simp] theorem State.setI_adc (x : Fld) (i : Int) : (s.setI x i).adc = s.adc := rfl

@[simp] theorem State.setI_pwm (x : Fld) (i : Int) : (s.setI x i).pwm = s.pwm := rfl

@[simp] theorem State.setI_ce (x : Fld) (i : Int) : (s.setI x i).ce = s.ce := rfl

@[simp] theorem State.setI_alm (x : Fld) (i : Int) : (s.setI x i).alm = s.alm := rfl

@[simp] theorem State.setI_can (x : Fld) (i : Int) : (s.setI x i).can = s.can := rfl

@[simp] theorem State.setI_zp (x : Fld) (i : Int) : (s.setI x i).zp = s.zp := rfl

@[simp] theorem State.setI_pair (x : Fld) (i : Int) : (s.setI x i).pair = s.pair := rfl

@[simp] theorem State.setI_fol (x : Fld) (i : Int) : (s.setI x i).fol = s.fol := rfl

@[simp] theorem State.setI_thm (x : Fld) (i : Int) : (s.setI x i).thm = s.thm := rfl

@[simp] theorem State.setI_pnl (x : Fld) (i : Int) : (s.setI x i).pnl = s.pnl := rfl

@[simp] theorem State.setI_fox (x : Fld) (i : Int) : (s.setI x i).fox = s.fox := rfl

@[simp] theorem State.setI_snap (x : Fld) (i : Int) : (s.setI x i).snap = s.snap := rfl

@[simp] theorem State.setI_clk (x : Fld) (i : Int) : (s.setI x i).clk = s.clk := rfl

@[simp] theorem State.setI_svc (x : Fld) (i : Int) : (s.setI x i).svc = s.svc := rfl

@[simp] theorem State.setI_reqs (x : Fld) (i : Int) : (s.setI x i).reqs = s.reqs := rfl

@[simp] theorem State.setI_mw (x : Fld) (i : Int) (j : Nat) : (s.setI x i).mw j = s.mw j := rfl

@[simp] theorem State.setI_mb (x : Fld) (i : Int) (j : Nat) : (s.setI x i).mb j = s.mb j := rfl

/-! ### setBit -/

@[simp] theorem State.setBit_pending (x : Fld) (k : Nat) : (s.setBit x k).pending = s.pending := rfl

@[simp] theorem State.setBit_mem (x : Fld) (k : Nat) : (s.setBit x k).mem = s.mem := rfl

@[simp] theorem State.setBit_shadow (x : Fld) (k : Nat) : (s.setBit x k).shadow = s.shadow := rfl

@[simp] theorem State.setBit_freeCount (x : Fld) (k : Nat) : (s.setBit x k).freeCount = s.freeCount := rfl

@[simp] theorem State.setBit_annFifo (x : Fld) (k : Nat) : (s.setBit x k).annFifo = s.annFifo := rfl

@[simp] theorem State.setBit_holdFrames (x : Fld) (k : Nat) : (s.setBit x k).holdFrames = s.holdFrames := rfl

@[simp] theorem State.setBit_boot (x : Fld) (k : Nat) : (s.setBit x k).boot = s.boot := rfl

@[simp] theorem State.setBit_safe (x : Fld) (k : Nat) : (s.setBit x k).safe = s.safe := rfl

@[simp] theorem State.setBit_adc (x : Fld) (k : Nat) : (s.setBit x k).adc = s.adc := rfl

@[simp] theorem State.setBit_pwm (x : Fld) (k : Nat) : (s.setBit x k).pwm = s.pwm := rfl

@[simp] theorem State.setBit_ce (x : Fld) (k : Nat) : (s.setBit x k).ce = s.ce := rfl

@[simp] theorem State.setBit_alm (x : Fld) (k : Nat) : (s.setBit x k).alm = s.alm := rfl

@[simp] theorem State.setBit_can (x : Fld) (k : Nat) : (s.setBit x k).can = s.can := rfl

@[simp] theorem State.setBit_zp (x : Fld) (k : Nat) : (s.setBit x k).zp = s.zp := rfl

@[simp] theorem State.setBit_pair (x : Fld) (k : Nat) : (s.setBit x k).pair = s.pair := rfl

@[simp] theorem State.setBit_fol (x : Fld) (k : Nat) : (s.setBit x k).fol = s.fol := rfl

@[simp] theorem State.setBit_thm (x : Fld) (k : Nat) : (s.setBit x k).thm = s.thm := rfl

@[simp] theorem State.setBit_pnl (x : Fld) (k : Nat) : (s.setBit x k).pnl = s.pnl := rfl

@[simp] theorem State.setBit_fox (x : Fld) (k : Nat) : (s.setBit x k).fox = s.fox := rfl

@[simp] theorem State.setBit_snap (x : Fld) (k : Nat) : (s.setBit x k).snap = s.snap := rfl

@[simp] theorem State.setBit_clk (x : Fld) (k : Nat) : (s.setBit x k).clk = s.clk := rfl

@[simp] theorem State.setBit_svc (x : Fld) (k : Nat) : (s.setBit x k).svc = s.svc := rfl

@[simp] theorem State.setBit_reqs (x : Fld) (k : Nat) : (s.setBit x k).reqs = s.reqs := rfl

@[simp] theorem State.setBit_mw (x : Fld) (k : Nat) (j : Nat) : (s.setBit x k).mw j = s.mw j := rfl

@[simp] theorem State.setBit_mb (x : Fld) (k : Nat) (j : Nat) : (s.setBit x k).mb j = s.mb j := rfl

/-! ### clrBit -/

@[simp] theorem State.clrBit_pending (x : Fld) (k : Nat) : (s.clrBit x k).pending = s.pending := rfl

@[simp] theorem State.clrBit_mem (x : Fld) (k : Nat) : (s.clrBit x k).mem = s.mem := rfl

@[simp] theorem State.clrBit_shadow (x : Fld) (k : Nat) : (s.clrBit x k).shadow = s.shadow := rfl

@[simp] theorem State.clrBit_freeCount (x : Fld) (k : Nat) : (s.clrBit x k).freeCount = s.freeCount := rfl

@[simp] theorem State.clrBit_annFifo (x : Fld) (k : Nat) : (s.clrBit x k).annFifo = s.annFifo := rfl

@[simp] theorem State.clrBit_holdFrames (x : Fld) (k : Nat) : (s.clrBit x k).holdFrames = s.holdFrames := rfl

@[simp] theorem State.clrBit_boot (x : Fld) (k : Nat) : (s.clrBit x k).boot = s.boot := rfl

@[simp] theorem State.clrBit_safe (x : Fld) (k : Nat) : (s.clrBit x k).safe = s.safe := rfl

@[simp] theorem State.clrBit_adc (x : Fld) (k : Nat) : (s.clrBit x k).adc = s.adc := rfl

@[simp] theorem State.clrBit_pwm (x : Fld) (k : Nat) : (s.clrBit x k).pwm = s.pwm := rfl

@[simp] theorem State.clrBit_ce (x : Fld) (k : Nat) : (s.clrBit x k).ce = s.ce := rfl

@[simp] theorem State.clrBit_alm (x : Fld) (k : Nat) : (s.clrBit x k).alm = s.alm := rfl

@[simp] theorem State.clrBit_can (x : Fld) (k : Nat) : (s.clrBit x k).can = s.can := rfl

@[simp] theorem State.clrBit_zp (x : Fld) (k : Nat) : (s.clrBit x k).zp = s.zp := rfl

@[simp] theorem State.clrBit_pair (x : Fld) (k : Nat) : (s.clrBit x k).pair = s.pair := rfl

@[simp] theorem State.clrBit_fol (x : Fld) (k : Nat) : (s.clrBit x k).fol = s.fol := rfl

@[simp] theorem State.clrBit_thm (x : Fld) (k : Nat) : (s.clrBit x k).thm = s.thm := rfl

@[simp] theorem State.clrBit_pnl (x : Fld) (k : Nat) : (s.clrBit x k).pnl = s.pnl := rfl

@[simp] theorem State.clrBit_fox (x : Fld) (k : Nat) : (s.clrBit x k).fox = s.fox := rfl

@[simp] theorem State.clrBit_snap (x : Fld) (k : Nat) : (s.clrBit x k).snap = s.snap := rfl

@[simp] theorem State.clrBit_clk (x : Fld) (k : Nat) : (s.clrBit x k).clk = s.clk := rfl

@[simp] theorem State.clrBit_svc (x : Fld) (k : Nat) : (s.clrBit x k).svc = s.svc := rfl

@[simp] theorem State.clrBit_reqs (x : Fld) (k : Nat) : (s.clrBit x k).reqs = s.reqs := rfl

@[simp] theorem State.clrBit_mw (x : Fld) (k : Nat) (j : Nat) : (s.clrBit x k).mw j = s.mw j := rfl

@[simp] theorem State.clrBit_mb (x : Fld) (k : Nat) (j : Nat) : (s.clrBit x k).mb j = s.mb j := rfl

/-! ### add -/

@[simp] theorem State.add_pending (x : Fld) (n : Nat) : (s.add x n).pending = s.pending := rfl

@[simp] theorem State.add_mem (x : Fld) (n : Nat) : (s.add x n).mem = s.mem := rfl

@[simp] theorem State.add_shadow (x : Fld) (n : Nat) : (s.add x n).shadow = s.shadow := rfl

@[simp] theorem State.add_freeCount (x : Fld) (n : Nat) : (s.add x n).freeCount = s.freeCount := rfl

@[simp] theorem State.add_annFifo (x : Fld) (n : Nat) : (s.add x n).annFifo = s.annFifo := rfl

@[simp] theorem State.add_holdFrames (x : Fld) (n : Nat) : (s.add x n).holdFrames = s.holdFrames := rfl

@[simp] theorem State.add_boot (x : Fld) (n : Nat) : (s.add x n).boot = s.boot := rfl

@[simp] theorem State.add_safe (x : Fld) (n : Nat) : (s.add x n).safe = s.safe := rfl

@[simp] theorem State.add_adc (x : Fld) (n : Nat) : (s.add x n).adc = s.adc := rfl

@[simp] theorem State.add_pwm (x : Fld) (n : Nat) : (s.add x n).pwm = s.pwm := rfl

@[simp] theorem State.add_ce (x : Fld) (n : Nat) : (s.add x n).ce = s.ce := rfl

@[simp] theorem State.add_alm (x : Fld) (n : Nat) : (s.add x n).alm = s.alm := rfl

@[simp] theorem State.add_can (x : Fld) (n : Nat) : (s.add x n).can = s.can := rfl

@[simp] theorem State.add_zp (x : Fld) (n : Nat) : (s.add x n).zp = s.zp := rfl

@[simp] theorem State.add_pair (x : Fld) (n : Nat) : (s.add x n).pair = s.pair := rfl

@[simp] theorem State.add_fol (x : Fld) (n : Nat) : (s.add x n).fol = s.fol := rfl

@[simp] theorem State.add_thm (x : Fld) (n : Nat) : (s.add x n).thm = s.thm := rfl

@[simp] theorem State.add_pnl (x : Fld) (n : Nat) : (s.add x n).pnl = s.pnl := rfl

@[simp] theorem State.add_fox (x : Fld) (n : Nat) : (s.add x n).fox = s.fox := rfl

@[simp] theorem State.add_snap (x : Fld) (n : Nat) : (s.add x n).snap = s.snap := rfl

@[simp] theorem State.add_clk (x : Fld) (n : Nat) : (s.add x n).clk = s.clk := rfl

@[simp] theorem State.add_svc (x : Fld) (n : Nat) : (s.add x n).svc = s.svc := rfl

@[simp] theorem State.add_reqs (x : Fld) (n : Nat) : (s.add x n).reqs = s.reqs := rfl

@[simp] theorem State.add_mw (x : Fld) (n : Nat) (j : Nat) : (s.add x n).mw j = s.mw j := rfl

@[simp] theorem State.add_mb (x : Fld) (n : Nat) (j : Nat) : (s.add x n).mb j = s.mb j := rfl

/-! ### inc -/

@[simp] theorem State.inc_pending (x : Fld) : (s.inc x).pending = s.pending := rfl

@[simp] theorem State.inc_mem (x : Fld) : (s.inc x).mem = s.mem := rfl

@[simp] theorem State.inc_shadow (x : Fld) : (s.inc x).shadow = s.shadow := rfl

@[simp] theorem State.inc_freeCount (x : Fld) : (s.inc x).freeCount = s.freeCount := rfl

@[simp] theorem State.inc_annFifo (x : Fld) : (s.inc x).annFifo = s.annFifo := rfl

@[simp] theorem State.inc_holdFrames (x : Fld) : (s.inc x).holdFrames = s.holdFrames := rfl

@[simp] theorem State.inc_boot (x : Fld) : (s.inc x).boot = s.boot := rfl

@[simp] theorem State.inc_safe (x : Fld) : (s.inc x).safe = s.safe := rfl

@[simp] theorem State.inc_adc (x : Fld) : (s.inc x).adc = s.adc := rfl

@[simp] theorem State.inc_pwm (x : Fld) : (s.inc x).pwm = s.pwm := rfl

@[simp] theorem State.inc_ce (x : Fld) : (s.inc x).ce = s.ce := rfl

@[simp] theorem State.inc_alm (x : Fld) : (s.inc x).alm = s.alm := rfl

@[simp] theorem State.inc_can (x : Fld) : (s.inc x).can = s.can := rfl

@[simp] theorem State.inc_zp (x : Fld) : (s.inc x).zp = s.zp := rfl

@[simp] theorem State.inc_pair (x : Fld) : (s.inc x).pair = s.pair := rfl

@[simp] theorem State.inc_fol (x : Fld) : (s.inc x).fol = s.fol := rfl

@[simp] theorem State.inc_thm (x : Fld) : (s.inc x).thm = s.thm := rfl

@[simp] theorem State.inc_pnl (x : Fld) : (s.inc x).pnl = s.pnl := rfl

@[simp] theorem State.inc_fox (x : Fld) : (s.inc x).fox = s.fox := rfl

@[simp] theorem State.inc_snap (x : Fld) : (s.inc x).snap = s.snap := rfl

@[simp] theorem State.inc_clk (x : Fld) : (s.inc x).clk = s.clk := rfl

@[simp] theorem State.inc_svc (x : Fld) : (s.inc x).svc = s.svc := rfl

@[simp] theorem State.inc_reqs (x : Fld) : (s.inc x).reqs = s.reqs := rfl

@[simp] theorem State.inc_mw (x : Fld) (j : Nat) : (s.inc x).mw j = s.mw j := rfl

@[simp] theorem State.inc_mb (x : Fld) (j : Nat) : (s.inc x).mb j = s.mb j := rfl

/-! ### setM -/

@[simp] theorem State.setM_pending (a v : Nat) : (s.setM a v).pending = s.pending := rfl

@[simp] theorem State.setM_regs (a v : Nat) : (s.setM a v).regs = s.regs := rfl

@[simp] theorem State.setM_shadow (a v : Nat) : (s.setM a v).shadow = s.shadow := rfl

@[simp] theorem State.setM_freeCount (a v : Nat) : (s.setM a v).freeCount = s.freeCount := rfl

@[simp] theorem State.setM_annFifo (a v : Nat) : (s.setM a v).annFifo = s.annFifo := rfl

@[simp] theorem State.setM_holdFrames (a v : Nat) : (s.setM a v).holdFrames = s.holdFrames := rfl

@[simp] theorem State.setM_boot (a v : Nat) : (s.setM a v).boot = s.boot := rfl

@[simp] theorem State.setM_safe (a v : Nat) : (s.setM a v).safe = s.safe := rfl

@[simp] theorem State.setM_adc (a v : Nat) : (s.setM a v).adc = s.adc := rfl

@[simp] theorem State.setM_pwm (a v : Nat) : (s.setM a v).pwm = s.pwm := rfl

@[simp] theorem State.setM_ce (a v : Nat) : (s.setM a v).ce = s.ce := rfl

@[simp] theorem State.setM_alm (a v : Nat) : (s.setM a v).alm = s.alm := rfl

@[simp] theorem State.setM_can (a v : Nat) : (s.setM a v).can = s.can := rfl

@[simp] theorem State.setM_zp (a v : Nat) : (s.setM a v).zp = s.zp := rfl

@[simp] theorem State.setM_pair (a v : Nat) : (s.setM a v).pair = s.pair := rfl

@[simp] theorem State.setM_fol (a v : Nat) : (s.setM a v).fol = s.fol := rfl

@[simp] theorem State.setM_thm (a v : Nat) : (s.setM a v).thm = s.thm := rfl

@[simp] theorem State.setM_pnl (a v : Nat) : (s.setM a v).pnl = s.pnl := rfl

@[simp] theorem State.setM_fox (a v : Nat) : (s.setM a v).fox = s.fox := rfl

@[simp] theorem State.setM_snap (a v : Nat) : (s.setM a v).snap = s.snap := rfl

@[simp] theorem State.setM_clk (a v : Nat) : (s.setM a v).clk = s.clk := rfl

@[simp] theorem State.setM_svc (a v : Nat) : (s.setM a v).svc = s.svc := rfl

@[simp] theorem State.setM_reqs (a v : Nat) : (s.setM a v).reqs = s.reqs := rfl

@[simp] theorem State.setM_rd (a v : Nat) (j : Nat) : (s.setM a v).rd j = s.rd j := rfl

@[simp] theorem State.setM_f (a v : Nat) (y : Fld) : (s.setM a v).f y = s.f y := rfl

@[simp] theorem State.setM_on (a v : Nat) (y : Fld) : (s.setM a v).on y = s.on y := rfl

/-! ### setMI -/

@[simp] theorem State.setMI_pending (a : Nat) (v : Int) : (s.setMI a v).pending = s.pending := rfl

@[simp] theorem State.setMI_regs (a : Nat) (v : Int) : (s.setMI a v).regs = s.regs := rfl

@[simp] theorem State.setMI_shadow (a : Nat) (v : Int) : (s.setMI a v).shadow = s.shadow := rfl

@[simp] theorem State.setMI_freeCount (a : Nat) (v : Int) : (s.setMI a v).freeCount = s.freeCount := rfl

@[simp] theorem State.setMI_annFifo (a : Nat) (v : Int) : (s.setMI a v).annFifo = s.annFifo := rfl

@[simp] theorem State.setMI_holdFrames (a : Nat) (v : Int) : (s.setMI a v).holdFrames = s.holdFrames := rfl

@[simp] theorem State.setMI_boot (a : Nat) (v : Int) : (s.setMI a v).boot = s.boot := rfl

@[simp] theorem State.setMI_safe (a : Nat) (v : Int) : (s.setMI a v).safe = s.safe := rfl

@[simp] theorem State.setMI_adc (a : Nat) (v : Int) : (s.setMI a v).adc = s.adc := rfl

@[simp] theorem State.setMI_pwm (a : Nat) (v : Int) : (s.setMI a v).pwm = s.pwm := rfl

@[simp] theorem State.setMI_ce (a : Nat) (v : Int) : (s.setMI a v).ce = s.ce := rfl

@[simp] theorem State.setMI_alm (a : Nat) (v : Int) : (s.setMI a v).alm = s.alm := rfl

@[simp] theorem State.setMI_can (a : Nat) (v : Int) : (s.setMI a v).can = s.can := rfl

@[simp] theorem State.setMI_zp (a : Nat) (v : Int) : (s.setMI a v).zp = s.zp := rfl

@[simp] theorem State.setMI_pair (a : Nat) (v : Int) : (s.setMI a v).pair = s.pair := rfl

@[simp] theorem State.setMI_fol (a : Nat) (v : Int) : (s.setMI a v).fol = s.fol := rfl

@[simp] theorem State.setMI_thm (a : Nat) (v : Int) : (s.setMI a v).thm = s.thm := rfl

@[simp] theorem State.setMI_pnl (a : Nat) (v : Int) : (s.setMI a v).pnl = s.pnl := rfl

@[simp] theorem State.setMI_fox (a : Nat) (v : Int) : (s.setMI a v).fox = s.fox := rfl

@[simp] theorem State.setMI_snap (a : Nat) (v : Int) : (s.setMI a v).snap = s.snap := rfl

@[simp] theorem State.setMI_clk (a : Nat) (v : Int) : (s.setMI a v).clk = s.clk := rfl

@[simp] theorem State.setMI_svc (a : Nat) (v : Int) : (s.setMI a v).svc = s.svc := rfl

@[simp] theorem State.setMI_reqs (a : Nat) (v : Int) : (s.setMI a v).reqs = s.reqs := rfl

@[simp] theorem State.setMI_rd (a : Nat) (v : Int) (j : Nat) : (s.setMI a v).rd j = s.rd j := rfl

@[simp] theorem State.setMI_f (a : Nat) (v : Int) (y : Fld) : (s.setMI a v).f y = s.f y := rfl

@[simp] theorem State.setMI_on (a : Nat) (v : Int) (y : Fld) : (s.setMI a v).on y = s.on y := rfl

/-! ### setMB -/

@[simp] theorem State.setMB_pending (a v : Nat) : (s.setMB a v).pending = s.pending := rfl

@[simp] theorem State.setMB_regs (a v : Nat) : (s.setMB a v).regs = s.regs := rfl

@[simp] theorem State.setMB_shadow (a v : Nat) : (s.setMB a v).shadow = s.shadow := rfl

@[simp] theorem State.setMB_freeCount (a v : Nat) : (s.setMB a v).freeCount = s.freeCount := rfl

@[simp] theorem State.setMB_annFifo (a v : Nat) : (s.setMB a v).annFifo = s.annFifo := rfl

@[simp] theorem State.setMB_holdFrames (a v : Nat) : (s.setMB a v).holdFrames = s.holdFrames := rfl

@[simp] theorem State.setMB_boot (a v : Nat) : (s.setMB a v).boot = s.boot := rfl

@[simp] theorem State.setMB_safe (a v : Nat) : (s.setMB a v).safe = s.safe := rfl

@[simp] theorem State.setMB_adc (a v : Nat) : (s.setMB a v).adc = s.adc := rfl

@[simp] theorem State.setMB_pwm (a v : Nat) : (s.setMB a v).pwm = s.pwm := rfl

@[simp] theorem State.setMB_ce (a v : Nat) : (s.setMB a v).ce = s.ce := rfl

@[simp] theorem State.setMB_alm (a v : Nat) : (s.setMB a v).alm = s.alm := rfl

@[simp] theorem State.setMB_can (a v : Nat) : (s.setMB a v).can = s.can := rfl

@[simp] theorem State.setMB_zp (a v : Nat) : (s.setMB a v).zp = s.zp := rfl

@[simp] theorem State.setMB_pair (a v : Nat) : (s.setMB a v).pair = s.pair := rfl

@[simp] theorem State.setMB_fol (a v : Nat) : (s.setMB a v).fol = s.fol := rfl

@[simp] theorem State.setMB_thm (a v : Nat) : (s.setMB a v).thm = s.thm := rfl

@[simp] theorem State.setMB_pnl (a v : Nat) : (s.setMB a v).pnl = s.pnl := rfl

@[simp] theorem State.setMB_fox (a v : Nat) : (s.setMB a v).fox = s.fox := rfl

@[simp] theorem State.setMB_snap (a v : Nat) : (s.setMB a v).snap = s.snap := rfl

@[simp] theorem State.setMB_clk (a v : Nat) : (s.setMB a v).clk = s.clk := rfl

@[simp] theorem State.setMB_svc (a v : Nat) : (s.setMB a v).svc = s.svc := rfl

@[simp] theorem State.setMB_reqs (a v : Nat) : (s.setMB a v).reqs = s.reqs := rfl

@[simp] theorem State.setMB_rd (a v : Nat) (j : Nat) : (s.setMB a v).rd j = s.rd j := rfl

@[simp] theorem State.setMB_f (a v : Nat) (y : Fld) : (s.setMB a v).f y = s.f y := rfl

@[simp] theorem State.setMB_on (a v : Nat) (y : Fld) : (s.setMB a v).on y = s.on y := rfl

/-! ### setFol -/

@[simp] theorem State.setFol_pending (f : Folio → Folio) : (s.setFol f).pending = s.pending := rfl

@[simp] theorem State.setFol_regs (f : Folio → Folio) : (s.setFol f).regs = s.regs := rfl

@[simp] theorem State.setFol_mem (f : Folio → Folio) : (s.setFol f).mem = s.mem := rfl

@[simp] theorem State.setFol_shadow (f : Folio → Folio) : (s.setFol f).shadow = s.shadow := rfl

@[simp] theorem State.setFol_freeCount (f : Folio → Folio) : (s.setFol f).freeCount = s.freeCount := rfl

@[simp] theorem State.setFol_annFifo (f : Folio → Folio) : (s.setFol f).annFifo = s.annFifo := rfl

@[simp] theorem State.setFol_holdFrames (f : Folio → Folio) : (s.setFol f).holdFrames = s.holdFrames := rfl

@[simp] theorem State.setFol_boot (f : Folio → Folio) : (s.setFol f).boot = s.boot := rfl

@[simp] theorem State.setFol_safe (f : Folio → Folio) : (s.setFol f).safe = s.safe := rfl

@[simp] theorem State.setFol_adc (f : Folio → Folio) : (s.setFol f).adc = s.adc := rfl

@[simp] theorem State.setFol_pwm (f : Folio → Folio) : (s.setFol f).pwm = s.pwm := rfl

@[simp] theorem State.setFol_ce (f : Folio → Folio) : (s.setFol f).ce = s.ce := rfl

@[simp] theorem State.setFol_alm (f : Folio → Folio) : (s.setFol f).alm = s.alm := rfl

@[simp] theorem State.setFol_can (f : Folio → Folio) : (s.setFol f).can = s.can := rfl

@[simp] theorem State.setFol_zp (f : Folio → Folio) : (s.setFol f).zp = s.zp := rfl

@[simp] theorem State.setFol_pair (f : Folio → Folio) : (s.setFol f).pair = s.pair := rfl

@[simp] theorem State.setFol_thm (f : Folio → Folio) : (s.setFol f).thm = s.thm := rfl

@[simp] theorem State.setFol_pnl (f : Folio → Folio) : (s.setFol f).pnl = s.pnl := rfl

@[simp] theorem State.setFol_fox (f : Folio → Folio) : (s.setFol f).fox = s.fox := rfl

@[simp] theorem State.setFol_snap (f : Folio → Folio) : (s.setFol f).snap = s.snap := rfl

@[simp] theorem State.setFol_clk (f : Folio → Folio) : (s.setFol f).clk = s.clk := rfl

@[simp] theorem State.setFol_svc (f : Folio → Folio) : (s.setFol f).svc = s.svc := rfl

@[simp] theorem State.setFol_reqs (f : Folio → Folio) : (s.setFol f).reqs = s.reqs := rfl

@[simp] theorem State.setFol_rd (f : Folio → Folio) (j : Nat) : (s.setFol f).rd j = s.rd j := rfl

@[simp] theorem State.setFol_f (u : Folio → Folio) (y : Fld) : (s.setFol u).f y = s.f y := rfl

@[simp] theorem State.setFol_on (u : Folio → Folio) (y : Fld) : (s.setFol u).on y = s.on y := rfl

@[simp] theorem State.setFol_mw (f : Folio → Folio) (j : Nat) : (s.setFol f).mw j = s.mw j := rfl

@[simp] theorem State.setFol_mb (f : Folio → Folio) (j : Nat) : (s.setFol f).mb j = s.mb j := rfl

/-! ### setPair -/

@[simp] theorem State.setPair_pending (f : Pair → Pair) : (s.setPair f).pending = s.pending := rfl

@[simp] theorem State.setPair_regs (f : Pair → Pair) : (s.setPair f).regs = s.regs := rfl

@[simp] theorem State.setPair_mem (f : Pair → Pair) : (s.setPair f).mem = s.mem := rfl

@[simp] theorem State.setPair_shadow (f : Pair → Pair) : (s.setPair f).shadow = s.shadow := rfl

@[simp] theorem State.setPair_freeCount (f : Pair → Pair) : (s.setPair f).freeCount = s.freeCount := rfl

@[simp] theorem State.setPair_annFifo (f : Pair → Pair) : (s.setPair f).annFifo = s.annFifo := rfl

@[simp] theorem State.setPair_holdFrames (f : Pair → Pair) : (s.setPair f).holdFrames = s.holdFrames := rfl

@[simp] theorem State.setPair_boot (f : Pair → Pair) : (s.setPair f).boot = s.boot := rfl

@[simp] theorem State.setPair_safe (f : Pair → Pair) : (s.setPair f).safe = s.safe := rfl

@[simp] theorem State.setPair_adc (f : Pair → Pair) : (s.setPair f).adc = s.adc := rfl

@[simp] theorem State.setPair_pwm (f : Pair → Pair) : (s.setPair f).pwm = s.pwm := rfl

@[simp] theorem State.setPair_ce (f : Pair → Pair) : (s.setPair f).ce = s.ce := rfl

@[simp] theorem State.setPair_alm (f : Pair → Pair) : (s.setPair f).alm = s.alm := rfl

@[simp] theorem State.setPair_can (f : Pair → Pair) : (s.setPair f).can = s.can := rfl

@[simp] theorem State.setPair_zp (f : Pair → Pair) : (s.setPair f).zp = s.zp := rfl

@[simp] theorem State.setPair_fol (f : Pair → Pair) : (s.setPair f).fol = s.fol := rfl

@[simp] theorem State.setPair_thm (f : Pair → Pair) : (s.setPair f).thm = s.thm := rfl

@[simp] theorem State.setPair_pnl (f : Pair → Pair) : (s.setPair f).pnl = s.pnl := rfl

@[simp] theorem State.setPair_fox (f : Pair → Pair) : (s.setPair f).fox = s.fox := rfl

@[simp] theorem State.setPair_snap (f : Pair → Pair) : (s.setPair f).snap = s.snap := rfl

@[simp] theorem State.setPair_clk (f : Pair → Pair) : (s.setPair f).clk = s.clk := rfl

@[simp] theorem State.setPair_svc (f : Pair → Pair) : (s.setPair f).svc = s.svc := rfl

@[simp] theorem State.setPair_reqs (f : Pair → Pair) : (s.setPair f).reqs = s.reqs := rfl

@[simp] theorem State.setPair_rd (f : Pair → Pair) (j : Nat) : (s.setPair f).rd j = s.rd j := rfl

@[simp] theorem State.setPair_f (u : Pair → Pair) (y : Fld) : (s.setPair u).f y = s.f y := rfl

@[simp] theorem State.setPair_on (u : Pair → Pair) (y : Fld) : (s.setPair u).on y = s.on y := rfl

@[simp] theorem State.setPair_mw (f : Pair → Pair) (j : Nat) : (s.setPair f).mw j = s.mw j := rfl

@[simp] theorem State.setPair_mb (f : Pair → Pair) (j : Nat) : (s.setPair f).mb j = s.mb j := rfl

/-! ### setPnl -/

@[simp] theorem State.setPnl_pending (f : Panel → Panel) : (s.setPnl f).pending = s.pending := rfl

@[simp] theorem State.setPnl_regs (f : Panel → Panel) : (s.setPnl f).regs = s.regs := rfl

@[simp] theorem State.setPnl_mem (f : Panel → Panel) : (s.setPnl f).mem = s.mem := rfl

@[simp] theorem State.setPnl_shadow (f : Panel → Panel) : (s.setPnl f).shadow = s.shadow := rfl

@[simp] theorem State.setPnl_freeCount (f : Panel → Panel) : (s.setPnl f).freeCount = s.freeCount := rfl

@[simp] theorem State.setPnl_annFifo (f : Panel → Panel) : (s.setPnl f).annFifo = s.annFifo := rfl

@[simp] theorem State.setPnl_holdFrames (f : Panel → Panel) : (s.setPnl f).holdFrames = s.holdFrames := rfl

@[simp] theorem State.setPnl_boot (f : Panel → Panel) : (s.setPnl f).boot = s.boot := rfl

@[simp] theorem State.setPnl_safe (f : Panel → Panel) : (s.setPnl f).safe = s.safe := rfl

@[simp] theorem State.setPnl_adc (f : Panel → Panel) : (s.setPnl f).adc = s.adc := rfl

@[simp] theorem State.setPnl_pwm (f : Panel → Panel) : (s.setPnl f).pwm = s.pwm := rfl

@[simp] theorem State.setPnl_ce (f : Panel → Panel) : (s.setPnl f).ce = s.ce := rfl

@[simp] theorem State.setPnl_alm (f : Panel → Panel) : (s.setPnl f).alm = s.alm := rfl

@[simp] theorem State.setPnl_can (f : Panel → Panel) : (s.setPnl f).can = s.can := rfl

@[simp] theorem State.setPnl_zp (f : Panel → Panel) : (s.setPnl f).zp = s.zp := rfl

@[simp] theorem State.setPnl_pair (f : Panel → Panel) : (s.setPnl f).pair = s.pair := rfl

@[simp] theorem State.setPnl_fol (f : Panel → Panel) : (s.setPnl f).fol = s.fol := rfl

@[simp] theorem State.setPnl_thm (f : Panel → Panel) : (s.setPnl f).thm = s.thm := rfl

@[simp] theorem State.setPnl_fox (f : Panel → Panel) : (s.setPnl f).fox = s.fox := rfl

@[simp] theorem State.setPnl_snap (f : Panel → Panel) : (s.setPnl f).snap = s.snap := rfl

@[simp] theorem State.setPnl_clk (f : Panel → Panel) : (s.setPnl f).clk = s.clk := rfl

@[simp] theorem State.setPnl_svc (f : Panel → Panel) : (s.setPnl f).svc = s.svc := rfl

@[simp] theorem State.setPnl_reqs (f : Panel → Panel) : (s.setPnl f).reqs = s.reqs := rfl

@[simp] theorem State.setPnl_rd (f : Panel → Panel) (j : Nat) : (s.setPnl f).rd j = s.rd j := rfl

@[simp] theorem State.setPnl_f (u : Panel → Panel) (y : Fld) : (s.setPnl u).f y = s.f y := rfl

@[simp] theorem State.setPnl_on (u : Panel → Panel) (y : Fld) : (s.setPnl u).on y = s.on y := rfl

@[simp] theorem State.setPnl_mw (f : Panel → Panel) (j : Nat) : (s.setPnl f).mw j = s.mw j := rfl

@[simp] theorem State.setPnl_mb (f : Panel → Panel) (j : Nat) : (s.setPnl f).mb j = s.mb j := rfl

/-! ### setThm -/

@[simp] theorem State.setThm_pending (f : Thermal → Thermal) : (s.setThm f).pending = s.pending := rfl

@[simp] theorem State.setThm_regs (f : Thermal → Thermal) : (s.setThm f).regs = s.regs := rfl

@[simp] theorem State.setThm_mem (f : Thermal → Thermal) : (s.setThm f).mem = s.mem := rfl

@[simp] theorem State.setThm_shadow (f : Thermal → Thermal) : (s.setThm f).shadow = s.shadow := rfl

@[simp] theorem State.setThm_freeCount (f : Thermal → Thermal) : (s.setThm f).freeCount = s.freeCount := rfl

@[simp] theorem State.setThm_annFifo (f : Thermal → Thermal) : (s.setThm f).annFifo = s.annFifo := rfl

@[simp] theorem State.setThm_holdFrames (f : Thermal → Thermal) : (s.setThm f).holdFrames = s.holdFrames := rfl

@[simp] theorem State.setThm_boot (f : Thermal → Thermal) : (s.setThm f).boot = s.boot := rfl

@[simp] theorem State.setThm_safe (f : Thermal → Thermal) : (s.setThm f).safe = s.safe := rfl

@[simp] theorem State.setThm_adc (f : Thermal → Thermal) : (s.setThm f).adc = s.adc := rfl

@[simp] theorem State.setThm_pwm (f : Thermal → Thermal) : (s.setThm f).pwm = s.pwm := rfl

@[simp] theorem State.setThm_ce (f : Thermal → Thermal) : (s.setThm f).ce = s.ce := rfl

@[simp] theorem State.setThm_alm (f : Thermal → Thermal) : (s.setThm f).alm = s.alm := rfl

@[simp] theorem State.setThm_can (f : Thermal → Thermal) : (s.setThm f).can = s.can := rfl

@[simp] theorem State.setThm_zp (f : Thermal → Thermal) : (s.setThm f).zp = s.zp := rfl

@[simp] theorem State.setThm_pair (f : Thermal → Thermal) : (s.setThm f).pair = s.pair := rfl

@[simp] theorem State.setThm_fol (f : Thermal → Thermal) : (s.setThm f).fol = s.fol := rfl

@[simp] theorem State.setThm_pnl (f : Thermal → Thermal) : (s.setThm f).pnl = s.pnl := rfl

@[simp] theorem State.setThm_fox (f : Thermal → Thermal) : (s.setThm f).fox = s.fox := rfl

@[simp] theorem State.setThm_snap (f : Thermal → Thermal) : (s.setThm f).snap = s.snap := rfl

@[simp] theorem State.setThm_clk (f : Thermal → Thermal) : (s.setThm f).clk = s.clk := rfl

@[simp] theorem State.setThm_svc (f : Thermal → Thermal) : (s.setThm f).svc = s.svc := rfl

@[simp] theorem State.setThm_reqs (f : Thermal → Thermal) : (s.setThm f).reqs = s.reqs := rfl

@[simp] theorem State.setThm_rd (f : Thermal → Thermal) (j : Nat) : (s.setThm f).rd j = s.rd j := rfl

@[simp] theorem State.setThm_f (u : Thermal → Thermal) (y : Fld) : (s.setThm u).f y = s.f y := rfl

@[simp] theorem State.setThm_on (u : Thermal → Thermal) (y : Fld) : (s.setThm u).on y = s.on y := rfl

@[simp] theorem State.setThm_mw (f : Thermal → Thermal) (j : Nat) : (s.setThm f).mw j = s.mw j := rfl

@[simp] theorem State.setThm_mb (f : Thermal → Thermal) (j : Nat) : (s.setThm f).mb j = s.mb j := rfl

/-! ### setFox -/

@[simp] theorem State.setFox_pending (f : Foxing → Foxing) : (s.setFox f).pending = s.pending := rfl

@[simp] theorem State.setFox_regs (f : Foxing → Foxing) : (s.setFox f).regs = s.regs := rfl

@[simp] theorem State.setFox_mem (f : Foxing → Foxing) : (s.setFox f).mem = s.mem := rfl

@[simp] theorem State.setFox_shadow (f : Foxing → Foxing) : (s.setFox f).shadow = s.shadow := rfl

@[simp] theorem State.setFox_freeCount (f : Foxing → Foxing) : (s.setFox f).freeCount = s.freeCount := rfl

@[simp] theorem State.setFox_annFifo (f : Foxing → Foxing) : (s.setFox f).annFifo = s.annFifo := rfl

@[simp] theorem State.setFox_holdFrames (f : Foxing → Foxing) : (s.setFox f).holdFrames = s.holdFrames := rfl

@[simp] theorem State.setFox_boot (f : Foxing → Foxing) : (s.setFox f).boot = s.boot := rfl

@[simp] theorem State.setFox_safe (f : Foxing → Foxing) : (s.setFox f).safe = s.safe := rfl

@[simp] theorem State.setFox_adc (f : Foxing → Foxing) : (s.setFox f).adc = s.adc := rfl

@[simp] theorem State.setFox_pwm (f : Foxing → Foxing) : (s.setFox f).pwm = s.pwm := rfl

@[simp] theorem State.setFox_ce (f : Foxing → Foxing) : (s.setFox f).ce = s.ce := rfl

@[simp] theorem State.setFox_alm (f : Foxing → Foxing) : (s.setFox f).alm = s.alm := rfl

@[simp] theorem State.setFox_can (f : Foxing → Foxing) : (s.setFox f).can = s.can := rfl

@[simp] theorem State.setFox_zp (f : Foxing → Foxing) : (s.setFox f).zp = s.zp := rfl

@[simp] theorem State.setFox_pair (f : Foxing → Foxing) : (s.setFox f).pair = s.pair := rfl

@[simp] theorem State.setFox_fol (f : Foxing → Foxing) : (s.setFox f).fol = s.fol := rfl

@[simp] theorem State.setFox_thm (f : Foxing → Foxing) : (s.setFox f).thm = s.thm := rfl

@[simp] theorem State.setFox_pnl (f : Foxing → Foxing) : (s.setFox f).pnl = s.pnl := rfl

@[simp] theorem State.setFox_snap (f : Foxing → Foxing) : (s.setFox f).snap = s.snap := rfl

@[simp] theorem State.setFox_clk (f : Foxing → Foxing) : (s.setFox f).clk = s.clk := rfl

@[simp] theorem State.setFox_svc (f : Foxing → Foxing) : (s.setFox f).svc = s.svc := rfl

@[simp] theorem State.setFox_reqs (f : Foxing → Foxing) : (s.setFox f).reqs = s.reqs := rfl

@[simp] theorem State.setFox_rd (f : Foxing → Foxing) (j : Nat) : (s.setFox f).rd j = s.rd j := rfl

@[simp] theorem State.setFox_f (u : Foxing → Foxing) (y : Fld) : (s.setFox u).f y = s.f y := rfl

@[simp] theorem State.setFox_on (u : Foxing → Foxing) (y : Fld) : (s.setFox u).on y = s.on y := rfl

@[simp] theorem State.setFox_mw (f : Foxing → Foxing) (j : Nat) : (s.setFox f).mw j = s.mw j := rfl

@[simp] theorem State.setFox_mb (f : Foxing → Foxing) (j : Nat) : (s.setFox f).mb j = s.mb j := rfl

/-! ### setCc -/

@[simp] theorem State.setCc_pending (c : Nat) (f : CanCtl → CanCtl) : (s.setCc c f).pending = s.pending := rfl

@[simp] theorem State.setCc_regs (c : Nat) (f : CanCtl → CanCtl) : (s.setCc c f).regs = s.regs := rfl

@[simp] theorem State.setCc_mem (c : Nat) (f : CanCtl → CanCtl) : (s.setCc c f).mem = s.mem := rfl

@[simp] theorem State.setCc_shadow (c : Nat) (f : CanCtl → CanCtl) : (s.setCc c f).shadow = s.shadow := rfl

@[simp] theorem State.setCc_freeCount (c : Nat) (f : CanCtl → CanCtl) : (s.setCc c f).freeCount = s.freeCount := rfl

@[simp] theorem State.setCc_annFifo (c : Nat) (f : CanCtl → CanCtl) : (s.setCc c f).annFifo = s.annFifo := rfl

@[simp] theorem State.setCc_holdFrames (c : Nat) (f : CanCtl → CanCtl) : (s.setCc c f).holdFrames = s.holdFrames := rfl

@[simp] theorem State.setCc_boot (c : Nat) (f : CanCtl → CanCtl) : (s.setCc c f).boot = s.boot := rfl

@[simp] theorem State.setCc_safe (c : Nat) (f : CanCtl → CanCtl) : (s.setCc c f).safe = s.safe := rfl

@[simp] theorem State.setCc_adc (c : Nat) (f : CanCtl → CanCtl) : (s.setCc c f).adc = s.adc := rfl

@[simp] theorem State.setCc_pwm (c : Nat) (f : CanCtl → CanCtl) : (s.setCc c f).pwm = s.pwm := rfl

@[simp] theorem State.setCc_ce (c : Nat) (f : CanCtl → CanCtl) : (s.setCc c f).ce = s.ce := rfl

@[simp] theorem State.setCc_alm (c : Nat) (f : CanCtl → CanCtl) : (s.setCc c f).alm = s.alm := rfl

@[simp] theorem State.setCc_zp (c : Nat) (f : CanCtl → CanCtl) : (s.setCc c f).zp = s.zp := rfl

@[simp] theorem State.setCc_pair (c : Nat) (f : CanCtl → CanCtl) : (s.setCc c f).pair = s.pair := rfl

@[simp] theorem State.setCc_fol (c : Nat) (f : CanCtl → CanCtl) : (s.setCc c f).fol = s.fol := rfl

@[simp] theorem State.setCc_thm (c : Nat) (f : CanCtl → CanCtl) : (s.setCc c f).thm = s.thm := rfl

@[simp] theorem State.setCc_pnl (c : Nat) (f : CanCtl → CanCtl) : (s.setCc c f).pnl = s.pnl := rfl

@[simp] theorem State.setCc_fox (c : Nat) (f : CanCtl → CanCtl) : (s.setCc c f).fox = s.fox := rfl

@[simp] theorem State.setCc_snap (c : Nat) (f : CanCtl → CanCtl) : (s.setCc c f).snap = s.snap := rfl

@[simp] theorem State.setCc_clk (c : Nat) (f : CanCtl → CanCtl) : (s.setCc c f).clk = s.clk := rfl

@[simp] theorem State.setCc_svc (c : Nat) (f : CanCtl → CanCtl) : (s.setCc c f).svc = s.svc := rfl

@[simp] theorem State.setCc_reqs (c : Nat) (f : CanCtl → CanCtl) : (s.setCc c f).reqs = s.reqs := rfl

@[simp] theorem State.setCc_rd (c : Nat) (f : CanCtl → CanCtl) (j : Nat) : (s.setCc c f).rd j = s.rd j := rfl

@[simp] theorem State.setCc_f (c : Nat) (u : CanCtl → CanCtl) (y : Fld) : (s.setCc c u).f y = s.f y := rfl

@[simp] theorem State.setCc_on (c : Nat) (u : CanCtl → CanCtl) (y : Fld) : (s.setCc c u).on y = s.on y := rfl

@[simp] theorem State.setCc_mw (c : Nat) (f : CanCtl → CanCtl) (j : Nat) : (s.setCc c f).mw j = s.mw j := rfl

@[simp] theorem State.setCc_mb (c : Nat) (f : CanCtl → CanCtl) (j : Nat) : (s.setCc c f).mb j = s.mb j := rfl

/-! ### setZb -/

@[simp] theorem State.setZb_pending (b : Nat) (f : ZpBus → ZpBus) : (s.setZb b f).pending = s.pending := rfl

@[simp] theorem State.setZb_regs (b : Nat) (f : ZpBus → ZpBus) : (s.setZb b f).regs = s.regs := rfl

@[simp] theorem State.setZb_mem (b : Nat) (f : ZpBus → ZpBus) : (s.setZb b f).mem = s.mem := rfl

@[simp] theorem State.setZb_shadow (b : Nat) (f : ZpBus → ZpBus) : (s.setZb b f).shadow = s.shadow := rfl

@[simp] theorem State.setZb_freeCount (b : Nat) (f : ZpBus → ZpBus) : (s.setZb b f).freeCount = s.freeCount := rfl

@[simp] theorem State.setZb_annFifo (b : Nat) (f : ZpBus → ZpBus) : (s.setZb b f).annFifo = s.annFifo := rfl

@[simp] theorem State.setZb_holdFrames (b : Nat) (f : ZpBus → ZpBus) : (s.setZb b f).holdFrames = s.holdFrames := rfl

@[simp] theorem State.setZb_boot (b : Nat) (f : ZpBus → ZpBus) : (s.setZb b f).boot = s.boot := rfl

@[simp] theorem State.setZb_safe (b : Nat) (f : ZpBus → ZpBus) : (s.setZb b f).safe = s.safe := rfl

@[simp] theorem State.setZb_adc (b : Nat) (f : ZpBus → ZpBus) : (s.setZb b f).adc = s.adc := rfl

@[simp] theorem State.setZb_pwm (b : Nat) (f : ZpBus → ZpBus) : (s.setZb b f).pwm = s.pwm := rfl

@[simp] theorem State.setZb_ce (b : Nat) (f : ZpBus → ZpBus) : (s.setZb b f).ce = s.ce := rfl

@[simp] theorem State.setZb_alm (b : Nat) (f : ZpBus → ZpBus) : (s.setZb b f).alm = s.alm := rfl

@[simp] theorem State.setZb_can (b : Nat) (f : ZpBus → ZpBus) : (s.setZb b f).can = s.can := rfl

@[simp] theorem State.setZb_pair (b : Nat) (f : ZpBus → ZpBus) : (s.setZb b f).pair = s.pair := rfl

@[simp] theorem State.setZb_fol (b : Nat) (f : ZpBus → ZpBus) : (s.setZb b f).fol = s.fol := rfl

@[simp] theorem State.setZb_thm (b : Nat) (f : ZpBus → ZpBus) : (s.setZb b f).thm = s.thm := rfl

@[simp] theorem State.setZb_pnl (b : Nat) (f : ZpBus → ZpBus) : (s.setZb b f).pnl = s.pnl := rfl

@[simp] theorem State.setZb_fox (b : Nat) (f : ZpBus → ZpBus) : (s.setZb b f).fox = s.fox := rfl

@[simp] theorem State.setZb_snap (b : Nat) (f : ZpBus → ZpBus) : (s.setZb b f).snap = s.snap := rfl

@[simp] theorem State.setZb_clk (b : Nat) (f : ZpBus → ZpBus) : (s.setZb b f).clk = s.clk := rfl

@[simp] theorem State.setZb_svc (b : Nat) (f : ZpBus → ZpBus) : (s.setZb b f).svc = s.svc := rfl

@[simp] theorem State.setZb_reqs (b : Nat) (f : ZpBus → ZpBus) : (s.setZb b f).reqs = s.reqs := rfl

@[simp] theorem State.setZb_rd (b : Nat) (f : ZpBus → ZpBus) (j : Nat) : (s.setZb b f).rd j = s.rd j := rfl

@[simp] theorem State.setZb_f (b : Nat) (u : ZpBus → ZpBus) (y : Fld) : (s.setZb b u).f y = s.f y := rfl

@[simp] theorem State.setZb_on (b : Nat) (u : ZpBus → ZpBus) (y : Fld) : (s.setZb b u).on y = s.on y := rfl

@[simp] theorem State.setZb_mw (b : Nat) (f : ZpBus → ZpBus) (j : Nat) : (s.setZb b f).mw j = s.mw j := rfl

@[simp] theorem State.setZb_mb (b : Nat) (f : ZpBus → ZpBus) (j : Nat) : (s.setZb b f).mb j = s.mb j := rfl

/-! ### setLane -/

@[simp] theorem State.setLane_pending (l : Nat) (f : Lane → Lane) : (s.setLane l f).pending = s.pending := rfl

@[simp] theorem State.setLane_regs (l : Nat) (f : Lane → Lane) : (s.setLane l f).regs = s.regs := rfl

@[simp] theorem State.setLane_mem (l : Nat) (f : Lane → Lane) : (s.setLane l f).mem = s.mem := rfl

@[simp] theorem State.setLane_shadow (l : Nat) (f : Lane → Lane) : (s.setLane l f).shadow = s.shadow := rfl

@[simp] theorem State.setLane_freeCount (l : Nat) (f : Lane → Lane) : (s.setLane l f).freeCount = s.freeCount := rfl

@[simp] theorem State.setLane_annFifo (l : Nat) (f : Lane → Lane) : (s.setLane l f).annFifo = s.annFifo := rfl

@[simp] theorem State.setLane_holdFrames (l : Nat) (f : Lane → Lane) : (s.setLane l f).holdFrames = s.holdFrames := rfl

@[simp] theorem State.setLane_boot (l : Nat) (f : Lane → Lane) : (s.setLane l f).boot = s.boot := rfl

@[simp] theorem State.setLane_safe (l : Nat) (f : Lane → Lane) : (s.setLane l f).safe = s.safe := rfl

@[simp] theorem State.setLane_adc (l : Nat) (f : Lane → Lane) : (s.setLane l f).adc = s.adc := rfl

@[simp] theorem State.setLane_pwm (l : Nat) (f : Lane → Lane) : (s.setLane l f).pwm = s.pwm := rfl

@[simp] theorem State.setLane_alm (l : Nat) (f : Lane → Lane) : (s.setLane l f).alm = s.alm := rfl

@[simp] theorem State.setLane_can (l : Nat) (f : Lane → Lane) : (s.setLane l f).can = s.can := rfl

@[simp] theorem State.setLane_zp (l : Nat) (f : Lane → Lane) : (s.setLane l f).zp = s.zp := rfl

@[simp] theorem State.setLane_pair (l : Nat) (f : Lane → Lane) : (s.setLane l f).pair = s.pair := rfl

@[simp] theorem State.setLane_fol (l : Nat) (f : Lane → Lane) : (s.setLane l f).fol = s.fol := rfl

@[simp] theorem State.setLane_thm (l : Nat) (f : Lane → Lane) : (s.setLane l f).thm = s.thm := rfl

@[simp] theorem State.setLane_pnl (l : Nat) (f : Lane → Lane) : (s.setLane l f).pnl = s.pnl := rfl

@[simp] theorem State.setLane_fox (l : Nat) (f : Lane → Lane) : (s.setLane l f).fox = s.fox := rfl

@[simp] theorem State.setLane_snap (l : Nat) (f : Lane → Lane) : (s.setLane l f).snap = s.snap := rfl

@[simp] theorem State.setLane_clk (l : Nat) (f : Lane → Lane) : (s.setLane l f).clk = s.clk := rfl

@[simp] theorem State.setLane_svc (l : Nat) (f : Lane → Lane) : (s.setLane l f).svc = s.svc := rfl

@[simp] theorem State.setLane_reqs (l : Nat) (f : Lane → Lane) : (s.setLane l f).reqs = s.reqs := rfl

@[simp] theorem State.setLane_rd (l : Nat) (f : Lane → Lane) (j : Nat) : (s.setLane l f).rd j = s.rd j := rfl

@[simp] theorem State.setLane_f (l : Nat) (u : Lane → Lane) (y : Fld) : (s.setLane l u).f y = s.f y := rfl

@[simp] theorem State.setLane_on (l : Nat) (u : Lane → Lane) (y : Fld) : (s.setLane l u).on y = s.on y := rfl

@[simp] theorem State.setLane_mw (l : Nat) (f : Lane → Lane) (j : Nat) : (s.setLane l f).mw j = s.mw j := rfl

@[simp] theorem State.setLane_mb (l : Nat) (f : Lane → Lane) (j : Nat) : (s.setLane l f).mb j = s.mb j := rfl

/-! ### setDrv -/

@[simp] theorem State.setDrv_pending (d : Nat) (f : Drive → Drive) : (s.setDrv d f).pending = s.pending := rfl

@[simp] theorem State.setDrv_regs (d : Nat) (f : Drive → Drive) : (s.setDrv d f).regs = s.regs := rfl

@[simp] theorem State.setDrv_mem (d : Nat) (f : Drive → Drive) : (s.setDrv d f).mem = s.mem := rfl

@[simp] theorem State.setDrv_shadow (d : Nat) (f : Drive → Drive) : (s.setDrv d f).shadow = s.shadow := rfl

@[simp] theorem State.setDrv_freeCount (d : Nat) (f : Drive → Drive) : (s.setDrv d f).freeCount = s.freeCount := rfl

@[simp] theorem State.setDrv_annFifo (d : Nat) (f : Drive → Drive) : (s.setDrv d f).annFifo = s.annFifo := rfl

@[simp] theorem State.setDrv_holdFrames (d : Nat) (f : Drive → Drive) : (s.setDrv d f).holdFrames = s.holdFrames := rfl

@[simp] theorem State.setDrv_boot (d : Nat) (f : Drive → Drive) : (s.setDrv d f).boot = s.boot := rfl

@[simp] theorem State.setDrv_safe (d : Nat) (f : Drive → Drive) : (s.setDrv d f).safe = s.safe := rfl

@[simp] theorem State.setDrv_adc (d : Nat) (f : Drive → Drive) : (s.setDrv d f).adc = s.adc := rfl

@[simp] theorem State.setDrv_pwm (d : Nat) (f : Drive → Drive) : (s.setDrv d f).pwm = s.pwm := rfl

@[simp] theorem State.setDrv_alm (d : Nat) (f : Drive → Drive) : (s.setDrv d f).alm = s.alm := rfl

@[simp] theorem State.setDrv_can (d : Nat) (f : Drive → Drive) : (s.setDrv d f).can = s.can := rfl

@[simp] theorem State.setDrv_zp (d : Nat) (f : Drive → Drive) : (s.setDrv d f).zp = s.zp := rfl

@[simp] theorem State.setDrv_pair (d : Nat) (f : Drive → Drive) : (s.setDrv d f).pair = s.pair := rfl

@[simp] theorem State.setDrv_fol (d : Nat) (f : Drive → Drive) : (s.setDrv d f).fol = s.fol := rfl

@[simp] theorem State.setDrv_thm (d : Nat) (f : Drive → Drive) : (s.setDrv d f).thm = s.thm := rfl

@[simp] theorem State.setDrv_pnl (d : Nat) (f : Drive → Drive) : (s.setDrv d f).pnl = s.pnl := rfl

@[simp] theorem State.setDrv_fox (d : Nat) (f : Drive → Drive) : (s.setDrv d f).fox = s.fox := rfl

@[simp] theorem State.setDrv_snap (d : Nat) (f : Drive → Drive) : (s.setDrv d f).snap = s.snap := rfl

@[simp] theorem State.setDrv_clk (d : Nat) (f : Drive → Drive) : (s.setDrv d f).clk = s.clk := rfl

@[simp] theorem State.setDrv_svc (d : Nat) (f : Drive → Drive) : (s.setDrv d f).svc = s.svc := rfl

@[simp] theorem State.setDrv_reqs (d : Nat) (f : Drive → Drive) : (s.setDrv d f).reqs = s.reqs := rfl

@[simp] theorem State.setDrv_rd (d : Nat) (f : Drive → Drive) (j : Nat) : (s.setDrv d f).rd j = s.rd j := rfl

@[simp] theorem State.setDrv_f (d : Nat) (u : Drive → Drive) (y : Fld) : (s.setDrv d u).f y = s.f y := rfl

@[simp] theorem State.setDrv_on (d : Nat) (u : Drive → Drive) (y : Fld) : (s.setDrv d u).on y = s.on y := rfl

@[simp] theorem State.setDrv_mw (d : Nat) (f : Drive → Drive) (j : Nat) : (s.setDrv d f).mw j = s.mw j := rfl

@[simp] theorem State.setDrv_mb (d : Nat) (f : Drive → Drive) (j : Nat) : (s.setDrv d f).mb j = s.mb j := rfl

/-! ### setCap -/

@[simp] theorem State.setCap_pending (f : Capture → Capture) : (s.setCap f).pending = s.pending := rfl

@[simp] theorem State.setCap_regs (f : Capture → Capture) : (s.setCap f).regs = s.regs := rfl

@[simp] theorem State.setCap_mem (f : Capture → Capture) : (s.setCap f).mem = s.mem := rfl

@[simp] theorem State.setCap_shadow (f : Capture → Capture) : (s.setCap f).shadow = s.shadow := rfl

@[simp] theorem State.setCap_freeCount (f : Capture → Capture) : (s.setCap f).freeCount = s.freeCount := rfl

@[simp] theorem State.setCap_annFifo (f : Capture → Capture) : (s.setCap f).annFifo = s.annFifo := rfl

@[simp] theorem State.setCap_holdFrames (f : Capture → Capture) : (s.setCap f).holdFrames = s.holdFrames := rfl

@[simp] theorem State.setCap_boot (f : Capture → Capture) : (s.setCap f).boot = s.boot := rfl

@[simp] theorem State.setCap_safe (f : Capture → Capture) : (s.setCap f).safe = s.safe := rfl

@[simp] theorem State.setCap_adc (f : Capture → Capture) : (s.setCap f).adc = s.adc := rfl

@[simp] theorem State.setCap_pwm (f : Capture → Capture) : (s.setCap f).pwm = s.pwm := rfl

@[simp] theorem State.setCap_alm (f : Capture → Capture) : (s.setCap f).alm = s.alm := rfl

@[simp] theorem State.setCap_can (f : Capture → Capture) : (s.setCap f).can = s.can := rfl

@[simp] theorem State.setCap_zp (f : Capture → Capture) : (s.setCap f).zp = s.zp := rfl

@[simp] theorem State.setCap_pair (f : Capture → Capture) : (s.setCap f).pair = s.pair := rfl

@[simp] theorem State.setCap_fol (f : Capture → Capture) : (s.setCap f).fol = s.fol := rfl

@[simp] theorem State.setCap_thm (f : Capture → Capture) : (s.setCap f).thm = s.thm := rfl

@[simp] theorem State.setCap_pnl (f : Capture → Capture) : (s.setCap f).pnl = s.pnl := rfl

@[simp] theorem State.setCap_fox (f : Capture → Capture) : (s.setCap f).fox = s.fox := rfl

@[simp] theorem State.setCap_snap (f : Capture → Capture) : (s.setCap f).snap = s.snap := rfl

@[simp] theorem State.setCap_clk (f : Capture → Capture) : (s.setCap f).clk = s.clk := rfl

@[simp] theorem State.setCap_svc (f : Capture → Capture) : (s.setCap f).svc = s.svc := rfl

@[simp] theorem State.setCap_reqs (f : Capture → Capture) : (s.setCap f).reqs = s.reqs := rfl

@[simp] theorem State.setCap_rd (f : Capture → Capture) (j : Nat) : (s.setCap f).rd j = s.rd j := rfl

@[simp] theorem State.setCap_f (u : Capture → Capture) (y : Fld) : (s.setCap u).f y = s.f y := rfl

@[simp] theorem State.setCap_on (u : Capture → Capture) (y : Fld) : (s.setCap u).on y = s.on y := rfl

@[simp] theorem State.setCap_mw (f : Capture → Capture) (j : Nat) : (s.setCap f).mw j = s.mw j := rfl

@[simp] theorem State.setCap_mb (f : Capture → Capture) (j : Nat) : (s.setCap f).mb j = s.mb j := rfl

/-! ### setSeq -/

@[simp] theorem State.setSeq_pending (n : Nat) (f : InjSeq → InjSeq) : (s.setSeq n f).pending = s.pending := rfl

@[simp] theorem State.setSeq_regs (n : Nat) (f : InjSeq → InjSeq) : (s.setSeq n f).regs = s.regs := rfl

@[simp] theorem State.setSeq_mem (n : Nat) (f : InjSeq → InjSeq) : (s.setSeq n f).mem = s.mem := rfl

@[simp] theorem State.setSeq_shadow (n : Nat) (f : InjSeq → InjSeq) : (s.setSeq n f).shadow = s.shadow := rfl

@[simp] theorem State.setSeq_freeCount (n : Nat) (f : InjSeq → InjSeq) : (s.setSeq n f).freeCount = s.freeCount := rfl

@[simp] theorem State.setSeq_annFifo (n : Nat) (f : InjSeq → InjSeq) : (s.setSeq n f).annFifo = s.annFifo := rfl

@[simp] theorem State.setSeq_holdFrames (n : Nat) (f : InjSeq → InjSeq) : (s.setSeq n f).holdFrames = s.holdFrames := rfl

@[simp] theorem State.setSeq_boot (n : Nat) (f : InjSeq → InjSeq) : (s.setSeq n f).boot = s.boot := rfl

@[simp] theorem State.setSeq_safe (n : Nat) (f : InjSeq → InjSeq) : (s.setSeq n f).safe = s.safe := rfl

@[simp] theorem State.setSeq_pwm (n : Nat) (f : InjSeq → InjSeq) : (s.setSeq n f).pwm = s.pwm := rfl

@[simp] theorem State.setSeq_ce (n : Nat) (f : InjSeq → InjSeq) : (s.setSeq n f).ce = s.ce := rfl

@[simp] theorem State.setSeq_alm (n : Nat) (f : InjSeq → InjSeq) : (s.setSeq n f).alm = s.alm := rfl

@[simp] theorem State.setSeq_can (n : Nat) (f : InjSeq → InjSeq) : (s.setSeq n f).can = s.can := rfl

@[simp] theorem State.setSeq_zp (n : Nat) (f : InjSeq → InjSeq) : (s.setSeq n f).zp = s.zp := rfl

@[simp] theorem State.setSeq_pair (n : Nat) (f : InjSeq → InjSeq) : (s.setSeq n f).pair = s.pair := rfl

@[simp] theorem State.setSeq_fol (n : Nat) (f : InjSeq → InjSeq) : (s.setSeq n f).fol = s.fol := rfl

@[simp] theorem State.setSeq_thm (n : Nat) (f : InjSeq → InjSeq) : (s.setSeq n f).thm = s.thm := rfl

@[simp] theorem State.setSeq_pnl (n : Nat) (f : InjSeq → InjSeq) : (s.setSeq n f).pnl = s.pnl := rfl

@[simp] theorem State.setSeq_fox (n : Nat) (f : InjSeq → InjSeq) : (s.setSeq n f).fox = s.fox := rfl

@[simp] theorem State.setSeq_snap (n : Nat) (f : InjSeq → InjSeq) : (s.setSeq n f).snap = s.snap := rfl

@[simp] theorem State.setSeq_clk (n : Nat) (f : InjSeq → InjSeq) : (s.setSeq n f).clk = s.clk := rfl

@[simp] theorem State.setSeq_svc (n : Nat) (f : InjSeq → InjSeq) : (s.setSeq n f).svc = s.svc := rfl

@[simp] theorem State.setSeq_reqs (n : Nat) (f : InjSeq → InjSeq) : (s.setSeq n f).reqs = s.reqs := rfl

@[simp] theorem State.setSeq_rd (n : Nat) (f : InjSeq → InjSeq) (j : Nat) : (s.setSeq n f).rd j = s.rd j := rfl

@[simp] theorem State.setSeq_f (n : Nat) (u : InjSeq → InjSeq) (y : Fld) : (s.setSeq n u).f y = s.f y := rfl

@[simp] theorem State.setSeq_on (n : Nat) (u : InjSeq → InjSeq) (y : Fld) : (s.setSeq n u).on y = s.on y := rfl

@[simp] theorem State.setSeq_mw (n : Nat) (f : InjSeq → InjSeq) (j : Nat) : (s.setSeq n f).mw j = s.mw j := rfl

@[simp] theorem State.setSeq_mb (n : Nat) (f : InjSeq → InjSeq) (j : Nat) : (s.setSeq n f).mb j = s.mb j := rfl

/-! ### setGrp -/

@[simp] theorem State.setGrp_pending (g : Nat) (f : Group → Group) : (s.setGrp g f).pending = s.pending := rfl

@[simp] theorem State.setGrp_regs (g : Nat) (f : Group → Group) : (s.setGrp g f).regs = s.regs := rfl

@[simp] theorem State.setGrp_mem (g : Nat) (f : Group → Group) : (s.setGrp g f).mem = s.mem := rfl

@[simp] theorem State.setGrp_shadow (g : Nat) (f : Group → Group) : (s.setGrp g f).shadow = s.shadow := rfl

@[simp] theorem State.setGrp_freeCount (g : Nat) (f : Group → Group) : (s.setGrp g f).freeCount = s.freeCount := rfl

@[simp] theorem State.setGrp_annFifo (g : Nat) (f : Group → Group) : (s.setGrp g f).annFifo = s.annFifo := rfl

@[simp] theorem State.setGrp_holdFrames (g : Nat) (f : Group → Group) : (s.setGrp g f).holdFrames = s.holdFrames := rfl

@[simp] theorem State.setGrp_boot (g : Nat) (f : Group → Group) : (s.setGrp g f).boot = s.boot := rfl

@[simp] theorem State.setGrp_safe (g : Nat) (f : Group → Group) : (s.setGrp g f).safe = s.safe := rfl

@[simp] theorem State.setGrp_adc (g : Nat) (f : Group → Group) : (s.setGrp g f).adc = s.adc := rfl

@[simp] theorem State.setGrp_ce (g : Nat) (f : Group → Group) : (s.setGrp g f).ce = s.ce := rfl

@[simp] theorem State.setGrp_alm (g : Nat) (f : Group → Group) : (s.setGrp g f).alm = s.alm := rfl

@[simp] theorem State.setGrp_can (g : Nat) (f : Group → Group) : (s.setGrp g f).can = s.can := rfl

@[simp] theorem State.setGrp_zp (g : Nat) (f : Group → Group) : (s.setGrp g f).zp = s.zp := rfl

@[simp] theorem State.setGrp_pair (g : Nat) (f : Group → Group) : (s.setGrp g f).pair = s.pair := rfl

@[simp] theorem State.setGrp_fol (g : Nat) (f : Group → Group) : (s.setGrp g f).fol = s.fol := rfl

@[simp] theorem State.setGrp_thm (g : Nat) (f : Group → Group) : (s.setGrp g f).thm = s.thm := rfl

@[simp] theorem State.setGrp_pnl (g : Nat) (f : Group → Group) : (s.setGrp g f).pnl = s.pnl := rfl

@[simp] theorem State.setGrp_fox (g : Nat) (f : Group → Group) : (s.setGrp g f).fox = s.fox := rfl

@[simp] theorem State.setGrp_snap (g : Nat) (f : Group → Group) : (s.setGrp g f).snap = s.snap := rfl

@[simp] theorem State.setGrp_clk (g : Nat) (f : Group → Group) : (s.setGrp g f).clk = s.clk := rfl

@[simp] theorem State.setGrp_svc (g : Nat) (f : Group → Group) : (s.setGrp g f).svc = s.svc := rfl

@[simp] theorem State.setGrp_reqs (g : Nat) (f : Group → Group) : (s.setGrp g f).reqs = s.reqs := rfl

@[simp] theorem State.setGrp_rd (g : Nat) (f : Group → Group) (j : Nat) : (s.setGrp g f).rd j = s.rd j := rfl

@[simp] theorem State.setGrp_f (g : Nat) (u : Group → Group) (y : Fld) : (s.setGrp g u).f y = s.f y := rfl

@[simp] theorem State.setGrp_on (g : Nat) (u : Group → Group) (y : Fld) : (s.setGrp g u).on y = s.on y := rfl

@[simp] theorem State.setGrp_mw (g : Nat) (f : Group → Group) (j : Nat) : (s.setGrp g f).mw j = s.mw j := rfl

@[simp] theorem State.setGrp_mb (g : Nat) (f : Group → Group) (j : Nat) : (s.setGrp g f).mb j = s.mb j := rfl

/-! ### setGpc -/

@[simp] theorem State.setGpc_pending (c : Nat) (f : GpChan → GpChan) : (s.setGpc c f).pending = s.pending := rfl

@[simp] theorem State.setGpc_regs (c : Nat) (f : GpChan → GpChan) : (s.setGpc c f).regs = s.regs := rfl

@[simp] theorem State.setGpc_mem (c : Nat) (f : GpChan → GpChan) : (s.setGpc c f).mem = s.mem := rfl

@[simp] theorem State.setGpc_shadow (c : Nat) (f : GpChan → GpChan) : (s.setGpc c f).shadow = s.shadow := rfl

@[simp] theorem State.setGpc_freeCount (c : Nat) (f : GpChan → GpChan) : (s.setGpc c f).freeCount = s.freeCount := rfl

@[simp] theorem State.setGpc_annFifo (c : Nat) (f : GpChan → GpChan) : (s.setGpc c f).annFifo = s.annFifo := rfl

@[simp] theorem State.setGpc_holdFrames (c : Nat) (f : GpChan → GpChan) : (s.setGpc c f).holdFrames = s.holdFrames := rfl

@[simp] theorem State.setGpc_boot (c : Nat) (f : GpChan → GpChan) : (s.setGpc c f).boot = s.boot := rfl

@[simp] theorem State.setGpc_safe (c : Nat) (f : GpChan → GpChan) : (s.setGpc c f).safe = s.safe := rfl

@[simp] theorem State.setGpc_adc (c : Nat) (f : GpChan → GpChan) : (s.setGpc c f).adc = s.adc := rfl

@[simp] theorem State.setGpc_ce (c : Nat) (f : GpChan → GpChan) : (s.setGpc c f).ce = s.ce := rfl

@[simp] theorem State.setGpc_alm (c : Nat) (f : GpChan → GpChan) : (s.setGpc c f).alm = s.alm := rfl

@[simp] theorem State.setGpc_can (c : Nat) (f : GpChan → GpChan) : (s.setGpc c f).can = s.can := rfl

@[simp] theorem State.setGpc_zp (c : Nat) (f : GpChan → GpChan) : (s.setGpc c f).zp = s.zp := rfl

@[simp] theorem State.setGpc_pair (c : Nat) (f : GpChan → GpChan) : (s.setGpc c f).pair = s.pair := rfl

@[simp] theorem State.setGpc_fol (c : Nat) (f : GpChan → GpChan) : (s.setGpc c f).fol = s.fol := rfl

@[simp] theorem State.setGpc_thm (c : Nat) (f : GpChan → GpChan) : (s.setGpc c f).thm = s.thm := rfl

@[simp] theorem State.setGpc_pnl (c : Nat) (f : GpChan → GpChan) : (s.setGpc c f).pnl = s.pnl := rfl

@[simp] theorem State.setGpc_fox (c : Nat) (f : GpChan → GpChan) : (s.setGpc c f).fox = s.fox := rfl

@[simp] theorem State.setGpc_snap (c : Nat) (f : GpChan → GpChan) : (s.setGpc c f).snap = s.snap := rfl

@[simp] theorem State.setGpc_clk (c : Nat) (f : GpChan → GpChan) : (s.setGpc c f).clk = s.clk := rfl

@[simp] theorem State.setGpc_svc (c : Nat) (f : GpChan → GpChan) : (s.setGpc c f).svc = s.svc := rfl

@[simp] theorem State.setGpc_reqs (c : Nat) (f : GpChan → GpChan) : (s.setGpc c f).reqs = s.reqs := rfl

@[simp] theorem State.setGpc_rd (c : Nat) (f : GpChan → GpChan) (j : Nat) : (s.setGpc c f).rd j = s.rd j := rfl

@[simp] theorem State.setGpc_f (c : Nat) (u : GpChan → GpChan) (y : Fld) : (s.setGpc c u).f y = s.f y := rfl

@[simp] theorem State.setGpc_on (c : Nat) (u : GpChan → GpChan) (y : Fld) : (s.setGpc c u).on y = s.on y := rfl

@[simp] theorem State.setGpc_mw (c : Nat) (f : GpChan → GpChan) (j : Nat) : (s.setGpc c f).mw j = s.mw j := rfl

@[simp] theorem State.setGpc_mb (c : Nat) (f : GpChan → GpChan) (j : Nat) : (s.setGpc c f).mb j = s.mb j := rfl

@[simp] theorem State.setFol_fol (f : Folio → Folio) : (s.setFol f).fol = f s.fol := rfl

@[simp] theorem State.setPair_pair (f : Pair → Pair) : (s.setPair f).pair = f s.pair := rfl

@[simp] theorem State.setPnl_pnl (f : Panel → Panel) : (s.setPnl f).pnl = f s.pnl := rfl

@[simp] theorem State.setThm_thm (f : Thermal → Thermal) : (s.setThm f).thm = f s.thm := rfl

@[simp] theorem State.setFox_fox (f : Foxing → Foxing) : (s.setFox f).fox = f s.fox := rfl

/-! ### A value the manual leaves open is used -/

@[simp] theorem State.free_pending : s.free.2.pending = s.pending := rfl

@[simp] theorem State.free_regs : s.free.2.regs = s.regs := rfl

@[simp] theorem State.free_mem : s.free.2.mem = s.mem := rfl

@[simp] theorem State.free_shadow : s.free.2.shadow = s.shadow := rfl

@[simp] theorem State.free_annFifo : s.free.2.annFifo = s.annFifo := rfl

@[simp] theorem State.free_holdFrames : s.free.2.holdFrames = s.holdFrames := rfl

@[simp] theorem State.free_boot : s.free.2.boot = s.boot := rfl

@[simp] theorem State.free_safe : s.free.2.safe = s.safe := rfl

@[simp] theorem State.free_adc : s.free.2.adc = s.adc := rfl

@[simp] theorem State.free_pwm : s.free.2.pwm = s.pwm := rfl

@[simp] theorem State.free_ce : s.free.2.ce = s.ce := rfl

@[simp] theorem State.free_alm : s.free.2.alm = s.alm := rfl

@[simp] theorem State.free_can : s.free.2.can = s.can := rfl

@[simp] theorem State.free_zp : s.free.2.zp = s.zp := rfl

@[simp] theorem State.free_pair : s.free.2.pair = s.pair := rfl

@[simp] theorem State.free_fol : s.free.2.fol = s.fol := rfl

@[simp] theorem State.free_thm : s.free.2.thm = s.thm := rfl

@[simp] theorem State.free_pnl : s.free.2.pnl = s.pnl := rfl

@[simp] theorem State.free_fox : s.free.2.fox = s.fox := rfl

@[simp] theorem State.free_snap : s.free.2.snap = s.snap := rfl

@[simp] theorem State.free_clk : s.free.2.clk = s.clk := rfl

@[simp] theorem State.free_svc : s.free.2.svc = s.svc := rfl

@[simp] theorem State.free_reqs : s.free.2.reqs = s.reqs := rfl

end Sys2Proof.Machine
end

