-- ==== Sys2Proof/Laws/Fields.lean ====
section
/-! SUPPORT. What a read of a register, a field, a word or a byte finds after each write of one. -/

namespace Sys2Proof.Machine

variable {s : State}

/-! ### Bits of numbers -/

theorem getBits_setBits_same (x lo w v : Nat) : getBits (setBits x lo w v) lo w = v % 2 ^ w := by
  unfold getBits setBits
  have h1 : x % 2 ^ lo + v % 2 ^ w * 2 ^ lo + x / 2 ^ (lo + w) * 2 ^ (lo + w)
      = x % 2 ^ lo + 2 ^ lo * (v % 2 ^ w + x / 2 ^ (lo + w) * 2 ^ w) := by rw [Nat.pow_add]; ring
  rw [h1, Nat.add_mul_div_left _ _ (Nat.two_pow_pos lo), Nat.div_eq_of_lt (Nat.mod_lt _ (Nat.two_pow_pos lo)), Nat.zero_add,
    Nat.add_mul_mod_self_right, Nat.mod_mod]

theorem setBits_lt {x lo w v n : Nat} (hx : x < 2 ^ n) (hn : lo + w ≤ n) : setBits x lo w v < 2 ^ n := by
  unfold setBits
  have h0 : x % 2 ^ lo < 2 ^ lo := Nat.mod_lt _ (Nat.two_pow_pos lo)
  have h1 : v % 2 ^ w < 2 ^ w := Nat.mod_lt _ (Nat.two_pow_pos w)
  have h2 : x / 2 ^ (lo + w) < 2 ^ (n - (lo + w)) := by
    rw [Nat.div_lt_iff_lt_mul (Nat.two_pow_pos _), ← Nat.pow_add, Nat.sub_add_cancel hn]; exact hx
  have h3 : (v % 2 ^ w) * 2 ^ lo + 2 ^ lo ≤ 2 ^ (lo + w) := by
    rw [Nat.pow_add]; calc v % 2 ^ w * 2 ^ lo + 2 ^ lo = (v % 2 ^ w + 1) * 2 ^ lo := by ring
      _ ≤ 2 ^ w * 2 ^ lo := Nat.mul_le_mul_right _ h1
      _ = 2 ^ lo * 2 ^ w := Nat.mul_comm _ _
  have h4 : x / 2 ^ (lo + w) * 2 ^ (lo + w) + 2 ^ (lo + w) ≤ 2 ^ n := by
    calc x / 2 ^ (lo + w) * 2 ^ (lo + w) + 2 ^ (lo + w) = (x / 2 ^ (lo + w) + 1) * 2 ^ (lo + w) := by ring
      _ ≤ 2 ^ (n - (lo + w)) * 2 ^ (lo + w) := Nat.mul_le_mul_right _ h2
      _ = 2 ^ n := by rw [← Nat.pow_add, Nat.sub_add_cancel hn]
  omega

theorem testBit_getBits (x lo w k : Nat) : (getBits x lo w).testBit k = (decide (k < w) && x.testBit (lo + k)) := by
  unfold getBits
  rw [Nat.testBit_mod_two_pow, Nat.testBit_div_two_pow, Nat.add_comm]

theorem testBit_setBits (x lo w v k : Nat) : (setBits x lo w v).testBit k =
    if k < lo then x.testBit k else if k < lo + w then v.testBit (k - lo) else x.testBit k := by
  have e : setBits x lo w v = 2 ^ (lo + w) * (x / 2 ^ (lo + w)) + (2 ^ lo * (v % 2 ^ w) + x % 2 ^ lo) := by
    unfold setBits; ring
  have h0 : x % 2 ^ lo < 2 ^ lo := Nat.mod_lt _ (Nat.two_pow_pos lo)
  have h1 : v % 2 ^ w < 2 ^ w := Nat.mod_lt _ (Nat.two_pow_pos w)
  have h3 : 2 ^ lo * (v % 2 ^ w) + x % 2 ^ lo < 2 ^ (lo + w) := by
    rw [Nat.pow_add]; calc 2 ^ lo * (v % 2 ^ w) + x % 2 ^ lo < 2 ^ lo * (v % 2 ^ w) + 2 ^ lo := by omega
      _ = 2 ^ lo * (v % 2 ^ w + 1) := by ring
      _ ≤ 2 ^ lo * 2 ^ w := Nat.mul_le_mul_left _ h1
  rw [e, Nat.testBit_two_pow_mul_add _ h3]
  by_cases hk : k < lo
  · have : k < lo + w := by omega
    rw [if_pos this, Nat.testBit_two_pow_mul_add _ h0, if_pos hk, if_pos hk, Nat.testBit_mod_two_pow]
    simp [hk]
  · rw [if_neg hk]
    by_cases hk2 : k < lo + w
    · have : k - lo < w := by omega
      rw [if_pos hk2, if_pos hk2, Nat.testBit_two_pow_mul_add _ h0, if_neg hk, Nat.testBit_mod_two_pow]
      simp [this]
    · rw [if_neg hk2, if_neg hk2, Nat.testBit_div_two_pow, Nat.sub_add_cancel (by omega)]

theorem getBits_setBits_apart {x lo w v lo' w' : Nat} (h : lo' + w' ≤ lo ∨ lo + w ≤ lo') :
    getBits (setBits x lo w v) lo' w' = getBits x lo' w' := by
  apply Nat.eq_of_testBit_eq
  intro k
  rw [testBit_getBits, testBit_getBits, testBit_setBits]
  by_cases hk : k < w'
  · have h1 : lo' + k < lo ∨ lo + w ≤ lo' + k := by omega
    rcases h1 with h1 | h1
    · simp [h1]
    · have h2 : ¬ lo' + k < lo := by omega
      have h3 : ¬ lo' + k < lo + w := by omega
      simp [h2, h3]
  · simp [hk]

/-! ### Registers -/

theorem State.wf_regs (h : s.wf = true) : regsWf s.regs = true := by
  unfold State.wf at h; exact (Bool.and_eq_true_iff.1 h).1

theorem State.wf_mem (h : s.wf = true) : Memory.wf s.mem = true := by
  unfold State.wf at h; exact (Bool.and_eq_true_iff.1 h).2

theorem State.wf_iff_kept : s.wf = true ↔ s.Kept s.pending := by
  unfold State.wf State.Kept; simp

theorem State.rd_eq (s : State) (a : Nat) : s.rd a = ((lookupAt s.regs a).getD (resetWord a)).toNat := by
  unfold State.rd; cases lookupAt s.regs a <;> rfl

theorem State.rd_lt (s : State) (a : Nat) : s.rd a < 2 ^ 32 := by rw [State.rd_eq]; exact BitVec.isLt _

theorem State.rd_wr_same (h : regsWf s.regs = true) (a v : Nat) : (s.wr a v).rd a = v % 2 ^ 32 := by
  rw [State.rd_eq]
  show ((lookupAt (storeAt s.regs a (BitVec.ofNat 32 v) (resetWord a)) a).getD (resetWord a)).toNat = _
  rw [lookupAt_storeAt_same (d := resetWord) h a]
  exact BitVec.toNat_ofNat _ _

theorem State.rd_wr_ne (s : State) {a b : Nat} (v : Nat) (h : b ≠ a) : (s.wr a v).rd b = s.rd b := by
  rw [State.rd_eq, State.rd_eq]
  show ((lookupAt (storeAt s.regs a (BitVec.ofNat 32 v) (resetWord a)) b).getD (resetWord b)).toNat = _
  rw [lookupAt_storeAt_ne _ _ _ h]

theorem State.wr_regsWf (h : regsWf s.regs = true) (a v : Nat) : regsWf (s.wr a v).regs = true :=
  canonical_storeAt (d := resetWord) h a _

theorem State.setF_regsWf (h : regsWf s.regs = true) (x : Fld) (v : Nat) : regsWf (s.setF x v).regs = true :=
  State.wr_regsWf h _ _

/-- A field lies within its register. -/
def Fld.fits (x : Fld) : Bool := decide (x.lo + x.width ≤ 32)

/-- Two fields share no bit. -/
def Fld.apart (x y : Fld) : Bool :=
  decide (x.addr ≠ y.addr) || decide (y.lo + y.width ≤ x.lo) || decide (x.lo + x.width ≤ y.lo)

theorem State.rd_setF_same (h : regsWf s.regs = true) {x : Fld} (hx : x.fits = true) (v : Nat) :
    (s.setF x v).rd x.addr = setBits (s.rd x.addr) x.lo x.width v := by
  unfold State.setF
  rw [State.rd_wr_same h, Nat.mod_eq_of_lt]
  exact setBits_lt (s.rd_lt _) (by simpa [Fld.fits] using hx)

theorem State.rd_setF_ne (s : State) {x : Fld} {a : Nat} (v : Nat) (h : a ≠ x.addr) : (s.setF x v).rd a = s.rd a :=
  State.rd_wr_ne s _ h

theorem State.f_setF_same (h : regsWf s.regs = true) {x : Fld} (hx : x.fits = true) (v : Nat) :
    (s.setF x v).f x = v % 2 ^ x.width := by
  unfold State.f
  rw [State.rd_setF_same h hx, getBits_setBits_same]

theorem State.f_setF_apart (h : regsWf s.regs = true) {x y : Fld} (hx : x.fits = true) (hxy : x.apart y = true) (v : Nat) :
    (s.setF x v).f y = s.f y := by
  unfold State.f
  by_cases ha : y.addr = x.addr
  · rw [ha, State.rd_setF_same h hx, getBits_setBits_apart]
    simpa [Fld.apart, ha] using hxy
  · rw [State.rd_setF_ne s v ha]

theorem State.f_wr_ne (s : State) {a : Nat} {y : Fld} (v : Nat) (h : y.addr ≠ a) : (s.wr a v).f y = s.f y := by
  unfold State.f; rw [State.rd_wr_ne s v h]

theorem State.f_lt (s : State) (x : Fld) : s.f x < 2 ^ x.width := Nat.mod_lt _ (Nat.two_pow_pos _)

theorem State.on_setF_same (h : regsWf s.regs = true) {x : Fld} (hx : x.fits = true) (hw : x.width = 1) (v : Nat) :
    (s.setF x v).on x = (v % 2 == 1) := by
  unfold State.on; rw [State.f_setF_same h hx, hw]; rfl

theorem State.on_setF_apart (h : regsWf s.regs = true) {x y : Fld} (hx : x.fits = true) (hxy : x.apart y = true)
    (v : Nat) : (s.setF x v).on y = s.on y := by
  unfold State.on; rw [State.f_setF_apart h hx hxy]

/-! ### Bytes and words of memory -/

theorem State.mb_eq (s : State) (a : Nat) : s.mb a = ((lookupAt s.mem a).getD (memReset a)).toNat := by
  unfold State.mb Memory.byte; cases lookupAt s.mem a <;> rfl

theorem Memory.byte_setByte_same {m : List Host.Cell} (h : Memory.wf m = true) (a : Nat) (b : Byte) :
    Memory.byte (Memory.setByte m a b) a = b := by
  have := lookupAt_storeAt_same (d := memReset) h a b
  unfold Memory.byte Memory.setByte
  revert this
  cases lookupAt (storeAt m a b (memReset a)) a <;> exact fun h => h

theorem Memory.byte_setByte_ne {m : List Host.Cell} {a c : Nat} (b : Byte) (h : c ≠ a) :
    Memory.byte (Memory.setByte m a b) c = Memory.byte m c := by
  unfold Memory.byte Memory.setByte
  rw [lookupAt_storeAt_ne _ _ _ h]

theorem Memory.byte_setWord_ne {m : List Host.Cell} {a c v : Nat} (h : c < a ∨ a + 4 ≤ c) :
    Memory.byte (Memory.setWord m a v) c = Memory.byte m c := by
  unfold Memory.setWord
  rw [Memory.byte_setByte_ne _ (by omega), Memory.byte_setByte_ne _ (by omega), Memory.byte_setByte_ne _ (by omega),
    Memory.byte_setByte_ne _ (by omega)]

theorem Memory.byte_setWord_same {m : List Host.Cell} (h : Memory.wf m = true) (a v k : Nat) (hk : k < 4) :
    Memory.byte (Memory.setWord m a v) (a + k) = BitVec.ofNat 8 (v / 256 ^ k) := by
  have h0 := Memory.wf_setByte h a (BitVec.ofNat 8 v)
  have h1 := Memory.wf_setByte h0 (a + 1) (BitVec.ofNat 8 (v / 256))
  have h2 := Memory.wf_setByte h1 (a + 2) (BitVec.ofNat 8 (v / 65536))
  unfold Memory.setWord
  interval_cases k
  · show Memory.byte _ a = _
    rw [Memory.byte_setByte_ne _ (by omega), Memory.byte_setByte_ne _ (by omega),
      Memory.byte_setByte_ne _ (by omega), Memory.byte_setByte_same h]; simp
  · rw [Memory.byte_setByte_ne _ (by omega), Memory.byte_setByte_ne _ (by omega), Memory.byte_setByte_same h0]; simp
  · rw [Memory.byte_setByte_ne _ (by omega), Memory.byte_setByte_same h1]; norm_num
  · rw [Memory.byte_setByte_same h2]; norm_num

theorem State.mb_setM_ne (s : State) {a c : Nat} (v : Nat) (h : c < a ∨ a + 4 ≤ c) : (s.setM a v).mb c = s.mb c :=
  congrArg BitVec.toNat (Memory.byte_setWord_ne h)

theorem State.mb_setMB_same (h : Memory.wf s.mem = true) (a v : Nat) : (s.setMB a v).mb a = v % 256 := by
  show (Memory.byte (Memory.setByte s.mem a (BitVec.ofNat 8 v)) a).toNat = _
  rw [Memory.byte_setByte_same h]; exact BitVec.toNat_ofNat _ _

theorem State.mb_setMB_ne (s : State) {a c : Nat} (v : Nat) (h : c ≠ a) : (s.setMB a v).mb c = s.mb c :=
  congrArg BitVec.toNat (Memory.byte_setByte_ne _ h)

theorem State.mw_setM_ne (s : State) {a c : Nat} (v : Nat) (h : c + 4 ≤ a ∨ a + 4 ≤ c) : (s.setM a v).mw c = s.mw c := by
  show Memory.word (Memory.setWord s.mem a v) c = Memory.word s.mem c
  unfold Memory.word
  rw [Memory.byte_setWord_ne (by omega), Memory.byte_setWord_ne (by omega), Memory.byte_setWord_ne (by omega),
    Memory.byte_setWord_ne (by omega)]

theorem State.mw_setM_same (h : Memory.wf s.mem = true) (a v : Nat) : (s.setM a v).mw a = v % 2 ^ 32 := by
  show Memory.word (Memory.setWord s.mem a v) a = _
  unfold Memory.word
  have e := fun k hk => Memory.byte_setWord_same h a v k hk
  have e0 := e 0 (by omega)
  rw [Nat.add_zero] at e0
  rw [e0, e 1 (by omega), e 2 (by omega), e 3 (by omega)]
  simp only [BitVec.toNat_ofNat]
  omega

end Sys2Proof.Machine
end

