-- ==== Sys2Proof/Laws/KeptOperands.lean ====
section
/-! SUPPORT. What the functions of Operands keep. -/

namespace Sys2Proof.Machine

set_option linter.unusedTactic false
set_option linter.unreachableTactic false
set_option linter.tactic.unusedName false

variable {pq : List Instr}

theorem State.failSource_kept {s : State} (k : Nat) (h : s.Kept pq) : (State.failSource s k).Kept pq := by
  unfold State.failSource
  repeat' first
    | with_reducible intro _
    | with_reducible first | assumption | apply State.cond_kept | apply State.setBit_kept
    | dsimp only

theorem State.ptUpdate_kept {s : State} (p : Nat) (v : Int) (broken : Bool) (h : s.Kept pq) : (State.ptUpdate s p v
    broken).Kept pq := by
  unfold State.ptUpdate
  repeat' first
    | with_reducible intro _
    | (extract_lets -underBinder +onlyGivenNames x
       first | (first | apply kept_seq (pq := pq) x | apply kept_seq1 (pq := pq) x | apply kept_seq2 (pq := pq) x
                on_goal 1 => subst x
                on_goal 2 => (intro hx; try clear_value x)) | try clear_value x)
    | with_reducible first | assumption | apply State.setMI_kept | apply State.setM_kept | apply kept_ite
                                  | apply kept1_ite | apply kept2_ite
    | dsimp only
    | with_reducible first | apply kept_fst | apply kept_snd
    | with_reducible apply kept1_of
    | with_reducible apply kept2_of

theorem State.catAsOf_kept {s : State} (t : Nat) (h : s.Kept pq) : (State.catAsOf s t).Kept pq := by
  unfold State.catAsOf
  repeat' first
    | with_reducible intro _
    | with_reducible first | assumption | apply State.setM_kept | apply foldr_kept | apply kept_ite
                                  | apply kept1_ite | apply kept2_ite
    | dsimp only
    | with_reducible first | apply kept_fst | apply kept_snd
    | with_reducible apply kept1_of
    | with_reducible apply kept2_of

theorem State.catWritten_kept {s t : State} (p c : Nat) (h : t.Kept pq) : (State.catWritten s t p c).Kept pq := by
  unfold State.catWritten
  exact kept_ite h (kept_mk h)

theorem State.catBefore_kept {s : State} (p : Nat) (c : Nat) (h : s.Kept pq) : (State.catBefore s p c).Kept pq := by
  unfold State.catBefore
  repeat' first
    | with_reducible intro _
    | (extract_lets -underBinder +onlyGivenNames x
       first | (first | apply kept_seq (pq := pq) x | apply kept_seq1 (pq := pq) x | apply kept_seq2 (pq := pq) x
                on_goal 1 => subst x
                on_goal 2 => (intro hx; try clear_value x)) | try clear_value x)
    | with_reducible first | assumption | apply State.setM_kept
    | dsimp only
    | split
    | with_reducible first | apply kept_fst | apply kept_snd
    | with_reducible apply kept1_of
    | with_reducible apply kept2_of
    | with_reducible apply kept_mk

theorem State.catTouched_kept {s : State} (p : Nat) (h : s.Kept pq) : (State.catTouched s p).Kept pq := by
  unfold State.catTouched
  repeat' first
    | with_reducible intro _
    | with_reducible first | assumption
    | dsimp only
    | with_reducible apply kept_mk

theorem State.setDr_kept {s : State} (d : Nat) (o : Nat) (v : Nat) (h : s.Kept pq) : (State.setDr s d o v).Kept pq :=
    by
  unfold State.setDr
  repeat' first
    | with_reducible intro _
    | with_reducible first | assumption | apply State.setM_kept
    | dsimp only

theorem State.setDrI_kept {s : State} (d : Nat) (o : Nat) (v : Int) (h : s.Kept pq) : (State.setDrI s d o v).Kept pq
    := by
  unfold State.setDrI
  repeat' first
    | with_reducible intro _
    | with_reducible first | assumption | apply State.setMI_kept
    | dsimp only

theorem State.setDrv_kept {s : State} (d : Nat) (f : Drive → Drive) (h : s.Kept pq) : (State.setDrv s d f).Kept pq :=
    by
  unfold State.setDrv
  repeat' first
    | with_reducible intro _
    | with_reducible first | assumption
    | dsimp only
    | with_reducible apply kept_mk

theorem State.setGrp_kept {s : State} (g : Nat) (f : Group → Group) (h : s.Kept pq) : (State.setGrp s g f).Kept pq :=
    by
  unfold State.setGrp
  repeat' first
    | with_reducible intro _
    | with_reducible first | assumption
    | dsimp only
    | with_reducible apply kept_mk

theorem State.writeCompare_kept {s : State} (g : Nat) (x : Nat) (v : Nat) (h : s.Kept pq) : (State.writeCompare s g x
    v).Kept pq := by
  unfold State.writeCompare
  repeat' first
    | with_reducible intro _
    | with_reducible first | assumption | apply State.setF_kept | apply kept_ite | apply kept1_ite | apply kept2_ite
    | dsimp only
    | with_reducible first | apply kept_fst | apply kept_snd
    | with_reducible apply kept1_of
    | with_reducible apply kept2_of

theorem State.writeChain_kept {s : State} (d : Nat) (k : Nat) (v : Int) (h : s.Kept pq) : (State.writeChain s d k
    v).Kept pq := by
  unfold State.writeChain
  repeat' first
    | with_reducible intro _
    | (extract_lets -underBinder +onlyGivenNames x
       first | (first | apply kept_seq (pq := pq) x | apply kept_seq1 (pq := pq) x | apply kept_seq2 (pq := pq) x
                on_goal 1 => subst x
                on_goal 2 => (intro hx; try clear_value x)) | try clear_value x)
    | with_reducible first | assumption | apply State.setDrI_kept | apply State.setF_kept | apply State.setDrv_kept
                                  | apply kept_ite | apply kept1_ite | apply kept2_ite
    | dsimp only
    | split
    | with_reducible first | apply kept_fst | apply kept_snd
    | with_reducible apply kept1_of
    | with_reducible apply kept2_of
    | with_reducible apply kept_mk

theorem State.writeDest_kept {s : State} (i : Nat) (out : Int) (h : s.Kept pq) : (State.writeDest s i out).1.Kept pq
    := by
  show Kept1 pq _
  unfold State.writeDest
  repeat' first
    | with_reducible intro _
    | (extract_lets -underBinder +onlyGivenNames x
       first | (first | apply kept_seq (pq := pq) x | apply kept_seq1 (pq := pq) x | apply kept_seq2 (pq := pq) x
                on_goal 1 => subst x
                on_goal 2 => (intro hx; try clear_value x)) | try clear_value x)
    | with_reducible first | assumption | apply State.writeCompare_kept | apply State.setF_kept
                                  | apply State.ptUpdate_kept | apply State.writeChain_kept
    | dsimp only
    | split
    | with_reducible first | apply kept_fst | apply kept_snd
    | with_reducible apply kept1_of
    | with_reducible apply kept2_of

end Sys2Proof.Machine
end

