-- ==== Sys2Proof/Laws/KeptPerennial.lean ====
section
/-! SUPPORT. What the functions of Perennial keep. -/

namespace Sys2Proof.Machine

set_option linter.unusedTactic false
set_option linter.unreachableTactic false
set_option linter.tactic.unusedName false

variable {pq : List Instr}

theorem State.setLkStat_kept {s : State} (l : Nat) (lo : Nat) (w : Nat) (v : Nat) (h : s.Kept pq) : (State.setLkStat s
    l lo w v).Kept pq := by
  unfold State.setLkStat
  repeat' first
    | with_reducible intro _
    | with_reducible first | assumption | apply State.setM_kept
    | dsimp only

theorem State.setLkIdx_kept {s : State} (l : Nat) (lo : Nat) (w : Nat) (v : Nat) (h : s.Kept pq) : (State.setLkIdx s l
    lo w v).Kept pq := by
  unfold State.setLkIdx
  repeat' first
    | with_reducible intro _
    | with_reducible first | assumption | apply State.setM_kept
    | dsimp only

theorem State.resetLink_kept {s : State} (l : Nat) (noidx : Bool) (h : s.Kept pq) : (State.resetLink s l noidx).Kept
    pq := by
  unfold State.resetLink
  repeat' first
    | with_reducible intro _
    | (extract_lets -underBinder +onlyGivenNames x
       first | (first | apply kept_seq (pq := pq) x | apply kept_seq1 (pq := pq) x | apply kept_seq2 (pq := pq) x
                on_goal 1 => subst x
                on_goal 2 => (intro hx; try clear_value x)) | try clear_value x)
    | with_reducible first | assumption | apply State.setM_kept | apply foldl_kept
    | dsimp only
    | with_reducible first | apply kept_fst | apply kept_snd
    | with_reducible apply kept1_of
    | with_reducible apply kept2_of

theorem State.startClear_kept {s : State} (l : Nat) (h : s.Kept pq) : (State.startClear s l).Kept pq := by
  unfold State.startClear
  repeat' first
    | with_reducible intro _
    | (extract_lets -underBinder +onlyGivenNames x
       first | (first | apply kept_seq (pq := pq) x | apply kept_seq1 (pq := pq) x | apply kept_seq2 (pq := pq) x
                on_goal 1 => subst x
                on_goal 2 => (intro hx; try clear_value x)) | try clear_value x)
    | with_reducible first | assumption | apply State.resetLink_kept | apply State.setLkStat_kept
                                  | apply State.setF_kept | apply kept_ite | apply kept1_ite | apply kept2_ite
    | dsimp only
    | with_reducible first | apply kept_fst | apply kept_snd
    | with_reducible apply kept1_of
    | with_reducible apply kept2_of
    | with_reducible apply kept_mk

theorem State.endClear_kept {s : State} (h : s.Kept pq) : (State.endClear s).Kept pq := by
  unfold State.endClear
  repeat' first
    | with_reducible intro _
    | (extract_lets -underBinder +onlyGivenNames x
       first | (first | apply kept_seq (pq := pq) x | apply kept_seq1 (pq := pq) x | apply kept_seq2 (pq := pq) x
                on_goal 1 => subst x
                on_goal 2 => (intro hx; try clear_value x)) | try clear_value x)
    | with_reducible first | assumption | apply State.setLkStat_kept | apply State.setF_kept
    | dsimp only
    | split
    | with_reducible first | apply kept_fst | apply kept_snd
    | with_reducible apply kept1_of
    | with_reducible apply kept2_of
    | with_reducible apply kept_mk
    | with_reducible apply Memory.wf_clear
    | exact kept_wf ‹_›
    | apply kept_mk_mem

theorem State.setCalEntry_kept {s : State} (l : Nat) (dt : Bool) (k : Nat) (v : Int) (h : s.Kept pq) :
    (State.setCalEntry s l dt k v).Kept pq := by
  unfold State.setCalEntry
  repeat' first
    | with_reducible intro _
    | (extract_lets -underBinder +onlyGivenNames x
       first | (first | apply kept_seq (pq := pq) x | apply kept_seq1 (pq := pq) x | apply kept_seq2 (pq := pq) x
                on_goal 1 => subst x
                on_goal 2 => (intro hx; try clear_value x)) | try clear_value x)
    | with_reducible first | assumption | apply State.setMB_kept
    | dsimp only
    | with_reducible first | apply kept_fst | apply kept_snd
    | with_reducible apply kept1_of
    | with_reducible apply kept2_of

theorem State.noIndex_kept {s : State} (l : Nat) (h : s.Kept pq) : (State.noIndex s l).Kept pq := by
  unfold State.noIndex
  repeat' first
    | with_reducible intro _
    | (extract_lets -underBinder +onlyGivenNames x
       first | (first | apply kept_seq (pq := pq) x | apply kept_seq1 (pq := pq) x | apply kept_seq2 (pq := pq) x
                on_goal 1 => subst x
                on_goal 2 => (intro hx; try clear_value x)) | try clear_value x)
    | with_reducible first | assumption | apply State.setLkStat_kept | apply State.setLkIdx_kept
                                  | apply State.setM_kept
    | dsimp only
    | with_reducible first | apply kept_fst | apply kept_snd
    | with_reducible apply kept1_of
    | with_reducible apply kept2_of

theorem State.angleIndex_kept {s : State} (l : Nat) (a : Nat) (ok : Bool) (late : Bool) (h : s.Kept pq) :
    (State.angleIndex s l a ok late).1.Kept pq := by
  show Kept1 pq _
  unfold State.angleIndex
  repeat' first
    | with_reducible intro _
    | (extract_lets -underBinder +onlyGivenNames x
       first | (first | apply kept_seq (pq := pq) x | apply kept_seq1 (pq := pq) x | apply kept_seq2 (pq := pq) x
                on_goal 1 => subst x
                on_goal 2 => (intro hx; try clear_value x)) | try clear_value x)
    | with_reducible first | assumption | apply State.noIndex_kept | apply State.startClear_kept
                                  | apply State.setLkStat_kept | apply State.setLkIdx_kept | apply State.setM_kept
                                  | apply kept_ite | apply kept1_ite | apply kept2_ite
    | dsimp only
    | with_reducible first | apply kept_fst | apply kept_snd
    | with_reducible apply kept1_of
    | with_reducible apply kept2_of

theorem State.calIndex_kept {s : State} (l : Nat) (rtcSet : Bool) (m : Nat) (dt : Bool) (h : s.Kept pq) :
    (State.calIndex s l rtcSet m dt).1.Kept pq := by
  show Kept1 pq _
  unfold State.calIndex
  repeat' first
    | with_reducible intro _
    | (extract_lets -underBinder +onlyGivenNames x
       first | (first | apply kept_seq (pq := pq) x | apply kept_seq1 (pq := pq) x | apply kept_seq2 (pq := pq) x
                on_goal 1 => subst x
                on_goal 2 => (intro hx; try clear_value x)) | try clear_value x)
    | with_reducible first | assumption | apply State.noIndex_kept | apply State.setLkStat_kept | apply kept_ite
                                  | apply kept1_ite | apply kept2_ite
    | dsimp only
    | with_reducible first | apply kept_fst | apply kept_snd
    | with_reducible apply kept1_of
    | with_reducible apply kept2_of

theorem State.countEntry_kept {s : State} (l : Nat) (hit : Bool) (h : s.Kept pq) : (State.countEntry s l hit).Kept pq
    := by
  unfold State.countEntry
  repeat' first
    | with_reducible intro _
    | (extract_lets -underBinder +onlyGivenNames x
       first | (first | apply kept_seq (pq := pq) x | apply kept_seq1 (pq := pq) x | apply kept_seq2 (pq := pq) x
                on_goal 1 => subst x
                on_goal 2 => (intro hx; try clear_value x)) | try clear_value x)
    | with_reducible first | assumption | apply State.inc_kept | apply State.setLkStat_kept | apply State.setF_kept
                                  | apply State.ledger_kept | apply kept_ite | apply kept1_ite | apply kept2_ite
    | dsimp only
    | with_reducible first | apply kept_fst | apply kept_snd
    | with_reducible apply kept1_of
    | with_reducible apply kept2_of

theorem State.pushError_kept {s : State} (l : Nat) (ep : Int) (idx : Nat) (h : s.Kept pq) : (State.pushError s l ep
    idx).Kept pq := by
  unfold State.pushError
  repeat' first
    | with_reducible intro _
    | (extract_lets -underBinder +onlyGivenNames x
       first | (first | apply kept_seq (pq := pq) x | apply kept_seq1 (pq := pq) x | apply kept_seq2 (pq := pq) x
                on_goal 1 => subst x
                on_goal 2 => (intro hx; try clear_value x)) | try clear_value x)
    | with_reducible first | assumption | apply State.setM_kept | apply State.setMI_kept | apply State.setLkIdx_kept
    | dsimp only
    | with_reducible first | apply kept_fst | apply kept_snd
    | with_reducible apply kept1_of
    | with_reducible apply kept2_of

theorem State.learnAngle_kept {s : State} (l : Nat) (idx : Nat) (ep : Int) (frozen : Bool) (h : s.Kept pq) :
    (State.learnAngle s l idx ep frozen).Kept pq := by
  unfold State.learnAngle
  repeat' first
    | with_reducible intro _
    | (extract_lets -underBinder +onlyGivenNames x
       first | (first | apply kept_seq (pq := pq) x | apply kept_seq1 (pq := pq) x | apply kept_seq2 (pq := pq) x
                on_goal 1 => subst x
                on_goal 2 => (intro hx; try clear_value x)) | try clear_value x)
    | with_reducible first | assumption | apply State.setMI_kept | apply State.countEntry_kept
                                  | apply State.setLkIdx_kept | apply State.pushError_kept | apply kept_ite
                                  | apply kept1_ite | apply kept2_ite
    | dsimp only
    | with_reducible first | apply kept_fst | apply kept_snd
    | with_reducible apply kept1_of
    | with_reducible apply kept2_of

theorem State.learnMinute_kept {s : State} (l : Nat) (h : s.Kept pq) : (State.learnMinute s l).Kept pq := by
  unfold State.learnMinute
  repeat' first
    | with_reducible intro _
    | (extract_lets -underBinder +onlyGivenNames x
       first | (first | apply kept_seq (pq := pq) x | apply kept_seq1 (pq := pq) x | apply kept_seq2 (pq := pq) x
                on_goal 1 => subst x
                on_goal 2 => (intro hx; try clear_value x)) | try clear_value x)
    | with_reducible first | assumption | apply State.setLkIdx_kept | apply State.setCalEntry_kept
                                  | apply State.countEntry_kept | apply State.pushError_kept | apply kept_ite
                                  | apply kept1_ite | apply kept2_ite
    | dsimp only
    | with_reducible first | apply kept_fst | apply kept_snd
    | with_reducible apply kept1_of
    | with_reducible apply kept2_of

theorem State.learnCal_kept {s : State} (l : Nat) (m : Nat) (dt : Bool) (ep : Int) (frozen : Bool) (h : s.Kept pq) :
    (State.learnCal s l m dt ep frozen).Kept pq := by
  unfold State.learnCal
  repeat' first
    | with_reducible intro _
    | (extract_lets -underBinder +onlyGivenNames x
       first | (first | apply kept_seq (pq := pq) x | apply kept_seq1 (pq := pq) x | apply kept_seq2 (pq := pq) x
                on_goal 1 => subst x
                on_goal 2 => (intro hx; try clear_value x)) | try clear_value x)
    | with_reducible first | assumption | apply State.learnMinute_kept | apply State.setM_kept
                                  | apply State.setLkStat_kept | apply kept_ite | apply kept1_ite | apply kept2_ite
    | dsimp only
    | with_reducible first | apply kept_fst | apply kept_snd
    | with_reducible apply kept1_of
    | with_reducible apply kept2_of

theorem State.prnClrWrite_kept {s : State} (w : Nat) (h : s.Kept pq) : (State.prnClrWrite s w).1.Kept pq := by
  show Kept1 pq _
  unfold State.prnClrWrite
  repeat' first
    | with_reducible intro _
    | with_reducible first | assumption | apply State.startClear_kept | apply kept_ite | apply kept1_ite
                                  | apply kept2_ite
    | dsimp only
    | with_reducible first | apply kept_fst | apply kept_snd
    | with_reducible apply kept1_of
    | with_reducible apply kept2_of

end Sys2Proof.Machine
end

