-- ==== Sys2Proof/Laws/KeptLoops.lean ====
section
/-! SUPPORT. What the functions of Loops keep. -/

namespace Sys2Proof.Machine

set_option linter.unusedTactic false
set_option linter.unreachableTactic false
set_option linter.tactic.unusedName false

variable {pq : List Instr}

theorem State.setGenState_kept {s : State} (n : Nat) (v : Nat) (h : s.Kept pq) : (State.setGenState s n v).Kept pq :=
    by
  unfold State.setGenState
  repeat' first
    | with_reducible intro _
    | with_reducible first | assumption | apply State.setF_kept
    | dsimp only

theorem State.endGen_kept {s : State} (n : Nat) (abort : Bool) (h : s.Kept pq) : (State.endGen s n abort).Kept pq :=
    by
  unfold State.endGen
  repeat' first
    | with_reducible intro _
    | (extract_lets -underBinder +onlyGivenNames x
       first | (first | apply kept_seq (pq := pq) x | apply kept_seq1 (pq := pq) x | apply kept_seq2 (pq := pq) x
                on_goal 1 => subst x
                on_goal 2 => (intro hx; try clear_value x)) | try clear_value x)
    | with_reducible first | assumption | apply State.setGenState_kept | apply State.setBit_kept | apply kept_ite
                                  | apply kept1_ite | apply kept2_ite
    | dsimp only
    | with_reducible first | apply kept_fst | apply kept_snd
    | with_reducible apply kept1_of
    | with_reducible apply kept2_of
    | with_reducible apply kept_mk

theorem State.runGen_kept {s : State} (n : Nat) (h : s.Kept pq) : (State.runGen s n).2.Kept pq := by
  show Kept2 pq _
  unfold State.runGen
  repeat' first
    | with_reducible intro _
    | (extract_lets -underBinder +onlyGivenNames x
       first | (first | apply kept_seq (pq := pq) x | apply kept_seq1 (pq := pq) x | apply kept_seq2 (pq := pq) x
                on_goal 1 => subst x
                on_goal 2 => (intro hx; try clear_value x)) | try clear_value x)
    | with_reducible first | assumption | apply State.setM_kept | apply State.setMI_kept | apply State.endGen_kept
                                  | apply kept_ite | apply kept1_ite | apply kept2_ite
    | dsimp only
    | with_reducible first | apply kept_fst | apply kept_snd
    | with_reducible apply kept1_of
    | with_reducible apply kept2_of

theorem State.takeGen_kept {s : State} (n : Nat) (h : s.Kept pq) : (State.takeGen s n).Kept pq := by
  unfold State.takeGen
  repeat' first
    | with_reducible intro _
    | (extract_lets -underBinder +onlyGivenNames x
       first | (first | apply kept_seq (pq := pq) x | apply kept_seq1 (pq := pq) x | apply kept_seq2 (pq := pq) x
                on_goal 1 => subst x
                on_goal 2 => (intro hx; try clear_value x)) | try clear_value x)
    | with_reducible first | assumption | apply State.setM_kept | apply State.setGenState_kept | apply kept_ite
                                  | apply kept1_ite | apply kept2_ite
    | dsimp only
    | with_reducible first | apply kept_fst | apply kept_snd
    | with_reducible apply kept1_of
    | with_reducible apply kept2_of
    | with_reducible apply kept_mk

theorem State.genStep_kept {s : State} (g : Option Nat) (mode : Nat) (stop : Bool) (mute : Bool) (h : s.Kept pq) :
    (State.genStep s g mode stop mute).1.Kept pq := by
  show Kept1 pq _
  unfold State.genStep
  repeat' first
    | with_reducible intro _
    | (extract_lets -underBinder +onlyGivenNames x
       first | (first | apply kept_seq (pq := pq) x | apply kept_seq1 (pq := pq) x | apply kept_seq2 (pq := pq) x
                on_goal 1 => subst x
                on_goal 2 => (intro hx; try clear_value x)) | try clear_value x)
    | with_reducible first | assumption | apply State.endGen_kept | apply State.takeGen_kept
                                  | apply State.runGen_kept | apply kept_ite | apply kept1_ite | apply kept2_ite
    | dsimp only
    | split
    | with_reducible first | apply kept_fst | apply kept_snd
    | with_reducible apply kept1_of
    | with_reducible apply kept2_of

theorem State.takeCmd_kept {s : State} (i : Nat) (cmd : Option Nat) (driveSafe : Bool) (h : s.Kept pq) :
    (State.takeCmd s i cmd driveSafe).1.Kept pq := by
  show Kept1 pq _
  unfold State.takeCmd
  repeat' first
    | with_reducible intro _
    | (extract_lets -underBinder +onlyGivenNames x
       first | (first | apply kept_seq (pq := pq) x | apply kept_seq1 (pq := pq) x | apply kept_seq2 (pq := pq) x
                on_goal 1 => subst x
                on_goal 2 => (intro hx; try clear_value x)) | try clear_value x)
    | with_reducible first | assumption | apply State.count_kept | apply State.setF_kept | apply State.log_kept
                                  | apply State.setM_kept | apply kept_ite | apply kept1_ite | apply kept2_ite
    | dsimp only
    | split
    | with_reducible first | apply kept_fst | apply kept_snd
    | with_reducible apply kept1_of
    | with_reducible apply kept2_of

theorem State.setSect_kept {s : State} (j : Nat) (o : SectOut) (h : s.Kept pq) : (State.setSect s j o).Kept pq := by
  unfold State.setSect
  repeat' first
    | with_reducible intro _
    | (extract_lets -underBinder +onlyGivenNames x
       first | (first | apply kept_seq (pq := pq) x | apply kept_seq1 (pq := pq) x | apply kept_seq2 (pq := pq) x
                on_goal 1 => subst x
                on_goal 2 => (intro hx; try clear_value x)) | try clear_value x)
    | with_reducible first | assumption | apply State.setMI_kept
    | dsimp only
    | with_reducible first | apply kept_fst | apply kept_snd
    | with_reducible apply kept1_of
    | with_reducible apply kept2_of

/-- The state of a chain's result is kept. -/
def KeptChain (pq : List Instr) (c : ChainOut) : Prop := c.s.Kept pq

/-- The state of a law's result is kept. -/
def KeptLaw (pq : List Instr) (x : LawOut) : Prop := x.s.Kept pq

theorem keptChain_mk {a : Int} {b d : Nat} {s : State} (h : s.Kept pq) : KeptChain pq ⟨a, b, d, s⟩ := h

theorem keptLaw_mk {a : Int} {b c : Bool} {d e : Nat} {f : Bool} {s : State} (h : s.Kept pq) :
    KeptLaw pq ⟨a, b, c, d, e, f, s⟩ := h

theorem kept_chain {c : ChainOut} (h : KeptChain pq c) : c.s.Kept pq := h

theorem kept_law {x : LawOut} (h : KeptLaw pq x) : x.s.Kept pq := h

theorem kept_seqLaw (x : LawOut) {Q : Prop} (h : KeptLaw pq x) (k : KeptLaw pq x → Q) : Q := k h

theorem kept_seqChain (x : ChainOut) {Q : Prop} (h : KeptChain pq x) (k : KeptChain pq x → Q) : Q := k h

theorem kept_iteChain {c : Prop} {_ : Decidable c} {x y : ChainOut} (hx : KeptChain pq x) (hy : KeptChain pq y) :
    KeptChain pq (if c then x else y) := by split <;> assumption

theorem kept_iteLaw {c : Prop} {_ : Decidable c} {x y : LawOut} (hx : KeptLaw pq x) (hy : KeptLaw pq y) :
    KeptLaw pq (if c then x else y) := by split <;> assumption

theorem sectStep_kept {hi lo : Bool} {c : ChainOut} {p : Nat × Nat} (h : KeptChain pq c) :
    KeptChain pq (sectStep hi lo c p) := by
  unfold sectStep
  exact keptChain_mk (kept_ite (kept_chain h) (State.setSect_kept _ _ (kept_chain h)))

theorem runSects_kept {js : List Nat} {e : Int} {hi lo : Bool} {s : State} (h : s.Kept pq) :
    KeptChain pq (runSects js e hi lo s) := by
  have hf : ∀ (l : List (Nat × Nat)) c, KeptChain pq c → KeptChain pq (l.foldl (sectStep hi lo) c) := by
    intro l
    induction l with
    | nil => exact fun _ hc => hc
    | cons x r ih => exact fun c hc => ih _ (sectStep_kept hc)
  exact hf _ _ (keptChain_mk h)

theorem State.biquad_kept {s : State} (i mode : Nat) (transfer : Bool) (e ff pb inj track manval : Int)
    (h : s.Kept pq) : KeptLaw pq (State.biquad s i mode transfer e ff pb inj track manval) := by
  unfold State.biquad
  repeat' first
    | (extract_lets -underBinder +onlyGivenNames x
       first | (apply kept_seqChain (pq := pq) x
                on_goal 1 => subst x
                on_goal 2 => (intro hx; clear_value x)) | clear_value x)
    | with_reducible first | assumption | apply kept_iteChain | apply runSects_kept | apply State.setSect_kept
    | split
    | with_reducible first | apply keptChain_mk | apply keptLaw_mk | apply kept_chain

theorem State.hyst_kept {s : State} (i mode : Nat) (e manval : Int) (h : s.Kept pq) :
    KeptLaw pq (State.hyst s i mode e manval) := by
  unfold State.hyst
  repeat' first
    | (extract_lets -underBinder +onlyGivenNames x; clear_value x)
    | assumption
    | with_reducible apply keptLaw_mk
    | split

theorem State.loopFlags_kept {s : State} (i : Nat) (bits : Nat) (h : s.Kept pq) : (State.loopFlags s i bits).Kept pq
    := by
  unfold State.loopFlags
  repeat' first
    | with_reducible intro _
    | (extract_lets -underBinder +onlyGivenNames x
       first | (first | apply kept_seq (pq := pq) x | apply kept_seq1 (pq := pq) x | apply kept_seq2 (pq := pq) x
                on_goal 1 => subst x
                on_goal 2 => (intro hx; try clear_value x)) | try clear_value x)
    | with_reducible first | assumption | apply State.add_kept | apply State.ledgerN_kept | apply State.cond_kept
                                  | apply State.setF_kept | apply kept_ite | apply kept1_ite | apply kept2_ite
    | dsimp only
    | with_reducible first | apply kept_fst | apply kept_snd
    | with_reducible apply kept1_of
    | with_reducible apply kept2_of

theorem State.linkIndex_kept {s : State} (r : Run) (h : s.Kept pq) : (State.linkIndex s r).1.Kept pq := by
  show Kept1 pq _
  unfold State.linkIndex
  repeat' first
    | with_reducible intro _
    | (extract_lets -underBinder +onlyGivenNames x
       first | (first | apply kept_seq (pq := pq) x | apply kept_seq1 (pq := pq) x | apply kept_seq2 (pq := pq) x
                on_goal 1 => subst x
                on_goal 2 => (intro hx; try clear_value x)) | try clear_value x)
    | with_reducible first | assumption | apply State.angleIndex_kept | apply State.calIndex_kept | apply kept_ite
                                  | apply kept1_ite | apply kept2_ite
    | dsimp only
    | with_reducible first | apply kept_fst | apply kept_snd
    | with_reducible apply kept1_of
    | with_reducible apply kept2_of

theorem State.linkLearn_kept {s : State} (r : Run) (ix : LinkIndex) (ep : Int) (frz : Nat) (h : s.Kept pq) :
    (State.linkLearn s r ix ep frz).Kept pq := by
  unfold State.linkLearn
  repeat' first
    | with_reducible intro _
    | (extract_lets -underBinder +onlyGivenNames x
       first | (first | apply kept_seq (pq := pq) x | apply kept_seq1 (pq := pq) x | apply kept_seq2 (pq := pq) x
                on_goal 1 => subst x
                on_goal 2 => (intro hx; try clear_value x)) | try clear_value x)
    | with_reducible first | assumption | apply State.setLkStat_kept | apply State.learnAngle_kept
                                  | apply State.learnCal_kept | apply kept_ite | apply kept1_ite | apply kept2_ite
    | dsimp only
    | with_reducible first | apply kept_fst | apply kept_snd
    | with_reducible apply kept1_of
    | with_reducible apply kept2_of

theorem State.followFault_kept {s : State} (i : Nat) (fe : Int) (h : s.Kept pq) : (State.followFault s i fe).Kept pq
    := by
  unfold State.followFault
  repeat' first
    | with_reducible intro _
    | with_reducible first | assumption | apply State.count_kept | apply State.log_kept
    | dsimp only

theorem State.finishRun_kept {s : State} (r : Run) (h : s.Kept pq) : (State.finishRun s r).Kept pq := by
  unfold State.finishRun
  repeat' first
    | with_reducible intro _
    | (extract_lets -underBinder +onlyGivenNames x
       first | (first | apply kept_seq (pq := pq) x | apply kept_seq1 (pq := pq) x | apply kept_seq2 (pq := pq) x
                                  | apply kept_seqLaw (pq := pq) x
                on_goal 1 => subst x
                on_goal 2 => (intro hx; try clear_value x)) | try clear_value x)
    | with_reducible first | assumption | apply State.takeCmd_kept | apply State.linkIndex_kept
                                  | apply State.genStep_kept | apply State.followFault_kept | apply State.setMI_kept
                                  | apply State.hyst_kept | apply State.biquad_kept | apply State.linkLearn_kept
                                  | apply State.writeDest_kept | apply State.setM_kept | apply State.count_kept
                                  | apply State.log_kept | apply State.loopFlags_kept | apply kept_ite
                                  | apply kept1_ite | apply kept2_ite | apply kept_law | apply kept_iteLaw
                                  | apply State.biquad_kept | apply State.hyst_kept
    | dsimp only
    | with_reducible first | apply kept_fst | apply kept_snd
    | with_reducible apply kept1_of
    | with_reducible apply kept2_of

theorem State.trigRaise_kept {s : State} (p : Nat → Bool) (e : Option Nat) (h : s.Kept pq) : (State.trigRaise s p
    e).Kept pq := by
  unfold State.trigRaise
  repeat' first
    | with_reducible intro _
    | with_reducible first | assumption | apply kept_ite | apply kept1_ite | apply kept2_ite
    | dsimp only
    | with_reducible first | apply kept_fst | apply kept_snd
    | with_reducible apply kept1_of
    | with_reducible apply kept2_of
    | with_reducible apply kept_mk

theorem State.startRun_kept {s : State} (i : Nat) (c : Nat) (h : s.Kept pq) : (State.startRun s i c).Kept pq := by
  unfold State.startRun
  repeat' first
    | with_reducible intro _
    | (extract_lets -underBinder +onlyGivenNames x
       first | (first | apply kept_seq (pq := pq) x | apply kept_seq1 (pq := pq) x | apply kept_seq2 (pq := pq) x
                on_goal 1 => subst x
                on_goal 2 => (intro hx; try clear_value x)) | try clear_value x)
    | with_reducible first | assumption | apply State.trigRaise_kept | apply kept_ite | apply kept1_ite
                                  | apply kept2_ite
    | dsimp only
    | with_reducible first | apply kept_fst | apply kept_snd
    | with_reducible apply kept1_of
    | with_reducible apply kept2_of
    | with_reducible apply kept_mk

theorem State.dropRun_kept {s : State} (r : Run) (h : s.Kept pq) : (State.dropRun s r).Kept pq := by
  unfold State.dropRun
  repeat' first
    | with_reducible intro _
    | (extract_lets -underBinder +onlyGivenNames x
       first | (first | apply kept_seq (pq := pq) x | apply kept_seq1 (pq := pq) x | apply kept_seq2 (pq := pq) x
                on_goal 1 => subst x
                on_goal 2 => (intro hx; try clear_value x)) | try clear_value x)
    | with_reducible first | assumption | apply kept_ite | apply kept1_ite | apply kept2_ite
    | dsimp only
    | split
    | with_reducible first | apply kept_fst | apply kept_snd
    | with_reducible apply kept1_of
    | with_reducible apply kept2_of
    | with_reducible apply kept_mk

end Sys2Proof.Machine
end

