-- ==== Sys2Proof/Laws/KeptPwm.lean ====
section
/-! SUPPORT. What the functions of Pwm keep. -/

namespace Sys2Proof.Machine

set_option linter.unusedTactic false
set_option linter.unreachableTactic false
set_option linter.tactic.unusedName false

variable {pq : List Instr}

theorem State.liveAdd_kept {s : State} (i : Nat) (n : Nat) (h : s.Kept pq) : (State.liveAdd s i n).Kept pq := by
  unfold State.liveAdd
  repeat' first
    | with_reducible intro _
    | with_reducible first | assumption | apply State.cond_kept | apply State.add_kept
    | dsimp only

theorem State.zeroCarry_kept {s : State} (g : Nat) (h : s.Kept pq) : (State.zeroCarry s g).Kept pq := by
  unfold State.zeroCarry
  repeat' first
    | with_reducible intro _
    | with_reducible first | assumption | apply State.each_kept | apply State.setF_kept
    | dsimp only

theorem State.switchesOff_kept {s : State} (g : Nat) (t : Int) (h : s.Kept pq) : (State.switchesOff s g t).Kept pq :=
    by
  unfold State.switchesOff
  repeat' first
    | with_reducible intro _
    | with_reducible first | assumption | apply State.setGrp_kept
    | dsimp only
    | with_reducible apply kept_mk

theorem State.groupForce_kept {s : State} (g : Nat) (h : s.Kept pq) : (State.groupForce s g).Kept pq := by
  unfold State.groupForce
  repeat' first
    | with_reducible intro _
    | (extract_lets -underBinder +onlyGivenNames x
       first | (first | apply kept_seq (pq := pq) x | apply kept_seq1 (pq := pq) x | apply kept_seq2 (pq := pq) x
                on_goal 1 => subst x
                on_goal 2 => (intro hx; try clear_value x)) | try clear_value x)
    | with_reducible first | assumption | apply State.free_kept | apply State.switchesOff_kept
                                  | apply State.cond_kept | apply State.zeroCarry_kept | apply State.setGrp_kept
                                  | apply State.setF_kept | apply kept_ite | apply kept1_ite | apply kept2_ite
    | dsimp only
    | with_reducible first | apply kept_fst | apply kept_snd
    | with_reducible apply kept1_of
    | with_reducible apply kept2_of
    | with_reducible apply kept_mk

theorem State.groupOff_kept {s : State} (g : Nat) (h : s.Kept pq) : (State.groupOff s g).Kept pq := by
  unfold State.groupOff
  repeat' first
    | with_reducible intro _
    | with_reducible first | assumption | apply State.setF_kept | apply State.groupForce_kept
    | dsimp only

theorem State.setPh_kept {s : State} (g : Nat) (x : Nat) (f : Phase → Phase) (h : s.Kept pq) : (State.setPh s g x
    f).Kept pq := by
  unfold State.setPh
  repeat' first
    | with_reducible intro _
    | with_reducible first | assumption | apply State.setGrp_kept
    | dsimp only
    | with_reducible apply kept_mk

theorem State.setWidth_kept {s : State} (g : Nat) (x : Nat) (w : Nat) (h : s.Kept pq) : (State.setWidth s g x w).Kept
    pq := by
  unfold State.setWidth
  repeat' first
    | with_reducible intro _
    | (extract_lets -underBinder +onlyGivenNames x
       first | (first | apply kept_seq (pq := pq) x | apply kept_seq1 (pq := pq) x | apply kept_seq2 (pq := pq) x
                on_goal 1 => subst x
                on_goal 2 => (intro hx; try clear_value x)) | try clear_value x)
    | with_reducible first | assumption | apply State.setF_kept | apply State.setPh_kept
    | dsimp only
    | with_reducible first | apply kept_fst | apply kept_snd
    | with_reducible apply kept1_of
    | with_reducible apply kept2_of
    | with_reducible apply kept_mk

theorem State.valleyLoad_kept {s : State} (g : Nat) (x : Nat) (quiet : Bool) (h : s.Kept pq) : (State.valleyLoad s g x
    quiet).Kept pq := by
  unfold State.valleyLoad
  repeat' first
    | with_reducible intro _
    | (extract_lets -underBinder +onlyGivenNames x
       first | (first | apply kept_seq (pq := pq) x | apply kept_seq1 (pq := pq) x | apply kept_seq2 (pq := pq) x
                on_goal 1 => subst x
                on_goal 2 => (intro hx; try clear_value x)) | try clear_value x)
    | with_reducible first | assumption | apply State.setWidth_kept | apply State.setF_kept | apply State.setPh_kept
                                  | apply State.cond_kept | apply State.setBit_kept | apply State.count_kept
                                  | apply kept_ite | apply kept1_ite | apply kept2_ite
    | dsimp only
    | with_reducible first | apply kept_fst | apply kept_snd
    | with_reducible apply kept1_of
    | with_reducible apply kept2_of
    | with_reducible apply kept_mk

theorem State.tripLevels_kept {s : State} (lv : Nat) (h : s.Kept pq) : (State.tripLevels s lv).Kept pq := by
  unfold State.tripLevels
  repeat' first
    | with_reducible intro _
    | (extract_lets -underBinder +onlyGivenNames x
       first | (first | apply kept_seq (pq := pq) x | apply kept_seq1 (pq := pq) x | apply kept_seq2 (pq := pq) x
                on_goal 1 => subst x
                on_goal 2 => (intro hx; try clear_value x)) | try clear_value x)
    | with_reducible first | assumption | apply State.setF_kept | apply State.orF_kept | apply State.each_kept
                                  | apply State.cond_kept
    | dsimp only
    | with_reducible first | apply kept_fst | apply kept_snd
    | with_reducible apply kept1_of
    | with_reducible apply kept2_of

theorem State.tripNow_kept {s : State} (h : s.Kept pq) : (State.tripNow s).Kept pq := by
  unfold State.tripNow
  repeat' first
    | with_reducible intro _
    | with_reducible first | assumption | apply State.free_kept | apply State.setF_kept | apply kept_ite
                                  | apply kept1_ite | apply kept2_ite
    | dsimp only
    | with_reducible first | apply kept_fst | apply kept_snd
    | with_reducible apply kept1_of
    | with_reducible apply kept2_of

theorem State.rotate_kept {s : State} (g : Nat) (h : s.Kept pq) : (State.rotate s g).Kept pq := by
  unfold State.rotate
  repeat' first
    | with_reducible intro _
    | (extract_lets -underBinder +onlyGivenNames x
       first | (first | apply kept_seq (pq := pq) x | apply kept_seq1 (pq := pq) x | apply kept_seq2 (pq := pq) x
                on_goal 1 => subst x
                on_goal 2 => (intro hx; try clear_value x)) | try clear_value x)
    | with_reducible first | assumption | apply State.each_kept | apply State.setF_kept | apply State.setGrp_kept
                                  | apply kept_ite | apply kept1_ite | apply kept2_ite
    | dsimp only
    | with_reducible first | apply kept_fst | apply kept_snd
    | with_reducible apply kept1_of
    | with_reducible apply kept2_of
    | with_reducible apply kept_mk

theorem State.releaseSample_kept {s : State} (g : Nat) (h : s.Kept pq) : (State.releaseSample s g).Kept pq := by
  unfold State.releaseSample
  repeat' first
    | with_reducible intro _
    | (extract_lets -underBinder +onlyGivenNames x
       first | (first | apply kept_seq (pq := pq) x | apply kept_seq1 (pq := pq) x | apply kept_seq2 (pq := pq) x
                on_goal 1 => subst x
                on_goal 2 => (intro hx; try clear_value x)) | try clear_value x)
    | with_reducible first | assumption | apply State.setGrp_kept | apply State.setF_kept | apply State.count_kept
                                  | apply kept_ite | apply kept1_ite | apply kept2_ite
    | dsimp only
    | with_reducible first | apply kept_fst | apply kept_snd
    | with_reducible apply kept1_of
    | with_reducible apply kept2_of
    | with_reducible apply kept_mk

theorem State.valley_kept {s : State} (g : Nat) (lv : Nat) (h : s.Kept pq) : (State.valley s g lv).Kept pq := by
  unfold State.valley
  repeat' first
    | with_reducible intro _
    | (extract_lets -underBinder +onlyGivenNames x
       first | (first | apply kept_seq (pq := pq) x | apply kept_seq1 (pq := pq) x | apply kept_seq2 (pq := pq) x
                on_goal 1 => subst x
                on_goal 2 => (intro hx; try clear_value x)) | try clear_value x)
    | with_reducible first | assumption | apply State.setGrp_kept | apply State.tripLevels_kept
                                  | apply State.rotate_kept | apply State.releaseSample_kept | apply State.each_kept
                                  | apply State.valleyLoad_kept | apply State.setB_kept
    | dsimp only
    | with_reducible first | apply kept_fst | apply kept_snd
    | with_reducible apply kept1_of
    | with_reducible apply kept2_of
    | with_reducible apply kept_mk

theorem State.cutAtZero_kept {s : State} (g : Nat) (h : s.Kept pq) : (State.cutAtZero s g).Kept pq := by
  unfold State.cutAtZero
  repeat' first
    | with_reducible intro _
    | with_reducible first | assumption | apply State.setDrv_kept
    | dsimp only
    | with_reducible apply kept_mk

theorem execCarrierValley_kept (g : Fin 6) (trips : BitVec 8) {s : State} (h : s.Kept pq) : KeptOut pq
    (execCarrierValley g trips s) := by
  unfold execCarrierValley
  repeat' first
    | with_reducible intro _
    | (extract_lets -underBinder +onlyGivenNames x
       first | (first | apply kept_seq (pq := pq) x | apply kept_seq1 (pq := pq) x | apply kept_seq2 (pq := pq) x
                on_goal 1 => subst x
                on_goal 2 => (intro hx; try clear_value x)) | try clear_value x)
    | with_reducible first | assumption | apply State.phase_kept | apply State.trigRaise_kept
                                  | apply State.valley_kept | apply State.setGrp_kept | apply State.cutAtZero_kept
                                  | apply kept_ite | apply kept1_ite | apply kept2_ite | apply keptOut_next
                                  | apply keptOut_refused | apply keptOut_ite
    | dsimp only
    | with_reducible first | apply kept_fst | apply kept_snd
    | with_reducible apply kept1_of
    | with_reducible apply kept2_of
    | with_reducible apply kept_mk

theorem execCarrierPeak_kept (g : Fin 6) {s : State} (h : s.Kept pq) : KeptOut pq (execCarrierPeak g s) := by
  unfold execCarrierPeak
  repeat' first
    | with_reducible intro _
    | (extract_lets -underBinder +onlyGivenNames x
       first | (first | apply kept_seq (pq := pq) x | apply kept_seq1 (pq := pq) x | apply kept_seq2 (pq := pq) x
                on_goal 1 => subst x
                on_goal 2 => (intro hx; try clear_value x)) | try clear_value x)
    | with_reducible first | assumption | apply State.trigRaise_kept | apply State.setGrp_kept
                                  | apply State.each_kept | apply State.setF_kept | apply State.setPh_kept
                                  | apply kept_ite | apply kept1_ite | apply kept2_ite | apply keptOut_next
                                  | apply keptOut_refused | apply keptOut_ite
    | dsimp only
    | with_reducible first | apply kept_fst | apply kept_snd
    | with_reducible apply kept1_of
    | with_reducible apply kept2_of
    | with_reducible apply kept_mk

theorem execPeakWidthCopy_kept (d : Fin 6) {s : State} (h : s.Kept pq) : KeptOut pq (execPeakWidthCopy d s) := by
  unfold execPeakWidthCopy
  repeat' first
    | with_reducible intro _
    | (extract_lets -underBinder +onlyGivenNames x
       first | (first | apply kept_seq (pq := pq) x | apply kept_seq1 (pq := pq) x | apply kept_seq2 (pq := pq) x
                on_goal 1 => subst x
                on_goal 2 => (intro hx; try clear_value x)) | try clear_value x)
    | with_reducible first | assumption | apply State.setDrv_kept | apply State.each_kept
                                  | apply State.writeCompare_kept | apply keptOut_next | apply keptOut_refused
                                  | apply keptOut_ite
    | dsimp only
    | split
    | with_reducible first | apply kept_fst | apply kept_snd
    | with_reducible apply kept1_of
    | with_reducible apply kept2_of
    | with_reducible apply kept_mk

theorem State.startCut_kept {s : State} (g : Nat) (pc : Nat) (h : s.Kept pq) : (State.startCut s g pc).Kept pq := by
  unfold State.startCut
  repeat' first
    | with_reducible intro _
    | (extract_lets -underBinder +onlyGivenNames x
       first | (first | apply kept_seq (pq := pq) x | apply kept_seq1 (pq := pq) x | apply kept_seq2 (pq := pq) x
                on_goal 1 => subst x
                on_goal 2 => (intro hx; try clear_value x)) | try clear_value x)
    | with_reducible first | assumption | apply State.setF_kept | apply State.count_kept | apply State.liveAdd_kept
                                  | apply State.zeroCarry_kept | apply State.switchesOff_kept
                                  | apply State.setGrp_kept | apply kept_ite | apply kept1_ite | apply kept2_ite
    | dsimp only
    | with_reducible first | apply kept_fst | apply kept_snd
    | with_reducible apply kept1_of
    | with_reducible apply kept2_of
    | with_reducible apply kept_mk

theorem State.tripCuts_kept {s : State} (n : Nat) (t : Nat) (h : s.Kept pq) : (State.tripCuts s n t).Kept pq := by
  unfold State.tripCuts
  repeat' first
    | with_reducible intro _
    | (extract_lets -underBinder +onlyGivenNames x
       first | (first | apply kept_seq (pq := pq) x | apply kept_seq1 (pq := pq) x | apply kept_seq2 (pq := pq) x
                on_goal 1 => subst x
                on_goal 2 => (intro hx; try clear_value x)) | try clear_value x)
    | with_reducible first | assumption | apply State.trigRaise_kept | apply State.each_kept | apply State.cond_kept
                                  | apply State.startCut_kept | apply State.phase_kept | apply State.cutAtZero_kept
    | dsimp only
    | with_reducible first | apply kept_fst | apply kept_snd
    | with_reducible apply kept1_of
    | with_reducible apply kept2_of

theorem execTripRegistered_kept (n : Fin 8) (t : BitVec 16) {s : State} (h : s.Kept pq) : KeptOut pq
    (execTripRegistered n t s) := by
  unfold execTripRegistered
  repeat' first
    | with_reducible intro _
    | (extract_lets -underBinder +onlyGivenNames x
       first | (first | apply kept_seq (pq := pq) x | apply kept_seq1 (pq := pq) x | apply kept_seq2 (pq := pq) x
                on_goal 1 => subst x
                on_goal 2 => (intro hx; try clear_value x)) | try clear_value x)
    | with_reducible first | assumption | apply State.tripLevels_kept | apply State.ledger_kept
                                  | apply State.cond_kept | apply State.tripCuts_kept | apply kept_ite
                                  | apply kept1_ite | apply kept2_ite | apply keptOut_next | apply keptOut_refused
                                  | apply keptOut_ite
    | dsimp only
    | with_reducible first | apply kept_fst | apply kept_snd
    | with_reducible apply kept1_of
    | with_reducible apply kept2_of

theorem State.phaseEdge_kept {s : State} (g : Nat) (x : Nat) (c : Nat) (padOk : Bool) (h : s.Kept pq) :
    (State.phaseEdge s g x c padOk).Kept pq := by
  unfold State.phaseEdge
  repeat' first
    | with_reducible intro _
    | (extract_lets -underBinder +onlyGivenNames x
       first | (first | apply kept_seq (pq := pq) x | apply kept_seq1 (pq := pq) x | apply kept_seq2 (pq := pq) x
                on_goal 1 => subst x
                on_goal 2 => (intro hx; try clear_value x)) | try clear_value x)
    | with_reducible first | assumption | apply State.setGrp_kept | apply State.cond_kept | apply State.count_kept
                                  | apply State.setF_kept | apply State.failSource_kept | apply kept_ite
                                  | apply kept1_ite | apply kept2_ite
    | dsimp only
    | split
    | with_reducible first | apply kept_fst | apply kept_snd
    | with_reducible apply kept1_of
    | with_reducible apply kept2_of
    | with_reducible apply kept_mk

theorem State.setGpc_kept {s : State} (c : Nat) (f : GpChan → GpChan) (h : s.Kept pq) : (State.setGpc s c f).Kept pq
    := by
  unfold State.setGpc
  repeat' first
    | with_reducible intro _
    | with_reducible first | assumption
    | dsimp only
    | with_reducible apply kept_mk

theorem State.gpShow_kept {s : State} (c : Nat) (h : s.Kept pq) : (State.gpShow s c).Kept pq := by
  unfold State.gpShow
  repeat' first
    | with_reducible intro _
    | (extract_lets -underBinder +onlyGivenNames x
       first | (first | apply kept_seq (pq := pq) x | apply kept_seq1 (pq := pq) x | apply kept_seq2 (pq := pq) x
                on_goal 1 => subst x
                on_goal 2 => (intro hx; try clear_value x)) | try clear_value x)
    | with_reducible first | assumption | apply State.free_kept | apply State.cond_kept | apply State.setGpc_kept
                                  | apply kept_ite | apply kept1_ite | apply kept2_ite
    | dsimp only
    | with_reducible first | apply kept_fst | apply kept_snd
    | with_reducible apply kept1_of
    | with_reducible apply kept2_of
    | with_reducible apply kept_mk

theorem execGpPeriodStart_kept (c : Fin 32) {s : State} (h : s.Kept pq) : KeptOut pq (execGpPeriodStart c s) := by
  unfold execGpPeriodStart
  repeat' first
    | with_reducible intro _
    | (extract_lets -underBinder +onlyGivenNames x
       first | (first | apply kept_seq (pq := pq) x | apply kept_seq1 (pq := pq) x | apply kept_seq2 (pq := pq) x
                on_goal 1 => subst x
                on_goal 2 => (intro hx; try clear_value x)) | try clear_value x)
    | with_reducible first | assumption | apply State.setF_kept | apply State.setGpc_kept | apply kept_ite
                                  | apply kept1_ite | apply kept2_ite | apply keptOut_next | apply keptOut_refused
                                  | apply keptOut_ite
    | dsimp only
    | with_reducible first | apply kept_fst | apply kept_snd
    | with_reducible apply kept1_of
    | with_reducible apply kept2_of
    | with_reducible apply kept_mk

theorem execSwitchEdge_kept (t : SwitchTarget) (clk : BitVec 16) (padOk : Bool) {s : State} (h : s.Kept pq) : KeptOut
    pq (execSwitchEdge t clk padOk s) := by
  unfold execSwitchEdge
  repeat' first
    | with_reducible intro _
    | with_reducible first | assumption | apply State.phase_kept | apply State.phaseEdge_kept
                                  | apply State.setGpc_kept | apply kept_ite | apply kept1_ite | apply kept2_ite
                                  | apply keptOut_next | apply keptOut_refused | apply keptOut_ite
    | dsimp only
    | split
    | with_reducible first | apply kept_fst | apply kept_snd
    | with_reducible apply kept1_of
    | with_reducible apply kept2_of
    | with_reducible apply kept_mk

theorem State.outputsSafe_kept {s : State} (h : s.Kept pq) : (State.outputsSafe s).Kept pq := by
  unfold State.outputsSafe
  repeat' first
    | with_reducible intro _
    | (extract_lets -underBinder +onlyGivenNames x
       first | (first | apply kept_seq (pq := pq) x | apply kept_seq1 (pq := pq) x | apply kept_seq2 (pq := pq) x
                on_goal 1 => subst x
                on_goal 2 => (intro hx; try clear_value x)) | try clear_value x)
    | with_reducible first | assumption | apply State.each_kept | apply State.groupForce_kept
                                  | apply State.cond_kept | apply State.gpShow_kept
    | dsimp only
    | with_reducible first | apply kept_fst | apply kept_snd
    | with_reducible apply kept1_of
    | with_reducible apply kept2_of

theorem State.showSafe_kept {s : State} (h : s.Kept pq) : (State.showSafe s).Kept pq := by
  unfold State.showSafe
  repeat' first
    | with_reducible intro _
    | with_reducible first | assumption | apply State.cond_kept | apply State.setB_kept
    | dsimp only

theorem State.safeAssert_kept {s : State} (src : SafeSource) (h : s.Kept pq) : (State.safeAssert s src).Kept pq := by
  unfold State.safeAssert
  repeat' first
    | with_reducible intro _
    | (extract_lets -underBinder +onlyGivenNames x
       first | (first | apply kept_seq (pq := pq) x | apply kept_seq1 (pq := pq) x | apply kept_seq2 (pq := pq) x
                on_goal 1 => subst x
                on_goal 2 => (intro hx; try clear_value x)) | try clear_value x)
    | with_reducible first | assumption | apply State.showSafe_kept | apply State.outputsSafe_kept
                                  | apply State.ledger_kept | apply kept_ite | apply kept1_ite | apply kept2_ite
    | dsimp only
    | with_reducible first | apply kept_fst | apply kept_snd
    | with_reducible apply kept1_of
    | with_reducible apply kept2_of
    | with_reducible apply kept_mk

theorem State.safeRelease_kept {s : State} (src : SafeSource) (h : s.Kept pq) : (State.safeRelease s src).Kept pq :=
    by
  unfold State.safeRelease
  repeat' first
    | with_reducible intro _
    | (extract_lets -underBinder +onlyGivenNames x
       first | (first | apply kept_seq (pq := pq) x | apply kept_seq1 (pq := pq) x | apply kept_seq2 (pq := pq) x
                on_goal 1 => subst x
                on_goal 2 => (intro hx; try clear_value x)) | try clear_value x)
    | with_reducible first | assumption | apply State.showSafe_kept
    | dsimp only
    | with_reducible first | apply kept_fst | apply kept_snd
    | with_reducible apply kept1_of
    | with_reducible apply kept2_of
    | with_reducible apply kept_mk

theorem State.regroup_kept {s : State} (g : Nat) (h : s.Kept pq) : (State.regroup s g).Kept pq := by
  unfold State.regroup
  repeat' first
    | with_reducible intro _
    | (extract_lets -underBinder +onlyGivenNames x
       first | (first | apply kept_seq (pq := pq) x | apply kept_seq1 (pq := pq) x | apply kept_seq2 (pq := pq) x
                on_goal 1 => subst x
                on_goal 2 => (intro hx; try clear_value x)) | try clear_value x)
    | with_reducible first | assumption | apply State.phase_kept | apply State.setGrp_kept
                                  | apply State.zeroCarry_kept | apply State.each_kept | apply State.setWidth_kept
                                  | apply kept_ite | apply kept1_ite | apply kept2_ite
    | dsimp only
    | with_reducible first | apply kept_fst | apply kept_snd
    | with_reducible apply kept1_of
    | with_reducible apply kept2_of
    | with_reducible apply kept_mk

theorem State.rechannel_kept {s : State} (c : Nat) (h : s.Kept pq) : (State.rechannel s c).Kept pq := by
  unfold State.rechannel
  repeat' first
    | with_reducible intro _
    | (extract_lets -underBinder +onlyGivenNames x
       first | (first | apply kept_seq (pq := pq) x | apply kept_seq1 (pq := pq) x | apply kept_seq2 (pq := pq) x
                on_goal 1 => subst x
                on_goal 2 => (intro hx; try clear_value x)) | try clear_value x)
    | with_reducible first | assumption | apply State.phase_kept | apply State.setGpc_kept | apply State.setF_kept
                                  | apply kept_ite | apply kept1_ite | apply kept2_ite
    | dsimp only
    | with_reducible first | apply kept_fst | apply kept_snd
    | with_reducible apply kept1_of
    | with_reducible apply kept2_of
    | with_reducible apply kept_mk

theorem State.carriersAnew_kept {s : State} (h : s.Kept pq) : (State.carriersAnew s).Kept pq := by
  unfold State.carriersAnew
  repeat' first
    | with_reducible intro _
    | with_reducible first | assumption | apply State.each_kept | apply State.setGrp_kept
    | dsimp only
    | with_reducible apply kept_mk

theorem State.gpSafeTick_kept {s : State} (h : s.Kept pq) : (State.gpSafeTick s).Kept pq := by
  unfold State.gpSafeTick
  repeat' first
    | with_reducible intro _
    | with_reducible first | assumption | apply State.each_kept | apply State.cond_kept | apply State.setGpc_kept
                                  | apply State.phase_kept
    | dsimp only
    | with_reducible apply kept_mk

theorem State.pwmTick_kept {s : State} (h : s.Kept pq) : (State.pwmTick s).Kept pq := by
  unfold State.pwmTick
  repeat' first
    | with_reducible intro _
    | (extract_lets -underBinder +onlyGivenNames x
       first | (first | apply kept_seq (pq := pq) x | apply kept_seq1 (pq := pq) x | apply kept_seq2 (pq := pq) x
                on_goal 1 => subst x
                on_goal 2 => (intro hx; try clear_value x)) | try clear_value x)
    | with_reducible first | assumption | apply State.each_kept | apply State.regroup_kept
                                  | apply State.rechannel_kept | apply State.carriersAnew_kept
                                  | apply State.cutAtZero_kept | apply State.cond_kept | apply State.gpSafeTick_kept
                                  | apply kept_ite | apply kept1_ite | apply kept2_ite
    | dsimp only
    | with_reducible first | apply kept_fst | apply kept_snd
    | with_reducible apply kept1_of
    | with_reducible apply kept2_of
    | with_reducible apply kept_mk

theorem State.showForced_kept {s : State} (h : s.Kept pq) : (State.showForced s).Kept pq := by
  unfold State.showForced
  repeat' first
    | with_reducible intro _
    | with_reducible first | assumption | apply State.each_kept | apply State.setB_kept
    | dsimp only

theorem State.pwmStart_kept {s : State} (h : s.Kept pq) : (State.pwmStart s).Kept pq := by
  unfold State.pwmStart
  repeat' first
    | with_reducible intro _
    | (extract_lets -underBinder +onlyGivenNames x
       first | (first | apply kept_seq (pq := pq) x | apply kept_seq1 (pq := pq) x | apply kept_seq2 (pq := pq) x
                on_goal 1 => subst x
                on_goal 2 => (intro hx; try clear_value x)) | try clear_value x)
    | with_reducible first | assumption | apply State.each_kept | apply State.regroup_kept
                                  | apply State.showForced_kept | apply State.rechannel_kept
                                  | apply State.carriersAnew_kept
    | dsimp only
    | with_reducible first | apply kept_fst | apply kept_snd
    | with_reducible apply kept1_of
    | with_reducible apply kept2_of

theorem State.offWritten_kept {s : State} (g : Nat) (h : s.Kept pq) : (State.offWritten s g).Kept pq := by
  unfold State.offWritten
  repeat' first
    | with_reducible intro _
    | with_reducible first | assumption | apply State.groupForce_kept | apply kept_ite | apply kept1_ite
                                  | apply kept2_ite
    | dsimp only
    | with_reducible first | apply kept_fst | apply kept_snd
    | with_reducible apply kept1_of
    | with_reducible apply kept2_of

theorem State.enWritten_kept {s : State} (g : Nat) (h : s.Kept pq) : (State.enWritten s g).Kept pq := by
  unfold State.enWritten
  repeat' first
    | with_reducible intro _
    | (extract_lets -underBinder +onlyGivenNames x
       first | (first | apply kept_seq (pq := pq) x | apply kept_seq1 (pq := pq) x | apply kept_seq2 (pq := pq) x
                on_goal 1 => subst x
                on_goal 2 => (intro hx; try clear_value x)) | try clear_value x)
    | with_reducible first | assumption | apply State.cond_kept | apply State.zeroCarry_kept
                                  | apply State.groupForce_kept | apply kept_ite | apply kept1_ite | apply kept2_ite
    | dsimp only
    | with_reducible first | apply kept_fst | apply kept_snd
    | with_reducible apply kept1_of
    | with_reducible apply kept2_of

theorem State.gpEnWritten_kept {s : State} (c : Nat) (h : s.Kept pq) : (State.gpEnWritten s c).Kept pq := by
  unfold State.gpEnWritten
  repeat' first
    | with_reducible intro _
    | with_reducible first | assumption | apply State.setGpc_kept | apply State.gpShow_kept | apply kept_ite
                                  | apply kept1_ite | apply kept2_ite
    | dsimp only
    | with_reducible first | apply kept_fst | apply kept_snd
    | with_reducible apply kept1_of
    | with_reducible apply kept2_of
    | with_reducible apply kept_mk

theorem State.gpDutyWritten_kept {s : State} (c : Nat) (h : s.Kept pq) : (State.gpDutyWritten s c).Kept pq := by
  unfold State.gpDutyWritten
  repeat' first
    | with_reducible intro _
    | with_reducible first | assumption | apply State.gpShow_kept | apply kept_ite | apply kept1_ite | apply kept2_ite
    | dsimp only
    | with_reducible first | apply kept_fst | apply kept_snd
    | with_reducible apply kept1_of
    | with_reducible apply kept2_of

theorem State.coastWritten_kept {s : State} (g : Nat) (h : s.Kept pq) : (State.coastWritten s g).Kept pq := by
  unfold State.coastWritten
  repeat' first
    | with_reducible intro _
    | with_reducible first | assumption | apply State.setGrp_kept | apply State.setF_kept | apply kept_ite
                                  | apply kept1_ite | apply kept2_ite
    | dsimp only
    | with_reducible first | apply kept_fst | apply kept_snd
    | with_reducible apply kept1_of
    | with_reducible apply kept2_of
    | with_reducible apply kept_mk

theorem State.angleWritten_kept {s : State} (g : Nat) (h : s.Kept pq) : (State.angleWritten s g).Kept pq := by
  unfold State.angleWritten
  repeat' first
    | with_reducible intro _
    | with_reducible first | assumption | apply State.setGrp_kept
    | dsimp only
    | with_reducible apply kept_mk

end Sys2Proof.Machine
end

