-- ==== Sys2Proof/Laws/KeptDrives.lean ====
section
/-! SUPPORT. What the functions of Drives keep. -/

namespace Sys2Proof.Machine

set_option linter.unusedTactic false
set_option linter.unreachableTactic false
set_option linter.tactic.unusedName false

variable {pq : List Instr}

theorem State.pendCmd_kept {s : State} (slot : Nat) (w : Nat) (h : s.Kept pq) : (State.pendCmd s slot w).Kept pq := by
  unfold State.pendCmd
  repeat' first
    | with_reducible intro _
    | (extract_lets -underBinder +onlyGivenNames x
       first | (first | apply kept_seq (pq := pq) x | apply kept_seq1 (pq := pq) x | apply kept_seq2 (pq := pq) x
                on_goal 1 => subst x
                on_goal 2 => (intro hx; try clear_value x)) | try clear_value x)
    | with_reducible first | assumption | apply State.cond_kept | apply State.setF_kept
    | dsimp only
    | with_reducible first | apply kept_fst | apply kept_snd
    | with_reducible apply kept1_of
    | with_reducible apply kept2_of
    | with_reducible apply kept_mk

theorem State.chainMode_kept {s : State} (slot : Nat) (mode : Nat) (h : s.Kept pq) : (State.chainMode s slot
    mode).Kept pq := by
  unfold State.chainMode
  repeat' first
    | with_reducible intro _
    | with_reducible first | assumption | apply State.pendCmd_kept
    | dsimp only

theorem State.clearLoop_kept {s : State} (i : Nat) (h : s.Kept pq) : (State.clearLoop s i).Kept pq := by
  unfold State.clearLoop
  repeat' first
    | with_reducible intro _
    | (extract_lets -underBinder +onlyGivenNames x
       first | (first | apply kept_seq (pq := pq) x | apply kept_seq1 (pq := pq) x | apply kept_seq2 (pq := pq) x
                on_goal 1 => subst x
                on_goal 2 => (intro hx; try clear_value x)) | try clear_value x)
    | with_reducible first | assumption | apply State.setM_kept | apply State.each_kept | apply State.setSect_kept
                                  | apply State.pendCmd_kept | apply kept_ite | apply kept1_ite | apply kept2_ite
    | dsimp only
    | with_reducible first | apply kept_fst | apply kept_snd
    | with_reducible apply kept1_of
    | with_reducible apply kept2_of

theorem State.clearLoops_kept {s : State} (d : Nat) (h : s.Kept pq) : (State.clearLoops s d).Kept pq := by
  unfold State.clearLoops
  repeat' first
    | with_reducible intro _
    | (extract_lets -underBinder +onlyGivenNames x
       first | (first | apply kept_seq (pq := pq) x | apply kept_seq1 (pq := pq) x | apply kept_seq2 (pq := pq) x
                on_goal 1 => subst x
                on_goal 2 => (intro hx; try clear_value x)) | try clear_value x)
    | with_reducible first | assumption | apply State.clearLoop_kept
    | dsimp only
    | with_reducible first | apply kept_fst | apply kept_snd
    | with_reducible apply kept1_of
    | with_reducible apply kept2_of

theorem State.enter_kept {s : State} (d : Nat) (st : Nat) (h : s.Kept pq) : (State.enter s d st).Kept pq := by
  unfold State.enter
  repeat' first
    | with_reducible intro _
    | (extract_lets -underBinder +onlyGivenNames x
       first | (first | apply kept_seq (pq := pq) x | apply kept_seq1 (pq := pq) x | apply kept_seq2 (pq := pq) x
                on_goal 1 => subst x
                on_goal 2 => (intro hx; try clear_value x)) | try clear_value x)
    | with_reducible first | assumption | apply State.setDr_kept | apply State.setDrv_kept | apply State.setF_kept
                                  | apply State.setB_kept
    | dsimp only
    | with_reducible first | apply kept_fst | apply kept_snd
    | with_reducible apply kept1_of
    | with_reducible apply kept2_of
    | with_reducible apply kept_mk

theorem State.driveFault_kept {s : State} (d : Nat) (bits : Nat) (h : s.Kept pq) : (State.driveFault s d bits).Kept pq
    := by
  unfold State.driveFault
  repeat' first
    | with_reducible intro _
    | (extract_lets -underBinder +onlyGivenNames x
       first | (first | apply kept_seq (pq := pq) x | apply kept_seq1 (pq := pq) x | apply kept_seq2 (pq := pq) x
                on_goal 1 => subst x
                on_goal 2 => (intro hx; try clear_value x)) | try clear_value x)
    | with_reducible first | assumption | apply State.groupOff_kept | apply State.orF_kept | apply State.setF_kept
                                  | apply State.count_kept | apply State.liveAdd_kept | apply State.log_kept
                                  | apply State.enter_kept | apply State.setDr_kept | apply State.clearLoops_kept
                                  | apply State.cond_kept | apply State.failSource_kept
    | dsimp only
    | with_reducible first | apply kept_fst | apply kept_snd
    | with_reducible apply kept1_of
    | with_reducible apply kept2_of

theorem State.overrunFault_kept {s : State} (d : Nat) (h : s.Kept pq) : (State.overrunFault s d).Kept pq := by
  unfold State.overrunFault
  repeat' first
    | with_reducible intro _
    | with_reducible first | assumption | apply State.driveFault_kept | apply kept_ite | apply kept1_ite
                                  | apply kept2_ite
    | dsimp only
    | with_reducible first | apply kept_fst | apply kept_snd
    | with_reducible apply kept1_of
    | with_reducible apply kept2_of

theorem State.driveHalt_kept {s : State} (d : Nat) (h : s.Kept pq) : (State.driveHalt s d).Kept pq := by
  unfold State.driveHalt
  repeat' first
    | with_reducible intro _
    | with_reducible first | assumption | apply State.groupOff_kept | apply State.enter_kept
                                  | apply State.setDr_kept | apply State.clearLoops_kept
    | dsimp only

theorem State.driveCmdWrite_kept {s : State} (d : Nat) (w : Nat) (h : s.Kept pq) : (State.driveCmdWrite s d w).1.Kept
    pq := by
  show Kept1 pq _
  unfold State.driveCmdWrite
  repeat' first
    | with_reducible intro _
    | with_reducible first | assumption | apply State.setDrv_kept | apply kept_ite | apply kept1_ite | apply kept2_ite
    | dsimp only
    | with_reducible first | apply kept_fst | apply kept_snd
    | with_reducible apply kept1_of
    | with_reducible apply kept2_of
    | with_reducible apply kept_mk

theorem State.driveTake_kept {s : State} (d : Nat) (ntc : Bool) (level : Bool) (h : s.Kept pq) : (State.driveTake s d
    ntc level).Kept pq := by
  unfold State.driveTake
  repeat' first
    | with_reducible intro _
    | (extract_lets -underBinder +onlyGivenNames x
       first | (first | apply kept_seq (pq := pq) x | apply kept_seq1 (pq := pq) x | apply kept_seq2 (pq := pq) x
                on_goal 1 => subst x
                on_goal 2 => (intro hx; try clear_value x)) | try clear_value x)
    | with_reducible first | assumption | apply State.setDrv_kept | apply State.reject_kept | apply State.cond_kept
                                  | apply State.inc_kept | apply State.setF_kept | apply State.enter_kept
                                  | apply State.count_kept | apply State.liveAdd_kept | apply State.back_kept
                                  | apply State.driveHalt_kept | apply kept_ite | apply kept1_ite | apply kept2_ite
    | dsimp only
    | split
    | with_reducible first | apply kept_fst | apply kept_snd
    | with_reducible apply kept1_of
    | with_reducible apply kept2_of
    | with_reducible apply kept_mk

theorem State.polarityDone_kept {s : State} (d : Nat) (h : s.Kept pq) : (State.polarityDone s d).Kept pq := by
  unfold State.polarityDone
  repeat' first
    | with_reducible intro _
    | (extract_lets -underBinder +onlyGivenNames x
       first | (first | apply kept_seq (pq := pq) x | apply kept_seq1 (pq := pq) x | apply kept_seq2 (pq := pq) x
                on_goal 1 => subst x
                on_goal 2 => (intro hx; try clear_value x)) | try clear_value x)
    | with_reducible first | assumption | apply State.setDr_kept | apply State.setB_kept | apply State.enter_kept
                                  | apply State.chainMode_kept | apply kept_ite | apply kept1_ite | apply kept2_ite
    | dsimp only
    | with_reducible first | apply kept_fst | apply kept_snd
    | with_reducible apply kept1_of
    | with_reducible apply kept2_of

theorem State.driveAdvance_kept {s : State} (d : Nat) (h : s.Kept pq) : (State.driveAdvance s d).Kept pq := by
  unfold State.driveAdvance
  repeat' first
    | with_reducible intro _
    | (extract_lets -underBinder +onlyGivenNames x
       first | (first | apply kept_seq (pq := pq) x | apply kept_seq1 (pq := pq) x | apply kept_seq2 (pq := pq) x
                on_goal 1 => subst x
                on_goal 2 => (intro hx; try clear_value x)) | try clear_value x)
    | with_reducible first | assumption | apply State.driveHalt_kept | apply State.setF_kept
                                  | apply State.enter_kept | apply State.setDr_kept | apply State.setDrI_kept
                                  | apply State.back_kept | apply State.chainMode_kept
                                  | apply State.polarityDone_kept | apply kept_ite | apply kept1_ite
                                  | apply kept2_ite
    | dsimp only
    | with_reducible first | apply kept_fst | apply kept_snd
    | with_reducible apply kept1_of
    | with_reducible apply kept2_of

theorem State.driveResume_kept {s : State} (d : Nat) (vdc : Int) (h : s.Kept pq) : (State.driveResume s d vdc).Kept pq
    := by
  unfold State.driveResume
  repeat' first
    | with_reducible intro _
    | (extract_lets -underBinder +onlyGivenNames x
       first | (first | apply kept_seq (pq := pq) x | apply kept_seq1 (pq := pq) x | apply kept_seq2 (pq := pq) x
                on_goal 1 => subst x
                on_goal 2 => (intro hx; try clear_value x)) | try clear_value x)
    | with_reducible first | assumption | apply State.enter_kept | apply State.setDrI_kept
                                  | apply State.chainMode_kept | apply State.setDrv_kept | apply kept_ite
                                  | apply kept1_ite | apply kept2_ite
    | dsimp only
    | with_reducible first | apply kept_fst | apply kept_snd
    | with_reducible apply kept1_of
    | with_reducible apply kept2_of
    | with_reducible apply kept_mk

theorem State.derate_kept {s : State} (d : Nat) (v : Int) (h : s.Kept pq) : (State.derate s d v).2.Kept pq := by
  show Kept2 pq _
  unfold State.derate
  repeat' first
    | with_reducible intro _
    | (extract_lets -underBinder +onlyGivenNames x
       first | (first | apply kept_seq (pq := pq) x | apply kept_seq1 (pq := pq) x | apply kept_seq2 (pq := pq) x
                on_goal 1 => subst x
                on_goal 2 => (intro hx; try clear_value x)) | try clear_value x)
    | with_reducible first | assumption | apply State.free_kept | apply kept_ite | apply kept1_ite | apply kept2_ite
    | dsimp only
    | with_reducible first | apply kept_fst | apply kept_snd
    | with_reducible apply kept1_of
    | with_reducible apply kept2_of

theorem State.putLoop_kept {s : State} (i : Nat) (x : Int) (h : s.Kept pq) : (State.putLoop s i x).Kept pq := by
  unfold State.putLoop
  repeat' first
    | with_reducible intro _
    | with_reducible first | assumption | apply State.setMI_kept
    | dsimp only

theorem State.front_kept {s : State} (d : Nat) (h : s.Kept pq) : (State.front s d).Kept pq := by
  unfold State.front
  repeat' first
    | with_reducible intro _
    | (extract_lets -underBinder +onlyGivenNames x
       first | (first | apply kept_seq (pq := pq) x | apply kept_seq1 (pq := pq) x | apply kept_seq2 (pq := pq) x
                on_goal 1 => subst x
                on_goal 2 => (intro hx; try clear_value x)) | try clear_value x)
    | with_reducible first | assumption | apply State.derate_kept | apply State.setDrv_kept
                                  | apply State.driveTake_kept | apply State.driveAdvance_kept
                                  | apply State.driveResume_kept | apply State.setDrI_kept | apply State.setDr_kept
                                  | apply State.back_kept | apply State.setI_kept | apply State.setF_kept
                                  | apply State.setB_kept | apply State.putLoop_kept | apply State.enter_kept
                                  | apply State.chainMode_kept | apply State.driveFault_kept | apply kept_ite
                                  | apply kept1_ite | apply kept2_ite
    | dsimp only
    | with_reducible first | apply kept_fst | apply kept_snd
    | with_reducible apply kept1_of
    | with_reducible apply kept2_of
    | with_reducible apply kept_mk

theorem State.back_kept {s : State} (d : Nat) (h : s.Kept pq) : (State.back s d).Kept pq := by
  unfold State.back
  repeat' first
    | with_reducible intro _
    | (extract_lets -underBinder +onlyGivenNames x
       first | (first | apply kept_seq (pq := pq) x | apply kept_seq1 (pq := pq) x | apply kept_seq2 (pq := pq) x
                on_goal 1 => subst x
                on_goal 2 => (intro hx; try clear_value x)) | try clear_value x)
    | with_reducible first | assumption | apply State.cond_kept | apply State.setF_kept | apply State.setDrI_kept
                                  | apply State.setDr_kept | apply State.count_kept | apply State.setB_kept
                                  | apply State.setDrv_kept | apply State.coastWritten_kept | apply kept_ite
                                  | apply kept1_ite | apply kept2_ite
    | dsimp only
    | with_reducible first | apply kept_fst | apply kept_snd
    | with_reducible apply kept1_of
    | with_reducible apply kept2_of
    | with_reducible apply kept_mk

end Sys2Proof.Machine
end

