-- ==== Sys2Proof/Laws/KeptSeq.lean ====
section
/-! SUPPORT. What the functions of Seq keep. -/

namespace Sys2Proof.Machine

set_option linter.unusedTactic false
set_option linter.unreachableTactic false
set_option linter.tactic.unusedName false

variable {pq : List Instr}

theorem State.setSeq_kept {s : State} (n : Nat) (f : InjSeq → InjSeq) (h : s.Kept pq) : (State.setSeq s n f).Kept pq
    := by
  unfold State.setSeq
  repeat' first
    | with_reducible intro _
    | with_reducible first | assumption
    | dsimp only
    | with_reducible apply kept_mk

theorem State.seqsUpTo_kept {s : State} (x : Int) (h : s.Kept pq) : (State.seqsUpTo s x).Kept pq := by
  unfold State.seqsUpTo
  repeat' first
    | with_reducible intro _
    | with_reducible first | assumption | apply State.each_kept | apply State.setSeq_kept | apply State.clrBit_kept
                                  | apply kept_ite | apply kept1_ite | apply kept2_ite
    | dsimp only
    | with_reducible first | apply kept_fst | apply kept_snd
    | with_reducible apply kept1_of
    | with_reducible apply kept2_of
    | with_reducible apply kept_mk

theorem State.trigDue_kept {s : State} (n : Nat) (t : Nat) (h : s.Kept pq) : (State.trigDue s n t).Kept pq := by
  unfold State.trigDue
  repeat' first
    | with_reducible intro _
    | (extract_lets -underBinder +onlyGivenNames x
       first | (first | apply kept_seq (pq := pq) x | apply kept_seq1 (pq := pq) x | apply kept_seq2 (pq := pq) x
                on_goal 1 => subst x
                on_goal 2 => (intro hx; try clear_value x)) | try clear_value x)
    | with_reducible first | assumption | apply State.seqsUpTo_kept | apply State.setBit_kept | apply State.inc_kept
                                  | apply State.ledger_kept | apply State.setSeq_kept | apply kept_ite
                                  | apply kept1_ite | apply kept2_ite
    | dsimp only
    | with_reducible first | apply kept_fst | apply kept_snd
    | with_reducible apply kept1_of
    | with_reducible apply kept2_of
    | with_reducible apply kept_mk

theorem execInjectedTriggerDue_kept (n : Fin 8) (t : BitVec 16) {s : State} (h : s.Kept pq) : KeptOut pq
    (execInjectedTriggerDue n t s) := by
  unfold execInjectedTriggerDue
  repeat' first
    | with_reducible intro _
    | with_reducible first | assumption | apply State.setSeq_kept | apply State.trigDue_kept | apply keptOut_next
                                  | apply keptOut_refused | apply keptOut_ite
    | dsimp only
    | split
    | with_reducible apply kept_mk

theorem State.istrigWrite_kept {s : State} (w : Nat) (t : Option Nat) (h : s.Kept pq) : (State.istrigWrite s w t).Kept
    pq := by
  unfold State.istrigWrite
  repeat' first
    | with_reducible intro _
    | with_reducible first | assumption | apply State.each_kept | apply State.trigDue_kept
                                  | apply State.trigRaise_kept | apply kept_ite | apply kept1_ite | apply kept2_ite
    | dsimp only
    | split
    | with_reducible first | apply kept_fst | apply kept_snd
    | with_reducible apply kept1_of
    | with_reducible apply kept2_of

theorem State.seqStart_kept {s : State} (n : Nat) (j : Nat) (late : Bool) (h : s.Kept pq) : (State.seqStart s n j
    late).Kept pq := by
  unfold State.seqStart
  repeat' first
    | with_reducible intro _
    | (extract_lets -underBinder +onlyGivenNames x
       first | (first | apply kept_seq (pq := pq) x | apply kept_seq1 (pq := pq) x | apply kept_seq2 (pq := pq) x
                on_goal 1 => subst x
                on_goal 2 => (intro hx; try clear_value x)) | try clear_value x)
    | with_reducible first | assumption | apply State.setSeq_kept | apply State.cond_kept | apply State.clrBit_kept
                                  | apply foldl_kept | apply kept_ite | apply kept1_ite | apply kept2_ite
    | dsimp only
    | with_reducible first | apply kept_fst | apply kept_snd
    | with_reducible apply kept1_of
    | with_reducible apply kept2_of
    | with_reducible apply kept_mk

theorem execInjectedSequenceStart_kept (n : Fin 8) (j : BitVec 16) {s : State} (h : s.Kept pq) : KeptOut pq
    (execInjectedSequenceStart n j s) := by
  unfold execInjectedSequenceStart
  repeat' first
    | with_reducible intro _
    | (extract_lets -underBinder +onlyGivenNames x
       first | (first | apply kept_seq (pq := pq) x | apply kept_seq1 (pq := pq) x | apply kept_seq2 (pq := pq) x
                on_goal 1 => subst x
                on_goal 2 => (intro hx; try clear_value x)) | try clear_value x)
    | with_reducible first | assumption | apply State.seqsUpTo_kept | apply State.seqStart_kept
                                  | apply State.cond_kept | apply State.setBit_kept | apply State.inc_kept
                                  | apply State.ledger_kept | apply kept_ite | apply kept1_ite | apply kept2_ite
                                  | apply keptOut_next | apply keptOut_refused | apply keptOut_ite
    | dsimp only
    | with_reducible first | apply kept_fst | apply kept_snd
    | with_reducible apply kept1_of
    | with_reducible apply kept2_of

theorem State.regDue_kept {s : State} (e : Option Nat) (h : s.Kept pq) : (State.regDue s e).Kept pq := by
  unfold State.regDue
  repeat' first
    | with_reducible intro _
    | with_reducible first | assumption | apply State.setF_kept | apply State.count_kept | apply kept_ite
                                  | apply kept1_ite | apply kept2_ite
    | dsimp only
    | with_reducible first | apply kept_fst | apply kept_snd
    | with_reducible apply kept1_of
    | with_reducible apply kept2_of
    | with_reducible apply kept_mk

theorem State.enTaken_kept {s : State} (h : s.Kept pq) : (State.enTaken s).Kept pq := by
  unfold State.enTaken
  repeat' first
    | with_reducible intro _
    | with_reducible first | assumption
    | dsimp only
    | with_reducible apply kept_mk

theorem State.enChanged_kept {s : State} (old : Bool) (h : s.Kept pq) : (State.enChanged s old).Kept pq := by
  unfold State.enChanged
  repeat' first
    | with_reducible intro _
    | (extract_lets -underBinder +onlyGivenNames x
       first | (first | apply kept_seq (pq := pq) x | apply kept_seq1 (pq := pq) x | apply kept_seq2 (pq := pq) x
                on_goal 1 => subst x
                on_goal 2 => (intro hx; try clear_value x)) | try clear_value x)
    | with_reducible first | assumption
    | dsimp only
    | with_reducible first | apply kept_fst | apply kept_snd
    | with_reducible apply kept1_of
    | with_reducible apply kept2_of
    | with_reducible apply kept_mk

theorem execRegularTriggerDue_kept {s : State} (h : s.Kept pq) : KeptOut pq (execRegularTriggerDue s) := by
  unfold execRegularTriggerDue
  repeat' first
    | with_reducible intro _
    | with_reducible first | assumption | apply State.enTaken_kept | apply State.regDue_kept | apply kept_ite
                                  | apply kept1_ite | apply kept2_ite | apply keptOut_next | apply keptOut_refused
                                  | apply keptOut_ite
    | dsimp only
    | split
    | with_reducible first | apply kept_fst | apply kept_snd
    | with_reducible apply kept1_of
    | with_reducible apply kept2_of

theorem State.regStartWrite_kept {s : State} (w : Nat) (h : s.Kept pq) : (State.regStartWrite s w).Kept pq := by
  unfold State.regStartWrite
  repeat' first
    | with_reducible intro _
    | with_reducible first | assumption | apply State.regDue_kept | apply kept_ite | apply kept1_ite | apply kept2_ite
    | dsimp only
    | with_reducible first | apply kept_fst | apply kept_snd
    | with_reducible apply kept1_of
    | with_reducible apply kept2_of

theorem execRegularPassStart_kept {s : State} (j : BitVec 16 := 0) (h : s.Kept pq) : KeptOut pq (execRegularPassStart
    s j) := by
  unfold execRegularPassStart
  repeat' first
    | with_reducible intro _
    | (extract_lets -underBinder +onlyGivenNames x
       first | (first | apply kept_seq (pq := pq) x | apply kept_seq1 (pq := pq) x | apply kept_seq2 (pq := pq) x
                on_goal 1 => subst x
                on_goal 2 => (intro hx; try clear_value x)) | try clear_value x)
    | with_reducible first | assumption | apply State.seqsUpTo_kept | apply State.regDue_kept | apply foldl_kept
                                  | apply kept_ite | apply kept1_ite | apply kept2_ite | apply keptOut_next
                                  | apply keptOut_refused | apply keptOut_ite
    | dsimp only
    | with_reducible first | apply kept_fst | apply kept_snd
    | with_reducible apply kept1_of
    | with_reducible apply kept2_of
    | with_reducible apply kept_mk

theorem execRegularPassEnd_kept {s : State} (h : s.Kept pq) : KeptOut pq (execRegularPassEnd s) := by
  unfold execRegularPassEnd
  repeat' first
    | with_reducible intro _
    | with_reducible first | assumption | apply State.setF_kept | apply kept_ite | apply kept1_ite | apply kept2_ite
                                  | apply keptOut_next | apply keptOut_refused | apply keptOut_ite
    | dsimp only
    | with_reducible first | apply kept_fst | apply kept_snd
    | with_reducible apply kept1_of
    | with_reducible apply kept2_of
    | with_reducible apply kept_mk

theorem State.convCode_kept {s : State} (i : Nat) (c : ConvOutcome) (h : s.Kept pq) : (State.convCode s i c).1.Kept pq
    := by
  show Kept1 pq _
  unfold State.convCode
  repeat' first
    | with_reducible intro _
    | (extract_lets -underBinder +onlyGivenNames x
       first | (first | apply kept_seq (pq := pq) x | apply kept_seq1 (pq := pq) x | apply kept_seq2 (pq := pq) x
                on_goal 1 => subst x
                on_goal 2 => (intro hx; try clear_value x)) | try clear_value x)
    | with_reducible first | assumption | apply State.free_kept | apply kept_ite | apply kept1_ite | apply kept2_ite
    | dsimp only
    | with_reducible first | apply kept_fst | apply kept_snd
    | with_reducible apply kept1_of
    | with_reducible apply kept2_of

theorem State.ringWrite_kept {s : State} (i : Nat) (injected : Bool) (raw : Nat) (v : Int) (h : s.Kept pq) :
    (State.ringWrite s i injected raw v).Kept pq := by
  unfold State.ringWrite
  repeat' first
    | with_reducible intro _
    | (extract_lets -underBinder +onlyGivenNames x
       first | (first | apply kept_seq (pq := pq) x | apply kept_seq1 (pq := pq) x | apply kept_seq2 (pq := pq) x
                on_goal 1 => subst x
                on_goal 2 => (intro hx; try clear_value x)) | try clear_value x)
    | with_reducible first | assumption | apply State.each_kept | apply State.setM_kept | apply State.setMI_kept
                                  | apply State.setF_kept | apply State.cond_kept | apply State.inc_kept
                                  | apply kept_ite | apply kept1_ite | apply kept2_ite
    | dsimp only
    | with_reducible first | apply kept_fst | apply kept_snd
    | with_reducible apply kept1_of
    | with_reducible apply kept2_of
    | with_reducible apply kept_mk

theorem State.latchJudge_kept {s : State} (d : Nat) (h : s.Kept pq) : (State.latchJudge s d).Kept pq := by
  unfold State.latchJudge
  repeat' first
    | with_reducible intro _
    | with_reducible first | assumption | apply kept_ite | apply kept1_ite | apply kept2_ite
    | dsimp only
    | with_reducible first | apply kept_fst | apply kept_snd
    | with_reducible apply kept1_of
    | with_reducible apply kept2_of
    | with_reducible apply kept_mk

theorem State.halfOpen_kept {s : State} (cv : Conv) (h : s.Kept pq) : (State.halfOpen s cv).Kept pq := by
  unfold State.halfOpen
  repeat' first
    | with_reducible intro _
    | (extract_lets -underBinder +onlyGivenNames x
       first | (first | apply kept_seq (pq := pq) x | apply kept_seq1 (pq := pq) x | apply kept_seq2 (pq := pq) x
                on_goal 1 => subst x
                on_goal 2 => (intro hx; try clear_value x)) | try clear_value x)
    | with_reducible first | assumption | apply State.wr_kept | apply State.setF_kept | apply State.inc_kept
                                  | apply State.cond_kept | apply kept_ite | apply kept1_ite | apply kept2_ite
    | dsimp only
    | with_reducible first | apply kept_fst | apply kept_snd
    | with_reducible apply kept1_of
    | with_reducible apply kept2_of

theorem State.occEnd_kept {s : State} (cv : Conv) (h : s.Kept pq) : (State.occEnd s cv).Kept pq := by
  unfold State.occEnd
  repeat' first
    | with_reducible intro _
    | (extract_lets -underBinder +onlyGivenNames x
       first | (first | apply kept_seq (pq := pq) x | apply kept_seq1 (pq := pq) x | apply kept_seq2 (pq := pq) x
                on_goal 1 => subst x
                on_goal 2 => (intro hx; try clear_value x)) | try clear_value x)
    | with_reducible first | assumption | apply State.setF_kept | apply State.setSeq_kept
                                  | apply State.latchJudge_kept | apply kept_ite | apply kept1_ite | apply kept2_ite
    | dsimp only
    | with_reducible first | apply kept_fst | apply kept_snd
    | with_reducible apply kept1_of
    | with_reducible apply kept2_of
    | with_reducible apply kept_mk

theorem State.latchWrite_kept {s : State} (cv : Conv) (raw : Nat) (v : Int) (sat : Bool) (h : s.Kept pq) :
    (State.latchWrite s cv raw v sat).Kept pq := by
  unfold State.latchWrite
  repeat' first
    | with_reducible intro _
    | (extract_lets -underBinder +onlyGivenNames x
       first | (first | apply kept_seq (pq := pq) x | apply kept_seq1 (pq := pq) x | apply kept_seq2 (pq := pq) x
                on_goal 1 => subst x
                on_goal 2 => (intro hx; try clear_value x)) | try clear_value x)
    | with_reducible first | assumption | apply State.cond_kept | apply State.halfOpen_kept | apply State.setF_kept
                                  | apply State.setM_kept | apply State.setMI_kept | apply State.occEnd_kept
    | dsimp only
    | with_reducible first | apply kept_fst | apply kept_snd
    | with_reducible apply kept1_of
    | with_reducible apply kept2_of

theorem State.shareCount_kept {s : State} (cv : Conv) (h : s.Kept pq) : (State.shareCount s cv).Kept pq := by
  unfold State.shareCount
  repeat' first
    | with_reducible intro _
    | (extract_lets -underBinder +onlyGivenNames x
       first | (first | apply kept_seq (pq := pq) x | apply kept_seq1 (pq := pq) x | apply kept_seq2 (pq := pq) x
                on_goal 1 => subst x
                on_goal 2 => (intro hx; try clear_value x)) | try clear_value x)
    | with_reducible first | assumption | apply State.cond_kept | apply State.count_kept | apply kept_ite
                                  | apply kept1_ite | apply kept2_ite
    | dsimp only
    | with_reducible first | apply kept_fst | apply kept_snd
    | with_reducible apply kept1_of
    | with_reducible apply kept2_of
    | with_reducible apply kept_mk

theorem State.fileResult_kept {s : State} (core : Nat) (cv : Conv) (c : ConvOutcome) (h : s.Kept pq) :
    (State.fileResult s core cv c).Kept pq := by
  unfold State.fileResult
  repeat' first
    | with_reducible intro _
    | (extract_lets -underBinder +onlyGivenNames x
       first | (first | apply kept_seq (pq := pq) x | apply kept_seq1 (pq := pq) x | apply kept_seq2 (pq := pq) x
                on_goal 1 => subst x
                on_goal 2 => (intro hx; try clear_value x)) | try clear_value x)
    | with_reducible first | assumption | apply State.convCode_kept | apply State.shareCount_kept
                                  | apply State.cond_kept | apply State.count_kept | apply State.setM_kept
                                  | apply State.setMI_kept | apply State.latchWrite_kept
                                  | apply State.ringWrite_kept | apply kept_ite | apply kept1_ite | apply kept2_ite
    | dsimp only
    | with_reducible first | apply kept_fst | apply kept_snd
    | with_reducible apply kept1_of
    | with_reducible apply kept2_of
    | with_reducible apply kept_mk

theorem execConversionResult_kept (core : Fin 8) (c : ConvOutcome) {s : State} (h : s.Kept pq) : KeptOut pq
    (execConversionResult core c s) := by
  unfold execConversionResult
  repeat' first
    | with_reducible intro _
    | (extract_lets -underBinder +onlyGivenNames x
       first | (first | apply kept_seq (pq := pq) x | apply kept_seq1 (pq := pq) x | apply kept_seq2 (pq := pq) x
                on_goal 1 => subst x
                on_goal 2 => (intro hx; try clear_value x)) | try clear_value x)
    | with_reducible first | assumption | apply State.seqsUpTo_kept | apply State.fileResult_kept
                                  | apply keptOut_next | apply keptOut_refused | apply keptOut_ite
    | dsimp only
    | split
    | with_reducible first | apply kept_fst | apply kept_snd
    | with_reducible apply kept1_of
    | with_reducible apply kept2_of
    | with_reducible apply kept_mk

theorem State.seqTick_kept {s : State} (h : s.Kept pq) : (State.seqTick s).Kept pq := by
  unfold State.seqTick
  repeat' first
    | with_reducible intro _
    | (extract_lets -underBinder +onlyGivenNames x
       first | (first | apply kept_seq (pq := pq) x | apply kept_seq1 (pq := pq) x | apply kept_seq2 (pq := pq) x
                on_goal 1 => subst x
                on_goal 2 => (intro hx; try clear_value x)) | try clear_value x)
    | with_reducible first | assumption | apply State.seqsUpTo_kept | apply State.trigRaise_kept | apply kept_ite
                                  | apply kept1_ite | apply kept2_ite
    | dsimp only
    | split
    | with_reducible first | apply kept_fst | apply kept_snd
    | with_reducible apply kept1_of
    | with_reducible apply kept2_of
    | with_reducible apply kept_mk

theorem State.ringStart_kept {s : State} (r : Nat) (h : s.Kept pq) : (State.ringStart s r).Kept pq := by
  unfold State.ringStart
  repeat' first
    | with_reducible intro _
    | (extract_lets -underBinder +onlyGivenNames x
       first | (first | apply kept_seq (pq := pq) x | apply kept_seq1 (pq := pq) x | apply kept_seq2 (pq := pq) x
                on_goal 1 => subst x
                on_goal 2 => (intro hx; try clear_value x)) | try clear_value x)
    | with_reducible first | assumption | apply State.setF_kept
    | dsimp only
    | with_reducible first | apply kept_fst | apply kept_snd
    | with_reducible apply kept1_of
    | with_reducible apply kept2_of
    | with_reducible apply kept_mk

end Sys2Proof.Machine
end

