-- ==== Sys2Proof/Laws/KeptAdc.lean ====
section
/-! SUPPORT. What the functions of Adc keep. -/

namespace Sys2Proof.Machine

set_option linter.unusedTactic false
set_option linter.unreachableTactic false
set_option linter.tactic.unusedName false

variable {pq : List Instr}

theorem State.powerUpCore_kept {s : State} (k : Nat) (h : s.Kept pq) : (State.powerUpCore s k).Kept pq := by
  unfold State.powerUpCore
  repeat' first
    | with_reducible intro _
    | (extract_lets -underBinder +onlyGivenNames x
       first | (first | apply kept_seq (pq := pq) x | apply kept_seq1 (pq := pq) x | apply kept_seq2 (pq := pq) x
                on_goal 1 => subst x
                on_goal 2 => (intro hx; try clear_value x)) | try clear_value x)
    | with_reducible first | assumption | apply State.setF_kept | apply kept_ite | apply kept1_ite | apply kept2_ite
    | dsimp only
    | with_reducible first | apply kept_fst | apply kept_snd
    | with_reducible apply kept1_of
    | with_reducible apply kept2_of
    | with_reducible apply kept_mk

theorem State.judgeSet_kept {s : State} (k : Nat) (c : CalSet) (h : s.Kept pq) : (State.judgeSet s k c).Kept pq := by
  unfold State.judgeSet
  repeat' first
    | with_reducible intro _
    | (extract_lets -underBinder +onlyGivenNames x
       first | (first | apply kept_seq (pq := pq) x | apply kept_seq1 (pq := pq) x | apply kept_seq2 (pq := pq) x
                on_goal 1 => subst x
                on_goal 2 => (intro hx; try clear_value x)) | try clear_value x)
    | with_reducible first | assumption | apply State.setF_kept | apply State.setBit_kept | apply State.count_kept
                                  | apply State.log_kept | apply kept_ite | apply kept1_ite | apply kept2_ite
    | dsimp only
    | with_reducible first | apply kept_fst | apply kept_snd
    | with_reducible apply kept1_of
    | with_reducible apply kept2_of
    | with_reducible apply kept_mk

theorem State.cycleJudge_kept {s : State} (k : Nat) (c : CalSet) (h : s.Kept pq) : (State.cycleJudge s k c).Kept pq :=
    by
  unfold State.cycleJudge
  repeat' first
    | with_reducible intro _
    | (extract_lets -underBinder +onlyGivenNames x
       first | (first | apply kept_seq (pq := pq) x | apply kept_seq1 (pq := pq) x | apply kept_seq2 (pq := pq) x
                on_goal 1 => subst x
                on_goal 2 => (intro hx; try clear_value x)) | try clear_value x)
    | with_reducible first | assumption | apply State.judgeSet_kept | apply State.cond_kept
                                  | apply State.failSource_kept | apply kept_ite | apply kept1_ite | apply kept2_ite
    | dsimp only
    | with_reducible first | apply kept_fst | apply kept_snd
    | with_reducible apply kept1_of
    | with_reducible apply kept2_of
    | with_reducible apply kept_mk

theorem State.calibrateAll_kept {s : State} (c : CalResults) (mid : Bool) (h : s.Kept pq) : (State.calibrateAll s c
    mid).Kept pq := by
  unfold State.calibrateAll
  repeat' first
    | with_reducible intro _
    | (extract_lets -underBinder +onlyGivenNames x
       first | (first | apply kept_seq (pq := pq) x | apply kept_seq1 (pq := pq) x | apply kept_seq2 (pq := pq) x
                on_goal 1 => subst x
                on_goal 2 => (intro hx; try clear_value x)) | try clear_value x)
    | with_reducible first | assumption | apply State.each_kept | apply State.judgeSet_kept | apply State.setF_kept
                                  | apply State.setI_kept | apply foldl_kept | apply kept_ite | apply kept1_ite
                                  | apply kept2_ite
    | dsimp only
    | with_reducible first | apply kept_fst | apply kept_snd
    | with_reducible apply kept1_of
    | with_reducible apply kept2_of

theorem State.powerUpCores_kept {s : State} (h : s.Kept pq) : (State.powerUpCores s).Kept pq := by
  unfold State.powerUpCores
  repeat' first
    | with_reducible intro _
    | with_reducible first | assumption | apply State.each_kept | apply State.powerUpCore_kept | apply kept_ite
                                  | apply kept1_ite | apply kept2_ite
    | dsimp only
    | with_reducible first | apply kept_fst | apply kept_snd
    | with_reducible apply kept1_of
    | with_reducible apply kept2_of

theorem State.convertersReady_kept {s : State} (h : s.Kept pq) : (State.convertersReady s).Kept pq := by
  unfold State.convertersReady
  repeat' first
    | with_reducible intro _
    | (extract_lets -underBinder +onlyGivenNames x
       first | (first | apply kept_seq (pq := pq) x | apply kept_seq1 (pq := pq) x | apply kept_seq2 (pq := pq) x
                on_goal 1 => subst x
                on_goal 2 => (intro hx; try clear_value x)) | try clear_value x)
    | with_reducible first | assumption | apply State.setF_kept | apply kept_ite | apply kept1_ite | apply kept2_ite
    | dsimp only
    | with_reducible first | apply kept_fst | apply kept_snd
    | with_reducible apply kept1_of
    | with_reducible apply kept2_of
    | with_reducible apply kept_mk

theorem State.convertersDown_kept {s : State} (h : s.Kept pq) : (State.convertersDown s).Kept pq := by
  unfold State.convertersDown
  repeat' first
    | with_reducible intro _
    | (extract_lets -underBinder +onlyGivenNames x
       first | (first | apply kept_seq (pq := pq) x | apply kept_seq1 (pq := pq) x | apply kept_seq2 (pq := pq) x
                on_goal 1 => subst x
                on_goal 2 => (intro hx; try clear_value x)) | try clear_value x)
    | with_reducible first | assumption | apply State.setF_kept | apply State.regDue_kept
    | dsimp only
    | with_reducible first | apply kept_fst | apply kept_snd
    | with_reducible apply kept1_of
    | with_reducible apply kept2_of
    | with_reducible apply kept_mk

theorem State.startCycle_kept {s : State} (h : s.Kept pq) : (State.startCycle s).Kept pq := by
  unfold State.startCycle
  repeat' first
    | with_reducible intro _
    | with_reducible first | assumption | apply State.setF_kept | apply kept_ite | apply kept1_ite | apply kept2_ite
    | dsimp only
    | split
    | with_reducible first | apply kept_fst | apply kept_snd
    | with_reducible apply kept1_of
    | with_reducible apply kept2_of
    | with_reducible apply kept_mk

theorem execCalibrationCycleDue_kept {s : State} (h : s.Kept pq) : KeptOut pq (execCalibrationCycleDue s) := by
  unfold execCalibrationCycleDue
  repeat' first
    | with_reducible intro _
    | with_reducible first | assumption | apply State.startCycle_kept | apply kept_ite | apply kept1_ite
                                  | apply kept2_ite | apply keptOut_next | apply keptOut_refused | apply keptOut_ite
    | dsimp only
    | with_reducible first | apply kept_fst | apply kept_snd
    | with_reducible apply kept1_of
    | with_reducible apply kept2_of
    | with_reducible apply kept_mk

theorem State.endCycle_kept {s : State} (h : s.Kept pq) : (State.endCycle s).Kept pq := by
  unfold State.endCycle
  repeat' first
    | with_reducible intro _
    | with_reducible first | assumption | apply State.setF_kept
    | dsimp only
    | with_reducible apply kept_mk

theorem execCoreCalibrationEnd_kept (trim : BitVec 16 × BitVec 16) (weights : List Word) {s : State} (h : s.Kept pq) :
    KeptOut pq (execCoreCalibrationEnd trim weights s) := by
  unfold execCoreCalibrationEnd
  repeat' first
    | with_reducible intro _
    | (extract_lets -underBinder +onlyGivenNames x
       first | (first | apply kept_seq (pq := pq) x | apply kept_seq1 (pq := pq) x | apply kept_seq2 (pq := pq) x
                on_goal 1 => subst x
                on_goal 2 => (intro hx; try clear_value x)) | try clear_value x)
    | with_reducible first | assumption | apply State.judgeSet_kept | apply State.setF_kept
                                  | apply State.endCycle_kept | apply State.cycleJudge_kept | apply kept_ite
                                  | apply kept1_ite | apply kept2_ite | apply keptOut_next | apply keptOut_refused
                                  | apply keptOut_ite
    | dsimp only
    | split
    | with_reducible first | apply kept_fst | apply kept_snd
    | with_reducible apply kept1_of
    | with_reducible apply kept2_of
    | with_reducible apply kept_mk

theorem State.resample_kept {s : State} (k : Nat) (j : Nat) (byS : Bool) (h : s.Kept pq) : (State.resample s k j
    byS).Kept pq := by
  unfold State.resample
  repeat' first
    | with_reducible intro _
    | with_reducible first | assumption | apply kept_ite | apply kept1_ite | apply kept2_ite
    | dsimp only
    | with_reducible first | apply kept_fst | apply kept_snd
    | with_reducible apply kept1_of
    | with_reducible apply kept2_of
    | with_reducible apply kept_mk

theorem execCalibrationHandoff_kept {s : State} (j : BitVec 16 := 0) (h : s.Kept pq) : KeptOut pq
    (execCalibrationHandoff s j) := by
  unfold execCalibrationHandoff
  repeat' first
    | with_reducible intro _
    | (extract_lets -underBinder +onlyGivenNames x
       first | (first | apply kept_seq (pq := pq) x | apply kept_seq1 (pq := pq) x | apply kept_seq2 (pq := pq) x
                on_goal 1 => subst x
                on_goal 2 => (intro hx; try clear_value x)) | try clear_value x)
    | with_reducible first | assumption | apply State.resample_kept | apply State.setF_kept | apply kept_ite
                                  | apply kept1_ite | apply kept2_ite | apply keptOut_next | apply keptOut_refused
                                  | apply keptOut_ite
    | dsimp only
    | with_reducible first | apply kept_fst | apply kept_snd
    | with_reducible apply kept1_of
    | with_reducible apply kept2_of
    | with_reducible apply kept_mk

theorem execHandoffDeadline_kept {s : State} (h : s.Kept pq) : KeptOut pq (execHandoffDeadline s) := by
  unfold execHandoffDeadline
  repeat' first
    | with_reducible intro _
    | (extract_lets -underBinder +onlyGivenNames x
       first | (first | apply kept_seq (pq := pq) x | apply kept_seq1 (pq := pq) x | apply kept_seq2 (pq := pq) x
                on_goal 1 => subst x
                on_goal 2 => (intro hx; try clear_value x)) | try clear_value x)
    | with_reducible first | assumption | apply State.count_kept | apply State.setF_kept | apply kept_ite
                                  | apply kept1_ite | apply kept2_ite | apply keptOut_next | apply keptOut_refused
                                  | apply keptOut_ite
    | dsimp only
    | with_reducible first | apply kept_fst | apply kept_snd
    | with_reducible apply kept1_of
    | with_reducible apply kept2_of
    | with_reducible apply kept_mk

theorem execCalibrationRetry_kept {s : State} (h : s.Kept pq) : KeptOut pq (execCalibrationRetry s) := by
  unfold execCalibrationRetry
  repeat' first
    | with_reducible intro _
    | with_reducible first | assumption | apply State.startCycle_kept | apply kept_ite | apply kept1_ite
                                  | apply kept2_ite | apply keptOut_next | apply keptOut_refused | apply keptOut_ite
    | dsimp only
    | with_reducible first | apply kept_fst | apply kept_snd
    | with_reducible apply kept1_of
    | with_reducible apply kept2_of

theorem execCalibrationHandback_kept {s : State} (j : BitVec 16 := 0) (h : s.Kept pq) : KeptOut pq
    (execCalibrationHandback s j) := by
  unfold execCalibrationHandback
  repeat' first
    | with_reducible intro _
    | (extract_lets -underBinder +onlyGivenNames x
       first | (first | apply kept_seq (pq := pq) x | apply kept_seq1 (pq := pq) x | apply kept_seq2 (pq := pq) x
                on_goal 1 => subst x
                on_goal 2 => (intro hx; try clear_value x)) | try clear_value x)
    | with_reducible first | assumption | apply State.resample_kept | apply State.endCycle_kept
                                  | apply State.setF_kept | apply kept_ite | apply kept1_ite | apply kept2_ite
                                  | apply keptOut_next | apply keptOut_refused | apply keptOut_ite
    | dsimp only
    | with_reducible first | apply kept_fst | apply kept_snd
    | with_reducible apply kept1_of
    | with_reducible apply kept2_of
    | with_reducible apply kept_mk

theorem execLateHandback_kept {s : State} (h : s.Kept pq) : KeptOut pq (execLateHandback s) := by
  unfold execLateHandback
  repeat' first
    | with_reducible intro _
    | with_reducible first | assumption | apply State.setF_kept | apply State.ledger_kept | apply kept_ite
                                  | apply kept1_ite | apply kept2_ite | apply keptOut_next | apply keptOut_refused
                                  | apply keptOut_ite
    | dsimp only
    | with_reducible first | apply kept_fst | apply kept_snd
    | with_reducible apply kept1_of
    | with_reducible apply kept2_of

theorem State.calWarm_kept {s : State} (h : s.Kept pq) : (State.calWarm s).Kept pq := by
  unfold State.calWarm
  repeat' first
    | with_reducible intro _
    | (extract_lets -underBinder +onlyGivenNames x
       first | (first | apply kept_seq (pq := pq) x | apply kept_seq1 (pq := pq) x | apply kept_seq2 (pq := pq) x
                on_goal 1 => subst x
                on_goal 2 => (intro hx; try clear_value x)) | try clear_value x)
    | with_reducible first | assumption | apply State.cond_kept | apply State.setF_kept | apply kept_ite
                                  | apply kept1_ite | apply kept2_ite
    | dsimp only
    | with_reducible first | apply kept_fst | apply kept_snd
    | with_reducible apply kept1_of
    | with_reducible apply kept2_of
    | with_reducible apply kept_mk

theorem State.calSecond_kept {s : State} (h : s.Kept pq) : (State.calSecond s).Kept pq := by
  unfold State.calSecond
  repeat' first
    | with_reducible intro _
    | (extract_lets -underBinder +onlyGivenNames x
       first | (first | apply kept_seq (pq := pq) x | apply kept_seq1 (pq := pq) x | apply kept_seq2 (pq := pq) x
                on_goal 1 => subst x
                on_goal 2 => (intro hx; try clear_value x)) | try clear_value x)
    | with_reducible first | assumption | apply State.each_kept | apply State.inc_kept | apply State.startCycle_kept
                                  | apply kept_ite | apply kept1_ite | apply kept2_ite
    | dsimp only
    | with_reducible first | apply kept_fst | apply kept_snd
    | with_reducible apply kept1_of
    | with_reducible apply kept2_of
    | with_reducible apply kept_mk

theorem State.permSet_kept {s : State} (h : s.Kept pq) : (State.permSet s).Kept pq := by
  unfold State.permSet
  repeat' first
    | with_reducible intro _
    | (extract_lets -underBinder +onlyGivenNames x
       first | (first | apply kept_seq (pq := pq) x | apply kept_seq1 (pq := pq) x | apply kept_seq2 (pq := pq) x
                on_goal 1 => subst x
                on_goal 2 => (intro hx; try clear_value x)) | try clear_value x)
    | with_reducible first | assumption | apply State.setF_kept | apply kept_ite | apply kept1_ite | apply kept2_ite
    | dsimp only
    | with_reducible first | apply kept_fst | apply kept_snd
    | with_reducible apply kept1_of
    | with_reducible apply kept2_of

theorem State.cycleDrop_kept {s : State} (h : s.Kept pq) : (State.cycleDrop s).Kept pq := by
  unfold State.cycleDrop
  repeat' first
    | with_reducible intro _
    | (extract_lets -underBinder +onlyGivenNames x
       first | (first | apply kept_seq (pq := pq) x | apply kept_seq1 (pq := pq) x | apply kept_seq2 (pq := pq) x
                on_goal 1 => subst x
                on_goal 2 => (intro hx; try clear_value x)) | try clear_value x)
    | with_reducible first | assumption | apply State.cond_kept | apply State.powerUpCore_kept
                                  | apply State.endCycle_kept
    | dsimp only
    | with_reducible first | apply kept_fst | apply kept_snd
    | with_reducible apply kept1_of
    | with_reducible apply kept2_of
    | with_reducible apply kept_mk

theorem State.permClear_kept {s : State} (h : s.Kept pq) : (State.permClear s).Kept pq := by
  unfold State.permClear
  repeat' first
    | with_reducible intro _
    | (extract_lets -underBinder +onlyGivenNames x
       first | (first | apply kept_seq (pq := pq) x | apply kept_seq1 (pq := pq) x | apply kept_seq2 (pq := pq) x
                on_goal 1 => subst x
                on_goal 2 => (intro hx; try clear_value x)) | try clear_value x)
    | with_reducible first | assumption | apply State.powerUpCore_kept | apply State.setF_kept
                                  | apply State.cycleDrop_kept | apply kept_ite | apply kept1_ite | apply kept2_ite
    | dsimp only
    | split
    | with_reducible first | apply kept_fst | apply kept_snd
    | with_reducible apply kept1_of
    | with_reducible apply kept2_of
    | with_reducible apply kept_mk

theorem State.calCtlWrite_kept {s : State} (w : Nat) (h : s.Kept pq) : (State.calCtlWrite s w).1.Kept pq := by
  show Kept1 pq _
  unfold State.calCtlWrite
  repeat' first
    | with_reducible intro _
    | (extract_lets -underBinder +onlyGivenNames x
       first | (first | apply kept_seq (pq := pq) x | apply kept_seq1 (pq := pq) x | apply kept_seq2 (pq := pq) x
                on_goal 1 => subst x
                on_goal 2 => (intro hx; try clear_value x)) | try clear_value x)
    | with_reducible first | assumption | apply State.setB_kept | apply State.setF_kept | apply State.permSet_kept
                                  | apply State.permClear_kept | apply State.startCycle_kept | apply kept_ite
                                  | apply kept1_ite | apply kept2_ite
    | dsimp only
    | with_reducible first | apply kept_fst | apply kept_snd
    | with_reducible apply kept1_of
    | with_reducible apply kept2_of
    | with_reducible apply kept_mk

theorem State.dropConvs_kept {s : State} (h : s.Kept pq) : (State.dropConvs s).Kept pq := by
  unfold State.dropConvs
  repeat' first
    | with_reducible intro _
    | (extract_lets -underBinder +onlyGivenNames x
       first | (first | apply kept_seq (pq := pq) x | apply kept_seq1 (pq := pq) x | apply kept_seq2 (pq := pq) x
                on_goal 1 => subst x
                on_goal 2 => (intro hx; try clear_value x)) | try clear_value x)
    | with_reducible first | assumption
    | dsimp only
    | with_reducible first | apply kept_fst | apply kept_snd
    | with_reducible apply kept1_of
    | with_reducible apply kept2_of
    | with_reducible apply kept_mk

theorem State.coreEnWritten_kept {s : State} (old : Nat) (h : s.Kept pq) : (State.coreEnWritten s old).Kept pq := by
  unfold State.coreEnWritten
  repeat' first
    | with_reducible intro _
    | (extract_lets -underBinder +onlyGivenNames x
       first | (first | apply kept_seq (pq := pq) x | apply kept_seq1 (pq := pq) x | apply kept_seq2 (pq := pq) x
                on_goal 1 => subst x
                on_goal 2 => (intro hx; try clear_value x)) | try clear_value x)
    | with_reducible first | assumption | apply State.each_kept | apply State.powerUpCore_kept
                                  | apply State.dropConvs_kept | apply State.cycleDrop_kept | apply State.setF_kept
                                  | apply kept_ite | apply kept1_ite | apply kept2_ite
    | dsimp only
    | with_reducible first | apply kept_fst | apply kept_snd
    | with_reducible apply kept1_of
    | with_reducible apply kept2_of

end Sys2Proof.Machine
end

