-- ==== Sys2Proof/Laws/KeptInject.lean ====
section
/-! SUPPORT. What the functions of Inject keep. -/

namespace Sys2Proof.Machine

set_option linter.unusedTactic false
set_option linter.unreachableTactic false
set_option linter.tactic.unusedName false

variable {pq : List Instr}

theorem State.injCmdWrite_kept {s : State} (w : Nat) (h : s.Kept pq) : (State.injCmdWrite s w).1.Kept pq := by
  show Kept1 pq _
  unfold State.injCmdWrite
  repeat' first
    | with_reducible intro _
    | (extract_lets -underBinder +onlyGivenNames x
       first | (first | apply kept_seq (pq := pq) x | apply kept_seq1 (pq := pq) x | apply kept_seq2 (pq := pq) x
                on_goal 1 => subst x
                on_goal 2 => (intro hx; try clear_value x)) | try clear_value x)
    | with_reducible first | assumption | apply State.setGenState_kept | apply kept_ite | apply kept1_ite
                                  | apply kept2_ite
    | dsimp only
    | with_reducible first | apply kept_fst | apply kept_snd
    | with_reducible apply kept1_of
    | with_reducible apply kept2_of
    | with_reducible apply kept_mk

theorem State.gensAbort_kept {s : State} (st : Nat) (h : s.Kept pq) : (State.gensAbort s st).Kept pq := by
  unfold State.gensAbort
  repeat' first
    | with_reducible intro _
    | (extract_lets -underBinder +onlyGivenNames x
       first | (first | apply kept_seq (pq := pq) x | apply kept_seq1 (pq := pq) x | apply kept_seq2 (pq := pq) x
                on_goal 1 => subst x
                on_goal 2 => (intro hx; try clear_value x)) | try clear_value x)
    | with_reducible first | assumption | apply State.each_kept | apply State.endGen_kept
                                  | apply State.setGenState_kept | apply kept_ite | apply kept1_ite
                                  | apply kept2_ite
    | dsimp only
    | with_reducible first | apply kept_fst | apply kept_snd
    | with_reducible apply kept1_of
    | with_reducible apply kept2_of

theorem State.setCap_kept {s : State} (f : Capture → Capture) (h : s.Kept pq) : (State.setCap s f).Kept pq := by
  unfold State.setCap
  repeat' first
    | with_reducible intro _
    | with_reducible first | assumption
    | dsimp only
    | with_reducible apply kept_mk

theorem State.capCtlWrite_kept {s : State} (w : Nat) (h : s.Kept pq) : (State.capCtlWrite s w).1.Kept pq := by
  show Kept1 pq _
  unfold State.capCtlWrite
  repeat' first
    | with_reducible intro _
    | (extract_lets -underBinder +onlyGivenNames x
       first | (first | apply kept_seq (pq := pq) x | apply kept_seq1 (pq := pq) x | apply kept_seq2 (pq := pq) x
                on_goal 1 => subst x
                on_goal 2 => (intro hx; try clear_value x)) | try clear_value x)
    | with_reducible first | assumption | apply State.setF_kept | apply State.setCap_kept | apply kept_ite
                                  | apply kept1_ite | apply kept2_ite
    | dsimp only
    | with_reducible first | apply kept_fst | apply kept_snd
    | with_reducible apply kept1_of
    | with_reducible apply kept2_of

theorem State.capEnd_kept {s : State} (warm : Bool) (h : s.Kept pq) : (State.capEnd s warm).Kept pq := by
  unfold State.capEnd
  repeat' first
    | with_reducible intro _
    | with_reducible first | assumption | apply State.setF_kept | apply kept_ite | apply kept1_ite | apply kept2_ite
    | dsimp only
    | with_reducible first | apply kept_fst | apply kept_snd
    | with_reducible apply kept1_of
    | with_reducible apply kept2_of

theorem State.capTick_kept {s : State} (h : s.Kept pq) : (State.capTick s).Kept pq := by
  unfold State.capTick
  repeat' first
    | with_reducible intro _
    | with_reducible first | assumption | apply State.setCap_kept | apply kept_ite | apply kept1_ite | apply kept2_ite
    | dsimp only
    | split
    | with_reducible first | apply kept_fst | apply kept_snd
    | with_reducible apply kept1_of
    | with_reducible apply kept2_of
    | with_reducible apply kept_mk

theorem State.capStore_kept {s : State} (c : Nat) (h : s.Kept pq) : (State.capStore s c).Kept pq := by
  unfold State.capStore
  repeat' first
    | with_reducible intro _
    | (extract_lets -underBinder +onlyGivenNames x
       first | (first | apply kept_seq (pq := pq) x | apply kept_seq1 (pq := pq) x | apply kept_seq2 (pq := pq) x
                on_goal 1 => subst x
                on_goal 2 => (intro hx; try clear_value x)) | try clear_value x)
    | with_reducible first | assumption | apply State.setMB_kept | apply State.cond_kept | apply State.setBit_kept
    | dsimp only
    | with_reducible first | apply kept_fst | apply kept_snd
    | with_reducible apply kept1_of
    | with_reducible apply kept2_of

theorem State.capSample_kept {s : State} (h : s.Kept pq) : (State.capSample s).Kept pq := by
  unfold State.capSample
  repeat' first
    | with_reducible intro _
    | (extract_lets -underBinder +onlyGivenNames x
       first | (first | apply kept_seq (pq := pq) x | apply kept_seq1 (pq := pq) x | apply kept_seq2 (pq := pq) x
                on_goal 1 => subst x
                on_goal 2 => (intro hx; try clear_value x)) | try clear_value x)
    | with_reducible first | assumption | apply State.each_kept | apply State.capStore_kept | apply State.setF_kept
                                  | apply State.setCap_kept | apply State.cond_kept | apply kept_ite
                                  | apply kept1_ite | apply kept2_ite
    | dsimp only
    | with_reducible first | apply kept_fst | apply kept_snd
    | with_reducible apply kept1_of
    | with_reducible apply kept2_of
    | with_reducible apply kept_mk

theorem execCaptureSample_kept {s : State} (h : s.Kept pq) : KeptOut pq (execCaptureSample s) := by
  unfold execCaptureSample
  repeat' first
    | with_reducible intro _
    | with_reducible first | assumption | apply State.capSample_kept | apply kept_ite | apply kept1_ite
                                  | apply kept2_ite | apply keptOut_next | apply keptOut_refused | apply keptOut_ite
    | dsimp only
    | split
    | with_reducible first | apply kept_fst | apply kept_snd
    | with_reducible apply kept1_of
    | with_reducible apply kept2_of

end Sys2Proof.Machine
end

