-- ==== Sys2Proof/Laws/KeptCatalogue.lean ====
section
/-! SUPPORT. What the functions of Catalogue keep. -/

namespace Sys2Proof.Machine

set_option linter.unusedTactic false
set_option linter.unreachableTactic false
set_option linter.tactic.unusedName false

variable {pq : List Instr}

theorem State.ageUp_kept {s : State} (p : Nat) (h : s.Kept pq) : (State.ageUp s p).Kept pq := by
  unfold State.ageUp
  repeat' first
    | with_reducible intro _
    | (extract_lets -underBinder +onlyGivenNames x
       first | (first | apply kept_seq (pq := pq) x | apply kept_seq1 (pq := pq) x | apply kept_seq2 (pq := pq) x
                on_goal 1 => subst x
                on_goal 2 => (intro hx; try clear_value x)) | try clear_value x)
    | with_reducible first | assumption | apply State.setM_kept | apply kept_ite | apply kept1_ite | apply kept2_ite
    | dsimp only
    | with_reducible first | apply kept_fst | apply kept_snd
    | with_reducible apply kept1_of
    | with_reducible apply kept2_of

theorem State.visitTake_kept {s : State} (p : Nat) (h : s.Kept pq) : (State.visitTake s p).Kept pq := by
  unfold State.visitTake
  repeat' first
    | with_reducible intro _
    | with_reducible first | assumption | apply State.ageUp_kept | apply State.ptUpdate_kept | apply kept_elim
    | dsimp only

theorem State.visit_kept {s : State} (p : Nat) (h : s.Kept pq) : (State.visit s p).Kept pq := by
  unfold State.visit
  repeat' first
    | with_reducible intro _
    | (extract_lets -underBinder +onlyGivenNames x
       first | (first | apply kept_seq (pq := pq) x | apply kept_seq1 (pq := pq) x | apply kept_seq2 (pq := pq) x
                on_goal 1 => subst x
                on_goal 2 => (intro hx; try clear_value x)) | try clear_value x)
    | with_reducible first | assumption | apply State.visitTake_kept | apply State.setM_kept | apply kept_ite
                                  | apply kept1_ite | apply kept2_ite
    | dsimp only
    | with_reducible first | apply kept_fst | apply kept_snd
    | with_reducible apply kept1_of
    | with_reducible apply kept2_of

theorem State.catVisit_kept {s : State} (p : Nat) (h : s.Kept pq) : (State.catVisit s p).Kept pq := by
  unfold State.catVisit
  repeat' first
    | with_reducible intro _
    | with_reducible first | assumption | apply State.catWritten_kept | apply State.visit_kept
    | dsimp only

theorem State.catTimed_kept {s : State} (p : Nat) (c : Nat) {f : State → State} (hf : ∀ t, t.Kept pq → (f t).Kept pq)
    (h : s.Kept pq) : (State.catTimed s p c f).Kept pq := by
  unfold State.catTimed
  repeat' first
    | with_reducible intro _
    | (extract_lets -underBinder +onlyGivenNames x
       first | (first | apply kept_seq (pq := pq) x | apply kept_seq1 (pq := pq) x | apply kept_seq2 (pq := pq) x
                on_goal 1 => subst x
                on_goal 2 => (intro hx; try clear_value x)) | try clear_value x)
    | with_reducible first | assumption | apply State.catBefore_kept | apply State.catWritten_kept
                                  | apply State.catVisit_kept | apply hf | apply kept_ite | apply kept1_ite
                                  | apply kept2_ite
    | dsimp only
    | with_reducible first | apply kept_fst | apply kept_snd
    | with_reducible apply kept1_of
    | with_reducible apply kept2_of

theorem State.catClear_kept {s : State} (h : s.Kept pq) : (State.catClear s).Kept pq := by
  unfold State.catClear
  repeat' first
    | with_reducible intro _
    | with_reducible first | assumption
    | dsimp only
    | with_reducible apply kept_mk

theorem State.catVisits_kept {s : State} (h : s.Kept pq) : (State.catVisits s).Kept pq := by
  unfold State.catVisits
  repeat' first
    | with_reducible intro _
    | (extract_lets -underBinder +onlyGivenNames x
       first | (first | apply kept_seq (pq := pq) x | apply kept_seq1 (pq := pq) x | apply kept_seq2 (pq := pq) x
                on_goal 1 => subst x
                on_goal 2 => (intro hx; try clear_value x)) | try clear_value x)
    | with_reducible first | assumption | apply State.each_kept | apply State.catVisit_kept
    | dsimp only
    | with_reducible first | apply kept_fst | apply kept_snd
    | with_reducible apply kept1_of
    | with_reducible apply kept2_of
    | with_reducible apply kept_mk

theorem State.diSample_kept {s : State} (di : Nat) (h : s.Kept pq) : (State.diSample s di).Kept pq := by
  unfold State.diSample
  repeat' first
    | with_reducible intro _
    | (extract_lets -underBinder +onlyGivenNames x
       first | (first | apply kept_seq (pq := pq) x | apply kept_seq1 (pq := pq) x | apply kept_seq2 (pq := pq) x
                on_goal 1 => subst x
                on_goal 2 => (intro hx; try clear_value x)) | try clear_value x)
    | with_reducible first | assumption | apply State.setF_kept | apply foldl_kept | apply kept_ite
                                  | apply kept1_ite | apply kept2_ite
    | dsimp only
    | with_reducible first | apply kept_fst | apply kept_snd
    | with_reducible apply kept1_of
    | with_reducible apply kept2_of
    | with_reducible apply kept_mk

theorem State.forceWrite_kept {s : State} (w : Nat) (h : s.Kept pq) : (State.forceWrite s w).1.Kept pq := by
  show Kept1 pq _
  unfold State.forceWrite
  repeat' first
    | with_reducible intro _
    | (extract_lets -underBinder +onlyGivenNames x
       first | (first | apply kept_seq (pq := pq) x | apply kept_seq1 (pq := pq) x | apply kept_seq2 (pq := pq) x
                on_goal 1 => subst x
                on_goal 2 => (intro hx; try clear_value x)) | try clear_value x)
    | with_reducible first | assumption | apply State.catTouched_kept | apply State.setM_kept | apply kept_ite
                                  | apply kept1_ite | apply kept2_ite
    | dsimp only
    | with_reducible first | apply kept_fst | apply kept_snd
    | with_reducible apply kept1_of
    | with_reducible apply kept2_of

theorem State.valueWrite_kept {s : State} (p : Nat) (w : Nat) (h : s.Kept pq) : (State.valueWrite s p w).1.Kept pq :=
    by
  show Kept1 pq _
  unfold State.valueWrite
  repeat' first
    | with_reducible intro _
    | with_reducible first | assumption | apply State.catTouched_kept | apply State.ptUpdate_kept | apply kept_ite
                                  | apply kept1_ite | apply kept2_ite
    | dsimp only
    | with_reducible first | apply kept_fst | apply kept_snd
    | with_reducible apply kept1_of
    | with_reducible apply kept2_of

end Sys2Proof.Machine
end

