-- ==== Sys2Proof/Laws/KeptAlmanac.lean ====
section
/-! SUPPORT. What the functions of Almanac keep. -/

namespace Sys2Proof.Machine

set_option linter.unusedTactic false
set_option linter.unreachableTactic false
set_option linter.tactic.unusedName false

variable {pq : List Instr}

theorem execAlmanacEvaluationStart_kept {s : State} (h : s.Kept pq) : KeptOut pq (execAlmanacEvaluationStart s) := by
  unfold execAlmanacEvaluationStart
  repeat' first
    | with_reducible intro _
    | with_reducible first | assumption | apply kept_ite | apply kept1_ite | apply kept2_ite | apply keptOut_next
                                  | apply keptOut_refused | apply keptOut_ite
    | dsimp only
    | with_reducible first | apply kept_fst | apply kept_snd
    | with_reducible apply kept1_of
    | with_reducible apply kept2_of
    | with_reducible apply kept_mk

theorem execAlmanacEvaluationEnd_kept {s : State} (h : s.Kept pq) : KeptOut pq (execAlmanacEvaluationEnd s) := by
  unfold execAlmanacEvaluationEnd
  repeat' first
    | with_reducible intro _
    | (extract_lets -underBinder +onlyGivenNames x
       first | (first | apply kept_seq (pq := pq) x | apply kept_seq1 (pq := pq) x | apply kept_seq2 (pq := pq) x
                on_goal 1 => subst x
                on_goal 2 => (intro hx; try clear_value x)) | try clear_value x)
    | with_reducible first | assumption | apply State.setF_kept | apply kept_ite | apply kept1_ite | apply kept2_ite
                                  | apply keptOut_next | apply keptOut_refused | apply keptOut_ite
    | dsimp only
    | with_reducible first | apply kept_fst | apply kept_snd
    | with_reducible apply kept1_of
    | with_reducible apply kept2_of
    | with_reducible apply kept_mk

end Sys2Proof.Machine
end

