-- ==== Sys2Proof/Laws/KeptCan.lean ====
section
/-! SUPPORT. What the functions of Can keep. -/

namespace Sys2Proof.Machine

set_option linter.unusedTactic false
set_option linter.unreachableTactic false
set_option linter.tactic.unusedName false

variable {pq : List Instr}

theorem State.setCc_kept {s : State} (c : Nat) (f : CanCtl → CanCtl) (h : s.Kept pq) : (State.setCc s c f).Kept pq :=
    by
  unfold State.setCc
  repeat' first
    | with_reducible intro _
    | with_reducible first | assumption
    | dsimp only
    | with_reducible apply kept_mk

theorem State.canSetState_kept {s : State} (c : Nat) (st : Nat) (h : s.Kept pq) : (State.canSetState s c st).Kept pq
    := by
  unfold State.canSetState
  repeat' first
    | with_reducible intro _
    | (extract_lets -underBinder +onlyGivenNames x
       first | (first | apply kept_seq (pq := pq) x | apply kept_seq1 (pq := pq) x | apply kept_seq2 (pq := pq) x
                on_goal 1 => subst x
                on_goal 2 => (intro hx; try clear_value x)) | try clear_value x)
    | with_reducible first | assumption | apply State.setF_kept | apply State.setB_kept
    | dsimp only
    | with_reducible first | apply kept_fst | apply kept_snd
    | with_reducible apply kept1_of
    | with_reducible apply kept2_of

theorem State.objEnd_kept {s : State} (c : Nat) (n : Nat) (m : Nat) (h : s.Kept pq) : (State.objEnd s c n m).Kept pq
    := by
  unfold State.objEnd
  repeat' first
    | with_reducible intro _
    | (extract_lets -underBinder +onlyGivenNames x
       first | (first | apply kept_seq (pq := pq) x | apply kept_seq1 (pq := pq) x | apply kept_seq2 (pq := pq) x
                on_goal 1 => subst x
                on_goal 2 => (intro hx; try clear_value x)) | try clear_value x)
    | with_reducible first | assumption | apply State.setCc_kept | apply State.clrBit_kept | apply State.wr_kept
    | dsimp only
    | with_reducible first | apply kept_fst | apply kept_snd
    | with_reducible apply kept1_of
    | with_reducible apply kept2_of
    | with_reducible apply kept_mk

theorem State.objCancel_kept {s : State} (c : Nat) (n : Nat) (h : s.Kept pq) : (State.objCancel s c n).Kept pq := by
  unfold State.objCancel
  repeat' first
    | with_reducible intro _
    | with_reducible first | assumption | apply State.objEnd_kept | apply State.setF_kept
    | dsimp only

theorem State.cancelNow_kept {s : State} (c : Nat) (n : Nat) (h : s.Kept pq) : (State.cancelNow s c n).Kept pq := by
  unfold State.cancelNow
  repeat' first
    | with_reducible intro _
    | with_reducible first | assumption | apply State.setCc_kept | apply State.objCancel_kept | apply kept_ite
                                  | apply kept1_ite | apply kept2_ite
    | dsimp only
    | with_reducible first | apply kept_fst | apply kept_snd
    | with_reducible apply kept1_of
    | with_reducible apply kept2_of
    | with_reducible apply kept_mk

theorem State.objPark_kept {s : State} (c : Nat) (n : Nat) (h : s.Kept pq) : (State.objPark s c n).Kept pq := by
  unfold State.objPark
  repeat' first
    | with_reducible intro _
    | (extract_lets -underBinder +onlyGivenNames x
       first | (first | apply kept_seq (pq := pq) x | apply kept_seq1 (pq := pq) x | apply kept_seq2 (pq := pq) x
                on_goal 1 => subst x
                on_goal 2 => (intro hx; try clear_value x)) | try clear_value x)
    | with_reducible first | assumption | apply State.setCc_kept | apply State.clrBit_kept | apply State.setBit_kept
                                  | apply State.wr_kept | apply State.setF_kept | apply State.ledger_kept
                                  | apply kept_ite | apply kept1_ite | apply kept2_ite
    | dsimp only
    | with_reducible first | apply kept_fst | apply kept_snd
    | with_reducible apply kept1_of
    | with_reducible apply kept2_of
    | with_reducible apply kept_mk

theorem State.uncommit_kept {s : State} (c : Nat) (h : s.Kept pq) : (State.uncommit s c).Kept pq := by
  unfold State.uncommit
  repeat' first
    | with_reducible intro _
    | (extract_lets -underBinder +onlyGivenNames x
       first | (first | apply kept_seq (pq := pq) x | apply kept_seq1 (pq := pq) x | apply kept_seq2 (pq := pq) x
                on_goal 1 => subst x
                on_goal 2 => (intro hx; try clear_value x)) | try clear_value x)
    | with_reducible first | assumption | apply State.setCc_kept | apply State.objCancel_kept
                                  | apply State.objPark_kept | apply kept_ite | apply kept1_ite | apply kept2_ite
    | dsimp only
    | split
    | with_reducible first | apply kept_fst | apply kept_snd
    | with_reducible apply kept1_of
    | with_reducible apply kept2_of
    | with_reducible apply kept_mk

theorem State.cancelReq_kept {s : State} (c : Nat) (n : Nat) (h : s.Kept pq) : (State.cancelReq s c n).Kept pq := by
  unfold State.cancelReq
  repeat' first
    | with_reducible intro _
    | with_reducible first | assumption | apply State.setCc_kept | apply State.cancelNow_kept | apply kept_ite
                                  | apply kept1_ite | apply kept2_ite
    | dsimp only
    | with_reducible first | apply kept_fst | apply kept_snd
    | with_reducible apply kept1_of
    | with_reducible apply kept2_of
    | with_reducible apply kept_mk

theorem State.canOff_kept {s : State} (c : Nat) (h : s.Kept pq) : (State.canOff s c).Kept pq := by
  unfold State.canOff
  repeat' first
    | with_reducible intro _
    | (extract_lets -underBinder +onlyGivenNames x
       first | (first | apply kept_seq (pq := pq) x | apply kept_seq1 (pq := pq) x | apply kept_seq2 (pq := pq) x
                on_goal 1 => subst x
                on_goal 2 => (intro hx; try clear_value x)) | try clear_value x)
    | with_reducible first | assumption | apply State.uncommit_kept | apply State.setCc_kept | apply State.each_kept
                                  | apply State.cancelNow_kept
    | dsimp only
    | with_reducible first | apply kept_fst | apply kept_snd
    | with_reducible apply kept1_of
    | with_reducible apply kept2_of
    | with_reducible apply kept_mk

theorem State.fdOff_kept {s : State} (c : Nat) (h : s.Kept pq) : (State.fdOff s c).Kept pq := by
  unfold State.fdOff
  repeat' first
    | with_reducible intro _
    | (extract_lets -underBinder +onlyGivenNames x
       first | (first | apply kept_seq (pq := pq) x | apply kept_seq1 (pq := pq) x | apply kept_seq2 (pq := pq) x
                on_goal 1 => subst x
                on_goal 2 => (intro hx; try clear_value x)) | try clear_value x)
    | with_reducible first | assumption | apply State.each_kept | apply State.cancelNow_kept | apply State.wr_kept
    | dsimp only
    | with_reducible first | apply kept_fst | apply kept_snd
    | with_reducible apply kept1_of
    | with_reducible apply kept2_of

theorem State.canStop_kept {s : State} (c : Nat) (h : s.Kept pq) : (State.canStop s c).Kept pq := by
  unfold State.canStop
  repeat' first
    | with_reducible intro _
    | with_reducible first | assumption | apply State.canOff_kept | apply State.setCc_kept
                                  | apply State.canSetState_kept | apply kept_ite | apply kept1_ite
                                  | apply kept2_ite
    | dsimp only
    | with_reducible first | apply kept_fst | apply kept_snd
    | with_reducible apply kept1_of
    | with_reducible apply kept2_of
    | with_reducible apply kept_mk

theorem State.canJoin_kept {s : State} (c : Nat) (detect : Bool) (h : s.Kept pq) : (State.canJoin s c detect).Kept pq
    := by
  unfold State.canJoin
  repeat' first
    | with_reducible intro _
    | with_reducible first | assumption | apply State.canSetState_kept | apply State.setCc_kept | apply kept_ite
                                  | apply kept1_ite | apply kept2_ite
    | dsimp only
    | with_reducible first | apply kept_fst | apply kept_snd
    | with_reducible apply kept1_of
    | with_reducible apply kept2_of
    | with_reducible apply kept_mk

theorem State.canStart_kept {s : State} (c : Nat) (h : s.Kept pq) : (State.canStart s c).Kept pq := by
  unfold State.canStart
  repeat' first
    | with_reducible intro _
    | with_reducible first | assumption | apply State.setCc_kept | apply State.canJoin_kept | apply kept_ite
                                  | apply kept1_ite | apply kept2_ite
    | dsimp only
    | with_reducible first | apply kept_fst | apply kept_snd
    | with_reducible apply kept1_of
    | with_reducible apply kept2_of
    | with_reducible apply kept_mk

theorem State.canCtlWritten_kept {s : State} (c : Nat) (busy : Bool) (h : s.Kept pq) : (State.canCtlWritten s c
    busy).Kept pq := by
  unfold State.canCtlWritten
  repeat' first
    | with_reducible intro _
    | (extract_lets -underBinder +onlyGivenNames x
       first | (first | apply kept_seq (pq := pq) x | apply kept_seq1 (pq := pq) x | apply kept_seq2 (pq := pq) x
                on_goal 1 => subst x
                on_goal 2 => (intro hx; try clear_value x)) | try clear_value x)
    | with_reducible first | assumption | apply State.fdOff_kept | apply State.setCc_kept
                                  | apply State.canStart_kept | apply State.busy_kept | apply State.canStop_kept
                                  | apply kept_ite | apply kept1_ite | apply kept2_ite
    | dsimp only
    | with_reducible first | apply kept_fst | apply kept_snd
    | with_reducible apply kept1_of
    | with_reducible apply kept2_of
    | with_reducible apply kept_mk

theorem State.canFrameEnd_kept {s : State} (c : Nat) (h : s.Kept pq) : (State.canFrameEnd s c).Kept pq := by
  unfold State.canFrameEnd
  repeat' first
    | with_reducible intro _
    | with_reducible first | assumption | apply State.canStop_kept | apply kept_ite | apply kept1_ite
                                  | apply kept2_ite
    | dsimp only
    | with_reducible first | apply kept_fst | apply kept_snd
    | with_reducible apply kept1_of
    | with_reducible apply kept2_of

theorem State.canErr_kept {s : State} (c : Nat) (tec : Nat) (rec : Nat) (h : s.Kept pq) : (State.canErr s c tec
    rec).Kept pq := by
  unfold State.canErr
  repeat' first
    | with_reducible intro _
    | (extract_lets -underBinder +onlyGivenNames x
       first | (first | apply kept_seq (pq := pq) x | apply kept_seq1 (pq := pq) x | apply kept_seq2 (pq := pq) x
                on_goal 1 => subst x
                on_goal 2 => (intro hx; try clear_value x)) | try clear_value x)
    | with_reducible first | assumption | apply State.setF_kept | apply State.setB_kept | apply State.count_kept
                                  | apply State.canOff_kept | apply State.canSetState_kept
                                  | apply State.failSource_kept | apply kept_ite | apply kept1_ite | apply kept2_ite
    | dsimp only
    | with_reducible first | apply kept_fst | apply kept_snd
    | with_reducible apply kept1_of
    | with_reducible apply kept2_of

theorem State.canRaise_kept {s : State} (c : Nat) (dt : Nat) (dr : Nat) (h : s.Kept pq) : (State.canRaise s c dt
    dr).Kept pq := by
  unfold State.canRaise
  repeat' first
    | with_reducible intro _
    | with_reducible first | assumption | apply State.ledger_kept | apply State.canErr_kept | apply kept_ite
                                  | apply kept1_ite | apply kept2_ite
    | dsimp only
    | with_reducible first | apply kept_fst | apply kept_snd
    | with_reducible apply kept1_of
    | with_reducible apply kept2_of

theorem State.canRecover_kept {s : State} (c : Nat) (h : s.Kept pq) : (State.canRecover s c).1.Kept pq := by
  show Kept1 pq _
  unfold State.canRecover
  repeat' first
    | with_reducible intro _
    | (extract_lets -underBinder +onlyGivenNames x
       first | (first | apply kept_seq (pq := pq) x | apply kept_seq1 (pq := pq) x | apply kept_seq2 (pq := pq) x
                on_goal 1 => subst x
                on_goal 2 => (intro hx; try clear_value x)) | try clear_value x)
    | with_reducible first | assumption | apply State.setCc_kept | apply State.canSetState_kept | apply kept_ite
                                  | apply kept1_ite | apply kept2_ite
    | dsimp only
    | with_reducible first | apply kept_fst | apply kept_snd
    | with_reducible apply kept1_of
    | with_reducible apply kept2_of
    | with_reducible apply kept_mk

theorem State.txReq_kept {s : State} (c : Nat) (n : Nat) (h : s.Kept pq) : (State.txReq s c n).Kept pq := by
  unfold State.txReq
  repeat' first
    | with_reducible intro _
    | (extract_lets -underBinder +onlyGivenNames x
       first | (first | apply kept_seq (pq := pq) x | apply kept_seq1 (pq := pq) x | apply kept_seq2 (pq := pq) x
                on_goal 1 => subst x
                on_goal 2 => (intro hx; try clear_value x)) | try clear_value x)
    | with_reducible first | assumption | apply State.setBit_kept | apply State.wr_kept | apply kept_ite
                                  | apply kept1_ite | apply kept2_ite
    | dsimp only
    | with_reducible first | apply kept_fst | apply kept_snd
    | with_reducible apply kept1_of
    | with_reducible apply kept2_of

theorem State.txReqWrite_kept {s : State} (c : Nat) (k : Nat) (w : Nat) (h : s.Kept pq) : (State.txReqWrite s c k
    w).1.Kept pq := by
  show Kept1 pq _
  unfold State.txReqWrite
  repeat' first
    | with_reducible intro _
    | with_reducible first | assumption | apply State.each_kept | apply State.txReq_kept | apply kept_ite
                                  | apply kept1_ite | apply kept2_ite
    | dsimp only
    | with_reducible first | apply kept_fst | apply kept_snd
    | with_reducible apply kept1_of
    | with_reducible apply kept2_of

theorem State.txCanWrite_kept {s : State} (c : Nat) (k : Nat) (w : Nat) (h : s.Kept pq) : (State.txCanWrite s c k
    w).1.Kept pq := by
  show Kept1 pq _
  unfold State.txCanWrite
  repeat' first
    | with_reducible intro _
    | with_reducible first | assumption | apply State.each_kept | apply State.cancelReq_kept | apply kept_ite
                                  | apply kept1_ite | apply kept2_ite
    | dsimp only
    | with_reducible first | apply kept_fst | apply kept_snd
    | with_reducible apply kept1_of
    | with_reducible apply kept2_of

theorem State.acknowledged_kept {s : State} (c : Nat) (h : s.Kept pq) : (State.acknowledged s c).Kept pq := by
  unfold State.acknowledged
  repeat' first
    | with_reducible intro _
    | (extract_lets -underBinder +onlyGivenNames x
       first | (first | apply kept_seq (pq := pq) x | apply kept_seq1 (pq := pq) x | apply kept_seq2 (pq := pq) x
                on_goal 1 => subst x
                on_goal 2 => (intro hx; try clear_value x)) | try clear_value x)
    | with_reducible first | assumption | apply State.setF_kept | apply State.setCc_kept | apply State.each_kept
                                  | apply State.orF_kept
    | dsimp only
    | with_reducible first | apply kept_fst | apply kept_snd
    | with_reducible apply kept1_of
    | with_reducible apply kept2_of
    | with_reducible apply kept_mk

theorem State.setNack_kept {s : State} (c : Nat) (n : Nat) (v : Nat) (h : s.Kept pq) : (State.setNack s c n v).Kept pq
    := by
  unfold State.setNack
  repeat' first
    | with_reducible intro _
    | with_reducible first | assumption | apply State.wr_kept
    | dsimp only

theorem State.attempt_kept {s : State} (c : Nat) (n : Nat) (h : s.Kept pq) : (State.attempt s c n).Kept pq := by
  unfold State.attempt
  repeat' first
    | with_reducible intro _
    | with_reducible first | assumption | apply State.wr_kept
    | dsimp only

theorem State.tdcMeasured_kept {s : State} (c : Nat) (n : Nat) (v : Nat) (h : s.Kept pq) : (State.tdcMeasured s c n
    v).Kept pq := by
  unfold State.tdcMeasured
  repeat' first
    | with_reducible intro _
    | with_reducible first | assumption | apply State.setF_kept | apply State.cond_kept | apply kept_ite
                                  | apply kept1_ite | apply kept2_ite
    | dsimp only
    | with_reducible first | apply kept_fst | apply kept_snd
    | with_reducible apply kept1_of
    | with_reducible apply kept2_of

theorem State.txError_kept {s : State} (c : Nat) (n : Nat) (kind : BusErrKind) (h : s.Kept pq) : (State.txError s c n
    kind).Kept pq := by
  unfold State.txError
  repeat' first
    | with_reducible intro _
    | (extract_lets -underBinder +onlyGivenNames x
       first | (first | apply kept_seq (pq := pq) x | apply kept_seq1 (pq := pq) x | apply kept_seq2 (pq := pq) x
                on_goal 1 => subst x
                on_goal 2 => (intro hx; try clear_value x)) | try clear_value x)
    | with_reducible first | assumption | apply State.attempt_kept | apply State.setNack_kept
                                  | apply State.uncommit_kept | apply State.cond_kept | apply State.objPark_kept
                                  | apply State.canRaise_kept | apply State.acknowledged_kept | apply kept_ite
                                  | apply kept1_ite | apply kept2_ite
    | dsimp only
    | split
    | with_reducible first | apply kept_fst | apply kept_snd
    | with_reducible apply kept1_of
    | with_reducible apply kept2_of

theorem State.storeFrame_kept {s : State} (a : Nat) (keep : Nat) (stamp : Nat) (f : CanFrame) (h : s.Kept pq) :
    (State.storeFrame s a keep stamp f).Kept pq := by
  unfold State.storeFrame
  repeat' first
    | with_reducible intro _
    | (extract_lets -underBinder +onlyGivenNames x
       first | (first | apply kept_seq (pq := pq) x | apply kept_seq1 (pq := pq) x | apply kept_seq2 (pq := pq) x
                on_goal 1 => subst x
                on_goal 2 => (intro hx; try clear_value x)) | try clear_value x)
    | with_reducible first | assumption | apply State.wr_kept | apply State.each_kept
    | dsimp only
    | with_reducible first | apply kept_fst | apply kept_snd
    | with_reducible apply kept1_of
    | with_reducible apply kept2_of

theorem State.setOwned_kept {s : State} (c : Nat) (q : Nat) (e : Nat) (b : Bool) (h : s.Kept pq) : (State.setOwned s c
    q e b).Kept pq := by
  unfold State.setOwned
  repeat' first
    | with_reducible intro _
    | (extract_lets -underBinder +onlyGivenNames x
       first | (first | apply kept_seq (pq := pq) x | apply kept_seq1 (pq := pq) x | apply kept_seq2 (pq := pq) x
                on_goal 1 => subst x
                on_goal 2 => (intro hx; try clear_value x)) | try clear_value x)
    | with_reducible first | assumption | apply State.setBit_kept | apply State.clrBit_kept | apply State.setF_kept
                                  | apply kept_ite | apply kept1_ite | apply kept2_ite
    | dsimp only
    | with_reducible first | apply kept_fst | apply kept_snd
    | with_reducible apply kept1_of
    | with_reducible apply kept2_of

theorem State.enqueue_kept {s : State} (c : Nat) (q : Nat) (flt : Nat) (stamp : Nat) (f : CanFrame) (h : s.Kept pq) :
    (State.enqueue s c q flt stamp f).Kept pq := by
  unfold State.enqueue
  repeat' first
    | with_reducible intro _
    | (extract_lets -underBinder +onlyGivenNames x
       first | (first | apply kept_seq (pq := pq) x | apply kept_seq1 (pq := pq) x | apply kept_seq2 (pq := pq) x
                on_goal 1 => subst x
                on_goal 2 => (intro hx; try clear_value x)) | try clear_value x)
    | with_reducible first | assumption | apply State.setCc_kept | apply State.count_kept | apply State.setF_kept
                                  | apply State.storeFrame_kept | apply State.wr_kept | apply State.setOwned_kept
                                  | apply kept_ite | apply kept1_ite | apply kept2_ite
    | dsimp only
    | split
    | with_reducible first | apply kept_fst | apply kept_snd
    | with_reducible apply kept1_of
    | with_reducible apply kept2_of
    | with_reducible apply kept_mk

theorem State.ackEntry_kept {s : State} (c : Nat) (q : Nat) (e : Nat) (zp : Bool) (h : s.Kept pq) : (State.ackEntry s
    c q e zp).1.Kept pq := by
  show Kept1 pq _
  unfold State.ackEntry
  repeat' first
    | with_reducible intro _
    | (extract_lets -underBinder +onlyGivenNames x
       first | (first | apply kept_seq (pq := pq) x | apply kept_seq1 (pq := pq) x | apply kept_seq2 (pq := pq) x
                on_goal 1 => subst x
                on_goal 2 => (intro hx; try clear_value x)) | try clear_value x)
    | with_reducible first | assumption | apply State.setOwned_kept | apply kept_ite | apply kept1_ite
                                  | apply kept2_ite
    | dsimp only
    | with_reducible first | apply kept_fst | apply kept_snd
    | with_reducible apply kept1_of
    | with_reducible apply kept2_of

theorem State.takeFrame_kept {s : State} (c : Nat) (n : Nat) (stamp : Nat) (f : CanFrame) (h : s.Kept pq) :
    (State.takeFrame s c n stamp f).Kept pq := by
  unfold State.takeFrame
  repeat' first
    | with_reducible intro _
    | (extract_lets -underBinder +onlyGivenNames x
       first | (first | apply kept_seq (pq := pq) x | apply kept_seq1 (pq := pq) x | apply kept_seq2 (pq := pq) x
                on_goal 1 => subst x
                on_goal 2 => (intro hx; try clear_value x)) | try clear_value x)
    | with_reducible first | assumption | apply State.storeFrame_kept | apply State.count_kept | apply State.wr_kept
                                  | apply State.setF_kept | apply kept_ite | apply kept1_ite | apply kept2_ite
    | dsimp only
    | with_reducible first | apply kept_fst | apply kept_snd
    | with_reducible apply kept1_of
    | with_reducible apply kept2_of

theorem State.deliver_kept {s : State} (c : Nat) (stamp : Nat) (f : CanFrame) (h : s.Kept pq) : (State.deliver s c
    stamp f).Kept pq := by
  unfold State.deliver
  repeat' first
    | with_reducible intro _
    | with_reducible first | assumption | apply State.takeFrame_kept | apply State.count_kept
                                  | apply State.enqueue_kept
    | dsimp only
    | split

theorem State.recDown_kept {s : State} (c : Nat) (h : s.Kept pq) : (State.recDown s c).Kept pq := by
  unfold State.recDown
  repeat' first
    | with_reducible intro _
    | (extract_lets -underBinder +onlyGivenNames x
       first | (first | apply kept_seq (pq := pq) x | apply kept_seq1 (pq := pq) x | apply kept_seq2 (pq := pq) x
                on_goal 1 => subst x
                on_goal 2 => (intro hx; try clear_value x)) | try clear_value x)
    | with_reducible first | assumption | apply State.canErr_kept | apply State.free_kept | apply kept_ite
                                  | apply kept1_ite | apply kept2_ite
    | dsimp only
    | with_reducible first | apply kept_fst | apply kept_snd
    | with_reducible apply kept1_of
    | with_reducible apply kept2_of

theorem State.objWrite_kept {s : State} (c : Nat) (n : Nat) (o : Nat) (w : Nat) (h : s.Kept pq) : (State.objWrite s c
    n o w).1.Kept pq := by
  show Kept1 pq _
  unfold State.objWrite
  repeat' first
    | with_reducible intro _
    | (extract_lets -underBinder +onlyGivenNames x
       first | (first | apply kept_seq (pq := pq) x | apply kept_seq1 (pq := pq) x | apply kept_seq2 (pq := pq) x
                on_goal 1 => subst x
                on_goal 2 => (intro hx; try clear_value x)) | try clear_value x)
    | with_reducible first | assumption | apply State.free_kept | apply State.wr_kept | apply kept_ite
                                  | apply kept1_ite | apply kept2_ite
    | dsimp only
    | with_reducible first | apply kept_fst | apply kept_snd
    | with_reducible apply kept1_of
    | with_reducible apply kept2_of

theorem execRateDetectionDone_kept (c : Fin 2) (nrate : BitVec 4) (drate : BitVec 4) (rounds : BitVec 16) {s : State}
    (h : s.Kept pq) : KeptOut pq (execRateDetectionDone c nrate drate rounds s) := by
  unfold execRateDetectionDone
  repeat' first
    | with_reducible intro _
    | (extract_lets -underBinder +onlyGivenNames x
       first | (first | apply kept_seq (pq := pq) x | apply kept_seq1 (pq := pq) x | apply kept_seq2 (pq := pq) x
                on_goal 1 => subst x
                on_goal 2 => (intro hx; try clear_value x)) | try clear_value x)
    | with_reducible first | assumption | apply State.add_kept | apply State.wr_kept | apply State.setB_kept
                                  | apply State.setF_kept | apply State.canJoin_kept | apply kept_ite
                                  | apply kept1_ite | apply kept2_ite | apply keptOut_next | apply keptOut_refused
                                  | apply keptOut_ite
    | dsimp only
    | with_reducible first | apply kept_fst | apply kept_snd
    | with_reducible apply kept1_of
    | with_reducible apply kept2_of

theorem execFrameReceived_kept (c : Fin 2) (f : CanFrame) (ago : BitVec 16) (pos : BitVec 16) {s : State} (h : s.Kept
    pq) : KeptOut pq (execFrameReceived c f ago pos s) := by
  unfold execFrameReceived
  repeat' first
    | with_reducible intro _
    | (extract_lets -underBinder +onlyGivenNames x
       first | (first | apply kept_seq (pq := pq) x | apply kept_seq1 (pq := pq) x | apply kept_seq2 (pq := pq) x
                on_goal 1 => subst x
                on_goal 2 => (intro hx; try clear_value x)) | try clear_value x)
    | with_reducible first | assumption | apply State.ledger_kept | apply State.deliver_kept
                                  | apply State.recDown_kept | apply State.canFrameEnd_kept | apply kept_ite
                                  | apply kept1_ite | apply kept2_ite | apply keptOut_next | apply keptOut_refused
                                  | apply keptOut_ite
    | dsimp only
    | with_reducible first | apply kept_fst | apply kept_snd
    | with_reducible apply kept1_of
    | with_reducible apply kept2_of

theorem execCancelTaken_kept (c : Fin 2) (n : Fin 128) {s : State} (h : s.Kept pq) : KeptOut pq (execCancelTaken c n
    s) := by
  unfold execCancelTaken
  repeat' first
    | with_reducible intro _
    | with_reducible first | assumption | apply State.setCc_kept | apply State.cancelNow_kept | apply kept_ite
                                  | apply kept1_ite | apply kept2_ite | apply keptOut_next | apply keptOut_refused
                                  | apply keptOut_ite
    | dsimp only
    | with_reducible first | apply kept_fst | apply kept_snd
    | with_reducible apply kept1_of
    | with_reducible apply kept2_of
    | with_reducible apply kept_mk

theorem execTransmitCommit_kept (c : Fin 2) {s : State} (h : s.Kept pq) : KeptOut pq (execTransmitCommit c s) := by
  unfold execTransmitCommit
  repeat' first
    | with_reducible intro _
    | with_reducible first | assumption | apply State.setCc_kept | apply kept_ite | apply kept1_ite
                                  | apply kept2_ite | apply keptOut_next | apply keptOut_refused | apply keptOut_ite
    | dsimp only
    | split
    | with_reducible first | apply kept_fst | apply kept_snd
    | with_reducible apply kept1_of
    | with_reducible apply kept2_of
    | with_reducible apply kept_mk

theorem execArbitrationLost_kept (c : Fin 2) {s : State} (h : s.Kept pq) : KeptOut pq (execArbitrationLost c s) := by
  unfold execArbitrationLost
  repeat' first
    | with_reducible intro _
    | with_reducible first | assumption | apply State.attempt_kept | apply State.uncommit_kept | apply keptOut_next
                                  | apply keptOut_refused | apply keptOut_ite
    | dsimp only
    | split

theorem execTransmitSuccess_kept (c : Fin 2) (ago : BitVec 16) (pos : BitVec 16) (tdc : BitVec 8) {s : State} (h :
    s.Kept pq) : KeptOut pq (execTransmitSuccess c ago pos tdc s) := by
  unfold execTransmitSuccess
  repeat' first
    | with_reducible intro _
    | (extract_lets -underBinder +onlyGivenNames x
       first | (first | apply kept_seq (pq := pq) x | apply kept_seq1 (pq := pq) x | apply kept_seq2 (pq := pq) x
                on_goal 1 => subst x
                on_goal 2 => (intro hx; try clear_value x)) | try clear_value x)
    | with_reducible first | assumption | apply State.setCc_kept | apply State.tdcMeasured_kept
                                  | apply State.wr_kept | apply State.setNack_kept | apply State.objEnd_kept
                                  | apply State.setF_kept | apply State.count_kept | apply State.ledger_kept
                                  | apply State.acknowledged_kept | apply State.canErr_kept
                                  | apply State.canFrameEnd_kept | apply kept_ite | apply kept1_ite
                                  | apply kept2_ite | apply keptOut_next | apply keptOut_refused | apply keptOut_ite
    | dsimp only
    | split
    | with_reducible first | apply kept_fst | apply kept_snd
    | with_reducible apply kept1_of
    | with_reducible apply kept2_of
    | with_reducible apply kept_mk

theorem execBusError_kept (c : Fin 2) (e : BusErr) {s : State} (h : s.Kept pq) : KeptOut pq (execBusError c e s) := by
  unfold execBusError
  repeat' first
    | with_reducible intro _
    | (extract_lets -underBinder +onlyGivenNames x
       first | (first | apply kept_seq (pq := pq) x | apply kept_seq1 (pq := pq) x | apply kept_seq2 (pq := pq) x
                on_goal 1 => subst x
                on_goal 2 => (intro hx; try clear_value x)) | try clear_value x)
    | with_reducible first | assumption | apply State.canFrameEnd_kept | apply State.tdcMeasured_kept
                                  | apply State.txError_kept | apply State.canRaise_kept | apply kept_ite
                                  | apply kept1_ite | apply kept2_ite | apply keptOut_next | apply keptOut_refused
                                  | apply keptOut_ite
    | dsimp only
    | split
    | with_reducible first | apply kept_fst | apply kept_snd
    | with_reducible apply kept1_of
    | with_reducible apply kept2_of

theorem execProtocolException_kept (c : Fin 2) {s : State} (h : s.Kept pq) : KeptOut pq (execProtocolException c s) :=
    by
  unfold execProtocolException
  repeat' first
    | with_reducible intro _
    | (extract_lets -underBinder +onlyGivenNames x
       first | (first | apply kept_seq (pq := pq) x | apply kept_seq1 (pq := pq) x | apply kept_seq2 (pq := pq) x
                on_goal 1 => subst x
                on_goal 2 => (intro hx; try clear_value x)) | try clear_value x)
    | with_reducible first | assumption | apply State.count_kept | apply State.setF_kept | apply State.canOff_kept
                                  | apply State.canSetState_kept | apply State.canFrameEnd_kept | apply kept_ite
                                  | apply kept1_ite | apply kept2_ite | apply keptOut_next | apply keptOut_refused
                                  | apply keptOut_ite
    | dsimp only
    | with_reducible first | apply kept_fst | apply kept_snd
    | with_reducible apply kept1_of
    | with_reducible apply kept2_of

theorem execAloneProbe_kept (c : Fin 2) {s : State} (h : s.Kept pq) : KeptOut pq (execAloneProbe c s) := by
  unfold execAloneProbe
  repeat' first
    | with_reducible intro _
    | (extract_lets -underBinder +onlyGivenNames x
       first | (first | apply kept_seq (pq := pq) x | apply kept_seq1 (pq := pq) x | apply kept_seq2 (pq := pq) x
                on_goal 1 => subst x
                on_goal 2 => (intro hx; try clear_value x)) | try clear_value x)
    | with_reducible first | assumption | apply State.setCc_kept | apply State.clrBit_kept | apply State.setBit_kept
                                  | apply kept_ite | apply kept1_ite | apply kept2_ite | apply keptOut_next
                                  | apply keptOut_refused | apply keptOut_ite
    | dsimp only
    | split
    | with_reducible first | apply kept_fst | apply kept_snd
    | with_reducible apply kept1_of
    | with_reducible apply kept2_of
    | with_reducible apply kept_mk

theorem State.canTick_kept {s : State} (h : s.Kept pq) : (State.canTick s).Kept pq := by
  unfold State.canTick
  repeat' first
    | with_reducible intro _
    | with_reducible first | assumption | apply State.each_kept | apply State.setCc_kept
    | dsimp only
    | with_reducible apply kept_mk

theorem State.canSecond_kept {s : State} (h : s.Kept pq) : (State.canSecond s).Kept pq := by
  unfold State.canSecond
  repeat' first
    | with_reducible intro _
    | with_reducible first | assumption | apply State.each_kept | apply State.setCc_kept | apply kept_ite
                                  | apply kept1_ite | apply kept2_ite
    | dsimp only
    | with_reducible first | apply kept_fst | apply kept_snd
    | with_reducible apply kept1_of
    | with_reducible apply kept2_of
    | with_reducible apply kept_mk

end Sys2Proof.Machine
end

