-- ==== Sys2Proof/Laws/KeptLanes.lean ====
section
/-! SUPPORT. What the functions of Lanes keep. -/

namespace Sys2Proof.Machine

set_option linter.unusedTactic false
set_option linter.unreachableTactic false
set_option linter.tactic.unusedName false

variable {pq : List Instr}

theorem State.setLane_kept {s : State} (l : Nat) (f : Lane → Lane) (h : s.Kept pq) : (State.setLane s l f).Kept pq :=
    by
  unfold State.setLane
  repeat' first
    | with_reducible intro _
    | with_reducible first | assumption
    | dsimp only
    | with_reducible apply kept_mk

theorem State.busy_kept {s : State} (l : Nat) (h : s.Kept pq) : (State.busy s l).Kept pq := by
  unfold State.busy
  repeat' first
    | with_reducible intro _
    | (extract_lets -underBinder +onlyGivenNames x
       first | (first | apply kept_seq (pq := pq) x | apply kept_seq1 (pq := pq) x | apply kept_seq2 (pq := pq) x
                on_goal 1 => subst x
                on_goal 2 => (intro hx; try clear_value x)) | try clear_value x)
    | with_reducible first | assumption | apply State.setBit_kept | apply State.clrBit_kept | apply kept_ite
                                  | apply kept1_ite | apply kept2_ite
    | dsimp only
    | with_reducible first | apply kept_fst | apply kept_snd
    | with_reducible apply kept1_of
    | with_reducible apply kept2_of

theorem State.startChain_kept {s : State} (l : Nat) (d : Nat) (t : Nat) (h : s.Kept pq) : (State.startChain s l d
    t).Kept pq := by
  unfold State.startChain
  repeat' first
    | with_reducible intro _
    | (extract_lets -underBinder +onlyGivenNames x
       first | (first | apply kept_seq (pq := pq) x | apply kept_seq1 (pq := pq) x | apply kept_seq2 (pq := pq) x
                on_goal 1 => subst x
                on_goal 2 => (intro hx; try clear_value x)) | try clear_value x)
    | with_reducible first | assumption | apply State.setLane_kept | apply State.front_kept | apply State.busy_kept
                                  | apply kept_ite | apply kept1_ite | apply kept2_ite
    | dsimp only
    | with_reducible first | apply kept_fst | apply kept_snd
    | with_reducible apply kept1_of
    | with_reducible apply kept2_of
    | with_reducible apply kept_mk

theorem State.startItem_kept {s : State} (l : Nat) (i : Nat) (k : Nat) (t : Nat) (h : s.Kept pq) : (State.startItem s
    l i k t).Kept pq := by
  unfold State.startItem
  repeat' first
    | with_reducible intro _
    | (extract_lets -underBinder +onlyGivenNames x
       first | (first | apply kept_seq (pq := pq) x | apply kept_seq1 (pq := pq) x | apply kept_seq2 (pq := pq) x
                on_goal 1 => subst x
                on_goal 2 => (intro hx; try clear_value x)) | try clear_value x)
    | with_reducible first | assumption | apply State.catAsOf_kept | apply State.startRun_kept
                                  | apply State.setLane_kept | apply State.busy_kept
    | dsimp only
    | with_reducible first | apply kept_fst | apply kept_snd
    | with_reducible apply kept1_of
    | with_reducible apply kept2_of
    | with_reducible apply kept_mk

theorem State.tryChain_kept {s : State} (l : Nat) (h : s.Kept pq) : (State.tryChain s l).Kept pq := by
  unfold State.tryChain
  repeat' first
    | with_reducible intro _
    | (extract_lets -underBinder +onlyGivenNames x
       first | (first | apply kept_seq (pq := pq) x | apply kept_seq1 (pq := pq) x | apply kept_seq2 (pq := pq) x
                on_goal 1 => subst x
                on_goal 2 => (intro hx; try clear_value x)) | try clear_value x)
    | with_reducible first | assumption | apply State.startChain_kept | apply kept_ite | apply kept1_ite
                                  | apply kept2_ite
    | dsimp only
    | split
    | with_reducible first | apply kept_fst | apply kept_snd
    | with_reducible apply kept1_of
    | with_reducible apply kept2_of

theorem State.skipItem_kept {s : State} (k : Nat) (h : s.Kept pq) : (State.skipItem s k).Kept pq := by
  unfold State.skipItem
  repeat' first
    | with_reducible intro _
    | with_reducible first | assumption | apply State.count_kept
    | dsimp only

theorem State.nextClass_kept {s : State} (l : Nat) (h : s.Kept pq) : (State.nextClass s l).Kept pq := by
  unfold State.nextClass
  repeat' first
    | with_reducible intro _
    | (extract_lets -underBinder +onlyGivenNames x
       first | (first | apply kept_seq (pq := pq) x | apply kept_seq1 (pq := pq) x | apply kept_seq2 (pq := pq) x
                on_goal 1 => subst x
                on_goal 2 => (intro hx; try clear_value x)) | try clear_value x)
    | with_reducible first | assumption | apply State.setLane_kept | apply kept_ite | apply kept1_ite
                                  | apply kept2_ite
    | dsimp only
    | with_reducible first | apply kept_fst | apply kept_snd
    | with_reducible apply kept1_of
    | with_reducible apply kept2_of
    | with_reducible apply kept_mk

theorem State.seekItem_kept {s : State} (l : Nat) {y0 : Nat} (h : s.Kept pq) : (State.seekItem s l y0).Kept pq := by
  induction y0 generalizing s with
  | zero =>
    unfold State.seekItem
    repeat' first
      | with_reducible intro _
      | (extract_lets -underBinder +onlyGivenNames x
         first | (first | apply kept_seq (pq := pq) x | apply kept_seq1 (pq := pq) x | apply kept_seq2 (pq := pq) x
                  on_goal 1 => subst x
                  on_goal 2 => (intro hx; try clear_value x)) | try clear_value x)
      | with_reducible first | assumption | apply ih | apply State.nextClass_kept | apply State.setLane_kept
                                  | apply State.skipItem_kept | apply State.startItem_kept | apply kept_ite
                                  | apply kept1_ite | apply kept2_ite
      | dsimp only
      | split
      | with_reducible first | apply kept_fst | apply kept_snd
      | with_reducible apply kept1_of
      | with_reducible apply kept2_of
      | with_reducible apply kept_mk
  | succ n ih =>
    unfold State.seekItem
    repeat' first
      | with_reducible intro _
      | (extract_lets -underBinder +onlyGivenNames x
         first | (first | apply kept_seq (pq := pq) x | apply kept_seq1 (pq := pq) x | apply kept_seq2 (pq := pq) x
                  on_goal 1 => subst x
                  on_goal 2 => (intro hx; try clear_value x)) | try clear_value x)
      | with_reducible first | assumption | apply ih | apply State.nextClass_kept | apply State.setLane_kept
                                  | apply State.skipItem_kept | apply State.startItem_kept | apply kept_ite
                                  | apply kept1_ite | apply kept2_ite
      | dsimp only
      | split
      | with_reducible first | apply kept_fst | apply kept_snd
      | with_reducible apply kept1_of
      | with_reducible apply kept2_of
      | with_reducible apply kept_mk

theorem execItemStart_kept (lane : Fin 4) {s : State} (h : s.Kept pq) : KeptOut pq (execItemStart lane s) := by
  unfold execItemStart
  repeat' first
    | with_reducible intro _
    | (extract_lets -underBinder +onlyGivenNames x
       first | (first | apply kept_seq (pq := pq) x | apply kept_seq1 (pq := pq) x | apply kept_seq2 (pq := pq) x
                on_goal 1 => subst x
                on_goal 2 => (intro hx; try clear_value x)) | try clear_value x)
    | with_reducible first | assumption | apply State.setLane_kept | apply State.startItem_kept
                                  | apply State.startChain_kept | apply State.seekItem_kept | apply kept_ite
                                  | apply kept1_ite | apply kept2_ite | apply keptOut_next | apply keptOut_refused
                                  | apply keptOut_ite
    | dsimp only
    | split
    | with_reducible first | apply kept_fst | apply kept_snd
    | with_reducible apply kept1_of
    | with_reducible apply kept2_of
    | with_reducible apply kept_mk

theorem execC0Release_kept (d : Fin 6) (w : Nat) {s : State} (h : s.Kept pq) : KeptOut pq (execC0Release d w s) := by
  unfold execC0Release
  repeat' first
    | with_reducible intro _
    | (extract_lets -underBinder +onlyGivenNames x
       first | (first | apply kept_seq (pq := pq) x | apply kept_seq1 (pq := pq) x | apply kept_seq2 (pq := pq) x
                on_goal 1 => subst x
                on_goal 2 => (intro hx; try clear_value x)) | try clear_value x)
    | with_reducible first | assumption | apply State.setDrv_kept | apply State.tryChain_kept | apply kept_ite
                                  | apply kept1_ite | apply kept2_ite | apply keptOut_next | apply keptOut_refused
                                  | apply keptOut_ite
    | dsimp only
    | with_reducible first | apply kept_fst | apply kept_snd
    | with_reducible apply kept1_of
    | with_reducible apply kept2_of
    | with_reducible apply kept_mk

theorem State.completeRun_kept {s : State} (r : Run) (t : Nat) (h : s.Kept pq) : (State.completeRun s r t).Kept pq :=
    by
  unfold State.completeRun
  repeat' first
    | with_reducible intro _
    | (extract_lets -underBinder +onlyGivenNames x
       first | (first | apply kept_seq (pq := pq) x | apply kept_seq1 (pq := pq) x | apply kept_seq2 (pq := pq) x
                on_goal 1 => subst x
                on_goal 2 => (intro hx; try clear_value x)) | try clear_value x)
    | with_reducible first | assumption | apply State.catTimed_kept | apply State.finishRun_kept | apply kept_ite
                                  | apply kept1_ite | apply kept2_ite
    | dsimp only
    | with_reducible first | apply kept_fst | apply kept_snd
    | with_reducible apply kept1_of
    | with_reducible apply kept2_of

theorem execItemComplete_kept (lane : Fin 4) {s : State} (h : s.Kept pq) : KeptOut pq (execItemComplete lane s) := by
  unfold execItemComplete
  repeat' first
    | with_reducible intro _
    | (extract_lets -underBinder +onlyGivenNames x
       first | (first | apply kept_seq (pq := pq) x | apply kept_seq1 (pq := pq) x | apply kept_seq2 (pq := pq) x
                on_goal 1 => subst x
                on_goal 2 => (intro hx; try clear_value x)) | try clear_value x)
    | with_reducible first | assumption | apply State.completeRun_kept | apply State.setLane_kept
                                  | apply State.busy_kept | apply kept_ite | apply kept1_ite | apply kept2_ite
                                  | apply keptOut_next | apply keptOut_refused | apply keptOut_ite
    | dsimp only
    | split
    | with_reducible first | apply kept_fst | apply kept_snd
    | with_reducible apply kept1_of
    | with_reducible apply kept2_of

theorem execDriveBack_kept (lane : Fin 4) {s : State} (h : s.Kept pq) : KeptOut pq (execDriveBack lane s) := by
  unfold execDriveBack
  repeat' first
    | with_reducible intro _
    | (extract_lets -underBinder +onlyGivenNames x
       first | (first | apply kept_seq (pq := pq) x | apply kept_seq1 (pq := pq) x | apply kept_seq2 (pq := pq) x
                on_goal 1 => subst x
                on_goal 2 => (intro hx; try clear_value x)) | try clear_value x)
    | with_reducible first | assumption | apply State.back_kept | apply State.setLane_kept | apply State.busy_kept
                                  | apply State.tryChain_kept | apply kept_ite | apply kept1_ite | apply kept2_ite
                                  | apply keptOut_next | apply keptOut_refused | apply keptOut_ite
    | dsimp only
    | split
    | with_reducible first | apply kept_fst | apply kept_snd
    | with_reducible apply kept1_of
    | with_reducible apply kept2_of
    | with_reducible apply kept_mk

theorem State.dropLane_kept {s : State} (l : Nat) (h : s.Kept pq) : (State.dropLane s l).Kept pq := by
  unfold State.dropLane
  repeat' first
    | with_reducible intro _
    | (extract_lets -underBinder +onlyGivenNames x
       first | (first | apply kept_seq (pq := pq) x | apply kept_seq1 (pq := pq) x | apply kept_seq2 (pq := pq) x
                on_goal 1 => subst x
                on_goal 2 => (intro hx; try clear_value x)) | try clear_value x)
    | with_reducible first | assumption | apply State.dropRun_kept | apply State.setLane_kept | apply State.busy_kept
    | dsimp only
    | split
    | with_reducible first | apply kept_fst | apply kept_snd
    | with_reducible apply kept1_of
    | with_reducible apply kept2_of
    | with_reducible apply kept_mk

theorem State.skipRest_kept {s : State} (l : Nat) (h : s.Kept pq) : (State.skipRest s l).Kept pq := by
  unfold State.skipRest
  repeat' first
    | with_reducible intro _
    | (extract_lets -underBinder +onlyGivenNames x
       first | (first | apply kept_seq (pq := pq) x | apply kept_seq1 (pq := pq) x | apply kept_seq2 (pq := pq) x
                on_goal 1 => subst x
                on_goal 2 => (intro hx; try clear_value x)) | try clear_value x)
    | with_reducible first | assumption | apply State.each_kept | apply State.skipItem_kept | apply kept_ite
                                  | apply kept1_ite | apply kept2_ite
    | dsimp only
    | with_reducible first | apply kept_fst | apply kept_snd
    | with_reducible apply kept1_of
    | with_reducible apply kept2_of

theorem State.publishHeadroom_kept {s : State} (h : s.Kept pq) : (State.publishHeadroom s).Kept pq := by
  unfold State.publishHeadroom
  repeat' first
    | with_reducible intro _
    | (extract_lets -underBinder +onlyGivenNames x
       first | (first | apply kept_seq (pq := pq) x | apply kept_seq1 (pq := pq) x | apply kept_seq2 (pq := pq) x
                on_goal 1 => subst x
                on_goal 2 => (intro hx; try clear_value x)) | try clear_value x)
    | with_reducible first | assumption | apply State.each_kept | apply State.setF_kept | apply foldl_kept
    | dsimp only
    | with_reducible first | apply kept_fst | apply kept_snd
    | with_reducible apply kept1_of
    | with_reducible apply kept2_of

theorem State.overrun_kept {s : State} (d : Nat) (h : s.Kept pq) : (State.overrun s d).Kept pq := by
  unfold State.overrun
  repeat' first
    | with_reducible intro _
    | (extract_lets -underBinder +onlyGivenNames x
       first | (first | apply kept_seq (pq := pq) x | apply kept_seq1 (pq := pq) x | apply kept_seq2 (pq := pq) x
                on_goal 1 => subst x
                on_goal 2 => (intro hx; try clear_value x)) | try clear_value x)
    | with_reducible first | assumption | apply State.setBit_kept | apply State.ledger_kept | apply State.setF_kept
                                  | apply State.overrunFault_kept | apply kept_ite | apply kept1_ite
                                  | apply kept2_ite
    | dsimp only
    | with_reducible first | apply kept_fst | apply kept_snd
    | with_reducible apply kept1_of
    | with_reducible apply kept2_of

theorem State.judgeChains_kept {s : State} (h : s.Kept pq) : (State.judgeChains s).Kept pq := by
  unfold State.judgeChains
  repeat' first
    | with_reducible intro _
    | with_reducible first | assumption | apply State.each_kept | apply State.setF_kept | apply State.overrun_kept
                                  | apply kept_ite | apply kept1_ite | apply kept2_ite
    | dsimp only
    | with_reducible first | apply kept_fst | apply kept_snd
    | with_reducible apply kept1_of
    | with_reducible apply kept2_of

theorem State.copyStaged_kept {s : State} (h : s.Kept pq) : (State.copyStaged s).Kept pq := by
  unfold State.copyStaged
  repeat' first
    | with_reducible intro _
    | (extract_lets -underBinder +onlyGivenNames x
       first | (first | apply kept_seq (pq := pq) x | apply kept_seq1 (pq := pq) x | apply kept_seq2 (pq := pq) x
                on_goal 1 => subst x
                on_goal 2 => (intro hx; try clear_value x)) | try clear_value x)
    | with_reducible first | assumption | apply State.each_kept | apply State.setDrv_kept
                                  | apply State.writeCompare_kept | apply kept_ite | apply kept1_ite
                                  | apply kept2_ite
    | dsimp only
    | split
    | with_reducible first | apply kept_fst | apply kept_snd
    | with_reducible apply kept1_of
    | with_reducible apply kept2_of
    | with_reducible apply kept_mk

theorem State.skipDue_kept {s : State} (l : Nat) (h : s.Kept pq) : (State.skipDue s l).Kept pq := by
  unfold State.skipDue
  repeat' first
    | with_reducible intro _
    | with_reducible first | assumption | apply State.each_kept | apply State.skipItem_kept
    | dsimp only

theorem State.closeFrame_kept {s : State} (h : s.Kept pq) : (State.closeFrame s).Kept pq := by
  unfold State.closeFrame
  repeat' first
    | with_reducible intro _
    | (extract_lets -underBinder +onlyGivenNames x
       first | (first | apply kept_seq (pq := pq) x | apply kept_seq1 (pq := pq) x | apply kept_seq2 (pq := pq) x
                on_goal 1 => subst x
                on_goal 2 => (intro hx; try clear_value x)) | try clear_value x)
    | with_reducible first | assumption | apply State.publishHeadroom_kept | apply State.each_kept
                                  | apply State.skipRest_kept | apply State.setF_kept | apply State.ledger_kept
                                  | apply State.dropLane_kept | apply State.skipDue_kept
                                  | apply State.judgeChains_kept | apply kept_ite | apply kept1_ite
                                  | apply kept2_ite
    | dsimp only
    | with_reducible first | apply kept_fst | apply kept_snd
    | with_reducible apply kept1_of
    | with_reducible apply kept2_of

theorem State.openFrame_kept {s : State} (h : s.Kept pq) : (State.openFrame s).Kept pq := by
  unfold State.openFrame
  repeat' first
    | with_reducible intro _
    | (extract_lets -underBinder +onlyGivenNames x
       first | (first | apply kept_seq (pq := pq) x | apply kept_seq1 (pq := pq) x | apply kept_seq2 (pq := pq) x
                on_goal 1 => subst x
                on_goal 2 => (intro hx; try clear_value x)) | try clear_value x)
    | with_reducible first | assumption | apply State.each_kept | apply State.setDrv_kept
    | dsimp only
    | with_reducible first | apply kept_fst | apply kept_snd
    | with_reducible apply kept1_of
    | with_reducible apply kept2_of
    | with_reducible apply kept_mk

theorem State.engineTick_kept {s : State} (h : s.Kept pq) : (State.engineTick s).Kept pq := by
  unfold State.engineTick
  repeat' first
    | with_reducible intro _
    | (extract_lets -underBinder +onlyGivenNames x
       first | (first | apply kept_seq (pq := pq) x | apply kept_seq1 (pq := pq) x | apply kept_seq2 (pq := pq) x
                on_goal 1 => subst x
                on_goal 2 => (intro hx; try clear_value x)) | try clear_value x)
    | with_reducible first | assumption | apply State.gensAbort_kept | apply State.setB_kept
                                  | apply State.openFrame_kept | apply kept_ite | apply kept1_ite | apply kept2_ite
    | dsimp only
    | with_reducible first | apply kept_fst | apply kept_snd
    | with_reducible apply kept1_of
    | with_reducible apply kept2_of

theorem State.engineHalt_kept {s : State} (h : s.Kept pq) : (State.engineHalt s).Kept pq := by
  unfold State.engineHalt
  repeat' first
    | with_reducible intro _
    | (extract_lets -underBinder +onlyGivenNames x
       first | (first | apply kept_seq (pq := pq) x | apply kept_seq1 (pq := pq) x | apply kept_seq2 (pq := pq) x
                on_goal 1 => subst x
                on_goal 2 => (intro hx; try clear_value x)) | try clear_value x)
    | with_reducible first | assumption | apply State.each_kept | apply State.dropLane_kept
                                  | apply State.gensAbort_kept | apply State.setF_kept
    | dsimp only
    | with_reducible first | apply kept_fst | apply kept_snd
    | with_reducible apply kept1_of
    | with_reducible apply kept2_of

end Sys2Proof.Machine
end

