-- ==== Sys2Proof/Laws/KeptVault.lean ====
section
/-! SUPPORT. What the functions of Vault keep. -/

namespace Sys2Proof.Machine

set_option linter.unusedTactic false
set_option linter.unreachableTactic false
set_option linter.tactic.unusedName false

variable {pq : List Instr}

theorem State.putRec_kept {s : State} (x : Slot) (r : CkRec) (h : s.Kept pq) : (State.putRec s x r).Kept pq := by
  unfold State.putRec
  repeat' first
    | with_reducible intro _
    | (extract_lets -underBinder +onlyGivenNames x
       first | (first | apply kept_seq (pq := pq) x | apply kept_seq1 (pq := pq) x | apply kept_seq2 (pq := pq) x
                on_goal 1 => subst x
                on_goal 2 => (intro hx; try clear_value x)) | try clear_value x)
    | with_reducible first | assumption | apply State.setBytes_kept | apply kept_ite | apply kept1_ite
                                  | apply kept2_ite
    | dsimp only
    | with_reducible first | apply kept_fst | apply kept_snd
    | with_reducible apply kept1_of
    | with_reducible apply kept2_of
    | with_reducible apply kept_mk

theorem State.restoreLoop_kept {s : State} (x : Slot) (h : s.Kept pq) : (State.restoreLoop s x).Kept pq := by
  unfold State.restoreLoop
  repeat' first
    | with_reducible intro _
    | (extract_lets -underBinder +onlyGivenNames x
       first | (first | apply kept_seq (pq := pq) x | apply kept_seq1 (pq := pq) x | apply kept_seq2 (pq := pq) x
                on_goal 1 => subst x
                on_goal 2 => (intro hx; try clear_value x)) | try clear_value x)
    | with_reducible first | assumption | apply State.setBytes_kept | apply kept_ite | apply kept1_ite
                                  | apply kept2_ite
    | dsimp only
    | with_reducible first | apply kept_fst | apply kept_snd
    | with_reducible apply kept1_of
    | with_reducible apply kept2_of
    | with_reducible apply kept_mk

theorem State.restoreDrive_kept {s : State} (x : Slot) (h : s.Kept pq) : (State.restoreDrive s x).Kept pq := by
  unfold State.restoreDrive
  repeat' first
    | with_reducible intro _
    | (extract_lets -underBinder +onlyGivenNames x
       first | (first | apply kept_seq (pq := pq) x | apply kept_seq1 (pq := pq) x | apply kept_seq2 (pq := pq) x
                on_goal 1 => subst x
                on_goal 2 => (intro hx; try clear_value x)) | try clear_value x)
    | with_reducible first | assumption | apply State.enter_kept | apply State.wr_kept | apply kept_ite
                                  | apply kept1_ite | apply kept2_ite
    | dsimp only
    | with_reducible first | apply kept_fst | apply kept_snd
    | with_reducible apply kept1_of
    | with_reducible apply kept2_of

theorem State.restorePoint_kept {s : State} (x : Slot) (k : Nat) (h : s.Kept pq) : (State.restorePoint s x k).Kept pq
    := by
  unfold State.restorePoint
  repeat' first
    | with_reducible intro _
    | (extract_lets -underBinder +onlyGivenNames x
       first | (first | apply kept_seq (pq := pq) x | apply kept_seq1 (pq := pq) x | apply kept_seq2 (pq := pq) x
                on_goal 1 => subst x
                on_goal 2 => (intro hx; try clear_value x)) | try clear_value x)
    | with_reducible first | assumption | apply State.cond_kept | apply State.ptUpdate_kept | apply State.setMI_kept
                                  | apply State.setM_kept
    | dsimp only
    | with_reducible first | apply kept_fst | apply kept_snd
    | with_reducible apply kept1_of
    | with_reducible apply kept2_of

theorem State.restoreAlm_kept {s : State} (x : Slot) (h : s.Kept pq) : (State.restoreAlm s x).Kept pq := by
  unfold State.restoreAlm
  repeat' first
    | with_reducible intro _
    | (extract_lets -underBinder +onlyGivenNames x
       first | (first | apply kept_seq (pq := pq) x | apply kept_seq1 (pq := pq) x | apply kept_seq2 (pq := pq) x
                on_goal 1 => subst x
                on_goal 2 => (intro hx; try clear_value x)) | try clear_value x)
    | with_reducible first | assumption | apply State.each_kept | apply State.setBytes_kept | apply State.idle_kept
    | dsimp only
    | with_reducible first | apply kept_fst | apply kept_snd
    | with_reducible apply kept1_of
    | with_reducible apply kept2_of
    | with_reducible apply kept_mk

theorem State.restoreCal_kept {s : State} (x : Slot) (h : s.Kept pq) : (State.restoreCal s x).Kept pq := by
  unfold State.restoreCal
  repeat' first
    | with_reducible intro _
    | with_reducible first | assumption | apply State.each_kept | apply State.setCalEntry_kept
    | dsimp only

theorem State.restoreSlot_kept {s : State} (x : Slot) (h : s.Kept pq) : (State.restoreSlot s x).Kept pq := by
  unfold State.restoreSlot
  repeat' first
    | with_reducible intro _
    | with_reducible first | assumption | apply State.restoreLoop_kept | apply State.restoreDrive_kept
                                  | apply State.each_kept | apply State.count_kept | apply State.restorePoint_kept
                                  | apply State.restoreAlm_kept | apply State.restoreCal_kept | apply kept_ite
                                  | apply kept1_ite | apply kept2_ite
    | dsimp only
    | split
    | with_reducible first | apply kept_fst | apply kept_snd
    | with_reducible apply kept1_of
    | with_reducible apply kept2_of

theorem State.resetLinks_kept {s : State} (h : s.Kept pq) : (State.resetLinks s).Kept pq := by
  unfold State.resetLinks
  repeat' first
    | with_reducible intro _
    | (extract_lets -underBinder +onlyGivenNames x
       first | (first | apply kept_seq (pq := pq) x | apply kept_seq1 (pq := pq) x | apply kept_seq2 (pq := pq) x
                on_goal 1 => subst x
                on_goal 2 => (intro hx; try clear_value x)) | try clear_value x)
    | with_reducible first | assumption | apply State.each_kept | apply State.resetLink_kept | apply kept_ite
                                  | apply kept1_ite | apply kept2_ite
    | dsimp only
    | with_reducible first | apply kept_fst | apply kept_snd
    | with_reducible apply kept1_of
    | with_reducible apply kept2_of
    | with_reducible apply kept_mk
    | with_reducible apply Memory.wf_clear
    | exact kept_wf ‹_›
    | apply kept_mk_mem

theorem State.loopsFromImage_kept {s : State} (h : s.Kept pq) : (State.loopsFromImage s).Kept pq := by
  unfold State.loopsFromImage
  repeat' first
    | with_reducible intro _
    | (extract_lets -underBinder +onlyGivenNames x
       first | (first | apply kept_seq (pq := pq) x | apply kept_seq1 (pq := pq) x | apply kept_seq2 (pq := pq) x
                on_goal 1 => subst x
                on_goal 2 => (intro hx; try clear_value x)) | try clear_value x)
    | with_reducible first | assumption | apply State.each_kept | apply State.setMB_kept
    | dsimp only
    | with_reducible first | apply kept_fst | apply kept_snd
    | with_reducible apply kept1_of
    | with_reducible apply kept2_of
    | with_reducible apply kept_mk
    | with_reducible apply Memory.wf_clear
    | exact kept_wf ‹_›
    | apply kept_mk_mem

theorem State.keepLoops_kept {s : State} (h : s.Kept pq) : (State.keepLoops s).Kept pq := by
  unfold State.keepLoops
  repeat' first
    | with_reducible intro _
    | with_reducible first | assumption
    | dsimp only
    | with_reducible apply kept_mk

theorem State.restoreVault_kept {s : State} (h : s.Kept pq) : (State.restoreVault s).Kept pq := by
  unfold State.restoreVault
  repeat' first
    | with_reducible intro _
    | (extract_lets -underBinder +onlyGivenNames x
       first | (first | apply kept_seq (pq := pq) x | apply kept_seq1 (pq := pq) x | apply kept_seq2 (pq := pq) x
                on_goal 1 => subst x
                on_goal 2 => (intro hx; try clear_value x)) | try clear_value x)
    | with_reducible first | assumption | apply State.resetLinks_kept | apply State.loopsFromImage_kept
                                  | apply State.each_kept | apply State.restoreSlot_kept | apply kept_ite
                                  | apply kept1_ite | apply kept2_ite
    | dsimp only
    | with_reducible first | apply kept_fst | apply kept_snd
    | with_reducible apply kept1_of
    | with_reducible apply kept2_of

end Sys2Proof.Machine
end

