-- ==== Sys2Proof/Laws/KeptFolio.lean ====
section
/-! SUPPORT. What the functions of Folio keep. -/

namespace Sys2Proof.Machine

set_option linter.unusedTactic false
set_option linter.unreachableTactic false
set_option linter.tactic.unusedName false

variable {pq : List Instr}

theorem State.setFol_kept {s : State} (f : Folio → Folio) (h : s.Kept pq) : (State.setFol s f).Kept pq := by
  unfold State.setFol
  repeat' first
    | with_reducible intro _
    | with_reducible first | assumption
    | dsimp only
    | with_reducible apply kept_mk

theorem State.folFail_kept {s : State} (p : Nat) (h : s.Kept pq) : (State.folFail s p).Kept pq := by
  unfold State.folFail
  repeat' first
    | with_reducible intro _
    | (extract_lets -underBinder +onlyGivenNames x
       first | (first | apply kept_seq (pq := pq) x | apply kept_seq1 (pq := pq) x | apply kept_seq2 (pq := pq) x
                on_goal 1 => subst x
                on_goal 2 => (intro hx; try clear_value x)) | try clear_value x)
    | with_reducible first | assumption | apply State.setF_kept | apply State.count_kept | apply kept_ite
                                  | apply kept1_ite | apply kept2_ite
    | dsimp only
    | with_reducible first | apply kept_fst | apply kept_snd
    | with_reducible apply kept1_of
    | with_reducible apply kept2_of

theorem State.folRead_kept {s : State} (o n : Nat) (h : s.Kept pq) : (State.folRead s o n).1.Kept pq := by
  show Kept1 pq _
  unfold State.folRead
  have hf : ∀ (u : State) (l : List Nat) (r : State × List Byte × Bool), Kept1 pq r → Kept1 pq (l.foldl (fun r k =>
      match u.fol.at (o + k) with
      | some b => (r.1, r.2.1 ++ [b], r.2.2)
      | none => (r.1.folFail ((o + k) / 64), r.2.1 ++ [0xFF], false)) r) := by
    intro u l
    induction l with
    | nil => exact fun _ hr => hr
    | cons k l ih =>
      intro r hr
      refine ih _ ?_
      dsimp only
      split
      · exact hr
      · exact State.folFail_kept _ hr
  exact hf s _ _ h

theorem State.startProg_kept {s : State} (src : ProgSrc) (pages : List PageProg) (h : s.Kept pq) : (State.startProg s
    src pages).Kept pq := by
  unfold State.startProg
  repeat' first
    | with_reducible intro _
    | (extract_lets -underBinder +onlyGivenNames x
       first | (first | apply kept_seq (pq := pq) x | apply kept_seq1 (pq := pq) x | apply kept_seq2 (pq := pq) x
                on_goal 1 => subst x
                on_goal 2 => (intro hx; try clear_value x)) | try clear_value x)
    | with_reducible first | assumption | apply State.setFol_kept | apply State.setF_kept | apply foldl_kept
                                  | apply kept_ite | apply kept1_ite | apply kept2_ite
    | dsimp only
    | with_reducible first | apply kept_fst | apply kept_snd
    | with_reducible apply kept1_of
    | with_reducible apply kept2_of
    | with_reducible apply kept_mk

theorem State.pageDone_kept {s : State} (g : PageProg) (h : s.Kept pq) : (State.pageDone s g).Kept pq := by
  unfold State.pageDone
  repeat' first
    | with_reducible intro _
    | (extract_lets -underBinder +onlyGivenNames x
       first | (first | apply kept_seq (pq := pq) x | apply kept_seq1 (pq := pq) x | apply kept_seq2 (pq := pq) x
                on_goal 1 => subst x
                on_goal 2 => (intro hx; try clear_value x)) | try clear_value x)
    | with_reducible first | assumption | apply State.setFol_kept | apply State.count_kept | apply State.ledger_kept
                                  | apply foldl_kept | apply kept_ite | apply kept1_ite | apply kept2_ite
    | dsimp only
    | with_reducible first | apply kept_fst | apply kept_snd
    | with_reducible apply kept1_of
    | with_reducible apply kept2_of
    | with_reducible apply kept_mk

theorem State.tearByte_kept {s : State} (a : Nat) (b : Byte) (h : s.Kept pq) : (State.tearByte s a b).Kept pq := by
  unfold State.tearByte
  repeat' first
    | with_reducible intro _
    | (extract_lets -underBinder +onlyGivenNames x
       first | (first | apply kept_seq (pq := pq) x | apply kept_seq1 (pq := pq) x | apply kept_seq2 (pq := pq) x
                on_goal 1 => subst x
                on_goal 2 => (intro hx; try clear_value x)) | try clear_value x)
    | with_reducible first | assumption | apply State.free_kept | apply State.setFol_kept
    | dsimp only
    | split
    | with_reducible first | apply kept_fst | apply kept_snd
    | with_reducible apply kept1_of
    | with_reducible apply kept2_of

theorem State.tearProg_kept {s : State} (q : FolProg) (h : s.Kept pq) : (State.tearProg s q).Kept pq := by
  unfold State.tearProg
  repeat' first
    | with_reducible intro _
    | (extract_lets -underBinder +onlyGivenNames x
       first | (first | apply kept_seq (pq := pq) x | apply kept_seq1 (pq := pq) x | apply kept_seq2 (pq := pq) x
                on_goal 1 => subst x
                on_goal 2 => (intro hx; try clear_value x)) | try clear_value x)
    | with_reducible first | assumption | apply State.each_kept | apply State.tearByte_kept | apply State.free_kept
                                  | apply State.setFol_kept | apply State.setF_kept | apply kept_ite
                                  | apply kept1_ite | apply kept2_ite
    | dsimp only
    | split
    | with_reducible first | apply kept_fst | apply kept_snd
    | with_reducible apply kept1_of
    | with_reducible apply kept2_of
    | with_reducible apply kept_mk

theorem State.abandonProg_kept {s : State} (h : s.Kept pq) : (State.abandonProg s).Kept pq := by
  unfold State.abandonProg
  repeat' first
    | with_reducible intro _
    | (extract_lets -underBinder +onlyGivenNames x
       first | (first | apply kept_seq (pq := pq) x | apply kept_seq1 (pq := pq) x | apply kept_seq2 (pq := pq) x
                on_goal 1 => subst x
                on_goal 2 => (intro hx; try clear_value x)) | try clear_value x)
    | with_reducible first | assumption | apply State.tearProg_kept | apply State.setFol_kept | apply foldl_kept
    | dsimp only
    | split
    | with_reducible first | apply kept_fst | apply kept_snd
    | with_reducible apply kept1_of
    | with_reducible apply kept2_of
    | with_reducible apply kept_mk

theorem State.queueJob_kept {s : State} (j : FolJob) (h : s.Kept pq) : (State.queueJob s j).Kept pq := by
  unfold State.queueJob
  repeat' first
    | with_reducible intro _
    | (extract_lets -underBinder +onlyGivenNames x
       first | (first | apply kept_seq (pq := pq) x | apply kept_seq1 (pq := pq) x | apply kept_seq2 (pq := pq) x
                on_goal 1 => subst x
                on_goal 2 => (intro hx; try clear_value x)) | try clear_value x)
    | with_reducible first | assumption | apply State.setFol_kept | apply State.setF_kept | apply State.count_kept
                                  | apply kept_ite | apply kept1_ite | apply kept2_ite
    | dsimp only
    | with_reducible first | apply kept_fst | apply kept_snd
    | with_reducible apply kept1_of
    | with_reducible apply kept2_of
    | with_reducible apply kept_mk

theorem State.dropJobs_kept {s : State} (h : s.Kept pq) : (State.dropJobs s).Kept pq := by
  unfold State.dropJobs
  repeat' first
    | with_reducible intro _
    | with_reducible first | assumption | apply State.setFol_kept
    | dsimp only
    | with_reducible apply kept_mk

theorem State.dropHand_kept {s : State} (h : s.Kept pq) : (State.dropHand s).Kept pq := by
  unfold State.dropHand
  repeat' first
    | with_reducible intro _
    | with_reducible first | assumption | apply State.setFol_kept
    | dsimp only
    | with_reducible apply kept_mk

theorem State.dropVaultCopy_kept {s : State} (h : s.Kept pq) : (State.dropVaultCopy s).Kept pq := by
  unfold State.dropVaultCopy
  repeat' first
    | with_reducible intro _
    | with_reducible first | assumption | apply State.setFol_kept | apply kept_ite | apply kept1_ite | apply kept2_ite
    | dsimp only
    | split
    | with_reducible first | apply kept_fst | apply kept_snd
    | with_reducible apply kept1_of
    | with_reducible apply kept2_of
    | with_reducible apply kept_mk

theorem State.jobGroups_kept {s : State} (j : FolJob) (h : s.Kept pq) : (State.jobGroups s j).2.Kept pq := by
  show Kept2 pq _
  unfold State.jobGroups
  repeat' first
    | with_reducible intro _
    | (extract_lets -underBinder +onlyGivenNames x
       first | (first | apply kept_seq (pq := pq) x | apply kept_seq1 (pq := pq) x | apply kept_seq2 (pq := pq) x
                on_goal 1 => subst x
                on_goal 2 => (intro hx; try clear_value x)) | try clear_value x)
    | with_reducible first | assumption | apply State.setF_kept | apply State.folRead_kept
    | dsimp only
    | split
    | with_reducible first | apply kept_fst | apply kept_snd
    | with_reducible apply kept1_of
    | with_reducible apply kept2_of
    | with_reducible apply kept_mk

theorem State.startGroup_kept {s : State} (w : FolWork) (h : s.Kept pq) : (State.startGroup s w).Kept pq := by
  unfold State.startGroup
  repeat' first
    | with_reducible intro _
    | (extract_lets -underBinder +onlyGivenNames x
       first | (first | apply kept_seq (pq := pq) x | apply kept_seq1 (pq := pq) x | apply kept_seq2 (pq := pq) x
                on_goal 1 => subst x
                on_goal 2 => (intro hx; try clear_value x)) | try clear_value x)
    | with_reducible first | assumption | apply State.setFol_kept | apply State.startProg_kept | apply kept_ite
                                  | apply kept1_ite | apply kept2_ite
    | dsimp only
    | split
    | with_reducible first | apply kept_fst | apply kept_snd
    | with_reducible apply kept1_of
    | with_reducible apply kept2_of
    | with_reducible apply kept_mk

theorem State.startJob_kept {s : State} (j : FolJob) (h : s.Kept pq) : (State.startJob s j).Kept pq := by
  unfold State.startJob
  repeat' first
    | with_reducible intro _
    | (extract_lets -underBinder +onlyGivenNames x
       first | (first | apply kept_seq (pq := pq) x | apply kept_seq1 (pq := pq) x | apply kept_seq2 (pq := pq) x
                on_goal 1 => subst x
                on_goal 2 => (intro hx; try clear_value x)) | try clear_value x)
    | with_reducible first | assumption | apply State.jobGroups_kept | apply State.startGroup_kept
    | dsimp only
    | with_reducible first | apply kept_fst | apply kept_snd
    | with_reducible apply kept1_of
    | with_reducible apply kept2_of

theorem execFolioJobStart_kept {s : State} (h : s.Kept pq) : KeptOut pq (execFolioJobStart s) := by
  unfold execFolioJobStart
  repeat' first
    | with_reducible intro _
    | with_reducible first | assumption | apply State.startJob_kept | apply State.startGroup_kept
                                  | apply State.setFol_kept | apply kept_ite | apply kept1_ite | apply kept2_ite
                                  | apply keptOut_next | apply keptOut_refused | apply keptOut_ite
    | dsimp only
    | split
    | with_reducible first | apply kept_fst | apply kept_snd
    | with_reducible apply kept1_of
    | with_reducible apply kept2_of
    | with_reducible apply kept_mk

theorem State.jobDone_kept {s : State} (j : FolJob) (h : s.Kept pq) : (State.jobDone s j).Kept pq := by
  unfold State.jobDone
  repeat' first
    | with_reducible intro _
    | (extract_lets -underBinder +onlyGivenNames x
       first | (first | apply kept_seq (pq := pq) x | apply kept_seq1 (pq := pq) x | apply kept_seq2 (pq := pq) x
                on_goal 1 => subst x
                on_goal 2 => (intro hx; try clear_value x)) | try clear_value x)
    | with_reducible first | assumption | apply State.setFol_kept | apply State.setF_kept | apply State.log_kept
                                  | apply State.ledger_kept | apply kept_ite | apply kept1_ite | apply kept2_ite
    | dsimp only
    | split
    | with_reducible first | apply kept_fst | apply kept_snd
    | with_reducible apply kept1_of
    | with_reducible apply kept2_of
    | with_reducible apply kept_mk

theorem State.mapEntry_kept {s : State} (p : Nat) (h : s.Kept pq) : (State.mapEntry s p).Kept pq := by
  unfold State.mapEntry
  repeat' first
    | with_reducible intro _
    | with_reducible first | assumption | apply State.setFol_kept | apply State.startProg_kept | apply kept_ite
                                  | apply kept1_ite | apply kept2_ite
    | dsimp only
    | with_reducible first | apply kept_fst | apply kept_snd
    | with_reducible apply kept1_of
    | with_reducible apply kept2_of
    | with_reducible apply kept_mk

theorem State.groupDone_kept {s : State} (h : s.Kept pq) : (State.groupDone s).Kept pq := by
  unfold State.groupDone
  repeat' first
    | with_reducible intro _
    | with_reducible first | assumption | apply State.mapEntry_kept | apply State.setFol_kept
                                  | apply State.jobDone_kept
    | dsimp only
    | split
    | with_reducible apply kept_mk

theorem State.setProt_kept {s : State} (v : Nat) (h : s.Kept pq) : (State.setProt s v).Kept pq := by
  unfold State.setProt
  repeat' first
    | with_reducible intro _
    | with_reducible first | assumption | apply State.setFol_kept | apply State.setF_kept
    | dsimp only
    | with_reducible apply kept_mk

theorem State.setMap_kept {s : State} (p : Nat) (k : Nat) (h : s.Kept pq) : (State.setMap s p k).Kept pq := by
  unfold State.setMap
  repeat' first
    | with_reducible intro _
    | (extract_lets -underBinder +onlyGivenNames x
       first | (first | apply kept_seq (pq := pq) x | apply kept_seq1 (pq := pq) x | apply kept_seq2 (pq := pq) x
                on_goal 1 => subst x
                on_goal 2 => (intro hx; try clear_value x)) | try clear_value x)
    | with_reducible first | assumption | apply State.setFol_kept | apply State.ledger_kept | apply kept_ite
                                  | apply kept1_ite | apply kept2_ite
    | dsimp only
    | with_reducible first | apply kept_fst | apply kept_snd
    | with_reducible apply kept1_of
    | with_reducible apply kept2_of
    | with_reducible apply kept_mk

theorem State.reqOutcome_kept {s : State} (w : Requester) (refused : Bool) (data : List Byte) (h : s.Kept pq) :
    (State.reqOutcome s w refused data).Kept pq := by
  unfold State.reqOutcome
  repeat' first
    | with_reducible intro _
    | with_reducible first | assumption | apply kept_ite | apply kept1_ite | apply kept2_ite
    | dsimp only
    | with_reducible first | apply kept_fst | apply kept_snd
    | with_reducible apply kept1_of
    | with_reducible apply kept2_of
    | with_reducible apply kept_mk

theorem State.refCount_kept {s : State} (h : s.Kept pq) : (State.refCount s).Kept pq := by
  unfold State.refCount
  repeat' first
    | with_reducible intro _
    | with_reducible first | assumption | apply State.cond_kept | apply State.count_kept
    | dsimp only

theorem State.folRefuse_kept {s : State} (t : FolTxn) (h : s.Kept pq) : (State.folRefuse s t).Kept pq := by
  unfold State.folRefuse
  repeat' first
    | with_reducible intro _
    | (extract_lets -underBinder +onlyGivenNames x
       first | (first | apply kept_seq (pq := pq) x | apply kept_seq1 (pq := pq) x | apply kept_seq2 (pq := pq) x
                on_goal 1 => subst x
                on_goal 2 => (intro hx; try clear_value x)) | try clear_value x)
    | with_reducible first | assumption | apply State.refCount_kept | apply State.cond_kept | apply State.setF_kept
                                  | apply State.setFol_kept | apply State.reqOutcome_kept
    | dsimp only
    | with_reducible first | apply kept_fst | apply kept_snd
    | with_reducible apply kept1_of
    | with_reducible apply kept2_of
    | with_reducible apply kept_mk

theorem State.folRefuseAll_kept {s : State} (h : s.Kept pq) : (State.folRefuseAll s).Kept pq := by
  unfold State.folRefuseAll
  repeat' first
    | with_reducible intro _
    | (extract_lets -underBinder +onlyGivenNames x
       first | (first | apply kept_seq (pq := pq) x | apply kept_seq1 (pq := pq) x | apply kept_seq2 (pq := pq) x
                on_goal 1 => subst x
                on_goal 2 => (intro hx; try clear_value x)) | try clear_value x)
    | with_reducible first | assumption | apply State.setFol_kept | apply State.each_kept
                                  | apply State.refCount_kept | apply State.reqOutcome_kept
    | dsimp only
    | with_reducible first | apply kept_fst | apply kept_snd
    | with_reducible apply kept1_of
    | with_reducible apply kept2_of
    | with_reducible apply kept_mk

theorem State.folShut_kept {s : State} (h : s.Kept pq) : (State.folShut s).Kept pq := by
  unfold State.folShut
  repeat' first
    | with_reducible intro _
    | (extract_lets -underBinder +onlyGivenNames x
       first | (first | apply kept_seq (pq := pq) x | apply kept_seq1 (pq := pq) x | apply kept_seq2 (pq := pq) x
                on_goal 1 => subst x
                on_goal 2 => (intro hx; try clear_value x)) | try clear_value x)
    | with_reducible first | assumption | apply State.setFol_kept | apply State.folRefuseAll_kept
                                  | apply State.each_kept | apply State.refCount_kept | apply State.reqOutcome_kept
    | dsimp only
    | with_reducible first | apply kept_fst | apply kept_snd
    | with_reducible apply kept1_of
    | with_reducible apply kept2_of
    | with_reducible apply kept_mk

theorem State.protTake_kept {s : State} (v : Nat) (m : Nat) (h : s.Kept pq) : (State.protTake s v m).Kept pq := by
  unfold State.protTake
  repeat' first
    | with_reducible intro _
    | with_reducible first | assumption | apply State.refCount_kept | apply State.reject_kept
                                  | apply State.startProg_kept | apply kept_ite | apply kept1_ite | apply kept2_ite
    | dsimp only
    | with_reducible first | apply kept_fst | apply kept_snd
    | with_reducible apply kept1_of
    | with_reducible apply kept2_of

theorem State.folWritePage_kept {s : State} (t : FolTxn) (h : s.Kept pq) : (State.folWritePage s t).Kept pq := by
  unfold State.folWritePage
  repeat' first
    | with_reducible intro _
    | (extract_lets -underBinder +onlyGivenNames x
       first | (first | apply kept_seq (pq := pq) x | apply kept_seq1 (pq := pq) x | apply kept_seq2 (pq := pq) x
                on_goal 1 => subst x
                on_goal 2 => (intro hx; try clear_value x)) | try clear_value x)
    | with_reducible first | assumption | apply State.folRefuse_kept | apply State.setFol_kept
                                  | apply State.startProg_kept | apply kept_ite | apply kept1_ite | apply kept2_ite
    | dsimp only
    | with_reducible first | apply kept_fst | apply kept_snd
    | with_reducible apply kept1_of
    | with_reducible apply kept2_of
    | with_reducible apply kept_mk

theorem State.folTake_kept {s : State} (t : FolTxn) (h : s.Kept pq) : (State.folTake s t).Kept pq := by
  unfold State.folTake
  repeat' first
    | with_reducible intro _
    | (extract_lets -underBinder +onlyGivenNames x
       first | (first | apply kept_seq (pq := pq) x | apply kept_seq1 (pq := pq) x | apply kept_seq2 (pq := pq) x
                on_goal 1 => subst x
                on_goal 2 => (intro hx; try clear_value x)) | try clear_value x)
    | with_reducible first | assumption | apply State.protTake_kept | apply State.reqOutcome_kept
                                  | apply State.folRefuse_kept | apply State.folRead_kept
                                  | apply State.folWritePage_kept | apply kept_ite | apply kept1_ite
                                  | apply kept2_ite
    | dsimp only
    | split
    | with_reducible first | apply kept_fst | apply kept_snd
    | with_reducible apply kept1_of
    | with_reducible apply kept2_of

theorem State.folAccess_kept {s : State} (h : s.Kept pq) : (State.folAccess s).Kept pq := by
  unfold State.folAccess
  repeat' first
    | with_reducible intro _
    | (extract_lets -underBinder +onlyGivenNames x
       first | (first | apply kept_seq (pq := pq) x | apply kept_seq1 (pq := pq) x | apply kept_seq2 (pq := pq) x
                on_goal 1 => subst x
                on_goal 2 => (intro hx; try clear_value x)) | try clear_value x)
    | with_reducible first | assumption | apply State.setFol_kept | apply State.folTake_kept | apply kept_ite
                                  | apply kept1_ite | apply kept2_ite
    | dsimp only
    | split
    | with_reducible first | apply kept_fst | apply kept_snd
    | with_reducible apply kept1_of
    | with_reducible apply kept2_of
    | with_reducible apply kept_mk

theorem State.progEnd_kept {s : State} (h : s.Kept pq) : (State.progEnd s).Kept pq := by
  unfold State.progEnd
  repeat' first
    | with_reducible intro _
    | (extract_lets -underBinder +onlyGivenNames x
       first | (first | apply kept_seq (pq := pq) x | apply kept_seq1 (pq := pq) x | apply kept_seq2 (pq := pq) x
                on_goal 1 => subst x
                on_goal 2 => (intro hx; try clear_value x)) | try clear_value x)
    | with_reducible first | assumption | apply State.each_kept | apply State.pageDone_kept
                                  | apply State.setFol_kept | apply State.setF_kept | apply State.reqOutcome_kept
                                  | apply State.folWritePage_kept | apply State.groupDone_kept
                                  | apply State.setProt_kept | apply State.cond_kept | apply State.setMap_kept
                                  | apply kept_ite | apply kept1_ite | apply kept2_ite
    | dsimp only
    | split
    | with_reducible first | apply kept_fst | apply kept_snd
    | with_reducible apply kept1_of
    | with_reducible apply kept2_of
    | with_reducible apply kept_mk

theorem State.startSave_kept {s : State} (h : s.Kept pq) : (State.startSave s).Kept pq := by
  unfold State.startSave
  repeat' first
    | with_reducible intro _
    | (extract_lets -underBinder +onlyGivenNames x
       first | (first | apply kept_seq (pq := pq) x | apply kept_seq1 (pq := pq) x | apply kept_seq2 (pq := pq) x
                on_goal 1 => subst x
                on_goal 2 => (intro hx; try clear_value x)) | try clear_value x)
    | with_reducible first | assumption | apply State.setFol_kept | apply State.startProg_kept | apply kept_ite
                                  | apply kept1_ite | apply kept2_ite
    | dsimp only
    | with_reducible first | apply kept_fst | apply kept_snd
    | with_reducible apply kept1_of
    | with_reducible apply kept2_of
    | with_reducible apply kept_mk

theorem State.pfi_kept {s : State} (h : s.Kept pq) : (State.pfi s).Kept pq := by
  unfold State.pfi
  repeat' first
    | with_reducible intro _
    | (extract_lets -underBinder +onlyGivenNames x
       first | (first | apply kept_seq (pq := pq) x | apply kept_seq1 (pq := pq) x | apply kept_seq2 (pq := pq) x
                on_goal 1 => subst x
                on_goal 2 => (intro hx; try clear_value x)) | try clear_value x)
    | with_reducible first | assumption | apply State.setF_kept | apply State.safeAssert_kept
                                  | apply State.dropJobs_kept | apply State.dropHand_kept
                                  | apply State.abandonProg_kept | apply State.folShut_kept
                                  | apply State.startSave_kept | apply kept_ite | apply kept1_ite | apply kept2_ite
    | dsimp only
    | with_reducible first | apply kept_fst | apply kept_snd
    | with_reducible apply kept1_of
    | with_reducible apply kept2_of

theorem State.readSlot_kept {s : State} (b : Nat) (h : s.Kept pq) : (State.readSlot s b).2.Kept pq := by
  show Kept2 pq _
  unfold State.readSlot
  repeat' first
    | with_reducible intro _
    | (extract_lets -underBinder +onlyGivenNames x
       first | (first | apply kept_seq (pq := pq) x | apply kept_seq1 (pq := pq) x | apply kept_seq2 (pq := pq) x
                on_goal 1 => subst x
                on_goal 2 => (intro hx; try clear_value x)) | try clear_value x)
    | with_reducible first | assumption | apply State.folRead_kept | apply kept_ite | apply kept1_ite
                                  | apply kept2_ite
    | dsimp only
    | with_reducible first | apply kept_fst | apply kept_snd
    | with_reducible apply kept1_of
    | with_reducible apply kept2_of

theorem State.loadLive_kept {s : State} (img : List Byte) (h : s.Kept pq) : (State.loadLive s img).Kept pq := by
  unfold State.loadLive
  repeat' first
    | with_reducible intro _
    | with_reducible first | assumption | apply State.each_kept | apply State.wr_kept
    | dsimp only

theorem State.restoreSave_kept {s : State} (h : s.Kept pq) : (State.restoreSave s).Kept pq := by
  unfold State.restoreSave
  repeat' first
    | with_reducible intro _
    | (extract_lets -underBinder +onlyGivenNames x
       first | (first | apply kept_seq (pq := pq) x | apply kept_seq1 (pq := pq) x | apply kept_seq2 (pq := pq) x
                on_goal 1 => subst x
                on_goal 2 => (intro hx; try clear_value x)) | try clear_value x)
    | with_reducible first | assumption | apply State.readSlot_kept | apply State.setFol_kept
                                  | apply State.loadLive_kept | apply State.setF_kept | apply kept_ite
                                  | apply kept1_ite | apply kept2_ite
    | dsimp only
    | split
    | with_reducible first | apply kept_fst | apply kept_snd
    | with_reducible apply kept1_of
    | with_reducible apply kept2_of
    | with_reducible apply kept_mk

theorem State.openSession_kept {s : State} (h : s.Kept pq) : (State.openSession s).Kept pq := by
  unfold State.openSession
  repeat' first
    | with_reducible intro _
    | (extract_lets -underBinder +onlyGivenNames x
       first | (first | apply kept_seq (pq := pq) x | apply kept_seq1 (pq := pq) x | apply kept_seq2 (pq := pq) x
                on_goal 1 => subst x
                on_goal 2 => (intro hx; try clear_value x)) | try clear_value x)
    | with_reducible first | assumption | apply State.folRead_kept | apply State.cond_kept | apply State.setF_kept
                                  | apply State.wr_kept | apply State.log_kept | apply State.queueJob_kept
                                  | apply kept_ite | apply kept1_ite | apply kept2_ite
    | dsimp only
    | with_reducible first | apply kept_fst | apply kept_snd
    | with_reducible apply kept1_of
    | with_reducible apply kept2_of

theorem State.recallEnd_kept {s : State} (h : s.Kept pq) : (State.recallEnd s).Kept pq := by
  unfold State.recallEnd
  repeat' first
    | with_reducible intro _
    | (extract_lets -underBinder +onlyGivenNames x
       first | (first | apply kept_seq (pq := pq) x | apply kept_seq1 (pq := pq) x | apply kept_seq2 (pq := pq) x
                on_goal 1 => subst x
                on_goal 2 => (intro hx; try clear_value x)) | try clear_value x)
    | with_reducible first | assumption | apply State.setFol_kept | apply State.setF_kept
                                  | apply State.restoreSave_kept | apply State.openSession_kept | apply foldl_kept
                                  | apply kept_ite | apply kept1_ite | apply kept2_ite
    | dsimp only
    | split
    | with_reducible first | apply kept_fst | apply kept_snd
    | with_reducible apply kept1_of
    | with_reducible apply kept2_of
    | with_reducible apply kept_mk

theorem State.restoreRates_kept {s : State} (h : s.Kept pq) : (State.restoreRates s).Kept pq := by
  unfold State.restoreRates
  repeat' first
    | with_reducible intro _
    | (extract_lets -underBinder +onlyGivenNames x
       first | (first | apply kept_seq (pq := pq) x | apply kept_seq1 (pq := pq) x | apply kept_seq2 (pq := pq) x
                on_goal 1 => subst x
                on_goal 2 => (intro hx; try clear_value x)) | try clear_value x)
    | with_reducible first | assumption | apply State.folRead_kept | apply State.each_kept | apply State.setM_kept
                                  | apply kept_ite | apply kept1_ite | apply kept2_ite
    | dsimp only
    | with_reducible first | apply kept_fst | apply kept_snd
    | with_reducible apply kept1_of
    | with_reducible apply kept2_of

theorem State.loadVault_kept {s : State} (h : s.Kept pq) : (State.loadVault s).Kept pq := by
  unfold State.loadVault
  repeat' first
    | with_reducible intro _
    | (extract_lets -underBinder +onlyGivenNames x
       first | (first | apply kept_seq (pq := pq) x | apply kept_seq1 (pq := pq) x | apply kept_seq2 (pq := pq) x
                on_goal 1 => subst x
                on_goal 2 => (intro hx; try clear_value x)) | try clear_value x)
    | with_reducible first | assumption | apply State.folRead_kept | apply State.setBytes_kept
                                  | apply State.setF_kept | apply kept_ite | apply kept1_ite | apply kept2_ite
    | dsimp only
    | with_reducible first | apply kept_fst | apply kept_snd
    | with_reducible apply kept1_of
    | with_reducible apply kept2_of
    | with_reducible apply kept_mk

theorem State.bootReads_kept {s : State} (h : s.Kept pq) : (State.bootReads s).Kept pq := by
  unfold State.bootReads
  repeat' first
    | with_reducible intro _
    | (extract_lets -underBinder +onlyGivenNames x
       first | (first | apply kept_seq (pq := pq) x | apply kept_seq1 (pq := pq) x | apply kept_seq2 (pq := pq) x
                on_goal 1 => subst x
                on_goal 2 => (intro hx; try clear_value x)) | try clear_value x)
    | with_reducible first | assumption | apply State.restoreRates_kept | apply State.loadVault_kept
                                  | apply kept_ite | apply kept1_ite | apply kept2_ite
    | dsimp only
    | with_reducible first | apply kept_fst | apply kept_snd
    | with_reducible apply kept1_of
    | with_reducible apply kept2_of
    | with_reducible apply kept_mk

theorem State.readsLeft_kept {s : State} (h : s.Kept pq) : (State.readsLeft s).Kept pq := by
  unfold State.readsLeft
  repeat' first
    | with_reducible intro _
    | with_reducible first | assumption | apply State.cond_kept | apply State.bootReads_kept
    | dsimp only

theorem State.remapWrite_kept {s : State} (w : Nat) (h : s.Kept pq) : (State.remapWrite s w).1.Kept pq := by
  show Kept1 pq _
  unfold State.remapWrite
  repeat' first
    | with_reducible intro _
    | (extract_lets -underBinder +onlyGivenNames x
       first | (first | apply kept_seq (pq := pq) x | apply kept_seq1 (pq := pq) x | apply kept_seq2 (pq := pq) x
                on_goal 1 => subst x
                on_goal 2 => (intro hx; try clear_value x)) | try clear_value x)
    | with_reducible first | assumption | apply State.queueJob_kept | apply kept_ite | apply kept1_ite
                                  | apply kept2_ite
    | dsimp only
    | with_reducible first | apply kept_fst | apply kept_snd
    | with_reducible apply kept1_of
    | with_reducible apply kept2_of

theorem State.protWrite_kept {s : State} (w : Nat) (h : s.Kept pq) : (State.protWrite s w).1.Kept pq := by
  show Kept1 pq _
  unfold State.protWrite
  repeat' first
    | with_reducible intro _
    | (extract_lets -underBinder +onlyGivenNames x
       first | (first | apply kept_seq (pq := pq) x | apply kept_seq1 (pq := pq) x | apply kept_seq2 (pq := pq) x
                on_goal 1 => subst x
                on_goal 2 => (intro hx; try clear_value x)) | try clear_value x)
    | with_reducible first | assumption | apply State.refCount_kept | apply State.setFol_kept
                                  | apply State.startProg_kept | apply kept_ite | apply kept1_ite | apply kept2_ite
    | dsimp only
    | with_reducible first | apply kept_fst | apply kept_snd
    | with_reducible apply kept1_of
    | with_reducible apply kept2_of
    | with_reducible apply kept_mk

theorem State.protBy_kept {s : State} (who : Nat) (h : s.Kept pq) : (State.protBy s who).Kept pq := by
  unfold State.protBy
  repeat' first
    | with_reducible intro _
    | with_reducible first | assumption | apply State.setFol_kept | apply kept_ite | apply kept1_ite | apply kept2_ite
    | dsimp only
    | with_reducible first | apply kept_fst | apply kept_snd
    | with_reducible apply kept1_of
    | with_reducible apply kept2_of
    | with_reducible apply kept_mk

theorem State.protImage_kept {s : State} (v : Nat) (h : s.Kept pq) : (State.protImage s v).Kept pq := by
  unfold State.protImage
  repeat' first
    | with_reducible intro _
    | with_reducible first | assumption | apply State.setFol_kept | apply State.queueJob_kept | apply kept_ite
                                  | apply kept1_ite | apply kept2_ite
    | dsimp only
    | with_reducible first | apply kept_fst | apply kept_snd
    | with_reducible apply kept1_of
    | with_reducible apply kept2_of
    | with_reducible apply kept_mk

theorem State.ucWrite_kept {s : State} (w : Nat) (h : s.Kept pq) : (State.ucWrite s w).Kept pq := by
  unfold State.ucWrite
  repeat' first
    | with_reducible intro _
    | with_reducible first | assumption | apply State.each_kept | apply State.liveAdd_kept
    | dsimp only

theorem State.liveWrite_kept {s : State} (i : Nat) (w : Nat) (h : s.Kept pq) : (State.liveWrite s i w).Kept pq := by
  unfold State.liveWrite
  repeat' first
    | with_reducible intro _
    | with_reducible first | assumption | apply State.wr_kept | apply kept_ite | apply kept1_ite | apply kept2_ite
    | dsimp only
    | with_reducible first | apply kept_fst | apply kept_snd
    | with_reducible apply kept1_of
    | with_reducible apply kept2_of

theorem State.energy_kept {s : State} (h : s.Kept pq) : (State.energy s).Kept pq := by
  unfold State.energy
  repeat' first
    | with_reducible intro _
    | (extract_lets -underBinder +onlyGivenNames x
       first | (first | apply kept_seq (pq := pq) x | apply kept_seq1 (pq := pq) x | apply kept_seq2 (pq := pq) x
                on_goal 1 => subst x
                on_goal 2 => (intro hx; try clear_value x)) | try clear_value x)
    | with_reducible first | assumption | apply State.each_kept | apply State.wr_kept | apply kept_ite
                                  | apply kept1_ite | apply kept2_ite
    | dsimp only
    | with_reducible first | apply kept_fst | apply kept_snd
    | with_reducible apply kept1_of
    | with_reducible apply kept2_of

theorem State.liveSecond_kept {s : State} (h : s.Kept pq) : (State.liveSecond s).Kept pq := by
  unfold State.liveSecond
  repeat' first
    | with_reducible intro _
    | (extract_lets -underBinder +onlyGivenNames x
       first | (first | apply kept_seq (pq := pq) x | apply kept_seq1 (pq := pq) x | apply kept_seq2 (pq := pq) x
                on_goal 1 => subst x
                on_goal 2 => (intro hx; try clear_value x)) | try clear_value x)
    | with_reducible first | assumption | apply State.cond_kept | apply State.liveAdd_kept | apply State.each_kept
                                  | apply State.energy_kept
    | dsimp only
    | with_reducible first | apply kept_fst | apply kept_snd
    | with_reducible apply kept1_of
    | with_reducible apply kept2_of

theorem execPowerDownSaveEnd_kept {s : State} (h : s.Kept pq) : KeptOut pq (execPowerDownSaveEnd s) := by
  unfold execPowerDownSaveEnd
  repeat' first
    | with_reducible intro _
    | (extract_lets -underBinder +onlyGivenNames x
       first | (first | apply kept_seq (pq := pq) x | apply kept_seq1 (pq := pq) x | apply kept_seq2 (pq := pq) x
                on_goal 1 => subst x
                on_goal 2 => (intro hx; try clear_value x)) | try clear_value x)
    | with_reducible first | assumption | apply State.each_kept | apply State.pageDone_kept
                                  | apply State.setFol_kept | apply State.setF_kept | apply State.readsLeft_kept
                                  | apply kept_ite | apply kept1_ite | apply kept2_ite | apply keptOut_next
                                  | apply keptOut_refused | apply keptOut_ite
    | dsimp only
    | split
    | with_reducible first | apply kept_fst | apply kept_snd
    | with_reducible apply kept1_of
    | with_reducible apply kept2_of
    | with_reducible apply kept_mk

end Sys2Proof.Machine
end

