-- ==== Sys2Proof/Laws/KeptReset.lean ====
section
/-! SUPPORT. What the functions of Reset keep. -/

namespace Sys2Proof.Machine

set_option linter.unusedTactic false
set_option linter.unreachableTactic false
set_option linter.tactic.unusedName false

variable {pq : List Instr}

theorem State.folAfter_kept {s : State} (h : s.Kept pq) : (State.folAfter s).Kept pq := by
  unfold State.folAfter
  repeat' first
    | with_reducible intro _
    | with_reducible first | assumption | apply State.setB_kept | apply State.setF_kept
    | dsimp only

theorem State.clearRun_kept {s : State} (h : s.Kept pq) : (State.clearRun s).Kept pq := by
  unfold State.clearRun
  repeat' first
    | with_reducible intro _
    | with_reducible first | assumption
    | dsimp only
    | with_reducible apply kept_mk

theorem State.encDrop_kept {s : State} (h : s.Kept pq) : (State.encDrop s).Kept pq := by
  unfold State.encDrop
  repeat' first
    | with_reducible intro _
    | with_reducible first | assumption
    | dsimp only
    | with_reducible apply kept_mk

theorem keepAon_some {e x : Nat × Word} (h : keepAon e = some x) : x.1 = e.1 ∧ x.2 ≠ resetWord x.1 := by
  unfold keepAon at h
  dsimp only at h
  generalize BitVec.ofNat 32 _ = w at h
  by_cases hw : w = resetWord e.1
  · simp [hw] at h
  · rw [if_neg hw, Option.some.injEq] at h
    exact h ▸ ⟨rfl, hw⟩

theorem unwrite_some {e x : Nat × Word} (h : unwrite e = some x) : x.1 = e.1 ∧ x.2 ≠ resetWord x.1 := by
  unfold unwrite at h
  extract_lets +onlyGivenNames m w at h
  by_cases hw : w = resetWord e.1
  · simp [hw] at h
  · rw [if_neg hw, Option.some.injEq] at h
    exact h ▸ ⟨rfl, hw⟩

theorem regsWf_keepAon {r : List (Nat × Word)} (h : regsWf r = true) : regsWf (r.filterMap keepAon) = true :=
  canonical_filterMap h _ (fun _ _ hx => (keepAon_some hx).1) (fun _ _ _ hx => (keepAon_some hx).2)

theorem regsWf_unwrite {r : List (Nat × Word)} (h : regsWf r = true) : regsWf (r.filterMap unwrite) = true :=
  canonical_filterMap h _ (fun _ _ hx => (unwrite_some hx).1) (fun _ _ _ hx => (unwrite_some hx).2)

theorem State.otherReset_kept {s : State} (cause : Fld) (h : s.Kept pq) : (State.otherReset s cause).Kept pq := by
  unfold State.otherReset
  refine State.encDrop_kept (State.folAfter_kept (State.setF_kept _ _ ?_))
  have hc := State.clearRun_kept h
  exact ⟨regsWf_keepAon h.1, Memory.wf_clear hc.2.1 _ _, hc.2.2⟩

theorem State.powerReset_kept {s : State} (core : Bool) (h : s.Kept pq) : (State.powerReset s core).Kept pq := by
  have hm : ∀ t : State, t.Kept pq → ∀ u : State, u.regs = [] → u.mem = [] → u.pending = t.pending → u.Kept pq :=
    fun t ht u hr hm hp => ⟨by rw [hr]; rfl, by rw [hm]; rfl, by rw [hp]; exact ht.2.2⟩
  unfold State.powerReset
  refine State.folAfter_kept ?_
  have hs : ∀ q, (s.cond (!s.saveLasts core) (fun t => t.dropHand.tearProg q)).Kept pq :=
    fun q => State.cond_kept (fun t ht => State.tearProg_kept q (State.dropHand_kept ht)) _ h
  cases s.fol.prog with
  | none => exact hm _ (State.clearRun_kept h) _ rfl rfl rfl
  | some q => exact hm _ (State.clearRun_kept (hs q)) _ rfl rfl rfl

theorem State.clearImage_kept {s : State} (h : s.Kept pq) : (State.clearImage s).Kept pq := by
  unfold State.clearImage
  refine State.setFol_kept _ ?_
  exact ⟨regsWf_unwrite h.1, Memory.wf_clear (Memory.wf_clear h.2.1 _ _) _ _, h.2.2⟩

theorem State.phase_kept {s : State} (k : Nat) (h : s.Kept pq) : (State.phase s k).Kept pq := by
  unfold State.phase
  repeat' first
    | with_reducible intro _
    | with_reducible first | assumption | apply State.setF_kept
    | dsimp only

theorem State.toStage_kept {s : State} (st : BootStage) (h : s.Kept pq) : (State.toStage s st).Kept pq := by
  unfold State.toStage
  repeat' first
    | with_reducible intro _
    | with_reducible first | assumption
    | dsimp only
    | with_reducible apply kept_mk

theorem State.bootFlash_kept {s : State} (h : s.Kept pq) : (State.bootFlash s).Kept pq := by
  unfold State.bootFlash
  repeat' first
    | with_reducible intro _
    | (extract_lets -underBinder +onlyGivenNames x
       first | (first | apply kept_seq (pq := pq) x | apply kept_seq1 (pq := pq) x | apply kept_seq2 (pq := pq) x
                on_goal 1 => subst x
                on_goal 2 => (intro hx; try clear_value x)) | try clear_value x)
    | with_reducible first | assumption | apply State.setF_kept | apply State.toStage_kept | apply State.phase_kept
    | dsimp only
    | with_reducible first | apply kept_fst | apply kept_snd
    | with_reducible apply kept1_of
    | with_reducible apply kept2_of
    | with_reducible apply kept_mk
    | with_reducible apply Memory.wf_clear
    | exact kept_wf ‹_›
    | apply kept_mk_mem

theorem State.goSlot_kept {s : State} (k : Nat) (h : s.Kept pq) : (State.goSlot s k).Kept pq := by
  unfold State.goSlot
  repeat' first
    | with_reducible intro _
    | (extract_lets -underBinder +onlyGivenNames x
       first | (first | apply kept_seq (pq := pq) x | apply kept_seq1 (pq := pq) x | apply kept_seq2 (pq := pq) x
                on_goal 1 => subst x
                on_goal 2 => (intro hx; try clear_value x)) | try clear_value x)
    | with_reducible first | assumption | apply State.bootFlash_kept
    | dsimp only
    | with_reducible first | apply kept_fst | apply kept_snd
    | with_reducible apply kept1_of
    | with_reducible apply kept2_of
    | with_reducible apply kept_mk

theorem State.setUnit_kept {s : State} (code : Nat) (h : s.Kept pq) : (State.setUnit s code).Kept pq := by
  unfold State.setUnit
  repeat' first
    | with_reducible intro _
    | (extract_lets -underBinder +onlyGivenNames x
       first | (first | apply kept_seq (pq := pq) x | apply kept_seq1 (pq := pq) x | apply kept_seq2 (pq := pq) x
                on_goal 1 => subst x
                on_goal 2 => (intro hx; try clear_value x)) | try clear_value x)
    | with_reducible first | assumption | apply State.setF_kept | apply State.gensAbort_kept
                                  | apply State.capEnd_kept | apply kept_ite | apply kept1_ite | apply kept2_ite
    | dsimp only
    | with_reducible first | apply kept_fst | apply kept_snd
    | with_reducible apply kept1_of
    | with_reducible apply kept2_of

theorem State.almHalt_kept {s : State} (h : s.Kept pq) : (State.almHalt s).Kept pq := by
  unfold State.almHalt
  repeat' first
    | with_reducible intro _
    | with_reducible first | assumption
    | dsimp only
    | with_reducible apply kept_mk

theorem State.linkOff_kept {s : State} (h : s.Kept pq) : (State.linkOff s).Kept pq := by
  unfold State.linkOff
  repeat' first
    | with_reducible intro _
    | (extract_lets -underBinder +onlyGivenNames x
       first | (first | apply kept_seq (pq := pq) x | apply kept_seq1 (pq := pq) x | apply kept_seq2 (pq := pq) x
                on_goal 1 => subst x
                on_goal 2 => (intro hx; try clear_value x)) | try clear_value x)
    | with_reducible first | assumption | apply State.setF_kept
    | dsimp only
    | with_reducible first | apply kept_fst | apply kept_snd
    | with_reducible apply kept1_of
    | with_reducible apply kept2_of
    | with_reducible apply kept_mk

theorem State.pinsLow_kept {s : State} (h : s.Kept pq) : (State.pinsLow s).Kept pq := by
  unfold State.pinsLow
  repeat' first
    | with_reducible intro _
    | (extract_lets -underBinder +onlyGivenNames x
       first | (first | apply kept_seq (pq := pq) x | apply kept_seq1 (pq := pq) x | apply kept_seq2 (pq := pq) x
                on_goal 1 => subst x
                on_goal 2 => (intro hx; try clear_value x)) | try clear_value x)
    | with_reducible first | assumption | apply State.each_kept | apply State.groupForce_kept
                                  | apply State.setGpc_kept
    | dsimp only
    | with_reducible first | apply kept_fst | apply kept_snd
    | with_reducible apply kept1_of
    | with_reducible apply kept2_of
    | with_reducible apply kept_mk

theorem State.frameStop_kept {s : State} (h : s.Kept pq) : (State.frameStop s).Kept pq := by
  unfold State.frameStop
  repeat' first
    | with_reducible intro _
    | (extract_lets -underBinder +onlyGivenNames x
       first | (first | apply kept_seq (pq := pq) x | apply kept_seq1 (pq := pq) x | apply kept_seq2 (pq := pq) x
                on_goal 1 => subst x
                on_goal 2 => (intro hx; try clear_value x)) | try clear_value x)
    | with_reducible first | assumption | apply State.free_kept | apply State.setF_kept | apply kept_ite
                                  | apply kept1_ite | apply kept2_ite
    | dsimp only
    | with_reducible first | apply kept_fst | apply kept_snd
    | with_reducible apply kept1_of
    | with_reducible apply kept2_of
    | with_reducible apply kept_mk

theorem State.planesStop_kept {s : State} (h : s.Kept pq) : (State.planesStop s).Kept pq := by
  unfold State.planesStop
  repeat' first
    | with_reducible intro _
    | with_reducible first | assumption | apply State.engineHalt_kept | apply State.almHalt_kept
                                  | apply State.canStop_kept | apply State.linkOff_kept
    | dsimp only

end Sys2Proof.Machine
end

