-- ==== Sys2Proof/Laws/KeptThermal.lean ====
section
/-! SUPPORT. What the functions of Thermal keep. -/

namespace Sys2Proof.Machine

set_option linter.unusedTactic false
set_option linter.unreachableTactic false
set_option linter.tactic.unusedName false

variable {pq : List Instr}

theorem State.setThm_kept {s : State} (f : Thermal → Thermal) (h : s.Kept pq) : (State.setThm s f).Kept pq := by
  unfold State.setThm
  repeat' first
    | with_reducible intro _
    | with_reducible first | assumption
    | dsimp only
    | with_reducible apply kept_mk

theorem State.breakSensor_kept {s : State} (k : Nat) (cause : Nat) (h : s.Kept pq) : (State.breakSensor s k
    cause).Kept pq := by
  unfold State.breakSensor
  repeat' first
    | with_reducible intro _
    | with_reducible first | assumption | apply State.setF_kept
    | dsimp only

theorem State.sensor_kept {s : State} (k : Nat) (t : Int) (h : s.Kept pq) : (State.sensor s k t).Kept pq := by
  unfold State.sensor
  repeat' first
    | with_reducible intro _
    | (extract_lets -underBinder +onlyGivenNames x
       first | (first | apply kept_seq (pq := pq) x | apply kept_seq1 (pq := pq) x | apply kept_seq2 (pq := pq) x
                on_goal 1 => subst x
                on_goal 2 => (intro hx; try clear_value x)) | try clear_value x)
    | with_reducible first | assumption | apply State.setThm_kept | apply State.setI_kept | apply State.setF_kept
                                  | apply State.breakSensor_kept | apply foldl_kept | apply kept_ite
                                  | apply kept1_ite | apply kept2_ite
    | dsimp only
    | with_reducible first | apply kept_fst | apply kept_snd
    | with_reducible apply kept1_of
    | with_reducible apply kept2_of
    | with_reducible apply kept_mk

theorem State.setThermal_kept {s : State} (k : Nat) (h : s.Kept pq) : (State.setThermal s k).Kept pq := by
  unfold State.setThermal
  repeat' first
    | with_reducible intro _
    | with_reducible first | assumption | apply State.setF_kept | apply kept_ite | apply kept1_ite | apply kept2_ite
    | dsimp only
    | with_reducible first | apply kept_fst | apply kept_snd
    | with_reducible apply kept1_of
    | with_reducible apply kept2_of

theorem State.windowUpdate_kept {s : State} (h : s.Kept pq) : (State.windowUpdate s).Kept pq := by
  unfold State.windowUpdate
  repeat' first
    | with_reducible intro _
    | (extract_lets -underBinder +onlyGivenNames x
       first | (first | apply kept_seq (pq := pq) x | apply kept_seq1 (pq := pq) x | apply kept_seq2 (pq := pq) x
                on_goal 1 => subst x
                on_goal 2 => (intro hx; try clear_value x)) | try clear_value x)
    | with_reducible first | assumption | apply State.dropVaultCopy_kept | apply State.setB_kept
                                  | apply State.cond_kept | apply kept_ite | apply kept1_ite | apply kept2_ite
    | dsimp only
    | with_reducible first | apply kept_fst | apply kept_snd
    | with_reducible apply kept1_of
    | with_reducible apply kept2_of

theorem State.warmEnter_kept {s : State} (h : s.Kept pq) : (State.warmEnter s).Kept pq := by
  unfold State.warmEnter
  repeat' first
    | with_reducible intro _
    | (extract_lets -underBinder +onlyGivenNames x
       first | (first | apply kept_seq (pq := pq) x | apply kept_seq1 (pq := pq) x | apply kept_seq2 (pq := pq) x
                on_goal 1 => subst x
                on_goal 2 => (intro hx; try clear_value x)) | try clear_value x)
    | with_reducible first | assumption | apply State.count_kept | apply State.log_kept | apply State.calWarm_kept
                                  | apply State.capEnd_kept | apply State.each_kept | apply State.latchJudge_kept
                                  | apply State.failSource_kept
    | dsimp only
    | with_reducible first | apply kept_fst | apply kept_snd
    | with_reducible apply kept1_of
    | with_reducible apply kept2_of

theorem State.hotTimes_kept {s : State} (h : s.Kept pq) : (State.hotTimes s).Kept pq := by
  unfold State.hotTimes
  repeat' first
    | with_reducible intro _
    | (extract_lets -underBinder +onlyGivenNames x
       first | (first | apply kept_seq (pq := pq) x | apply kept_seq1 (pq := pq) x | apply kept_seq2 (pq := pq) x
                on_goal 1 => subst x
                on_goal 2 => (intro hx; try clear_value x)) | try clear_value x)
    | with_reducible first | assumption | apply State.cond_kept | apply State.setF_kept
    | dsimp only
    | with_reducible first | apply kept_fst | apply kept_snd
    | with_reducible apply kept1_of
    | with_reducible apply kept2_of

theorem State.holdBoot_kept {s : State} (h : s.Kept pq) : (State.holdBoot s).Kept pq := by
  unfold State.holdBoot
  repeat' first
    | with_reducible intro _
    | with_reducible first | assumption | apply State.toStage_kept | apply kept_ite | apply kept1_ite
                                  | apply kept2_ite
    | dsimp only
    | with_reducible first | apply kept_fst | apply kept_snd
    | with_reducible apply kept1_of
    | with_reducible apply kept2_of

theorem State.bootHalt_kept {s : State} (h : s.Kept pq) : (State.bootHalt s).Kept pq := by
  unfold State.bootHalt
  repeat' first
    | with_reducible intro _
    | (extract_lets -underBinder +onlyGivenNames x
       first | (first | apply kept_seq (pq := pq) x | apply kept_seq1 (pq := pq) x | apply kept_seq2 (pq := pq) x
                on_goal 1 => subst x
                on_goal 2 => (intro hx; try clear_value x)) | try clear_value x)
    | with_reducible first | assumption | apply State.frameStop_kept | apply State.convertersDown_kept
                                  | apply State.setF_kept | apply State.setThm_kept | apply State.holdBoot_kept
                                  | apply State.setUnit_kept
    | dsimp only
    | with_reducible first | apply kept_fst | apply kept_snd
    | with_reducible apply kept1_of
    | with_reducible apply kept2_of
    | with_reducible apply kept_mk

theorem State.hotEnter_kept {s : State} (h : s.Kept pq) : (State.hotEnter s).Kept pq := by
  unfold State.hotEnter
  repeat' first
    | with_reducible intro _
    | (extract_lets -underBinder +onlyGivenNames x
       first | (first | apply kept_seq (pq := pq) x | apply kept_seq1 (pq := pq) x | apply kept_seq2 (pq := pq) x
                on_goal 1 => subst x
                on_goal 2 => (intro hx; try clear_value x)) | try clear_value x)
    | with_reducible first | assumption | apply State.setThermal_kept | apply State.safeAssert_kept
                                  | apply State.calWarm_kept | apply State.capEnd_kept | apply State.planesStop_kept
                                  | apply State.dropJobs_kept | apply State.folRefuseAll_kept
                                  | apply State.setF_kept | apply State.hotTimes_kept | apply State.cond_kept
                                  | apply State.each_kept | apply State.count_kept | apply State.liveAdd_kept
                                  | apply State.bootHalt_kept | apply kept_ite | apply kept1_ite | apply kept2_ite
    | dsimp only
    | with_reducible first | apply kept_fst | apply kept_snd
    | with_reducible apply kept1_of
    | with_reducible apply kept2_of

theorem State.queueRecord_kept {s : State} (h : s.Kept pq) : (State.queueRecord s).Kept pq := by
  unfold State.queueRecord
  repeat' first
    | with_reducible intro _
    | (extract_lets -underBinder +onlyGivenNames x
       first | (first | apply kept_seq (pq := pq) x | apply kept_seq1 (pq := pq) x | apply kept_seq2 (pq := pq) x
                on_goal 1 => subst x
                on_goal 2 => (intro hx; try clear_value x)) | try clear_value x)
    | with_reducible first | assumption | apply State.busy_kept | apply State.queueJob_kept | apply kept_ite
                                  | apply kept1_ite | apply kept2_ite
    | dsimp only
    | split
    | with_reducible first | apply kept_fst | apply kept_snd
    | with_reducible apply kept1_of
    | with_reducible apply kept2_of

theorem State.thermalDecide_kept {s : State} (h : s.Kept pq) : (State.thermalDecide s).Kept pq := by
  unfold State.thermalDecide
  repeat' first
    | with_reducible intro _
    | (extract_lets -underBinder +onlyGivenNames x
       first | (first | apply kept_seq (pq := pq) x | apply kept_seq1 (pq := pq) x | apply kept_seq2 (pq := pq) x
                on_goal 1 => subst x
                on_goal 2 => (intro hx; try clear_value x)) | try clear_value x)
    | with_reducible first | assumption | apply State.hotEnter_kept | apply State.setThermal_kept
                                  | apply State.warmEnter_kept | apply kept_ite | apply kept1_ite | apply kept2_ite
    | dsimp only
    | with_reducible first | apply kept_fst | apply kept_snd
    | with_reducible apply kept1_of
    | with_reducible apply kept2_of

theorem State.thermalContinue_kept {s : State} (h : s.Kept pq) : (State.thermalContinue s).Kept pq := by
  unfold State.thermalContinue
  repeat' first
    | with_reducible intro _
    | (extract_lets -underBinder +onlyGivenNames x
       first | (first | apply kept_seq (pq := pq) x | apply kept_seq1 (pq := pq) x | apply kept_seq2 (pq := pq) x
                on_goal 1 => subst x
                on_goal 2 => (intro hx; try clear_value x)) | try clear_value x)
    | with_reducible first | assumption | apply State.setThm_kept | apply State.setF_kept
                                  | apply State.setThermal_kept | apply State.clearImage_kept
                                  | apply State.safeRelease_kept | apply State.bootFlash_kept | apply kept_ite
                                  | apply kept1_ite | apply kept2_ite
    | dsimp only
    | with_reducible first | apply kept_fst | apply kept_snd
    | with_reducible apply kept1_of
    | with_reducible apply kept2_of
    | with_reducible apply kept_mk

theorem State.tryContinue_kept {s : State} (h : s.Kept pq) : (State.tryContinue s).Kept pq := by
  unfold State.tryContinue
  repeat' first
    | with_reducible intro _
    | with_reducible first | assumption | apply State.thermalContinue_kept | apply kept_ite | apply kept1_ite
                                  | apply kept2_ite
    | dsimp only
    | with_reducible first | apply kept_fst | apply kept_snd
    | with_reducible apply kept1_of
    | with_reducible apply kept2_of

theorem State.thermalSample_kept {s : State} (t : List Int) (h : s.Kept pq) : (State.thermalSample s t).Kept pq := by
  unfold State.thermalSample
  repeat' first
    | with_reducible intro _
    | (extract_lets -underBinder +onlyGivenNames x
       first | (first | apply kept_seq (pq := pq) x | apply kept_seq1 (pq := pq) x | apply kept_seq2 (pq := pq) x
                on_goal 1 => subst x
                on_goal 2 => (intro hx; try clear_value x)) | try clear_value x)
    | with_reducible first | assumption | apply State.each_kept | apply State.sensor_kept | apply State.setThm_kept
                                  | apply State.setF_kept | apply State.setI_kept | apply State.thermalDecide_kept
                                  | apply State.tryContinue_kept | apply State.windowUpdate_kept
                                  | apply State.setB_kept | apply State.queueRecord_kept | apply foldl_kept
                                  | apply kept_ite | apply kept1_ite | apply kept2_ite
    | dsimp only
    | split
    | with_reducible first | apply kept_fst | apply kept_snd
    | with_reducible apply kept1_of
    | with_reducible apply kept2_of
    | with_reducible apply kept_mk

theorem State.testSample_kept {s : State} (d : List Int) (h : s.Kept pq) : (State.testSample s d).Kept pq := by
  unfold State.testSample
  repeat' first
    | with_reducible intro _
    | (extract_lets -underBinder +onlyGivenNames x
       first | (first | apply kept_seq (pq := pq) x | apply kept_seq1 (pq := pq) x | apply kept_seq2 (pq := pq) x
                on_goal 1 => subst x
                on_goal 2 => (intro hx; try clear_value x)) | try clear_value x)
    | with_reducible first | assumption | apply State.setThm_kept | apply State.each_kept
                                  | apply State.breakSensor_kept | apply State.setBit_kept | apply kept_ite
                                  | apply kept1_ite | apply kept2_ite
    | dsimp only
    | with_reducible first | apply kept_fst | apply kept_snd
    | with_reducible apply kept1_of
    | with_reducible apply kept2_of
    | with_reducible apply kept_mk

theorem execSensorTestSample_kept (d0 : BitVec 16) (d1 : BitVec 16) (d2 : BitVec 16) (d3 : BitVec 16) {s : State} (h :
    s.Kept pq) : KeptOut pq (execSensorTestSample d0 d1 d2 d3 s) := by
  unfold execSensorTestSample
  repeat' first
    | with_reducible intro _
    | with_reducible first | assumption | apply State.testSample_kept | apply kept_ite | apply kept1_ite
                                  | apply kept2_ite | apply keptOut_next | apply keptOut_refused | apply keptOut_ite
    | dsimp only
    | with_reducible first | apply kept_fst | apply kept_snd
    | with_reducible apply kept1_of
    | with_reducible apply kept2_of

theorem State.comparator_kept {s : State} (above : Bool) (h : s.Kept pq) : (State.comparator s above).Kept pq := by
  unfold State.comparator
  repeat' first
    | with_reducible intro _
    | (extract_lets -underBinder +onlyGivenNames x
       first | (first | apply kept_seq (pq := pq) x | apply kept_seq1 (pq := pq) x | apply kept_seq2 (pq := pq) x
                on_goal 1 => subst x
                on_goal 2 => (intro hx; try clear_value x)) | try clear_value x)
    | with_reducible first | assumption | apply State.setThm_kept | apply State.cond_kept | apply State.setB_kept
                                  | apply State.hotEnter_kept | apply State.windowUpdate_kept | apply kept_ite
                                  | apply kept1_ite | apply kept2_ite
    | dsimp only
    | with_reducible first | apply kept_fst | apply kept_snd
    | with_reducible apply kept1_of
    | with_reducible apply kept2_of
    | with_reducible apply kept_mk

theorem execThermalHaltEntry_kept {s : State} (h : s.Kept pq) : KeptOut pq (execThermalHaltEntry s) := by
  unfold execThermalHaltEntry
  repeat' first
    | with_reducible intro _
    | (extract_lets -underBinder +onlyGivenNames x
       first | (first | apply kept_seq (pq := pq) x | apply kept_seq1 (pq := pq) x | apply kept_seq2 (pq := pq) x
                on_goal 1 => subst x
                on_goal 2 => (intro hx; try clear_value x)) | try clear_value x)
    | with_reducible first | assumption | apply State.setThm_kept | apply State.pinsLow_kept
                                  | apply State.convertersDown_kept | apply State.frameStop_kept
                                  | apply State.setUnit_kept | apply kept_ite | apply kept1_ite | apply kept2_ite
                                  | apply keptOut_next | apply keptOut_refused | apply keptOut_ite
    | dsimp only
    | with_reducible first | apply kept_fst | apply kept_snd
    | with_reducible apply kept1_of
    | with_reducible apply kept2_of
    | with_reducible apply kept_mk

end Sys2Proof.Machine
end

