-- ==== Sys2Proof/Laws/KeptPanel.lean ====
section
/-! SUPPORT. What the functions of Panel keep. -/

namespace Sys2Proof.Machine

set_option linter.unusedTactic false
set_option linter.unreachableTactic false
set_option linter.tactic.unusedName false

variable {pq : List Instr}

theorem State.setPnl_kept {s : State} (f : Panel → Panel) (h : s.Kept pq) : (State.setPnl s f).Kept pq := by
  unfold State.setPnl
  repeat' first
    | with_reducible intro _
    | with_reducible first | assumption
    | dsimp only
    | with_reducible apply kept_mk

theorem State.setKeys_kept {s : State} (v : Nat) (h : s.Kept pq) : (State.setKeys s v).Kept pq := by
  unfold State.setKeys
  repeat' first
    | with_reducible intro _
    | with_reducible first | assumption | apply State.setF_kept
    | dsimp only

theorem State.setMask_kept {s : State} (v : Nat) (h : s.Kept pq) : (State.setMask s v).Kept pq := by
  unfold State.setMask
  repeat' first
    | with_reducible intro _
    | with_reducible first | assumption | apply State.setF_kept
    | dsimp only

theorem State.debounce_kept {s : State} (keys : Nat) (h : s.Kept pq) : (State.debounce s keys).Kept pq := by
  unfold State.debounce
  repeat' first
    | with_reducible intro _
    | (extract_lets -underBinder +onlyGivenNames x
       first | (first | apply kept_seq (pq := pq) x | apply kept_seq1 (pq := pq) x | apply kept_seq2 (pq := pq) x
                on_goal 1 => subst x
                on_goal 2 => (intro hx; try clear_value x)) | try clear_value x)
    | with_reducible first | assumption | apply State.setPnl_kept | apply kept_ite | apply kept1_ite | apply kept2_ite
    | dsimp only
    | with_reducible first | apply kept_fst | apply kept_snd
    | with_reducible apply kept1_of
    | with_reducible apply kept2_of
    | with_reducible apply kept_mk

theorem State.stuckStep_kept {s : State} (old : Nat) (dt : Nat) (k : Nat) (h : s.Kept pq) : (State.stuckStep s old dt
    k).Kept pq := by
  unfold State.stuckStep
  repeat' first
    | with_reducible intro _
    | (extract_lets -underBinder +onlyGivenNames x
       first | (first | apply kept_seq (pq := pq) x | apply kept_seq1 (pq := pq) x | apply kept_seq2 (pq := pq) x
                on_goal 1 => subst x
                on_goal 2 => (intro hx; try clear_value x)) | try clear_value x)
    | with_reducible first | assumption | apply State.setMask_kept | apply State.count_kept | apply State.log_kept
                                  | apply State.setPnl_kept | apply kept_ite | apply kept1_ite | apply kept2_ite
    | dsimp only
    | with_reducible first | apply kept_fst | apply kept_snd
    | with_reducible apply kept1_of
    | with_reducible apply kept2_of
    | with_reducible apply kept_mk

theorem State.swapReq_kept {s : State} (who : Nat) (h : s.Kept pq) : (State.swapReq s who).Kept pq := by
  unfold State.swapReq
  repeat' first
    | with_reducible intro _
    | with_reducible first | assumption | apply State.reject_kept | apply kept_ite | apply kept1_ite | apply kept2_ite
    | dsimp only
    | with_reducible first | apply kept_fst | apply kept_snd
    | with_reducible apply kept1_of
    | with_reducible apply kept2_of
    | with_reducible apply kept_mk

theorem State.comboAct_kept {s : State} (n : Nat) (h : s.Kept pq) : (State.comboAct s n).Kept pq := by
  unfold State.comboAct
  repeat' first
    | with_reducible intro _
    | (extract_lets -underBinder +onlyGivenNames x
       first | (first | apply kept_seq (pq := pq) x | apply kept_seq1 (pq := pq) x | apply kept_seq2 (pq := pq) x
                on_goal 1 => subst x
                on_goal 2 => (intro hx; try clear_value x)) | try clear_value x)
    | with_reducible first | assumption | apply State.setBit_kept | apply State.count_kept | apply State.cond_kept
                                  | apply State.swapReq_kept | apply State.log_kept | apply State.otherReset_kept
                                  | apply State.setF_kept
    | dsimp only
    | split
    | with_reducible first | apply kept_fst | apply kept_snd
    | with_reducible apply kept1_of
    | with_reducible apply kept2_of

theorem State.comboStep_kept {s : State} (dt : Nat) (n : Nat) (h : s.Kept pq) : (State.comboStep s dt n).Kept pq := by
  unfold State.comboStep
  repeat' first
    | with_reducible intro _
    | (extract_lets -underBinder +onlyGivenNames x
       first | (first | apply kept_seq (pq := pq) x | apply kept_seq1 (pq := pq) x | apply kept_seq2 (pq := pq) x
                on_goal 1 => subst x
                on_goal 2 => (intro hx; try clear_value x)) | try clear_value x)
    | with_reducible first | assumption | apply State.setPnl_kept | apply State.clrBit_kept
                                  | apply State.setBit_kept | apply State.comboAct_kept | apply kept_ite
                                  | apply kept1_ite | apply kept2_ite
    | dsimp only
    | with_reducible first | apply kept_fst | apply kept_snd
    | with_reducible apply kept1_of
    | with_reducible apply kept2_of
    | with_reducible apply kept_mk

theorem execKeyScanEnd_kept (keys : BitVec 64) {s : State} (h : s.Kept pq) : KeptOut pq (execKeyScanEnd keys s) := by
  unfold execKeyScanEnd
  repeat' first
    | with_reducible intro _
    | (extract_lets -underBinder +onlyGivenNames x
       first | (first | apply kept_seq (pq := pq) x | apply kept_seq1 (pq := pq) x | apply kept_seq2 (pq := pq) x
                on_goal 1 => subst x
                on_goal 2 => (intro hx; try clear_value x)) | try clear_value x)
    | with_reducible first | assumption | apply State.debounce_kept | apply State.cond_kept | apply State.setF_kept
                                  | apply State.each_kept | apply State.stuckStep_kept | apply State.setKeys_kept
                                  | apply State.count_kept | apply State.setB_kept | apply State.setPnl_kept
                                  | apply State.comboStep_kept | apply kept_ite | apply kept1_ite | apply kept2_ite
                                  | apply keptOut_next | apply keptOut_refused | apply keptOut_ite
    | dsimp only
    | with_reducible first | apply kept_fst | apply kept_snd
    | with_reducible apply kept1_of
    | with_reducible apply kept2_of
    | with_reducible apply kept_mk

theorem execScannerWakeTimeout_kept {s : State} (h : s.Kept pq) : KeptOut pq (execScannerWakeTimeout s) := by
  unfold execScannerWakeTimeout
  repeat' first
    | with_reducible intro _
    | with_reducible first | assumption | apply State.setF_kept | apply kept_ite | apply kept1_ite | apply kept2_ite
                                  | apply keptOut_next | apply keptOut_refused | apply keptOut_ite
    | dsimp only
    | with_reducible first | apply kept_fst | apply kept_snd
    | with_reducible apply kept1_of
    | with_reducible apply kept2_of

theorem State.comboWritten_kept {s : State} (n : Nat) (h : s.Kept pq) : (State.comboWritten s n).Kept pq := by
  unfold State.comboWritten
  repeat' first
    | with_reducible intro _
    | with_reducible first | assumption | apply State.setPnl_kept | apply State.clrBit_kept
    | dsimp only
    | with_reducible apply kept_mk

theorem State.encStop_kept {s : State} (h : s.Kept pq) : (State.encStop s).Kept pq := by
  unfold State.encStop
  repeat' first
    | with_reducible intro _
    | with_reducible first | assumption | apply State.cond_kept | apply State.encDrop_kept
    | dsimp only

theorem State.recMove_kept {s : State} (by_ : Nat) (h : s.Kept pq) : (State.recMove s by_).Kept pq := by
  unfold State.recMove
  repeat' first
    | with_reducible intro _
    | with_reducible first | assumption | apply State.setF_kept
    | dsimp only

theorem State.detent_kept {s : State} (k : Nat) (kind : DetentKind) (h : s.Kept pq) : (State.detent s k kind).Kept pq
    := by
  unfold State.detent
  repeat' first
    | with_reducible intro _
    | (extract_lets -underBinder +onlyGivenNames x
       first | (first | apply kept_seq (pq := pq) x | apply kept_seq1 (pq := pq) x | apply kept_seq2 (pq := pq) x
                on_goal 1 => subst x
                on_goal 2 => (intro hx; try clear_value x)) | try clear_value x)
    | with_reducible first | assumption | apply State.setF_kept | apply State.cond_kept | apply State.recMove_kept
                                  | apply State.count_kept
    | dsimp only
    | split
    | with_reducible first | apply kept_fst | apply kept_snd
    | with_reducible apply kept1_of
    | with_reducible apply kept2_of

theorem State.setEnc_kept {s : State} (k : Nat) (e : Enc) (h : s.Kept pq) : (State.setEnc s k e).Kept pq := by
  unfold State.setEnc
  repeat' first
    | with_reducible intro _
    | with_reducible first | assumption | apply State.setPnl_kept
    | dsimp only
    | with_reducible apply kept_mk

theorem State.encMove_kept {s : State} (k : Nat) (p : Bool × Bool) (h : s.Kept pq) : (State.encMove s k p).Kept pq :=
    by
  unfold State.encMove
  repeat' first
    | with_reducible intro _
    | (extract_lets -underBinder +onlyGivenNames x
       first | (first | apply kept_seq (pq := pq) x | apply kept_seq1 (pq := pq) x | apply kept_seq2 (pq := pq) x
                on_goal 1 => subst x
                on_goal 2 => (intro hx; try clear_value x)) | try clear_value x)
    | with_reducible first | assumption | apply State.setEnc_kept | apply State.detent_kept | apply kept_ite
                                  | apply kept1_ite | apply kept2_ite
    | dsimp only
    | split
    | with_reducible first | apply kept_fst | apply kept_snd
    | with_reducible apply kept1_of
    | with_reducible apply kept2_of
    | with_reducible apply kept_mk

theorem execEncoderDetent_kept (k : Fin 2) (path : List (Bool × Bool)) {s : State} (h : s.Kept pq) : KeptOut pq
    (execEncoderDetent k path s) := by
  unfold execEncoderDetent
  repeat' first
    | with_reducible intro _
    | with_reducible first | assumption | apply State.each_kept | apply State.encMove_kept | apply keptOut_next
                                  | apply keptOut_refused | apply keptOut_ite
    | dsimp only

theorem execEncoderSwitchPress_kept (k : Fin 2) {s : State} (down : Bool := true) (h : s.Kept pq) : KeptOut pq
    (execEncoderSwitchPress k s down) := by
  unfold execEncoderSwitchPress
  repeat' first
    | with_reducible intro _
    | (extract_lets -underBinder +onlyGivenNames x
       first | (first | apply kept_seq (pq := pq) x | apply kept_seq1 (pq := pq) x | apply kept_seq2 (pq := pq) x
                on_goal 1 => subst x
                on_goal 2 => (intro hx; try clear_value x)) | try clear_value x)
    | with_reducible first | assumption | apply State.setEnc_kept | apply State.setF_kept | apply State.goSlot_kept
                                  | apply kept_ite | apply kept1_ite | apply kept2_ite | apply keptOut_next
                                  | apply keptOut_refused | apply keptOut_ite
    | dsimp only
    | with_reducible first | apply kept_fst | apply kept_snd
    | with_reducible apply kept1_of
    | with_reducible apply kept2_of
    | with_reducible apply kept_mk

end Sys2Proof.Machine
end

