-- ==== Sys2Proof/Laws/KeptZp.lean ====
section
/-! SUPPORT. What the functions of Zp keep. -/

namespace Sys2Proof.Machine

set_option linter.unusedTactic false
set_option linter.unreachableTactic false
set_option linter.tactic.unusedName false

variable {pq : List Instr}

theorem State.setZb_kept {s : State} (b : Nat) (f : ZpBus → ZpBus) (h : s.Kept pq) : (State.setZb s b f).Kept pq := by
  unfold State.setZb
  repeat' first
    | with_reducible intro _
    | with_reducible first | assumption
    | dsimp only
    | with_reducible apply kept_mk

theorem State.setPn_kept {s : State} (b : Nat) (n : Nat) (f : Partner → Partner) (h : s.Kept pq) : (State.setPn s b n
    f).Kept pq := by
  unfold State.setPn
  repeat' first
    | with_reducible intro _
    | with_reducible first | assumption | apply State.setZb_kept
    | dsimp only
    | with_reducible apply kept_mk

theorem State.zpCount_kept {s : State} (k : Nat) (h : s.Kept pq) : (State.zpCount s k).Kept pq := by
  unfold State.zpCount
  repeat' first
    | with_reducible intro _
    | with_reducible first | assumption | apply State.count_kept
    | dsimp only

theorem State.setRtc_kept {s : State} (v : Nat) (h : s.Kept pq) : (State.setRtc s v).Kept pq := by
  unfold State.setRtc
  repeat' first
    | with_reducible intro _
    | with_reducible first | assumption | apply State.setF_kept
    | dsimp only

theorem State.zpSend_kept {s : State} (b : Nat) (f : ZpFrame) (h : s.Kept pq) : (State.zpSend s b f).Kept pq := by
  unfold State.zpSend
  repeat' first
    | with_reducible intro _
    | with_reducible first | assumption | apply State.zpCount_kept | apply State.setZb_kept | apply kept_ite
                                  | apply kept1_ite | apply kept2_ite
    | dsimp only
    | with_reducible first | apply kept_fst | apply kept_snd
    | with_reducible apply kept1_of
    | with_reducible apply kept2_of
    | with_reducible apply kept_mk

theorem State.zpSendCtl_kept {s : State} (b : Nat) (typ : Nat) (dst : Nat) (data : List Byte) (h : s.Kept pq) :
    (State.zpSendCtl s b typ dst data).Kept pq := by
  unfold State.zpSendCtl
  repeat' first
    | with_reducible intro _
    | with_reducible first | assumption | apply State.zpSend_kept
    | dsimp only

theorem State.zpSettle_kept {s : State} (b : Nat) (h : s.Kept pq) : (State.zpSettle s b).Kept pq := by
  unfold State.zpSettle
  repeat' first
    | with_reducible intro _
    | (extract_lets -underBinder +onlyGivenNames x
       first | (first | apply kept_seq (pq := pq) x | apply kept_seq1 (pq := pq) x | apply kept_seq2 (pq := pq) x
                on_goal 1 => subst x
                on_goal 2 => (intro hx; try clear_value x)) | try clear_value x)
    | with_reducible first | assumption | apply State.setZb_kept
    | dsimp only
    | with_reducible first | apply kept_fst | apply kept_snd
    | with_reducible apply kept1_of
    | with_reducible apply kept2_of
    | with_reducible apply kept_mk

theorem State.setStream_kept {s : State} (b : Nat) (k : Nat) (t : ZpStream) (h : s.Kept pq) : (State.setStream s b k
    t).Kept pq := by
  unfold State.setStream
  repeat' first
    | with_reducible intro _
    | with_reducible first | assumption | apply State.setZb_kept | apply State.setPn_kept | apply kept_ite
                                  | apply kept1_ite | apply kept2_ite
    | dsimp only
    | with_reducible first | apply kept_fst | apply kept_snd
    | with_reducible apply kept1_of
    | with_reducible apply kept2_of
    | with_reducible apply kept_mk

theorem State.zpLoad_kept {s : State} (b : Nat) (o : Nat) (f : ZpFrame) (h : s.Kept pq) : (State.zpLoad s b o f).Kept
    pq := by
  unfold State.zpLoad
  repeat' first
    | with_reducible intro _
    | (extract_lets -underBinder +onlyGivenNames x
       first | (first | apply kept_seq (pq := pq) x | apply kept_seq1 (pq := pq) x | apply kept_seq2 (pq := pq) x
                on_goal 1 => subst x
                on_goal 2 => (intro hx; try clear_value x)) | try clear_value x)
    | with_reducible first | assumption | apply State.wr_kept | apply State.each_kept | apply State.reject_kept
                                  | apply State.setZb_kept | apply State.setStream_kept | apply State.txReq_kept
                                  | apply kept_ite | apply kept1_ite | apply kept2_ite
    | dsimp only
    | split
    | with_reducible first | apply kept_fst | apply kept_snd
    | with_reducible apply kept1_of
    | with_reducible apply kept2_of
    | with_reducible apply kept_mk

theorem execZpFrameLoad_kept (b : Fin 2) {s : State} (h : s.Kept pq) : KeptOut pq (execZpFrameLoad b s) := by
  unfold execZpFrameLoad
  repeat' first
    | with_reducible intro _
    | (extract_lets -underBinder +onlyGivenNames x
       first | (first | apply kept_seq (pq := pq) x | apply kept_seq1 (pq := pq) x | apply kept_seq2 (pq := pq) x
                on_goal 1 => subst x
                on_goal 2 => (intro hx; try clear_value x)) | try clear_value x)
    | with_reducible first | assumption | apply State.zpSettle_kept | apply State.setZb_kept
                                  | apply State.zpLoad_kept | apply kept_ite | apply kept1_ite | apply kept2_ite
                                  | apply keptOut_next | apply keptOut_refused | apply keptOut_ite
    | dsimp only
    | split
    | with_reducible first | apply kept_fst | apply kept_snd
    | with_reducible apply kept1_of
    | with_reducible apply kept2_of
    | with_reducible apply kept_mk

theorem State.zpDropFd_kept {s : State} (b : Nat) (h : s.Kept pq) : (State.zpDropFd s b).Kept pq := by
  unfold State.zpDropFd
  repeat' first
    | with_reducible intro _
    | with_reducible first | assumption | apply State.setZb_kept
    | dsimp only
    | with_reducible apply kept_mk

theorem State.fdFollow_kept {s : State} (b : Nat) (h : s.Kept pq) : (State.fdFollow s b).Kept pq := by
  unfold State.fdFollow
  repeat' first
    | with_reducible intro _
    | (extract_lets -underBinder +onlyGivenNames x
       first | (first | apply kept_seq (pq := pq) x | apply kept_seq1 (pq := pq) x | apply kept_seq2 (pq := pq) x
                on_goal 1 => subst x
                on_goal 2 => (intro hx; try clear_value x)) | try clear_value x)
    | with_reducible first | assumption | apply State.setB_kept | apply State.setF_kept | apply State.fdOff_kept
                                  | apply State.zpDropFd_kept | apply kept_ite | apply kept1_ite | apply kept2_ite
    | dsimp only
    | with_reducible first | apply kept_fst | apply kept_snd
    | with_reducible apply kept1_of
    | with_reducible apply kept2_of

theorem State.zpInvalidate_kept {s : State} (b : Nat) (n : Nat) (h : s.Kept pq) : (State.zpInvalidate s b n).Kept pq
    := by
  unfold State.zpInvalidate
  repeat' first
    | with_reducible intro _
    | with_reducible first | assumption | apply State.each_kept | apply State.catTouched_kept | apply State.setM_kept
    | dsimp only

theorem State.zpAbsent_kept {s : State} (b : Nat) (n : Nat) (h : s.Kept pq) : (State.zpAbsent s b n).Kept pq := by
  unfold State.zpAbsent
  repeat' first
    | with_reducible intro _
    | (extract_lets -underBinder +onlyGivenNames x
       first | (first | apply kept_seq (pq := pq) x | apply kept_seq1 (pq := pq) x | apply kept_seq2 (pq := pq) x
                on_goal 1 => subst x
                on_goal 2 => (intro hx; try clear_value x)) | try clear_value x)
    | with_reducible first | assumption | apply State.setF_kept | apply State.setPn_kept | apply State.fdFollow_kept
    | dsimp only
    | with_reducible first | apply kept_fst | apply kept_snd
    | with_reducible apply kept1_of
    | with_reducible apply kept2_of
    | with_reducible apply kept_mk

theorem State.zpStart_kept {s : State} (b : Nat) (h : s.Kept pq) : (State.zpStart s b).Kept pq := by
  unfold State.zpStart
  repeat' first
    | with_reducible intro _
    | (extract_lets -underBinder +onlyGivenNames x
       first | (first | apply kept_seq (pq := pq) x | apply kept_seq1 (pq := pq) x | apply kept_seq2 (pq := pq) x
                on_goal 1 => subst x
                on_goal 2 => (intro hx; try clear_value x)) | try clear_value x)
    | with_reducible first | assumption | apply State.each_kept | apply State.wr_kept | apply State.setZb_kept
                                  | apply State.fdFollow_kept
    | dsimp only
    | with_reducible first | apply kept_fst | apply kept_snd
    | with_reducible apply kept1_of
    | with_reducible apply kept2_of
    | with_reducible apply kept_mk

theorem State.canRunning_kept {s : State} (c : Nat) (h : s.Kept pq) : (State.canRunning s c).Kept pq := by
  unfold State.canRunning
  repeat' first
    | with_reducible intro _
    | (extract_lets -underBinder +onlyGivenNames x
       first | (first | apply kept_seq (pq := pq) x | apply kept_seq1 (pq := pq) x | apply kept_seq2 (pq := pq) x
                on_goal 1 => subst x
                on_goal 2 => (intro hx; try clear_value x)) | try clear_value x)
    | with_reducible first | assumption | apply State.canSetState_kept | apply State.setCc_kept
                                  | apply State.zpStart_kept | apply State.fdFollow_kept | apply kept_ite
                                  | apply kept1_ite | apply kept2_ite
    | dsimp only
    | with_reducible first | apply kept_fst | apply kept_snd
    | with_reducible apply kept1_of
    | with_reducible apply kept2_of
    | with_reducible apply kept_mk

theorem State.zpCtlWritten_kept {s : State} (old : Nat) (h : s.Kept pq) : (State.zpCtlWritten s old).Kept pq := by
  unfold State.zpCtlWritten
  repeat' first
    | with_reducible intro _
    | with_reducible first | assumption | apply State.each_kept | apply State.zpStart_kept | apply kept_ite
                                  | apply kept1_ite | apply kept2_ite
    | dsimp only
    | with_reducible first | apply kept_fst | apply kept_snd
    | with_reducible apply kept1_of
    | with_reducible apply kept2_of

theorem State.zpOffer_kept {s : State} (b : Nat) (n : Nat) (h : s.Kept pq) : (State.zpOffer s b n).Kept pq := by
  unfold State.zpOffer
  repeat' first
    | with_reducible intro _
    | (extract_lets -underBinder +onlyGivenNames x
       first | (first | apply kept_seq (pq := pq) x | apply kept_seq1 (pq := pq) x | apply kept_seq2 (pq := pq) x
                on_goal 1 => subst x
                on_goal 2 => (intro hx; try clear_value x)) | try clear_value x)
    | with_reducible first | assumption | apply State.setZb_kept | apply State.setPn_kept | apply State.zpSendCtl_kept
    | dsimp only
    | split
    | with_reducible first | apply kept_fst | apply kept_snd
    | with_reducible apply kept1_of
    | with_reducible apply kept2_of
    | with_reducible apply kept_mk

theorem State.zpNak_kept {s : State} (b : Nat) (n : Nat) (code : Nat) (typ : Nat) (seq : Nat) (detail : Nat) (h :
    s.Kept pq) : (State.zpNak s b n code typ seq detail).Kept pq := by
  unfold State.zpNak
  repeat' first
    | with_reducible intro _
    | with_reducible first | assumption | apply State.zpCount_kept | apply State.setPn_kept
                                  | apply State.zpSendCtl_kept | apply kept_ite | apply kept1_ite | apply kept2_ite
    | dsimp only
    | with_reducible first | apply kept_fst | apply kept_snd
    | with_reducible apply kept1_of
    | with_reducible apply kept2_of
    | with_reducible apply kept_mk

theorem State.zpQuarantine_kept {s : State} (b : Nat) (n : Nat) (h : s.Kept pq) : (State.zpQuarantine s b n).Kept pq
    := by
  unfold State.zpQuarantine
  repeat' first
    | with_reducible intro _
    | (extract_lets -underBinder +onlyGivenNames x
       first | (first | apply kept_seq (pq := pq) x | apply kept_seq1 (pq := pq) x | apply kept_seq2 (pq := pq) x
                on_goal 1 => subst x
                on_goal 2 => (intro hx; try clear_value x)) | try clear_value x)
    | with_reducible first | assumption | apply State.zpInvalidate_kept | apply State.zpAbsent_kept
                                  | apply State.setF_kept | apply State.zpCount_kept | apply State.fdFollow_kept
                                  | apply kept_ite | apply kept1_ite | apply kept2_ite
    | dsimp only
    | with_reducible first | apply kept_fst | apply kept_snd
    | with_reducible apply kept1_of
    | with_reducible apply kept2_of

theorem State.zpViolate_kept {s : State} (b : Nat) (n : Nat) (code : Nat) (typ : Nat) (seq : Nat) (detail : Nat) (h :
    s.Kept pq) : (State.zpViolate s b n code typ seq detail).Kept pq := by
  unfold State.zpViolate
  repeat' first
    | with_reducible intro _
    | (extract_lets -underBinder +onlyGivenNames x
       first | (first | apply kept_seq (pq := pq) x | apply kept_seq1 (pq := pq) x | apply kept_seq2 (pq := pq) x
                on_goal 1 => subst x
                on_goal 2 => (intro hx; try clear_value x)) | try clear_value x)
    | with_reducible first | assumption | apply State.log_kept | apply State.zpCount_kept | apply State.setF_kept
                                  | apply State.zpNak_kept | apply State.setPn_kept | apply State.zpQuarantine_kept
                                  | apply kept_ite | apply kept1_ite | apply kept2_ite
    | dsimp only
    | with_reducible first | apply kept_fst | apply kept_snd
    | with_reducible apply kept1_of
    | with_reducible apply kept2_of
    | with_reducible apply kept_mk

theorem State.zpResync_kept {s : State} (b : Nat) (a : Nat) (h : s.Kept pq) : (State.zpResync s b a).Kept pq := by
  unfold State.zpResync
  repeat' first
    | with_reducible intro _
    | (extract_lets -underBinder +onlyGivenNames x
       first | (first | apply kept_seq (pq := pq) x | apply kept_seq1 (pq := pq) x | apply kept_seq2 (pq := pq) x
                on_goal 1 => subst x
                on_goal 2 => (intro hx; try clear_value x)) | try clear_value x)
    | with_reducible first | assumption | apply State.setCc_kept | apply State.setZb_kept | apply kept_ite
                                  | apply kept1_ite | apply kept2_ite
    | dsimp only
    | with_reducible first | apply kept_fst | apply kept_snd
    | with_reducible apply kept1_of
    | with_reducible apply kept2_of
    | with_reducible apply kept_mk

theorem State.zpAck_kept {s : State} (b : Nat) (x : ZpRx) (h : s.Kept pq) : (State.zpAck s b x).Kept pq := by
  unfold State.zpAck
  repeat' first
    | with_reducible intro _
    | with_reducible first | assumption | apply State.setOwned_kept
    | dsimp only

theorem State.zpNext_kept {s : State} (b : Nat) {y0 : Nat} (h : s.Kept pq) : (State.zpNext s b y0).1.Kept pq := by
  induction y0 generalizing s with
  | zero =>
    show Kept1 pq _
    unfold State.zpNext
    repeat' first
      | with_reducible intro _
      | (extract_lets -underBinder +onlyGivenNames x
         first | (first | apply kept_seq (pq := pq) x | apply kept_seq1 (pq := pq) x | apply kept_seq2 (pq := pq) x
                  on_goal 1 => subst x
                  on_goal 2 => (intro hx; try clear_value x)) | try clear_value x)
      | with_reducible first | assumption | apply ih | apply State.zpResync_kept | apply State.zpAck_kept
                                  | apply kept_ite | apply kept1_ite | apply kept2_ite
      | dsimp only
      | split
      | with_reducible first | apply kept_fst | apply kept_snd
      | with_reducible apply kept1_of
      | with_reducible apply kept2_of
  | succ n ih =>
    show Kept1 pq _
    unfold State.zpNext
    repeat' first
      | with_reducible intro _
      | (extract_lets -underBinder +onlyGivenNames x
         first | (first | apply kept_seq (pq := pq) x | apply kept_seq1 (pq := pq) x | apply kept_seq2 (pq := pq) x
                  on_goal 1 => subst x
                  on_goal 2 => (intro hx; try clear_value x)) | try clear_value x)
      | with_reducible first | assumption | apply ih | apply State.zpResync_kept | apply State.zpAck_kept
                                  | apply kept_ite | apply kept1_ite | apply kept2_ite
      | dsimp only
      | split
      | with_reducible first | apply kept_fst | apply kept_snd
      | with_reducible apply kept1_of
      | with_reducible apply kept2_of

theorem State.zpProcess_kept {s : State} (b : Nat) (c : ZpClass) {f : State → ZpRx → State} (hf : ∀ t x0, t.Kept pq →
    (f t x0).Kept pq) (h : s.Kept pq) : (State.zpProcess s b c f).Kept pq := by
  unfold State.zpProcess
  repeat' first
    | with_reducible intro _
    | (extract_lets -underBinder +onlyGivenNames x
       first | (first | apply kept_seq (pq := pq) x | apply kept_seq1 (pq := pq) x | apply kept_seq2 (pq := pq) x
                on_goal 1 => subst x
                on_goal 2 => (intro hx; try clear_value x)) | try clear_value x)
    | with_reducible first | assumption | apply State.zpNext_kept | apply State.zpAck_kept | apply hf
                                  | apply kept_ite | apply kept1_ite | apply kept2_ite
    | refine kept_eq1 (by with_reducible assumption) ?_
    | refine kept_eq2 (by with_reducible assumption) ?_
    | dsimp only
    | split
    | with_reducible first | apply kept_fst | apply kept_snd
    | with_reducible apply kept1_of
    | with_reducible apply kept2_of

theorem State.zpHeard_kept {s : State} (b : Nat) (n : Nat) (h : s.Kept pq) : (State.zpHeard s b n).Kept pq := by
  unfold State.zpHeard
  repeat' first
    | with_reducible intro _
    | with_reducible first | assumption | apply State.setF_kept
    | dsimp only

theorem State.zpSeq_kept {s : State} (b : Nat) (x : ZpRx) (pub : Bool) (h : s.Kept pq) : (State.zpSeq s b x pub).Kept
    pq := by
  unfold State.zpSeq
  repeat' first
    | with_reducible intro _
    | (extract_lets -underBinder +onlyGivenNames x
       first | (first | apply kept_seq (pq := pq) x | apply kept_seq1 (pq := pq) x | apply kept_seq2 (pq := pq) x
                on_goal 1 => subst x
                on_goal 2 => (intro hx; try clear_value x)) | try clear_value x)
    | with_reducible first | assumption | apply State.free_kept | apply State.setPn_kept
                                  | apply State.zpViolate_kept | apply kept_ite | apply kept1_ite | apply kept2_ite
    | dsimp only
    | with_reducible first | apply kept_fst | apply kept_snd
    | with_reducible apply kept1_of
    | with_reducible apply kept2_of
    | with_reducible apply kept_mk

theorem State.zpChecked_kept {s : State} (b : Nat) (x : ZpRx) (len : Bool) (rng : Option Nat) (form : Bool) {f : State
    → State} (hf : ∀ t, t.Kept pq → (f t).Kept pq) (h : s.Kept pq) : (State.zpChecked s b x len rng form f).Kept pq :=
    by
  unfold State.zpChecked
  repeat' first
    | with_reducible intro _
    | with_reducible first | assumption | apply State.zpViolate_kept | apply hf | apply kept_ite | apply kept1_ite
                                  | apply kept2_ite
    | dsimp only
    | split
    | with_reducible first | apply kept_fst | apply kept_snd
    | with_reducible apply kept1_of
    | with_reducible apply kept2_of

theorem State.zpJoined_kept {s : State} (b : Nat) (x : ZpRx) (len : Bool) (rng : Option Nat) (form : Bool) {f : State
    → State} (hf : ∀ t, t.Kept pq → (f t).Kept pq) (h : s.Kept pq) : (State.zpJoined s b x len rng form f).Kept pq :=
    by
  unfold State.zpJoined
  repeat' first
    | with_reducible intro _
    | (extract_lets -underBinder +onlyGivenNames x
       first | (first | apply kept_seq (pq := pq) x | apply kept_seq1 (pq := pq) x | apply kept_seq2 (pq := pq) x
                on_goal 1 => subst x
                on_goal 2 => (intro hx; try clear_value x)) | try clear_value x)
    | with_reducible first | assumption | apply State.zpChecked_kept | apply State.zpHeard_kept
                                  | apply State.zpViolate_kept | apply hf | apply kept_ite | apply kept1_ite
                                  | apply kept2_ite
    | dsimp only
    | with_reducible first | apply kept_fst | apply kept_snd
    | with_reducible apply kept1_of
    | with_reducible apply kept2_of

theorem execZpBadSource_kept (b : Fin 2) {s : State} (h : s.Kept pq) : KeptOut pq (execZpBadSource b s) := by
  unfold execZpBadSource
  repeat' first
    | with_reducible intro _
    | with_reducible first | assumption | apply State.zpProcess_kept | apply State.zpCount_kept
                                  | apply State.log_kept | apply keptOut_next | apply keptOut_refused
                                  | apply keptOut_ite
    | dsimp only

theorem execZpUnknownType_kept (b : Fin 2) {s : State} (h : s.Kept pq) : KeptOut pq (execZpUnknownType b s) := by
  unfold execZpUnknownType
  repeat' first
    | with_reducible intro _
    | with_reducible first | assumption | apply State.zpProcess_kept | apply State.zpViolate_kept
                                  | apply keptOut_next | apply keptOut_refused | apply keptOut_ite
    | dsimp only

theorem execZpNakReceived_kept (b : Fin 2) {s : State} (h : s.Kept pq) : KeptOut pq (execZpNakReceived b s) := by
  unfold execZpNakReceived
  repeat' first
    | with_reducible intro _
    | with_reducible first | assumption | apply State.zpProcess_kept | apply State.zpCount_kept
                                  | apply State.log_kept | apply keptOut_next | apply keptOut_refused
                                  | apply keptOut_ite
    | dsimp only

theorem execZpJoin_kept (b : Fin 2) {s : State} (h : s.Kept pq) : KeptOut pq (execZpJoin b s) := by
  unfold execZpJoin
  repeat' first
    | with_reducible intro _
    | (extract_lets -underBinder +onlyGivenNames x
       first | (first | apply kept_seq (pq := pq) x | apply kept_seq1 (pq := pq) x | apply kept_seq2 (pq := pq) x
                on_goal 1 => subst x
                on_goal 2 => (intro hx; try clear_value x)) | try clear_value x)
    | with_reducible first | assumption | apply State.zpProcess_kept | apply State.zpChecked_kept
                                  | apply State.zpViolate_kept | apply State.zpAbsent_kept | apply State.setPn_kept
                                  | apply State.setF_kept | apply State.setB_kept | apply State.zpHeard_kept
                                  | apply State.fdFollow_kept | apply State.zpOffer_kept | apply State.each_kept
                                  | apply kept_ite | apply kept1_ite | apply kept2_ite | apply keptOut_next
                                  | apply keptOut_refused | apply keptOut_ite
    | dsimp only
    | with_reducible first | apply kept_fst | apply kept_snd
    | with_reducible apply kept1_of
    | with_reducible apply kept2_of
    | with_reducible apply kept_mk

theorem execZpAccept_kept (b : Fin 2) {s : State} (h : s.Kept pq) : KeptOut pq (execZpAccept b s) := by
  unfold execZpAccept
  repeat' first
    | with_reducible intro _
    | (extract_lets -underBinder +onlyGivenNames x
       first | (first | apply kept_seq (pq := pq) x | apply kept_seq1 (pq := pq) x | apply kept_seq2 (pq := pq) x
                on_goal 1 => subst x
                on_goal 2 => (intro hx; try clear_value x)) | try clear_value x)
    | with_reducible first | assumption | apply State.zpProcess_kept | apply State.zpViolate_kept
                                  | apply State.zpAbsent_kept | apply State.zpHeard_kept | apply State.setF_kept
                                  | apply State.setB_kept | apply State.setPn_kept | apply State.fdFollow_kept
                                  | apply kept_ite | apply kept1_ite | apply kept2_ite | apply keptOut_next
                                  | apply keptOut_refused | apply keptOut_ite
    | dsimp only
    | split
    | with_reducible first | apply kept_fst | apply kept_snd
    | with_reducible apply kept1_of
    | with_reducible apply kept2_of
    | with_reducible apply kept_mk

theorem execZpLeave_kept (b : Fin 2) {s : State} (h : s.Kept pq) : KeptOut pq (execZpLeave b s) := by
  unfold execZpLeave
  repeat' first
    | with_reducible intro _
    | with_reducible first | assumption | apply State.zpProcess_kept | apply State.zpJoined_kept
                                  | apply State.zpInvalidate_kept | apply State.zpAbsent_kept | apply kept_ite
                                  | apply kept1_ite | apply kept2_ite | apply keptOut_next | apply keptOut_refused
                                  | apply keptOut_ite
    | dsimp only
    | with_reducible first | apply kept_fst | apply kept_snd
    | with_reducible apply kept1_of
    | with_reducible apply kept2_of

theorem State.zpRecord_kept {s : State} (b : Nat) (x : ZpRx) (r : Nat) (h : s.Kept pq) : (State.zpRecord s b x r).Kept
    pq := by
  unfold State.zpRecord
  repeat' first
    | with_reducible intro _
    | (extract_lets -underBinder +onlyGivenNames x
       first | (first | apply kept_seq (pq := pq) x | apply kept_seq1 (pq := pq) x | apply kept_seq2 (pq := pq) x
                on_goal 1 => subst x
                on_goal 2 => (intro hx; try clear_value x)) | try clear_value x)
    | with_reducible first | assumption | apply State.zpCount_kept | apply State.each_kept
                                  | apply State.catTouched_kept | apply State.setM_kept | apply State.ptUpdate_kept
                                  | apply kept_ite | apply kept1_ite | apply kept2_ite
    | dsimp only
    | with_reducible first | apply kept_fst | apply kept_snd
    | with_reducible apply kept1_of
    | with_reducible apply kept2_of

theorem execZpPublish_kept (b : Fin 2) {s : State} (h : s.Kept pq) : KeptOut pq (execZpPublish b s) := by
  unfold execZpPublish
  repeat' first
    | with_reducible intro _
    | (extract_lets -underBinder +onlyGivenNames x
       first | (first | apply kept_seq (pq := pq) x | apply kept_seq1 (pq := pq) x | apply kept_seq2 (pq := pq) x
                on_goal 1 => subst x
                on_goal 2 => (intro hx; try clear_value x)) | try clear_value x)
    | with_reducible first | assumption | apply State.zpProcess_kept | apply State.zpJoined_kept
                                  | apply State.zpSeq_kept | apply State.each_kept | apply State.zpRecord_kept
                                  | apply kept_ite | apply kept1_ite | apply kept2_ite | apply keptOut_next
                                  | apply keptOut_refused | apply keptOut_ite
    | dsimp only
    | with_reducible first | apply kept_fst | apply kept_snd
    | with_reducible apply kept1_of
    | with_reducible apply kept2_of

theorem execZpTime_kept (b : Fin 2) {s : State} (h : s.Kept pq) : KeptOut pq (execZpTime b s) := by
  unfold execZpTime
  repeat' first
    | with_reducible intro _
    | (extract_lets -underBinder +onlyGivenNames x
       first | (first | apply kept_seq (pq := pq) x | apply kept_seq1 (pq := pq) x | apply kept_seq2 (pq := pq) x
                on_goal 1 => subst x
                on_goal 2 => (intro hx; try clear_value x)) | try clear_value x)
    | with_reducible first | assumption | apply State.zpProcess_kept | apply State.zpJoined_kept
                                  | apply State.setRtc_kept | apply kept_ite | apply kept1_ite | apply kept2_ite
                                  | apply keptOut_next | apply keptOut_refused | apply keptOut_ite
    | dsimp only
    | with_reducible first | apply kept_fst | apply kept_snd
    | with_reducible apply kept1_of
    | with_reducible apply kept2_of

theorem execZpRollcallReply_kept (b : Fin 2) {s : State} (h : s.Kept pq) : KeptOut pq (execZpRollcallReply b s) := by
  unfold execZpRollcallReply
  repeat' first
    | with_reducible intro _
    | with_reducible first | assumption | apply State.zpProcess_kept | apply State.zpChecked_kept
                                  | apply State.zpHeard_kept | apply keptOut_next | apply keptOut_refused
                                  | apply keptOut_ite
    | dsimp only

theorem execZpOfferTimeout_kept (b : Fin 2) (n : Fin 128) {s : State} (h : s.Kept pq) : KeptOut pq (execZpOfferTimeout
    b n s) := by
  unfold execZpOfferTimeout
  repeat' first
    | with_reducible intro _
    | with_reducible first | assumption | apply State.zpCount_kept | apply State.zpAbsent_kept | apply kept_ite
                                  | apply kept1_ite | apply kept2_ite | apply keptOut_next | apply keptOut_refused
                                  | apply keptOut_ite
    | dsimp only
    | with_reducible first | apply kept_fst | apply kept_snd
    | with_reducible apply kept1_of
    | with_reducible apply kept2_of

theorem execZpPartnerLost_kept (b : Fin 2) (n : Fin 128) {s : State} (h : s.Kept pq) : KeptOut pq (execZpPartnerLost b
    n s) := by
  unfold execZpPartnerLost
  repeat' first
    | with_reducible intro _
    | with_reducible first | assumption | apply State.zpInvalidate_kept | apply State.zpCount_kept
                                  | apply State.zpAbsent_kept | apply kept_ite | apply kept1_ite | apply kept2_ite
                                  | apply keptOut_next | apply keptOut_refused | apply keptOut_ite
    | dsimp only
    | with_reducible first | apply kept_fst | apply kept_snd
    | with_reducible apply kept1_of
    | with_reducible apply kept2_of

theorem execZpQuarantineEnd_kept (b : Fin 2) (n : Fin 128) {s : State} (h : s.Kept pq) : KeptOut pq
    (execZpQuarantineEnd b n s) := by
  unfold execZpQuarantineEnd
  repeat' first
    | with_reducible intro _
    | with_reducible first | assumption | apply State.setPn_kept | apply State.setF_kept | apply State.zpAbsent_kept
                                  | apply kept_ite | apply kept1_ite | apply kept2_ite | apply keptOut_next
                                  | apply keptOut_refused | apply keptOut_ite
    | dsimp only
    | with_reducible first | apply kept_fst | apply kept_snd
    | with_reducible apply kept1_of
    | with_reducible apply kept2_of
    | with_reducible apply kept_mk

theorem execZpFdHoldEnd_kept (b : Fin 2) {s : State} (h : s.Kept pq) : KeptOut pq (execZpFdHoldEnd b s) := by
  unfold execZpFdHoldEnd
  repeat' first
    | with_reducible intro _
    | (extract_lets -underBinder +onlyGivenNames x
       first | (first | apply kept_seq (pq := pq) x | apply kept_seq1 (pq := pq) x | apply kept_seq2 (pq := pq) x
                on_goal 1 => subst x
                on_goal 2 => (intro hx; try clear_value x)) | try clear_value x)
    | with_reducible first | assumption | apply State.setF_kept | apply State.setZb_kept | apply State.fdFollow_kept
                                  | apply State.each_kept | apply State.zpOffer_kept | apply kept_ite
                                  | apply kept1_ite | apply kept2_ite | apply keptOut_next | apply keptOut_refused
                                  | apply keptOut_ite
    | dsimp only
    | split
    | with_reducible first | apply kept_fst | apply kept_snd
    | with_reducible apply kept1_of
    | with_reducible apply kept2_of
    | with_reducible apply kept_mk

theorem execZpRollcallBroadcast_kept (b : Fin 2) {s : State} (h : s.Kept pq) : KeptOut pq (execZpRollcallBroadcast b
    s) := by
  unfold execZpRollcallBroadcast
  repeat' first
    | with_reducible intro _
    | with_reducible first | assumption | apply State.setZb_kept | apply State.zpSendCtl_kept | apply kept_ite
                                  | apply kept1_ite | apply kept2_ite | apply keptOut_next | apply keptOut_refused
                                  | apply keptOut_ite
    | dsimp only
    | with_reducible first | apply kept_fst | apply kept_snd
    | with_reducible apply kept1_of
    | with_reducible apply kept2_of
    | with_reducible apply kept_mk

theorem execBusIntegrationDone_kept (c : Fin 2) {s : State} (h : s.Kept pq) : KeptOut pq (execBusIntegrationDone c s)
    := by
  unfold execBusIntegrationDone
  repeat' first
    | with_reducible intro _
    | with_reducible first | assumption | apply State.canSetState_kept | apply State.canRunning_kept
                                  | apply kept_ite | apply kept1_ite | apply kept2_ite | apply keptOut_next
                                  | apply keptOut_refused | apply keptOut_ite
    | dsimp only
    | with_reducible first | apply kept_fst | apply kept_snd
    | with_reducible apply kept1_of
    | with_reducible apply kept2_of

theorem execBusOffRecoveryEnd_kept (c : Fin 2) {s : State} (h : s.Kept pq) : KeptOut pq (execBusOffRecoveryEnd c s) :=
    by
  unfold execBusOffRecoveryEnd
  repeat' first
    | with_reducible intro _
    | with_reducible first | assumption | apply State.canErr_kept | apply State.canRunning_kept | apply kept_ite
                                  | apply kept1_ite | apply kept2_ite | apply keptOut_next | apply keptOut_refused
                                  | apply keptOut_ite
    | dsimp only
    | with_reducible first | apply kept_fst | apply kept_snd
    | with_reducible apply kept1_of
    | with_reducible apply kept2_of

theorem State.bindScanned_kept {s : State} (b : Nat) (k : Nat) (due : Bool) (h : s.Kept pq) : (State.bindScanned s b k
    due).Kept pq := by
  unfold State.bindScanned
  repeat' first
    | with_reducible intro _
    | (extract_lets -underBinder +onlyGivenNames x
       first | (first | apply kept_seq (pq := pq) x | apply kept_seq1 (pq := pq) x | apply kept_seq2 (pq := pq) x
                on_goal 1 => subst x
                on_goal 2 => (intro hx; try clear_value x)) | try clear_value x)
    | with_reducible first | assumption | apply State.setI_kept | apply State.setF_kept | apply State.setZb_kept
                                  | apply State.inc_kept | apply kept_ite | apply kept1_ite | apply kept2_ite
    | dsimp only
    | with_reducible first | apply kept_fst | apply kept_snd
    | with_reducible apply kept1_of
    | with_reducible apply kept2_of
    | with_reducible apply kept_mk

theorem State.zpScan_kept {s : State} (b : Nat) (h : s.Kept pq) : (State.zpScan s b).Kept pq := by
  unfold State.zpScan
  repeat' first
    | with_reducible intro _
    | (extract_lets -underBinder +onlyGivenNames x
       first | (first | apply kept_seq (pq := pq) x | apply kept_seq1 (pq := pq) x | apply kept_seq2 (pq := pq) x
                on_goal 1 => subst x
                on_goal 2 => (intro hx; try clear_value x)) | try clear_value x)
    | with_reducible first | assumption | apply State.zpSettle_kept | apply State.each_kept
                                  | apply State.bindScanned_kept | apply State.setZb_kept | apply State.zpSend_kept
    | dsimp only
    | with_reducible first | apply kept_fst | apply kept_snd
    | with_reducible apply kept1_of
    | with_reducible apply kept2_of
    | with_reducible apply kept_mk

theorem State.zpSecondBus_kept {s : State} (b : Nat) (h : s.Kept pq) : (State.zpSecondBus s b).Kept pq := by
  unfold State.zpSecondBus
  repeat' first
    | with_reducible intro _
    | (extract_lets -underBinder +onlyGivenNames x
       first | (first | apply kept_seq (pq := pq) x | apply kept_seq1 (pq := pq) x | apply kept_seq2 (pq := pq) x
                on_goal 1 => subst x
                on_goal 2 => (intro hx; try clear_value x)) | try clear_value x)
    | with_reducible first | assumption | apply State.each_kept | apply State.inc_kept | apply State.setF_kept
                                  | apply State.setZb_kept | apply State.zpScan_kept | apply State.zpSendCtl_kept
                                  | apply kept_ite | apply kept1_ite | apply kept2_ite
    | dsimp only
    | with_reducible first | apply kept_fst | apply kept_snd
    | with_reducible apply kept1_of
    | with_reducible apply kept2_of
    | with_reducible apply kept_mk

theorem State.zpSecond_kept {s : State} (h : s.Kept pq) : (State.zpSecond s).Kept pq := by
  unfold State.zpSecond
  repeat' first
    | with_reducible intro _
    | with_reducible first | assumption | apply State.each_kept | apply State.zpSecondBus_kept | apply kept_ite
                                  | apply kept1_ite | apply kept2_ite
    | dsimp only
    | with_reducible first | apply kept_fst | apply kept_snd
    | with_reducible apply kept1_of
    | with_reducible apply kept2_of

end Sys2Proof.Machine
end

