-- ==== Sys2Proof/Laws/KeptPair.lean ====
section
/-! SUPPORT. What the functions of Pair keep. -/

namespace Sys2Proof.Machine

set_option linter.unusedTactic false
set_option linter.unreachableTactic false
set_option linter.tactic.unusedName false

variable {pq : List Instr}

theorem State.setPair_kept {s : State} (f : Pair → Pair) (h : s.Kept pq) : (State.setPair s f).Kept pq := by
  unfold State.setPair
  repeat' first
    | with_reducible intro _
    | with_reducible first | assumption
    | dsimp only
    | with_reducible apply kept_mk

theorem State.linkSend_kept {s : State} (x : LinkOut) (h : s.Kept pq) : (State.linkSend s x).Kept pq := by
  unfold State.linkSend
  repeat' first
    | with_reducible intro _
    | with_reducible first | assumption | apply State.setPair_kept
    | dsimp only
    | with_reducible apply kept_mk

theorem State.linkHeard_kept {s : State} (h : s.Kept pq) : (State.linkHeard s).Kept pq := by
  unfold State.linkHeard
  repeat' first
    | with_reducible intro _
    | with_reducible first | assumption | apply State.setPair_kept
    | dsimp only
    | with_reducible apply kept_mk

theorem State.healthPin_kept {s : State} (h : s.Kept pq) : (State.healthPin s).Kept pq := by
  unfold State.healthPin
  repeat' first
    | with_reducible intro _
    | with_reducible first | assumption | apply State.setPair_kept
    | dsimp only
    | with_reducible apply kept_mk

theorem execHealthFrame_kept {s : State} (h : s.Kept pq) : KeptOut pq (execHealthFrame s) := by
  unfold execHealthFrame
  repeat' first
    | with_reducible intro _
    | (extract_lets -underBinder +onlyGivenNames x
       first | (first | apply kept_seq (pq := pq) x | apply kept_seq1 (pq := pq) x | apply kept_seq2 (pq := pq) x
                on_goal 1 => subst x
                on_goal 2 => (intro hx; try clear_value x)) | try clear_value x)
    | with_reducible first | assumption | apply State.setPair_kept | apply State.setF_kept
                                  | apply State.healthPin_kept | apply kept_ite | apply kept1_ite | apply kept2_ite
                                  | apply keptOut_next | apply keptOut_refused | apply keptOut_ite
    | dsimp only
    | with_reducible first | apply kept_fst | apply kept_snd
    | with_reducible apply kept1_of
    | with_reducible apply kept2_of
    | with_reducible apply kept_mk

theorem State.ckSent_kept {s : State} (h : s.Kept pq) : (State.ckSent s).Kept pq := by
  unfold State.ckSent
  repeat' first
    | with_reducible intro _
    | (extract_lets -underBinder +onlyGivenNames x
       first | (first | apply kept_seq (pq := pq) x | apply kept_seq1 (pq := pq) x | apply kept_seq2 (pq := pq) x
                on_goal 1 => subst x
                on_goal 2 => (intro hx; try clear_value x)) | try clear_value x)
    | with_reducible first | assumption | apply State.setPair_kept | apply State.linkSend_kept
                                  | apply State.setF_kept | apply State.ledger_kept | apply kept_ite
                                  | apply kept1_ite | apply kept2_ite
    | dsimp only
    | with_reducible first | apply kept_fst | apply kept_snd
    | with_reducible apply kept1_of
    | with_reducible apply kept2_of
    | with_reducible apply kept_mk

theorem State.ckPut_kept {s : State} (c : CkptChunk) (rest : List CkptChunk) (h : s.Kept pq) : (State.ckPut s c
    rest).Kept pq := by
  unfold State.ckPut
  repeat' first
    | with_reducible intro _
    | (extract_lets -underBinder +onlyGivenNames x
       first | (first | apply kept_seq (pq := pq) x | apply kept_seq1 (pq := pq) x | apply kept_seq2 (pq := pq) x
                on_goal 1 => subst x
                on_goal 2 => (intro hx; try clear_value x)) | try clear_value x)
    | with_reducible first | assumption | apply State.setPair_kept | apply State.cond_kept
                                  | apply State.linkSend_kept | apply State.inc_kept
    | dsimp only
    | with_reducible first | apply kept_fst | apply kept_snd
    | with_reducible apply kept1_of
    | with_reducible apply kept2_of
    | with_reducible apply kept_mk

theorem State.ckStep_kept {s : State} (h : s.Kept pq) : (State.ckStep s).Kept pq := by
  unfold State.ckStep
  repeat' first
    | with_reducible intro _
    | (extract_lets -underBinder +onlyGivenNames x
       first | (first | apply kept_seq (pq := pq) x | apply kept_seq1 (pq := pq) x | apply kept_seq2 (pq := pq) x
                on_goal 1 => subst x
                on_goal 2 => (intro hx; try clear_value x)) | try clear_value x)
    | with_reducible first | assumption | apply State.ckPut_kept | apply State.setPair_kept
                                  | apply State.ckSent_kept | apply kept_ite | apply kept1_ite | apply kept2_ite
    | dsimp only
    | split
    | with_reducible first | apply kept_fst | apply kept_snd
    | with_reducible apply kept1_of
    | with_reducible apply kept2_of
    | with_reducible apply kept_mk

theorem State.ckPump_kept {s : State} (h : s.Kept pq) : (State.ckPump s).Kept pq := by
  unfold State.ckPump
  repeat' first
    | with_reducible intro _
    | with_reducible first | assumption | apply State.free_kept | apply State.each_kept | apply State.ckStep_kept
                                  | apply kept_ite | apply kept1_ite | apply kept2_ite
    | dsimp only
    | with_reducible first | apply kept_fst | apply kept_snd
    | with_reducible apply kept1_of
    | with_reducible apply kept2_of

theorem State.mgmtSend_kept {s : State} (h : s.Kept pq) : (State.mgmtSend s).Kept pq := by
  unfold State.mgmtSend
  repeat' first
    | with_reducible intro _
    | with_reducible first | assumption | apply State.setPair_kept
    | dsimp only
    | with_reducible apply kept_mk

theorem State.pairTick_kept {s : State} (mirror : List Byte) (h : s.Kept pq) : (State.pairTick s mirror).Kept pq := by
  unfold State.pairTick
  repeat' first
    | with_reducible intro _
    | (extract_lets -underBinder +onlyGivenNames x
       first | (first | apply kept_seq (pq := pq) x | apply kept_seq1 (pq := pq) x | apply kept_seq2 (pq := pq) x
                on_goal 1 => subst x
                on_goal 2 => (intro hx; try clear_value x)) | try clear_value x)
    | with_reducible first | assumption | apply State.setUnit_kept | apply State.setF_kept
                                  | apply State.setPair_kept | apply State.healthPin_kept | apply State.cond_kept
                                  | apply State.linkSend_kept | apply State.mgmtSend_kept | apply State.ckPump_kept
                                  | apply kept_ite | apply kept1_ite | apply kept2_ite
    | dsimp only
    | with_reducible first | apply kept_fst | apply kept_snd
    | with_reducible apply kept1_of
    | with_reducible apply kept2_of
    | with_reducible apply kept_mk

theorem State.staleTest_kept {s : State} (h : s.Kept pq) : (State.staleTest s).Kept pq := by
  unfold State.staleTest
  repeat' first
    | with_reducible intro _
    | with_reducible first | assumption | apply State.cond_kept | apply State.setF_kept
    | dsimp only

theorem State.pairSecond_kept {s : State} (h : s.Kept pq) : (State.pairSecond s).Kept pq := by
  unfold State.pairSecond
  repeat' first
    | with_reducible intro _
    | (extract_lets -underBinder +onlyGivenNames x
       first | (first | apply kept_seq (pq := pq) x | apply kept_seq1 (pq := pq) x | apply kept_seq2 (pq := pq) x
                on_goal 1 => subst x
                on_goal 2 => (intro hx; try clear_value x)) | try clear_value x)
    | with_reducible first | assumption | apply State.inc_kept | apply State.setPair_kept
                                  | apply State.staleTest_kept | apply kept_ite | apply kept1_ite | apply kept2_ite
    | dsimp only
    | with_reducible first | apply kept_fst | apply kept_snd
    | with_reducible apply kept1_of
    | with_reducible apply kept2_of
    | with_reducible apply kept_mk

theorem execLinkBringup_kept {s : State} (h : s.Kept pq) : KeptOut pq (execLinkBringup s) := by
  unfold execLinkBringup
  repeat' first
    | with_reducible intro _
    | with_reducible first | assumption | apply State.linkOff_kept | apply State.setPair_kept | apply kept_ite
                                  | apply kept1_ite | apply kept2_ite | apply keptOut_next | apply keptOut_refused
                                  | apply keptOut_ite
    | dsimp only
    | with_reducible first | apply kept_fst | apply kept_snd
    | with_reducible apply kept1_of
    | with_reducible apply kept2_of
    | with_reducible apply kept_mk

theorem execLinkLaneLock_kept (lane : Fin 2) {s : State} (h : s.Kept pq) : KeptOut pq (execLinkLaneLock lane s) := by
  unfold execLinkLaneLock
  repeat' first
    | with_reducible intro _
    | (extract_lets -underBinder +onlyGivenNames x
       first | (first | apply kept_seq (pq := pq) x | apply kept_seq1 (pq := pq) x | apply kept_seq2 (pq := pq) x
                on_goal 1 => subst x
                on_goal 2 => (intro hx; try clear_value x)) | try clear_value x)
    | with_reducible first | assumption | apply State.setPair_kept | apply State.cond_kept
                                  | apply State.linkSend_kept | apply kept_ite | apply kept1_ite | apply kept2_ite
                                  | apply keptOut_next | apply keptOut_refused | apply keptOut_ite
    | dsimp only
    | with_reducible first | apply kept_fst | apply kept_snd
    | with_reducible apply kept1_of
    | with_reducible apply kept2_of
    | with_reducible apply kept_mk

theorem execLinkRateFallback_kept {s : State} (h : s.Kept pq) : KeptOut pq (execLinkRateFallback s) := by
  unfold execLinkRateFallback
  repeat' first
    | with_reducible intro _
    | with_reducible first | assumption | apply State.setPair_kept | apply kept_ite | apply kept1_ite
                                  | apply kept2_ite | apply keptOut_next | apply keptOut_refused | apply keptOut_ite
    | dsimp only
    | with_reducible first | apply kept_fst | apply kept_snd
    | with_reducible apply kept1_of
    | with_reducible apply kept2_of
    | with_reducible apply kept_mk

theorem execLinkCapsReceived_kept (caps : CapsRec) {s : State} (h : s.Kept pq) : KeptOut pq (execLinkCapsReceived caps
    s) := by
  unfold execLinkCapsReceived
  repeat' first
    | with_reducible intro _
    | (extract_lets -underBinder +onlyGivenNames x
       first | (first | apply kept_seq (pq := pq) x | apply kept_seq1 (pq := pq) x | apply kept_seq2 (pq := pq) x
                on_goal 1 => subst x
                on_goal 2 => (intro hx; try clear_value x)) | try clear_value x)
    | with_reducible first | assumption | apply State.linkOff_kept | apply State.setB_kept
                                  | apply State.setPair_kept | apply State.linkSend_kept | apply kept_ite
                                  | apply kept1_ite | apply kept2_ite | apply keptOut_next | apply keptOut_refused
                                  | apply keptOut_ite
    | dsimp only
    | with_reducible first | apply kept_fst | apply kept_snd
    | with_reducible apply kept1_of
    | with_reducible apply kept2_of
    | with_reducible apply kept_mk

theorem State.judgeCompat_kept {s : State} (diff : Nat) (h : s.Kept pq) : (State.judgeCompat s diff).Kept pq := by
  unfold State.judgeCompat
  repeat' first
    | with_reducible intro _
    | (extract_lets -underBinder +onlyGivenNames x
       first | (first | apply kept_seq (pq := pq) x | apply kept_seq1 (pq := pq) x | apply kept_seq2 (pq := pq) x
                on_goal 1 => subst x
                on_goal 2 => (intro hx; try clear_value x)) | try clear_value x)
    | with_reducible first | assumption | apply State.setF_kept | apply State.setUnit_kept | apply kept_ite
                                  | apply kept1_ite | apply kept2_ite
    | dsimp only
    | with_reducible first | apply kept_fst | apply kept_snd
    | with_reducible apply kept1_of
    | with_reducible apply kept2_of

theorem State.renumber_kept {s : State} (h : s.Kept pq) : (State.renumber s).Kept pq := by
  unfold State.renumber
  repeat' first
    | with_reducible intro _
    | with_reducible first | assumption | apply State.setPair_kept | apply kept_ite | apply kept1_ite
                                  | apply kept2_ite
    | dsimp only
    | with_reducible first | apply kept_fst | apply kept_snd
    | with_reducible apply kept1_of
    | with_reducible apply kept2_of
    | with_reducible apply kept_mk

theorem State.dualTest_kept {s : State} (h : s.Kept pq) : (State.dualTest s).Kept pq := by
  unfold State.dualTest
  repeat' first
    | with_reducible intro _
    | with_reducible first | assumption | apply State.setB_kept
    | dsimp only

theorem execLinkCompat_kept (r : CompatRec) {s : State} (h : s.Kept pq) : KeptOut pq (execLinkCompat r s) := by
  unfold execLinkCompat
  repeat' first
    | with_reducible intro _
    | (extract_lets -underBinder +onlyGivenNames x
       first | (first | apply kept_seq (pq := pq) x | apply kept_seq1 (pq := pq) x | apply kept_seq2 (pq := pq) x
                on_goal 1 => subst x
                on_goal 2 => (intro hx; try clear_value x)) | try clear_value x)
    | with_reducible first | assumption | apply State.setF_kept | apply State.setPair_kept
                                  | apply State.judgeCompat_kept | apply State.dualTest_kept | apply State.cond_kept
                                  | apply State.renumber_kept | apply State.linkSend_kept | apply State.toStage_kept
                                  | apply State.phase_kept | apply kept_ite | apply kept1_ite | apply kept2_ite
                                  | apply keptOut_next | apply keptOut_refused | apply keptOut_ite
    | dsimp only
    | with_reducible first | apply kept_fst | apply kept_snd
    | with_reducible apply kept1_of
    | with_reducible apply kept2_of
    | with_reducible apply kept_mk

theorem execLinkStatus_kept (r : StatusRec) {s : State} (h : s.Kept pq) : KeptOut pq (execLinkStatus r s) := by
  unfold execLinkStatus
  repeat' first
    | with_reducible intro _
    | (extract_lets -underBinder +onlyGivenNames x
       first | (first | apply kept_seq (pq := pq) x | apply kept_seq1 (pq := pq) x | apply kept_seq2 (pq := pq) x
                on_goal 1 => subst x
                on_goal 2 => (intro hx; try clear_value x)) | try clear_value x)
    | with_reducible first | assumption | apply State.setF_kept | apply State.setPair_kept | apply State.setRtc_kept
                                  | apply State.cond_kept | apply State.linkSend_kept | apply State.dualTest_kept
                                  | apply kept_ite | apply kept1_ite | apply kept2_ite | apply keptOut_next
                                  | apply keptOut_refused | apply keptOut_ite
    | dsimp only
    | with_reducible first | apply kept_fst | apply kept_snd
    | with_reducible apply kept1_of
    | with_reducible apply kept2_of
    | with_reducible apply kept_mk

theorem execLinkMirror_kept (bytes : List Byte) {s : State} (h : s.Kept pq) : KeptOut pq (execLinkMirror bytes s) :=
    by
  unfold execLinkMirror
  repeat' first
    | with_reducible intro _
    | (extract_lets -underBinder +onlyGivenNames x
       first | (first | apply kept_seq (pq := pq) x | apply kept_seq1 (pq := pq) x | apply kept_seq2 (pq := pq) x
                on_goal 1 => subst x
                on_goal 2 => (intro hx; try clear_value x)) | try clear_value x)
    | with_reducible first | assumption | apply State.linkHeard_kept | apply State.setPair_kept
                                  | apply State.setF_kept | apply kept_ite | apply kept1_ite | apply kept2_ite
                                  | apply keptOut_next | apply keptOut_refused | apply keptOut_ite
    | dsimp only
    | with_reducible first | apply kept_fst | apply kept_snd
    | with_reducible apply kept1_of
    | with_reducible apply kept2_of
    | with_reducible apply kept_mk

theorem State.ckDrop_kept {s : State} (h : s.Kept pq) : (State.ckDrop s).Kept pq := by
  unfold State.ckDrop
  repeat' first
    | with_reducible intro _
    | with_reducible first | assumption | apply State.setPair_kept | apply State.count_kept
    | dsimp only
    | with_reducible apply kept_mk

theorem execLinkCrcFail_kept (typ : BitVec 8) {s : State} (h : s.Kept pq) : KeptOut pq (execLinkCrcFail typ s) := by
  unfold execLinkCrcFail
  repeat' first
    | with_reducible intro _
    | (extract_lets -underBinder +onlyGivenNames x
       first | (first | apply kept_seq (pq := pq) x | apply kept_seq1 (pq := pq) x | apply kept_seq2 (pq := pq) x
                on_goal 1 => subst x
                on_goal 2 => (intro hx; try clear_value x)) | try clear_value x)
    | with_reducible first | assumption | apply State.count_kept | apply State.ckDrop_kept | apply kept_ite
                                  | apply kept1_ite | apply kept2_ite | apply keptOut_next | apply keptOut_refused
                                  | apply keptOut_ite
    | dsimp only
    | with_reducible first | apply kept_fst | apply kept_snd
    | with_reducible apply kept1_of
    | with_reducible apply kept2_of

theorem execLinkMgmtReply_kept (_tag : BitVec 8) (_status : BitVec 8) (_words : List Word) {s : State} (h : s.Kept pq)
    : KeptOut pq (execLinkMgmtReply _tag _status _words s) := by
  unfold execLinkMgmtReply
  repeat' first
    | with_reducible intro _
    | with_reducible first | assumption | apply State.linkHeard_kept | apply kept_ite | apply kept1_ite
                                  | apply kept2_ite | apply keptOut_next | apply keptOut_refused | apply keptOut_ite
    | dsimp only
    | with_reducible first | apply kept_fst | apply kept_snd
    | with_reducible apply kept1_of
    | with_reducible apply kept2_of

theorem execLinkMgmtTimeout_kept {s : State} (h : s.Kept pq) : KeptOut pq (execLinkMgmtTimeout s) := by
  unfold execLinkMgmtTimeout
  repeat' first
    | with_reducible intro _
    | with_reducible first | assumption | apply State.count_kept | apply kept_ite | apply kept1_ite
                                  | apply kept2_ite | apply keptOut_next | apply keptOut_refused | apply keptOut_ite
    | dsimp only
    | with_reducible first | apply kept_fst | apply kept_snd
    | with_reducible apply kept1_of
    | with_reducible apply kept2_of

theorem execLinkDown_kept {s : State} (h : s.Kept pq) : KeptOut pq (execLinkDown s) := by
  unfold execLinkDown
  repeat' first
    | with_reducible intro _
    | (extract_lets -underBinder +onlyGivenNames x
       first | (first | apply kept_seq (pq := pq) x | apply kept_seq1 (pq := pq) x | apply kept_seq2 (pq := pq) x
                on_goal 1 => subst x
                on_goal 2 => (intro hx; try clear_value x)) | try clear_value x)
    | with_reducible first | assumption | apply State.linkOff_kept | apply State.count_kept
                                  | apply State.dualTest_kept | apply State.staleTest_kept | apply kept_ite
                                  | apply kept1_ite | apply kept2_ite | apply keptOut_next | apply keptOut_refused
                                  | apply keptOut_ite
    | dsimp only
    | with_reducible first | apply kept_fst | apply kept_snd
    | with_reducible apply kept1_of
    | with_reducible apply kept2_of

theorem State.ckRecord_kept {s : State} (r : CkRec) (h : s.Kept pq) : (State.ckRecord s r).Kept pq := by
  unfold State.ckRecord
  repeat' first
    | with_reducible intro _
    | (extract_lets -underBinder +onlyGivenNames x
       first | (first | apply kept_seq (pq := pq) x | apply kept_seq1 (pq := pq) x | apply kept_seq2 (pq := pq) x
                on_goal 1 => subst x
                on_goal 2 => (intro hx; try clear_value x)) | try clear_value x)
    | with_reducible first | assumption | apply State.setPair_kept | apply State.putRec_kept | apply State.inc_kept
                                  | apply State.count_kept
    | dsimp only
    | split
    | with_reducible first | apply kept_fst | apply kept_snd
    | with_reducible apply kept1_of
    | with_reducible apply kept2_of
    | with_reducible apply kept_mk

theorem State.ckTake_kept {s : State} (r : CkRec) (h : s.Kept pq) : (State.ckTake s r).Kept pq := by
  unfold State.ckTake
  repeat' first
    | with_reducible intro _
    | with_reducible first | assumption | apply State.ckRecord_kept | apply State.setPair_kept | apply kept_ite
                                  | apply kept1_ite | apply kept2_ite
    | dsimp only
    | with_reducible first | apply kept_fst | apply kept_snd
    | with_reducible apply kept1_of
    | with_reducible apply kept2_of
    | with_reducible apply kept_mk

theorem execLinkCkptChunk_kept (c : CkptChunk) {s : State} (h : s.Kept pq) : KeptOut pq (execLinkCkptChunk c s) := by
  unfold execLinkCkptChunk
  repeat' first
    | with_reducible intro _
    | (extract_lets -underBinder +onlyGivenNames x
       first | (first | apply kept_seq (pq := pq) x | apply kept_seq1 (pq := pq) x | apply kept_seq2 (pq := pq) x
                on_goal 1 => subst x
                on_goal 2 => (intro hx; try clear_value x)) | try clear_value x)
    | with_reducible first | assumption | apply State.linkHeard_kept | apply State.ckDrop_kept
                                  | apply State.cond_kept | apply State.setF_kept | apply State.ckTake_kept
                                  | apply kept_ite | apply kept1_ite | apply kept2_ite | apply keptOut_next
                                  | apply keptOut_refused | apply keptOut_ite
    | dsimp only
    | split
    | with_reducible first | apply kept_fst | apply kept_snd
    | with_reducible apply kept1_of
    | with_reducible apply kept2_of
    | with_reducible apply kept_mk

theorem State.ckHeader_kept {s : State} (num : Nat) (rtc : Nat) (nrec : Nat) (h : s.Kept pq) : (State.ckHeader s num
    rtc nrec).Kept pq := by
  unfold State.ckHeader
  repeat' first
    | with_reducible intro _
    | (extract_lets -underBinder +onlyGivenNames x
       first | (first | apply kept_seq (pq := pq) x | apply kept_seq1 (pq := pq) x | apply kept_seq2 (pq := pq) x
                on_goal 1 => subst x
                on_goal 2 => (intro hx; try clear_value x)) | try clear_value x)
    | with_reducible first | assumption | apply State.setBytes_kept | apply State.setPair_kept
    | dsimp only
    | with_reducible first | apply kept_fst | apply kept_snd
    | with_reducible apply kept1_of
    | with_reducible apply kept2_of
    | with_reducible apply kept_mk

theorem execLinkCkptEnd_kept (cknum : BitVec 32) (ckrtc : BitVec 32) (nrec : BitVec 32) {s : State} (h : s.Kept pq) :
    KeptOut pq (execLinkCkptEnd cknum ckrtc nrec s) := by
  unfold execLinkCkptEnd
  repeat' first
    | with_reducible intro _
    | (extract_lets -underBinder +onlyGivenNames x
       first | (first | apply kept_seq (pq := pq) x | apply kept_seq1 (pq := pq) x | apply kept_seq2 (pq := pq) x
                on_goal 1 => subst x
                on_goal 2 => (intro hx; try clear_value x)) | try clear_value x)
    | with_reducible first | assumption | apply State.linkHeard_kept | apply State.cond_kept
                                  | apply State.ckDrop_kept | apply State.setF_kept | apply State.ckHeader_kept
                                  | apply State.ledger_kept | apply State.setUnit_kept | apply kept_ite
                                  | apply kept1_ite | apply kept2_ite | apply keptOut_next | apply keptOut_refused
                                  | apply keptOut_ite
    | dsimp only
    | with_reducible first | apply kept_fst | apply kept_snd
    | with_reducible apply kept1_of
    | with_reducible apply kept2_of

theorem execCheckpointStart_kept {s : State} (h : s.Kept pq) : KeptOut pq (execCheckpointStart s) := by
  unfold execCheckpointStart
  repeat' first
    | with_reducible intro _
    | (extract_lets -underBinder +onlyGivenNames x
       first | (first | apply kept_seq (pq := pq) x | apply kept_seq1 (pq := pq) x | apply kept_seq2 (pq := pq) x
                on_goal 1 => subst x
                on_goal 2 => (intro hx; try clear_value x)) | try clear_value x)
    | with_reducible first | assumption | apply State.setPair_kept | apply State.setF_kept | apply kept_ite
                                  | apply kept1_ite | apply kept2_ite | apply keptOut_next | apply keptOut_refused
                                  | apply keptOut_ite
    | dsimp only
    | with_reducible first | apply kept_fst | apply kept_snd
    | with_reducible apply kept1_of
    | with_reducible apply kept2_of
    | with_reducible apply kept_mk

theorem execVaultCopy_kept {s : State} (h : s.Kept pq) : KeptOut pq (execVaultCopy s) := by
  unfold execVaultCopy
  repeat' first
    | with_reducible intro _
    | (extract_lets -underBinder +onlyGivenNames x
       first | (first | apply kept_seq (pq := pq) x | apply kept_seq1 (pq := pq) x | apply kept_seq2 (pq := pq) x
                on_goal 1 => subst x
                on_goal 2 => (intro hx; try clear_value x)) | try clear_value x)
    | with_reducible first | assumption | apply State.setPair_kept | apply State.queueJob_kept | apply kept_ite
                                  | apply kept1_ite | apply kept2_ite | apply keptOut_next | apply keptOut_refused
                                  | apply keptOut_ite
    | dsimp only
    | with_reducible first | apply kept_fst | apply kept_snd
    | with_reducible apply kept1_of
    | with_reducible apply kept2_of
    | with_reducible apply kept_mk

theorem State.holdGroup_kept {s : State} (g : Nat) (h : s.Kept pq) : (State.holdGroup s g).Kept pq := by
  unfold State.holdGroup
  repeat' first
    | with_reducible intro _
    | (extract_lets -underBinder +onlyGivenNames x
       first | (first | apply kept_seq (pq := pq) x | apply kept_seq1 (pq := pq) x | apply kept_seq2 (pq := pq) x
                on_goal 1 => subst x
                on_goal 2 => (intro hx; try clear_value x)) | try clear_value x)
    | with_reducible first | assumption | apply State.inc_kept | apply State.setF_kept
                                  | apply State.angleWritten_kept | apply State.setDrv_kept
    | dsimp only
    | with_reducible first | apply kept_fst | apply kept_snd
    | with_reducible apply kept1_of
    | with_reducible apply kept2_of
    | with_reducible apply kept_mk

theorem State.takeHold_kept {s : State} (h : s.Kept pq) : (State.takeHold s).Kept pq := by
  unfold State.takeHold
  repeat' first
    | with_reducible intro _
    | (extract_lets -underBinder +onlyGivenNames x
       first | (first | apply kept_seq (pq := pq) x | apply kept_seq1 (pq := pq) x | apply kept_seq2 (pq := pq) x
                on_goal 1 => subst x
                on_goal 2 => (intro hx; try clear_value x)) | try clear_value x)
    | with_reducible first | assumption | apply State.setF_kept | apply State.each_kept | apply State.holdGroup_kept
                                  | apply State.groupOff_kept | apply State.setB_kept | apply State.gpEnWritten_kept
                                  | apply kept_ite | apply kept1_ite | apply kept2_ite
    | dsimp only
    | with_reducible first | apply kept_fst | apply kept_snd
    | with_reducible apply kept1_of
    | with_reducible apply kept2_of

theorem State.takeover_kept {s : State} (h : s.Kept pq) : (State.takeover s).Kept pq := by
  unfold State.takeover
  repeat' first
    | with_reducible intro _
    | (extract_lets -underBinder +onlyGivenNames x
       first | (first | apply kept_seq (pq := pq) x | apply kept_seq1 (pq := pq) x | apply kept_seq2 (pq := pq) x
                on_goal 1 => subst x
                on_goal 2 => (intro hx; try clear_value x)) | try clear_value x)
    | with_reducible first | assumption | apply State.count_kept | apply State.log_kept | apply State.setUnit_kept
                                  | apply State.takeHold_kept | apply State.setRtc_kept | apply State.setPair_kept
                                  | apply State.powerUpCores_kept | apply kept_ite | apply kept1_ite
                                  | apply kept2_ite
    | dsimp only
    | with_reducible first | apply kept_fst | apply kept_snd
    | with_reducible apply kept1_of
    | with_reducible apply kept2_of
    | with_reducible apply kept_mk

theorem execCurSelHigh_kept {s : State} (h : s.Kept pq) : KeptOut pq (execCurSelHigh s) := by
  unfold execCurSelHigh
  repeat' first
    | with_reducible intro _
    | (extract_lets -underBinder +onlyGivenNames x
       first | (first | apply kept_seq (pq := pq) x | apply kept_seq1 (pq := pq) x | apply kept_seq2 (pq := pq) x
                on_goal 1 => subst x
                on_goal 2 => (intro hx; try clear_value x)) | try clear_value x)
    | with_reducible first | assumption | apply State.setF_kept | apply State.takeover_kept | apply kept_ite
                                  | apply kept1_ite | apply kept2_ite | apply keptOut_next | apply keptOut_refused
                                  | apply keptOut_ite
    | dsimp only
    | with_reducible first | apply kept_fst | apply kept_snd
    | with_reducible apply kept1_of
    | with_reducible apply kept2_of

theorem State.drvForget_kept {s : State} (d : Nat) (h : s.Kept pq) : (State.drvForget s d).Kept pq := by
  unfold State.drvForget
  repeat' first
    | with_reducible intro _
    | (extract_lets -underBinder +onlyGivenNames x
       first | (first | apply kept_seq (pq := pq) x | apply kept_seq1 (pq := pq) x | apply kept_seq2 (pq := pq) x
                on_goal 1 => subst x
                on_goal 2 => (intro hx; try clear_value x)) | try clear_value x)
    | with_reducible first | assumption | apply State.each_kept | apply State.setDr_kept | apply State.setDrv_kept
                                  | apply State.setF_kept
    | dsimp only
    | with_reducible first | apply kept_fst | apply kept_snd
    | with_reducible apply kept1_of
    | with_reducible apply kept2_of
    | with_reducible apply kept_mk

theorem State.demote_kept {s : State} (h : s.Kept pq) : (State.demote s).Kept pq := by
  unfold State.demote
  repeat' first
    | with_reducible intro _
    | (extract_lets -underBinder +onlyGivenNames x
       first | (first | apply kept_seq (pq := pq) x | apply kept_seq1 (pq := pq) x | apply kept_seq2 (pq := pq) x
                on_goal 1 => subst x
                on_goal 2 => (intro hx; try clear_value x)) | try clear_value x)
    | with_reducible first | assumption | apply State.log_kept | apply State.engineHalt_kept | apply State.each_kept
                                  | apply State.groupOff_kept | apply State.drvForget_kept | apply State.setF_kept
                                  | apply State.pinsLow_kept | apply State.canStop_kept | apply State.almHalt_kept
                                  | apply State.convertersDown_kept | apply State.setPair_kept
                                  | apply State.setUnit_kept | apply State.dualTest_kept
    | dsimp only
    | with_reducible first | apply kept_fst | apply kept_snd
    | with_reducible apply kept1_of
    | with_reducible apply kept2_of
    | with_reducible apply kept_mk

theorem execCurSelLow_kept {s : State} (h : s.Kept pq) : KeptOut pq (execCurSelLow s) := by
  unfold execCurSelLow
  repeat' first
    | with_reducible intro _
    | (extract_lets -underBinder +onlyGivenNames x
       first | (first | apply kept_seq (pq := pq) x | apply kept_seq1 (pq := pq) x | apply kept_seq2 (pq := pq) x
                on_goal 1 => subst x
                on_goal 2 => (intro hx; try clear_value x)) | try clear_value x)
    | with_reducible first | assumption | apply State.setF_kept | apply State.demote_kept | apply kept_ite
                                  | apply kept1_ite | apply kept2_ite | apply keptOut_next | apply keptOut_refused
                                  | apply keptOut_ite
    | dsimp only
    | with_reducible first | apply kept_fst | apply kept_snd
    | with_reducible apply kept1_of
    | with_reducible apply kept2_of

theorem execTakeoverRestoreEnd_kept {s : State} (h : s.Kept pq) : KeptOut pq (execTakeoverRestoreEnd s) := by
  unfold execTakeoverRestoreEnd
  repeat' first
    | with_reducible intro _
    | with_reducible first | assumption | apply State.restoreVault_kept | apply State.setPair_kept | apply kept_ite
                                  | apply kept1_ite | apply kept2_ite | apply keptOut_next | apply keptOut_refused
                                  | apply keptOut_ite
    | dsimp only
    | with_reducible first | apply kept_fst | apply kept_snd
    | with_reducible apply kept1_of
    | with_reducible apply kept2_of
    | with_reducible apply kept_mk

theorem execTakeoverCalibration_kept {s : State} (h : s.Kept pq) : KeptOut pq (execTakeoverCalibration s) := by
  unfold execTakeoverCalibration
  repeat' first
    | with_reducible intro _
    | with_reducible first | assumption | apply State.setPair_kept | apply kept_ite | apply kept1_ite
                                  | apply kept2_ite | apply keptOut_next | apply keptOut_refused | apply keptOut_ite
    | dsimp only
    | with_reducible first | apply kept_fst | apply kept_snd
    | with_reducible apply kept1_of
    | with_reducible apply kept2_of
    | with_reducible apply kept_mk

theorem execTakeoverSequencerEnable_kept (cal : CalResults) {s : State} (h : s.Kept pq) : KeptOut pq
    (execTakeoverSequencerEnable cal s) := by
  unfold execTakeoverSequencerEnable
  repeat' first
    | with_reducible intro _
    | with_reducible first | assumption | apply State.calibrateAll_kept | apply State.convertersReady_kept
                                  | apply State.setPair_kept | apply kept_ite | apply kept1_ite | apply kept2_ite
                                  | apply keptOut_next | apply keptOut_refused | apply keptOut_ite
    | dsimp only
    | with_reducible first | apply kept_fst | apply kept_snd
    | with_reducible apply kept1_of
    | with_reducible apply kept2_of
    | with_reducible apply kept_mk

theorem State.becomeActive_kept {s : State} (h : s.Kept pq) : (State.becomeActive s).Kept pq := by
  unfold State.becomeActive
  repeat' first
    | with_reducible intro _
    | (extract_lets -underBinder +onlyGivenNames x
       first | (first | apply kept_seq (pq := pq) x | apply kept_seq1 (pq := pq) x | apply kept_seq2 (pq := pq) x
                on_goal 1 => subst x
                on_goal 2 => (intro hx; try clear_value x)) | try clear_value x)
    | with_reducible first | assumption | apply State.setUnit_kept | apply State.renumber_kept
                                  | apply State.dualTest_kept | apply State.cond_kept | apply State.linkSend_kept
                                  | apply State.engineTick_kept | apply State.canStart_kept
    | dsimp only
    | with_reducible first | apply kept_fst | apply kept_snd
    | with_reducible apply kept1_of
    | with_reducible apply kept2_of

theorem execTakeoverEngineStart_kept {s : State} (h : s.Kept pq) : KeptOut pq (execTakeoverEngineStart s) := by
  unfold execTakeoverEngineStart
  repeat' first
    | with_reducible intro _
    | with_reducible first | assumption | apply State.becomeActive_kept | apply kept_ite | apply kept1_ite
                                  | apply kept2_ite | apply keptOut_next | apply keptOut_refused | apply keptOut_ite
    | dsimp only
    | with_reducible first | apply kept_fst | apply kept_snd
    | with_reducible apply kept1_of
    | with_reducible apply kept2_of

theorem State.folioSlice_kept {s : State} (h : s.Kept pq) : (State.folioSlice s).2.Kept pq := by
  show Kept2 pq _
  unfold State.folioSlice
  repeat' first
    | with_reducible intro _
    | (extract_lets -underBinder +onlyGivenNames x
       first | (first | apply kept_seq (pq := pq) x | apply kept_seq1 (pq := pq) x | apply kept_seq2 (pq := pq) x
                on_goal 1 => subst x
                on_goal 2 => (intro hx; try clear_value x)) | try clear_value x)
    | with_reducible first | assumption | apply State.folRead_kept | apply State.setPair_kept
    | dsimp only
    | with_reducible first | apply kept_fst | apply kept_snd
    | with_reducible apply kept1_of
    | with_reducible apply kept2_of
    | with_reducible apply kept_mk

theorem State.sliceFail_kept {s : State} (k : Nat) (detail : Nat) (h : s.Kept pq) : (State.sliceFail s k detail).Kept
    pq := by
  unfold State.sliceFail
  repeat' first
    | with_reducible intro _
    | with_reducible first | assumption | apply State.setBit_kept | apply State.log_kept
    | dsimp only

theorem State.selfTest_kept {s : State} (r : SelfTestResult) (h : s.Kept pq) : (State.selfTest s r).Kept pq := by
  unfold State.selfTest
  repeat' first
    | with_reducible intro _
    | (extract_lets -underBinder +onlyGivenNames x
       first | (first | apply kept_seq (pq := pq) x | apply kept_seq1 (pq := pq) x | apply kept_seq2 (pq := pq) x
                on_goal 1 => subst x
                on_goal 2 => (intro hx; try clear_value x)) | try clear_value x)
    | with_reducible first | assumption | apply State.setPair_kept | apply State.sliceFail_kept
                                  | apply State.powerUpCore_kept | apply State.cond_kept | apply State.setF_kept
                                  | apply State.folioSlice_kept | apply State.inc_kept | apply kept_ite
                                  | apply kept1_ite | apply kept2_ite
    | dsimp only
    | split
    | with_reducible first | apply kept_fst | apply kept_snd
    | with_reducible apply kept1_of
    | with_reducible apply kept2_of
    | with_reducible apply kept_mk

theorem execSelfTestCycle_kept (r : SelfTestResult) {s : State} (h : s.Kept pq) : KeptOut pq (execSelfTestCycle r s)
    := by
  unfold execSelfTestCycle
  repeat' first
    | with_reducible intro _
    | with_reducible first | assumption | apply State.selfTest_kept | apply kept_ite | apply kept1_ite
                                  | apply kept2_ite | apply keptOut_next | apply keptOut_refused | apply keptOut_ite
    | dsimp only
    | with_reducible first | apply kept_fst | apply kept_snd
    | with_reducible apply kept1_of
    | with_reducible apply kept2_of

theorem State.setPin_kept {s : State} (c : Nat) (b : Bool) (h : s.Kept pq) : (State.setPin s c b).Kept pq := by
  unfold State.setPin
  repeat' first
    | with_reducible intro _
    | with_reducible first | assumption | apply State.setGpc_kept
    | dsimp only
    | with_reducible apply kept_mk

theorem State.curPins_kept {s : State} (set : Option Nat) (clear : Option Nat) (h : s.Kept pq) : (State.curPins s set
    clear).Kept pq := by
  unfold State.curPins
  repeat' first
    | with_reducible intro _
    | (extract_lets -underBinder +onlyGivenNames x
       first | (first | apply kept_seq (pq := pq) x | apply kept_seq1 (pq := pq) x | apply kept_seq2 (pq := pq) x
                on_goal 1 => subst x
                on_goal 2 => (intro hx; try clear_value x)) | try clear_value x)
    | with_reducible first | assumption | apply State.setPin_kept
    | dsimp only
    | with_reducible first | apply kept_fst | apply kept_snd
    | with_reducible apply kept1_of
    | with_reducible apply kept2_of

theorem State.curAct_kept {s : State} (h : s.Kept pq) : (State.curAct s).Kept pq := by
  unfold State.curAct
  repeat' first
    | with_reducible intro _
    | (extract_lets -underBinder +onlyGivenNames x
       first | (first | apply kept_seq (pq := pq) x | apply kept_seq1 (pq := pq) x | apply kept_seq2 (pq := pq) x
                on_goal 1 => subst x
                on_goal 2 => (intro hx; try clear_value x)) | try clear_value x)
    | with_reducible first | assumption | apply State.setPair_kept | apply State.curPins_kept | apply kept_ite
                                  | apply kept1_ite | apply kept2_ite
    | refine kept_eq1 (by with_reducible assumption) ?_
    | refine kept_eq2 (by with_reducible assumption) ?_
    | dsimp only
    | split
    | with_reducible first | apply kept_fst | apply kept_snd
    | with_reducible apply kept1_of
    | with_reducible apply kept2_of
    | with_reducible apply kept_mk

theorem execCuratorSample_kept (hbA : Bool) (hsA : Bool) (hbB : Bool) (hsB : Bool) {s : State} (h : s.Kept pq) :
    KeptOut pq (execCuratorSample hbA hsA hbB hsB s) := by
  unfold execCuratorSample
  repeat' first
    | with_reducible intro _
    | (extract_lets -underBinder +onlyGivenNames x
       first | (first | apply kept_seq (pq := pq) x | apply kept_seq1 (pq := pq) x | apply kept_seq2 (pq := pq) x
                on_goal 1 => subst x
                on_goal 2 => (intro hx; try clear_value x)) | try clear_value x)
    | with_reducible first | assumption | apply State.setPair_kept | apply State.curAct_kept | apply kept_ite
                                  | apply kept1_ite | apply kept2_ite | apply keptOut_next | apply keptOut_refused
                                  | apply keptOut_ite
    | dsimp only
    | with_reducible first | apply kept_fst | apply kept_snd
    | with_reducible apply kept1_of
    | with_reducible apply kept2_of
    | with_reducible apply kept_mk

end Sys2Proof.Machine
end

