-- ==== Sys2Proof/Laws/KeptChecks.lean ====
section
/-! SUPPORT. What the functions of Checks keep. -/

namespace Sys2Proof.Machine

set_option linter.unusedTactic false
set_option linter.unreachableTactic false
set_option linter.tactic.unusedName false

variable {pq : List Instr}

theorem State.commitWord_kept {s : State} (a : Nat) (v : Nat) (h : s.Kept pq) : (State.commitWord s a v).Kept pq := by
  unfold State.commitWord
  repeat' first
    | with_reducible intro _
    | (extract_lets -underBinder +onlyGivenNames x
       first | (first | apply kept_seq (pq := pq) x | apply kept_seq1 (pq := pq) x | apply kept_seq2 (pq := pq) x
                on_goal 1 => subst x
                on_goal 2 => (intro hx; try clear_value x)) | try clear_value x)
    | with_reducible first | assumption | apply State.poke_kept
    | dsimp only
    | with_reducible first | apply kept_fst | apply kept_snd
    | with_reducible apply kept1_of
    | with_reducible apply kept2_of

theorem State.commitShadow_kept {s : State} (h : s.Kept pq) : (State.commitShadow s).Kept pq := by
  unfold State.commitShadow
  repeat' first
    | with_reducible intro _
    | with_reducible first | assumption | apply State.each_kept | apply State.commitWord_kept
    | dsimp only
    | with_reducible apply kept_mk

theorem State.pushShadow_kept {s : State} (a : Nat) (v : Nat) (h : s.Kept pq) : (State.pushShadow s a v).Kept pq := by
  unfold State.pushShadow
  repeat' first
    | with_reducible intro _
    | with_reducible first | assumption
    | dsimp only
    | with_reducible apply kept_mk

end Sys2Proof.Machine
end

