-- ==== Sys2Proof/Laws/KeptBoot.lean ====
section
/-! SUPPORT. What the functions of Boot keep. -/

namespace Sys2Proof.Machine

set_option linter.unusedTactic false
set_option linter.unreachableTactic false
set_option linter.tactic.unusedName false

variable {pq : List Instr}

theorem State.imageMem_kept {s : State} (a : Nat) (w : Nat) (h : s.Kept pq) : (State.imageMem s a w).Kept pq := by
  unfold State.imageMem
  repeat' first
    | with_reducible intro _
    | (extract_lets -underBinder +onlyGivenNames x
       first | (first | apply kept_seq (pq := pq) x | apply kept_seq1 (pq := pq) x | apply kept_seq2 (pq := pq) x
                on_goal 1 => subst x
                on_goal 2 => (intro hx; try clear_value x)) | try clear_value x)
    | with_reducible first | assumption | apply State.setM_kept | apply kept_ite | apply kept1_ite | apply kept2_ite
    | dsimp only
    | with_reducible first | apply kept_fst | apply kept_snd
    | with_reducible apply kept1_of
    | with_reducible apply kept2_of
    | with_reducible apply kept_mk

theorem State.imageReg_kept {s : State} (idx : Nat) (a : Nat) (w : Nat) (h : s.Kept pq) : (State.imageReg s idx a
    w).Kept pq := by
  unfold State.imageReg
  repeat' first
    | with_reducible intro _
    | (extract_lets -underBinder +onlyGivenNames x
       first | (first | apply kept_seq (pq := pq) x | apply kept_seq1 (pq := pq) x | apply kept_seq2 (pq := pq) x
                on_goal 1 => subst x
                on_goal 2 => (intro hx; try clear_value x)) | try clear_value x)
    | with_reducible first | assumption | apply State.setF_kept | apply State.counterClr_kept
                                  | apply State.ledgerClr_kept | apply State.protImage_kept | apply State.setN_kept
                                  | apply State.wr_kept | apply State.each_kept | apply State.angleWritten_kept
                                  | apply State.comboWritten_kept | apply State.ledgerZero_kept | apply kept_ite
                                  | apply kept1_ite | apply kept2_ite
    | dsimp only
    | split
    | with_reducible first | apply kept_fst | apply kept_snd
    | with_reducible apply kept1_of
    | with_reducible apply kept2_of
    | with_reducible apply kept_mk

theorem State.imageWrite_kept {s : State} (idx : Nat) (a : Nat) (w : Nat) (h : s.Kept pq) : (State.imageWrite s idx a
    w).Kept pq := by
  unfold State.imageWrite
  repeat' first
    | with_reducible intro _
    | (extract_lets -underBinder +onlyGivenNames x
       first | (first | apply kept_seq (pq := pq) x | apply kept_seq1 (pq := pq) x | apply kept_seq2 (pq := pq) x
                on_goal 1 => subst x
                on_goal 2 => (intro hx; try clear_value x)) | try clear_value x)
    | with_reducible first | assumption | apply State.imageMem_kept | apply State.imageReg_kept | apply kept_ite
                                  | apply kept1_ite | apply kept2_ite
    | dsimp only
    | with_reducible first | apply kept_fst | apply kept_snd
    | with_reducible apply kept1_of
    | with_reducible apply kept2_of
    | with_reducible apply kept_mk

theorem State.recordWords_kept {s : State} (ram : Bool) (e : SectEntry) {y0 : Nat} {y1 : List Nat} (h : s.Kept pq) :
    (State.recordWords s ram e y0 y1).1.Kept pq := by
  induction y1 generalizing s y0 with
  | nil =>
    show Kept1 pq _
    unfold State.recordWords
    repeat' first
      | with_reducible intro _
      | with_reducible first | assumption | apply ih | apply State.imageWrite_kept | apply kept_ite
                                  | apply kept1_ite | apply kept2_ite
      | dsimp only
      | with_reducible first | apply kept_fst | apply kept_snd
      | with_reducible apply kept1_of
      | with_reducible apply kept2_of
  | cons x r ih =>
    show Kept1 pq _
    unfold State.recordWords
    repeat' first
      | with_reducible intro _
      | with_reducible first | assumption | apply ih | apply State.imageWrite_kept | apply kept_ite
                                  | apply kept1_ite | apply kept2_ite
      | dsimp only
      | with_reducible first | apply kept_fst | apply kept_snd
      | with_reducible apply kept1_of
      | with_reducible apply kept2_of

theorem State.records_kept {s : State} (ram : Bool) (e : SectEntry) {y0 : Nat} {y1 : List Byte} (h : s.Kept pq) :
    (State.records s ram e y0 y1).1.Kept pq := by
  induction y0 generalizing s y1 with
  | zero =>
    show Kept1 pq _
    unfold State.records
    repeat' first
      | with_reducible intro _
      | (extract_lets -underBinder +onlyGivenNames x
         first | (first | apply kept_seq (pq := pq) x | apply kept_seq1 (pq := pq) x | apply kept_seq2 (pq := pq) x
                  on_goal 1 => subst x
                  on_goal 2 => (intro hx; try clear_value x)) | try clear_value x)
      | with_reducible first | assumption | apply ih | apply State.recordWords_kept | apply kept_ite
                                  | apply kept1_ite | apply kept2_ite
      | dsimp only
      | with_reducible first | apply kept_fst | apply kept_snd
      | with_reducible apply kept1_of
      | with_reducible apply kept2_of
  | succ n ih =>
    show Kept1 pq _
    unfold State.records
    repeat' first
      | with_reducible intro _
      | (extract_lets -underBinder +onlyGivenNames x
         first | (first | apply kept_seq (pq := pq) x | apply kept_seq1 (pq := pq) x | apply kept_seq2 (pq := pq) x
                  on_goal 1 => subst x
                  on_goal 2 => (intro hx; try clear_value x)) | try clear_value x)
      | with_reducible first | assumption | apply ih | apply State.recordWords_kept | apply kept_ite
                                  | apply kept1_ite | apply kept2_ite
      | dsimp only
      | with_reducible first | apply kept_fst | apply kept_snd
      | with_reducible apply kept1_of
      | with_reducible apply kept2_of

theorem State.applySection_kept {s : State} (ram : Bool) (e : SectEntry) (rest : List SectEntry) (b : List Byte) (h :
    s.Kept pq) : (State.applySection s ram e rest b).1.Kept pq := by
  show Kept1 pq _
  unfold State.applySection
  repeat' first
    | with_reducible intro _
    | (extract_lets -underBinder +onlyGivenNames x
       first | (first | apply kept_seq (pq := pq) x | apply kept_seq1 (pq := pq) x | apply kept_seq2 (pq := pq) x
                on_goal 1 => subst x
                on_goal 2 => (intro hx; try clear_value x)) | try clear_value x)
    | with_reducible first | assumption | apply State.records_kept | apply kept_ite | apply kept1_ite
                                  | apply kept2_ite
    | dsimp only
    | with_reducible first | apply kept_fst | apply kept_snd
    | with_reducible apply kept1_of
    | with_reducible apply kept2_of

theorem State.loopBoot_kept {s : State} (h : s.Kept pq) : (State.loopBoot s).Kept pq := by
  unfold State.loopBoot
  repeat' first
    | with_reducible intro _
    | (extract_lets -underBinder +onlyGivenNames x
       first | (first | apply kept_seq (pq := pq) x | apply kept_seq1 (pq := pq) x | apply kept_seq2 (pq := pq) x
                on_goal 1 => subst x
                on_goal 2 => (intro hx; try clear_value x)) | try clear_value x)
    | with_reducible first | assumption | apply State.each_kept | apply State.setM_kept | apply kept_ite
                                  | apply kept1_ite | apply kept2_ite
    | dsimp only
    | with_reducible first | apply kept_fst | apply kept_snd
    | with_reducible apply kept1_of
    | with_reducible apply kept2_of

theorem State.trimFf_kept {s : State} (a : Nat) (h : s.Kept pq) : (State.trimFf s a).Kept pq := by
  unfold State.trimFf
  repeat' first
    | with_reducible intro _
    | with_reducible first | assumption | apply State.setM_kept
    | dsimp only
    | split

theorem State.trimFfsrc_kept {s : State} (h : s.Kept pq) : (State.trimFfsrc s).Kept pq := by
  unfold State.trimFfsrc
  repeat' first
    | with_reducible intro _
    | (extract_lets -underBinder +onlyGivenNames x
       first | (first | apply kept_seq (pq := pq) x | apply kept_seq1 (pq := pq) x | apply kept_seq2 (pq := pq) x
                on_goal 1 => subst x
                on_goal 2 => (intro hx; try clear_value x)) | try clear_value x)
    | with_reducible first | assumption | apply State.each_kept | apply State.trimFf_kept | apply kept_ite
                                  | apply kept1_ite | apply kept2_ite
    | dsimp only
    | with_reducible first | apply kept_fst | apply kept_snd
    | with_reducible apply kept1_of
    | with_reducible apply kept2_of

theorem State.toSelfTest_kept {s : State} (h : s.Kept pq) : (State.toSelfTest s).Kept pq := by
  unfold State.toSelfTest
  repeat' first
    | with_reducible intro _
    | with_reducible first | assumption | apply State.toStage_kept | apply State.selfTest_kept
                                  | apply State.phase_kept
    | dsimp only

theorem State.imageUp_kept {s : State} (h : s.Kept pq) : (State.imageUp s).Kept pq := by
  unfold State.imageUp
  repeat' first
    | with_reducible intro _
    | (extract_lets -underBinder +onlyGivenNames x
       first | (first | apply kept_seq (pq := pq) x | apply kept_seq1 (pq := pq) x | apply kept_seq2 (pq := pq) x
                on_goal 1 => subst x
                on_goal 2 => (intro hx; try clear_value x)) | try clear_value x)
    | with_reducible first | assumption | apply State.setF_kept | apply State.setB_kept | apply State.trimFfsrc_kept
                                  | apply State.loopBoot_kept | apply State.keepLoops_kept
                                  | apply State.foxImage_kept | apply State.toSelfTest_kept
    | dsimp only
    | with_reducible first | apply kept_fst | apply kept_snd
    | with_reducible apply kept1_of
    | with_reducible apply kept2_of

theorem State.slotFail_kept {s : State} (code : Nat) (sect : Nat) (h : s.Kept pq) : (State.slotFail s code sect).Kept
    pq := by
  unfold State.slotFail
  repeat' first
    | with_reducible intro _
    | (extract_lets -underBinder +onlyGivenNames x
       first | (first | apply kept_seq (pq := pq) x | apply kept_seq1 (pq := pq) x | apply kept_seq2 (pq := pq) x
                on_goal 1 => subst x
                on_goal 2 => (intro hx; try clear_value x)) | try clear_value x)
    | with_reducible first | assumption | apply State.setF_kept | apply State.log_kept | apply kept_ite
                                  | apply kept1_ite | apply kept2_ite
    | dsimp only
    | with_reducible first | apply kept_fst | apply kept_snd
    | with_reducible apply kept1_of
    | with_reducible apply kept2_of
    | with_reducible apply kept_mk

theorem State.slotEnd_kept {s : State} (h : s.Kept pq) : (State.slotEnd s).Kept pq := by
  unfold State.slotEnd
  repeat' first
    | with_reducible intro _
    | with_reducible first | assumption | apply State.slotFail_kept | apply State.imageUp_kept
    | dsimp only
    | split

theorem State.slotStart_kept {s : State} (k : Nat) (t : List Byte) (c : List Byte) (h : s.Kept pq) : (State.slotStart
    s k t c).Kept pq := by
  unfold State.slotStart
  repeat' first
    | with_reducible intro _
    | (extract_lets -underBinder +onlyGivenNames x
       first | (first | apply kept_seq (pq := pq) x | apply kept_seq1 (pq := pq) x | apply kept_seq2 (pq := pq) x
                on_goal 1 => subst x
                on_goal 2 => (intro hx; try clear_value x)) | try clear_value x)
    | with_reducible first | assumption | apply State.setF_kept | apply State.phase_kept | apply State.slotFail_kept
                                  | apply State.slotEnd_kept | apply kept_ite | apply kept1_ite | apply kept2_ite
    | dsimp only
    | split
    | with_reducible first | apply kept_fst | apply kept_snd
    | with_reducible apply kept1_of
    | with_reducible apply kept2_of
    | with_reducible apply kept_mk

theorem State.enterRecovery_kept {s : State} (h : s.Kept pq) : (State.enterRecovery s).Kept pq := by
  unfold State.enterRecovery
  repeat' first
    | with_reducible intro _
    | (extract_lets -underBinder +onlyGivenNames x
       first | (first | apply kept_seq (pq := pq) x | apply kept_seq1 (pq := pq) x | apply kept_seq2 (pq := pq) x
                on_goal 1 => subst x
                on_goal 2 => (intro hx; try clear_value x)) | try clear_value x)
    | with_reducible first | assumption | apply State.setF_kept | apply State.toStage_kept
    | dsimp only
    | with_reducible first | apply kept_fst | apply kept_snd
    | with_reducible apply kept1_of
    | with_reducible apply kept2_of
    | with_reducible apply kept_mk

theorem State.stagedSections_kept {s : State} {y0 : List SectEntry} (h : s.Kept pq) : (State.stagedSections s y0).Kept
    pq := by
  induction y0 generalizing s with
  | nil =>
    unfold State.stagedSections
    repeat' first
      | with_reducible intro _
      | (extract_lets -underBinder +onlyGivenNames x
         first | (first | apply kept_seq (pq := pq) x | apply kept_seq1 (pq := pq) x | apply kept_seq2 (pq := pq) x
                  on_goal 1 => subst x
                  on_goal 2 => (intro hx; try clear_value x)) | try clear_value x)
      | with_reducible first | assumption | apply ih | apply State.slotEnd_kept | apply State.applySection_kept
                                  | apply State.slotFail_kept | apply kept_ite | apply kept1_ite | apply kept2_ite
      | dsimp only
      | with_reducible first | apply kept_fst | apply kept_snd
      | with_reducible apply kept1_of
      | with_reducible apply kept2_of
      | with_reducible apply kept_mk
  | cons x r ih =>
    unfold State.stagedSections
    repeat' first
      | with_reducible intro _
      | (extract_lets -underBinder +onlyGivenNames x
         first | (first | apply kept_seq (pq := pq) x | apply kept_seq1 (pq := pq) x | apply kept_seq2 (pq := pq) x
                  on_goal 1 => subst x
                  on_goal 2 => (intro hx; try clear_value x)) | try clear_value x)
      | with_reducible first | assumption | apply ih | apply State.slotEnd_kept | apply State.applySection_kept
                                  | apply State.slotFail_kept | apply kept_ite | apply kept1_ite | apply kept2_ite
      | dsimp only
      | with_reducible first | apply kept_fst | apply kept_snd
      | with_reducible apply kept1_of
      | with_reducible apply kept2_of
      | with_reducible apply kept_mk

theorem State.stagedApply_kept {s : State} (h : s.Kept pq) : (State.stagedApply s).Kept pq := by
  unfold State.stagedApply
  repeat' first
    | with_reducible intro _
    | (extract_lets -underBinder +onlyGivenNames x
       first | (first | apply kept_seq (pq := pq) x | apply kept_seq1 (pq := pq) x | apply kept_seq2 (pq := pq) x
                on_goal 1 => subst x
                on_goal 2 => (intro hx; try clear_value x)) | try clear_value x)
    | with_reducible first | assumption | apply State.slotStart_kept | apply State.stagedSections_kept
                                  | apply kept_ite | apply kept1_ite | apply kept2_ite
    | dsimp only
    | with_reducible first | apply kept_fst | apply kept_snd
    | with_reducible apply kept1_of
    | with_reducible apply kept2_of

theorem State.bootRam_kept {s : State} (h : s.Kept pq) : (State.bootRam s).Kept pq := by
  unfold State.bootRam
  repeat' first
    | with_reducible intro _
    | (extract_lets -underBinder +onlyGivenNames x
       first | (first | apply kept_seq (pq := pq) x | apply kept_seq1 (pq := pq) x | apply kept_seq2 (pq := pq) x
                on_goal 1 => subst x
                on_goal 2 => (intro hx; try clear_value x)) | try clear_value x)
    | with_reducible first | assumption | apply State.clearImage_kept | apply State.setF_kept
                                  | apply State.stagedApply_kept
    | dsimp only
    | with_reducible first | apply kept_fst | apply kept_snd
    | with_reducible apply kept1_of
    | with_reducible apply kept2_of
    | with_reducible apply kept_mk

theorem State.progSlot_kept {s : State} (k : Nat) (h : s.Kept pq) : (State.progSlot s k).Kept pq := by
  unfold State.progSlot
  repeat' first
    | with_reducible intro _
    | with_reducible first | assumption | apply State.setF_kept | apply kept_ite | apply kept1_ite | apply kept2_ite
    | dsimp only
    | with_reducible first | apply kept_fst | apply kept_snd
    | with_reducible apply kept1_of
    | with_reducible apply kept2_of
    | with_reducible apply kept_mk

theorem execResetRelease_kept {s : State} (h : s.Kept pq) : KeptOut pq (execResetRelease s) := by
  unfold execResetRelease
  repeat' first
    | with_reducible intro _
    | (extract_lets -underBinder +onlyGivenNames x
       first | (first | apply kept_seq (pq := pq) x | apply kept_seq1 (pq := pq) x | apply kept_seq2 (pq := pq) x
                on_goal 1 => subst x
                on_goal 2 => (intro hx; try clear_value x)) | try clear_value x)
    | with_reducible first | assumption | apply State.toStage_kept | apply State.phase_kept | apply kept_ite
                                  | apply kept1_ite | apply kept2_ite | apply keptOut_next | apply keptOut_refused
                                  | apply keptOut_ite
    | dsimp only
    | with_reducible first | apply kept_fst | apply kept_snd
    | with_reducible apply kept1_of
    | with_reducible apply kept2_of
    | with_reducible apply kept_mk

theorem execPllLock_kept {s : State} (h : s.Kept pq) : KeptOut pq (execPllLock s) := by
  unfold execPllLock
  repeat' first
    | with_reducible intro _
    | (extract_lets -underBinder +onlyGivenNames x
       first | (first | apply kept_seq (pq := pq) x | apply kept_seq1 (pq := pq) x | apply kept_seq2 (pq := pq) x
                on_goal 1 => subst x
                on_goal 2 => (intro hx; try clear_value x)) | try clear_value x)
    | with_reducible first | assumption | apply State.setF_kept | apply State.showForced_kept
                                  | apply State.free_kept | apply State.setThm_kept | apply State.toStage_kept
                                  | apply State.phase_kept | apply State.setUnit_kept | apply State.bootFlash_kept
                                  | apply kept_ite | apply kept1_ite | apply kept2_ite | apply keptOut_next
                                  | apply keptOut_refused | apply keptOut_ite
    | dsimp only
    | with_reducible first | apply kept_fst | apply kept_snd
    | with_reducible apply kept1_of
    | with_reducible apply kept2_of
    | with_reducible apply kept_mk

theorem State.nextSlot_kept {s : State} (l : List Nat) (hdr : SlotHeader) (h : s.Kept pq) : KeptOut pq (State.nextSlot
    s l hdr) := by
  unfold State.nextSlot
  repeat' first
    | with_reducible intro _
    | with_reducible first | assumption | apply State.enterRecovery_kept | apply State.slotStart_kept
                                  | apply kept_ite | apply kept1_ite | apply kept2_ite | apply keptOut_next
                                  | apply keptOut_refused | apply keptOut_ite
    | dsimp only
    | split
    | with_reducible first | apply kept_fst | apply kept_snd
    | with_reducible apply kept1_of
    | with_reducible apply kept2_of
    | with_reducible apply kept_mk

theorem State.takeFlash_kept {s : State} (f : FlashInfo) (h : s.Kept pq) : (State.takeFlash s f).Kept pq := by
  unfold State.takeFlash
  repeat' first
    | with_reducible intro _
    | (extract_lets -underBinder +onlyGivenNames x
       first | (first | apply kept_seq (pq := pq) x | apply kept_seq1 (pq := pq) x | apply kept_seq2 (pq := pq) x
                on_goal 1 => subst x
                on_goal 2 => (intro hx; try clear_value x)) | try clear_value x)
    | with_reducible first | assumption | apply State.setB_kept | apply State.setF_kept | apply kept_ite
                                  | apply kept1_ite | apply kept2_ite
    | dsimp only
    | with_reducible first | apply kept_fst | apply kept_snd
    | with_reducible apply kept1_of
    | with_reducible apply kept2_of
    | with_reducible apply kept_mk

theorem execFlashNegotiationDone_kept (info : FlashInfo) (hdr : SlotHeader) {s : State} (h : s.Kept pq) : KeptOut pq
    (execFlashNegotiationDone info hdr s) := by
  unfold execFlashNegotiationDone
  repeat' first
    | with_reducible intro _
    | (extract_lets -underBinder +onlyGivenNames x
       first | (first | apply kept_seq (pq := pq) x | apply kept_seq1 (pq := pq) x | apply kept_seq2 (pq := pq) x
                on_goal 1 => subst x
                on_goal 2 => (intro hx; try clear_value x)) | try clear_value x)
    | with_reducible first | assumption | apply State.takeFlash_kept | apply State.setF_kept
                                  | apply State.phase_kept | apply State.nextSlot_kept | apply kept_ite
                                  | apply kept1_ite | apply kept2_ite | apply keptOut_next | apply keptOut_refused
                                  | apply keptOut_ite
    | dsimp only
    | with_reducible first | apply kept_fst | apply kept_snd
    | with_reducible apply kept1_of
    | with_reducible apply kept2_of

theorem execSectionReceived_kept (bytes : List Byte) {s : State} (h : s.Kept pq) : KeptOut pq (execSectionReceived
    bytes s) := by
  unfold execSectionReceived
  repeat' first
    | with_reducible intro _
    | (extract_lets -underBinder +onlyGivenNames x
       first | (first | apply kept_seq (pq := pq) x | apply kept_seq1 (pq := pq) x | apply kept_seq2 (pq := pq) x
                on_goal 1 => subst x
                on_goal 2 => (intro hx; try clear_value x)) | try clear_value x)
    | with_reducible first | assumption | apply State.applySection_kept | apply State.slotFail_kept
                                  | apply State.slotEnd_kept | apply kept_ite | apply kept1_ite | apply kept2_ite
                                  | apply keptOut_next | apply keptOut_refused | apply keptOut_ite
    | dsimp only
    | split
    | with_reducible first | apply kept_fst | apply kept_snd
    | with_reducible apply kept1_of
    | with_reducible apply kept2_of
    | with_reducible apply kept_mk

theorem execImageClearDone_kept (hdr : SlotHeader) {s : State} (h : s.Kept pq) : KeptOut pq (execImageClearDone hdr s)
    := by
  unfold execImageClearDone
  repeat' first
    | with_reducible intro _
    | with_reducible first | assumption | apply State.clearImage_kept | apply State.nextSlot_kept | apply kept_ite
                                  | apply kept1_ite | apply kept2_ite | apply keptOut_next | apply keptOut_refused
                                  | apply keptOut_ite
    | dsimp only
    | with_reducible first | apply kept_fst | apply kept_snd
    | with_reducible apply kept1_of
    | with_reducible apply kept2_of

theorem execMemorySelfTestDone_kept (march : Bool) (crc : Bool) {s : State} (h : s.Kept pq) : KeptOut pq
    (execMemorySelfTestDone march crc s) := by
  unfold execMemorySelfTestDone
  repeat' first
    | with_reducible intro _
    | with_reducible first | assumption | apply State.selfTest_kept | apply State.toStage_kept
                                  | apply State.phase_kept | apply State.setF_kept | apply kept_ite
                                  | apply kept1_ite | apply kept2_ite | apply keptOut_next | apply keptOut_refused
                                  | apply keptOut_ite
    | dsimp only
    | with_reducible first | apply kept_fst | apply kept_snd
    | with_reducible apply kept1_of
    | with_reducible apply kept2_of

theorem execLinkBringupTimeout_kept {s : State} (h : s.Kept pq) : KeptOut pq (execLinkBringupTimeout s) := by
  unfold execLinkBringupTimeout
  repeat' first
    | with_reducible intro _
    | with_reducible first | assumption | apply State.toStage_kept | apply State.phase_kept | apply kept_ite
                                  | apply kept1_ite | apply kept2_ite | apply keptOut_next | apply keptOut_refused
                                  | apply keptOut_ite
    | dsimp only
    | with_reducible first | apply kept_fst | apply kept_snd
    | with_reducible apply kept1_of
    | with_reducible apply kept2_of

theorem State.countStart_kept {s : State} (h : s.Kept pq) : (State.countStart s).Kept pq := by
  unfold State.countStart
  repeat' first
    | with_reducible intro _
    | with_reducible first | assumption | apply State.phase_kept
    | dsimp only
    | with_reducible apply kept_mk

theorem State.frameStart_kept {s : State} (h : s.Kept pq) : (State.frameStart s).Kept pq := by
  unfold State.frameStart
  repeat' first
    | with_reducible intro _
    | with_reducible first | assumption | apply State.countStart_kept | apply State.pwmStart_kept
                                  | apply State.canStart_kept
    | dsimp only

theorem State.holdPlant_kept {s : State} (h : s.Kept pq) : (State.holdPlant s).Kept pq := by
  unfold State.holdPlant
  have hf := State.folShut_kept h
  refine State.folAfter_kept ⟨canonical_filterMap hf.1 _ (fun e x hx => ?_) (fun e x he hx => ?_),
    Memory.wf_clear (Memory.wf_clear hf.2.1 _ _) _ _, hf.2.2⟩ <;> by_cases hc : curatorHeld e.1 = true <;> simp [hc] at hx
  · exact (keepAon_some hx).1
  · exact hx ▸ rfl
  · exact (keepAon_some hx).2
  · exact hx ▸ he

theorem execUnitStateDecided_kept (sel : Bool) {s : State} (h : s.Kept pq) : KeptOut pq (execUnitStateDecided sel s)
    := by
  unfold execUnitStateDecided
  repeat' first
    | with_reducible intro _
    | (extract_lets -underBinder +onlyGivenNames x
       first | (first | apply kept_seq (pq := pq) x | apply kept_seq1 (pq := pq) x | apply kept_seq2 (pq := pq) x
                on_goal 1 => subst x
                on_goal 2 => (intro hx; try clear_value x)) | try clear_value x)
    | with_reducible first | assumption | apply State.cond_kept | apply State.setF_kept | apply State.setB_kept
                                  | apply State.holdPlant_kept | apply State.countStart_kept
                                  | apply State.setUnit_kept | apply State.frameStart_kept
                                  | apply State.bootReads_kept | apply State.renumber_kept
                                  | apply State.dualTest_kept | apply State.linkSend_kept | apply State.toStage_kept
                                  | apply State.phase_kept | apply State.powerUpCores_kept | apply kept_ite
                                  | apply kept1_ite | apply kept2_ite | apply keptOut_next | apply keptOut_refused
                                  | apply keptOut_ite
    | dsimp only
    | with_reducible first | apply kept_fst | apply kept_snd
    | with_reducible apply kept1_of
    | with_reducible apply kept2_of
    | with_reducible apply kept_mk

theorem execInitialCalibrationDone_kept (cal : CalResults) {s : State} (h : s.Kept pq) : KeptOut pq
    (execInitialCalibrationDone cal s) := by
  unfold execInitialCalibrationDone
  repeat' first
    | with_reducible intro _
    | with_reducible first | assumption | apply State.calibrateAll_kept | apply State.convertersReady_kept
                                  | apply State.frameStart_kept | apply kept_ite | apply kept1_ite | apply kept2_ite
                                  | apply keptOut_next | apply keptOut_refused | apply keptOut_ite
    | dsimp only
    | with_reducible first | apply kept_fst | apply kept_snd
    | with_reducible apply kept1_of
    | with_reducible apply kept2_of

theorem execSlotProgrammingDone_kept (out : ProgOutcome) {s : State} (h : s.Kept pq) : KeptOut pq
    (execSlotProgrammingDone out s) := by
  unfold execSlotProgrammingDone
  repeat' first
    | with_reducible intro _
    | (extract_lets -underBinder +onlyGivenNames x
       first | (first | apply kept_seq (pq := pq) x | apply kept_seq1 (pq := pq) x | apply kept_seq2 (pq := pq) x
                on_goal 1 => subst x
                on_goal 2 => (intro hx; try clear_value x)) | try clear_value x)
    | with_reducible first | assumption | apply State.setF_kept | apply State.cond_kept | apply kept_ite
                                  | apply kept1_ite | apply kept2_ite | apply keptOut_next | apply keptOut_refused
                                  | apply keptOut_ite
    | dsimp only
    | with_reducible first | apply kept_fst | apply kept_snd
    | with_reducible apply kept1_of
    | with_reducible apply kept2_of
    | with_reducible apply kept_mk

end Sys2Proof.Machine
end

