-- ==== Sys2Proof/Laws/KeptBus.lean ====
section
/-! SUPPORT. What the functions of Bus keep. -/

namespace Sys2Proof.Machine

set_option linter.unusedTactic false
set_option linter.unreachableTactic false
set_option linter.tactic.unusedName false

variable {pq : List Instr}

theorem State.plainWrite_kept {s : State} (a : Nat) (w : Nat) (h : s.Kept pq) : (State.plainWrite s a w).1.Kept pq :=
    by
  show Kept1 pq _
  unfold State.plainWrite
  repeat' first
    | with_reducible intro _
    | (extract_lets -underBinder +onlyGivenNames x
       first | (first | apply kept_seq (pq := pq) x | apply kept_seq1 (pq := pq) x | apply kept_seq2 (pq := pq) x
                on_goal 1 => subst x
                on_goal 2 => (intro hx; try clear_value x)) | try clear_value x)
    | with_reducible first | assumption | apply State.pushShadow_kept | apply State.free_kept | apply State.wr_kept
                                  | apply kept_ite | apply kept1_ite | apply kept2_ite
    | dsimp only
    | split
    | with_reducible first | apply kept_fst | apply kept_snd
    | with_reducible apply kept1_of
    | with_reducible apply kept2_of

theorem onWrite_kept {x : State × Bool} {f : State → State} (hf : ∀ t, t.Kept pq → (f t).Kept pq) (h : x.1.Kept pq) :
    (onWrite x f).1.Kept pq := by
  show Kept1 pq _
  unfold onWrite
  repeat' first
    | with_reducible intro _
    | with_reducible first | assumption | apply hf
    | dsimp only
    | with_reducible apply kept1_of

theorem State.bootCtlWrite_kept {s : State} (w : Nat) (h : s.Kept pq) : (State.bootCtlWrite s w).1.Kept pq := by
  show Kept1 pq _
  unfold State.bootCtlWrite
  repeat' first
    | with_reducible intro _
    | with_reducible first | assumption | apply State.bootRam_kept | apply State.goSlot_kept
                                  | apply State.progSlot_kept | apply kept_ite | apply kept1_ite | apply kept2_ite
    | dsimp only
    | split
    | with_reducible first | apply kept_fst | apply kept_snd
    | with_reducible apply kept1_of
    | with_reducible apply kept2_of

theorem State.holdWrite_kept {s : State} (w : Nat) (h : s.Kept pq) : (State.holdWrite s w).1.Kept pq := by
  show Kept1 pq _
  unfold State.holdWrite
  repeat' first
    | with_reducible intro _
    | (extract_lets -underBinder +onlyGivenNames x
       first | (first | apply kept_seq (pq := pq) x | apply kept_seq1 (pq := pq) x | apply kept_seq2 (pq := pq) x
                on_goal 1 => subst x
                on_goal 2 => (intro hx; try clear_value x)) | try clear_value x)
    | with_reducible first | assumption | apply onWrite_kept | apply State.plainWrite_kept | apply kept_ite
                                  | apply kept1_ite | apply kept2_ite
    | dsimp only
    | with_reducible first | apply kept_fst | apply kept_snd
    | with_reducible apply kept1_of
    | with_reducible apply kept2_of
    | with_reducible apply kept_mk

theorem State.bootWrite_kept {s : State} (a : Nat) (w : Nat) (h : s.Kept pq) : (State.bootWrite s a w).1.Kept pq := by
  show Kept1 pq _
  unfold State.bootWrite
  repeat' first
    | with_reducible intro _
    | with_reducible first | assumption | apply State.bootCtlWrite_kept | apply State.holdWrite_kept
                                  | apply State.plainWrite_kept | apply kept_ite | apply kept1_ite | apply kept2_ite
    | dsimp only
    | with_reducible first | apply kept_fst | apply kept_snd
    | with_reducible apply kept1_of
    | with_reducible apply kept2_of

theorem State.adcWrite_kept {s : State} (a : Nat) (w : Nat) (h : s.Kept pq) : (State.adcWrite s a w).1.Kept pq := by
  show Kept1 pq _
  unfold State.adcWrite
  repeat' first
    | with_reducible intro _
    | (extract_lets -underBinder +onlyGivenNames x
       first | (first | apply kept_seq (pq := pq) x | apply kept_seq1 (pq := pq) x | apply kept_seq2 (pq := pq) x
                on_goal 1 => subst x
                on_goal 2 => (intro hx; try clear_value x)) | try clear_value x)
    | with_reducible first | assumption | apply State.calCtlWrite_kept | apply onWrite_kept
                                  | apply State.plainWrite_kept | apply State.coreEnWritten_kept | apply kept_ite
                                  | apply kept1_ite | apply kept2_ite
    | dsimp only
    | with_reducible first | apply kept_fst | apply kept_snd
    | with_reducible apply kept1_of
    | with_reducible apply kept2_of

theorem State.seqWrite_kept {s : State} (a : Nat) (w : Nat) (h : s.Kept pq) : (State.seqWrite s a w).1.Kept pq := by
  show Kept1 pq _
  unfold State.seqWrite
  repeat' first
    | with_reducible intro _
    | (extract_lets -underBinder +onlyGivenNames x
       first | (first | apply kept_seq (pq := pq) x | apply kept_seq1 (pq := pq) x | apply kept_seq2 (pq := pq) x
                on_goal 1 => subst x
                on_goal 2 => (intro hx; try clear_value x)) | try clear_value x)
    | with_reducible first | assumption | apply onWrite_kept | apply State.plainWrite_kept
                                  | apply State.enChanged_kept | apply State.regStartWrite_kept
                                  | apply State.istrigWrite_kept | apply State.ringStart_kept | apply kept_ite
                                  | apply kept1_ite | apply kept2_ite
    | dsimp only
    | with_reducible first | apply kept_fst | apply kept_snd
    | with_reducible apply kept1_of
    | with_reducible apply kept2_of

theorem State.groupWrite_kept {s : State} (g : Nat) (o : Nat) (a : Nat) (w : Nat) (h : s.Kept pq) : (State.groupWrite
    s g o a w).1.Kept pq := by
  show Kept1 pq _
  unfold State.groupWrite
  repeat' first
    | with_reducible intro _
    | with_reducible first | assumption | apply onWrite_kept | apply State.plainWrite_kept
                                  | apply State.enWritten_kept | apply State.offWritten_kept
                                  | apply State.writeCompare_kept | apply State.coastWritten_kept
                                  | apply State.angleWritten_kept | apply kept_ite | apply kept1_ite
                                  | apply kept2_ite
    | dsimp only
    | split
    | with_reducible first | apply kept_fst | apply kept_snd
    | with_reducible apply kept1_of
    | with_reducible apply kept2_of

theorem State.pwmReg_kept {s : State} (a : Nat) (w : Nat) (h : s.Kept pq) : (State.pwmReg s a w).1.Kept pq := by
  show Kept1 pq _
  unfold State.pwmReg
  repeat' first
    | with_reducible intro _
    | with_reducible first | assumption | apply onWrite_kept | apply State.plainWrite_kept | apply State.each_kept
                                  | apply State.enWritten_kept | apply State.gpEnWritten_kept
                                  | apply State.groupWrite_kept | apply State.gpDutyWritten_kept | apply kept_ite
                                  | apply kept1_ite | apply kept2_ite
    | dsimp only
    | with_reducible first | apply kept_fst | apply kept_snd
    | with_reducible apply kept1_of
    | with_reducible apply kept2_of

theorem State.pwmWrite_kept {s : State} (a : Nat) (w : Nat) (h : s.Kept pq) : (State.pwmWrite s a w).1.Kept pq := by
  show Kept1 pq _
  unfold State.pwmWrite
  repeat' first
    | with_reducible intro _
    | with_reducible first | assumption | apply onWrite_kept | apply State.pwmReg_kept | apply State.tripNow_kept
                                  | apply State.tripLevels_kept
    | dsimp only
    | with_reducible apply kept1_of

theorem State.modeCmdWrite_kept {s : State} (w : Nat) (h : s.Kept pq) : (State.modeCmdWrite s w).1.Kept pq := by
  show Kept1 pq _
  unfold State.modeCmdWrite
  repeat' first
    | with_reducible intro _
    | (extract_lets -underBinder +onlyGivenNames x
       first | (first | apply kept_seq (pq := pq) x | apply kept_seq1 (pq := pq) x | apply kept_seq2 (pq := pq) x
                on_goal 1 => subst x
                on_goal 2 => (intro hx; try clear_value x)) | try clear_value x)
    | with_reducible first | assumption | apply State.pendCmd_kept | apply kept_ite | apply kept1_ite
                                  | apply kept2_ite
    | dsimp only
    | with_reducible first | apply kept_fst | apply kept_snd
    | with_reducible apply kept1_of
    | with_reducible apply kept2_of

theorem State.ceWrite_kept {s : State} (a : Nat) (w : Nat) (h : s.Kept pq) : (State.ceWrite s a w).1.Kept pq := by
  show Kept1 pq _
  unfold State.ceWrite
  repeat' first
    | with_reducible intro _
    | with_reducible first | assumption | apply State.modeCmdWrite_kept | apply State.prnClrWrite_kept
                                  | apply State.driveCmdWrite_kept | apply State.capCtlWrite_kept
                                  | apply State.plainWrite_kept | apply State.injCmdWrite_kept | apply kept_ite
                                  | apply kept1_ite | apply kept2_ite
    | dsimp only
    | with_reducible first | apply kept_fst | apply kept_snd
    | with_reducible apply kept1_of
    | with_reducible apply kept2_of

theorem State.almWrite_kept {s : State} (a : Nat) (w : Nat) (h : s.Kept pq) : (State.almWrite s a w).1.Kept pq := by
  show Kept1 pq _
  unfold State.almWrite
  repeat' first
    | with_reducible intro _
    | with_reducible first | assumption | apply State.setRtc_kept | apply State.forceWrite_kept
                                  | apply State.plainWrite_kept | apply kept_ite | apply kept1_ite | apply kept2_ite
    | dsimp only
    | with_reducible first | apply kept_fst | apply kept_snd
    | with_reducible apply kept1_of
    | with_reducible apply kept2_of

theorem State.canCtlWrite_kept {s : State} (c : Nat) (w : Nat) (busy : Bool) (h : s.Kept pq) : (State.canCtlWrite s c
    w busy).1.Kept pq := by
  show Kept1 pq _
  unfold State.canCtlWrite
  repeat' first
    | with_reducible intro _
    | with_reducible first | assumption | apply onWrite_kept | apply State.plainWrite_kept
                                  | apply State.canCtlWritten_kept | apply State.busy_kept
                                  | apply State.fdFollow_kept
    | dsimp only
    | with_reducible apply kept1_of

theorem State.canWrite_kept {s : State} (c : Nat) (o : Nat) (a : Nat) (w : Nat) (h : s.Kept pq) : (State.canWrite s c
    o a w).1.Kept pq := by
  show Kept1 pq _
  unfold State.canWrite
  repeat' first
    | with_reducible intro _
    | with_reducible first | assumption | apply State.free_kept | apply State.canCtlWrite_kept
                                  | apply State.canRecover_kept | apply State.txReqWrite_kept
                                  | apply State.txCanWrite_kept | apply State.ackEntry_kept
                                  | apply State.objWrite_kept | apply State.plainWrite_kept | apply kept_ite
                                  | apply kept1_ite | apply kept2_ite
    | dsimp only
    | with_reducible first | apply kept_fst | apply kept_snd
    | with_reducible apply kept1_of
    | with_reducible apply kept2_of

theorem State.zpWrite_kept {s : State} (a : Nat) (w : Nat) (h : s.Kept pq) : (State.zpWrite s a w).1.Kept pq := by
  show Kept1 pq _
  unfold State.zpWrite
  repeat' first
    | with_reducible intro _
    | (extract_lets -underBinder +onlyGivenNames x
       first | (first | apply kept_seq (pq := pq) x | apply kept_seq1 (pq := pq) x | apply kept_seq2 (pq := pq) x
                on_goal 1 => subst x
                on_goal 2 => (intro hx; try clear_value x)) | try clear_value x)
    | with_reducible first | assumption | apply onWrite_kept | apply State.plainWrite_kept
                                  | apply State.zpCtlWritten_kept | apply kept_ite | apply kept1_ite
                                  | apply kept2_ite
    | dsimp only
    | with_reducible first | apply kept_fst | apply kept_snd
    | with_reducible apply kept1_of
    | with_reducible apply kept2_of

theorem State.modeWritten_kept {s : State} (h : s.Kept pq) : (State.modeWritten s).Kept pq := by
  unfold State.modeWritten
  repeat' first
    | with_reducible intro _
    | (extract_lets -underBinder +onlyGivenNames x
       first | (first | apply kept_seq (pq := pq) x | apply kept_seq1 (pq := pq) x | apply kept_seq2 (pq := pq) x
                on_goal 1 => subst x
                on_goal 2 => (intro hx; try clear_value x)) | try clear_value x)
    | with_reducible first | assumption | apply State.linkOff_kept | apply State.cond_kept
                                  | apply State.holdPlant_kept | apply kept_ite | apply kept1_ite | apply kept2_ite
    | dsimp only
    | with_reducible first | apply kept_fst | apply kept_snd
    | with_reducible apply kept1_of
    | with_reducible apply kept2_of
    | with_reducible apply kept_mk

theorem State.pairWrite_kept {s : State} (a : Nat) (w : Nat) (h : s.Kept pq) : (State.pairWrite s a w).1.Kept pq := by
  show Kept1 pq _
  unfold State.pairWrite
  repeat' first
    | with_reducible intro _
    | with_reducible first | assumption | apply State.swapReq_kept | apply onWrite_kept
                                  | apply State.plainWrite_kept | apply State.modeWritten_kept | apply kept_ite
                                  | apply kept1_ite | apply kept2_ite
    | dsimp only
    | with_reducible first | apply kept_fst | apply kept_snd
    | with_reducible apply kept1_of
    | with_reducible apply kept2_of

theorem State.folWrite_kept {s : State} (a : Nat) (w : Nat) (h : s.Kept pq) : (State.folWrite s a w).1.Kept pq := by
  show Kept1 pq _
  unfold State.folWrite
  repeat' first
    | with_reducible intro _
    | with_reducible first | assumption | apply State.protWrite_kept | apply State.remapWrite_kept
                                  | apply State.wr_kept | apply State.ucWrite_kept | apply State.liveWrite_kept
                                  | apply State.plainWrite_kept | apply kept_ite | apply kept1_ite | apply kept2_ite
    | dsimp only
    | with_reducible first | apply kept_fst | apply kept_snd
    | with_reducible apply kept1_of
    | with_reducible apply kept2_of

theorem State.pnlWrite_kept {s : State} (a : Nat) (w : Nat) (h : s.Kept pq) : (State.pnlWrite s a w).1.Kept pq := by
  show Kept1 pq _
  unfold State.pnlWrite
  repeat' first
    | with_reducible intro _
    | with_reducible first | assumption | apply onWrite_kept | apply State.plainWrite_kept
                                  | apply State.encStop_kept | apply State.each_kept | apply State.comboWritten_kept
                                  | apply kept_ite | apply kept1_ite | apply kept2_ite
    | dsimp only
    | with_reducible first | apply kept_fst | apply kept_snd
    | with_reducible apply kept1_of
    | with_reducible apply kept2_of

theorem State.ldgWrite_kept {s : State} (a : Nat) (w : Nat) (h : s.Kept pq) : (State.ldgWrite s a w).1.Kept pq := by
  show Kept1 pq _
  unfold State.ldgWrite
  repeat' first
    | with_reducible intro _
    | with_reducible first | assumption | apply State.ledgerClr_kept | apply State.snapWrite_kept
                                  | apply State.ledgerSel_kept | apply State.vreqWrite_kept
                                  | apply State.plainWrite_kept | apply kept_ite | apply kept1_ite | apply kept2_ite
    | dsimp only
    | with_reducible first | apply kept_fst | apply kept_snd
    | with_reducible apply kept1_of
    | with_reducible apply kept2_of

theorem State.regWrite_kept {s : State} (a : Nat) (w : Nat) (h : s.Kept pq) : (State.regWrite s a w).1.Kept pq := by
  show Kept1 pq _
  unfold State.regWrite
  repeat' first
    | with_reducible intro _
    | with_reducible first | assumption | apply State.counterClr_kept | apply State.bootWrite_kept
                                  | apply State.adcWrite_kept | apply State.seqWrite_kept
                                  | apply State.pwmWrite_kept | apply State.ceWrite_kept | apply State.almWrite_kept
                                  | apply State.canWrite_kept | apply State.zpWrite_kept
                                  | apply State.pairWrite_kept | apply State.folWrite_kept
                                  | apply State.pnlWrite_kept | apply State.ldgWrite_kept
                                  | apply State.plainWrite_kept | apply kept_ite | apply kept1_ite | apply kept2_ite
    | dsimp only
    | split
    | with_reducible first | apply kept_fst | apply kept_snd
    | with_reducible apply kept1_of
    | with_reducible apply kept2_of

theorem State.ownedWrite_kept {s : State} (a : Nat) (w : Nat) (m : Nat) (free : Bool) (h : s.Kept pq) :
    (State.ownedWrite s a w m free).1.Kept pq := by
  show Kept1 pq _
  unfold State.ownedWrite
  repeat' first
    | with_reducible intro _
    | (extract_lets -underBinder +onlyGivenNames x
       first | (first | apply kept_seq (pq := pq) x | apply kept_seq1 (pq := pq) x | apply kept_seq2 (pq := pq) x
                on_goal 1 => subst x
                on_goal 2 => (intro hx; try clear_value x)) | try clear_value x)
    | with_reducible first | assumption | apply State.free_kept | apply State.setM_kept | apply kept_ite
                                  | apply kept1_ite | apply kept2_ite
    | dsimp only
    | with_reducible first | apply kept_fst | apply kept_snd
    | with_reducible apply kept1_of
    | with_reducible apply kept2_of

theorem State.memWrite_kept {s : State} (a : Nat) (w : Nat) (h : s.Kept pq) : (State.memWrite s a w).1.Kept pq := by
  show Kept1 pq _
  unfold State.memWrite
  repeat' first
    | with_reducible intro _
    | (extract_lets -underBinder +onlyGivenNames x
       first | (first | apply kept_seq (pq := pq) x | apply kept_seq1 (pq := pq) x | apply kept_seq2 (pq := pq) x
                on_goal 1 => subst x
                on_goal 2 => (intro hx; try clear_value x)) | try clear_value x)
    | with_reducible first | assumption | apply State.setM_kept | apply State.pushShadow_kept | apply onWrite_kept
                                  | apply State.ownedWrite_kept | apply State.cond_kept | apply State.trimFf_kept
                                  | apply State.valueWrite_kept | apply kept_ite | apply kept1_ite | apply kept2_ite
    | dsimp only
    | split
    | with_reducible first | apply kept_fst | apply kept_snd
    | with_reducible apply kept1_of
    | with_reducible apply kept2_of

theorem State.busWrite_kept {s : State} (a : Nat) (w : Nat) (h : s.Kept pq) : (State.busWrite s a w).1.Kept pq := by
  show Kept1 pq _
  unfold State.busWrite
  repeat' first
    | with_reducible intro _
    | with_reducible first | assumption | apply State.memWrite_kept | apply State.regWrite_kept | apply kept_ite
                                  | apply kept1_ite | apply kept2_ite
    | dsimp only
    | with_reducible first | apply kept_fst | apply kept_snd
    | with_reducible apply kept1_of
    | with_reducible apply kept2_of

theorem State.report_kept {x : State × Bool} (who a : Nat) (h : x.1.Kept pq) : (State.report x who a).Kept pq := by
  unfold State.report
  repeat' first
    | with_reducible intro _
    | with_reducible first | assumption | apply State.reject_kept | apply kept_ite | apply kept1_ite | apply kept2_ite
    | dsimp only
    | with_reducible first | apply kept_fst | apply kept_snd
    | with_reducible apply kept1_of
    | with_reducible apply kept2_of

theorem State.masterWrite_kept {s : State} (who : Nat) (a : Nat) (w : Nat) (at_ : Nat) (h : s.Kept pq) :
    (State.masterWrite s who a w at_).1.Kept pq := by
  show Kept1 pq _
  unfold State.masterWrite
  repeat' first
    | with_reducible intro _
    | (extract_lets -underBinder +onlyGivenNames x
       first | (first | apply kept_seq (pq := pq) x | apply kept_seq1 (pq := pq) x | apply kept_seq2 (pq := pq) x
                on_goal 1 => subst x
                on_goal 2 => (intro hx; try clear_value x)) | try clear_value x)
    | with_reducible first | assumption | apply State.busWrite_kept | apply State.report_kept
                                  | apply State.cond_kept | apply State.protBy_kept
    | dsimp only
    | with_reducible first | apply kept_fst | apply kept_snd
    | with_reducible apply kept1_of
    | with_reducible apply kept2_of

theorem State.encRead_kept {s : State} (a : Nat) (h : s.Kept pq) : (State.encRead s a).2.Kept pq := by
  show Kept2 pq _
  unfold State.encRead
  repeat' first
    | with_reducible intro _
    | (extract_lets -underBinder +onlyGivenNames x
       first | (first | apply kept_seq (pq := pq) x | apply kept_seq1 (pq := pq) x | apply kept_seq2 (pq := pq) x
                on_goal 1 => subst x
                on_goal 2 => (intro hx; try clear_value x)) | try clear_value x)
    | with_reducible first | assumption | apply State.free_kept | apply kept_ite | apply kept1_ite | apply kept2_ite
    | dsimp only
    | with_reducible first | apply kept_fst | apply kept_snd
    | with_reducible apply kept1_of
    | with_reducible apply kept2_of

theorem State.busRead_kept {s : State} (a : Nat) (h : s.Kept pq) : (State.busRead s a).2.Kept pq := by
  show Kept2 pq _
  unfold State.busRead
  repeat' first
    | with_reducible intro _
    | with_reducible first | assumption | apply State.free_kept | apply State.tripNow_kept
                                  | apply State.encRead_kept | apply kept_ite | apply kept1_ite | apply kept2_ite
    | dsimp only
    | with_reducible first | apply kept_fst | apply kept_snd
    | with_reducible apply kept1_of
    | with_reducible apply kept2_of

end Sys2Proof.Machine
end

