-- ==== Sys2Proof/Laws/Frames.lean ====
section
/-! SUPPORT. Frames: what the shared operations leave unchanged in registers and memory, and what an admitted write of a
master is. -/

namespace Sys2Proof.Machine

variable {s t u : State}

/-! ### The relations -/

theorem sameRegs.refl (s : State) (l : List Nat) : sameRegs s s l := fun _ _ => rfl

theorem sameRegs.trans {l : List Nat} (h : sameRegs s t l) (k : sameRegs t u l) : sameRegs s u l :=
  fun a ha => (k a ha).trans (h a ha)

theorem sameRegs.mono {l m : List Nat} (h : sameRegs s t l) (hl : ∀ a, a ∈ l → a ∈ m) : sameRegs s t m :=
  fun a ha => h a (fun hx => ha (hl a hx))

theorem sameRegs.ofRegs {l : List Nat} (h : t.regs = s.regs) : sameRegs s t l :=
  fun a _ => by rw [State.rd_eq, State.rd_eq, h]

theorem sameMem.ofMem (h : t.mem = s.mem) : sameMem s t := fun a => by simp only [State.mb, h]

theorem sameRegs.wr (s : State) {l : List Nat} {a : Nat} (v : Nat) (h : a ∈ l) : sameRegs s (s.wr a v) l :=
  fun _ hb => State.rd_wr_ne s v (fun e => hb (e ▸ h))

theorem sameRegs.setF (s : State) {l : List Nat} {x : Fld} (v : Nat) (h : x.addr ∈ l) : sameRegs s (s.setF x v) l :=
  sameRegs.wr s _ h

theorem sameRegs.each {α : Type} {l : List Nat} {f : State → α → State} (h : ∀ s a, sameRegs s (f s a) l) (xs : List α) :
    ∀ s : State, sameRegs s (s.each xs f) l := by
  induction xs with
  | nil => intro s; exact sameRegs.refl s l
  | cons x xs ih => intro s; exact (h s x).trans (ih (f s x))

theorem State.each_mem {α : Type} {f : State → α → State} (h : ∀ s a, (f s a).mem = s.mem) (xs : List α) :
    ∀ s : State, (s.each xs f).mem = s.mem := by
  induction xs with
  | nil => intro s; rfl
  | cons x xs ih => intro s; exact (ih (f s x)).trans (h s x)

/-! ### Counting and logging -/

theorem State.ledgerAdd_rd (s : State) (n : Nat) {k a : Nat} (hl : a ≠ (F.LDG_CNT_LO k).addr)
    (hh : a ≠ (F.LDG_CNT_HI_COUNT k).addr) : (s.ledgerAdd n k).rd a = s.rd a := by
  unfold State.ledgerAdd
  rw [State.rd_setF_ne _ _ hh, State.rd_setF_ne _ _ hl]

theorem State.ledgerAdd_mem (s : State) (n k : Nat) : (s.ledgerAdd n k).mem = s.mem := by
  unfold State.ledgerAdd
  rw [State.setF_mem, State.setF_mem]

theorem State.ledgerAdd_annFifo (s : State) (n k : Nat) : (s.ledgerAdd n k).annFifo = s.annFifo := by
  unfold State.ledgerAdd
  rw [State.setF_annFifo, State.setF_annFifo]

theorem State.ledgerAdd_regsWf (h : regsWf s.regs = true) (n k : Nat) : regsWf (s.ledgerAdd n k).regs = true := by
  unfold State.ledgerAdd
  exact State.setF_regsWf (State.setF_regsWf h _ _) _ _

theorem ledgerHits_lt (regs : List (Nat × Word)) (src k : Nat) (h : k ∈ ledgerHits regs src) : k < 32 := by
  unfold ledgerHits at h
  rw [List.mem_filterMap] at h
  obtain ⟨e, _, he⟩ := h
  split at he
  · rename_i hc
    simp only [Bool.and_eq_true, decide_eq_true_eq] at hc
    cases he
    omega
  · cases he

theorem mem_countRegs {k : Nat} (h : k < 32) :
    (F.LDG_CNT_LO k).addr ∈ countRegs ∧ (F.LDG_CNT_HI_COUNT k).addr ∈ countRegs := by
  unfold countRegs
  refine ⟨List.mem_cons_of_mem _ ?_, List.mem_cons_of_mem _ ?_⟩ <;>
    exact List.mem_flatMap.mpr ⟨k, List.mem_range.mpr h, by simp⟩

/-- Counting in the Ledger changes only its counters. -/
theorem State.ledgerN_same (s : State) (src n : Nat) : sameRegs s (s.ledgerN src n) countRegs := by
  intro a ha
  unfold State.ledgerN
  have hk := ledgerHits_lt s.regs src
  generalize ledgerHits s.regs src = l at hk
  have go : ∀ (l : List Nat), (∀ k, k ∈ l → k < 32) → ∀ t : State, (l.foldl (fun t k => t.ledgerAdd n k) t).rd a = t.rd a := by
    intro l
    induction l with
    | nil => intro _ t; rfl
    | cons k l ih =>
      intro h t
      have hm := mem_countRegs (h k (List.mem_cons_self ..))
      rw [List.foldl_cons, ih (fun j hj => h j (List.mem_cons_of_mem _ hj)),
        State.ledgerAdd_rd t n (k := k) (fun e => ha (by rw [e]; exact hm.1)) (fun e => ha (by rw [e]; exact hm.2))]
  exact go l hk s

theorem State.ledger_same (s : State) (src : Nat) : sameRegs s (s.ledger src) countRegs := by
  unfold State.ledger; exact s.ledgerN_same src 1

@[simp] theorem State.ledgerN_mem (s : State) (src n : Nat) : (s.ledgerN src n).mem = s.mem := by
  unfold State.ledgerN
  generalize ledgerHits s.regs src = l
  have go : ∀ (l : List Nat) (t : State), (l.foldl (fun t k => t.ledgerAdd n k) t).mem = t.mem := by
    intro l
    induction l with
    | nil => intro t; rfl
    | cons k l ih => intro t; rw [List.foldl_cons, ih, State.ledgerAdd_mem]
  exact go l s

@[simp] theorem State.ledger_mem (s : State) (src : Nat) : (s.ledger src).mem = s.mem := by
  unfold State.ledger; exact s.ledgerN_mem src 1

@[simp] theorem State.ledgerN_annFifo (s : State) (src n : Nat) : (s.ledgerN src n).annFifo = s.annFifo := by
  unfold State.ledgerN
  generalize ledgerHits s.regs src = l
  have go : ∀ (l : List Nat) (t : State), (l.foldl (fun t k => t.ledgerAdd n k) t).annFifo = t.annFifo := by
    intro l
    induction l with
    | nil => intro t; rfl
    | cons k l ih => intro t; rw [List.foldl_cons, ih, State.ledgerAdd_annFifo]
  exact go l s

@[simp] theorem State.ledger_annFifo (s : State) (src : Nat) : (s.ledger src).annFifo = s.annFifo := by
  unfold State.ledger; exact s.ledgerN_annFifo src 1

theorem State.log_same (s : State) (a b c d : Nat) (e : Option Nat) (f : Bool) : sameRegs s (s.log a b c d e f) countRegs := by
  unfold State.log
  split
  · exact sameRegs.ofRegs rfl
  · unfold State.inc State.add; exact sameRegs.setF s _ (List.mem_cons_self ..)

@[simp] theorem State.log_mem (s : State) (a b c d : Nat) (e : Option Nat) (f : Bool) : (s.log a b c d e f).mem = s.mem := by
  unfold State.log
  split
  · rfl
  · unfold State.inc State.add; rw [State.setF_mem]

/-- Counting an event changes its counter and the Ledger's. -/
theorem State.count_same (s : State) (x : Fld) (src : Nat) : sameRegs s (s.count x src) (x.addr :: countRegs) := by
  unfold State.count State.inc State.add
  exact (sameRegs.setF s _ (List.mem_cons_self ..)).trans
    ((State.ledger_same _ src).mono (fun _ h => List.mem_cons_of_mem _ h))

@[simp] theorem State.count_mem (s : State) (x : Fld) (src : Nat) : (s.count x src).mem = s.mem := by
  unfold State.count State.inc State.add; rw [State.ledger_mem, State.setF_mem]

/-- A field outside the counters reads as before after counting in the Ledger. -/
theorem State.f_ledger {x : Fld} (s : State) (src : Nat) (h : x.addr ∉ countRegs) : (s.ledger src).f x = s.f x := by
  unfold State.f; rw [State.ledger_same s src _ h]

theorem State.f_log {x : Fld} (s : State) (a b c d : Nat) (e : Option Nat) (g : Bool) (h : x.addr ∉ countRegs) :
    (s.log a b c d e g).f x = s.f x := by
  unfold State.f; rw [State.log_same s a b c d e g _ h]

theorem State.add_regsWf (h : regsWf s.regs = true) (x : Fld) (n : Nat) : regsWf (s.add x n).regs = true :=
  State.setF_regsWf h _ _

theorem State.ledgerN_regsWf (h : regsWf s.regs = true) (src n : Nat) : regsWf (s.ledgerN src n).regs = true := by
  unfold State.ledgerN
  generalize ledgerHits s.regs src = l
  have go : ∀ (l : List Nat) (t : State), regsWf t.regs = true →
      regsWf (l.foldl (fun t k => t.ledgerAdd n k) t).regs = true := by
    intro l
    induction l with
    | nil => intro t ht; exact ht
    | cons k l ih => intro t ht; rw [List.foldl_cons]; exact ih (t.ledgerAdd n k) (State.ledgerAdd_regsWf ht n k)
  exact go l s h

theorem State.ledger_regsWf (h : regsWf s.regs = true) (src : Nat) : regsWf (s.ledger src).regs = true := by
  unfold State.ledger; exact State.ledgerN_regsWf h src 1

theorem State.log_regsWf (h : regsWf s.regs = true) (a b c d : Nat) (e : Option Nat) (f : Bool) :
    regsWf (s.log a b c d e f).regs = true := by
  unfold State.log; split
  · exact h
  · exact State.setF_regsWf h _ _

/-- A saturating addition: the field's new value. -/
theorem State.f_add (h : regsWf s.regs = true) {x : Fld} (hx : x.fits = true) (n : Nat) :
    (s.add x n).f x = min (s.f x + n) (2 ^ x.width - 1) := by
  unfold State.add
  rw [State.f_setF_same h hx, Nat.mod_eq_of_lt]
  have := Nat.two_pow_pos x.width
  omega

/-! ### Writes of masters -/

/-- A master's write of a register that the state admits, FOL_PROT apart: the register's own rule, and a report when it
discards. -/
theorem State.masterOp_admitted {m : Master} {a w : Nat} (h : s.admits m a = true) (hm : inMem a = false)
    (hp : a ≠ F.FOL_PROT_BP.addr) :
    s.masterOp m a w = State.report (s.regWrite a w) (masterCode m) a := by
  unfold State.admits at h; rw [Bool.and_eq_true, Bool.and_eq_true, Bool.not_eq_true'] at h
  unfold State.masterOp State.masterWrite State.busWrite
  simp [h.1.1, h.1.2, h.2, hm, beq_false_of_ne hp, State.cond]

/-- A master's write of a memory word that the state admits. -/
theorem State.masterOp_memory {m : Master} {a w : Nat} (h : s.admits m a = true) (hm : inMem a = true) :
    s.masterOp m a w = State.report (s.memWrite a w) (masterCode m) a := by
  unfold State.admits at h; rw [Bool.and_eq_true, Bool.and_eq_true, Bool.not_eq_true'] at h
  unfold State.masterOp State.masterWrite State.busWrite
  have hp : a ≠ F.FOL_PROT_BP.addr := by rintro rfl; exact absurd hm (by decide)
  simp [h.1.1, h.1.2, h.2, hm, beq_false_of_ne hp, State.cond]

/-- A master that reaches the part, in a state that does not admit its write: a report and nothing else. -/
theorem State.masterOp_turned_away {m : Master} {a w : Nat} (h : s.reaches m = true) (hg : s.writeGate a = false) :
    s.masterOp m a w = s.reject (masterCode m) a := by
  simp [State.masterOp, h, State.masterWrite, State.busWrite, hg, State.report, State.cond]

/-- A master that does not reach the part changes nothing. -/
theorem State.masterOp_unreached {m : Master} {a w : Nat} (h : s.reaches m = false) : s.masterOp m a w = s := by
  simp [State.masterOp, h]

end Sys2Proof.Machine
end

