-- ==== Sys2Proof/Laws/KeptSvc.lean ====
section
/-! SUPPORT. What the functions of Svc keep. -/

namespace Sys2Proof.Machine

set_option linter.unusedTactic false
set_option linter.unreachableTactic false
set_option linter.tactic.unusedName false

variable {pq : List Instr}

theorem State.reqAccess_kept {s : State} (r : Req) (h : s.Kept pq) : (State.reqAccess s r).1.Kept pq := by
  show Kept1 pq _
  unfold State.reqAccess
  repeat' first
    | with_reducible intro _
    | (extract_lets -underBinder +onlyGivenNames x
       first | (first | apply kept_seq (pq := pq) x | apply kept_seq1 (pq := pq) x | apply kept_seq2 (pq := pq) x
                on_goal 1 => subst x
                on_goal 2 => (intro hx; try clear_value x)) | try clear_value x)
    | with_reducible first | assumption | apply State.masterWrite_kept | apply State.busRead_kept | apply kept_ite
                                  | apply kept1_ite | apply kept2_ite
    | dsimp only
    | with_reducible first | apply kept_fst | apply kept_snd
    | with_reducible apply kept1_of
    | with_reducible apply kept2_of
    | with_reducible apply kept_mk

theorem State.folSend_kept {s : State} (r : Req) (i : Nat) (j : Nat) (h : s.Kept pq) : (State.folSend s r i j).1.Kept
    pq := by
  show Kept1 pq _
  unfold State.folSend
  repeat' first
    | with_reducible intro _
    | (extract_lets -underBinder +onlyGivenNames x
       first | (first | apply kept_seq (pq := pq) x | apply kept_seq1 (pq := pq) x | apply kept_seq2 (pq := pq) x
                on_goal 1 => subst x
                on_goal 2 => (intro hx; try clear_value x)) | try clear_value x)
    | with_reducible first | assumption | apply State.setFol_kept | apply kept_ite | apply kept1_ite | apply kept2_ite
    | dsimp only
    | with_reducible first | apply kept_fst | apply kept_snd
    | with_reducible apply kept1_of
    | with_reducible apply kept2_of
    | with_reducible apply kept_mk

theorem State.runReq_kept {s : State} (r : Req) {y0 : Nat} (h : s.Kept pq) : (State.runReq s r y0).1.Kept pq := by
  induction y0 generalizing s r with
  | zero =>
    show Kept1 pq _
    unfold State.runReq
    repeat' first
      | with_reducible intro _
      | (extract_lets -underBinder +onlyGivenNames x
         first | (first | apply kept_seq (pq := pq) x | apply kept_seq1 (pq := pq) x | apply kept_seq2 (pq := pq) x
                  on_goal 1 => subst x
                  on_goal 2 => (intro hx; try clear_value x)) | try clear_value x)
      | with_reducible first | assumption | apply ih | apply State.folSend_kept | apply State.reqAccess_kept
                                  | apply kept_ite | apply kept1_ite | apply kept2_ite
      | dsimp only
      | with_reducible first | apply kept_fst | apply kept_snd
      | with_reducible apply kept1_of
      | with_reducible apply kept2_of
  | succ n ih =>
    show Kept1 pq _
    unfold State.runReq
    repeat' first
      | with_reducible intro _
      | (extract_lets -underBinder +onlyGivenNames x
         first | (first | apply kept_seq (pq := pq) x | apply kept_seq1 (pq := pq) x | apply kept_seq2 (pq := pq) x
                  on_goal 1 => subst x
                  on_goal 2 => (intro hx; try clear_value x)) | try clear_value x)
      | with_reducible first | assumption | apply ih | apply State.folSend_kept | apply State.reqAccess_kept
                                  | apply kept_ite | apply kept1_ite | apply kept2_ite
      | dsimp only
      | with_reducible first | apply kept_fst | apply kept_snd
      | with_reducible apply kept1_of
      | with_reducible apply kept2_of

theorem State.waitPoint_kept {s : State} (r : Req) (h : s.Kept pq) : (State.waitPoint s r).1.Kept pq := by
  show Kept1 pq _
  unfold State.waitPoint
  repeat' first
    | with_reducible intro _
    | (extract_lets -underBinder +onlyGivenNames x
       first | (first | apply kept_seq (pq := pq) x | apply kept_seq1 (pq := pq) x | apply kept_seq2 (pq := pq) x
                on_goal 1 => subst x
                on_goal 2 => (intro hx; try clear_value x)) | try clear_value x)
    | with_reducible first | assumption | apply State.folSend_kept | apply State.setFol_kept
                                  | apply State.reqAccess_kept | apply kept_ite | apply kept1_ite | apply kept2_ite
    | dsimp only
    | with_reducible first | apply kept_fst | apply kept_snd
    | with_reducible apply kept1_of
    | with_reducible apply kept2_of
    | with_reducible apply kept_mk

theorem State.portEnd_kept {s : State} (r : Req) (h : s.Kept pq) : (State.portEnd s r).Kept pq := by
  unfold State.portEnd
  repeat' first
    | with_reducible intro _
    | (extract_lets -underBinder +onlyGivenNames x
       first | (first | apply kept_seq (pq := pq) x | apply kept_seq1 (pq := pq) x | apply kept_seq2 (pq := pq) x
                on_goal 1 => subst x
                on_goal 2 => (intro hx; try clear_value x)) | try clear_value x)
    | with_reducible first | assumption | apply State.setF_kept | apply State.cond_kept | apply State.inc_kept
                                  | apply State.setFol_kept | apply kept_ite | apply kept1_ite | apply kept2_ite
    | dsimp only
    | with_reducible first | apply kept_fst | apply kept_snd
    | with_reducible apply kept1_of
    | with_reducible apply kept2_of
    | with_reducible apply kept_mk

theorem State.partnerReply_kept {s : State} (b : Nat) (node : Nat) (seq : Nat) (status : Nat) (words : List Nat) (h :
    s.Kept pq) : (State.partnerReply s b node seq status words).Kept pq := by
  unfold State.partnerReply
  repeat' first
    | with_reducible intro _
    | (extract_lets -underBinder +onlyGivenNames x
       first | (first | apply kept_seq (pq := pq) x | apply kept_seq1 (pq := pq) x | apply kept_seq2 (pq := pq) x
                on_goal 1 => subst x
                on_goal 2 => (intro hx; try clear_value x)) | try clear_value x)
    | with_reducible first | assumption | apply State.zpSend_kept
    | dsimp only
    | with_reducible first | apply kept_fst | apply kept_snd
    | with_reducible apply kept1_of
    | with_reducible apply kept2_of

theorem State.reqEnd_kept {s : State} (r : Req) (h : s.Kept pq) : (State.reqEnd s r).Kept pq := by
  unfold State.reqEnd
  repeat' first
    | with_reducible intro _
    | (extract_lets -underBinder +onlyGivenNames x
       first | (first | apply kept_seq (pq := pq) x | apply kept_seq1 (pq := pq) x | apply kept_seq2 (pq := pq) x
                on_goal 1 => subst x
                on_goal 2 => (intro hx; try clear_value x)) | try clear_value x)
    | with_reducible first | assumption | apply State.portEnd_kept | apply State.cond_kept
                                  | apply State.setPair_kept | apply State.setZb_kept | apply State.setOwned_kept
                                  | apply State.partnerReply_kept | apply kept_ite | apply kept1_ite
                                  | apply kept2_ite
    | dsimp only
    | split
    | with_reducible first | apply kept_fst | apply kept_snd
    | with_reducible apply kept1_of
    | with_reducible apply kept2_of
    | with_reducible apply kept_mk

theorem State.reqOn_kept {s : State} (r : Req) (h : s.Kept pq) : (State.reqOn s r).Kept pq := by
  unfold State.reqOn
  repeat' first
    | with_reducible intro _
    | (extract_lets -underBinder +onlyGivenNames x
       first | (first | apply kept_seq (pq := pq) x | apply kept_seq1 (pq := pq) x | apply kept_seq2 (pq := pq) x
                on_goal 1 => subst x
                on_goal 2 => (intro hx; try clear_value x)) | try clear_value x)
    | with_reducible first | assumption | apply State.waitPoint_kept | apply State.runReq_kept
                                  | apply State.reqEnd_kept | apply kept_ite | apply kept1_ite | apply kept2_ite
    | dsimp only
    | with_reducible first | apply kept_fst | apply kept_snd
    | with_reducible apply kept1_of
    | with_reducible apply kept2_of
    | with_reducible apply kept_mk

theorem State.settle_kept {s : State} (h : s.Kept pq) : (State.settle s).Kept pq := by
  unfold State.settle
  repeat' first
    | with_reducible intro _
    | with_reducible first | assumption | apply State.each_kept | apply State.reqOn_kept
    | dsimp only
    | with_reducible apply kept_mk

theorem State.idle_kept {s : State} (h : s.Kept pq) : (State.idle s).Kept pq := by
  unfold State.idle
  repeat' first
    | with_reducible intro _
    | (extract_lets -underBinder +onlyGivenNames x
       first | (first | apply kept_seq (pq := pq) x | apply kept_seq1 (pq := pq) x | apply kept_seq2 (pq := pq) x
                on_goal 1 => subst x
                on_goal 2 => (intro hx; try clear_value x)) | try clear_value x)
    | with_reducible first | assumption | apply State.each_kept | apply State.runReq_kept | apply State.reqOn_kept
    | dsimp only
    | with_reducible first | apply kept_fst | apply kept_snd
    | with_reducible apply kept1_of
    | with_reducible apply kept2_of
    | with_reducible apply kept_mk

theorem State.portOpen_kept {s : State} (write : Bool) (bytes : Bool) (addr : Nat) (n : Nat) (data : List Nat) (split
    : Bool) (h : s.Kept pq) : (State.portOpen s write bytes addr n data split).Kept pq := by
  unfold State.portOpen
  repeat' first
    | with_reducible intro _
    | (extract_lets -underBinder +onlyGivenNames x
       first | (first | apply kept_seq (pq := pq) x | apply kept_seq1 (pq := pq) x | apply kept_seq2 (pq := pq) x
                on_goal 1 => subst x
                on_goal 2 => (intro hx; try clear_value x)) | try clear_value x)
    | with_reducible first | assumption | apply State.reqOn_kept | apply kept_ite | apply kept1_ite | apply kept2_ite
    | dsimp only
    | with_reducible first | apply kept_fst | apply kept_snd
    | with_reducible apply kept1_of
    | with_reducible apply kept2_of
    | with_reducible apply kept_mk

theorem execSpiRead_kept (addr : BitVec 32) (len : BitVec 8) (split : Bool) {s : State} (h : s.Kept pq) : KeptOut pq
    (execSpiRead addr len split s) := by
  unfold execSpiRead
  repeat' first
    | with_reducible intro _
    | with_reducible first | assumption | apply State.portOpen_kept | apply keptOut_next | apply keptOut_refused
                                  | apply keptOut_ite
    | dsimp only

theorem execSpiWrite_kept (addr : BitVec 32) (words : List Word) (split : Bool) {s : State} (h : s.Kept pq) : KeptOut
    pq (execSpiWrite addr words split s) := by
  unfold execSpiWrite
  repeat' first
    | with_reducible intro _
    | with_reducible first | assumption | apply State.portOpen_kept | apply kept_ite | apply kept1_ite
                                  | apply kept2_ite | apply keptOut_next | apply keptOut_refused | apply keptOut_ite
    | dsimp only
    | with_reducible first | apply kept_fst | apply kept_snd
    | with_reducible apply kept1_of
    | with_reducible apply kept2_of

theorem execSpiWriteb_kept (addr : BitVec 32) (bytes : List Byte) (split : Bool) {s : State} (h : s.Kept pq) : KeptOut
    pq (execSpiWriteb addr bytes split s) := by
  unfold execSpiWriteb
  repeat' first
    | with_reducible intro _
    | with_reducible first | assumption | apply State.portOpen_kept | apply kept_ite | apply kept1_ite
                                  | apply kept2_ite | apply keptOut_next | apply keptOut_refused | apply keptOut_ite
    | dsimp only
    | with_reducible first | apply kept_fst | apply kept_snd
    | with_reducible apply kept1_of
    | with_reducible apply kept2_of

theorem execSpiWaitPoint_kept {s : State} (h : s.Kept pq) : KeptOut pq (execSpiWaitPoint s) := by
  unfold execSpiWaitPoint
  repeat' first
    | with_reducible intro _
    | (extract_lets -underBinder +onlyGivenNames x
       first | (first | apply kept_seq (pq := pq) x | apply kept_seq1 (pq := pq) x | apply kept_seq2 (pq := pq) x
                on_goal 1 => subst x
                on_goal 2 => (intro hx; try clear_value x)) | try clear_value x)
    | with_reducible first | assumption | apply State.reqEnd_kept | apply State.waitPoint_kept
                                  | apply State.reqOn_kept | apply kept_ite | apply kept1_ite | apply kept2_ite
                                  | apply keptOut_next | apply keptOut_refused | apply keptOut_ite
    | dsimp only
    | split
    | with_reducible first | apply kept_fst | apply kept_snd
    | with_reducible apply kept1_of
    | with_reducible apply kept2_of
    | with_reducible apply kept_mk

theorem State.portAbort_kept {s : State} (h : s.Kept pq) : (State.portAbort s).Kept pq := by
  unfold State.portAbort
  repeat' first
    | with_reducible intro _
    | with_reducible first | assumption | apply State.setF_kept | apply State.inc_kept
    | dsimp only

theorem State.folAbort_kept {s : State} (r : Req) (h : s.Kept pq) : (State.folAbort s r).Kept pq := by
  unfold State.folAbort
  repeat' first
    | with_reducible intro _
    | (extract_lets -underBinder +onlyGivenNames x
       first | (first | apply kept_seq (pq := pq) x | apply kept_seq1 (pq := pq) x | apply kept_seq2 (pq := pq) x
                on_goal 1 => subst x
                on_goal 2 => (intro hx; try clear_value x)) | try clear_value x)
    | with_reducible first | assumption | apply State.setFol_kept | apply State.cond_kept | apply State.folSend_kept
                                  | apply kept_ite | apply kept1_ite | apply kept2_ite
    | dsimp only
    | with_reducible first | apply kept_fst | apply kept_snd
    | with_reducible apply kept1_of
    | with_reducible apply kept2_of
    | with_reducible apply kept_mk

theorem execSpiAbort_kept {s : State} (h : s.Kept pq) : KeptOut pq (execSpiAbort s) := by
  unfold execSpiAbort
  repeat' first
    | with_reducible intro _
    | (extract_lets -underBinder +onlyGivenNames x
       first | (first | apply kept_seq (pq := pq) x | apply kept_seq1 (pq := pq) x | apply kept_seq2 (pq := pq) x
                on_goal 1 => subst x
                on_goal 2 => (intro hx; try clear_value x)) | try clear_value x)
    | with_reducible first | assumption | apply State.portAbort_kept | apply State.folAbort_kept | apply kept_ite
                                  | apply kept1_ite | apply kept2_ite | apply keptOut_next | apply keptOut_refused
                                  | apply keptOut_ite
    | dsimp only
    | split
    | with_reducible first | apply kept_fst | apply kept_snd
    | with_reducible apply kept1_of
    | with_reducible apply kept2_of
    | with_reducible apply kept_mk

theorem execSpiStatus_kept {s : State} (h : s.Kept pq) : KeptOut pq (execSpiStatus s) := by
  unfold execSpiStatus
  repeat' first
    | with_reducible intro _
    | with_reducible first | assumption | apply kept_ite | apply kept1_ite | apply kept2_ite | apply keptOut_next
                                  | apply keptOut_refused | apply keptOut_ite
    | dsimp only
    | with_reducible first | apply kept_fst | apply kept_snd
    | with_reducible apply kept1_of
    | with_reducible apply kept2_of
    | with_reducible apply kept_mk

theorem execSpiReset_kept (bytes : List Byte) {s : State} (h : s.Kept pq) : KeptOut pq (execSpiReset bytes s) := by
  unfold execSpiReset
  repeat' first
    | with_reducible intro _
    | with_reducible first | assumption | apply State.otherReset_kept | apply State.portAbort_kept | apply kept_ite
                                  | apply kept1_ite | apply kept2_ite | apply keptOut_next | apply keptOut_refused
                                  | apply keptOut_ite
    | dsimp only
    | with_reducible first | apply kept_fst | apply kept_snd
    | with_reducible apply kept1_of
    | with_reducible apply kept2_of

theorem execSpiBadOpcode_kept (op : Byte) (clocked : Bool) {s : State} (h : s.Kept pq) : KeptOut pq (execSpiBadOpcode
    op clocked s) := by
  unfold execSpiBadOpcode
  repeat' first
    | with_reducible intro _
    | (extract_lets -underBinder +onlyGivenNames x
       first | (first | apply kept_seq (pq := pq) x | apply kept_seq1 (pq := pq) x | apply kept_seq2 (pq := pq) x
                on_goal 1 => subst x
                on_goal 2 => (intro hx; try clear_value x)) | try clear_value x)
    | with_reducible first | assumption | apply State.setF_kept | apply State.inc_kept | apply State.portAbort_kept
                                  | apply kept_ite | apply kept1_ite | apply kept2_ite | apply keptOut_next
                                  | apply keptOut_refused | apply keptOut_ite
    | dsimp only
    | with_reducible first | apply kept_fst | apply kept_snd
    | with_reducible apply kept1_of
    | with_reducible apply kept2_of
    | with_reducible apply kept_mk

theorem execLinkMgmtRequest_kept (write : Bool) (tag : BitVec 8) (addr : BitVec 32) (n : BitVec 8) (words : List Word)
    {s : State} (split : Bool := false) (h : s.Kept pq) : KeptOut pq (execLinkMgmtRequest write tag addr n words s
    split) := by
  unfold execLinkMgmtRequest
  repeat' first
    | with_reducible intro _
    | (extract_lets -underBinder +onlyGivenNames x
       first | (first | apply kept_seq (pq := pq) x | apply kept_seq1 (pq := pq) x | apply kept_seq2 (pq := pq) x
                on_goal 1 => subst x
                on_goal 2 => (intro hx; try clear_value x)) | try clear_value x)
    | with_reducible first | assumption | apply State.linkHeard_kept | apply State.reqOn_kept | apply kept_ite
                                  | apply kept1_ite | apply kept2_ite | apply keptOut_next | apply keptOut_refused
                                  | apply keptOut_ite
    | dsimp only
    | with_reducible first | apply kept_fst | apply kept_snd
    | with_reducible apply kept1_of
    | with_reducible apply kept2_of

theorem State.zpManage_kept {s : State} (b : Nat) (x : ZpRx) (write : Bool) (n : Nat) (split : Bool) (h : s.Kept pq) :
    (State.zpManage s b x write n split).Kept pq := by
  unfold State.zpManage
  repeat' first
    | with_reducible intro _
    | (extract_lets -underBinder +onlyGivenNames x
       first | (first | apply kept_seq (pq := pq) x | apply kept_seq1 (pq := pq) x | apply kept_seq2 (pq := pq) x
                on_goal 1 => subst x
                on_goal 2 => (intro hx; try clear_value x)) | try clear_value x)
    | with_reducible first | assumption | apply State.zpSeq_kept | apply State.zpCount_kept
                                  | apply State.partnerReply_kept | apply State.setZb_kept | apply State.reqOn_kept
                                  | apply kept_ite | apply kept1_ite | apply kept2_ite
    | dsimp only
    | with_reducible first | apply kept_fst | apply kept_snd
    | with_reducible apply kept1_of
    | with_reducible apply kept2_of
    | with_reducible apply kept_mk

theorem execZpMgmtRead_kept (b : Fin 2) {s : State} (split : Bool := false) (h : s.Kept pq) : KeptOut pq
    (execZpMgmtRead b s split) := by
  unfold execZpMgmtRead
  repeat' first
    | with_reducible intro _
    | (extract_lets -underBinder +onlyGivenNames x
       first | (first | apply kept_seq (pq := pq) x | apply kept_seq1 (pq := pq) x | apply kept_seq2 (pq := pq) x
                on_goal 1 => subst x
                on_goal 2 => (intro hx; try clear_value x)) | try clear_value x)
    | with_reducible first | assumption | apply State.zpProcess_kept | apply State.zpJoined_kept
                                  | apply State.zpManage_kept | apply keptOut_next | apply keptOut_refused
                                  | apply keptOut_ite
    | dsimp only
    | with_reducible first | apply kept_fst | apply kept_snd
    | with_reducible apply kept1_of
    | with_reducible apply kept2_of

theorem execZpMgmtWrite_kept (b : Fin 2) {s : State} (split : Bool := false) (h : s.Kept pq) : KeptOut pq
    (execZpMgmtWrite b s split) := by
  unfold execZpMgmtWrite
  repeat' first
    | with_reducible intro _
    | (extract_lets -underBinder +onlyGivenNames x
       first | (first | apply kept_seq (pq := pq) x | apply kept_seq1 (pq := pq) x | apply kept_seq2 (pq := pq) x
                on_goal 1 => subst x
                on_goal 2 => (intro hx; try clear_value x)) | try clear_value x)
    | with_reducible first | assumption | apply State.zpProcess_kept | apply State.zpJoined_kept
                                  | apply State.zpManage_kept | apply keptOut_next | apply keptOut_refused
                                  | apply keptOut_ite
    | dsimp only
    | with_reducible first | apply kept_fst | apply kept_snd
    | with_reducible apply kept1_of
    | with_reducible apply kept2_of

theorem execFolioMasterAccess_kept {s : State} (h : s.Kept pq) : KeptOut pq (execFolioMasterAccess s) := by
  unfold execFolioMasterAccess
  repeat' first
    | with_reducible intro _
    | with_reducible first | assumption | apply State.folAccess_kept | apply State.settle_kept | apply keptOut_next
                                  | apply keptOut_refused | apply keptOut_ite
    | dsimp only

theorem execFolioProgramEnd_kept {s : State} (h : s.Kept pq) : KeptOut pq (execFolioProgramEnd s) := by
  unfold execFolioProgramEnd
  repeat' first
    | with_reducible intro _
    | with_reducible first | assumption | apply State.progEnd_kept | apply State.readsLeft_kept
                                  | apply State.settle_kept | apply keptOut_next | apply keptOut_refused
                                  | apply keptOut_ite
    | dsimp only

theorem execFolioRecallScanEnd_kept {s : State} (h : s.Kept pq) : KeptOut pq (execFolioRecallScanEnd s) := by
  unfold execFolioRecallScanEnd
  repeat' first
    | with_reducible intro _
    | with_reducible first | assumption | apply State.recallEnd_kept | apply State.bootReads_kept
                                  | apply State.tryContinue_kept | apply State.settle_kept | apply kept_ite
                                  | apply kept1_ite | apply kept2_ite | apply keptOut_next | apply keptOut_refused
                                  | apply keptOut_ite
    | dsimp only
    | with_reducible first | apply kept_fst | apply kept_snd
    | with_reducible apply kept1_of
    | with_reducible apply kept2_of

theorem execPfiAccepted_kept {s : State} (h : s.Kept pq) : KeptOut pq (execPfiAccepted s) := by
  unfold execPfiAccepted
  repeat' first
    | with_reducible intro _
    | with_reducible first | assumption | apply State.pfi_kept | apply State.settle_kept | apply kept_ite
                                  | apply kept1_ite | apply kept2_ite | apply keptOut_next | apply keptOut_refused
                                  | apply keptOut_ite
    | dsimp only
    | with_reducible first | apply kept_fst | apply kept_snd
    | with_reducible apply kept1_of
    | with_reducible apply kept2_of

theorem execSensorSample_kept (t0 : BitVec 16) (t1 : BitVec 16) (t2 : BitVec 16) (t3 : BitVec 16) {s : State} (h :
    s.Kept pq) : KeptOut pq (execSensorSample t0 t1 t2 t3 s) := by
  unfold execSensorSample
  repeat' first
    | with_reducible intro _
    | with_reducible first | assumption | apply State.thermalSample_kept | apply State.settle_kept | apply kept_ite
                                  | apply kept1_ite | apply kept2_ite | apply keptOut_next | apply keptOut_refused
                                  | apply keptOut_ite
    | dsimp only
    | with_reducible first | apply kept_fst | apply kept_snd
    | with_reducible apply kept1_of
    | with_reducible apply kept2_of

theorem execAonComparatorSample_kept (above : Bool) {s : State} (h : s.Kept pq) : KeptOut pq (execAonComparatorSample
    above s) := by
  unfold execAonComparatorSample
  repeat' first
    | with_reducible intro _
    | with_reducible first | assumption | apply State.comparator_kept | apply State.settle_kept | apply kept_ite
                                  | apply kept1_ite | apply kept2_ite | apply keptOut_next | apply keptOut_refused
                                  | apply keptOut_ite
    | dsimp only
    | with_reducible first | apply kept_fst | apply kept_snd
    | with_reducible apply kept1_of
    | with_reducible apply kept2_of

end Sys2Proof.Machine
end

