-- ==== Sys2Proof/Laws/KeptCommands.lean ====
section
/-! SUPPORT. What the functions of Commands keep. -/

namespace Sys2Proof.Machine

set_option linter.unusedTactic false
set_option linter.unreachableTactic false
set_option linter.tactic.unusedName false

variable {pq : List Instr}

theorem State.masterOp_kept {s : State} (m : Master) (a : Nat) (w : Nat) (h : s.Kept pq) : (State.masterOp s m a
    w).Kept pq := by
  unfold State.masterOp
  repeat' first
    | with_reducible intro _
    | with_reducible first | assumption | apply State.masterWrite_kept | apply kept_ite | apply kept1_ite
                                  | apply kept2_ite
    | dsimp only
    | with_reducible first | apply kept_fst | apply kept_snd
    | with_reducible apply kept1_of
    | with_reducible apply kept2_of

theorem State.masterOpBy_kept {s : State} (m : Master) (a : Nat) {f : State → State × Bool} (hf : ∀ t, t.Kept pq → (f
    t).1.Kept pq) (h : s.Kept pq) : (State.masterOpBy s m a f).Kept pq := by
  unfold State.masterOpBy
  repeat' first
    | with_reducible intro _
    | with_reducible first | assumption | apply State.report_kept | apply hf | apply kept_ite | apply kept1_ite
                                  | apply kept2_ite
    | dsimp only
    | with_reducible first | apply kept_fst | apply kept_snd
    | with_reducible apply kept1_of
    | with_reducible apply kept2_of

theorem execGoRam_kept (m : Master) {s : State} (h : s.Kept pq) : KeptOut pq (execGoRam m s) := by
  unfold execGoRam
  repeat' first
    | with_reducible intro _
    | with_reducible first | assumption | apply State.masterOp_kept | apply keptOut_next | apply keptOut_refused
                                  | apply keptOut_ite
    | dsimp only

theorem execGoA_kept (m : Master) {s : State} (h : s.Kept pq) : KeptOut pq (execGoA m s) := by
  unfold execGoA
  repeat' first
    | with_reducible intro _
    | with_reducible first | assumption | apply State.masterOp_kept | apply keptOut_next | apply keptOut_refused
                                  | apply keptOut_ite
    | dsimp only

theorem execGoB_kept (m : Master) {s : State} (h : s.Kept pq) : KeptOut pq (execGoB m s) := by
  unfold execGoB
  repeat' first
    | with_reducible intro _
    | with_reducible first | assumption | apply State.masterOp_kept | apply keptOut_next | apply keptOut_refused
                                  | apply keptOut_ite
    | dsimp only

theorem execProgA_kept (m : Master) {s : State} (h : s.Kept pq) : KeptOut pq (execProgA m s) := by
  unfold execProgA
  repeat' first
    | with_reducible intro _
    | with_reducible first | assumption | apply State.masterOp_kept | apply keptOut_next | apply keptOut_refused
                                  | apply keptOut_ite
    | dsimp only

theorem execProgB_kept (m : Master) {s : State} (h : s.Kept pq) : KeptOut pq (execProgB m s) := by
  unfold execProgB
  repeat' first
    | with_reducible intro _
    | with_reducible first | assumption | apply State.masterOp_kept | apply keptOut_next | apply keptOut_refused
                                  | apply keptOut_ite
    | dsimp only

theorem execShadowHoldWrite_kept (m : Master) (w : Word) {s : State} (h : s.Kept pq) : KeptOut pq (execShadowHoldWrite
    m w s) := by
  unfold execShadowHoldWrite
  repeat' first
    | with_reducible intro _
    | with_reducible first | assumption | apply State.masterOp_kept | apply keptOut_next | apply keptOut_refused
                                  | apply keptOut_ite
    | dsimp only

theorem execCalibrationForce_kept (m : Master) (w : Word) {s : State} (h : s.Kept pq) : KeptOut pq
    (execCalibrationForce m w s) := by
  unfold execCalibrationForce
  repeat' first
    | with_reducible intro _
    | with_reducible first | assumption | apply State.masterOp_kept | apply keptOut_next | apply keptOut_refused
                                  | apply keptOut_ite
    | dsimp only

theorem execPermanentSubstitutionSet_kept (m : Master) (w : Word) {s : State} (h : s.Kept pq) : KeptOut pq
    (execPermanentSubstitutionSet m w s) := by
  unfold execPermanentSubstitutionSet
  repeat' first
    | with_reducible intro _
    | with_reducible first | assumption | apply State.masterOp_kept | apply keptOut_next | apply keptOut_refused
                                  | apply keptOut_ite
    | dsimp only

theorem execPermanentSubstitutionClear_kept (m : Master) (w : Word) {s : State} (h : s.Kept pq) : KeptOut pq
    (execPermanentSubstitutionClear m w s) := by
  unfold execPermanentSubstitutionClear
  repeat' first
    | with_reducible intro _
    | with_reducible first | assumption | apply State.masterOp_kept | apply keptOut_next | apply keptOut_refused
                                  | apply keptOut_ite
    | dsimp only

theorem execRegularStartGo_kept (m : Master) (w : Word) {s : State} (h : s.Kept pq) : KeptOut pq (execRegularStartGo m
    w s) := by
  unfold execRegularStartGo
  repeat' first
    | with_reducible intro _
    | with_reducible first | assumption | apply State.masterOp_kept | apply keptOut_next | apply keptOut_refused
                                  | apply keptOut_ite
    | dsimp only

theorem execInjectedSoftwareTrigger_kept (m : Master) (w : Word) (t : BitVec 16) {s : State} (h : s.Kept pq) : KeptOut
    pq (execInjectedSoftwareTrigger m w t s) := by
  unfold execInjectedSoftwareTrigger
  repeat' first
    | with_reducible intro _
    | with_reducible first | assumption | apply State.masterOpBy_kept | apply State.istrigWrite_kept
                                  | apply keptOut_next | apply keptOut_refused | apply keptOut_ite
    | dsimp only

theorem execCompareWrite_kept (m : Master) (g : Fin 6) (x : Fin 3) (w : Word) {s : State} (h : s.Kept pq) : KeptOut pq
    (execCompareWrite m g x w s) := by
  unfold execCompareWrite
  repeat' first
    | with_reducible intro _
    | with_reducible first | assumption | apply State.masterOp_kept | apply keptOut_next | apply keptOut_refused
                                  | apply keptOut_ite
    | dsimp only

theorem execGroupOffWrite_kept (m : Master) (g : Fin 6) (w : Word) {s : State} (h : s.Kept pq) : KeptOut pq
    (execGroupOffWrite m g w s) := by
  unfold execGroupOffWrite
  repeat' first
    | with_reducible intro _
    | with_reducible first | assumption | apply State.masterOp_kept | apply keptOut_next | apply keptOut_refused
                                  | apply keptOut_ite
    | dsimp only

theorem execCoastEnable_kept (m : Master) (g : Fin 6) {s : State} (h : s.Kept pq) : KeptOut pq (execCoastEnable m g s)
    := by
  unfold execCoastEnable
  repeat' first
    | with_reducible intro _
    | with_reducible first | assumption | apply State.masterOp_kept | apply keptOut_next | apply keptOut_refused
                                  | apply keptOut_ite
    | dsimp only

theorem execCoastDisable_kept (m : Master) (g : Fin 6) {s : State} (h : s.Kept pq) : KeptOut pq (execCoastDisable m g
    s) := by
  unfold execCoastDisable
  repeat' first
    | with_reducible intro _
    | with_reducible first | assumption | apply State.masterOp_kept | apply keptOut_next | apply keptOut_refused
                                  | apply keptOut_ite
    | dsimp only

theorem execCoastAngleWrite_kept (m : Master) (g : Fin 6) (w : Word) {s : State} (h : s.Kept pq) : KeptOut pq
    (execCoastAngleWrite m g w s) := by
  unfold execCoastAngleWrite
  repeat' first
    | with_reducible intro _
    | with_reducible first | assumption | apply State.masterOp_kept | apply keptOut_next | apply keptOut_refused
                                  | apply keptOut_ite
    | dsimp only

theorem execCarrierRatePhaseChange_kept (m : Master) (ch : Fin 38) (w : Word) {s : State} (h : s.Kept pq) : KeptOut pq
    (execCarrierRatePhaseChange m ch w s) := by
  unfold execCarrierRatePhaseChange
  repeat' first
    | with_reducible intro _
    | with_reducible first | assumption | apply State.masterOp_kept | apply kept_ite | apply kept1_ite
                                  | apply kept2_ite | apply keptOut_next | apply keptOut_refused | apply keptOut_ite
    | dsimp only
    | with_reducible first | apply kept_fst | apply kept_snd
    | with_reducible apply kept1_of
    | with_reducible apply kept2_of

theorem execEngineRun_kept (m : Master) {s : State} (h : s.Kept pq) : KeptOut pq (execEngineRun m s) := by
  unfold execEngineRun
  repeat' first
    | with_reducible intro _
    | with_reducible first | assumption | apply State.masterOp_kept | apply keptOut_next | apply keptOut_refused
                                  | apply keptOut_ite
    | dsimp only

theorem execEngineStop_kept (m : Master) {s : State} (h : s.Kept pq) : KeptOut pq (execEngineStop m s) := by
  unfold execEngineStop
  repeat' first
    | with_reducible intro _
    | with_reducible first | assumption | apply State.masterOp_kept | apply keptOut_next | apply keptOut_refused
                                  | apply keptOut_ite
    | dsimp only

theorem execModeCommand_kept (m : Master) (w : Word) {s : State} (h : s.Kept pq) : KeptOut pq (execModeCommand m w s)
    := by
  unfold execModeCommand
  repeat' first
    | with_reducible intro _
    | with_reducible first | assumption | apply State.masterOp_kept | apply keptOut_next | apply keptOut_refused
                                  | apply keptOut_ite
    | dsimp only

theorem execDriveStart_kept (m : Master) (d : Fin 6) (back : Bool) {s : State} (h : s.Kept pq) : KeptOut pq
    (execDriveStart m d back s) := by
  unfold execDriveStart
  repeat' first
    | with_reducible intro _
    | with_reducible first | assumption | apply State.masterOp_kept | apply State.back_kept | apply keptOut_next
                                  | apply keptOut_refused | apply keptOut_ite
    | dsimp only

theorem execDriveStop_kept (m : Master) (d : Fin 6) {s : State} (h : s.Kept pq) : KeptOut pq (execDriveStop m d s) :=
    by
  unfold execDriveStop
  repeat' first
    | with_reducible intro _
    | with_reducible first | assumption | apply State.masterOp_kept | apply keptOut_next | apply keptOut_refused
                                  | apply keptOut_ite
    | dsimp only

theorem execDriveFaultclr_kept (m : Master) (d : Fin 6) {s : State} (h : s.Kept pq) : KeptOut pq (execDriveFaultclr m
    d s) := by
  unfold execDriveFaultclr
  repeat' first
    | with_reducible intro _
    | with_reducible first | assumption | apply State.masterOp_kept | apply keptOut_next | apply keptOut_refused
                                  | apply keptOut_ite
    | dsimp only

theorem execPerennialClear_kept (m : Master) (w : Word) {s : State} (h : s.Kept pq) : KeptOut pq (execPerennialClear m
    w s) := by
  unfold execPerennialClear
  repeat' first
    | with_reducible intro _
    | with_reducible first | assumption | apply State.masterOp_kept | apply keptOut_next | apply keptOut_refused
                                  | apply keptOut_ite
    | dsimp only

theorem execGeneratorStart_kept (m : Master) (n : Fin 8) {s : State} (h : s.Kept pq) : KeptOut pq (execGeneratorStart
    m n s) := by
  unfold execGeneratorStart
  repeat' first
    | with_reducible intro _
    | with_reducible first | assumption | apply State.masterOp_kept | apply keptOut_next | apply keptOut_refused
                                  | apply keptOut_ite
    | dsimp only

theorem execGeneratorStop_kept (m : Master) (n : Fin 8) {s : State} (h : s.Kept pq) : KeptOut pq (execGeneratorStop m
    n s) := by
  unfold execGeneratorStop
  repeat' first
    | with_reducible intro _
    | with_reducible first | assumption | apply State.masterOp_kept | apply keptOut_next | apply keptOut_refused
                                  | apply keptOut_ite
    | dsimp only

theorem execCaptureArm_kept (m : Master) {s : State} (h : s.Kept pq) : KeptOut pq (execCaptureArm m s) := by
  unfold execCaptureArm
  repeat' first
    | with_reducible intro _
    | with_reducible first | assumption | apply State.masterOp_kept | apply keptOut_next | apply keptOut_refused
                                  | apply keptOut_ite
    | dsimp only

theorem execCaptureStop_kept (m : Master) {s : State} (h : s.Kept pq) : KeptOut pq (execCaptureStop m s) := by
  unfold execCaptureStop
  repeat' first
    | with_reducible intro _
    | with_reducible first | assumption | apply State.masterOp_kept | apply keptOut_next | apply keptOut_refused
                                  | apply keptOut_ite
    | dsimp only

theorem execPointForceSet_kept (m : Master) (p : Fin 4096) {s : State} (h : s.Kept pq) : KeptOut pq (execPointForceSet
    m p s) := by
  unfold execPointForceSet
  repeat' first
    | with_reducible intro _
    | with_reducible first | assumption | apply State.masterOp_kept | apply keptOut_next | apply keptOut_refused
                                  | apply keptOut_ite
    | dsimp only

theorem execPointForceClear_kept (m : Master) (p : Fin 4096) {s : State} (h : s.Kept pq) : KeptOut pq
    (execPointForceClear m p s) := by
  unfold execPointForceClear
  repeat' first
    | with_reducible intro _
    | with_reducible first | assumption | apply State.masterOp_kept | apply keptOut_next | apply keptOut_refused
                                  | apply keptOut_ite
    | dsimp only

theorem execRtcSet_kept (m : Master) (w : Word) {s : State} (h : s.Kept pq) : KeptOut pq (execRtcSet m w s) := by
  unfold execRtcSet
  repeat' first
    | with_reducible intro _
    | with_reducible first | assumption | apply State.masterOp_kept | apply keptOut_next | apply keptOut_refused
                                  | apply keptOut_ite
    | dsimp only

theorem execCatalogueValueWrite_kept (m : Master) (p : Fin 4096) (w : Word) {s : State} (h : s.Kept pq) : KeptOut pq
    (execCatalogueValueWrite m p w s) := by
  unfold execCatalogueValueWrite
  repeat' first
    | with_reducible intro _
    | with_reducible first | assumption | apply State.masterOp_kept | apply keptOut_next | apply keptOut_refused
                                  | apply keptOut_ite
    | dsimp only

theorem execCanEnable_kept (c : Fin 2) (m : Master) (w : Word) {s : State} (h : s.Kept pq) : KeptOut pq (execCanEnable
    c m w s) := by
  unfold execCanEnable
  repeat' first
    | with_reducible intro _
    | with_reducible first | assumption | apply State.masterOp_kept | apply keptOut_next | apply keptOut_refused
                                  | apply keptOut_ite
    | dsimp only

theorem execCanDisable_kept (c : Fin 2) (m : Master) (w : Word) (busy : Bool) {s : State} (h : s.Kept pq) : KeptOut pq
    (execCanDisable c m w busy s) := by
  unfold execCanDisable
  repeat' first
    | with_reducible intro _
    | with_reducible first | assumption | apply State.masterOpBy_kept | apply State.canCtlWrite_kept
                                  | apply State.busy_kept | apply keptOut_next | apply keptOut_refused
                                  | apply keptOut_ite
    | dsimp only

theorem execTransmitRequest_kept (c : Fin 2) (m : Master) (k : Fin 4) (w : Word) {s : State} (h : s.Kept pq) : KeptOut
    pq (execTransmitRequest c m k w s) := by
  unfold execTransmitRequest
  repeat' first
    | with_reducible intro _
    | with_reducible first | assumption | apply State.masterOp_kept | apply keptOut_next | apply keptOut_refused
                                  | apply keptOut_ite
    | dsimp only

theorem execTransmitCancel_kept (c : Fin 2) (m : Master) (k : Fin 4) (w : Word) {s : State} (h : s.Kept pq) : KeptOut
    pq (execTransmitCancel c m k w s) := by
  unfold execTransmitCancel
  repeat' first
    | with_reducible intro _
    | with_reducible first | assumption | apply State.masterOp_kept | apply keptOut_next | apply keptOut_refused
                                  | apply keptOut_ite
    | dsimp only

theorem execBusOffRecovery_kept (c : Fin 2) (m : Master) {s : State} (h : s.Kept pq) : KeptOut pq (execBusOffRecovery
    c m s) := by
  unfold execBusOffRecovery
  repeat' first
    | with_reducible intro _
    | with_reducible first | assumption | apply State.masterOp_kept | apply keptOut_next | apply keptOut_refused
                                  | apply keptOut_ite
    | dsimp only

theorem execQueueAck_kept (c : Fin 2) (m : Master) (q : Fin 2) (w : Word) {s : State} (h : s.Kept pq) : KeptOut pq
    (execQueueAck c m q w s) := by
  unfold execQueueAck
  repeat' first
    | with_reducible intro _
    | with_reducible first | assumption | apply State.masterOp_kept | apply keptOut_next | apply keptOut_refused
                                  | apply keptOut_ite
    | dsimp only

theorem execFdTransmitOff_kept (c : Fin 2) (m : Master) (w : Word) {s : State} (h : s.Kept pq) : KeptOut pq
    (execFdTransmitOff c m w s) := by
  unfold execFdTransmitOff
  repeat' first
    | with_reducible intro _
    | with_reducible first | assumption | apply State.masterOp_kept | apply keptOut_next | apply keptOut_refused
                                  | apply keptOut_ite
    | dsimp only

theorem execObjectWrite_kept (c : Fin 2) (m : Master) (n : Fin 128) (i : Fin 20) (w : Word) {s : State} (h : s.Kept
    pq) : KeptOut pq (execObjectWrite c m n i w s) := by
  unfold execObjectWrite
  repeat' first
    | with_reducible intro _
    | with_reducible first | assumption | apply State.masterOp_kept | apply keptOut_next | apply keptOut_refused
                                  | apply keptOut_ite
    | dsimp only

theorem execSwapRequest_kept (m : Master) (w : Word) {s : State} (h : s.Kept pq) : KeptOut pq (execSwapRequest m w s)
    := by
  unfold execSwapRequest
  repeat' first
    | with_reducible intro _
    | with_reducible first | assumption | apply State.masterOp_kept | apply keptOut_next | apply keptOut_refused
                                  | apply keptOut_ite
    | dsimp only

theorem execFolioRemap_kept (m : Master) (w : Word) {s : State} (h : s.Kept pq) : KeptOut pq (execFolioRemap m w s) :=
    by
  unfold execFolioRemap
  repeat' first
    | with_reducible intro _
    | with_reducible first | assumption | apply State.masterOp_kept | apply keptOut_next | apply keptOut_refused
                                  | apply keptOut_ite
    | dsimp only

theorem execFolioProtWrite_kept (m : Master) (w : Word) {s : State} (h : s.Kept pq) : KeptOut pq (execFolioProtWrite m
    w s) := by
  unfold execFolioProtWrite
  repeat' first
    | with_reducible intro _
    | with_reducible first | assumption | apply State.masterOp_kept | apply keptOut_next | apply keptOut_refused
                                  | apply keptOut_ite
    | dsimp only

theorem execClearMissed_kept (m : Master) (w : Word) {s : State} (h : s.Kept pq) : KeptOut pq (execClearMissed m w s)
    := by
  unfold execClearMissed
  repeat' first
    | with_reducible intro _
    | with_reducible first | assumption | apply State.masterOp_kept | apply keptOut_next | apply keptOut_refused
                                  | apply keptOut_ite
    | dsimp only

theorem execUserCounterInc_kept (m : Master) (w : Word) {s : State} (h : s.Kept pq) : KeptOut pq (execUserCounterInc m
    w s) := by
  unfold execUserCounterInc
  repeat' first
    | with_reducible intro _
    | with_reducible first | assumption | apply State.masterOp_kept | apply keptOut_next | apply keptOut_refused
                                  | apply keptOut_ite
    | dsimp only

theorem execFolLiveWrite_kept (m : Master) (i : Fin 64) (w : Word) {s : State} (h : s.Kept pq) : KeptOut pq
    (execFolLiveWrite m i w s) := by
  unfold execFolLiveWrite
  repeat' first
    | with_reducible intro _
    | with_reducible first | assumption | apply State.masterOp_kept | apply keptOut_next | apply keptOut_refused
                                  | apply keptOut_ite
    | dsimp only

theorem execCombinationWrite_kept (m : Master) (n : Fin 4) (cfg : Bool) (w : Word) {s : State} (h : s.Kept pq) :
    KeptOut pq (execCombinationWrite m n cfg w s) := by
  unfold execCombinationWrite
  repeat' first
    | with_reducible intro _
    | with_reducible first | assumption | apply State.masterOp_kept | apply kept_ite | apply kept1_ite
                                  | apply kept2_ite | apply keptOut_next | apply keptOut_refused | apply keptOut_ite
    | dsimp only
    | with_reducible first | apply kept_fst | apply kept_snd
    | with_reducible apply kept1_of
    | with_reducible apply kept2_of

theorem execLedgerClear_kept (m : Master) (w : Word) {s : State} (h : s.Kept pq) : KeptOut pq (execLedgerClear m w s)
    := by
  unfold execLedgerClear
  repeat' first
    | with_reducible intro _
    | with_reducible first | assumption | apply State.masterOp_kept | apply keptOut_next | apply keptOut_refused
                                  | apply keptOut_ite
    | dsimp only

theorem execLedgerSelect_kept (m : Master) (k : Fin 32) (w : Word) {s : State} (h : s.Kept pq) : KeptOut pq
    (execLedgerSelect m k w s) := by
  unfold execLedgerSelect
  repeat' first
    | with_reducible intro _
    | with_reducible first | assumption | apply State.masterOp_kept | apply keptOut_next | apply keptOut_refused
                                  | apply keptOut_ite
    | dsimp only

theorem execSnapshotModeWrite_kept (m : Master) (w : Word) {s : State} (h : s.Kept pq) : KeptOut pq
    (execSnapshotModeWrite m w s) := by
  unfold execSnapshotModeWrite
  repeat' first
    | with_reducible intro _
    | with_reducible first | assumption | apply State.masterOp_kept | apply keptOut_next | apply keptOut_refused
                                  | apply keptOut_ite
    | dsimp only

theorem execFoxVreqWrite_kept (m : Master) (w : Word) {s : State} (h : s.Kept pq) : KeptOut pq (execFoxVreqWrite m w
    s) := by
  unfold execFoxVreqWrite
  repeat' first
    | with_reducible intro _
    | with_reducible first | assumption | apply State.masterOp_kept | apply keptOut_next | apply keptOut_refused
                                  | apply keptOut_ite
    | dsimp only

theorem execCounterClear_kept (m : Master) (a : BitVec 32) (w : Word) {s : State} (h : s.Kept pq) : KeptOut pq
    (execCounterClear m a w s) := by
  unfold execCounterClear
  repeat' first
    | with_reducible intro _
    | with_reducible first | assumption | apply State.masterOp_kept | apply kept_ite | apply kept1_ite
                                  | apply kept2_ite | apply keptOut_next | apply keptOut_refused | apply keptOut_ite
    | dsimp only
    | with_reducible first | apply kept_fst | apply kept_snd
    | with_reducible apply kept1_of
    | with_reducible apply kept2_of

theorem execRegisterWrite_kept (m : Master) (a : BitVec 32) (w : Word) {s : State} (h : s.Kept pq) : KeptOut pq
    (execRegisterWrite m a w s) := by
  unfold execRegisterWrite
  repeat' first
    | with_reducible intro _
    | with_reducible first | assumption | apply State.masterOp_kept | apply kept_ite | apply kept1_ite
                                  | apply kept2_ite | apply keptOut_next | apply keptOut_refused | apply keptOut_ite
    | dsimp only
    | with_reducible first | apply kept_fst | apply kept_snd
    | with_reducible apply kept1_of
    | with_reducible apply kept2_of

end Sys2Proof.Machine
end

