-- ==== Sys2Proof/Laws/KeptFrame.lean ====
section
/-! SUPPORT. What the functions of Frame keep. -/

namespace Sys2Proof.Machine

set_option linter.unusedTactic false
set_option linter.unreachableTactic false
set_option linter.tactic.unusedName false

variable {pq : List Instr}

theorem State.commitStaged_kept {s : State} (x : Staged) (h : s.Kept pq) : (State.commitStaged s x).Kept pq := by
  unfold State.commitStaged
  repeat' first
    | with_reducible intro _
    | (extract_lets -underBinder +onlyGivenNames x
       first | (first | apply kept_seq (pq := pq) x | apply kept_seq1 (pq := pq) x | apply kept_seq2 (pq := pq) x
                on_goal 1 => subst x
                on_goal 2 => (intro hx; try clear_value x)) | try clear_value x)
    | with_reducible first | assumption | apply State.catWritten_kept | apply State.ptUpdate_kept
                                  | apply State.setM_kept | apply State.report_kept | apply State.modeCmdWrite_kept
                                  | apply State.driveCmdWrite_kept | apply State.setDrv_kept
                                  | apply State.reject_kept | apply State.inc_kept | apply State.canRecover_kept
                                  | apply State.swapReq_kept | apply State.wr_kept | apply State.log_kept
                                  | apply State.setF_kept | apply State.queueJob_kept | apply kept_ite
                                  | apply kept1_ite | apply kept2_ite
    | dsimp only
    | split
    | with_reducible first | apply kept_fst | apply kept_snd
    | with_reducible apply kept1_of
    | with_reducible apply kept2_of
    | with_reducible apply kept_mk

theorem State.almIdle_kept {s : State} (h : s.Kept pq) : (State.almIdle s).Kept pq := by
  unfold State.almIdle
  repeat' first
    | with_reducible intro _
    | with_reducible first | assumption
    | dsimp only
    | with_reducible apply kept_mk

theorem State.almCommit_kept {s : State} (h : s.Kept pq) : (State.almCommit s).Kept pq := by
  unfold State.almCommit
  repeat' first
    | with_reducible intro _
    | (extract_lets -underBinder +onlyGivenNames x
       first | (first | apply kept_seq (pq := pq) x | apply kept_seq1 (pq := pq) x | apply kept_seq2 (pq := pq) x
                on_goal 1 => subst x
                on_goal 2 => (intro hx; try clear_value x)) | try clear_value x)
    | with_reducible first | assumption | apply State.almIdle_kept | apply State.inCycle_kept
                                  | apply State.each_kept | apply State.commitStaged_kept | apply State.count_kept
                                  | apply kept_ite | apply kept1_ite | apply kept2_ite
    | dsimp only
    | with_reducible first | apply kept_fst | apply kept_snd
    | with_reducible apply kept1_of
    | with_reducible apply kept2_of
    | with_reducible apply kept_mk

theorem State.almArm_kept {s : State} (h : s.Kept pq) : (State.almArm s).Kept pq := by
  unfold State.almArm
  repeat' first
    | with_reducible intro _
    | with_reducible first | assumption
    | dsimp only
    | with_reducible apply kept_mk

theorem State.frameCount_kept {s : State} (h : s.Kept pq) : (State.frameCount s).Kept pq := by
  unfold State.frameCount
  repeat' first
    | with_reducible intro _
    | with_reducible first | assumption | apply State.setF_kept | apply kept_ite | apply kept1_ite | apply kept2_ite
    | dsimp only
    | with_reducible first | apply kept_fst | apply kept_snd
    | with_reducible apply kept1_of
    | with_reducible apply kept2_of

theorem State.tickPwm_kept {s : State} (h : s.Kept pq) : (State.tickPwm s).Kept pq := by
  unfold State.tickPwm
  repeat' first
    | with_reducible intro _
    | (extract_lets -underBinder +onlyGivenNames x
       first | (first | apply kept_seq (pq := pq) x | apply kept_seq1 (pq := pq) x | apply kept_seq2 (pq := pq) x
                on_goal 1 => subst x
                on_goal 2 => (intro hx; try clear_value x)) | try clear_value x)
    | with_reducible first | assumption | apply State.pwmTick_kept | apply State.cond_kept
                                  | apply State.failSource_kept | apply State.copyStaged_kept
    | dsimp only
    | with_reducible first | apply kept_fst | apply kept_snd
    | with_reducible apply kept1_of
    | with_reducible apply kept2_of

theorem State.tickClose_kept {s : State} (h : s.Kept pq) : (State.tickClose s).Kept pq := by
  unfold State.tickClose
  repeat' first
    | with_reducible intro _
    | with_reducible first | assumption | apply State.cond_kept | apply State.closeFrame_kept
                                  | apply State.catClear_kept
    | dsimp only

theorem State.tickShadow_kept {s : State} (h : s.Kept pq) : (State.tickShadow s).Kept pq := by
  unfold State.tickShadow
  repeat' first
    | with_reducible intro _
    | with_reducible first | assumption | apply State.commitShadow_kept | apply kept_ite | apply kept1_ite
                                  | apply kept2_ite
    | dsimp only
    | with_reducible first | apply kept_fst | apply kept_snd
    | with_reducible apply kept1_of
    | with_reducible apply kept2_of
    | with_reducible apply kept_mk

theorem State.tickClear_kept {s : State} (h : s.Kept pq) : (State.tickClear s).Kept pq := by
  unfold State.tickClear
  repeat' first
    | with_reducible intro _
    | (extract_lets -underBinder +onlyGivenNames x
       first | (first | apply kept_seq (pq := pq) x | apply kept_seq1 (pq := pq) x | apply kept_seq2 (pq := pq) x
                on_goal 1 => subst x
                on_goal 2 => (intro hx; try clear_value x)) | try clear_value x)
    | with_reducible first | assumption | apply State.cond_kept | apply State.endClear_kept | apply kept_ite
                                  | apply kept1_ite | apply kept2_ite
    | dsimp only
    | with_reducible first | apply kept_fst | apply kept_snd
    | with_reducible apply kept1_of
    | with_reducible apply kept2_of
    | with_reducible apply kept_mk

theorem State.firstTick_kept {s : State} (h : s.Kept pq) : (State.firstTick s).Kept pq := by
  unfold State.firstTick
  repeat' first
    | with_reducible intro _
    | (extract_lets -underBinder +onlyGivenNames x
       first | (first | apply kept_seq (pq := pq) x | apply kept_seq1 (pq := pq) x | apply kept_seq2 (pq := pq) x
                on_goal 1 => subst x
                on_goal 2 => (intro hx; try clear_value x)) | try clear_value x)
    | with_reducible first | assumption | apply State.free_kept | apply State.setF_kept | apply State.phase_kept
                                  | apply State.foxRestore_kept | apply State.encStop_kept | apply kept_ite
                                  | apply kept1_ite | apply kept2_ite
    | dsimp only
    | with_reducible first | apply kept_fst | apply kept_snd
    | with_reducible apply kept1_of
    | with_reducible apply kept2_of
    | with_reducible apply kept_mk

theorem State.curatorTick_kept {s : State} (h : s.Kept pq) : (State.curatorTick s).Kept pq := by
  unfold State.curatorTick
  repeat' first
    | with_reducible intro _
    | (extract_lets -underBinder +onlyGivenNames x
       first | (first | apply kept_seq (pq := pq) x | apply kept_seq1 (pq := pq) x | apply kept_seq2 (pq := pq) x
                on_goal 1 => subst x
                on_goal 2 => (intro hx; try clear_value x)) | try clear_value x)
    | with_reducible first | assumption | apply State.frameCount_kept | apply State.snapTick_kept
                                  | apply State.tickShadow_kept | apply State.firstTick_kept
                                  | apply State.ledger_kept
    | dsimp only
    | with_reducible first | apply kept_fst | apply kept_snd
    | with_reducible apply kept1_of
    | with_reducible apply kept2_of

theorem State.tickCatalogue_kept {s : State} (di : Nat) (h : s.Kept pq) : (State.tickCatalogue s di).Kept pq := by
  unfold State.tickCatalogue
  repeat' first
    | with_reducible intro _
    | with_reducible first | assumption | apply State.diSample_kept | apply State.catVisits_kept
    | dsimp only

theorem execTick_kept (di : BitVec 16) {s : State} (h : s.Kept pq) : KeptOut pq (execTick di s) := by
  unfold execTick
  repeat' first
    | with_reducible intro _
    | (extract_lets -underBinder +onlyGivenNames x
       first | (first | apply kept_seq (pq := pq) x | apply kept_seq1 (pq := pq) x | apply kept_seq2 (pq := pq) x
                on_goal 1 => subst x
                on_goal 2 => (intro hx; try clear_value x)) | try clear_value x)
    | with_reducible first | assumption | apply State.curatorTick_kept | apply State.frameCount_kept
                                  | apply State.tickPwm_kept | apply State.snapTick_kept
                                  | apply State.tickClose_kept | apply State.tickShadow_kept
                                  | apply State.almCommit_kept | apply State.tickClear_kept
                                  | apply State.engineTick_kept | apply State.seqTick_kept
                                  | apply State.capTick_kept | apply State.almArm_kept
                                  | apply State.tickCatalogue_kept | apply State.firstTick_kept
                                  | apply State.canTick_kept | apply State.pairTick_kept | apply State.ledger_kept
                                  | apply kept_ite | apply kept1_ite | apply kept2_ite | apply keptOut_next
                                  | apply keptOut_refused | apply keptOut_ite
    | dsimp only
    | with_reducible first | apply kept_fst | apply kept_snd
    | with_reducible apply kept1_of
    | with_reducible apply kept2_of

theorem execShadowHoldExpiry_kept {s : State} (h : s.Kept pq) : KeptOut pq (execShadowHoldExpiry s) := by
  unfold execShadowHoldExpiry
  repeat' first
    | with_reducible intro _
    | with_reducible first | assumption | apply State.setF_kept | apply kept_ite | apply kept1_ite | apply kept2_ite
                                  | apply keptOut_next | apply keptOut_refused | apply keptOut_ite
    | dsimp only
    | with_reducible first | apply kept_fst | apply kept_snd
    | with_reducible apply kept1_of
    | with_reducible apply kept2_of
    | with_reducible apply kept_mk

theorem execPllLockLoss_kept (link : Bool) {s : State} (h : s.Kept pq) : KeptOut pq (execPllLockLoss link s) := by
  unfold execPllLockLoss
  repeat' first
    | with_reducible intro _
    | (extract_lets -underBinder +onlyGivenNames x
       first | (first | apply kept_seq (pq := pq) x | apply kept_seq1 (pq := pq) x | apply kept_seq2 (pq := pq) x
                on_goal 1 => subst x
                on_goal 2 => (intro hx; try clear_value x)) | try clear_value x)
    | with_reducible first | assumption | apply State.setF_kept | apply State.safeAssert_kept
                                  | apply State.frameStop_kept | apply kept_ite | apply kept1_ite | apply kept2_ite
                                  | apply keptOut_next | apply keptOut_refused | apply keptOut_ite
    | dsimp only
    | with_reducible first | apply kept_fst | apply kept_snd
    | with_reducible apply kept1_of
    | with_reducible apply kept2_of

theorem execPllLRelock_kept (three : Bool) {s : State} (h : s.Kept pq) : KeptOut pq (execPllLRelock three s) := by
  unfold execPllLRelock
  repeat' first
    | with_reducible intro _
    | (extract_lets -underBinder +onlyGivenNames x
       first | (first | apply kept_seq (pq := pq) x | apply kept_seq1 (pq := pq) x | apply kept_seq2 (pq := pq) x
                on_goal 1 => subst x
                on_goal 2 => (intro hx; try clear_value x)) | try clear_value x)
    | with_reducible first | assumption | apply State.setF_kept | apply State.safeRelease_kept | apply kept_ite
                                  | apply kept1_ite | apply kept2_ite | apply keptOut_next | apply keptOut_refused
                                  | apply keptOut_ite
    | dsimp only
    | with_reducible first | apply kept_fst | apply kept_snd
    | with_reducible apply kept1_of
    | with_reducible apply kept2_of
    | with_reducible apply kept_mk

theorem execFrameWatchdogExpiry_kept {s : State} (h : s.Kept pq) : KeptOut pq (execFrameWatchdogExpiry s) := by
  unfold execFrameWatchdogExpiry
  repeat' first
    | with_reducible intro _
    | with_reducible first | assumption | apply State.safeAssert_kept | apply State.otherReset_kept | apply kept_ite
                                  | apply kept1_ite | apply kept2_ite | apply keptOut_next | apply keptOut_refused
                                  | apply keptOut_ite
    | dsimp only
    | with_reducible first | apply kept_fst | apply kept_snd
    | with_reducible apply kept1_of
    | with_reducible apply kept2_of

theorem execCrystalLoss_kept {s : State} (h : s.Kept pq) : KeptOut pq (execCrystalLoss s) := by
  unfold execCrystalLoss
  repeat' first
    | with_reducible intro _
    | (extract_lets -underBinder +onlyGivenNames x
       first | (first | apply kept_seq (pq := pq) x | apply kept_seq1 (pq := pq) x | apply kept_seq2 (pq := pq) x
                on_goal 1 => subst x
                on_goal 2 => (intro hx; try clear_value x)) | try clear_value x)
    | with_reducible first | assumption | apply State.safeAssert_kept | apply State.otherReset_kept
                                  | apply keptOut_next | apply keptOut_refused | apply keptOut_ite
    | dsimp only
    | with_reducible first | apply kept_fst | apply kept_snd
    | with_reducible apply kept1_of
    | with_reducible apply kept2_of
    | with_reducible apply kept_mk

theorem execPowerOnReset_kept {s : State} (core : Bool := false) (h : s.Kept pq) : KeptOut pq (execPowerOnReset s
    core) := by
  unfold execPowerOnReset
  repeat' first
    | with_reducible intro _
    | with_reducible first | assumption | apply State.powerReset_kept | apply keptOut_next | apply keptOut_refused
                                  | apply keptOut_ite
    | dsimp only

theorem execPinReset_kept {s : State} (h : s.Kept pq) : KeptOut pq (execPinReset s) := by
  unfold execPinReset
  repeat' first
    | with_reducible intro _
    | with_reducible first | assumption | apply State.otherReset_kept | apply keptOut_next | apply keptOut_refused
                                  | apply keptOut_ite
    | dsimp only

theorem execAonClockChangeover_kept {s : State} (h : s.Kept pq) : KeptOut pq (execAonClockChangeover s) := by
  unfold execAonClockChangeover
  repeat' first
    | with_reducible intro _
    | with_reducible first | assumption | apply keptOut_next | apply keptOut_refused | apply keptOut_ite
    | dsimp only
    | with_reducible apply kept_mk

theorem State.plantSecond_kept {s : State} (h : s.Kept pq) : (State.plantSecond s).Kept pq := by
  unfold State.plantSecond
  repeat' first
    | with_reducible intro _
    | with_reducible first | assumption | apply State.calSecond_kept | apply State.canSecond_kept
                                  | apply State.zpSecond_kept | apply State.liveSecond_kept
    | dsimp only
    | with_reducible apply kept_mk

theorem execRtcSecondEdge_kept {s : State} (h : s.Kept pq) : KeptOut pq (execRtcSecondEdge s) := by
  unfold execRtcSecondEdge
  repeat' first
    | with_reducible intro _
    | (extract_lets -underBinder +onlyGivenNames x
       first | (first | apply kept_seq (pq := pq) x | apply kept_seq1 (pq := pq) x | apply kept_seq2 (pq := pq) x
                on_goal 1 => subst x
                on_goal 2 => (intro hx; try clear_value x)) | try clear_value x)
    | with_reducible first | assumption | apply State.setF_kept | apply State.cond_kept
                                  | apply State.plantSecond_kept | apply State.foxSecond_kept
                                  | apply State.pairSecond_kept | apply State.ledger_kept | apply keptOut_next
                                  | apply keptOut_refused | apply keptOut_ite
    | dsimp only
    | with_reducible first | apply kept_fst | apply kept_snd
    | with_reducible apply kept1_of
    | with_reducible apply kept2_of

theorem execSafeStateAssert_kept (src : SafeSource) {s : State} (h : s.Kept pq) : KeptOut pq (execSafeStateAssert src
    s) := by
  unfold execSafeStateAssert
  repeat' first
    | with_reducible intro _
    | with_reducible first | assumption | apply State.safeAssert_kept | apply kept_ite | apply kept1_ite
                                  | apply kept2_ite | apply keptOut_next | apply keptOut_refused | apply keptOut_ite
    | dsimp only
    | with_reducible first | apply kept_fst | apply kept_snd
    | with_reducible apply kept1_of
    | with_reducible apply kept2_of

theorem execSafeStateRelease_kept (src : SafeSource) {s : State} (h : s.Kept pq) : KeptOut pq (execSafeStateRelease
    src s) := by
  unfold execSafeStateRelease
  repeat' first
    | with_reducible intro _
    | with_reducible first | assumption | apply State.safeRelease_kept | apply kept_ite | apply kept1_ite
                                  | apply kept2_ite | apply keptOut_next | apply keptOut_refused | apply keptOut_ite
    | dsimp only
    | with_reducible first | apply kept_fst | apply kept_snd
    | with_reducible apply kept1_of
    | with_reducible apply kept2_of

theorem execPerennialClearEnd_kept {s : State} (h : s.Kept pq) : KeptOut pq (execPerennialClearEnd s) := by
  unfold execPerennialClearEnd
  repeat' first
    | with_reducible intro _
    | (extract_lets -underBinder +onlyGivenNames x
       first | (first | apply kept_seq (pq := pq) x | apply kept_seq1 (pq := pq) x | apply kept_seq2 (pq := pq) x
                on_goal 1 => subst x
                on_goal 2 => (intro hx; try clear_value x)) | try clear_value x)
    | with_reducible first | assumption | apply State.endClear_kept | apply keptOut_next | apply keptOut_refused
                                  | apply keptOut_ite
    | dsimp only
    | with_reducible first | apply kept_fst | apply kept_snd
    | with_reducible apply kept1_of
    | with_reducible apply kept2_of
    | with_reducible apply kept_mk

end Sys2Proof.Machine
end

