-- ==== Sys2Proof/Laws/KeptPulse.lean ====
section
/-! SUPPORT. What the functions of Pulse keep. -/

namespace Sys2Proof.Machine

set_option linter.unusedTactic false
set_option linter.unreachableTactic false
set_option linter.tactic.unusedName false

variable {pq : List Instr}

theorem State.setPiEdges_kept {s : State} (n : Nat) (k : Nat) (h : s.Kept pq) : (State.setPiEdges s n k).Kept pq := by
  unfold State.setPiEdges
  repeat' first
    | with_reducible intro _
    | with_reducible first | assumption
    | dsimp only
    | with_reducible apply kept_mk

theorem State.pulseLatch_kept {s : State} (n : Nat) (period : Nat) (high : Nat) (h : s.Kept pq) : (State.pulseLatch s
    n period high).Kept pq := by
  unfold State.pulseLatch
  repeat' first
    | with_reducible intro _
    | (extract_lets -underBinder +onlyGivenNames x
       first | (first | apply kept_seq (pq := pq) x | apply kept_seq1 (pq := pq) x | apply kept_seq2 (pq := pq) x
                on_goal 1 => subst x
                on_goal 2 => (intro hx; try clear_value x)) | try clear_value x)
    | with_reducible first | assumption | apply State.setF_kept | apply State.free_kept | apply kept_ite
                                  | apply kept1_ite | apply kept2_ite
    | dsimp only
    | with_reducible first | apply kept_fst | apply kept_snd
    | with_reducible apply kept1_of
    | with_reducible apply kept2_of

theorem execPulseEdge_kept (n : Fin 8) (period : BitVec 32) (high : BitVec 32) {s : State} (h : s.Kept pq) : KeptOut
    pq (execPulseEdge n period high s) := by
  unfold execPulseEdge
  repeat' first
    | with_reducible intro _
    | with_reducible first | assumption | apply State.setPiEdges_kept | apply State.setF_kept
                                  | apply State.pulseLatch_kept | apply kept_ite | apply kept1_ite | apply kept2_ite
                                  | apply keptOut_next | apply keptOut_refused | apply keptOut_ite
    | dsimp only
    | with_reducible first | apply kept_fst | apply kept_snd
    | with_reducible apply kept1_of
    | with_reducible apply kept2_of

theorem execPulseTimeout_kept (n : Fin 8) (level : Bool) {s : State} (h : s.Kept pq) : KeptOut pq (execPulseTimeout n
    level s) := by
  unfold execPulseTimeout
  repeat' first
    | with_reducible intro _
    | (extract_lets -underBinder +onlyGivenNames x
       first | (first | apply kept_seq (pq := pq) x | apply kept_seq1 (pq := pq) x | apply kept_seq2 (pq := pq) x
                on_goal 1 => subst x
                on_goal 2 => (intro hx; try clear_value x)) | try clear_value x)
    | with_reducible first | assumption | apply State.setPiEdges_kept | apply State.setF_kept | apply kept_ite
                                  | apply kept1_ite | apply kept2_ite | apply keptOut_next | apply keptOut_refused
                                  | apply keptOut_ite
    | dsimp only
    | with_reducible first | apply kept_fst | apply kept_snd
    | with_reducible apply kept1_of
    | with_reducible apply kept2_of

end Sys2Proof.Machine
end

