-- ==== Sys2Proof/Tests/Slice0.lean ====
section
/-! SUPPORT. Small checks of the model: ill-formed operands are refused, commands do what the manual says on small
states, and for every clause of a statement that has premises a state and operands that meet them. -/

namespace Sys2Proof.Tests

set_option Elab.async false

open Sys2Proof.Machine

/-! ### Small states -/

/-- A unit whose boot is over, cool (THM_STAT.STATE NORMAL), nothing configured. -/
def run : State :=
  { State.reset.setF F.THM_STAT_STATE 0 with boot := { Boot.reset with stage := .run, ticked := true, counting := true, decided := true, recalled := true } }

/-- A unit in a boot stage. -/
def atStage (st : BootStage) : State := { State.reset with boot := { Boot.reset with stage := st } }

/-- Fields of registers take values. -/
def put (s : State) (l : List (Fld × Nat)) : State := l.foldl (fun t p => t.setF p.1 p.2) s

/-- Words of memory take values. -/
def mem (s : State) (l : List (Nat × Nat)) : State := l.foldl (fun t p => t.setM p.1 p.2) s

/-- A paired unit with unit state `k` and its link up. -/
def paired (k : Nat) : State :=
  { put run [(F.PAIR_CFG_MODE, 1), (F.PAIR_STAT_STATE, k)] with pair := { Pair.reset with stage := .up } }

/-- A unit whose engine runs. -/
def eng : State := put run [(F.CE_STAT_STOPPED, 0)]

/-- The same with lane 0 changed. -/
def lane0 (s : State) (f : Lane → Lane) : State := s.setLane 0 f

/-- A unit in RECOVERY. -/
def recovery : State :=
  { put run [(F.BOOT_STAT_RECOVERY, 1)] with boot := { Boot.reset with stage := .recovery } }

/-- The Zone Protocol runs on bus 0 and its queue holds one frame of type `typ`, `len` bytes, from node 5 to all. -/
def zone (typ len : Nat) (d : List Nat) : State :=
  let s := put run [(F.CAN_CTL_Q0OWN 0, 1), (F.CAN_STAT_STATE 0, 3), (F.ZP_CTL_EN0, 1), (F.ZP_NODE_NODE0, 1), (F.ZP_CFG_VERS, 7),
    (F.ZP_CFG_MAXLEN, 64), (F.CAN_Q_OWN0 0 0, 1)]
  let s := (s.wr (qAddr 0 0 0 0) (2 ^ 29 + typ * 2 ^ 21 + 5 * 2 ^ 14 + 127 * 2 ^ 7)).wr (qAddr 0 0 0 4) len
  d.zipIdx.foldl (fun t p => t.wr (qAddr 0 0 0 (16 + 4 * p.2)) p.1) s

/-- The same with node 5 joined at version 2.0. -/
def joined (typ len : Nat) (d : List Nat) : State :=
  put (zone typ len d) [(F.ZP_PT0_STATE 0 5, 2), (F.ZP_PT0_VER 0 5, 3), (F.ZP_PT0_LEN 0 5, 8)]

/-- The state after a command. -/
def after (c : Instr) (s : State) : Option State :=
  match exec c s with
  | .next t => some t
  | _ => none

/-- Fields of registers after a command. -/
def gives (c : Instr) (s : State) (l : List Fld) : Option (List Nat) := (after c s).map (fun t => l.map t.f)

/-- The command is discarded and reported under `a` (SVC_REJADDR). -/
def rejects (c : Instr) (s : State) (a : Nat) : Bool :=
  gives c s [F.SVC_REJADDR, F.SVC_IRQST_REJECT] == some [a, 1]

/-! ### Operands that cannot be sent are refused -/

theorem test_rates_ill_formed : exec (.rateDetectionDone 0 15 0 0) run = .refused .illFormed := rfl

theorem test_frame_ill_formed :
    exec (.frameReceived 0 ⟨false, 5, true, true, false, false, 0, []⟩ 0 0) run = .refused .illFormed := rfl

theorem test_scan_ill_formed : exec (.foxingScan [] 0 0) run = .refused .illFormed := rfl

theorem test_compat_ill_formed : exec (.linkCompat ⟨[]⟩) run = .refused .illFormed := rfl

theorem test_mirror_ill_formed : exec (.linkMirror []) run = .refused .illFormed := rfl

theorem test_spi_write_ill_formed : exec (.spiWrite 0 [] false) run = .refused .illFormed := rfl

theorem test_spi_writeb_ill_formed : exec (.spiWriteb 0 [] false) run = .refused .illFormed := rfl

theorem test_bad_opcode_ill_formed : exec (.spiBadOpcode 0x03 true) run = .refused .illFormed := rfl

theorem test_mgmt_ill_formed : exec (.linkMgmtRequest false 0 2 1 []) run = .refused .illFormed := rfl

theorem test_clear_ill_formed : exec (.counterClear .port 0x40000000 0) run = .refused .illFormed := rfl

theorem test_write_ill_formed : exec (.registerWrite .port 0x40000001 0) run = .refused .illFormed := rfl

/-! ### Arithmetic: worked examples of the manual -/

/-- The PI section of slot 40: 0x0027_66A7, 39.401 %. -/
theorem test_pi_section :
    let r := (⟨1610887614, -1610612736, 0, -1073741824, 0, 0xC3, true, false, 36045, 0, 2621440, 0⟩ : Sect).run 32768 false false
    r.out = 0x002766A7 ∧ r.x1 = 32768 ∧ r.y1 = 0x002766A7 := by decide +kernel

/-- The frozen run k of the current loop. -/
theorem test_frozen_section :
    let r := (⟨707579085, -704643072, 0, -1073741824, 0, 0x145, true, false, 98304, 0, 9863168, 0⟩ : Sect).run 98304 true false
    r.out = 9863168 ∧ r.x1 = 98304 ∧ r.froze = true := by decide +kernel

/-- Run k + 1 of the current loop: 0x0090_4E10. -/
theorem test_unfrozen_section :
    let r := (⟨707579085, -704643072, 0, -1073741824, 0, 0x145, true, false, 98304, 0, 9863168, 0⟩ : Sect).run 78643 true false
    r.out = 0x00904E10 ∧ r.x1 = 78643 ∧ r.froze = false := by decide +kernel

/-- The worked collision: due at PWM clock 14 150, the first edge is 1 133. -/
theorem test_first_edge : firstEdge 14150 = 1133 := by decide

/-! ### Boot and resets -/

theorem test_reset_release : gives .resetRelease State.reset [F.BOOT_STAT_PHASE] = some [1] := by decide +kernel

/-- R75: a failed SFDP read gives mode 6, opcode 0x0B, 8 dummy clocks. -/
theorem test_no_sfdp :
    gives (.flashNegotiationDone ⟨0, 1, 0, none, false⟩ ⟨List.replicate 16 0, []⟩)
      (put (atStage .flash) [(F.BOOT_PREF_NEXT, 0)]) [F.BOOT_STAT_NOSFDP, F.BOOT_FLASH_MODE, F.BOOT_FLASH_OPCODE, F.BOOT_FLASH_DUMMY]
      = some [1, 6, 0x0B, 8] := by decide +kernel

theorem test_pin_reset : gives .pinReset run [F.CRT_RSTCAUSE_POR, F.CRT_RSTCAUSE_PIN] = some [1, 1] := by decide +kernel

theorem test_power_on_reset :
    gives .powerOnReset (put run [(F.CRT_RSTCAUSE_PIN, 1), (F.CRT_FRAMENO, 77)]) [F.CRT_RSTCAUSE_PIN, F.CRT_RSTCAUSE_POR, F.CRT_FRAMENO]
      = some [0, 1, 0] := by decide +kernel

theorem test_boot_ctl_outside_recovery : rejects (.registerWrite .port 0x4001001C 1) run 0x4001001C = true := by decide +kernel

theorem test_hold_expiry :
    gives .shadowHoldExpiry { put run [(F.BOOT_SHADOWCTL_HOLD, 1)] with holdFrames := 2048 } [F.BOOT_SHADOWCTL_HOLD, F.BOOT_SHADOWCTL_HOLDEXP]
      = some [0, 1] := by decide +kernel

/-- R547: COUNT is taken modulo 2^16. -/
theorem test_encoder_wraps :
    gives (.encoderDetent 0 [(false, true), (false, false), (true, false), (true, true)])
      (put run [(F.PNL_CFG_ENCTEST, 1), (F.PNL_ENC_COUNT 0, 0xFFFF)]) [F.PNL_ENC_COUNT 0] = some [0] := by
  decide +kernel

theorem test_encoder_ignored :
    gives (.encoderDetent 0 [(false, true), (false, false), (true, false), (true, true)])
      (put run [(F.PNL_ENC_COUNT 0, 5)]) [F.PNL_ENC_COUNT 0] = some [5] := by decide +kernel

/-! ### Clock and ledger -/

theorem test_second_edge : gives .rtcSecondEdge (put run [(F.ALM_RTC, 41)]) [F.ALM_RTC] = some [42] := by decide +kernel

theorem test_rtc_set : gives (.rtcSet .port 0x2A2A2A2A#32) run [F.ALM_RTC, F.ALM_STAT_RTCSET] = some [0x2A2A2A2A, 1] := by
  decide +kernel

theorem test_counter_clear :
    gives (.counterClear .port 0x40000054 0x1#32) (put run [(⟨0x40000044, 0, 32⟩, 9), (⟨0x40000048, 0, 32⟩, 7)])
      [⟨0x40000044, 0, 32⟩, ⟨0x40000048, 0, 32⟩] = some [0, 7] := by decide +kernel

/-! ### Conversions -/

/-- R107: a voltage at the top of the range converts to the end code, filed as Q16.16. -/
theorem test_top_code :
    (after (.conversionResult 0 ⟨1600000000000, 0, 0⟩)
      { run with adc := { Conv9.reset with reg := (Conv9.reset.reg).set 0 [⟨3, 0, false, 8, 0, 0, false, 0, 0, false⟩] } }).map (fun t => t.latest 3)
      = some (16383 * 65536) := by decide +kernel

theorem test_force_in_warm :
    rejects (.calibrationForce .port 0x2#32) (put run [(F.THM_STAT_STATE, 1), (F.ADC_CALCTL_BGEN, 1)]) F.ADC_CALCTL_PERM.addr = true := by
  decide +kernel

/-! ### Outputs -/

theorem test_trip_cuts :
    gives (.tripRegistered 2 100) (put run [(F.PWM_CTL_EN, 1), (F.CRT_CLKSTAT_LOCK_M, 1), (F.PWM_G_TRIPMAP_MAP 1, 4)])
      [F.PWM_TRIPFLAG_FLAG, F.PWM_G_STAT_CUT 1, F.PWM_G_STAT_CUT 0, F.PWM_G_TRIPCNT 1] = some [4, 1, 0, 1] := by decide +kernel

theorem test_safe_state : gives (.safeStateAssert .pfi) run [F.PWM_STAT_SAFE] = some [1] := by decide +kernel

theorem test_compare_takes_16_bits :
    gives (.compareWrite .port 0 1 0xABCD1234#32) run [F.PWM_G_CMP_WIDTH 0 1] = some [0x1234] := by decide +kernel

/-! ### Engine -/

/-- R240: 1 250 000 counts of the 125 MHz clock are 100 Hz. -/
theorem test_pulse_hertz :
    gives (.pulseEdge 0 1250000#32 625000#32) ((put run [(F.CRT_CLKSTAT_LOCK_M, 1), (F.CE_PI_CFG_MODE 0, 1)]).setPiEdges 0 1)
      [F.CE_PI_VALUE 0] = some [100 * 65536] := by decide +kernel

/-- R240: half of the period high is 50 %. -/
theorem test_pulse_duty :
    gives (.pulseEdge 0 1250000#32 625000#32) ((put run [(F.CRT_CLKSTAT_LOCK_M, 1), (F.CE_PI_CFG_MODE 0, 3)]).setPiEdges 0 1)
      [F.CE_PI_VALUE 0] = some [50 * 65536] := by decide +kernel

theorem test_mode_command_needs_slot : rejects (.modeCommand .port 0x4005#32) run 0x40050020 = true := by decide +kernel

theorem test_capture_needs_channel : rejects (.captureArm .port) run F.CE_CAPCTL_ARM.addr = true := by decide +kernel

theorem test_force_unused_point : rejects (.pointForceSet .port 7) run F.ALM_FORCE_POINT.addr = true := by decide +kernel

/-! ### Buses and zones -/

/-- R382: 500 kbit/s and 2 Mbit/s. -/
theorem test_detected_rates :
    gives (.rateDetectionDone 0 3 2 0) (put run [(F.CAN_CTL_EN 0, 1), (F.CAN_STAT_STATE 0, 1), (F.CAN_CTL_FDOE 0, 1), (F.CAN_ADCFG_DWAIT 0, 5)])
      [⟨0x4007000C, 0, 32⟩, ⟨0x40070010, 0, 32⟩] = some [0x09094401, 0x09091C00] := by decide +kernel

theorem test_recovery_needs_bus_off : rejects (.busOffRecovery 0 .port) run 0x40070020 = true := by decide +kernel

/-- The JOIN of the worked example: versions 1.0 and 1.1, 8 bytes. The common version is 1.1. -/
theorem test_join :
    (after (.zpJoin 0) (zone 0 8 [0x01080003, 0x00001F2A])).map (fun t => (t.ptState 0 5, (t.pn 0 5).vers, (t.pn 0 5).offer.map (·.ver)))
      = some (1, 3, some 0x11) := by decide +kernel

/-! ### Pairs -/

theorem test_selection_takes_over :
    gives .curSelHigh (paired 1) [F.PAIR_STAT_STATE, F.PAIR_STAT_SELIN, F.PAIR_TAKEOVERCNT] = some [2, 1, 1] := by decide +kernel

/-- R453: 4 health frames. -/
theorem test_swap_request :
    (after (.swapRequest .port 1) (paired 0)).map (fun t => t.pair.swapLeft) = some 5 := by decide +kernel

theorem test_swap_needs_active : rejects (.swapRequest .port 1) (paired 1) F.PAIR_SWAP_REQ.addr = true := by decide +kernel

/-! ### Folio, thermal watch, panel -/

theorem test_saved_words_are_read_only :
    gives (.folLiveWrite .port 0 5) run [⟨0x400A0100, 0, 32⟩] = some [0] := by decide +kernel

theorem test_user_counter : gives (.userCounterInc .port 0x1#32) run [F.FOL_LIVE 38] = some [1] := by decide +kernel

/-- R515: the fourth hot sample of the AON comparator leads to HOT. -/
theorem test_fourth_hot_sample :
    gives (.aonComparatorSample true) { run with thm := { run.thm with aonRun := 3 } } [F.THM_STAT_STATE, F.THM_STAT_HOLD] = some [2, 1] := by
  decide +kernel

/-- R538: the fourth equal scan debounces KEY9 and KEY14. -/
theorem test_fourth_equal_scan :
    (after (.keyScanEnd 0x4200) { run with pnl := { run.pnl with raw := 0x4200, runs := List.replicate 64 3 } }).map State.keyMap
      = some 0x4200 := by decide +kernel

theorem test_third_equal_scan :
    (after (.keyScanEnd 0x4200) { run with pnl := { run.pnl with raw := 0x4200, runs := List.replicate 64 2 } }).map State.keyMap
      = some 0 := by decide +kernel

/-! ### Pins (R64, R376, R598) -/

theorem test_pins_in_reset :
    (State.reset.svRdy, State.reset.canStb 0, State.reset.curHb, State.reset.avsHigh) = (false, true, false, none) := by
  decide +kernel

theorem test_transceiver_wakes : ((put run [(F.CAN_STAT_STATE 1, 3)]).canStb 1, run.svRdy) = (false, true) := by decide +kernel

/-! ### Service port -/

theorem test_spi_write_stores :
    (after (.spiWrite 0x30000 [0x11223344#32] false) run).map (fun t => (t.mb 0x30000, t.mw 0x30000)) = some (0x44, 0x11223344) := by
  decide +kernel

theorem test_spi_read_back :
    (after (.spiRead 0x30000 0 false) (mem run [(0x30000, 0x11223344)])).map (fun t => (t.svc.miso, t.svc.status)) = some ([0x11223344#32], 0) := by
  decide +kernel

theorem test_spi_read_unmapped :
    (after (.spiRead 0x300000 0 false) run).map (fun t => (t.svc.status, t.svc.lastErr)) = some (0x02, true) := by decide +kernel

/-! ### The premises of the statements can be met -/

/-- The factory set of a core is within the limits of R124, whatever was fused. -/
theorem factory_set_accepted (k : Nat) :
    setAccepted k ((ftrimOf k).setWidth 16).toNat (((ftrimOf k) >>> 16).setWidth 16).toNat = true := by
  have h := (ftrimOf k).isLt
  have e : (ftrimOf k).toNat / 65536 % 65536 = (ftrimOf k).toNat / 65536 := by omega
  simp [setAccepted, BitVec.toNat_setWidth, Nat.shiftRight_eq_div_pow, e]

/-- A set whose offset lies half the range away is not. -/
theorem far_set_rejected (k g : Nat) : setAccepted k ((ftrimOf k).setWidth 16 + 0x8000#16).toNat g = false := by
  have h := (ftrimOf k).isLt
  have e : (0x8000#16).toNat = 32768 := rfl
  simp only [setAccepted, toS, BitVec.toNat_add, BitVec.toNat_setWidth, Bool.and_eq_false_iff, decide_eq_false_iff_not, e]
  left
  simp only [show (2 : Nat) ^ 16 = 65536 from rfl, show (2 : Nat) ^ (16 - 1) = 32768 from rfl]
  split <;> split <;> omega

def w1 : State := { State.reset with pending := [.aonSecond] }

/-- What `Obligations.StepFollowsTheQueue` assumes can be met. -/
theorem wit_StepFollowsTheQueue :
    (w1.pending = (.aonSecond : Instr) :: ([] : List Instr)) ∧
    (run.pending = []) :=
  by and_intros <;> decide +kernel

def w2 : State := { State.reset with pending := [.resetRelease] }

/-- What `Obligations.StepKeepsStoredForm` assumes can be met. -/
theorem wit_StepKeepsStoredForm_1 :
    w2.wf = true ∧ ∃ t, step w2 = .next t :=
  ⟨by decide +kernel, _, rfl⟩

theorem wit_StepKeepsStoredForm_2 :
    w2.shaped = true ∧ ∃ t, step w2 = .next t :=
  ⟨by decide +kernel, _, rfl⟩


/-- What `Obligations.ExecLeavesQueue` assumes can be met. -/
theorem wit_ExecLeavesQueue_1 :
    ∃ t, exec .resetRelease State.reset = .next t :=
  ⟨_, rfl⟩


/-- What `Obligations.OtherResetsKeepAonBits` assumes can be met. -/
theorem wit_OtherResetsKeepAonBits :
    (run.boot.ticked = true) ∧
    (run.boot.stage ≠ .reset ∧ run.hasReq .port = false) ∧
    (run.wf = true) ∧
    (run.wf = true) ∧
    (run.wf = true ∧ run.boot.ticked = true) ∧
    (run.wf = true ∧ run.boot.stage ≠ .reset ∧ run.hasReq .port = false) ∧
    (run.wf = true ∧
      F.CRT_RSTCAUSE_PIN ∈ [F.CRT_RSTCAUSE_PIN, F.CRT_RSTCAUSE_XTAL, F.CRT_RSTCAUSE_WDOG, F.CRT_RSTCAUSE_SVC, F.CRT_RSTCAUSE_PANEL]) :=
  by and_intros <;> decide +kernel

def w3 : State := put (atStage .pll) [(F.THM_STAT_HOLD, 0)]

def w4 : State := put (atStage .pll) [(F.THM_STAT_HOLD, 1)]

def w5 : State := put (atStage .selfTest) [(F.PAIR_CFG_MODE, 1)]

def w6 : State := atStage .selfTest

def w7 : State := atStage .link

def w8 : State := atStage .calib

/-- What `Obligations.BootStepsFollow` assumes can be met. -/
theorem wit_BootStepsFollow :
    (State.reset.wf = true ∧ State.reset.boot.stage = .reset) ∧
    (w3.wf = true ∧ w3.boot.stage = .pll ∧ w3.on F.THM_STAT_HOLD = false ∧ w3.on F.THM_STAT_LATCH = false) ∧
    (w4.wf = true ∧ w4.boot.stage = .pll ∧ (w4.on F.THM_STAT_HOLD = true ∨ w4.on F.THM_STAT_LATCH = true)) ∧
    (w5.wf = true ∧ w5.boot.stage = .selfTest ∧ w5.f F.PAIR_CFG_MODE = 1) ∧
    (w6.wf = true ∧ w6.boot.stage = .selfTest ∧ w6.f F.PAIR_CFG_MODE ≠ 1) ∧
    (w6.wf = true ∧ w6.boot.stage = .selfTest ∧ ((true : Bool) && (false : Bool)) = false) ∧
    (w7.wf = true ∧ w7.boot.stage = .link) ∧
    (w8.wf = true ∧ (⟨List.replicate 5 ⟨0, 0, []⟩, List.replicate 4 0, [0, 50]⟩ : CalResults).wf = true ∧
      w8.boot.stage = .calib) :=
  by and_intros <;> decide +kernel

def w9 : State := atStage .flash

def w10 : State := { State.reset with boot := { Boot.reset with stage := .slot, sects := [⟨0, 0, 0, 0, 0, 1, 0⟩] } }

def w11 : State :=
  
    { State.reset with boot := { Boot.reset with stage := .slot, sects := [⟨0, 16, 0, 0, 0, 12, 0x81B24DD0⟩, ⟨1, 16, 0, 0, 0, 12, 0⟩] } }

def w12 : State := { State.reset with boot := { Boot.reset with stage := .clear, rest := [1] } }

/-- What `Obligations.FlashAndSectionsAreReadInOrder` assumes can be met. -/
theorem wit_FlashAndSectionsAreReadInOrder :
    (flashTable (⟨0x50444653#32, 1#8, 0#8, some ⟨16, none, none, none, none, false, 0, false, 0⟩, false⟩ : FlashInfo) = some (⟨16, none, none, none, none, false, 0, false, 0⟩ : Bfpt)) ∧
    (w9.wf = true ∧ w9.boot.stage = .flash ∧
      (w9.slotOrder = [] ∨ headerFits (⟨List.replicate 16 0, []⟩ : SlotHeader) = true)) ∧
    (w10.wf = true ∧ w10.boot.stage = .slot ∧
      w10.boot.sects = (⟨0, 0, 0, 0, 0, 1, 0⟩ : SectEntry) :: ([] : List SectEntry) ∧
      ([0#8] : List Byte).length = (⟨0, 0, 0, 0, 0, 1, 0⟩ : SectEntry).length) ∧
    (w11.wf = true ∧ w11.boot.stage = .slot ∧
      w11.boot.sects = (⟨0, 16, 0, 0, 0, 12, 0x81B24DD0⟩ : SectEntry) :: ([⟨1, 16, 0, 0, 0, 12, 0⟩] : List SectEntry) ∧
      ([⟨1, 16, 0, 0, 0, 12, 0⟩] : List SectEntry) ≠ [] ∧ 0x400E0018 < 2 ^ 32 ∧ 1 < 65536 ∧ ((1 = 1 ∧
      ([5] : List Word).length = 1) ∨ (1 = 2 ∧ ([5] : List Word) = List.replicate 1 (0 : Word))) ∧
      ([24, 0, 14, 64, 1, 0, 1, 0, 5, 0, 0, 0] : List Byte) = leBytes 4 0x400E0018 ++ leBytes 1 1 ++ [0] ++ leBytes 2 1 ++ (if 1 = 1 then ([5] : List Word).flatMap (fun w => leBytes 4 w.toNat) else leBytes 4 (0 : Word).toNat) ∧
      ([24, 0, 14, 64, 1, 0, 1, 0, 5, 0, 0, 0] : List Byte).length = (⟨0, 16, 0, 0, 0, 12, 0x81B24DD0⟩ : SectEntry).length ∧
      (w11.applySection false (⟨0, 16, 0, 0, 0, 12, 0x81B24DD0⟩ : SectEntry) ([⟨1, 16, 0, 0, 0, 12, 0⟩] : List SectEntry) ([24, 0, 14, 64, 1, 0, 1, 0, 5, 0, 0, 0] : List Byte)).2 = 0) ∧
    (w12.wf = true ∧ w12.boot.stage = .clear ∧
      (w12.boot.rest = [] ∨ headerFits (⟨List.replicate 16 0, []⟩ : SlotHeader) = true)) :=
  by and_intros <;> decide +kernel

def w13 : State := put (atStage .unit) [(F.PAIR_CFG_MODE, 2)]

def w14 : State := atStage .unit

def w15 : State := put (atStage .unit) [(F.PAIR_CFG_MODE, 1)]

def w16 : State :=
  put (atStage .unit) [(F.PAIR_CFG_MODE, 1), (F.PAIR_MISMATCH_FIELD, 1), (F.PAIR_STAT_PEERSTATE, 0)]

/-- What `Obligations.UnitStateIsDecided` assumes can be met. -/
theorem wit_UnitStateIsDecided :
    (w13.wf = true ∧ w13.boot.stage = .unit ∧ w13.curator = true) ∧
    (w14.wf = true ∧ w14.boot.stage = .unit ∧ w14.curator = false ∧ (w14.paired = false ∨ ((false : Bool) = true ∧
      (w14.f F.PAIR_MISMATCH_FIELD = 0 ∨ w14.f F.PAIR_STAT_PEERSTATE ≠ 0)))) ∧
    (w15.wf = true ∧ w15.boot.stage = .unit ∧ w15.curator = false ∧ w15.paired = true ∧
      (w15.f F.PAIR_MISMATCH_FIELD = 0 ∨ w15.f F.PAIR_STAT_PEERSTATE ≠ 0)) ∧
    (w16.wf = true ∧ w16.boot.stage = .unit ∧ w16.curator = false ∧ w16.paired = true ∧
      w16.f F.PAIR_MISMATCH_FIELD ≠ 0 ∧ w16.f F.PAIR_STAT_PEERSTATE = 0) :=
  by and_intros <;> decide +kernel

def w17 : State := put run [(F.PAIR_CFG_MODE, 2)]

/-- What `Obligations.MasterWritesAreGated` assumes can be met. -/
theorem wit_MasterWritesAreGated :
    ((0x400EFFFC#32).toNat % 4 = 0 ∧ 0x40000000 ≤ (0x400EFFFC#32).toNat ∧ (0x400EFFFC#32).toNat < 0x400F0000 ∧
      State.reset.reaches .port = false) ∧
    ((0x40000000#32).toNat % 4 = 0 ∧ 0x40000000 ≤ (0x40000000#32).toNat ∧ (0x40000000#32).toNat < 0x400F0000 ∧
      w14.reaches .port = true ∧ w14.writeGate (0x40000000#32).toNat = false) ∧
    ((0x40020000#32).toNat % 4 = 0 ∧ 0x40000000 ≤ (0x40020000#32).toNat ∧ (0x40020000#32).toNat < 0x400F0000 ∧
      w17.reaches .port = true ∧ w17.writeGate (0x40020000#32).toNat = true ∧
      w17.heldReg (0x40020000#32).toNat = true) ∧
    (run.wf = true ∧ 3 < 4 ∧ 0xFFFFFFFF < 2 ^ 32) :=
  by and_intros <;> decide +kernel

def w18 : State := eng

/-- What `Obligations.PlainRegistersFollowAccessTypes` assumes can be met. -/
theorem wit_PlainRegistersFollowAccessTypes :
    (run.wf = true ∧ run.admits .port (0x400E0020#32).toNat = true ∧ (0x400E0020#32).toNat % 4 = 0 ∧
      (0x400E0020#32).toNat < 0x400F0000 ∧ blockOf (0x400E0020#32).toNat ∈ [0, 0xB, 0xE] ∧
      counterList (0x400E0020#32).toNat = [] ∧
      findReg (0x400E0020#32).toNat = some ((findReg 0x400E0020).getD ⟨"", 0, [], 0, 0, 0, 0, 0, 0, 0, false⟩) ∧
      ((findReg 0x400E0020).getD ⟨"", 0, [], 0, 0, 0, 0, 0, 0, 0, false⟩).shadowed = false ∧
      ((findReg 0x400E0020).getD ⟨"", 0, [], 0, 0, 0, 0, 0, 0, 0, false⟩).keepsRwl (run.rd (0x400E0020#32).toNat) (0#32).toNat = true) ∧
    (w18.wf = true ∧ w18.admits .port (0x40020004#32).toNat = true ∧ (0x40020004#32).toNat % 4 = 0 ∧
      (0x40020004#32).toNat < 0x400F0000 ∧
      findReg (0x40020004#32).toNat = some ((findReg 0x40020004).getD ⟨"", 0, [], 0, 0, 0, 0, 0, 0, 0, false⟩) ∧
      ((findReg 0x40020004).getD ⟨"", 0, [], 0, 0, 0, 0, 0, 0, 0, false⟩).shadowed = false ∧
      w18.ownerStopped (0x40020004#32).toNat = false ∧
      ((findReg 0x40020004).getD ⟨"", 0, [], 0, 0, 0, 0, 0, 0, 0, false⟩).keepsRwl (w18.rd (0x40020004#32).toNat) (1#32).toNat = false) ∧
    (run.wf = true ∧ run.admits .port (0x40020004#32).toNat = true ∧ (0x40020004#32).toNat % 4 = 0 ∧
      (0x40020004#32).toNat < 0x400F0000 ∧
      findReg (0x40020004#32).toNat = some ((findReg 0x40020004).getD ⟨"", 0, [], 0, 0, 0, 0, 0, 0, 0, false⟩) ∧
      ((findReg 0x40020004).getD ⟨"", 0, [], 0, 0, 0, 0, 0, 0, 0, false⟩).name ∈ ownedNames ∧
      ((findReg 0x40020004).getD ⟨"", 0, [], 0, 0, 0, 0, 0, 0, 0, false⟩).keepsRwl (run.rd (0x40020004#32).toNat) (1#32).toNat = false ∧
      run.wouldBreak (run.wr (0x40020004#32).toNat (((findReg 0x40020004).getD ⟨"", 0, [], 0, 0, 0, 0, 0, 0, 0, false⟩).apply (run.rd (0x40020004#32).toNat) (1#32).toNat (run.ownerStopped (0x40020004#32).toNat))) = false) ∧
    (run.admits .port (0x400EFFFC#32).toNat = true ∧ (0x400EFFFC#32).toNat % 4 = 0 ∧
      (0x400EFFFC#32).toNat < 0x400F0000 ∧ blockOf (0x400EFFFC#32).toNat ∈ [0, 0xB, 0xE] ∧
      findReg (0x400EFFFC#32).toNat = none) :=
  by and_intros <;> decide +kernel

/-- What `Obligations.ShadowsWaitForTheTick` assumes can be met. -/
theorem wit_ShadowsWaitForTheTick :
    run.wf = true ∧ findReg 0x40030408 = some ((findReg 0x40030408).getD ⟨"", 0, [], 0, 0, 0, 0, 0, 0, 0, false⟩) ∧
      ((findReg 0x40030408).getD ⟨"", 0, [], 0, 0, 0, 0, 0, 0, 0, false⟩).shadowed = true ∧ inMem 0x40030408 = false :=
  by decide +kernel

/-- What `Obligations.ShadowedReadsGiveTheWorkingCopy` assumes can be met. -/
theorem wit_ShadowedReadsGiveTheWorkingCopy_1 :
    inMem 0x100018 = true ∧ ∃ m, run.memAcc 0x100018 = .shadowed m :=
  ⟨by decide, _, rfl⟩

theorem wit_ShadowedReadsGiveTheWorkingCopy :
    inMem 0x40030400 = false ∧ (findReg 0x40030400).map RegRow.shadowed = some true :=
  by decide +kernel

/-- What `Obligations.BootCtlOutsideRecoveryIsDiscarded` assumes can be met. -/
theorem wit_BootCtlOutsideRecoveryIsDiscarded :
    run.reaches .port = true ∧ run.boot.stage ≠ .recovery ∧ bitsOf (16#32).toNat 5 ≠ [] :=
  by decide +kernel

/-- What `Obligations.MemoryIsLittleEndian` assumes can be met. -/
theorem wit_MemoryIsLittleEndian :
    run.wf = true ∧ 0xFFFFFFFF < 2 ^ 32 :=
  by decide +kernel

/-- What `Obligations.CountersSaturateAndClear` assumes can be met. -/
theorem wit_CountersSaturateAndClear :
    (run.wf = true ∧ (⟨0, 31, 1⟩ : Fld).lo + (⟨0, 31, 1⟩ : Fld).width ≤ 32) ∧
    (run.wf = true ∧ run.admits .port (0x400B0038#32).toNat = true ∧ counterList (0x400B0038#32).toNat ≠ []) :=
  by and_intros <;> decide +kernel

def w19 : State := recovery

def w20 : State := { recovery with boot := { recovery.boot with prog := some 1 } }

/-- What `Obligations.BootChoicesAct` assumes can be met. -/
theorem wit_BootChoicesAct :
    (w19.wf = true ∧ w19.admits .port 0x4001001C = true ∧ w19.boot.stage = .recovery ∧ w19.boot.prog = none) ∧
    (w19.wf = true ∧ w19.admits .port 0x4001001C = true ∧ w19.boot.stage = .recovery ∧ w19.boot.prog = none) ∧
    (w19.wf = true ∧ w19.admits .port 0x4001001C = true ∧ w19.boot.stage = .recovery ∧ w19.boot.prog = none) ∧
    (w19.wf = true ∧ w19.admits .port 0x4001001C = true ∧ w19.boot.stage = .recovery ∧ w19.boot.prog = none) ∧
    (w19.wf = true ∧ w19.admits .port 0x4001001C = true ∧ w19.boot.stage = .recovery ∧ w19.boot.prog = none) ∧
    (w20.admits .port 0x4001001C = true ∧ w20.boot.stage = .recovery ∧ w20.boot.prog.isSome = true) ∧
    (w20.wf = true ∧ w20.boot.prog.isSome = true) :=
  by and_intros <;> decide +kernel

def w21 : State := put run [(F.PNL_CFG_ENCTEST, 1)]

def w22 : State := run.setPnl (fun y => { y with encs := [⟨false, true, false, none⟩, .reset] })

def w23 : State := put recovery [(F.BOOT_RECSEL_POS, 2)]

/-- What `Obligations.EncodersCountAndSelect` assumes can be met. -/
theorem wit_EncodersCountAndSelect :
    (w21.wf = true ∧ w21.pnl.encs.length = 2 ∧ w21.encLive = true ∧ (w21.recovery = false ∨ (1 : Fin 2) = 1) ∧
      (w21.enc (1 : Fin 2)).a = true ∧ (w21.enc (1 : Fin 2)).b = true ∧ (w21.enc (1 : Fin 2)).steps = some 0) ∧
    (w21.wf = true ∧ w21.pnl.encs.length = 2 ∧ w21.encLive = true ∧ (w21.recovery = false ∨ (1 : Fin 2) = 1) ∧
      (w21.enc (1 : Fin 2)).a = true ∧ (w21.enc (1 : Fin 2)).b = true ∧ (w21.enc (1 : Fin 2)).steps = some 0) ∧
    (w21.pnl.encs.length = 2 ∧ w21.encLive = true ∧ (w21.enc (1 : Fin 2)).a = true ∧
      (w21.enc (1 : Fin 2)).b = true ∧ (w21.enc (1 : Fin 2)).steps = some 0) ∧
    (w19.wf = true ∧ w19.pnl.encs.length = 2 ∧ w19.encLive = true ∧ (w19.enc (0 : Fin 2)).steps = some (0 : Int)) ∧
    (w22.wf = true ∧ w22.pnl.encs.length = 2 ∧ ((w22.encLive = true ∧ (w22.enc (0 : Fin 2)).steps = none ∧
      (true, true) ∉ ([(false, false)] : List (Bool × Bool))) ∨ w22.encLive = false)) ∧
    (w21.wf = true ∧ w21.pnl.encs.length = 2 ∧ w21.encLive = true ∧ (w21.recovery = false ∨ (0 : Fin 2) = 1) ∧
      (w21.enc (0 : Fin 2)).sw = false) ∧
    (run.wf = true ∧ run.pnl.encs.length = 2 ∧
      (run.encLive = false ∨ (false : Bool) = false ∨ (run.enc (0 : Fin 2)).sw = true)) ∧
    (w19.wf = true ∧ w19.pnl.encs.length = 2 ∧ w19.recovery = true ∧ (w19.enc 0).a = true ∧ (w19.enc 0).b = true ∧
      (w19.enc 0).steps = some 0) ∧
    (w19.wf = true ∧ w19.pnl.encs.length = 2 ∧ w19.recovery = true ∧ (w19.enc 0).a = true ∧ (w19.enc 0).b = true ∧
      (w19.enc 0).steps = some 0) ∧
    (w19.wf = true ∧ w19.pnl.encs.length = 2 ∧ w19.recovery = true ∧ (w19.enc 0).sw = false ∧ w19.boot.prog = none ∧
      w19.f F.BOOT_RECSEL_POS < 2) ∧
    (w23.wf = true ∧ w23.pnl.encs.length = 2 ∧ w23.recovery = true ∧ (w23.enc 0).sw = false ∧
      (w23.boot.prog.isSome = true ∨ 2 ≤ w23.f F.BOOT_RECSEL_POS)) :=
  by and_intros <;> decide +kernel

def w24 : State := atStage .slot

/-- What `Obligations.LockLossAndRelock` assumes can be met. -/
theorem wit_LockLossAndRelock :
    (run.wf = true ∧ run.boot.stage = .run) ∧
    (run.wf = true ∧ run.boot.stage = .run) ∧
    (w24.wf = true ∧ w24.boot.stage ∉ [.reset, .pll, .run]) ∧
    (run.wf = true ∧ run.portLive = true ∧ run.on F.CRT_CLKSTAT_LOCK_L = false) :=
  by and_intros <;> decide +kernel

/-- What `Obligations.TickFollowsItsOrder` assumes can be met. -/
theorem wit_TickFollowsItsOrder :
    (w8.boot.counting = false) ∧
    (run.boot.counting = true ∧ run.curator = false) ∧
    (w17.wf = true ∧ w17.boot.counting = true ∧ w17.curator = true ∧
      (w17.shadow = [] ∨ w17.on F.BOOT_SHADOWCTL_HOLD = true)) ∧
    (run.wf = true ∧ run.boot.ticked = true) ∧
    (State.reset.boot.ticked = false) :=
  by and_intros <;> decide +kernel

def w25 : State := { put run [(F.BOOT_SHADOWCTL_HOLD, 1)] with holdFrames := 2048 }

/-- What `Obligations.HoldIsWrittenAndExpires` assumes can be met. -/
theorem wit_HoldIsWrittenAndExpires :
    (run.wf = true ∧ run.admits .port F.BOOT_SHADOWCTL_HOLD.addr = true) ∧
    (w25.wf = true ∧ w25.on F.BOOT_SHADOWCTL_HOLD = true ∧ 2048 ≤ w25.holdFrames) :=
  by and_intros <;> decide +kernel

def w26 : State := { put run [(F.ALM_CTL_RUN, 1)] with alm := { Alm.reset with due := true, armed := true } }

def w27 : State := { run with alm := { Alm.reset with running := true } }

def w28 : State := mem run [(0x20000, 1)]

def w29 : State := mem run [(0x20004, 0x8000)]

def w30 : State := mem run [(0x26800, 0x80000000)]

/-- What `Obligations.SecondEdgeAndEvaluation` assumes can be met. -/
theorem wit_SecondEdgeAndEvaluation :
    (run.curator = false) ∧
    (run.wf = true) ∧
    (w26.alm.due = true ∧ w26.alm.armed = true ∧ w26.alm.running = false ∧ w26.active = true ∧ w26.hot = false ∧
      w26.on F.ALM_CTL_RUN = true) ∧
    (w27.alm.running = true ∧ w27.alm.finished = false) ∧
    (bit (w28.zw 0 0) 0 = true) ∧
    (0 < 4 ∧ 0 < 4) ∧
    (0 < 4 ∧ 0 < 4 ∧ (⟨0, 0, 0, []⟩ : LoopModes).want < 16 ∧ w29.zslot 0 0 = some 0) ∧
    (0 < 4 ∧ ([0, 0, 0, 0] : List Nat).length = 4) ∧
    (0 < 256 ∧ bit (w30.mw (ruleAddr 0)) 31 = true ∧ (w30.alm.evals + 1) % 3600 ≠ 0) :=
  by and_intros <;> decide +kernel

def w31 : State :=
  { put run [(F.ADC_CTL_CORE_EN, 0x101), (F.ADC_CALCTL_BGEN, 1)] with adc := { Conv9.reset with ready := true } }

def w32 : State :=
  { put run [(F.ADC_CTL_CORE_EN, 0x101),
    (F.ADC_CALCTL_BGEN, 1)] with adc := { Conv9.reset with ready := true, postponed := true } }

def w33 : State :=
  { put run [(F.ADC_CTL_CORE_EN, 0x101), (F.ADC_CALCTL_BGEN, 1),
    (F.THM_STAT_STATE, 1)] with adc := { Conv9.reset with ready := true } }

def w34 : State := put run [(F.ADC_CALSTAT_PHASE, 1)]

def w35 : State := put run [(F.ADC_CALSTAT_PHASE, 3)]

/-- What `Obligations.CalibrationCycleStartsAndIsJudged` assumes can be met. -/
theorem wit_CalibrationCycleStartsAndIsJudged_4 :
    w34.wf = true ∧ w34.adc.wtrim.length = 9 ∧ w34.f F.ADC_CALSTAT_PHASE = 1 ∧
      setAccepted 8 ((ftrimOf 8).setWidth 16).toNat (((ftrimOf 8) >>> 16).setWidth 16).toNat = true :=
  ⟨by decide +kernel, by decide +kernel, by decide +kernel, factory_set_accepted 8⟩

theorem wit_CalibrationCycleStartsAndIsJudged_5 :
    w34.wf = true ∧ w34.f F.ADC_CALSTAT_PHASE = 1 ∧
      setAccepted 8 ((ftrimOf 8).setWidth 16 + 0x8000#16).toNat (0#16).toNat = false :=
  ⟨by decide +kernel, by decide +kernel, far_set_rejected 8 _⟩

theorem wit_CalibrationCycleStartsAndIsJudged_6 :
    w35.wf = true ∧ w35.adc.wtrim.length = 9 ∧ w35.f F.ADC_CALSTAT_PHASE = 3 ∧
      setAccepted (w35.f F.ADC_CALSTAT_CORE) ((ftrimOf 0).setWidth 16).toNat (((ftrimOf 0) >>> 16).setWidth 16).toNat = true :=
  ⟨by decide +kernel, by decide +kernel, by decide +kernel, factory_set_accepted 0⟩

theorem wit_CalibrationCycleStartsAndIsJudged_7 :
    w35.wf = true ∧ w35.f F.ADC_CALSTAT_PHASE = 3 ∧
      setAccepted (w35.f F.ADC_CALSTAT_CORE) ((ftrimOf 0).setWidth 16 + 0x8000#16).toNat (0#16).toNat = false :=
  ⟨by decide +kernel, by decide +kernel, far_set_rejected 0 _⟩

theorem wit_CalibrationCycleStartsAndIsJudged :
    (w31.wf = true ∧ 0 < 4 ∧ w31.nextCore = some 0 ∧ w31.adc.ready = true ∧ w31.coreEn 8 = true ∧
      w31.f F.ADC_CALSTAT_PHASE = 0 ∧ w31.on F.ADC_CALCTL_PERM = false ∧ w31.calHeld = false ∧
      w31.on F.ADC_CALCTL_BGEN = true ∧ w31.adc.timer = 0 ∧ w31.adc.postponed = false) ∧
    (w32.wf = true ∧ 0 < 4 ∧ w32.nextCore = some 0 ∧ w32.adc.ready = true ∧ w32.coreEn 8 = true ∧
      w32.f F.ADC_CALSTAT_PHASE = 0 ∧ w32.on F.ADC_CALCTL_PERM = false ∧ w32.calHeld = false ∧
      w32.adc.postponed = true ∧ w32.frame % 64 = 0) ∧
    (w33.on F.ADC_CALCTL_BGEN = true ∧ w33.adc.timer = 0 ∧ w33.f F.ADC_CALSTAT_PHASE = 0 ∧ w33.adc.ready = true ∧
      w33.adc.postponed = false ∧ w33.calHeld = true) :=
  by and_intros <;> decide +kernel

def w36 : State :=
  { put run [(F.ADC_CALSTAT_PHASE, 2), (F.ADC_CTL_CORE_EN, 0x101)] with adc := { Conv9.reset with ready := true } }

def w37 : State := put run [(F.ADC_CALSTAT_PHASE, 2)]

def w38 : State :=
  { put run [(F.ADC_CALSTAT_PHASE, 4), (F.ADC_CTL_CORE_EN, 0x101)] with adc := { Conv9.reset with ready := true } }

def w39 : State := put run [(F.ADC_CALSTAT_PHASE, 4)]

/-- What `Obligations.HandoffAndHandback` assumes can be met. -/
theorem wit_HandoffAndHandback :
    (w36.wf = true ∧ w36.f F.ADC_CALSTAT_PHASE = 2 ∧ w36.eligible (w36.f F.ADC_CALSTAT_CORE) (0#16).toNat = true) ∧
    (w37.wf = true ∧ w37.f F.ADC_CALSTAT_PHASE = 2 ∧ w37.on F.ADC_CALCTL_PERM = false) ∧
    (w38.wf = true ∧ w38.f F.ADC_CALSTAT_PHASE = 4 ∧ w38.eligible (w38.f F.ADC_CALSTAT_CORE) (0#16).toNat = true) ∧
    (w39.wf = true ∧ w39.f F.ADC_CALSTAT_PHASE = 4) :=
  by and_intros <;> decide +kernel

def w40 : State := put run [(F.ADC_CALSTAT_PHASE, 5), (F.ADC_CALCTL_PERM, 1), (F.ADC_CALCTL_BGEN, 1)]

def w41 : State := put run [(F.ADC_CALCTL_BGEN, 0)]

def w42 : State := put run [(F.ADC_CALSTAT_PHASE, 5), (F.ADC_CALCTL_PERM, 1)]

/-- What `Obligations.CalibrationCommandsAct` assumes can be met. -/
theorem wit_CalibrationCommandsAct :
    (w31.wf = true ∧ w31.admits .port F.ADC_CALCTL_PERM.addr = true ∧ 0 < 4 ∧ w31.nextCore = some 0 ∧
      w31.adc.ready = true ∧ w31.coreEn 8 = true ∧ w31.f F.ADC_CALSTAT_PHASE = 0 ∧ w31.sheds = false ∧
      w31.on F.ADC_CALCTL_BGEN = true ∧ w31.on F.ADC_CALCTL_PERM = false ∧ bit (1#32).toNat 3 = false) ∧
    (w40.wf = true ∧ w40.admits .port F.ADC_CALCTL_PERM.addr = true ∧ w40.f F.ADC_CALSTAT_PHASE = 5 ∧
      w40.sheds = false ∧ w40.on F.ADC_CALCTL_BGEN = true ∧ w40.on F.ADC_CALCTL_PERM = true ∧
      bit (9#32).toNat 3 = true ∧ getBits (9#32).toNat 4 2 = w40.f F.ADC_CALCTL_PCORE) ∧
    (w41.admits .port F.ADC_CALCTL_PERM.addr = true ∧ ((w41.f F.ADC_CALSTAT_PHASE ≠ 0 ∧
      w41.f F.ADC_CALSTAT_PHASE ≠ 5) ∨ w41.sheds = true ∨ w41.on F.ADC_CALCTL_BGEN = false)) ∧
    (run.wf = true ∧ run.admits .port F.ADC_CALCTL_PERM.addr = true ∧ run.on F.ADC_CALCTL_PERM = false ∧
      bit (0x30#32).toNat 2 = false) ∧
    (w42.wf = true ∧ w42.admits .port F.ADC_CALCTL_PERM.addr = true ∧ w42.on F.ADC_CALCTL_PERM = true ∧
      bit (0#32).toNat 2 = false ∧ getBits (0#32).toNat 4 2 = w42.f F.ADC_CALCTL_PCORE) :=
  by and_intros <;> decide +kernel

def w43 : State :=
  { put run [(F.ADC_CTL_CORE_EN, 1), (F.SEQ_CTL_EN, 1), (F.SEQ_SCAN_MASK 0, 1),
    (F.SEQ_REGCFG_MODE, 1)] with adc := { Conv9.reset with ready := true } }

def w44 : State :=
  { put run [(F.ADC_CTL_CORE_EN, 1), (F.SEQ_CTL_EN, 1), (F.SEQ_SCAN_MASK 0, 1),
    (F.SEQ_REGCFG_MODE, 2)] with adc := { Conv9.reset with ready := true } }

def w45 : State :=
  { put run [(F.ADC_CTL_CORE_EN, 1), (F.SEQ_CTL_EN, 1), (F.SEQ_SCAN_MASK 0, 1),
    (F.SEQ_REGCFG_MODE, 3)] with adc := { Conv9.reset with ready := true } }

def w46 : State :=
  { put run [(F.ADC_CTL_CORE_EN, 1), (F.SEQ_CTL_EN, 1), (F.SEQ_SCAN_MASK 0, 1), (F.SEQ_STAT_REGRUN, 1),
    (F.SEQ_REGCFG_MODE, 1)] with adc := { Conv9.reset with ready := true } }

def w47 : State :=
  { put run [(F.ADC_CTL_CORE_EN, 1), (F.SEQ_CTL_EN, 1), (F.SEQ_SCAN_MASK 0, 1), (F.SEQ_STAT_REGRUN, 1),
    (F.SEQ_REGCFG_MODE, 1)] with adc := { Conv9.reset with ready := true, enDue := true } }

def w48 : State :=
  { put run [(F.ADC_CTL_CORE_EN, 1), (F.SEQ_CTL_EN, 1), (F.SEQ_SCAN_MASK 0, 1), (F.SEQ_STAT_REGRUN, 1),
    (F.SEQ_REGCFG_MODE, 2)] with adc := { Conv9.reset with ready := true } }

def w49 : State :=
  { put run [(F.ADC_CTL_CORE_EN, 1), (F.SEQ_CTL_EN, 1), (F.SEQ_SCAN_MASK 0, 1), (F.SEQ_STAT_REGRUN, 1),
    (F.SEQ_REGCFG_MODE, 3)] with adc := { Conv9.reset with ready := true } }

def w50 : State := { run with adc := { Conv9.reset with regDue := true } }

def w51 : State := { run with adc := { Conv9.reset with passOn := true } }

/-- What `Obligations.RegularPassIsTriggeredAndRuns` assumes can be met. -/
theorem wit_RegularPassIsTriggeredAndRuns :
    (w43.wf = true ∧ w43.regularReady = true ∧ w43.on F.SEQ_STAT_REGRUN = false ∧ w43.f F.SEQ_REGCFG_MODE = 1) ∧
    (w44.wf = true ∧ w44.regularReady = true ∧ w44.on F.SEQ_STAT_REGRUN = false ∧ w44.f F.SEQ_REGCFG_MODE = 2 ∧
      w44.frame % max (w44.f F.SEQ_REGCFG_DIV) 1 = 0) ∧
    (w45.wf = true ∧ w45.regularReady = true ∧ w45.on F.SEQ_STAT_REGRUN = false ∧ w45.f F.SEQ_REGCFG_MODE = 3 ∧
      w45.admits .port F.SEQ_REGSTART_GO.addr = true ∧ bit (1#32).toNat 0 = true) ∧
    (w46.wf = true ∧ w46.regularReady = true ∧ w46.on F.SEQ_STAT_REGRUN = true ∧ w46.f F.SEQ_REGCFG_MODE = 1 ∧
      w46.adc.enDue = false) ∧
    (w47.wf = true ∧ w47.regularReady = true ∧ w47.on F.SEQ_STAT_REGRUN = true ∧ w47.f F.SEQ_REGCFG_MODE = 1 ∧
      w47.adc.enDue = true) ∧
    (w48.wf = true ∧ w48.regularReady = true ∧ w48.on F.SEQ_STAT_REGRUN = true ∧ w48.f F.SEQ_REGCFG_MODE = 2 ∧
      w48.frame % max (w48.f F.SEQ_REGCFG_DIV) 1 = 0) ∧
    (w49.wf = true ∧ w49.regularReady = true ∧ w49.on F.SEQ_STAT_REGRUN = true ∧ w49.f F.SEQ_REGCFG_MODE = 3 ∧
      w49.admits .port F.SEQ_REGSTART_GO.addr = true ∧ bit (1#32).toNat 0 = true) ∧
    (w50.wf = true ∧ w50.adc.regDue = true ∧ w50.adc.reg = List.replicate 8 [] ∧
      (w50.adc.regEdge = none ∨ w50.adc.regEdge = some ((0#16).toNat : Int))) ∧
    (w51.wf = true ∧ w51.adc.passOn = true) :=
  by and_intros <;> decide +kernel

def w52 : State :=
  { put run [(F.SEQ_CTL_EN, 1), (F.SEQ_IS_CFG_SRC 7, 2),
    (F.ADC_CTL_CORE_EN, 0x1FF)] with adc := { Conv9.reset with ready := true, seqs := List.replicate 8 ⟨0, 0, 0, 0, false, [some 5]⟩ } }

def w53 : State :=
  { put run [(F.SEQ_CTL_EN, 1), (F.SEQ_IS_CFG_SRC 0, 7),
    (F.ADC_CTL_CORE_EN, 0x1FF)] with adc := { Conv9.reset with ready := true, seqs := List.replicate 8 ⟨1, 0, 0, 0, false, [some 5]⟩ } }

def w54 : State :=
  { put run [(F.SEQ_CTL_EN, 1), (F.SEQ_IS_CFG_SRC 7, 1),
    (F.ADC_CTL_CORE_EN, 0x1FF)] with adc := { Conv9.reset with ready := true } }

def w55 : State := put run [(F.SEQ_IS_CFG_SRC 7, 1), (F.SEQ_IS_CFG_DELAY 7, 1)]

def w56 : State := { run with adc := { Conv9.reset with seqs := List.replicate 8 ⟨1, 5, 0, 0, false, []⟩ } }

/-- What `Obligations.InjectedSequencesAreTriggeredAndStart` assumes can be met. -/
theorem wit_InjectedSequencesAreTriggeredAndStart :
    (w52.wf = true ∧ w52.adc.seqs.length = 8 ∧ w52.trigIgnored (7 : Fin 8) = false ∧
      takeReq (w52.iseq (7 : Fin 8)).req (5#16).toNat = some ([] : List (Option Int)) ∧
      ((w52.iseq (7 : Fin 8)).st = 0 ∨ ((w52.iseq (7 : Fin 8)).st = 2 ∧
      25 * (w52.iseq (7 : Fin 8)).lastEdge < 4 * ((5#16).toNat : Int)))) ∧
    (w53.wf = true ∧ w53.adc.seqs.length = 8 ∧ w53.trigIgnored (0 : Fin 8) = false ∧
      takeReq (w53.iseq (0 : Fin 8)).req (5#16).toNat = some ([] : List (Option Int)) ∧
      ((w53.iseq (0 : Fin 8)).st = 1 ∨ ((w53.iseq (0 : Fin 8)).st = 2 ∧
      4 * ((5#16).toNat : Int) ≤ 25 * (w53.iseq (0 : Fin 8)).lastEdge))) ∧
    (takeReq (run.iseq (7 : Fin 8)).req (0#16).toNat = none) ∧
    (w54.wf = true ∧ w54.adc.seqs.length = 8 ∧ w54.admits .port F.SEQ_ISTRIG_GO.addr = true ∧
      w54.f (F.SEQ_IS_CFG_SRC (7 : Fin 8)) = 1 ∧ w54.f (F.SEQ_IS_CFG_DELAY (7 : Fin 8)) = 0 ∧
      w54.trigIgnored (7 : Fin 8) = false ∧ (w54.iseq (7 : Fin 8)).st = 0) ∧
    (w55.wf = true ∧ w55.adc.seqs.length = 8 ∧ w55.admits .port F.SEQ_ISTRIG_GO.addr = true ∧
      w55.f (F.SEQ_IS_CFG_SRC (7 : Fin 8)) = 1 ∧ w55.f (F.SEQ_IS_CFG_DELAY (7 : Fin 8)) ≠ 0) ∧
    (run.admits .port F.SEQ_ISTRIG_GO.addr = true ∧
      (∀ n, n < 8 → bit (0#32).toNat n = true → run.f (F.SEQ_IS_CFG_SRC n) ≠ 1)) ∧
    (w56.wf = true ∧ w56.adc.seqs.length = 8 ∧ (w56.iseq (0 : Fin 8)).st = 1 ∧
      (w56.iseq (0 : Fin 8)).edge ≤ ((5#16).toNat : Int) ∧ w56.coresFree (0 : Fin 8) (5#16).toNat = true) :=
  by and_intros <;> decide +kernel

def w57 : State :=
  
    { run with adc := { Conv9.reset with reg := [⟨0, 0, false, 8, 0, 0, false, 1, 0, false⟩] :: List.replicate 7 [] } }

/-- What `Obligations.ResultsAreFiled` assumes can be met. -/
theorem wit_ResultsAreFiled :
    (w57.wf = true ∧ w57.adc.inj.length = 8 ∧ w57.adc.reg.length = 8 ∧
      takeConv (w57.adc.inj.getD (0 : Fin 8).val []) (w57.adc.reg.getD (0 : Fin 8).val []) = some ((⟨0, 0, false, 8, 0, 0, false, 1, 0, false⟩ : Conv), ([] : List Conv), ([] : List Conv)) ∧
      (⟨0, 0, false, 8, 0, 0, false, 1, 0, false⟩ : Conv).input < 64 ∧
      (⟨0, 0, false, 8, 0, 0, false, 1, 0, false⟩ : Conv).entry < 32) ∧
    (w57.wf = true ∧
      takeConv (w57.adc.inj.getD (0 : Fin 8).val []) (w57.adc.reg.getD (0 : Fin 8).val []) = some ((⟨0, 0, false, 8, 0, 0, false, 1, 0, false⟩ : Conv), ([] : List Conv), ([] : List Conv)) ∧
      (⟨0, 0, false, 8, 0, 0, false, 1, 0, false⟩ : Conv).seq = 8 ∧
      (∀ r, r < 16 → w57.on (F.SEQ_RING_CFG_EN r) = false)) ∧
    (run.adc.inj.getD (7 : Fin 8).val [] = [] ∧ run.adc.reg.getD (7 : Fin 8).val [] = []) :=
  by and_intros <;> decide +kernel

def w58 : State := put run [(F.PWM_G_COAST_EN 5, 1)]

def w59 : State := put run [(F.PWM_CTL_EN, 1), (F.CE_STAT_STOPPED, 1)]

/-- What `Obligations.DriveGroupWritesAct` assumes can be met. -/
theorem wit_DriveGroupWritesAct :
    (run.wf = true ∧ run.admits .port (groupAddr (5 : Fin 6) + 0x10 + 4 * (2 : Fin 3).val) = true) ∧
    (run.wf = true ∧ run.pwm.groups.length = 6 ∧ run.admits .port (groupAddr (5 : Fin 6) + 0x0C) = true) ∧
    (run.wf = true ∧ run.pwm.groups.length = 6 ∧ run.admits .port (groupAddr (5 : Fin 6) + 0x2C) = true) ∧
    (run.wf = true ∧ run.pwm.groups.length = 6 ∧ run.admits .port (groupAddr (5 : Fin 6) + 0x2C) = true) ∧
    (w58.wf = true ∧ w58.pwm.groups.length = 6 ∧ w58.admits .port (groupAddr (5 : Fin 6) + 0x34) = true ∧
      w58.on (F.PWM_G_COAST_EN (5 : Fin 6)) = true) ∧
    (run.wf = true ∧ run.pwm.groups.length = 6 ∧ run.admits .port (groupAddr (5 : Fin 6) + 0x34) = true ∧
      run.on (F.PWM_G_COAST_EN (5 : Fin 6)) = false) ∧
    (w59.wf = true ∧ w59.pwm.groups.length = 6 ∧ w59.admits .port (groupAddr (0 : Fin 6)) = true ∧
      (w59.plainWrite (groupAddr (0 : Fin 6)) (BitVec.ofNat 32 (2 ^ (F.PWM_G_CFG_EN 0).lo) : Word).toNat).2 = true) ∧
    (run.wf = true ∧ run.pwm.gps.length = 32 ∧ run.admits .port (F.PWM_GP_CFG_RATE (31 : Fin 32)).addr = true ∧
      (run.plainWrite (F.PWM_GP_CFG_RATE (31 : Fin 32)).addr (0#32).toNat).2 = true) ∧
    (run.wf = true ∧ run.pwm.groups.length = 6) :=
  by and_intros <;> decide +kernel

def w60 : State := put run [(F.PWM_CTL_EN, 1)]

def w61 : State := put run [(F.PWM_G_CFG_LOAD 5, 1), (F.PWM_CTL_EN, 1)]

def w62 : State := run.setDrv 5 (fun x => { x with peakWait := some [1, 2, 65535] })

def w63 : State := put run [(F.PWM_GP_CFG_EN 31, 1), (F.PWM_CTL_EN, 1)]

/-- What `Obligations.CarrierEventsLoad` assumes can be met. -/
theorem wit_CarrierEventsLoad :
    (w60.wf = true ∧ w60.pwm.groups.length = 6 ∧ w60.adc.seqs.length = 8 ∧ (w60.grp (5 : Fin 6)).ph.length = 3 ∧
      w60.pwmOn = true) ∧
    (w61.wf = true ∧ w61.adc.seqs.length = 8 ∧ w61.pwmOn = true) ∧
    (w62.wf = true ∧ w62.ce.drives.length = 6 ∧ (w62.drv (5 : Fin 6)).peakWait = some ([1, 2, 65535] : List Nat)) ∧
    (w63.wf = true ∧ w63.pwm.gps.length = 32 ∧ w63.pwmOn = true) :=
  by and_intros <;> decide +kernel

def w64 : State := { run with boot := { run.boot with counting := false } }

def w65 : State := { run with safe := ⟨[.hot], true, 0⟩ }

/-- What `Obligations.TripsAndSafeStateForceOutputs` assumes can be met. -/
theorem wit_TripsAndSafeStateForceOutputs :
    (w60.wf = true ∧ w60.pwm.groups.length = 6 ∧ w60.adc.seqs.length = 8 ∧ w60.portLive = true ∧
      w60.halted = false ∧ w60.pwmOn = true) ∧
    (w64.wf = true ∧ w64.portLive = true ∧ w64.halted = false ∧ w64.plantHeld = false ∧ w64.boot.counting = false) ∧
    (run.wf = true ∧ run.pwm.groups.length = 6 ∧ run.pwm.gps.length = 32 ∧ run.boot.stage ≠ .reset ∧
      run.safe.srcs = [] ∧ run.plantHeld = false) ∧
    (w65.wf = true ∧ w65.boot.stage ≠ .reset ∧ w65.safe.srcs ≠ [] ∧ (.pfi : SafeSource) ∉ w65.safe.srcs ∧
      w65.plantHeld = false) ∧
    (w17.wf = true ∧ w17.boot.stage ≠ .reset ∧ (.hot : SafeSource) ∉ w17.safe.srcs ∧ w17.plantHeld = true) ∧
    ((.hot : SafeSource) ∈ w65.safe.srcs) ∧
    (w65.wf = true ∧ w65.sourceStands (.hot : SafeSource) = false ∧ w65.plantHeld = false) ∧
    (run.safe.srcs = []) ∧
    (w65.safe.srcs ≠ []) :=
  by and_intros <;> decide +kernel

def w66 : State := (put run [(F.PWM_CTL_EN, 1)]).setGrp 5 (fun x => { x with live := true })

def w67 : State :=
  (put run [(F.PWM_GP_CFG_EN 31, 1), (F.PWM_CTL_EN, 1)]).setGpc 31 (fun x => { x with live := true })

/-- What `Obligations.DeadTimeIsKept` assumes can be met. -/
theorem wit_DeadTimeIsKept_1 :
    State.reset.neverBoth = true ∧ ∃ t, exec .resetRelease State.reset = .next t :=
  ⟨by decide +kernel, _, rfl⟩

theorem wit_DeadTimeIsKept_2 :
    w2.neverBoth = true ∧ ∃ t, step w2 = .next t :=
  ⟨by decide +kernel, _, rfl⟩

theorem wit_DeadTimeIsKept :
    (w66.wf = true ∧ w66.pwm.groups.length = 6 ∧ w66.pwmOn = true ∧ (w66.grp (5 : Fin 6)).live = true ∧
      w66.on (F.PWM_G_STAT_CUT (5 : Fin 6)) = false ∧
      (w66.grp (5 : Fin 6)).ph[(2 : Fin 3).val]? = some (Phase.reset : Phase) ∧ ¬((Phase.reset : Phase).hi = true ∧
      (Phase.reset : Phase).lo = true)) ∧
    (w60.pwmOn = true ∧ ((w60.grp (0 : Fin 6)).live = false ∨ w60.on (F.PWM_G_STAT_CUT (0 : Fin 6)) = true)) ∧
    (w67.pwm.gps.length = 32 ∧ w67.pwmOn = true) :=
  by and_intros <;> decide +kernel

def w68 : State := mem run [(0x100000 + 64 * 511, 2 ^ 24)]

def w69 : State := put run [(F.PWM_G_CFG_EN 5, 1), (F.CE_STAT_STOPPED, 0)]

def w70 : State := mem run [(drAddr 5 + 0xD4, 5)]

def w71 : State := mem run [(drAddr 5 + 0xD4, 6)]

/-- What `Obligations.EngineAndDriveCommandsAct` assumes can be met. -/
theorem wit_EngineAndDriveCommandsAct :
    (run.wf = true ∧ run.admits .port F.CE_CTL_RUN.addr = true) ∧
    (run.wf = true ∧ run.admits .port F.CE_CTL_RUN.addr = true) ∧
    (w68.wf = true ∧ canonical (fun _ => 2 ^ 32) w68.ce.cmds = true ∧
      w68.admits .port F.CE_MODECMD_SLOT.addr = true ∧ 511 = (0x61FF#32).toNat % 512 ∧ w68.loopEn 511 = true ∧
      (bit (0x61FF#32).toNat 14 = true ∨ bit (0x61FF#32).toNat 16 = true) ∧
      (bit (0x61FF#32).toNat 14 = true → getBits (0x61FF#32).toNat 12 2 = 3 → w68.loopHyst 511 = false ∧
      w68.ld 511 0x30 / 2 ^ 28 ≠ 0)) ∧
    (w68.wf = true ∧ canonical (fun _ => 2 ^ 32) w68.ce.cmds = true ∧
      w68.admits .port F.CE_MODECMD_SLOT.addr = true ∧ 511 = (0x71FF#32).toNat % 512 ∧ w68.loopEn 511 = true ∧
      (bit (0x71FF#32).toNat 14 = true ∨ bit (0x71FF#32).toNat 16 = true) ∧ bit (0x71FF#32).toNat 14 = true ∧
      getBits (0x71FF#32).toNat 12 2 = 3 ∧ (w68.loopHyst 511 = true ∨ w68.ld 511 0x30 / 2 ^ 28 = 0)) ∧
    (run.admits .port F.CE_MODECMD_SLOT.addr = true ∧
      (run.loopEn ((0x41FF#32).toNat % 512) = false ∨ (bit (0x41FF#32).toNat 14 = false ∧
      bit (0x41FF#32).toNat 16 = false))) ∧
    (w69.ce.drives.length = 6 ∧ w69.admits .port (driveCmdAddr (5 : Fin 6)) = true ∧
      w69.driveState (5 : Fin 6) = 0 ∧ w69.f (F.CE_DR_FAULT_CAUSE (5 : Fin 6)) = 0 ∧
      (w69.drv (5 : Fin 6)).ntc = false ∧ w69.ceStopped = false ∧ w69.active = true ∧
      w69.on (F.PWM_G_CFG_EN (5 : Fin 6)) = true ∧ (w69.ripen (5 : Fin 6) = false ∨ w69.warm = false)) ∧
    (w70.ce.drives.length = 6 ∧ w70.admits .port (driveCmdAddr (5 : Fin 6)) = true ∧
      (w70.driveState (5 : Fin 6) ≠ 0 ∨ w70.f (F.CE_DR_FAULT_CAUSE (5 : Fin 6)) ≠ 0 ∨ (w70.drv (5 : Fin 6)).ntc = true ∨ w70.ceStopped = true ∨ w70.active = false ∨ w70.on (F.PWM_G_CFG_EN (5 : Fin 6)) = false ∨ (w70.ripen (5 : Fin 6) = true ∧
      w70.warm = true))) ∧
    (run.ce.drives.length = 6 ∧ run.admits .port (driveCmdAddr (5 : Fin 6)) = true) ∧
    (w71.ce.drives.length = 6 ∧ w71.admits .port (driveCmdAddr (5 : Fin 6)) = true ∧
      w71.driveState (5 : Fin 6) = 6 ∧ (w71.drv (5 : Fin 6)).level = false) ∧
    (run.ce.drives.length = 6 ∧ run.admits .port (driveCmdAddr (5 : Fin 6)) = true ∧
      (run.driveState (5 : Fin 6) ≠ 6 ∨ (run.drv (5 : Fin 6)).level = true)) :=
  by and_intros <;> decide +kernel

def w72 : State := { eng with adc := { Conv9.reset with latchDone := List.replicate 6 true } }

def w73 : State :=
  
    { mem eng [(drAddr 0, 1)] with adc := { Conv9.reset with latchDone := List.replicate 6 true } }.setLane 0 (fun y => { y with cls := 0, c0 := [512] })

def w74 : State := (put eng [(F.CRT_WIN3_W3, 1000)]).setLane 3 (fun y => { y with cls := 3, todo := [511] })

def w75 : State :=
  
    (mem (put eng [(F.CRT_WIN3_W3, 98)]) [(0x100000, 2 ^ 24 + 4)]).setLane 3 (fun y => { y with cls := 3, todo := [0, 511] })

def w76 : State := (put eng [(F.CRT_WIN3_W3, 0)]).setLane 3 (fun y => { y with cls := 3, todo := [511] })

def w77 : State :=
  lane0 (mem (put eng [(F.CRT_WIN12_W1, 1000)]) [(0x100000, 2 ^ 24 + 1)]) (fun y => { y with cls := 0 })

def w78 : State := lane0 (mem eng [(0x100000, 2 ^ 24 + 7 * 2 ^ 21)]) (fun y => { y with cls := 0, c0 := [0] })

def w79 : State :=
  
    (lane0 (mem eng [(drAddr 5, 1)]) (fun y => { y with cls := 0, c0 := [517] })).setDrv 5 (fun x => { x with rel := some 100 })

def w80 : State := lane0 eng (fun y => { y with chain := some 5, chainTodo := [0] })

def w81 : State := lane0 eng (fun y => { y with chain := some 5, chainTodo := [0], cyc := 100000 })

def w82 : State :=
  
    lane0 eng (fun y => { y with run := some ⟨0, 0, 64, 100, 0, 0, 0, false, true, 0, none, false, 0, true, false, none, false, false, 0, false⟩ })

def w83 : State :=
  
    lane0 eng (fun y => { y with run := some ⟨0, 0, 64, 100000, 0, 0, 0, false, true, 0, none, false, 0, true, false, none, false, false, 0, false⟩ })

def w84 : State := lane0 eng (fun y => { y with cls := 0, chain := some 5 })

def w85 : State := lane0 eng (fun y => { y with cls := 0, chain := some 5, cyc := 100000 })

def w86 : State := mem run [(drAddr 5, 1)]

/-- What `Obligations.LanesRunItems` assumes can be met. -/
theorem wit_LanesRunItems :
    (w72.wf = true ∧ w72.ce.drives.length = 6 ∧ w72.ce.lanes.length = 4 ∧ w72.ceLive = true ∧
      w72.adc.latchDone.getD (5 : Fin 6) false = true ∧ (w72.drv (5 : Fin 6)).rel = none ∧
      ({ eng with adc := { Conv9.reset with latchDone := List.replicate 6 true } }.setDrv 5 (fun x => { x with rel := some (max 64 (60 + 4)) })) = w72.setDrv (5 : Fin 6) (fun x => { x with rel := some (max 64 (60 + 4)) }) ∧
      0 = w72.chainLane (5 : Fin 6) ∧
      (w72.chained (5 : Fin 6) = false ∨ (w72.lane 0).cls ≠ 0 ∨ (w72.lane 0).run.isSome = true ∨ (w72.lane 0).chain.isSome = true ∨ (∀ p, ({ eng with adc := { Conv9.reset with latchDone := List.replicate 6 true } }.setDrv 5 (fun x => { x with rel := some (max 64 (60 + 4)) })).c0Pick 0 = some p → p.1 < 512))) ∧
    (w73.wf = true ∧ w73.ce.drives.length = 6 ∧ w73.ce.lanes.length = 4 ∧ w73.ceLive = true ∧
      w73.adc.latchDone.getD (0 : Fin 6) false = true ∧ (w73.drv (0 : Fin 6)).rel = none ∧
      (({ mem eng [(drAddr 0, 1)] with adc := { Conv9.reset with latchDone := List.replicate 6 true } }.setLane 0 (fun y => { y with cls := 0, c0 := [512] })).setDrv 0 (fun x => { x with rel := some (max 64 (60 + 4)) })) = w73.setDrv (0 : Fin 6) (fun x => { x with rel := some (max 64 (60 + 4)) }) ∧
      0 = w73.chainLane (0 : Fin 6) ∧ w73.chained (0 : Fin 6) = true ∧ (w73.lane 0).cls = 0 ∧
      (w73.lane 0).run = none ∧ (w73.lane 0).chain = none ∧
      (({ mem eng [(drAddr 0, 1)] with adc := { Conv9.reset with latchDone := List.replicate 6 true } }.setLane 0 (fun y => { y with cls := 0, c0 := [512] })).setDrv 0 (fun x => { x with rel := some (max 64 (60 + 4)) })).c0Pick 0 = some (512 + (0 : Fin 6).val, 64)) ∧
    ((run.ceLive = false ∨ run.adc.latchDone.getD (0 : Fin 6) false = false ∨ (run.drv (0 : Fin 6)).rel.isSome = true)) ∧
    (w74.wf = true ∧ w74.ce.lanes.length = 4 ∧ w74.ceLive = true ∧ (w74.lane (3 : Fin 4)).run = none ∧
      (w74.lane (3 : Fin 4)).chain = none ∧ 1 ≤ (w74.lane (3 : Fin 4)).cls ∧ (w74.lane (3 : Fin 4)).cls ≤ 3 ∧
      (w74.lane (3 : Fin 4)).todo = 511 :: ([] : List Nat) ∧
      (w74.lane (3 : Fin 4)).cyc + w74.loopCost 511 ≤ w74.window (w74.lane (3 : Fin 4)).cls) ∧
    (w75.wf = true ∧ w75.ce.lanes.length = 4 ∧ w75.ceLive = true ∧ (w75.lane (3 : Fin 4)).run = none ∧
      (w75.lane (3 : Fin 4)).chain = none ∧ 1 ≤ (w75.lane (3 : Fin 4)).cls ∧ (w75.lane (3 : Fin 4)).cls ≤ 3 ∧
      (w75.lane (3 : Fin 4)).todo = 0 :: ([511] : List Nat) ∧
      w75.window (w75.lane (3 : Fin 4)).cls < (w75.lane (3 : Fin 4)).cyc + w75.loopCost 0 ∧
      ([511] : List Nat) = 511 :: ([] : List Nat) ∧
      (w75.lane (3 : Fin 4)).cyc + w75.loopCost 511 ≤ w75.window (w75.lane (3 : Fin 4)).cls) ∧
    (w76.wf = true ∧ w76.ce.lanes.length = 4 ∧ w76.ceLive = true ∧ (w76.lane (3 : Fin 4)).run = none ∧
      (w76.lane (3 : Fin 4)).chain = none ∧ 1 ≤ (w76.lane (3 : Fin 4)).cls ∧ (w76.lane (3 : Fin 4)).cls ≤ 3 ∧
      (w76.lane (3 : Fin 4)).todo = 511 :: ([] : List Nat) ∧
      w76.window (w76.lane (3 : Fin 4)).cls < (w76.lane (3 : Fin 4)).cyc + w76.loopCost 511 ∧ ([] : List Nat) = [] ∧
      (w76.lane (3 : Fin 4)).cls = 3) ∧
    (w77.wf = true ∧ w77.ce.lanes.length = 4 ∧ w77.ceLive = true ∧ (w77.lane (0 : Fin 4)).run = none ∧
      (w77.lane (0 : Fin 4)).chain = none ∧ (w77.lane (0 : Fin 4)).cls = 0 ∧ (w77.lane (0 : Fin 4)).todo = [] ∧
      0 < 3 ∧ (0 = 0 → (w77.lane (0 : Fin 4)).c0 = []) ∧
      w77.dueItems w77.frame (0 : Fin 4) (0 + 1) = 0 :: ([] : List Nat) ∧
      (w77.lane (0 : Fin 4)).cyc + w77.loopCost 0 ≤ w77.window (0 + 1)) ∧
    (w78.wf = true ∧ w78.ce.lanes.length = 4 ∧ w78.ceLive = true ∧ (w78.lane (0 : Fin 4)).run = none ∧
      (w78.lane (0 : Fin 4)).chain = none ∧ (w78.lane (0 : Fin 4)).cls = 0 ∧ w78.c0Pick (0 : Fin 4) = some (0, 64) ∧
      max (w78.lane (0 : Fin 4)).cyc 64 < w78.nce ∧ 0 < 512) ∧
    (w79.wf = true ∧ w79.ce.lanes.length = 4 ∧ w79.ceLive = true ∧ (w79.lane (0 : Fin 4)).run = none ∧
      (w79.lane (0 : Fin 4)).chain = none ∧ (w79.lane (0 : Fin 4)).cls = 0 ∧
      w79.c0Pick (0 : Fin 4) = some (517, 100) ∧ max (w79.lane (0 : Fin 4)).cyc 100 < w79.nce ∧
      517 = 512 + (5 : Fin 6).val) ∧
    (w80.wf = true ∧ w80.ce.lanes.length = 4 ∧ w80.ceLive = true ∧ (w80.lane (0 : Fin 4)).run = none ∧
      (w80.lane (0 : Fin 4)).chain = some 5 ∧ (w80.lane (0 : Fin 4)).chainTodo = 0 :: ([] : List Nat) ∧
      (w80.lane (0 : Fin 4)).cyc < w80.nce) ∧
    (w81.wf = true ∧ w81.ce.lanes.length = 4 ∧ w81.ceLive = true ∧ (w81.lane (0 : Fin 4)).run = none ∧
      (w81.lane (0 : Fin 4)).chain = some 5 ∧ (w81.lane (0 : Fin 4)).chainTodo = 0 :: ([] : List Nat) ∧
      w81.nce ≤ (w81.lane (0 : Fin 4)).cyc) ∧
    ((run.ceLive = false ∨ (run.lane (0 : Fin 4)).run.isSome = true)) ∧
    (w82.wf = true ∧ w82.ce.lanes.length = 4 ∧ w82.ceLive = true ∧
      (w82.lane (0 : Fin 4)).run = some (⟨0, 0, 64, 100, 0, 0, 0, false, true, 0, none, false, 0, true, false, none, false, false, 0, false⟩ : Run) ∧
      (⟨0, 0, 64, 100, 0, 0, 0, false, true, 0, none, false, 0, true, false, none, false, false, 0, false⟩ : Run).start + (⟨0, 0, 64, 100, 0, 0, 0, false, true, 0, none, false, 0, true, false, none, false, false, 0, false⟩ : Run).cost ≤ w82.nce) ∧
    (w83.wf = true ∧ w83.ce.lanes.length = 4 ∧ w83.ceLive = true ∧
      (w83.lane (0 : Fin 4)).run = some (⟨0, 0, 64, 100000, 0, 0, 0, false, true, 0, none, false, 0, true, false, none, false, false, 0, false⟩ : Run) ∧
      w83.nce < (⟨0, 0, 64, 100000, 0, 0, 0, false, true, 0, none, false, 0, true, false, none, false, false, 0, false⟩ : Run).start + (⟨0, 0, 64, 100000, 0, 0, 0, false, true, 0, none, false, 0, true, false, none, false, false, 0, false⟩ : Run).cost) ∧
    ((w18.ceLive = false ∨ (w18.lane (3 : Fin 4)).run = none)) ∧
    (w84.wf = true ∧ w84.ce.lanes.length = 4 ∧ w84.ce.drives.length = 6 ∧ w84.ceLive = true ∧
      (w84.lane (0 : Fin 4)).run = none ∧ (w84.lane (0 : Fin 4)).chain = some (5 : Fin 6).val ∧
      (w84.lane (0 : Fin 4)).chainTodo = [] ∧ (w84.lane (0 : Fin 4)).cls = 0 ∧
      (w84.lane (0 : Fin 4)).cyc + 96 ≤ w84.nce ∧ (w84.lane (0 : Fin 4)).c0 = []) ∧
    (w85.wf = true ∧ w85.ce.lanes.length = 4 ∧ w85.ce.drives.length = 6 ∧ w85.ceLive = true ∧
      (w85.lane (0 : Fin 4)).run = none ∧ (w85.lane (0 : Fin 4)).chain = some (5 : Fin 6).val ∧
      (w85.lane (0 : Fin 4)).chainTodo = [] ∧ (w85.lane (0 : Fin 4)).cls = 0 ∧
      w85.nce < (w85.lane (0 : Fin 4)).cyc + 96) ∧
    (((w18.lane (3 : Fin 4)).run.isSome = true ∨ (w18.lane (3 : Fin 4)).chain = none ∨ (w18.lane (3 : Fin 4)).chainTodo ≠ [] ∨ w18.ceLive = false)) ∧
    (w86.wf = true ∧ w86.ce.drives.length = 6 ∧ w86.active = true ∧ w86.boot.ticked = true ∧ w86.chained 5 = true ∧
      0 = getBits (w86.f F.CRT_C0STAT_CONSEC) (2 * 5) 2) ∧
    (w18.wf = true ∧ w18.ce.lanes.length = 4 ∧ w18.active = true ∧ w18.boot.ticked = true ∧ w18.ceLive = true) :=
  by and_intros <;> decide +kernel

/-- What `Obligations.EngineArithmeticStaysInRange` assumes can be met. -/
theorem wit_EngineArithmeticStaysInRange :
    (-2147483648 ≤ (⟨0, 0, 0, 0, 0, 0, false, false, 0, 0, 2147483647, 0⟩ : Sect).y1 ∧
      (⟨0, 0, 0, 0, 0, 0, false, false, 0, 0, 2147483647, 0⟩ : Sect).y1 ≤ 2147483647) ∧
    (500 ∈ (rotatorWidths 0 0 0 1000).1) ∧
    (0 < (1 : Int) ∧ -(1 : Int) ≤ (-1 : Int) ∧ (-1 : Int) ≤ (1 : Int)) ∧
    ((0 : Int) ≤ 0) :=
  by and_intros <;> decide +kernel

def w87 : State := put run [(F.CRT_CLKSTAT_LOCK_M, 1)]

def w88 : State := (put run [(F.CRT_CLKSTAT_LOCK_M, 1), (F.CE_PI_CFG_MODE 7, 1)]).setPiEdges 7 1

def w89 : State := put run [(F.CRT_CLKSTAT_LOCK_M, 0)]

/-- What `Obligations.PulseInputsMeasure` assumes can be met. -/
theorem wit_PulseInputsMeasure :
    (w87.ce.pis.length = 8 ∧ w87.pulseLive = true ∧ w87.piEdges (7 : Fin 8) = 0) ∧
    (w88.wf = true ∧ w88.ce.pis.length = 8 ∧ w88.pulseLive = true ∧ w88.piEdges (7 : Fin 8) ≠ 0 ∧ 0 < (1#32).toNat ∧
      (1#32).toNat < (1000000#32).toNat) ∧
    (w87.wf = true ∧ w87.ce.pis.length = 8 ∧ w87.pulseLive = true) ∧
    (w89.pulseLive = false) :=
  by and_intros <;> decide +kernel

def w90 : State := { run with ce := { Engine.reset with clears := [3] } }

def w91 : State := { mem run [(0x140000 + 32 * 127 + 4, 0x2000)] with ce := { Engine.reset with clears := [127] } }

def w92 : State :=
  { mem run [(0x140000 + 32 * 127 + 4, 0x2000)] with ce := { Engine.reset with clears := [127, 3] } }

def w93 : State := mem eng [(0x100000, 2 ^ 24 + 2 ^ 12)]

def w94 : State := run.setGenState 7 2

def w95 : State := put run [(F.CE_CAPEN_CHEN, 1)]

def w96 : State := put run [(F.CE_CAPSTAT_STATE, 1)]

def w97 : State := (put run [(F.CE_CAPSTAT_STATE, 1)]).setCap (fun c => { c with frames := some 0 })

def w98 : State := mem run [(0x140000 + 4, 0x2000)]

def w99 : State := mem run [(0x140000 + 4, 0x2000), (0x141014, 1)]

/-- What `Obligations.ClearsGeneratorsAndCaptureAct` assumes can be met. -/
theorem wit_ClearsGeneratorsAndCaptureAct :
    (run.wf = true ∧ run.admits .port 0x40050044 = true ∧ bit (0#32).toNat 7 = false) ∧
    (w90.wf = true ∧ w90.admits .port 0x40050044 = true ∧ bit (0x80#32).toNat 7 = true ∧ w90.ce.clears ≠ []) ∧
    (run.wf = true ∧ run.admits .port 0x40050044 = true ∧ bit (0xFF#32).toNat 7 = true ∧ run.ce.clears = []) ∧
    (w91.wf = true ∧ 127 < 128 ∧ w91.ce.clears = [127] ∧ w91.lkTab 127 + w91.lkBytes 127 ≤ 0x1C0000 ∧
      lkAddr 127 + 32 ≤ w91.lkTab 127) ∧
    (w92.wf = true ∧ 127 < 128 ∧ 3 < 128 ∧ w92.ce.clears = 127 :: 3 :: ([] : List Nat) ∧
      lkAddr 127 + 32 ≤ w92.lkTab 127) ∧
    (run.ce.clears = []) ∧
    (run.wf = true ∧ run.ce.gens.length = 8 ∧ run.admits .port F.CE_INJCMD_GEN.addr = true ∧
      run.genStartLegal (7 : Fin 8) = false) ∧
    (w93.wf = true ∧ w93.ce.gens.length = 8 ∧ w93.admits .port F.CE_INJCMD_GEN.addr = true ∧
      w93.genStartLegal (7 : Fin 8) = true) ∧
    (run.wf = true ∧ run.ce.gens.length = 8 ∧ run.admits .port F.CE_INJCMD_GEN.addr = true ∧
      (run.genState (7 : Fin 8) = 0 ∨ run.genState (7 : Fin 8) = 3)) ∧
    (w94.wf = true ∧ w94.ce.gens.length = 8 ∧ w94.admits .port F.CE_INJCMD_GEN.addr = true ∧
      (w94.genState (7 : Fin 8) = 1 ∨ w94.genState (7 : Fin 8) = 2)) ∧
    (w95.wf = true ∧ w95.admits .port F.CE_CAPCTL_ARM.addr = true ∧ w95.capBusy = false ∧
      w95.f F.CE_CAPEN_CHEN ≠ 0 ∧ w95.active = true ∧ w95.sheds = false) ∧
    (run.wf = true ∧ run.admits .port F.CE_CAPCTL_ARM.addr = true ∧
      (run.capBusy = true ∨ run.f F.CE_CAPEN_CHEN = 0 ∨ run.active = false ∨ run.sheds = true)) ∧
    (w96.wf = true ∧ w96.admits .port F.CE_CAPCTL_ARM.addr = true ∧ w96.capBusy = true) ∧
    (run.wf = true ∧ run.admits .port F.CE_CAPCTL_ARM.addr = true ∧ run.capBusy = false) ∧
    (w97.wf = true ∧ w97.ce.cap.frames = some 0 ∧ w97.capBusy = true ∧ w97.ce.cap.taken = false ∧
      0 % (w97.f F.CE_CAPCFG_DEC + 1) = 0) ∧
    (w97.wf = true ∧ w97.ce.cap.frames = some 0 ∧ w97.capBusy = true ∧ w97.ce.cap.taken = false ∧
      0 % (w97.f F.CE_CAPCFG_DEC + 1) = 0 ∧
      (((put run [(F.CE_CAPSTAT_STATE, 1)]).setCap (fun c => { c with frames := some 0 })).capValue 0 : Int) = w97.capValue (w97.f F.CE_CAPCFG_TRGCH) ∧
      (0 : Int) = toS 32 (w97.rd F.CE_CAPTHR.addr) ∧
      0 = (if w97.f F.CE_CAPCFG_TRG = 0 then 0 else w97.f F.CE_CAPEN_PRE)) ∧
    (w98.wf = true ∧ 0 < 128 ∧ -2 ^ 31 ≤ (0 : Int) ∧ (0 : Int) < 2 ^ 31 ∧ 0x2000 ≤ w98.lk 0 4 ∧
      256 = 256 * 2 ^ getBits (w98.lk 0 0) 2 2 ∧ (0 : Int) = toS 32 (w98.lk 0 0x10) ∧ 0 ≤ (0 : Int) ∧
      0 = (w98.lkIdx 0 % 2048 + 256 - getBits (w98.lk 0 0x18) 0 11 % 256) % 256) ∧
    (w98.wf = true ∧ 0 < 128 ∧ 0 < 1440 ∧ 0x2000 ≤ w98.lk 0 4 ∧ -2 ^ 31 ≤ (0 : Int) ∧ (0 : Int) < 2 ^ 31) ∧
    (w99.wf = true ∧ 0 < 128 ∧ 0x2000 ≤ w99.lk 0 4 ∧ 1 = w99.mw (lkAddr 0 + 0x14) % 2 ^ 24 ∧ 1 ≠ 0 ∧
      0 = getBits (w99.lkStat 0) 16 11 ∧
      (0 : Int) = (2 * toS 64 (w99.mw (lkAddr 0 + 0xC) + w99.mw (lkAddr 0 + 0x10) * 2 ^ 32) + 1) / (2 * 1) ∧
      -2 ^ 31 ≤ (0 : Int) ∧ (0 : Int) < 2 ^ 31 ∧ (0 : Int) = toS 32 (w99.lk 0 0x10) ∧ 0 ≤ (0 : Int) ∧
      0 = getBits (w99.lk 0 0) 20 4 ∧ 0 = (if 0 < getBits (w99.lkIdx 0) 12 2 ∧
      0 ≠ (w99.lkIdx 0 % 2048 + 1) % 1440 then 0 else getBits (w99.lkIdx 0) 12 2) ∧
      0 = (w99.lkIdx 0 % 2048 + 1440 - getBits (w99.lk 0 0x18) 0 11 % 1440) % 1440) ∧
    ((run.capBusy = false ∨ run.ce.cap.taken = true ∨ run.ce.cap.frames = none ∨ ∃ k, run.ce.cap.frames = some k ∧
      k % (run.f F.CE_CAPCFG_DEC + 1) ≠ 0)) :=
  by and_intros <;> decide +kernel

def w100 : State := mem run [(ptAddr 4095, 65536)]

def w101 : State := mem run [(ptAddr 4095 + 4, 2 ^ 28)]

/-- What `Obligations.CatalogueAndRtcCommandsAct` assumes can be met. -/
theorem wit_CatalogueAndRtcCommandsAct :
    (run.wf = true ∧ run.admits .port F.ALM_FORCE_POINT.addr = true ∧ run.ptType (4095 : Fin 4096) = 0) ∧
    (w100.wf = true ∧ w100.admits .port F.ALM_FORCE_POINT.addr = true ∧ w100.ptType (4095 : Fin 4096) ≠ 0) ∧
    (w100.wf = true ∧ w100.admits .port F.ALM_FORCE_POINT.addr = true ∧ w100.ptType (4095 : Fin 4096) ≠ 0) ∧
    (w101.wf = true ∧ w101.admits .port (ptAddr (4095 : Fin 4096) + 8) = true ∧ w101.ptKind (4095 : Fin 4096) ≠ 0) ∧
    (run.wf = true ∧ run.admits .port (ptAddr (4095 : Fin 4096) + 8) = true ∧ run.ptKind (4095 : Fin 4096) = 0) ∧
    (run.wf = true ∧ 0 < 4096) ∧
    (run.wf = true ∧ run.admits .port F.ALM_RTCSET.addr = true) :=
  by and_intros <;> decide +kernel

def w102 : State := (put run [(F.CAN_STAT_STATE 1, 3)]).setCc 1 (fun x => { x with committed := some 3 })

def w103 : State := put run [(F.CAN_STAT_STATE 1, 3)]

def w104 : State := put run [(F.CAN_STAT_STATE 1, 3), (F.CAN_CTL_EN 1, 1)]

def w105 : State := put run [(F.CAN_STAT_STATE 1, 1)]

def w106 : State := put run [(F.CAN_STAT_STATE 1, 2), (F.CAN_STAT_ERRST 1, 2)]

def w107 : State := put run [(F.CAN_STAT_STATE 1, 2)]

def w108 : State := put run [(F.CAN_STAT_STATE 1, 0), (F.CAN_STAT_ERRST 1, 2)]

def w109 : State := put run [(F.CAN_STAT_STATE 1, 4), (F.CAN_STAT_ERRST 1, 2)]

def w110 : State := put run [(F.CAN_STAT_STATE 1, 5)]

/-- What `Obligations.BusControllersFollowTheirStates` assumes can be met. -/
theorem wit_BusControllersFollowTheirStates :
    (run.wf = true ∧ run.can.length = 2 ∧ run.admits .port (canAddr (1 : Fin 2) 0) = true ∧
      (run.free.2.plainWrite (canAddr (1 : Fin 2) 0) (orN (1#32).toNat 1)).2 = true) ∧
    (w102.wf = true ∧ w102.can.length = 2 ∧ w102.admits .port (canAddr (1 : Fin 2) 0) = true ∧
      (w102.plainWrite (canAddr (1 : Fin 2) 0) (andNot (0x80100001#32).toNat 1)).2 = true ∧
      w102.canState (1 : Fin 2) = 3 ∧ bit (0x80100001#32).toNat (F.CAN_CTL_LOM (1 : Fin 2)).lo = false ∧
      ((false : Bool) = true ∨ (w102.cc (1 : Fin 2)).committed ≠ none)) ∧
    (w103.wf = true ∧ w103.can.length = 2 ∧ w103.admits .port (canAddr (1 : Fin 2) 0) = true ∧
      (w103.plainWrite (canAddr (1 : Fin 2) 0) (andNot (0x80100001#32).toNat 1)).2 = true ∧
      (w103.canState (1 : Fin 2) ≠ 3 ∨ bit (0x80100001#32).toNat (F.CAN_CTL_LOM (1 : Fin 2)).lo = true ∨ ((false : Bool) = false ∧
      (w103.cc (1 : Fin 2)).committed = none))) ∧
    (w104.wf = true ∧ w104.can.length = 2 ∧ w104.admits .port (canAddr (1 : Fin 2) 0) = true ∧
      (w104.free.2.plainWrite (canAddr (1 : Fin 2) 0) (andNot (0x80100001#32).toNat (2 ^ (F.CAN_CTL_FDTX (1 : Fin 2)).lo))).2 = true ∧
      w104.zpEn (1 : Fin 2) = false ∧ bit (0x80100001#32).toNat (F.CAN_CTL_EN (1 : Fin 2)).lo = true) ∧
    (w105.wf = true ∧ w105.can.length = 2 ∧ ratesWf (1#4).toNat (0#4).toNat = true ∧ w105.canState (1 : Fin 2) = 1 ∧
      1#4 ≠ 0) ∧
    (w105.wf = true ∧ w105.can.length = 2 ∧ ratesWf (0#4).toNat (0#4).toNat = true ∧ w105.canState (1 : Fin 2) = 1 ∧
      0#4 = 0) ∧
    (w103.wf = true ∧ w103.can.length = 2 ∧ ratesWf (0#4).toNat (0#4).toNat = true ∧ w103.canState (1 : Fin 2) ≠ 1) ∧
    (w106.wf = true ∧ w106.can.length = 2 ∧ w106.zp.length = 2 ∧ w106.canState (1 : Fin 2) = 2 ∧
      w106.f (F.CAN_STAT_ERRST (1 : Fin 2)) = 2) ∧
    (w107.wf = true ∧ w107.can.length = 2 ∧ w107.zp.length = 2 ∧ w107.canState (1 : Fin 2) = 2 ∧
      w107.f (F.CAN_STAT_ERRST (1 : Fin 2)) ≠ 2) ∧
    (run.wf = true ∧ run.can.length = 2 ∧ run.zp.length = 2 ∧ run.canState (1 : Fin 2) ≠ 2) ∧
    (run.wf = true ∧ run.can.length = 2 ∧ run.admits .port (canAddr (1 : Fin 2) 0x20) = true ∧
      (run.f (F.CAN_STAT_ERRST (1 : Fin 2)) ≠ 2 ∨ run.canState (1 : Fin 2) = 5 ∨ (run.cc (1 : Fin 2)).recover = true)) ∧
    (w108.wf = true ∧ w108.can.length = 2 ∧ w108.admits .port (canAddr (1 : Fin 2) 0x20) = true ∧
      w108.f (F.CAN_STAT_ERRST (1 : Fin 2)) = 2 ∧ (w108.cc (1 : Fin 2)).recover = false ∧
      (w108.canState (1 : Fin 2) = 0 ∨ w108.canState (1 : Fin 2) = 1)) ∧
    (w109.wf = true ∧ w109.can.length = 2 ∧ w109.admits .port (canAddr (1 : Fin 2) 0x20) = true ∧
      w109.f (F.CAN_STAT_ERRST (1 : Fin 2)) = 2 ∧ (w109.cc (1 : Fin 2)).recover = false ∧
      2 ≤ w109.canState (1 : Fin 2) ∧ w109.canState (1 : Fin 2) ≠ 5) ∧
    (w110.wf = true ∧ w110.can.length = 2 ∧ w110.zp.length = 2 ∧ w110.canState (1 : Fin 2) = 5) ∧
    (run.wf = true ∧ run.can.length = 2 ∧ run.zp.length = 2 ∧ run.canState (1 : Fin 2) ≠ 5) ∧
    (w105.wf = true ∧ w105.can.length = 2 ∧ (w105.cc (1 : Fin 2)).stopping = false ∧
      (w105.canState (1 : Fin 2) = 1 ∨ w105.canState (1 : Fin 2) = 3) ∧ (w105.cc (1 : Fin 2)).committed = none ∧
      w105.on (F.CAN_CTL_FDOE (1 : Fin 2)) = false ∧ w105.on (F.CAN_CTL_PXHD (1 : Fin 2)) = false) ∧
    (run.wf = true ∧ run.can.length = 2 ∧ (run.cc (1 : Fin 2)).stopping = false ∧ ((run.canState (1 : Fin 2) ≠ 1 ∧
      run.canState (1 : Fin 2) ≠ 3) ∨ (run.cc (1 : Fin 2)).committed ≠ none ∨ run.on (F.CAN_CTL_FDOE (1 : Fin 2)) = true ∨ run.on (F.CAN_CTL_PXHD (1 : Fin 2)) = true)) :=
  by and_intros <;> decide +kernel

def w111 : State := (put run [(F.CAN_STAT_STATE 1, 1)]).wr (objAddr 1 127 4) 0x200

def w112 : State :=
  (put run [(F.CAN_STAT_STATE 1, 1), (F.CAN_F_MASK_ACTION 1 63, 2)]).wr (F.CAN_F_MASK_IDM 1 63).addr (2 * 2 ^ 30)

def w113 : State :=
  (put run [(F.CAN_STAT_STATE 1, 1), (F.CAN_Q_OWN0 1 0, 2 ^ 32 - 1),
    (F.CAN_Q_OWN1 1 0, 2 ^ 32 - 1)]).wr (F.CAN_F_MASK_IDM 1 63).addr (2 ^ 30)

def w114 : State := put run [(F.CAN_STAT_STATE 1, 3), (F.CAN_ERRCNT_REC 1, 5)]

def w115 : State := put run [(F.CAN_Q_OWN1 1 1, 2 ^ 31)]

def w116 : State := (put run [(F.CAN_STAT_STATE 1, 3)]).setCc 1 (fun x => { x with committed := some 127 })

def w117 : State :=
  (put run [(F.CAN_STAT_STATE 1, 3), (F.CAN_ERRCNT_TEC 1, 255)]).setCc 1 (fun x => { x with committed := some 127 })

def w118 : State := (put run [(F.CAN_TXPEND 1 3, 2 ^ 31)]).wr (objAddr 1 127 4) 0x100

def w119 : State := run.wr (objAddr 1 127 4) 0x100

/-- What `Obligations.FramesAndErrorsOfTheBusAreTaken` assumes can be met. -/
theorem wit_FramesAndErrorsOfTheBusAreTaken :
    (w111.wf = true ∧ w111.can.length = 2 ∧ (⟨false, 0, false, false, false, false, 0, []⟩ : CanFrame).wf = true ∧
      (w111.canState (1 : Fin 2) = 1 ∨ w111.canState (1 : Fin 2) = 3) ∧ (w111.cc (1 : Fin 2)).committed = none ∧
      (w111.cc (1 : Fin 2)).stopping = false ∧ w111.tec (1 : Fin 2) ≤ 255 ∧
      ((⟨false, 0, false, false, false, false, 0, []⟩ : CanFrame).fdf = false ∨ w111.on (F.CAN_CTL_FDOE (1 : Fin 2)) = true) ∧
      w111.rxMatch (1 : Fin 2) (⟨false, 0, false, false, false, false, 0, []⟩ : CanFrame) = some (127) ∧
      (127) < 128) ∧
    (w112.wf = true ∧ w112.can.length = 2 ∧ (⟨false, 0, false, false, false, false, 0, []⟩ : CanFrame).wf = true ∧
      (w112.canState (1 : Fin 2) = 1 ∨ w112.canState (1 : Fin 2) = 3) ∧ (w112.cc (1 : Fin 2)).committed = none ∧
      (w112.cc (1 : Fin 2)).stopping = false ∧ w112.tec (1 : Fin 2) ≤ 255 ∧
      ((⟨false, 0, false, false, false, false, 0, []⟩ : CanFrame).fdf = false ∨ w112.on (F.CAN_CTL_FDOE (1 : Fin 2)) = true) ∧
      w112.rxMatch (1 : Fin 2) (⟨false, 0, false, false, false, false, 0, []⟩ : CanFrame) = none ∧
      (List.range 64).find? (fun q => w112.filterHit (1 : Fin 2) q (⟨false, 0, false, false, false, false, 0, []⟩ : CanFrame)) = some 63 ∧
      w112.f (F.CAN_F_MASK_ACTION (1 : Fin 2) 63) = 1 + (1 : Fin 2).val ∧
      ((List.range 64).map (fun i => (w112.f (F.CAN_Q_STAT_WIDX (1 : Fin 2) (1 : Fin 2)) + i) % 64)).find? (fun q => !w112.qOwned (1 : Fin 2) (1 : Fin 2) q) = some (0)) ∧
    (w113.wf = true ∧ w113.can.length = 2 ∧ (⟨false, 0, false, false, false, false, 0, []⟩ : CanFrame).wf = true ∧
      (w113.canState (1 : Fin 2) = 1 ∨ w113.canState (1 : Fin 2) = 3) ∧ (w113.cc (1 : Fin 2)).committed = none ∧
      (w113.cc (1 : Fin 2)).stopping = false ∧ w113.tec (1 : Fin 2) ≤ 255 ∧
      ((⟨false, 0, false, false, false, false, 0, []⟩ : CanFrame).fdf = false ∨ w113.on (F.CAN_CTL_FDOE (1 : Fin 2)) = true) ∧
      w113.rxMatch (1 : Fin 2) (⟨false, 0, false, false, false, false, 0, []⟩ : CanFrame) = none ∧
      (List.range 64).find? (fun q => w113.filterHit (1 : Fin 2) q (⟨false, 0, false, false, false, false, 0, []⟩ : CanFrame)) = some 63 ∧
      w113.f (F.CAN_F_MASK_ACTION (1 : Fin 2) 63) = 1 + (0 : Fin 2).val ∧
      (∀ e, e < 64 → w113.qOwned (1 : Fin 2) (0 : Fin 2) e = true)) ∧
    (w105.wf = true ∧ w105.can.length = 2 ∧ (⟨false, 0, false, false, false, false, 0, []⟩ : CanFrame).wf = true ∧
      (w105.canState (1 : Fin 2) = 1 ∨ w105.canState (1 : Fin 2) = 3) ∧ (w105.cc (1 : Fin 2)).committed = none ∧
      (w105.cc (1 : Fin 2)).stopping = false ∧ w105.tec (1 : Fin 2) ≤ 255 ∧
      ((⟨false, 0, false, false, false, false, 0, []⟩ : CanFrame).fdf = false ∨ w105.on (F.CAN_CTL_FDOE (1 : Fin 2)) = true) ∧
      w105.rxMatch (1 : Fin 2) (⟨false, 0, false, false, false, false, 0, []⟩ : CanFrame) = none ∧
      (∀ k, k < 64 → w105.filterHit (1 : Fin 2) k (⟨false, 0, false, false, false, false, 0, []⟩ : CanFrame) = false)) ∧
    (w114.wf = true ∧ w114.can.length = 2 ∧ (⟨false, 0, false, false, false, false, 0, []⟩ : CanFrame).wf = true ∧
      (w114.canState (1 : Fin 2) = 1 ∨ w114.canState (1 : Fin 2) = 3) ∧ (w114.cc (1 : Fin 2)).committed = none ∧
      (w114.cc (1 : Fin 2)).stopping = false ∧ w114.tec (1 : Fin 2) ≤ 255 ∧
      ((⟨false, 0, false, false, false, false, 0, []⟩ : CanFrame).fdf = false ∨ w114.on (F.CAN_CTL_FDOE (1 : Fin 2)) = true) ∧
      w114.canDrives (1 : Fin 2) = true ∧ 0 < w114.recErr (1 : Fin 2) ∧ w114.recErr (1 : Fin 2) ≤ 127) ∧
    ((⟨false, 0, false, false, false, false, 0, []⟩ : CanFrame).wf = true ∧ ((w107.canState (1 : Fin 2) ≠ 1 ∧
      w107.canState (1 : Fin 2) ≠ 3) ∨ (w107.cc (1 : Fin 2)).committed ≠ none ∨ ((⟨false, 0, false, false, false, false, 0, []⟩ : CanFrame).fdf = true ∧
      w107.on (F.CAN_CTL_FDOE (1 : Fin 2)) = false))) ∧
    (run.wf = true ∧ run.admits .port (F.CAN_Q_ACK_IDX (1 : Fin 2) (1 : Fin 2)).addr = true ∧
      (run.qOwned (1 : Fin 2) (1 : Fin 2) ((63#32).toNat % 64) = false ∨ run.on (if (1 : Fin 2) = 0 then F.CAN_CTL_Q0OWN (1 : Fin 2) else F.CAN_CTL_Q1OWN (1 : Fin 2)) = true)) ∧
    (w115.wf = true ∧ w115.admits .port (F.CAN_Q_ACK_IDX (1 : Fin 2) (1 : Fin 2)).addr = true ∧
      w115.qOwned (1 : Fin 2) (1 : Fin 2) ((63#32).toNat % 64) = true ∧
      (w115.on (if (1 : Fin 2) = 0 then F.CAN_CTL_Q0OWN (1 : Fin 2) else F.CAN_CTL_Q1OWN (1 : Fin 2)) = false)) ∧
    (w103.wf = true ∧ w103.can.length = 2 ∧ w103.canDrives (1 : Fin 2) = true ∧
      (w103.cc (1 : Fin 2)).stopping = false ∧ w103.tec (1 : Fin 2) ≤ 247 ∧ (w103.cc (1 : Fin 2)).committed = none) ∧
    (w103.wf = true ∧ w103.can.length = 2 ∧ w103.canDrives (1 : Fin 2) = true ∧
      (w103.cc (1 : Fin 2)).stopping = false ∧ w103.tec (1 : Fin 2) ≤ 247 ∧ (w103.cc (1 : Fin 2)).committed = none) ∧
    (w116.wf = true ∧ w116.can.length = 2 ∧ w116.canDrives (1 : Fin 2) = true ∧
      (w116.cc (1 : Fin 2)).stopping = false ∧ w116.tec (1 : Fin 2) ≤ 247 ∧ (127) < 128 ∧
      (w116.cc (1 : Fin 2)).committed = some (127) ∧ (w116.cc (1 : Fin 2)).held = false ∧
      (w116.cc (1 : Fin 2)).probes = []) ∧
    (w116.wf = true ∧ w116.can.length = 2 ∧ w116.canDrives (1 : Fin 2) = true ∧
      (w116.cc (1 : Fin 2)).stopping = false ∧ w116.tec (1 : Fin 2) ≤ 247 ∧ (127) < 128 ∧
      (w116.cc (1 : Fin 2)).committed = some (127) ∧ (w116.cc (1 : Fin 2)).held = false ∧
      (w116.cc (1 : Fin 2)).probes = []) ∧
    (w116.wf = true ∧ w116.can.length = 2 ∧ w116.canDrives (1 : Fin 2) = true ∧
      (w116.cc (1 : Fin 2)).stopping = false ∧ w116.tec (1 : Fin 2) ≤ 247 ∧ (127) < 128 ∧
      (w116.cc (1 : Fin 2)).committed = some (127) ∧ (w116.cc (1 : Fin 2)).held = false ∧
      (w116.cc (1 : Fin 2)).probes = []) ∧
    (w117.wf = true ∧ w117.can.length = 2 ∧ w117.canDrives (1 : Fin 2) = true ∧
      (w117.cc (1 : Fin 2)).stopping = false ∧ 127 < 128 ∧ (w117.cc (1 : Fin 2)).committed = some 127 ∧
      247 < w117.tec (1 : Fin 2) ∧ w117.tec (1 : Fin 2) ≤ 255 ∧ w117.f (F.CAN_STAT_ERRST (1 : Fin 2)) ≠ 2) ∧
    ((run.cc (1 : Fin 2)).stopping = false ∧ run.canDrives (1 : Fin 2) = false) ∧
    (w118.wf = true ∧ w118.admits .port (objAddr (1 : Fin 2) (127 : Fin 128) (4 * (19 : Fin 20).val)) = true ∧
      (w118.f (F.CAN_CTL_ZPTX (1 : Fin 2)) > (127 : Fin 128).val ∨ ((19 : Fin 20).val ≠ 2 ∧
      bit (w118.ob (1 : Fin 2) (127 : Fin 128) 4) 8 = true ∧
      w118.objBusy (1 : Fin 2) (127 : Fin 128) = true) ∨ ((19 : Fin 20).val ≠ 2 ∧
      bit (w118.ob (1 : Fin 2) (127 : Fin 128) 4) 8 = false ∧
      bit (w118.ob (1 : Fin 2) (127 : Fin 128) 4) 9 = true) ∨ (19 : Fin 20).val = 3 ∨ (4 ≤ (19 : Fin 20).val ∧
      bit (w118.ob (1 : Fin 2) (127 : Fin 128) 4) 8 = false) ∨ ((19 : Fin 20).val = 0 ∧
      w118.objBad (1 : Fin 2) (127 : Fin 128) ((0#32).toNat % 2 ^ 31) (w118.ob (1 : Fin 2) (127 : Fin 128) 4) = true) ∨ ((19 : Fin 20).val = 1 ∧
      w118.objBad (1 : Fin 2) (127 : Fin 128) (w118.ob (1 : Fin 2) (127 : Fin 128) 0) (andN (0#32).toNat 0x37F) = true))) ∧
    (run.wf = true ∧ run.admits .port (objAddr (1 : Fin 2) (127 : Fin 128) (4 * (2 : Fin 20).val)) = true ∧
      run.f (F.CAN_CTL_ZPTX (1 : Fin 2)) ≤ (127 : Fin 128).val ∧ (2 : Fin 20).val = 2) ∧
    (run.wf = true ∧ run.admits .port (objAddr (1 : Fin 2) (127 : Fin 128) (4 * (0 : Fin 20).val)) = true ∧
      run.f (F.CAN_CTL_ZPTX (1 : Fin 2)) ≤ (127 : Fin 128).val ∧
      (bit (run.ob (1 : Fin 2) (127 : Fin 128) 4) 8 = true → run.objBusy (1 : Fin 2) (127 : Fin 128) = false) ∧
      (bit (run.ob (1 : Fin 2) (127 : Fin 128) 4) 8 = false → bit (run.ob (1 : Fin 2) (127 : Fin 128) 4) 9 = false) ∧
      (0 : Fin 20).val = 0 ∧
      run.objBad (1 : Fin 2) (127 : Fin 128) ((0#32).toNat % 2 ^ 31) (run.ob (1 : Fin 2) (127 : Fin 128) 4) = false) ∧
    (run.wf = true ∧ run.admits .port (objAddr (1 : Fin 2) (127 : Fin 128) (4 * (1 : Fin 20).val)) = true ∧
      run.f (F.CAN_CTL_ZPTX (1 : Fin 2)) ≤ (127 : Fin 128).val ∧
      (bit (run.ob (1 : Fin 2) (127 : Fin 128) 4) 8 = true → run.objBusy (1 : Fin 2) (127 : Fin 128) = false) ∧
      (bit (run.ob (1 : Fin 2) (127 : Fin 128) 4) 8 = false → bit (run.ob (1 : Fin 2) (127 : Fin 128) 4) 9 = false) ∧
      (1 : Fin 20).val = 1 ∧
      run.objBad (1 : Fin 2) (127 : Fin 128) (run.ob (1 : Fin 2) (127 : Fin 128) 0) (andN (0#32).toNat 0x37F) = false) ∧
    (w119.wf = true ∧ w119.admits .port (objAddr (1 : Fin 2) (127 : Fin 128) (4 * (4 : Fin 20).val)) = true ∧
      w119.f (F.CAN_CTL_ZPTX (1 : Fin 2)) ≤ (127 : Fin 128).val ∧
      (bit (w119.ob (1 : Fin 2) (127 : Fin 128) 4) 8 = true → w119.objBusy (1 : Fin 2) (127 : Fin 128) = false) ∧
      (bit (w119.ob (1 : Fin 2) (127 : Fin 128) 4) 8 = false → bit (w119.ob (1 : Fin 2) (127 : Fin 128) 4) 9 = false) ∧
      4 ≤ (4 : Fin 20).val ∧ bit (w119.ob (1 : Fin 2) (127 : Fin 128) 4) 8 = true) :=
  by and_intros <;> decide +kernel

def w120 : State := run.wr (objAddr 1 127 4) 0x300

def w121 : State := put run [(F.CAN_CTL_ZPTX 1, 5)]

def w122 : State := put run [(F.CAN_STAT_STATE 1, 3), (F.CAN_TXPEND 1 3, 2 ^ 31)]

def w123 : State := put run [(F.CAN_TXPEND 1 3, 2 ^ 31)]

def w124 : State := (put run [(F.CAN_TXPEND 1 3, 2 ^ 31)]).setCc 1 (fun x => { x with cancels := [127] })

def w125 : State :=
  (put run [(F.CAN_TXPEND 1 3, 2 ^ 31)]).setCc 1 (fun x => { x with cancels := [127], committed := some 127 })

def w126 : State := run.setCc 1 (fun x => { x with cancels := [127] })

def w127 : State := run.setCc 1 (fun x => { x with committed := some 127 })

def w128 : State := run.setCc 1 (fun x => { x with committed := some 127, held := true })

def w129 : State :=
  (put run [(F.CAN_STAT_STATE 1, 3), (F.CAN_STAT_ALONE 1, 1),
    (F.CAN_TXPARK 1 3, 2 ^ 31)]).setCc 1 (fun x => { x with probeDue := true })

def w130 : State :=
  (put run [(F.CAN_STAT_STATE 1, 3), (F.CAN_STAT_ALONE 1, 1)]).setCc 1 (fun x => { x with probeDue := true })

/-- What `Obligations.FramesAreTransmitted` assumes can be met. -/
theorem wit_FramesAreTransmitted :
    (run.wf = true ∧ run.admits .port (canAddr (1 : Fin 2) (0x30 + 4 * (3 : Fin 4).val)) = true ∧
      (∃ n, n ∈ wordObjs (3 : Fin 4) (0x80000000#32).toNat ∧ run.txReqBad (1 : Fin 2) n false = true)) ∧
    (w120.wf = true ∧ w120.admits .port (canAddr (1 : Fin 2) (0x30 + 4 * (3 : Fin 4).val)) = true ∧
      (∀ n, n ∈ wordObjs (3 : Fin 4) (0x80000000#32).toNat → w120.txReqBad (1 : Fin 2) n false = false)) ∧
    (w121.wf = true ∧ w121.can.length = 2 ∧
      w121.admits .port (canAddr (1 : Fin 2) (0x40 + 4 * (0 : Fin 4).val)) = true ∧
      (∃ n, n ∈ wordObjs (0 : Fin 4) (1#32).toNat ∧ n < w121.f (F.CAN_CTL_ZPTX (1 : Fin 2)))) ∧
    (w122.wf = true ∧ w122.can.length = 2 ∧
      w122.admits .port (canAddr (1 : Fin 2) (0x40 + 4 * (3 : Fin 4).val)) = true ∧
      (∀ n, n ∈ wordObjs (3 : Fin 4) (0x80000000#32).toNat → w122.f (F.CAN_CTL_ZPTX (1 : Fin 2)) ≤ n) ∧
      w122.canDrives (1 : Fin 2) = true) ∧
    (w123.wf = true ∧ w123.can.length = 2 ∧
      w123.admits .port (canAddr (1 : Fin 2) (0x40 + 4 * (3 : Fin 4).val)) = true ∧
      (∀ n, n ∈ wordObjs (3 : Fin 4) (0x80000000#32).toNat → w123.f (F.CAN_CTL_ZPTX (1 : Fin 2)) ≤ n) ∧
      w123.canDrives (1 : Fin 2) = false ∧ (w123.cc (1 : Fin 2)).committed = none) ∧
    (w124.wf = true ∧ w124.can.length = 2 ∧ (w124.cc (1 : Fin 2)).cancels.contains (127 : Fin 128).val = true ∧
      w124.objBusy (1 : Fin 2) (127 : Fin 128) = true ∧ (w124.cc (1 : Fin 2)).committed ≠ some (127 : Fin 128).val) ∧
    (w125.wf = true ∧ w125.can.length = 2 ∧ (w125.cc (1 : Fin 2)).cancels.contains (127 : Fin 128).val = true ∧
      w125.objBusy (1 : Fin 2) (127 : Fin 128) = true ∧ (w125.cc (1 : Fin 2)).committed = some (127 : Fin 128).val) ∧
    (w126.wf = true ∧ w126.can.length = 2 ∧ (w126.cc (1 : Fin 2)).cancels.contains (127 : Fin 128).val = true ∧
      w126.objBusy (1 : Fin 2) (127 : Fin 128) = false) ∧
    ((run.cc (1 : Fin 2)).cancels.contains (127 : Fin 128).val = false) ∧
    (w122.can.length = 2 ∧ w122.boot.ticked = true ∧ w122.canDrives (1 : Fin 2) = true ∧
      (w122.cc (1 : Fin 2)).committed = none ∧ (w122.cc (1 : Fin 2)).stopping = false ∧
      w122.lowestKey (1 : Fin 2) ((List.range 128).filter (w122.isPend (1 : Fin 2))) = some 127) ∧
    ((run.boot.ticked = false ∨ run.canDrives (1 : Fin 2) = false ∨ (run.cc (1 : Fin 2)).committed ≠ none ∨ (run.cc (1 : Fin 2)).stopping = true ∨ ∀ k, k < 128 → run.isPend (1 : Fin 2) k = false)) ∧
    (w127.wf = true ∧ w127.can.length = 2 ∧ 127 < 128 ∧ (w127.cc (1 : Fin 2)).committed = some 127 ∧
      (w127.cc (1 : Fin 2)).held = false ∧ (w127.cc (1 : Fin 2)).probes = []) ∧
    (w128.wf = true ∧ w128.can.length = 2 ∧ 127 < 128 ∧ (w128.cc (1 : Fin 2)).committed = some 127 ∧
      (w128.cc (1 : Fin 2)).held = true) ∧
    (w127.wf = true ∧ w127.can.length = 2 ∧ 127 < 128 ∧ (w127.cc (1 : Fin 2)).committed = some 127 ∧
      w127.tec (1 : Fin 2) ≤ 256 ∧ (w127.cc (1 : Fin 2)).stopping = false) ∧
    ((run.cc (1 : Fin 2)).committed = none) ∧
    (w129.wf = true ∧ w129.can.length = 2 ∧ w129.boot.ticked = true ∧ w129.canDrives (1 : Fin 2) = true ∧
      w129.on (F.CAN_STAT_ALONE (1 : Fin 2)) = true ∧ (w129.cc (1 : Fin 2)).probeDue = true ∧
      (w129.cc (1 : Fin 2)).committed = none ∧ (127) < 128 ∧
      w129.lowestKey (1 : Fin 2) ((List.range 128).filter (w129.isPark (1 : Fin 2))) = some (127)) ∧
    (w130.wf = true ∧ w130.can.length = 2 ∧ w130.boot.ticked = true ∧ w130.canDrives (1 : Fin 2) = true ∧
      w130.on (F.CAN_STAT_ALONE (1 : Fin 2)) = true ∧ (w130.cc (1 : Fin 2)).probeDue = true ∧
      (w130.cc (1 : Fin 2)).committed = none ∧ (∀ n, n < 128 → w130.isPark (1 : Fin 2) n = false)) ∧
    ((run.boot.ticked = false ∨ run.canDrives (1 : Fin 2) = false ∨ run.on (F.CAN_STAT_ALONE (1 : Fin 2)) = false ∨ (run.cc (1 : Fin 2)).probeDue = false ∨ (run.cc (1 : Fin 2)).committed ≠ none)) :=
  by and_intros <;> decide +kernel

def w131 : State := zone 0 8 [0x00080007, 0]

def w132 : State := put (zone 0 8 [0x00080007, 0]) [(F.ZP_CFG_VERS, 0)]

def w133 : State := zone 0 4 []

def w134 : State :=
  
    (put (zone 2 8 [0x00080010, 7]) [(F.ZP_PT0_STATE 0 5, 1)]).setPn 0 5 (fun p => { p with offer := some ⟨0x10, 0, 8, 7⟩, waiting := true })

def w135 : State :=
  
    (put (zone 2 8 [0x00080011, 7]) [(F.ZP_PT0_STATE 0 5, 1)]).setPn 0 5 (fun p => { p with offer := some ⟨0x10, 0, 8, 7⟩, waiting := true })

def w136 : State :=
  
    (put (zone 2 8 [0x00080010, 8]) [(F.ZP_PT0_STATE 0 5, 1)]).setPn 0 5 (fun p => { p with offer := some ⟨0x10, 0, 8, 7⟩, waiting := true })

def w137 : State := zone 2 4 []

def w138 : State := zone 2 8 []

def w139 : State := joined 3 0 []

def w140 : State := joined 3 1 []

def w141 : State := zone 3 0 []

def w142 : State := zone 7 1 [3]

def w143 : State := zone 7 2 [3]

/-- What `Obligations.ZonePartnersJoinAndLeave` assumes can be met. -/
theorem wit_ZonePartnersJoinAndLeave :
    (w131.wf = true ∧ w131.zp.length = 2 ∧ (((w131.zpNext 0 65).1).zb (0 : Fin 2)).partners.length = 128 ∧
      w131.zpFront (0 : Fin 2) .join ((w131.zpNext 0 65).1) (w131.zpRx 0 0) ∧ (w131.zpRx 0 0).len = 8 ∧
      ctlFd (w131.zpRx 0 0) = false ∧ 1 ≤ ((w131.zpNext 0 65).1).rxByte (0 : Fin 2) (w131.zpRx 0 0) 0 ∧
      ((w131.zpNext 0 65).1).rxByte (0 : Fin 2) (w131.zpRx 0 0) 0 < 8 ∧
      ((w131.zpNext 0 65).1).rxByte (0 : Fin 2) (w131.zpRx 0 0) 1 < 8 ∧
      isFdSize (((w131.zpNext 0 65).1).rxByte (0 : Fin 2) (w131.zpRx 0 0) 2) = true ∧
      andN (((w131.zpNext 0 65).1).f F.ZP_CFG_VERS) (((w131.zpNext 0 65).1).rxByte (0 : Fin 2) (w131.zpRx 0 0) 0) ≠ 0) ∧
    (w132.wf = true ∧ w132.zp.length = 2 ∧ (((w132.zpNext 0 65).1).zb (0 : Fin 2)).partners.length = 128 ∧
      w132.zpFront (0 : Fin 2) .join ((w132.zpNext 0 65).1) (w132.zpRx 0 0) ∧ (w132.zpRx 0 0).len = 8 ∧
      ctlFd (w132.zpRx 0 0) = false ∧ 1 ≤ ((w132.zpNext 0 65).1).rxByte (0 : Fin 2) (w132.zpRx 0 0) 0 ∧
      ((w132.zpNext 0 65).1).rxByte (0 : Fin 2) (w132.zpRx 0 0) 0 < 8 ∧
      ((w132.zpNext 0 65).1).rxByte (0 : Fin 2) (w132.zpRx 0 0) 1 < 8 ∧
      isFdSize (((w132.zpNext 0 65).1).rxByte (0 : Fin 2) (w132.zpRx 0 0) 2) = true ∧
      andN (((w132.zpNext 0 65).1).f F.ZP_CFG_VERS) (((w132.zpNext 0 65).1).rxByte (0 : Fin 2) (w132.zpRx 0 0) 0) = 0) ∧
    (w133.wf = true ∧ w133.zp.length = 2 ∧ (((w133.zpNext 0 65).1).zb (0 : Fin 2)).partners.length = 128 ∧
      w133.zpFront (0 : Fin 2) .join ((w133.zpNext 0 65).1) (w133.zpRx 0 0) ∧ (w133.zpRx 0 0).len ≠ 8) ∧
    (w134.wf = true ∧ w134.zp.length = 2 ∧ (((w134.zpNext 0 65).1).zb (0 : Fin 2)).partners.length = 128 ∧
      w134.zpFront (0 : Fin 2) .accept ((w134.zpNext 0 65).1) (w134.zpRx 0 0) ∧ (w134.zpRx 0 0).len = 8 ∧
      (((w134.zpNext 0 65).1).pn (0 : Fin 2) (w134.zpRx 0 0).src).offer = some (⟨0x10, 0, 8, 7⟩ : ZpOffer) ∧
      ((w134.zpNext 0 65).1).rxNum (0 : Fin 2) (w134.zpRx 0 0) 4 2 = (⟨0x10, 0, 8, 7⟩ : ZpOffer).session ∧
      ctlFd (w134.zpRx 0 0) = false ∧
      ((w134.zpNext 0 65).1).rxByte (0 : Fin 2) (w134.zpRx 0 0) 0 = (⟨0x10, 0, 8, 7⟩ : ZpOffer).ver ∧
      ((w134.zpNext 0 65).1).rxByte (0 : Fin 2) (w134.zpRx 0 0) 1 = (⟨0x10, 0, 8, 7⟩ : ZpOffer).fmt ∧
      ((w134.zpNext 0 65).1).rxByte (0 : Fin 2) (w134.zpRx 0 0) 2 = (⟨0x10, 0, 8, 7⟩ : ZpOffer).len ∧
      ((w134.zpNext 0 65).1).rxByte (0 : Fin 2) (w134.zpRx 0 0) 3 = 0 ∧
      ((w134.zpNext 0 65).1).rxByte (0 : Fin 2) (w134.zpRx 0 0) 6 = 0 ∧
      ((w134.zpNext 0 65).1).rxByte (0 : Fin 2) (w134.zpRx 0 0) 7 = 0 ∧
      (((w134.zpNext 0 65).1).ptState (0 : Fin 2) (w134.zpRx 0 0).src = 1 ∨ ((w134.zpNext 0 65).1).ptState (0 : Fin 2) (w134.zpRx 0 0).src = 2)) ∧
    (w135.wf = true ∧ w135.zp.length = 2 ∧ (((w135.zpNext 0 65).1).zb (0 : Fin 2)).partners.length = 128 ∧
      w135.zpFront (0 : Fin 2) .accept ((w135.zpNext 0 65).1) (w135.zpRx 0 0) ∧ (w135.zpRx 0 0).len = 8 ∧
      (((w135.zpNext 0 65).1).pn (0 : Fin 2) (w135.zpRx 0 0).src).offer = some (⟨0x10, 0, 8, 7⟩ : ZpOffer) ∧
      ((w135.zpNext 0 65).1).rxNum (0 : Fin 2) (w135.zpRx 0 0) 4 2 = (⟨0x10, 0, 8, 7⟩ : ZpOffer).session ∧
      ctlFd (w135.zpRx 0 0) = false ∧
      (((w135.zpNext 0 65).1).rxByte (0 : Fin 2) (w135.zpRx 0 0) 0 ≠ (⟨0x10, 0, 8, 7⟩ : ZpOffer).ver ∨ ((w135.zpNext 0 65).1).rxByte (0 : Fin 2) (w135.zpRx 0 0) 1 ≠ (⟨0x10, 0, 8, 7⟩ : ZpOffer).fmt ∨ ((w135.zpNext 0 65).1).rxByte (0 : Fin 2) (w135.zpRx 0 0) 2 ≠ (⟨0x10, 0, 8, 7⟩ : ZpOffer).len) ∧
      (((w135.zpNext 0 65).1).pn (0 : Fin 2) (w135.zpRx 0 0).src).hist.length < 15) ∧
    (w136.wf = true ∧ w136.zp.length = 2 ∧ (((w136.zpNext 0 65).1).zb (0 : Fin 2)).partners.length = 128 ∧
      w136.zpFront (0 : Fin 2) .accept ((w136.zpNext 0 65).1) (w136.zpRx 0 0) ∧ (w136.zpRx 0 0).len = 8 ∧
      (((w136.zpNext 0 65).1).pn (0 : Fin 2) (w136.zpRx 0 0).src).offer = some (⟨0x10, 0, 8, 7⟩ : ZpOffer) ∧
      ((w136.zpNext 0 65).1).rxNum (0 : Fin 2) (w136.zpRx 0 0) 4 2 ≠ (⟨0x10, 0, 8, 7⟩ : ZpOffer).session) ∧
    (w137.wf = true ∧ w137.zp.length = 2 ∧ (((w137.zpNext 0 65).1).zb (0 : Fin 2)).partners.length = 128 ∧
      w137.zpFront (0 : Fin 2) .accept ((w137.zpNext 0 65).1) (w137.zpRx 0 0) ∧ (w137.zpRx 0 0).len ≠ 8) ∧
    (w138.wf = true ∧ w138.zp.length = 2 ∧ (((w138.zpNext 0 65).1).zb (0 : Fin 2)).partners.length = 128 ∧
      w138.zpFront (0 : Fin 2) .accept ((w138.zpNext 0 65).1) (w138.zpRx 0 0) ∧ (w138.zpRx 0 0).len = 8 ∧
      (((w138.zpNext 0 65).1).pn (0 : Fin 2) (w138.zpRx 0 0).src).offer = none) ∧
    (w139.wf = true ∧ w139.zp.length = 2 ∧ w139.zpFront (0 : Fin 2) .leave ((w139.zpNext 0 65).1) (w139.zpRx 0 0) ∧
      (w139.zpRx 0 0).len = 0 ∧ ctlFd (w139.zpRx 0 0) = false ∧
      ((w139.zpNext 0 65).1).zpGood (0 : Fin 2) (w139.zpRx 0 0) = true) ∧
    (w140.wf = true ∧ w140.zp.length = 2 ∧ w140.zpFront (0 : Fin 2) .leave ((w140.zpNext 0 65).1) (w140.zpRx 0 0) ∧
      (w140.zpRx 0 0).len ≠ 0) ∧
    (w141.wf = true ∧ w141.zp.length = 2 ∧ w141.zpFront (0 : Fin 2) .leave ((w141.zpNext 0 65).1) (w141.zpRx 0 0) ∧
      (w141.zpRx 0 0).len = 0 ∧ ((w141.zpNext 0 65).1).ptState (0 : Fin 2) (w141.zpRx 0 0).src ≠ 2) ∧
    (w142.wf = true ∧ w142.zp.length = 2 ∧ w142.zpFront (0 : Fin 2) .roll ((w142.zpNext 0 65).1) (w142.zpRx 0 0) ∧
      (w142.zpRx 0 0).len = 1 ∧ ctlFd (w142.zpRx 0 0) = false ∧
      ((w142.zpNext 0 65).1).rxByte (0 : Fin 2) (w142.zpRx 0 0) 0 < 4) ∧
    (w143.wf = true ∧ w143.zp.length = 2 ∧ w143.zpFront (0 : Fin 2) .roll ((w143.zpNext 0 65).1) (w143.zpRx 0 0) ∧
      (w143.zpRx 0 0).len ≠ 1) :=
  by and_intros <;> first | decide +kernel | (simp only [State.zpFront]; decide +kernel)

def w144 : State := joined 4 8 [0x00010005, 0]

def w145 : State := joined 4 8 [0xFFFF, 0]

def w146 : State := (joined 4 8 [0xFFFF, 0]).setPn 0 5 (fun p => { p with expPub := 9, resPub := false })

def w147 : State := joined 4 7 [0xFFFF, 0]

def w148 : State := zone 4 8 [0, 0]

def w149 : State := put (joined 6 8 [99, 999]) [(F.ZP_TIME_TIMENODE, 5), (F.ZP_TIME_TIMEACC, 1)]

def w150 : State := joined 6 8 [99, 999]

def w151 : State := put (joined 6 7 [99, 999]) [(F.ZP_TIME_TIMENODE, 5), (F.ZP_TIME_TIMEACC, 1)]

def w152 : State := put (joined 8 8 [0, 1]) [(F.ZP_MGMTEN 0 0, 32)]

def w153 : State := put (joined 8 8 [0x21FFFC, 1]) [(F.ZP_MGMTEN 0 0, 32)]

def w154 : State := joined 8 8 [0, 1]

def w155 : State := put (joined 9 8 [8, 1]) [(F.ZP_MGMTEN 0 0, 32)]

def w156 : State := joined 9 8 [8, 1]

def w157 : State := joined 8 7 [0, 1]

def w158 : State := joined 9 7 [0, 1]

def w159 : State := (zone 0 8 []).wr (qAddr 0 0 0 0) (2 ^ 29)

def w160 : State := zone 11 8 []

def w161 : State := zone 31 8 []

/-- What `Obligations.ZoneFramesActAndFaultsAreReported` assumes can be met. -/
theorem wit_ZoneFramesActAndFaultsAreReported :
    (w144.wf = true ∧ w144.zp.length = 2 ∧ (((w144.zpNext 0 65).1).zb (0 : Fin 2)).partners.length = 128 ∧
      w144.zpFront (0 : Fin 2) .publish ((w144.zpNext 0 65).1) (w144.zpRx 0 0) ∧
      ((w144.zpNext 0 65).1).zpGood (0 : Fin 2) (w144.zpRx 0 0) = true ∧ (w144.zpRx 0 0).len = 8 ∧
      ((w144.zpNext 0 65).1).rxNum (0 : Fin 2) (w144.zpRx 0 0) 0 2 ≠ 0xFFFF ∧
      ((w144.zpNext 0 65).1).rxByte (0 : Fin 2) (w144.zpRx 0 0) 2 < 4 ∧
      ((w144.zpNext 0 65).1).rxByte (0 : Fin 2) (w144.zpRx 0 0) 3 = 0 ∧
      ((((w144.zpNext 0 65).1).pn (0 : Fin 2) (w144.zpRx 0 0).src).resPub = true ∨ (((w144.zpNext 0 65).1).pn (0 : Fin 2) (w144.zpRx 0 0).src).expPub = (w144.zpRx 0 0).seq)) ∧
    (w145.wf = true ∧ w145.zp.length = 2 ∧ (((w145.zpNext 0 65).1).zb (0 : Fin 2)).partners.length = 128 ∧
      w145.zpFront (0 : Fin 2) .publish ((w145.zpNext 0 65).1) (w145.zpRx 0 0) ∧
      ((w145.zpNext 0 65).1).zpGood (0 : Fin 2) (w145.zpRx 0 0) = true ∧ (w145.zpRx 0 0).len = 8 ∧
      ((w145.zpNext 0 65).1).rxNum (0 : Fin 2) (w145.zpRx 0 0) 0 2 = 0xFFFF ∧
      ((((w145.zpNext 0 65).1).pn (0 : Fin 2) (w145.zpRx 0 0).src).resPub = true ∨ (((w145.zpNext 0 65).1).pn (0 : Fin 2) (w145.zpRx 0 0).src).expPub = (w145.zpRx 0 0).seq)) ∧
    (w146.wf = true ∧ w146.zp.length = 2 ∧ (((w146.zpNext 0 65).1).zb (0 : Fin 2)).partners.length = 128 ∧
      w146.zpFront (0 : Fin 2) .publish ((w146.zpNext 0 65).1) (w146.zpRx 0 0) ∧
      ((w146.zpNext 0 65).1).zpGood (0 : Fin 2) (w146.zpRx 0 0) = true ∧ (w146.zpRx 0 0).len = 8 ∧
      (((w146.zpNext 0 65).1).rxNum (0 : Fin 2) (w146.zpRx 0 0) 0 2 = 0xFFFF ∨ (((w146.zpNext 0 65).1).rxByte (0 : Fin 2) (w146.zpRx 0 0) 2 < 4 ∧
      ((w146.zpNext 0 65).1).rxByte (0 : Fin 2) (w146.zpRx 0 0) 3 = 0)) ∧
      (((w146.zpNext 0 65).1).pn (0 : Fin 2) (w146.zpRx 0 0).src).resPub = false ∧
      (((w146.zpNext 0 65).1).pn (0 : Fin 2) (w146.zpRx 0 0).src).expPub ≠ (w146.zpRx 0 0).seq) ∧
    (w147.wf = true ∧ w147.zp.length = 2 ∧ (((w147.zpNext 0 65).1).zb (0 : Fin 2)).partners.length = 128 ∧
      w147.zpFront (0 : Fin 2) .publish ((w147.zpNext 0 65).1) (w147.zpRx 0 0) ∧
      (isFdSize (w147.zpRx 0 0).len && (w147.zpRx 0 0).len % 8 == 0) = false) ∧
    (w148.wf = true ∧ w148.zp.length = 2 ∧ (((w148.zpNext 0 65).1).zb (0 : Fin 2)).partners.length = 128 ∧
      w148.zpFront (0 : Fin 2) .publish ((w148.zpNext 0 65).1) (w148.zpRx 0 0) ∧
      ((w148.zpNext 0 65).1).ptState (0 : Fin 2) (w148.zpRx 0 0).src ≠ 2 ∧ (w148.zpRx 0 0).len = 8 ∧
      ((w148.zpNext 0 65).1).rxByte (0 : Fin 2) (w148.zpRx 0 0) 2 < 4 ∧
      ((w148.zpNext 0 65).1).rxByte (0 : Fin 2) (w148.zpRx 0 0) 3 = 0) ∧
    (w149.wf = true ∧ w149.zp.length = 2 ∧ w149.zpFront (0 : Fin 2) .time ((w149.zpNext 0 65).1) (w149.zpRx 0 0) ∧
      (w149.zpRx 0 0).src = ((w149.zpNext 0 65).1).f F.ZP_TIME_TIMENODE ∧
      (0 : Fin 2).val = ((w149.zpNext 0 65).1).f F.ZP_TIME_TIMEBUS ∧
      ((w149.zpNext 0 65).1).zpGood (0 : Fin 2) (w149.zpRx 0 0) = true ∧ (w149.zpRx 0 0).len = 8 ∧
      ctlFd (w149.zpRx 0 0) = false ∧ ((w149.zpNext 0 65).1).rxNum (0 : Fin 2) (w149.zpRx 0 0) 4 2 ≤ 999 ∧
      ((w149.zpNext 0 65).1).rxByte (0 : Fin 2) (w149.zpRx 0 0) 6 = 0 ∧
      ((w149.zpNext 0 65).1).rxByte (0 : Fin 2) (w149.zpRx 0 0) 7 = 0) ∧
    (w150.wf = true ∧ w150.zp.length = 2 ∧ w150.zpFront (0 : Fin 2) .time ((w150.zpNext 0 65).1) (w150.zpRx 0 0) ∧
      ((w150.zpRx 0 0).src ≠ ((w150.zpNext 0 65).1).f F.ZP_TIME_TIMENODE ∨ (0 : Fin 2).val ≠ ((w150.zpNext 0 65).1).f F.ZP_TIME_TIMEBUS)) ∧
    (w151.wf = true ∧ w151.zp.length = 2 ∧ w151.zpFront (0 : Fin 2) .time ((w151.zpNext 0 65).1) (w151.zpRx 0 0) ∧
      (w151.zpRx 0 0).src = ((w151.zpNext 0 65).1).f F.ZP_TIME_TIMENODE ∧
      (0 : Fin 2).val = ((w151.zpNext 0 65).1).f F.ZP_TIME_TIMEBUS ∧ (w151.zpRx 0 0).len ≠ 8) ∧
    (w152.wf = true ∧ w152.zp.length = 2 ∧ (((w152.zpNext 0 65).1).zb (0 : Fin 2)).partners.length = 128 ∧
      w152.zpFront (0 : Fin 2) .mgmtRead ((w152.zpNext 0 65).1) (w152.zpRx 0 0) ∧
      ((w152.zpNext 0 65).1).zpGood (0 : Fin 2) (w152.zpRx 0 0) = true ∧ (w152.zpRx 0 0).len = 8 ∧
      0 = ((w152.zpNext 0 65).1).rxNum (0 : Fin 2) (w152.zpRx 0 0) 0 4 ∧
      1 = ((w152.zpNext 0 65).1).rxByte (0 : Fin 2) (w152.zpRx 0 0) 4 ∧ 0 % 4 = 0 ∧ 1 ≤ 1 ∧ 1 ≤ 15 ∧
      4 + 4 * 1 ≤ ((w152.zpNext 0 65).1).f (F.ZP_PT0_LEN (0 : Fin 2) (w152.zpRx 0 0).src) ∧
      ((w152.zpNext 0 65).1).rxByte (0 : Fin 2) (w152.zpRx 0 0) 5 = 0 ∧
      ((w152.zpNext 0 65).1).rxByte (0 : Fin 2) (w152.zpRx 0 0) 6 = 0 ∧
      ((w152.zpNext 0 65).1).rxByte (0 : Fin 2) (w152.zpRx 0 0) 7 = 0 ∧
      2 ≤ ((w152.zpNext 0 65).1).f (F.ZP_PT0_VER (0 : Fin 2) (w152.zpRx 0 0).src) ∧
      (((w152.zpNext 0 65).1).zb (0 : Fin 2)).wait.length < 256 ∧
      ((((w152.zpNext 0 65).1).pn (0 : Fin 2) (w152.zpRx 0 0).src).resDir = true ∨ (((w152.zpNext 0 65).1).pn (0 : Fin 2) (w152.zpRx 0 0).src).expDir = (w152.zpRx 0 0).seq) ∧
      bit (((w152.zpNext 0 65).1).f (F.ZP_MGMTEN (0 : Fin 2) ((w152.zpRx 0 0).src / 32))) ((w152.zpRx 0 0).src % 32) = true ∧
      0 + 4 * 1 ≤ 0x200000) ∧
    (w153.wf = true ∧ w153.zp.length = 2 ∧ (((w153.zpNext 0 65).1).zb (0 : Fin 2)).partners.length = 128 ∧
      w153.zpFront (0 : Fin 2) .mgmtRead ((w153.zpNext 0 65).1) (w153.zpRx 0 0) ∧
      ((w153.zpNext 0 65).1).zpGood (0 : Fin 2) (w153.zpRx 0 0) = true ∧ (w153.zpRx 0 0).len = 8 ∧
      0x21FFFC = ((w153.zpNext 0 65).1).rxNum (0 : Fin 2) (w153.zpRx 0 0) 0 4 ∧
      1 = ((w153.zpNext 0 65).1).rxByte (0 : Fin 2) (w153.zpRx 0 0) 4 ∧ 0x21FFFC % 4 = 0 ∧ 1 ≤ 1 ∧ 1 ≤ 15 ∧
      4 + 4 * 1 ≤ ((w153.zpNext 0 65).1).f (F.ZP_PT0_LEN (0 : Fin 2) (w153.zpRx 0 0).src) ∧
      ((w153.zpNext 0 65).1).rxByte (0 : Fin 2) (w153.zpRx 0 0) 5 = 0 ∧
      ((w153.zpNext 0 65).1).rxByte (0 : Fin 2) (w153.zpRx 0 0) 6 = 0 ∧
      ((w153.zpNext 0 65).1).rxByte (0 : Fin 2) (w153.zpRx 0 0) 7 = 0 ∧
      2 ≤ ((w153.zpNext 0 65).1).f (F.ZP_PT0_VER (0 : Fin 2) (w153.zpRx 0 0).src) ∧
      (((w153.zpNext 0 65).1).zb (0 : Fin 2)).wait.length < 256 ∧
      ((((w153.zpNext 0 65).1).pn (0 : Fin 2) (w153.zpRx 0 0).src).resDir = true ∨ (((w153.zpNext 0 65).1).pn (0 : Fin 2) (w153.zpRx 0 0).src).expDir = (w153.zpRx 0 0).seq) ∧
      bit (((w153.zpNext 0 65).1).f (F.ZP_MGMTEN (0 : Fin 2) ((w153.zpRx 0 0).src / 32))) ((w153.zpRx 0 0).src % 32) = true ∧
      0x200000 ≤ 0x21FFFC ∧ 0x21FFFC + 4 * 1 ≤ 0x220000) ∧
    (w152.wf = true ∧ w152.zp.length = 2 ∧ (((w152.zpNext 0 65).1).zb (0 : Fin 2)).partners.length = 128 ∧
      w152.zpFront (0 : Fin 2) .mgmtRead ((w152.zpNext 0 65).1) (w152.zpRx 0 0) ∧
      ((w152.zpNext 0 65).1).zpGood (0 : Fin 2) (w152.zpRx 0 0) = true ∧ (w152.zpRx 0 0).len = 8 ∧
      0 = ((w152.zpNext 0 65).1).rxNum (0 : Fin 2) (w152.zpRx 0 0) 0 4 ∧
      1 = ((w152.zpNext 0 65).1).rxByte (0 : Fin 2) (w152.zpRx 0 0) 4 ∧ 0 % 4 = 0 ∧ 1 ≤ 1 ∧ 1 ≤ 15 ∧
      4 + 4 * 1 ≤ ((w152.zpNext 0 65).1).f (F.ZP_PT0_LEN (0 : Fin 2) (w152.zpRx 0 0).src) ∧
      ((w152.zpNext 0 65).1).rxByte (0 : Fin 2) (w152.zpRx 0 0) 5 = 0 ∧
      ((w152.zpNext 0 65).1).rxByte (0 : Fin 2) (w152.zpRx 0 0) 6 = 0 ∧
      ((w152.zpNext 0 65).1).rxByte (0 : Fin 2) (w152.zpRx 0 0) 7 = 0 ∧
      2 ≤ ((w152.zpNext 0 65).1).f (F.ZP_PT0_VER (0 : Fin 2) (w152.zpRx 0 0).src) ∧
      (((w152.zpNext 0 65).1).zb (0 : Fin 2)).wait.length < 256 ∧
      ((((w152.zpNext 0 65).1).pn (0 : Fin 2) (w152.zpRx 0 0).src).resDir = true ∨ (((w152.zpNext 0 65).1).pn (0 : Fin 2) (w152.zpRx 0 0).src).expDir = (w152.zpRx 0 0).seq) ∧
      bit (((w152.zpNext 0 65).1).f (F.ZP_MGMTEN (0 : Fin 2) ((w152.zpRx 0 0).src / 32))) ((w152.zpRx 0 0).src % 32) = true ∧
      0 + 4 * 1 ≤ 0x220000) ∧
    (w154.wf = true ∧ w154.zp.length = 2 ∧ (((w154.zpNext 0 65).1).zb (0 : Fin 2)).partners.length = 128 ∧
      w154.zpFront (0 : Fin 2) .mgmtRead ((w154.zpNext 0 65).1) (w154.zpRx 0 0) ∧
      ((w154.zpNext 0 65).1).zpGood (0 : Fin 2) (w154.zpRx 0 0) = true ∧ (w154.zpRx 0 0).len = 8 ∧
      0 = ((w154.zpNext 0 65).1).rxNum (0 : Fin 2) (w154.zpRx 0 0) 0 4 ∧
      1 = ((w154.zpNext 0 65).1).rxByte (0 : Fin 2) (w154.zpRx 0 0) 4 ∧ 0 % 4 = 0 ∧ 1 ≤ 1 ∧ 1 ≤ 15 ∧
      4 + 4 * 1 ≤ ((w154.zpNext 0 65).1).f (F.ZP_PT0_LEN (0 : Fin 2) (w154.zpRx 0 0).src) ∧
      ((w154.zpNext 0 65).1).rxByte (0 : Fin 2) (w154.zpRx 0 0) 5 = 0 ∧
      ((w154.zpNext 0 65).1).rxByte (0 : Fin 2) (w154.zpRx 0 0) 6 = 0 ∧
      ((w154.zpNext 0 65).1).rxByte (0 : Fin 2) (w154.zpRx 0 0) 7 = 0 ∧
      2 ≤ ((w154.zpNext 0 65).1).f (F.ZP_PT0_VER (0 : Fin 2) (w154.zpRx 0 0).src) ∧
      (((w154.zpNext 0 65).1).zb (0 : Fin 2)).wait.length < 256 ∧
      ((((w154.zpNext 0 65).1).pn (0 : Fin 2) (w154.zpRx 0 0).src).resDir = true ∨ (((w154.zpNext 0 65).1).pn (0 : Fin 2) (w154.zpRx 0 0).src).expDir = (w154.zpRx 0 0).seq) ∧
      bit (((w154.zpNext 0 65).1).f (F.ZP_MGMTEN (0 : Fin 2) ((w154.zpRx 0 0).src / 32))) ((w154.zpRx 0 0).src % 32) = false) ∧
    (w155.wf = true ∧ w155.zp.length = 2 ∧ (((w155.zpNext 0 65).1).zb (0 : Fin 2)).partners.length = 128 ∧
      w155.zpFront (0 : Fin 2) .mgmtWrite ((w155.zpNext 0 65).1) (w155.zpRx 0 0) ∧
      ((w155.zpNext 0 65).1).zpGood (0 : Fin 2) (w155.zpRx 0 0) = true ∧ (w155.zpRx 0 0).len = 8 ∧
      8 = ((w155.zpNext 0 65).1).rxNum (0 : Fin 2) (w155.zpRx 0 0) 0 4 ∧ 8 % 4 = 0 ∧
      2 ≤ ((w155.zpNext 0 65).1).f (F.ZP_PT0_VER (0 : Fin 2) (w155.zpRx 0 0).src) ∧
      (((w155.zpNext 0 65).1).zb (0 : Fin 2)).wait.length < 256 ∧ inFolio 8 = false ∧ mapped 8 = true ∧
      ((((w155.zpNext 0 65).1).pn (0 : Fin 2) (w155.zpRx 0 0).src).resDir = true ∨ (((w155.zpNext 0 65).1).pn (0 : Fin 2) (w155.zpRx 0 0).src).expDir = (w155.zpRx 0 0).seq) ∧
      ((((((w155.zpNext 0 65).1).zpHeard (0 : Fin 2) (w155.zpRx 0 0).src).zpSeq (0 : Fin 2) (w155.zpRx 0 0) false).setZb (0 : Fin 2) (fun z => { z with mgmt := some ⟨(w155.zpRx 0 0).src, (w155.zpRx 0 0).seq, true, (w155.zpRx 0 0).e⟩ }))) = (((((w155.zpNext 0 65).1).zpHeard (0 : Fin 2) (w155.zpRx 0 0).src).zpSeq (0 : Fin 2) (w155.zpRx 0 0) false).setZb (0 : Fin 2) (fun z => { z with mgmt := some ⟨(w155.zpRx 0 0).src, (w155.zpRx 0 0).seq, true, (w155.zpRx 0 0).e⟩ })) ∧
      bit (((w155.zpNext 0 65).1).f (F.ZP_MGMTEN (0 : Fin 2) ((w155.zpRx 0 0).src / 32))) ((w155.zpRx 0 0).src % 32) = true) ∧
    (w155.wf = true ∧ w155.zp.length = 2 ∧ (((w155.zpNext 0 65).1).zb (0 : Fin 2)).partners.length = 128 ∧
      w155.zpFront (0 : Fin 2) .mgmtWrite ((w155.zpNext 0 65).1) (w155.zpRx 0 0) ∧
      ((w155.zpNext 0 65).1).zpGood (0 : Fin 2) (w155.zpRx 0 0) = true ∧ (w155.zpRx 0 0).len = 8 ∧
      8 = ((w155.zpNext 0 65).1).rxNum (0 : Fin 2) (w155.zpRx 0 0) 0 4 ∧ 8 % 4 = 0 ∧
      2 ≤ ((w155.zpNext 0 65).1).f (F.ZP_PT0_VER (0 : Fin 2) (w155.zpRx 0 0).src) ∧
      (((w155.zpNext 0 65).1).zb (0 : Fin 2)).wait.length < 256 ∧ inFolio 8 = false ∧ mapped 8 = true ∧
      ((((w155.zpNext 0 65).1).pn (0 : Fin 2) (w155.zpRx 0 0).src).resDir = true ∨ (((w155.zpNext 0 65).1).pn (0 : Fin 2) (w155.zpRx 0 0).src).expDir = (w155.zpRx 0 0).seq) ∧
      ((((((w155.zpNext 0 65).1).zpHeard (0 : Fin 2) (w155.zpRx 0 0).src).zpSeq (0 : Fin 2) (w155.zpRx 0 0) false).setZb (0 : Fin 2) (fun z => { z with mgmt := some ⟨(w155.zpRx 0 0).src, (w155.zpRx 0 0).seq, true, (w155.zpRx 0 0).e⟩ }))) = (((((w155.zpNext 0 65).1).zpHeard (0 : Fin 2) (w155.zpRx 0 0).src).zpSeq (0 : Fin 2) (w155.zpRx 0 0) false).setZb (0 : Fin 2) (fun z => { z with mgmt := some ⟨(w155.zpRx 0 0).src, (w155.zpRx 0 0).seq, true, (w155.zpRx 0 0).e⟩ })) ∧
      bit (((w155.zpNext 0 65).1).f (F.ZP_MGMTEN (0 : Fin 2) ((w155.zpRx 0 0).src / 32))) ((w155.zpRx 0 0).src % 32) = true) ∧
    (w156.wf = true ∧ w156.zp.length = 2 ∧ (((w156.zpNext 0 65).1).zb (0 : Fin 2)).partners.length = 128 ∧
      w156.zpFront (0 : Fin 2) .mgmtWrite ((w156.zpNext 0 65).1) (w156.zpRx 0 0) ∧
      ((w156.zpNext 0 65).1).zpGood (0 : Fin 2) (w156.zpRx 0 0) = true ∧ (w156.zpRx 0 0).len = 8 ∧
      8 = ((w156.zpNext 0 65).1).rxNum (0 : Fin 2) (w156.zpRx 0 0) 0 4 ∧ 8 % 4 = 0 ∧
      2 ≤ ((w156.zpNext 0 65).1).f (F.ZP_PT0_VER (0 : Fin 2) (w156.zpRx 0 0).src) ∧
      (((w156.zpNext 0 65).1).zb (0 : Fin 2)).wait.length < 256 ∧ inFolio 8 = false ∧ mapped 8 = true ∧
      ((((w156.zpNext 0 65).1).pn (0 : Fin 2) (w156.zpRx 0 0).src).resDir = true ∨ (((w156.zpNext 0 65).1).pn (0 : Fin 2) (w156.zpRx 0 0).src).expDir = (w156.zpRx 0 0).seq) ∧
      ((((((w156.zpNext 0 65).1).zpHeard (0 : Fin 2) (w156.zpRx 0 0).src).zpSeq (0 : Fin 2) (w156.zpRx 0 0) false).setZb (0 : Fin 2) (fun z => { z with mgmt := some ⟨(w156.zpRx 0 0).src, (w156.zpRx 0 0).seq, true, (w156.zpRx 0 0).e⟩ }))) = (((((w156.zpNext 0 65).1).zpHeard (0 : Fin 2) (w156.zpRx 0 0).src).zpSeq (0 : Fin 2) (w156.zpRx 0 0) false).setZb (0 : Fin 2) (fun z => { z with mgmt := some ⟨(w156.zpRx 0 0).src, (w156.zpRx 0 0).seq, true, (w156.zpRx 0 0).e⟩ })) ∧
      bit (((w156.zpNext 0 65).1).f (F.ZP_MGMTEN (0 : Fin 2) ((w156.zpRx 0 0).src / 32))) ((w156.zpRx 0 0).src % 32) = false) ∧
    (w157.wf = true ∧ w157.zp.length = 2 ∧
      w157.zpFront (0 : Fin 2) .mgmtRead ((w157.zpNext 0 65).1) (w157.zpRx 0 0)) ∧
    (w158.wf = true ∧ w158.zp.length = 2 ∧
      w158.zpFront (0 : Fin 2) .mgmtWrite ((w158.zpNext 0 65).1) (w158.zpRx 0 0)) ∧
    (w159.wf = true ∧ w159.zpFront (0 : Fin 2) .badSource ((w159.zpNext 0 65).1) (w159.zpRx 0 0)) ∧
    (w160.wf = true ∧ w160.zpFront (0 : Fin 2) .nak ((w160.zpNext 0 65).1) (w160.zpRx 0 0)) ∧
    (w161.wf = true ∧ w161.zp.length = 2 ∧ (((w161.zpNext 0 65).1).zb (0 : Fin 2)).partners.length = 128 ∧
      w161.zpFront (0 : Fin 2) .unknown ((w161.zpNext 0 65).1) (w161.zpRx 0 0)) :=
  by and_intros <;> first | decide +kernel | (simp only [State.zpFront]; decide +kernel)

def w162 : State := (zone 0 0 []).setPn 0 5 (fun p => { p with waiting := true })

def w163 : State := put (joined 0 0 []) [(F.ZP_PT0_HEARD 0 5, 255)]

def w164 : State := put run [(F.ZP_PT0_STATE 1 126, 3)]

def w165 : State := run.setZb 1 (fun z => { z with holdEnd := true })

def w166 : State := (zone 0 0 []).setZb 0 (fun z => { z with rollDue := true })

def w167 : State :=
  
    (put (zone 0 0 []) [(F.CAN_CTL_ZPTX 0, 4)]).setZb 0 (fun z => { z with wait := [⟨7, 127, false, false, [], []⟩] })

def w168 : State :=
  (put (zone 0 0 []) [(F.CAN_CTL_ZPTX 0, 4)]).setZb 0 (fun z => { z with wait := [⟨4, 127, true, false, [], []⟩] })

def w169 : State := zone 0 0 []

/-- What `Obligations.ZoneTimeoutsAct` assumes can be met. -/
theorem wit_ZoneTimeoutsAct :
    (w162.wf = true ∧ w162.zp.length = 2 ∧ (w162.zb (0 : Fin 2)).partners.length = 128 ∧
      w162.zpRuns (0 : Fin 2) = true ∧ (w162.pn (0 : Fin 2) (5 : Fin 128)).waiting = true ∧
      w162.zpOfferSent (0 : Fin 2) (5 : Fin 128) = true) ∧
    (run.wf = true ∧ run.zp.length = 2 ∧ (run.zb (1 : Fin 2)).partners.length = 128 ∧
      (run.zpRuns (1 : Fin 2) = false ∨ (run.pn (1 : Fin 2) (127 : Fin 128)).waiting = false ∨ run.zpOfferSent (1 : Fin 2) (127 : Fin 128) = false)) ∧
    (w163.wf = true ∧ w163.zp.length = 2 ∧ (w163.zb (0 : Fin 2)).partners.length = 128 ∧
      w163.zpEn (0 : Fin 2) = true ∧ w163.ptState (0 : Fin 2) (5 : Fin 128) = 2 ∧
      w163.f F.ZP_CFG_LOSTTO ≤ w163.f (F.ZP_PT0_HEARD (0 : Fin 2) (5 : Fin 128))) ∧
    (run.wf = true ∧ run.zp.length = 2 ∧ (run.zb (1 : Fin 2)).partners.length = 128 ∧
      (run.zpEn (1 : Fin 2) = false ∨ run.ptState (1 : Fin 2) (127 : Fin 128) ≠ 2 ∨ run.f (F.ZP_PT0_HEARD (1 : Fin 2) (127 : Fin 128)) < run.f F.ZP_CFG_LOSTTO)) ∧
    (w164.wf = true ∧ w164.zp.length = 2 ∧ (w164.zb (1 : Fin 2)).partners.length = 128 ∧
      w164.ptState (1 : Fin 2) (126 : Fin 128) = 3 ∧ w164.f (F.ZP_PT1_QLEFT (1 : Fin 2) (126 : Fin 128)) = 0) ∧
    (run.wf = true ∧ run.zp.length = 2 ∧ (run.zb (1 : Fin 2)).partners.length = 128 ∧
      (run.ptState (1 : Fin 2) (127 : Fin 128) ≠ 3 ∨ run.f (F.ZP_PT1_QLEFT (1 : Fin 2) (127 : Fin 128)) ≠ 0)) ∧
    (w165.wf = true ∧ w165.zp.length = 2 ∧ (w165.zb (1 : Fin 2)).holdEnd = true) ∧
    (run.wf = true ∧ run.zp.length = 2 ∧ (run.zb (1 : Fin 2)).holdEnd = false) ∧
    (w166.wf = true ∧ w166.zp.length = 2 ∧ w166.zpRuns (0 : Fin 2) = true ∧ (w166.zb (0 : Fin 2)).rollDue = true) ∧
    (run.wf = true ∧ run.zp.length = 2 ∧ (run.zpRuns (1 : Fin 2) = false ∨ (run.zb (1 : Fin 2)).rollDue = false)) ∧
    (w167.wf = true ∧ w167.zp.length = 2 ∧ w167.zpRuns (0 : Fin 2) = true ∧
      (((put (zone 0 0 []) [(F.CAN_CTL_ZPTX 0, 4)]).setZb 0 (fun z => { z with wait := [⟨7, 127, false, false, [], []⟩] })).zpSettle 0) = w167.zpSettle (0 : Fin 2) ∧
      (((put (zone 0 0 []) [(F.CAN_CTL_ZPTX 0, 4)]).setZb 0 (fun z => { z with wait := [⟨7, 127, false, false, [], []⟩] })).zpSettle 0).zpPick (0 : Fin 2) [] ((((put (zone 0 0 []) [(F.CAN_CTL_ZPTX 0, 4)]).setZb 0 (fun z => { z with wait := [⟨7, 127, false, false, [], []⟩] })).zpSettle 0).zb (0 : Fin 2)).wait = some (0, (⟨7, 127, false, false, [], []⟩ : ZpFrame), ([] : List ZpFrame)) ∧
      ((⟨7, 127, false, false, [], []⟩ : ZpFrame).fd = false ∨ (w167.on (F.CAN_CTL_FDOE (0 : Fin 2)) = true ∧
      w167.on (F.CAN_CTL_FDTX (0 : Fin 2)) = true))) ∧
    (w168.wf = true ∧ w168.zp.length = 2 ∧ w168.zpRuns (0 : Fin 2) = true ∧
      (((put (zone 0 0 []) [(F.CAN_CTL_ZPTX 0, 4)]).setZb 0 (fun z => { z with wait := [⟨4, 127, true, false, [], []⟩] })).zpSettle 0) = w168.zpSettle (0 : Fin 2) ∧
      (((put (zone 0 0 []) [(F.CAN_CTL_ZPTX 0, 4)]).setZb 0 (fun z => { z with wait := [⟨4, 127, true, false, [], []⟩] })).zpSettle 0).zpPick (0 : Fin 2) [] ((((put (zone 0 0 []) [(F.CAN_CTL_ZPTX 0, 4)]).setZb 0 (fun z => { z with wait := [⟨4, 127, true, false, [], []⟩] })).zpSettle 0).zb (0 : Fin 2)).wait = some (1, (⟨4, 127, true, false, [], []⟩ : ZpFrame), ([] : List ZpFrame)) ∧
      (⟨4, 127, true, false, [], []⟩ : ZpFrame).fd = true ∧
      (w168.on (F.CAN_CTL_FDOE (0 : Fin 2)) = false ∨ w168.on (F.CAN_CTL_FDTX (0 : Fin 2)) = false)) ∧
    (w169.zpRuns (0 : Fin 2) = true ∧
      (w169.zpSettle (0 : Fin 2)).zpPick (0 : Fin 2) [] ((w169.zpSettle (0 : Fin 2)).zb (0 : Fin 2)).wait = none) :=
  by and_intros <;> decide +kernel

def w170 : State := paired 1

def w171 : State := paired 4

def w172 : State := paired 2

def w173 : State := paired 3

/-- What `Obligations.SelectionMakesAndUnmakesActive` assumes can be met. -/
theorem wit_SelectionMakesAndUnmakesActive :
    (w170.wf = true ∧ w170.ce.drives.length = 6 ∧ w170.pwm.groups.length = 6 ∧ w170.selLive = true ∧
      w170.standby = true) ∧
    (w171.wf = true ∧ w171.selLive = true ∧ w171.unitCode = 4) ∧
    (w172.wf = true ∧ w172.selLive = true ∧ (w172.unitCode = 0 ∨ w172.unitCode = 2)) ∧
    (w172.wf = true ∧ w172.can.length = 2 ∧ w172.ce.drives.length = 6 ∧ w172.selLive = true ∧
      (w172.unitCode = 0 ∨ w172.unitCode = 2)) ∧
    (w173.wf = true ∧ w173.selLive = true ∧ w173.unitCode ≠ 0 ∧ w173.unitCode ≠ 2) ∧
    (run.selLive = false) :=
  by and_intros <;> decide +kernel

def w174 : State :=
  { mem (put (paired 2) [(F.PAIR_PLANA_KIND 0, 1), (F.PAIR_PLANA_COUNT 0, 1),
    (F.PAIR_PLANB_VOFS 0, 0x100)]) [(0x100000, 2 ^ 24),
    (0x220100, 2 ^ 28)] with pair := { Pair.reset with stage := .up, vaultEmpty := false } }

def w175 : State := { paired 2 with pair := { Pair.reset with since := 100000000 } }

def w176 : State := { paired 2 with pair := { Pair.reset with since := 100000000, calOn := true } }

def w177 : State :=
  { paired 2 with pair := { Pair.reset with since := 100000000, seqOn := true, restored := true } }

def w178 : State := { paired 1 with pair := { Pair.reset with testDue := true } }

/-- What `Obligations.TakeoverStagesAndSelfTest` assumes can be met. -/
theorem wit_TakeoverStagesAndSelfTest :
    (w172.wf = true ∧ w172.restoring = true ∧ w172.pair.restored = false) ∧
    (w172.wf = true ∧ w172.restoring = true ∧ w172.pair.restored = false ∧ w172.pair.vaultEmpty = true ∧
      (∀ c, c ∈ w172.boot.loops → 0x118000 ≤ c.1 ∧ c.1 < 0x124000)) ∧
    (w174.wf = true ∧ w174.restoring = true ∧ w174.pair.restored = false ∧ w174.pair.vaultEmpty = false ∧
      w174.planSlots = [(⟨1, 0, 1, 0x100, 24⟩ : Slot)] ∧ (⟨1, 0, 1, 0x100, 24⟩ : Slot).kind = 1 ∧
      w174.slotEmpty (⟨1, 0, 1, 0x100, 24⟩ : Slot) = false ∧ w174.vaultCold = false ∧
      w174.loopSec0 (⟨1, 0, 1, 0x100, 24⟩ : Slot).index + w174.loopNsec (⟨1, 0, 1, 0x100, 24⟩ : Slot).index ≤ 2048) ∧
    (w175.restoring = true ∧ w175.frameW ≤ w175.pair.since) ∧
    (w176.wf = true ∧ (⟨List.replicate 5 ⟨0, 0, []⟩, List.replicate 4 0, [0, 50]⟩ : CalResults).wf = true ∧
      w176.restoring = true ∧ w176.pair.calOn = true ∧ w176.pair.seqOn = false ∧
      w176.frameW + w176.frameK ≤ w176.pair.since) ∧
    (w177.wf = true ∧ w177.can.length = 2 ∧ w177.restoring = true ∧ w177.pair.seqOn = true ∧
      w177.pair.restored = true ∧ w177.frameW + w177.frameK + 1 ≤ w177.pair.since) ∧
    ((⟨List.replicate 5 ⟨0, 0, []⟩, List.replicate 4 0, [0, 50]⟩ : CalResults).wf = true ∧
      (run.restoring = false ∨ run.pair.restored = true)) ∧
    ((⟨List.replicate 5 ⟨0, 0, []⟩, List.replicate 4 0, [0, 50]⟩ : CalResults).wf = true ∧
      (run.restoring = false ∨ run.pair.since < run.frameW)) ∧
    ((⟨List.replicate 5 ⟨0, 0, []⟩, List.replicate 4 0, [0, 50]⟩ : CalResults).wf = true ∧
      (run.restoring = false ∨ run.pair.calOn = false ∨ run.pair.seqOn = true ∨ run.pair.since < run.frameW + run.frameK)) ∧
    ((⟨List.replicate 5 ⟨0, 0, []⟩, List.replicate 4 0, [0, 50]⟩ : CalResults).wf = true ∧
      (run.restoring = false ∨ run.pair.seqOn = false ∨ run.pair.restored = false ∨ run.pair.since ≤ run.frameW + run.frameK)) ∧
    (run.admits .port F.PAIR_SWAP_REQ.addr = true ∧ bit (1#32).toNat 0 = true ∧ run.active = true) ∧
    (w170.admits .port F.PAIR_SWAP_REQ.addr = true ∧ bit (1#32).toNat 0 = true ∧ w170.active = false) ∧
    (run.admits .port F.PAIR_SWAP_REQ.addr = true ∧ bit (0#32).toNat 0 = false) ∧
    (w178.wf = true ∧ (⟨none, [0, 0, 0], []⟩ : SelfTestResult).wf = true ∧ w178.pair.testDue = true ∧
      w178.standby = true ∧ w178.folFree = true) ∧
    (w170.wf = true ∧ (⟨none, [0, 0, 0], []⟩ : SelfTestResult).wf = true ∧
      (w170.pair.testDue = false ∨ w170.standby = false ∨ w170.folFree = false)) :=
  by and_intros <;> decide +kernel

def w179 : State := { run with pair := { Pair.reset with healthDue := true } }

/-- What `Obligations.HealthIsSentAndRead` assumes can be met. -/
theorem wit_HealthIsSentAndRead :
    (w179.wf = true ∧
      ({ run with pair := { Pair.reset with healthDue := false } }) = w179.setPair (fun p => { p with swapLeft := p.swapLeft - 1, healthDue := false }) ∧
      w179.pair.healthDue = true) ∧
    (run.wf = true ∧ (run) = run.setPair (fun p => { p with swapLeft := p.swapLeft - 1, healthDue := false }) ∧
      run.pair.healthDue = false) ∧
    (17 ≤ ({ CurUnit.reset with quiet := 17 } : CurUnit).quiet) ∧
    (({ Pair.reset with cur := [{ CurUnit.reset with alive := true, word := some 1 }, .reset], sel := some 0 } : Pair).decide = ((none : Option Nat), some 0)) ∧
    (w17.pwm.gps.length = 32 ∧ w17.curator = true ∧ w17.boot.ticked = true ∧ w17.boot.counting = true ∧
      w17.halted = false ∧
      ({ Pair.reset with cur := [(((put run [(F.PAIR_CFG_MODE, 2)]).pair.unit 0).heart true).health true, (((put run [(F.PAIR_CFG_MODE, 2)]).pair.unit 1).heart true).health true] } : Pair) = { w17.pair with cur := [((w17.pair.unit 0).heart (true : Bool)).health (true : Bool), ((w17.pair.unit 1).heart (true : Bool)).health (true : Bool)] }) ∧
    ((run.curator = false ∨ run.boot.ticked = false ∨ run.boot.counting = false ∨ run.halted = true)) :=
  by and_intros <;> decide +kernel

def w180 : State := { paired 1 with pair := .reset }

def w181 : State := { paired 1 with pair := { Pair.reset with stage := .caps } }

def w182 : State := { paired 1 with pair := { Pair.reset with stage := .lock } }

def w183 : State := { put (paired 1) [(F.PAIR_CFG_LVERS, 2)] with pair := { Pair.reset with stage := .caps } }

/-- What `Obligations.LinkComesUp` assumes can be met. -/
theorem wit_LinkComesUp :
    (w180.wf = true ∧ w180.linkMay = true ∧ w180.linkUp = false) ∧
    (run.wf = true ∧ (run.linkMay = false ∨ run.linkUp = true)) ∧
    ((w181.pair.stage = .lock ∨ w181.pair.stage = .caps)) ∧
    (run.pair.stage ≠ .lock ∧ run.pair.stage ≠ .caps) ∧
    (w182.pair.stage = .lock ∧ w182.pair.slow = false) ∧
    ((run.pair.stage ≠ .lock ∨ run.pair.slow = true)) ∧
    (w183.wf = true ∧ w183.pair.stage = .caps ∧
      andN (⟨3, true, false⟩ : CapsRec).vers.toNat (w183.f F.PAIR_CFG_LVERS) ≠ 0) ∧
    (w181.wf = true ∧ w181.pair.stage = .caps ∧
      andN (⟨0, true, false⟩ : CapsRec).vers.toNat (w181.f F.PAIR_CFG_LVERS) = 0) ∧
    (run.wf = true ∧ run.pair.stage ≠ .caps) ∧
    (w170.wf = true ∧ (⟨List.replicate 32 0⟩ : CompatRec).wf = true ∧
      (compatDiff (List.replicate 32 0) (paired 1).compatBytes : Nat) = compatDiff (⟨List.replicate 32 0⟩ : CompatRec).bytes w170.compatBytes ∧
      0 = numAt (⟨List.replicate 32 0⟩ : CompatRec).bytes 15 1 % 8 ∧
      (w170.pair.stage = .compat ∨ w170.pair.stage = .up)) ∧
    (run.wf = true ∧ (⟨List.replicate 32 0⟩ : CompatRec).wf = true ∧
      (compatDiff (List.replicate 32 0) run.compatBytes : Nat) = compatDiff (⟨List.replicate 32 0⟩ : CompatRec).bytes run.compatBytes ∧
      0 = numAt (⟨List.replicate 32 0⟩ : CompatRec).bytes 15 1 % 8 ∧ run.pair.stage ≠ .compat ∧
      run.pair.stage ≠ .up) :=
  by and_intros <;> decide +kernel

def w184 : State := paired 0

def w185 : State := { paired 1 with pair := { Pair.reset with stage := .up, quiet := 255 } }

/-- What `Obligations.LinkFramesAct` assumes can be met. -/
theorem wit_LinkFramesAct :
    (w170.wf = true ∧ w170.linkUp = true) ∧
    (run.wf = true ∧ run.linkUp = false) ∧
    (w173.wf = true ∧ (List.replicate 148 0 : List Byte).length = 148 ∧ w173.linkUp = true ∧ w173.standby = true) ∧
    (w184.wf = true ∧ (List.replicate 148 0 : List Byte).length = 148 ∧ w184.linkUp = true ∧ w184.standby = false) ∧
    (run.wf = true ∧ (List.replicate 148 0 : List Byte).length = 148 ∧ run.linkUp = false) ∧
    (w170.wf = true ∧ w170.pair.stage ≠ .off ∧ w170.pair.stage ≠ .lock) ∧
    (run.wf = true ∧ (run.pair.stage = .off ∨ run.pair.stage = .lock)) ∧
    (w170.linkUp = true) ∧
    (run.linkUp = false) ∧
    (w184.wf = true ∧ w184.linkMay = true) ∧
    (run.wf = true ∧ run.linkMay = false) ∧
    (w185.wf = true ∧ w185.linkUp = true ∧ w185.f F.PAIR_CFG_LINKTO ≤ w185.pair.quiet) ∧
    (run.wf = true ∧ (run.linkUp = false ∨ run.pair.quiet < run.f F.PAIR_CFG_LINKTO)) ∧
    (w184.wf = true ∧ w184.paired = true ∧ w184.unitKnown = true) ∧
    ((⟨.peer, false, false, 0, 2, [], 0, [], 0, none, 0, false⟩ : Req).who = .peer ∧ w184.linkUp = true) :=
  by and_intros <;> decide +kernel

def w186 : State := { paired 0 with pair := { Pair.reset with stage := .up, ckDue := 2 } }

def w187 : State :=
  { paired 0 with pair := { Pair.reset with stage := .up, ckSending := true, ckOut := [⟨1, 0, 0, 0, 1, 0, [0]⟩] } }

def w188 : State := { paired 0 with pair := { Pair.reset with stage := .up, ckSending := true } }

def w189 : State := { paired 1 with fol := { Folio.factory with hand := some ⟨.vault, [[], []]⟩ } }

def w190 : State := { paired 1 with pair := { Pair.reset with stage := .up, asm := some ⟨1, 0, 0, 1, 3, [0]⟩ } }

def w191 : State :=
  { put (mem (paired 1) [(drAddr 0, 1)]) [(F.PAIR_PLANA_KIND 0, 2), (F.PAIR_PLANA_COUNT 0, 1),
    (F.PAIR_PLANB_VOFS 0, 0x100)] with pair := { Pair.reset with stage := .up, asm := some ⟨2, 0, 0, 1, 8, [0]⟩ } }

def w192 : State := { paired 1 with pair := { Pair.reset with stage := .up, asm := some ⟨1, 0, 0, 1, 2, [0]⟩ } }

def w193 : State :=
  put (mem (paired 1) [(drAddr 0, 1)]) [(F.PAIR_PLANA_KIND 0, 2), (F.PAIR_PLANA_COUNT 0, 1),
    (F.PAIR_PLANB_VOFS 0, 0x100)]

def w194 : State := { put (paired 1) [(F.THM_STAT_WINDOW, 1)] with pair := { Pair.reset with copyDue := true } }

def w195 : State := { put (paired 0) [(F.THM_STAT_WINDOW, 1)] with pair := { Pair.reset with copyDue := true } }

/-- What `Obligations.CheckpointsAreSentAndStored` assumes can be met. -/
theorem wit_CheckpointsAreSentAndStored :
    (w186.wf = true ∧ w186.active = true ∧ w186.pair.ckDue = 2 ∧ w186.pair.ckSending = false) ∧
    (run.wf = true ∧ (run.active = false ∨ run.pair.ckDue ≠ 2 ∨ run.pair.ckSending = true)) ∧
    ((⟨1, 0, 0, 0, 1, 0, [0]⟩ : CkptChunk) ∈ ckChunks (⟨1, 0, 0, 0, 1, [0]⟩ : CkRec) 1 0 ([0] : List Byte)) ∧
    (w187.pair.ckSending = true ∧ w187.linkUp = true ∧
      w187.pair.ckOut = (⟨1, 0, 0, 0, 1, 0, [0]⟩ : CkptChunk) :: ([] : List CkptChunk)) ∧
    (w188.wf = true ∧ w188.pair.ckSending = true ∧ w188.linkUp = true ∧ w188.pair.ckOut = [] ∧
      w188.pair.ckLeft = []) ∧
    (w184.wf = true ∧ (⟨1, 0, 0, 1, 2, 0, [0]⟩ : CkptChunk).wf = true ∧ w184.linkUp = true ∧ w184.standby = false) ∧
    (w189.wf = true ∧ (⟨1, 0, 0, 1, 2, 0, [0]⟩ : CkptChunk).wf = true ∧ w189.linkUp = true ∧ w189.standby = true ∧
      w189.vaultCopying = true ∧ ((⟨1, 0, 0, 1, 2, 0, [0]⟩ : CkptChunk).off = 0 ∨ w189.pair.asm.isSome = true)) ∧
    (w170.wf = true ∧ (⟨1, 0, 0, 1, 2, 0, [0]⟩ : CkptChunk).wf = true ∧ w170.linkUp = true ∧ w170.standby = true ∧
      w170.vaultCopying = false ∧ w170.pair.asm = none ∧ (⟨1, 0, 0, 1, 2, 0, [0]⟩ : CkptChunk).off = 0 ∧
      (⟨1, 0, 0, 1, 2, 0, [0]⟩ : CkptChunk).bytes.length ≠ (⟨1, 0, 0, 1, 2, 0, [0]⟩ : CkptChunk).blen.toNat) ∧
    (w170.wf = true ∧ (⟨1, 0, 0, 1, 2, 1, [0]⟩ : CkptChunk).wf = true ∧ w170.linkUp = true ∧ w170.standby = true ∧
      w170.pair.asm = none ∧ (⟨1, 0, 0, 1, 2, 1, [0]⟩ : CkptChunk).off ≠ 0) ∧
    (w190.wf = true ∧ (⟨1, 0, 0, 1, 3, 1, [0]⟩ : CkptChunk).wf = true ∧ w190.linkUp = true ∧ w190.standby = true ∧
      w190.vaultCopying = false ∧ w190.pair.asm = some (⟨1, 0, 0, 1, 3, [0]⟩ : CkRec) ∧
      ckFollows (⟨1, 0, 0, 1, 3, [0]⟩ : CkRec) (⟨1, 0, 0, 1, 3, 1, [0]⟩ : CkptChunk) = true ∧
      ((⟨1, 0, 0, 1, 3, [0]⟩ : CkRec).body ++ (⟨1, 0, 0, 1, 3, 1, [0]⟩ : CkptChunk).bytes).length ≠ (⟨1, 0, 0, 1, 3, [0]⟩ : CkRec).blen) ∧
    (w191.wf = true ∧ (⟨2, 0, 0, 1, 8, 1, [0, 0, 0, 0, 0, 0, 0]⟩ : CkptChunk).wf = true ∧ w191.linkUp = true ∧
      w191.standby = true ∧ w191.vaultCopying = false ∧ w191.pair.asm = some (⟨2, 0, 0, 1, 8, [0]⟩ : CkRec) ∧
      ckFollows (⟨2, 0, 0, 1, 8, [0]⟩ : CkRec) (⟨2, 0, 0, 1, 8, 1, [0, 0, 0, 0, 0, 0, 0]⟩ : CkptChunk) = true ∧
      ((⟨2, 0, 0, 1, 8, [0]⟩ : CkRec).body ++ (⟨2, 0, 0, 1, 8, 1, [0, 0, 0, 0, 0, 0, 0]⟩ : CkptChunk).bytes).length = (⟨2, 0, 0, 1, 8, [0]⟩ : CkRec).blen ∧
      (⟨2, 0, 0, 1, 8, [0]⟩ : CkRec).kind < 16 ∧ (⟨2, 0, 0, 1, 8, [0]⟩ : CkRec).index < 4096 ∧
      w191.planSlots.find? (fun q => q.kind == (⟨2, 0, 0, 1, 8, [0]⟩ : CkRec).kind && q.index == (⟨2, 0, 0, 1, 8, [0]⟩ : CkRec).index && q.len == (⟨2, 0, 0, 1, 8, [0]⟩ : CkRec).blen) = some (⟨2, 0, 1, 0x100, 8⟩ : Slot)) ∧
    (w192.wf = true ∧ (⟨1, 0, 0, 1, 2, 1, [0]⟩ : CkptChunk).wf = true ∧ w192.linkUp = true ∧ w192.standby = true ∧
      w192.vaultCopying = false ∧ w192.pair.asm = some (⟨1, 0, 0, 1, 2, [0]⟩ : CkRec) ∧
      ckFollows (⟨1, 0, 0, 1, 2, [0]⟩ : CkRec) (⟨1, 0, 0, 1, 2, 1, [0]⟩ : CkptChunk) = true ∧
      ((⟨1, 0, 0, 1, 2, [0]⟩ : CkRec).body ++ (⟨1, 0, 0, 1, 2, 1, [0]⟩ : CkptChunk).bytes).length = (⟨1, 0, 0, 1, 2, [0]⟩ : CkRec).blen ∧
      w192.planSlots.find? (fun x => x.kind == (⟨1, 0, 0, 1, 2, [0]⟩ : CkRec).kind && x.index == (⟨1, 0, 0, 1, 2, [0]⟩ : CkRec).index && x.len == (⟨1, 0, 0, 1, 2, [0]⟩ : CkRec).blen) = none) ∧
    (w192.wf = true ∧ (⟨2, 0, 0, 1, 2, 1, [0]⟩ : CkptChunk).wf = true ∧ w192.linkUp = true ∧ w192.standby = true ∧
      w192.vaultCopying = false ∧ w192.pair.asm = some (⟨1, 0, 0, 1, 2, [0]⟩ : CkRec) ∧
      ckFollows (⟨1, 0, 0, 1, 2, [0]⟩ : CkRec) (⟨2, 0, 0, 1, 2, 1, [0]⟩ : CkptChunk) = false ∧
      (⟨2, 0, 0, 1, 2, 1, [0]⟩ : CkptChunk).off ≠ 0) ∧
    (w173.wf = true ∧ w173.linkUp = true ∧ w173.standby = true ∧ w173.ckComplete (0#32).toNat = true) ∧
    (w193.wf = true ∧ w193.linkUp = true ∧ w193.standby = true ∧ w193.ckComplete (0#32).toNat = false) ∧
    ((⟨1, 0, 0, 1, 2, 0, [0]⟩ : CkptChunk).wf = true ∧ run.linkUp = false) ∧
    (w184.linkUp = true ∧ w184.standby = false) ∧
    (w194.pair.copyDue = true ∧ w194.unitKnown = true ∧ w194.unitCode = 1 ∧ w194.on F.PAIR_STAT_STALE = false ∧
      w194.warm = false ∧ w194.folWindow = true ∧ w194.fol.jobs.length < 16) ∧
    (w195.pair.copyDue = true ∧
      (w195.unitKnown = false ∨ w195.unitCode ≠ 1 ∨ w195.on F.PAIR_STAT_STALE = true ∨ w195.warm = true ∨ w195.folWindow = false)) ∧
    (run.pair.copyDue = false) :=
  by and_intros <;> decide +kernel

def w196 : State :=
  { put run [(F.THM_STAT_WINDOW, 1),
    (F.FOL_STAT_RECALL, 0)] with fol := { Folio.factory with jobs := [.rates, .session] } }

def w197 : State :=
  { put run [(F.THM_STAT_WINDOW, 1),
    (F.FOL_STAT_RECALL, 0)] with fol := { Folio.factory with hand := some ⟨.vault, [[⟨5, 5, 0, [1, 2, 3]⟩], []]⟩ } }

def w198 : State :=
  { put run [(F.THM_STAT_WINDOW, 1), (F.FOL_STAT_WINDOW, 1),
    (F.FOL_STAT_RECALL, 0)] with fol := { Folio.factory with hand := some ⟨.vault, []⟩ } }

def w199 : State := { run with fol := { Folio.factory with prog := some ⟨.save, []⟩ } }

def w200 : State :=
  
    { run with fol := { Folio.factory with prog := some ⟨.job, [⟨5, 5, 0, [1, 2, 3]⟩]⟩, hand := some ⟨.session, [[⟨5, 5, 0, [1, 2, 3]⟩], [⟨5, 5, 0, [1, 2, 3]⟩]]⟩ } }

def w201 : State :=
  
    { run with fol := { Folio.factory with prog := some ⟨.txn, [⟨5, 5, 0, [1, 2, 3]⟩]⟩, txn := some ⟨.gone, none, 64, [1], 0⟩ } }

def w202 : State :=
  
    { run with fol := { Folio.factory with prog := some ⟨.txn, [⟨5, 5, 0, [1, 2, 3]⟩]⟩, txn := some ⟨.port, none, 64, [], 0⟩ }, reqs := [⟨.port, true, false, 0x200000, 1, [5], 0, [], 0, some 4, 0, false⟩] }

def w203 : State := { run with fol := { Folio.factory with prog := some ⟨.prot 2, []⟩ } }

def w204 : State :=
  { run with fol := { Folio.factory with prog := some ⟨.map 5 0, []⟩, hand := some ⟨.remap 5, [[]]⟩ } }

def w205 : State :=
  
    { run with fol := { Folio.factory with prog := some ⟨.job, [⟨5, 2048, 0, [1]⟩]⟩, hand := some ⟨.remap 5, [[], []]⟩ } }

def w206 : State :=
  { put run [(F.THM_STAT_WINDOW, 1), (F.FOL_STAT_WINDOW, 1),
    (F.FOL_STAT_RECALL, 0)] with fol := { Folio.factory with txns := [⟨.gone, some (2, 1), 0, [], 0⟩] } }

def w207 : State :=
  { put run [(F.THM_STAT_WINDOW, 1),
    (F.FOL_STAT_RECALL, 0)] with fol := { Folio.factory with txns := [⟨.gone, none, 0, [1, 2], 0⟩] } }

def w208 : State :=
  { put run [(F.THM_STAT_WINDOW, 1),
    (F.FOL_STAT_RECALL, 0)] with fol := { Folio.factory with txns := [⟨.port, none, 0, [], 8⟩] }, reqs := [⟨.port, false, false, 0x200000, 2, [], 0, [], 0, some 8, 0, false⟩] }

/-- What `Obligations.FolioTakesOneAtATime` assumes can be met. -/
theorem wit_FolioTakesOneAtATime :
    (w196.wf = true ∧ w196.jobsMayRun = true ∧ w196.fol.hand = none ∧ w196.nextJob = some (.session : FolJob)) ∧
    (w197.wf = true ∧ w197.jobsMayRun = true ∧
      w197.fol.hand = some (⟨.vault, [[⟨5, 5, 0, [1, 2, 3]⟩], []]⟩ : FolWork) ∧
      (⟨.vault, [[⟨5, 5, 0, [1, 2, 3]⟩], []]⟩ : FolWork).todo = ([⟨5, 5, 0, [1, 2, 3]⟩] : List PageProg) :: ([[]] : List (List PageProg))) ∧
    ((run.jobsMayRun = false ∨ (run.fol.hand = none ∧ run.nextJob = none))) ∧
    (w198.wf = true ∧ w198.jobsMayRun = true ∧ w198.fol.hand = some ⟨(.vault : FolJob), []⟩) ∧
    (run.fol.prog = none ∧ run.reqs = [] ∧ run.boot.reads = false) ∧
    (w199.fol.prog = some (⟨.save, []⟩ : FolProg) ∧ (⟨.save, []⟩ : FolProg).src = .save ∧ w199.reqs = [] ∧
      w199.boot.reads = false) ∧
    (w200.wf = true ∧ w200.fol.prog = some (⟨.job, [⟨5, 5, 0, [1, 2, 3]⟩]⟩ : FolProg) ∧
      (⟨.job, [⟨5, 5, 0, [1, 2, 3]⟩]⟩ : FolProg).src = .job ∧
      w200.fol.hand = some (⟨.session, [[⟨5, 5, 0, [1, 2, 3]⟩], [⟨5, 5, 0, [1, 2, 3]⟩]]⟩ : FolWork) ∧
      w200.reqs = [] ∧ w200.boot.reads = false ∧
      ((⟨.session, [[⟨5, 5, 0, [1, 2, 3]⟩], [⟨5, 5, 0, [1, 2, 3]⟩]]⟩ : FolWork).job.order = 7 → (⟨.session, [[⟨5, 5, 0, [1, 2, 3]⟩], [⟨5, 5, 0, [1, 2, 3]⟩]]⟩ : FolWork).todo.length ≤ 1)) ∧
    (w201.wf = true ∧ w201.fol.prog = some (⟨.txn, [⟨5, 5, 0, [1, 2, 3]⟩]⟩ : FolProg) ∧
      (⟨.txn, [⟨5, 5, 0, [1, 2, 3]⟩]⟩ : FolProg).src = .txn ∧
      w201.fol.txn = some (⟨.gone, none, 64, [1], 0⟩ : FolTxn) ∧ (⟨.gone, none, 64, [1], 0⟩ : FolTxn).n = 0 ∧
      w201.reqs = [] ∧ w201.boot.reads = false) ∧
    (w202.wf = true ∧ w202.fol.prog = some (⟨.txn, [⟨5, 5, 0, [1, 2, 3]⟩]⟩ : FolProg) ∧
      (⟨.txn, [⟨5, 5, 0, [1, 2, 3]⟩]⟩ : FolProg).src = .txn ∧
      w202.fol.txn = some (⟨.port, none, 64, [], 0⟩ : FolTxn) ∧ (⟨.port, none, 64, [], 0⟩ : FolTxn).data = [] ∧
      w202.reqs = [(⟨.port, true, false, 0x200000, 1, [5], 0, [], 0, some 4, 0, false⟩ : Req)] ∧
      (⟨.port, none, 64, [], 0⟩ : FolTxn).who = .port ∧
      (⟨.port, true, false, 0x200000, 1, [5], 0, [], 0, some 4, 0, false⟩ : Req).who = .port ∧
      (⟨.port, true, false, 0x200000, 1, [5], 0, [], 0, some 4, 0, false⟩ : Req).write = true ∧
      (⟨.port, true, false, 0x200000, 1, [5], 0, [], 0, some 4, 0, false⟩ : Req).status = 0 ∧
      (⟨.port, true, false, 0x200000, 1, [5], 0, [], 0, some 4, 0, false⟩ : Req).wait = some (⟨.port, true, false, 0x200000, 1, [5], 0, [], 0, some 4, 0, false⟩ : Req).bytesOf ∧
      w202.svc.split = false ∧ w202.boot.reads = false) ∧
    (w203.wf = true ∧ w203.fol.prog = some (⟨.prot 2, []⟩ : FolProg) ∧ (⟨.prot 2, []⟩ : FolProg).src = .prot 2 ∧
      2 < 4 ∧ w203.reqs = [] ∧ w203.boot.reads = false) ∧
    (w204.wf = true ∧ w204.fol.prog = some (⟨.map 5 0, []⟩ : FolProg) ∧ (⟨.map 5 0, []⟩ : FolProg).src = .map 5 0 ∧
      (⟨.map 5 0, []⟩ : FolProg).pages = [] ∧ w204.fol.hand = some (⟨.remap 5, [[]]⟩ : FolWork) ∧
      (⟨.remap 5, [[]]⟩ : FolWork).job = .remap 5 ∧ (⟨.remap 5, [[]]⟩ : FolWork).todo.length ≤ 1 ∧
      w204.fol.used.length = 4 ∧ w204.reqs = [] ∧ risingFrom 0 w204.fol.map = true ∧ w204.boot.reads = false) ∧
    (w205.wf = true ∧ w205.fol.prog = some (⟨.job, [⟨5, 2048, 0, [1]⟩]⟩ : FolProg) ∧
      (⟨.job, [⟨5, 2048, 0, [1]⟩]⟩ : FolProg).src = .job ∧
      w205.fol.hand = some ⟨.remap 5, ([] : List PageProg) :: ([] : List PageProg) :: ([] : List (List PageProg))⟩ ∧
      w205.reqs = [] ∧ w205.boot.reads = false) ∧
    (canonical (fun _ => 0) run.fol.counts = true ∧ canonical (fun _ => some 0xFF#8) run.fol.cells = true) ∧
    (run.reqs = [] ∧
      (run.folFree = false ∨ run.fol.txn.isSome = true ∨ ∀ x, x ∈ run.fol.txns → run.fol.held = true ∧
      x.who ≠ .port)) ∧
    (w206.wf = true ∧ w206.reqs = [] ∧ w206.folFree = true ∧ w206.fol.txn = none ∧
      w206.fol.txns.filter (fun y => !w206.fol.held || decide (y.who = .port)) = (⟨.gone, some (2, 1), 0, [], 0⟩ : FolTxn) :: ([] : List FolTxn) ∧
      (⟨.gone, some (2, 1), 0, [], 0⟩ : FolTxn).prot = some (2, 1) ∧
      (⟨.gone, some (2, 1), 0, [], 0⟩ : FolTxn).who = .gone) ∧
    (w207.wf = true ∧ w207.folFree = true ∧ w207.fol.txn = none ∧
      w207.fol.txns.filter (fun y => !w207.fol.held || decide (y.who = .port)) = (⟨.gone, none, 0, [1, 2], 0⟩ : FolTxn) :: ([] : List FolTxn) ∧
      w207.reqs = [] ∧ (⟨.gone, none, 0, [1, 2], 0⟩ : FolTxn).prot = none ∧
      ((⟨.gone, none, 0, [1, 2], 0⟩ : FolTxn).n ≠ 0 ∨ (⟨.gone, none, 0, [1, 2], 0⟩ : FolTxn).data ≠ [])) ∧
    (w208.wf = true ∧ w208.folFree = true ∧ w208.fol.txn = none ∧
      w208.fol.txns = [(⟨.port, none, 0, [], 8⟩ : FolTxn)] ∧ (⟨.port, none, 0, [], 8⟩ : FolTxn).prot = none ∧
      (⟨.port, none, 0, [], 8⟩ : FolTxn).who = .port ∧
      w208.reqs = [(⟨.port, false, false, 0x200000, 2, [], 0, [], 0, some 8, 0, false⟩ : Req)] ∧
      (⟨.port, false, false, 0x200000, 2, [], 0, [], 0, some 8, 0, false⟩ : Req).who = .port ∧
      (⟨.port, false, false, 0x200000, 2, [], 0, [], 0, some 8, 0, false⟩ : Req).write = false ∧
      (⟨.port, false, false, 0x200000, 2, [], 0, [], 0, some 8, 0, false⟩ : Req).bytes = false ∧
      (⟨.port, false, false, 0x200000, 2, [], 0, [], 0, some 8, 0, false⟩ : Req).out = [] ∧
      (⟨.port, false, false, 0x200000, 2, [], 0, [], 0, some 8, 0, false⟩ : Req).status = 0 ∧
      (⟨.port, false, false, 0x200000, 2, [], 0, [], 0, some 8, 0, false⟩ : Req).n = 2 ∧
      (⟨.port, false, false, 0x200000, 2, [], 0, [], 0, some 8, 0, false⟩ : Req).wait = some (4 * 2) ∧
      (⟨.port, none, 0, [], 8⟩ : FolTxn).n = 4 * 2 ∧ 2 ≠ 0 ∧ w208.svc.split = false) :=
  by and_intros <;> decide +kernel

def w209 : State := put run [(F.FOL_STAT_RECALL, 1)]

def w210 : State :=
  { put run [(F.FOL_STAT_RECALL, 1),
    (F.THM_STAT_HOLD, 1)] with boot := { run.boot with stage := .held }, clk := { run.clk with por := false }, thm := { Thermal.reset with cool := List.replicate 4 10000 } }

def w211 : State := put run [(F.FOL_STAT_RECALL, 0)]

def w212 : State :=
  
    { run with reqs := [⟨.port, true, false, 0x200000, 1, [5], 0, [], 0, some 4, 0, false⟩], fol := { Folio.factory with txns := [⟨.port, none, 0, [5, 0, 0, 0], 0⟩] } }

/-- What `Obligations.RecallAndPowerDown` assumes can be met. -/
theorem wit_RecallAndPowerDown :
    (w209.wf = true ∧ w209.folRecall = true ∧ w209.folFree = true ∧ w209.portLive = true ∧ w209.plantHeld = false ∧
      (w209.boot.stage ≠ .held ∨ w209.mayRelease = false ∨ w209.on F.THM_STAT_LATCH = true) ∧ w209.reqs = []) ∧
    (w210.wf = true ∧ w210.folRecall = true ∧ w210.folFree = true ∧ w210.boot.stage = .held ∧
      w210.mayRelease = true ∧ w210.on F.THM_STAT_LATCH = false ∧ w210.clk.por = false ∧ w210.reqs = [] ∧
      w210.plantHeld = false ∧ w210.portLive = true) ∧
    ((w211.folRecall = false ∨ w211.folFree = false ∨ w211.portLive = false ∨ w211.plantHeld = true)) ∧
    (w17.plantHeld = true) ∧
    (run.wf = true ∧ run.reqs = [] ∧ run.plantHeld = false) ∧
    (w212.wf = true ∧ w212.reqs = [(⟨.port, true, false, 0x200000, 1, [5], 0, [], 0, some 4, 0, false⟩ : Req)] ∧
      (⟨.port, true, false, 0x200000, 1, [5], 0, [], 0, some 4, 0, false⟩ : Req).who = .port ∧
      (⟨.port, true, false, 0x200000, 1, [5], 0, [], 0, some 4, 0, false⟩ : Req).wait.isSome = true ∧
      (⟨.port, true, false, 0x200000, 1, [5], 0, [], 0, some 4, 0, false⟩ : Req).status = 0 ∧
      w212.svc.split = false ∧ w212.plantHeld = false) ∧
    (w199.wf = true ∧ w199.fol.prog = some (⟨.save, []⟩ : FolProg) ∧ (⟨.save, []⟩ : FolProg).src = .save ∧
      w199.boot.reads = false) ∧
    ((∀ q, run.fol.prog = some q → q.src ≠ .save)) :=
  by and_intros <;> decide +kernel

def w213 : State := { run with fol := { Folio.factory with used := List.replicate 4 16 } }

def w214 : State := { run with fol := { Folio.factory with jobs := List.replicate 16 .rates } }

def w215 : State := put run [(F.THM_STAT_WINDOW, 0)]

def w216 : State := put run [(F.THM_STAT_WINDOW, 1), (F.FOL_STAT_RECALL, 0)]

def w217 : State := put run [(F.THM_STAT_WINDOW, 1)]

def w218 : State :=
  { put run [(F.THM_STAT_WINDOW, 1),
    (F.FOL_STAT_RECALL, 0)] with fol := { Folio.factory with prog := some ⟨.job, []⟩ } }

/-- What `Obligations.FolioRegisterWritesAct` assumes can be met. -/
theorem wit_FolioRegisterWritesAct :
    (run.admits .port F.FOL_REMAP_GO.addr = true ∧ (5#32).toNat < 2 ^ 31) ∧
    (w213.admits .port F.FOL_REMAP_GO.addr = true ∧ (w213.remapWrite (0x80000000#32).toNat).2 = false) ∧
    (run.admits .port F.FOL_REMAP_GO.addr = true ∧ 2 ^ 31 ≤ (0x800007FF#32).toNat ∧
      (run.remapWrite (0x800007FF#32).toNat).2 = true ∧ run.fol.jobs.length < 16) ∧
    (w214.admits .port F.FOL_REMAP_GO.addr = true ∧ 2 ^ 31 ≤ (0x800007FF#32).toNat ∧
      (w214.remapWrite (0x800007FF#32).toNat).2 = true ∧ 16 ≤ w214.fol.jobs.length ∧ w214.wf = true) ∧
    (run.admits .port F.FOL_REMAP_GO.addr = true) ∧
    (run.wf = true ∧ run.admits .port F.FOL_PROT_BP.addr = true ∧ (0#32).toNat % 4 = run.fol.prot) ∧
    (w215.wf = true ∧ w215.admits .port F.FOL_PROT_BP.addr = true ∧ (3#32).toNat % 4 ≠ w215.fol.prot ∧
      w215.folWindow = false) ∧
    (w216.wf = true ∧ w216.admits .port F.FOL_PROT_BP.addr = true ∧ (3#32).toNat % 4 ≠ w216.fol.prot ∧
      w216.folWindow = true ∧ w216.folFree = true ∧ w216.fol.txn = none ∧ w216.fol.txns = [] ∧
      w216.fol.held = false ∧ w216.folRecall = false ∧ w216.folPfi = false) ∧
    (w217.wf = true ∧ w217.admits .port F.FOL_PROT_BP.addr = true ∧ (3#32).toNat % 4 ≠ w217.fol.prot ∧
      w217.folWindow = true ∧ (w217.folRecall = true ∨ w217.folPfi = true)) ∧
    (w218.wf = true ∧ w218.admits .port F.FOL_PROT_BP.addr = true ∧ (3#32).toNat % 4 ≠ w218.fol.prot ∧
      w218.folWindow = true ∧
      (w218.folFree = false ∨ w218.fol.txn.isSome = true ∨ w218.fol.txns ≠ [] ∨ w218.fol.held = true) ∧
      w218.folRecall = false ∧ w218.folPfi = false) ∧
    (run.wf = true ∧ run.admits .port F.FOL_CTL_CLRMISSED.addr = true) ∧
    (run.wf = true ∧ run.admits .port F.FOL_UCINC_INC.addr = true) ∧
    (run.wf = true ∧ run.admits .port (F.FOL_LIVE (63 : Fin 64)).addr = true ∧
      ((63 : Fin 64) = 0 ∨ (63 : Fin 64) = 1 ∨ (63 : Fin 64) = 29 ∨ 46 ≤ (63 : Fin 64))) ∧
    (run.wf = true ∧ run.admits .port (F.FOL_LIVE (38 : Fin 64)).addr = true ∧
      (¬((38 : Fin 64) = 0 ∨ (38 : Fin 64) = 1 ∨ (38 : Fin 64) = 29 ∨ 46 ≤ (38 : Fin 64)))) :=
  by and_intros <;> decide +kernel

def w219 : State := { run with boot := { run.boot with stage := .reset } }

def w220 : State := { run with thm := { Thermal.reset with samples := 1024 } }

def w221 : State := { run with thm := { Thermal.reset with aonRun := 3 } }

def w222 : State := put run [(F.THM_STAT_STATE, 2)]

/-- What `Obligations.ThermalWatchActs` assumes can be met. -/
theorem wit_ThermalWatchActs :
    (run.wf = true ∧ run.sensorsOn = true ∧ run.reqs = []) ∧
    (w219.sensorsOn = false) ∧
    (w220.wf = true ∧ w220.sensorsOn = true ∧ w220.thm.samples = 1024) ∧
    ((run.sensorsOn = false ∨ run.thm.samples ≠ 1024)) ∧
    (State.reset.boot.stage = .reset) ∧
    (w221.wf = true ∧ w221.boot.stage ≠ .reset ∧ w221.reqs = []) ∧
    (w222.wf = true ∧ w222.hot = true ∧ w222.halted = false ∧ w222.folFree = true ∧ w222.boot.ticked = true) ∧
    ((run.hot = false ∨ run.halted = true ∨ run.folFree = false ∨ run.boot.ticked = false)) ∧
    (run.wf = true ∧ (run.boot.stage ≠ .reset ∨ run.clk.por = false)) ∧
    (State.reset.boot.stage = .reset ∧ State.reset.clk.por = true) :=
  by and_intros <;> decide +kernel

def w223 : State :=
  { (put run [(F.PNL_COMBO_CFG_EN 1, 1), (F.PNL_COMBO_CFG_ACTION 1, 1), (F.PNL_COMBO_CFG_HOLD 1, 1),
    (F.PNL_CFG_STUCK, 60), (F.PNL_COMBOSTAT_HOLDING, 2),
    (F.PNL_KEYS 0, 1)]).wr (F.PNL_COMBO_KEYS_USED0 1).addr 0x80 with pnl := { Panel.reset with raw := 1, deb := 1, timers := [0, 400, 0, 0] } }

def w224 : State := put run [(F.PNL_STAT_WOKEN, 1)]

/-- What `Obligations.PanelKeysAct` assumes can be met. -/
theorem wit_PanelKeysAct :
    (run.wf = true ∧ (run.boot.stage ≠ .reset ∨ run.clk.por = false) ∧
      (∀ n, n < 4 → run.on (F.PNL_COMBO_CFG_EN n) = false ∨ bit (run.f F.PNL_COMBOSTAT_FIRED) n = true ∨ run.pnl.timers.getD n 0 + (if run.pnl.fast then 4 else 125) < 400 * run.f (F.PNL_COMBO_CFG_HOLD n))) ∧
    (w223.wf = true ∧ 1 < 4 ∧ (w223.boot.stage ≠ .reset ∨ w223.clk.por = false) ∧
      (∀ k, k < 4 → w223.on (F.PNL_COMBO_CFG_EN k) = decide (k = 1)) ∧ w223.keyMap = w223.comboKeys 1 ∧
      w223.keyMap ≠ 0 ∧ w223.pnl.raw = w223.keyMap ∧ w223.pnl.deb = w223.keyMap ∧ w223.keyMask = 0 ∧
      w223.pnl.timers.length = 4 ∧ (∀ k, k < 64 → w223.pnl.time.getD k 0 + 125 < 4000 * w223.f F.PNL_CFG_STUCK) ∧
      bit (w223.f F.PNL_COMBOSTAT_HOLDING) 1 = true ∧ bit (w223.f F.PNL_COMBOSTAT_FIRED) 1 = false ∧
      400 * w223.f (F.PNL_COMBO_CFG_HOLD 1) ≤ w223.pnl.timers.getD 1 0 + 4) ∧
    (State.reset.boot.stage = .reset ∧ State.reset.clk.por = true) ∧
    (w224.wf = true ∧ w224.on F.PNL_STAT_WOKEN = true ∧ w224.keyMap = 0) ∧
    ((run.on F.PNL_STAT_WOKEN = false ∨ run.keyMap ≠ 0)) ∧
    (run.wf = true ∧ run.admits .port (F.PNL_COMBO_CFG_EN (3 : Fin 4)).addr = true ∧ run.pnl.timers.length = 4) ∧
    (run.wf = true ∧ run.admits .port (F.PNL_COMBO_CFG_EN (3 : Fin 4)).addr = true ∧ run.pnl.timers.length = 4) :=
  by and_intros <;> decide +kernel

def w225 : State := { run with snap := some ⟨1, 2, [3]⟩ }

def w226 : State := { run with annFifo := [⟨1, 2, false, 3, 4, 5, 6, none, false⟩] }

def w227 : State := put run [(F.ANL_PSTAT_READY, 0)]

def w228 : State := put run [(F.ANL_PSTAT_READY, 1)]

/-- What `Obligations.LedgerAndAnnalsAreWritten` assumes can be met. -/
theorem wit_LedgerAndAnnalsAreWritten :
    (run.wf = true ∧ run.admits .port F.LDG_CLR.addr = true) ∧
    (run.wf = true ∧ run.admits .port (F.LDG_CNT_SEL_SRC (31 : Fin 32)).addr = true ∧
      sourceOk ((186#32).toNat % 256) = true) ∧
    (run.wf = true ∧ run.admits .port (F.LDG_CNT_SEL_SRC (31 : Fin 32)).addr = true ∧
      sourceOk ((187#32).toNat % 256) = false) ∧
    (run.wf = true ∧ run.admits .port F.LDG_SNAPCTL_MODE.addr = true ∧
      ((1#32).toNat % 4 ≠ 2 ∨ newer32 (run.f F.LDG_SNAPFRAME) run.frame = true)) ∧
    (run.wf = true ∧ run.admits .port F.LDG_SNAPCTL_MODE.addr = true ∧ (2#32).toNat % 4 = 2 ∧
      newer32 (run.f F.LDG_SNAPFRAME) run.frame = false) ∧
    (w225.wf = true ∧ w225.snap = some (⟨1, 2, [3]⟩ : Snap)) ∧
    (run.snap = none) ∧
    (w226.wf = true ∧ w226.annFifo = (⟨1, 2, false, 3, 4, 5, 6, none, false⟩ : AnnEvent) :: ([] : List AnnEvent)) ∧
    (run.annFifo = []) ∧
    (w227.wf = true ∧ w227.boot.recalled = true ∧ w227.on F.ANL_PSTAT_READY = false ∧ w227.folFree = true ∧
      w227.folPfi = false) ∧
    ((w228.boot.recalled = false ∨ w228.on F.ANL_PSTAT_READY = true ∨ w228.folFree = false ∨ w228.folPfi = true)) :=
  by and_intros <;> decide +kernel

def w229 : State := { run with fox := { Foxing.reset with scanDue := true } }

def w230 : State := { run with fox := { Foxing.reset with replanDue := true } }

def w231 : State := put run [(F.FOX_CTL_VLOCK, 1)]

/-- What `Obligations.FoxingScansAndPlans` assumes can be met. -/
theorem wit_FoxingScansAndPlans_5 :
    w231.wf = true ∧ w231.admits .port F.FOX_VREQ_N.addr = true ∧ w231.on F.FOX_CTL_VLOCK = true ∧
      nfac ≤ (20#32).toNat % 32 ∧ (20#32).toNat % 32 ≤ 20 :=
  ⟨by decide +kernel, by decide +kernel, by decide +kernel, Nat.min_le_right _ _, by decide⟩

theorem wit_FoxingScansAndPlans :
    (w229.wf = true ∧ (List.replicate 9 0 : List (BitVec 16)).length = 9 ∧ w229.fox.scanDue = true ∧
      w229.boot.ticked = true) ∧
    ((List.replicate 9 0 : List (BitVec 16)).length = 9 ∧ (run.fox.scanDue = false ∨ run.boot.ticked = false)) ∧
    (w230.wf = true ∧ w230.fox.replanDue = true ∧ w230.boot.ticked = true ∧ w230.halted = false) ∧
    ((run.fox.replanDue = false ∨ run.boot.ticked = false ∨ run.halted = true)) ∧
    (run.wf = true ∧ run.admits .port F.FOX_VREQ_N.addr = true ∧
      (run.on F.FOX_CTL_VLOCK = false ∨ (20#32).toNat % 32 < nfac ∨ 20 < (20#32).toNat % 32)) :=
  by and_intros <;> decide +kernel

def w232 : State := { run with reqs := [⟨.peer, false, false, 0, 2, [], 0, [], 0, none, 0, true⟩] }

/-- What `Obligations.RequestsOfMastersAct` assumes can be met. -/
theorem wit_RequestsOfMastersAct :
    (run.wf = true ∧ run.portLive = true ∧ run.hasReq .port = false ∧ (0x1FFFFC#32).toNat % 4 = 0 ∧
      (0x1FFFFC#32).toNat + 4 * ((0#8).toNat + 1) ≤ 0x200000) ∧
    (run.wf = true ∧ run.portLive = true ∧ run.hasReq .port = false ∧ (0x400EFFFC#32).toNat % 4 = 0 ∧
      0x40000000 ≤ (0x400EFFFC#32).toNat ∧ (0x400EFFFC#32).toNat < 0x400F0000) ∧
    (run.portLive = true ∧ run.hasReq .port = false ∧ (0x21FFFC#32).toNat % 4 = 0 ∧ 0x200000 ≤ (0x21FFFC#32).toNat ∧
      (0x21FFFC#32).toNat + 4 * ((0#8).toNat + 1) ≤ 0x220000) ∧
    (run.portLive = true ∧ run.hasReq .port = false) ∧
    (run.portLive = true ∧ run.hasReq .port = false ∧ ([5] : List Word) ≠ [] ∧ ([5] : List Word).length ≤ 256) ∧
    (run.portLive = true ∧ run.hasReq .port = false ∧ ([5] : List Byte) ≠ [] ∧ ([5] : List Byte).length ≤ 256) ∧
    (([1] : List Word) ≠ [] ∧ ([1] : List Word).length ≤ 256 ∧ ([1] : List Byte) ≠ [] ∧
      ([1] : List Byte).length ≤ 256 ∧ (State.reset.portLive = false ∨ State.reset.hasReq .port = true)) ∧
    (run.wf = true ∧ run.portLive = true ∧ run.hasReq .port = false ∧
      portCheck false (1#32).toNat (4 * ((0#8).toNat + 1)) ≠ 0) ∧
    (run.wf = true ∧ run.portLive = true ∧ run.hasReq .port = false ∧ ([1] : List Word) ≠ [] ∧
      ([1] : List Word).length ≤ 256 ∧ portCheck false (0x230000#32).toNat (4 * ([1] : List Word).length) ≠ 0) ∧
    (run.wf = true ∧ run.portLive = true ∧ run.hasReq .port = false ∧ ([1, 2] : List Byte) ≠ [] ∧
      ([1, 2] : List Byte).length ≤ 256 ∧ portCheck true (0x22FFFF#32).toNat ([1, 2] : List Byte).length ≠ 0) ∧
    (run.wf = true ∧ run.portLive = true ∧ run.hasReq .port = false ∧ run.svc.split = false ∧
      (0x40000100#32).toNat % 4 = 0 ∧ rangeMapped (0x40000100#32).toNat 4 = true ∧
      run.toFolio ⟨.port, true, false, (0x40000100#32).toNat, 1, [(0#32).toNat], 0, [], 0, none, 0, false⟩ (0x40000100#32).toNat = false) ∧
    (run.portLive = true ∧ run.hasReq .port = false ∧ run.svc.split = false ∧ (0#32).toNat % 4 = 0 ∧
      ([2, 3] : List Word) ≠ [] ∧ ([2, 3] : List Word).length ≤ 255 ∧
      (0#32).toNat + 4 * (([2, 3] : List Word).length + 1) ≤ 0x200000 ∧ (4#32).toNat = (0#32).toNat + 4) ∧
    (w216.portLive = true ∧ w216.hasReq .port = false ∧ ([1, 2] : List Word) ≠ [] ∧
      ([1, 2] : List Word).length ≤ 256 ∧ (0x200000#32).toNat % 4 = 0 ∧ 0x200000 ≤ (0x200000#32).toNat ∧
      (0x200000#32).toNat + 4 * ([1, 2] : List Word).length ≤ 0x220000 ∧ w216.writeGate (0x200000#32).toNat = true) ∧
    (w216.portLive = true ∧ w216.hasReq .port = false ∧ ([1, 2] : List Byte) ≠ [] ∧
      ([1, 2] : List Byte).length ≤ 256 ∧ 0x200000 ≤ (0x200001#32).toNat ∧
      (0x200001#32).toNat + ([1, 2] : List Byte).length ≤ 0x220000 ∧ w216.writeGate (0x200001#32).toNat = true) ∧
    (run.wf = true ∧ run.portLive = true ∧ run.hasReq .port = false ∧ run.svc.split = false ∧
      inMem (0x100001#32).toNat = true) ∧
    (w184.linkUp = true ∧ w184.hasReq .peer = false ∧ (0x1FFF00#32).toNat % 4 = 0 ∧ 1 ≤ (64#8).toNat ∧
      (64#8).toNat ≤ 64 ∧ (0x1FFF00#32).toNat + 4 * (64#8).toNat ≤ 0x200000) ∧
    (w184.linkUp = true ∧ w184.hasReq .peer = false ∧ (0x100000#32).toNat % 4 = 0 ∧
      (0x100000#32).toNat + 4 ≤ 0x200000) ∧
    (w184.linkUp = true ∧ w184.hasReq .peer = false ∧ (0x230000#32).toNat % 4 = 0 ∧ 1 ≤ (1#8).toNat ∧
      (1#8).toNat ≤ 64 ∧ ([] : List Word).length = (if (false : Bool) then (1#8).toNat else 0) ∧
      rangeMapped (0x230000#32).toNat (4 * (1#8).toNat) = false) ∧
    (w184.linkUp = true ∧ w184.hasReq .peer = false ∧ (0x200000#32).toNat % 4 = 0 ∧ 1 ≤ (1#8).toNat ∧
      (1#8).toNat ≤ 64 ∧ ([] : List Word).length = (if (false : Bool) then (1#8).toNat else 0) ∧
      0x200000 ≤ (0x200000#32).toNat ∧ (0x200000#32).toNat + 4 * (1#8).toNat ≤ 0x220000 ∧
      ((false : Bool) = true → w184.writeGate (0x200000#32).toNat = true)) ∧
    (w184.linkUp = true ∧ w184.hasReq .peer = false ∧ (0x200000#32).toNat % 4 = 0 ∧ 1 ≤ (1#8).toNat ∧
      (1#8).toNat ≤ 64 ∧ ([] : List Word).length = (if (false : Bool) then (1#8).toNat else 0) ∧
      rangeMapped (0x200000#32).toNat (4 * (1#8).toNat) = true) ∧
    (w232.pending = [] ∧ w232.reqs = [(⟨.peer, false, false, 0, 2, [], 0, [], 0, none, 0, true⟩ : Req)] ∧
      (⟨.peer, false, false, 0, 2, [], 0, [], 0, none, 0, true⟩ : Req).who = .peer ∧
      (⟨.peer, false, false, 0, 2, [], 0, [], 0, none, 0, true⟩ : Req).split = true ∧
      (⟨.peer, false, false, 0, 2, [], 0, [], 0, none, 0, true⟩ : Req).wait = none ∧
      (⟨.peer, false, false, 0, 2, [], 0, [], 0, none, 0, true⟩ : Req).status = 0 ∧
      (⟨.peer, false, false, 0, 2, [], 0, [], 0, none, 0, true⟩ : Req).bytes = false ∧
      (⟨.peer, false, false, 0, 2, [], 0, [], 0, none, 0, true⟩ : Req).addr % 4 = 0 ∧
      (⟨.peer, false, false, 0, 2, [], 0, [], 0, none, 0, true⟩ : Req).k % 4 = 0 ∧
      (⟨.peer, false, false, 0, 2, [], 0, [], 0, none, 0, true⟩ : Req).addr + (⟨.peer, false, false, 0, 2, [], 0, [], 0, none, 0, true⟩ : Req).k + 4 ≤ 0x200000 ∧
      (⟨.peer, false, false, 0, 2, [], 0, [], 0, none, 0, true⟩ : Req).k + 4 < 4 * (⟨.peer, false, false, 0, 2, [], 0, [], 0, none, 0, true⟩ : Req).n) ∧
    ((0#32).toNat % 4 = 0 ∧ 1 ≤ (1#8).toNat ∧ (1#8).toNat ≤ 64 ∧
      ([] : List Word).length = (if (false : Bool) then (1#8).toNat else 0) ∧
      (run.linkUp = false ∨ run.hasReq .peer = true)) :=
  by and_intros <;> decide +kernel

def w233 : State := { run with reqs := [⟨.port, false, false, 0, 2, [], 0, [], 0, none, 0, false⟩] }

def w234 : State :=
  
    { run with svc := { run.svc with split := true }, reqs := [⟨.port, false, false, 0, 2, [], 0, [], 0, none, 0, false⟩] }

def w235 : State :=
  
    { run with svc := { run.svc with split := true }, reqs := [⟨.port, true, false, 0x100000, 2, [7, 8], 0, [], 0, none, 0, false⟩] }

def w236 : State :=
  
    { run with svc := { run.svc with split := true }, reqs := [⟨.port, true, false, 0x300000, 2, [7, 8], 0, [], 3, none, 0, false⟩] }

def w237 : State :=
  
    { run with svc := { run.svc with split := true }, reqs := [⟨.port, false, false, 0, 1, [], 4, [9], 5, none, 0, false⟩] }

def w238 : State :=
  
    { run with svc := { run.svc with split := true }, reqs := [⟨.port, false, false, 0x200000, 2, [], 4, [9], 0, none, 0, false⟩] }

def w239 : State :=
  { put run [(F.THM_STAT_WINDOW, 1),
    (F.FOL_STAT_RECALL, 0)] with svc := { run.svc with split := true }, reqs := [⟨.port, true, false, 0x200000, 2, [7, 8], 0, [], 0, none, 0, false⟩] }

def w240 : State :=
  { put run [(F.THM_STAT_WINDOW, 1),
    (F.FOL_STAT_RECALL, 0)] with svc := { run.svc with split := true }, reqs := [⟨.port, true, false, 0x200000, 2, [7, 8], 4, [], 0, none, 0, false⟩] }

def w241 : State :=
  
    { run with svc := { run.svc with split := true }, reqs := [⟨.port, true, false, 0x200000, 2, [7, 8], 4, [], 0, none, 0, false⟩] }

def w242 : State :=
  
    { run with reqs := [⟨.port, true, false, 0x200000, 2, [7, 8], 0, [], 0, some 8, 0, false⟩], fol := { Folio.factory with txns := [⟨.port, none, 0, [7, 0, 0, 0, 8, 0, 0, 0], 0⟩] } }

def w243 : State :=
  
    { run with reqs := [⟨.port, true, false, 0x200000, 2, [7, 8], 0, [], 0, some 8, 0, false⟩], fol := { Folio.factory with txn := some ⟨.port, none, 4, [8, 0, 0, 0], 0⟩ } }

/-- What `Obligations.PortStatusAbortsAndWaits` assumes can be met. -/
theorem wit_PortStatusAbortsAndWaits :
    (run.portLive = true ∧ run.hasReq .port = false) ∧
    ([0x02#8, 0x03#8, 0x05#8, 0x06#8, 0x99#8].contains 0#8 = false ∧
      (State.reset.portLive = false ∨ State.reset.hasReq .port = true)) ∧
    ((State.reset.boot.stage = .reset ∨ State.reset.hasReq .port = true)) ∧
    (run.wf = true ∧ run.boot.stage ≠ .reset ∧ run.hasReq .port = false ∧ ([0x5A] : List Byte) ≠ [0x5A#8, 0xA5#8]) ∧
    (run.boot.stage ≠ .reset ∧ run.hasReq .port = false) ∧
    (run.wf = true ∧ run.portLive = true ∧ run.hasReq .port = false ∧
      [0x02#8, 0x03#8, 0x05#8, 0x06#8, 0x99#8].contains 0xFF#8 = false) ∧
    (run.wf = true ∧ run.portLive = true ∧ run.hasReq .port = false ∧
      [0x02#8, 0x03#8, 0x05#8, 0x06#8, 0x99#8].contains 0#8 = false) ∧
    (run.hasReq .port = false) ∧
    (State.reset.hasReq .port = false ∧ State.reset.portLive = false) ∧
    (run.wf = true ∧ run.hasReq .port = false ∧ run.portLive = true) ∧
    (w233.reqs.find? (fun q => decide (q.who = .port)) = some (⟨.port, false, false, 0, 2, [], 0, [], 0, none, 0, false⟩ : Req) ∧
      (w233.svc.split = false ∨ (⟨.port, false, false, 0, 2, [], 0, [], 0, none, 0, false⟩ : Req).wait.isSome = true)) ∧
    (w234.reqs = [(⟨.port, false, false, 0, 2, [], 0, [], 0, none, 0, false⟩ : Req)] ∧
      (⟨.port, false, false, 0, 2, [], 0, [], 0, none, 0, false⟩ : Req).who = .port ∧ w234.svc.split = true ∧
      (⟨.port, false, false, 0, 2, [], 0, [], 0, none, 0, false⟩ : Req).write = false ∧
      (⟨.port, false, false, 0, 2, [], 0, [], 0, none, 0, false⟩ : Req).bytes = false ∧
      (⟨.port, false, false, 0, 2, [], 0, [], 0, none, 0, false⟩ : Req).wait = none ∧
      (⟨.port, false, false, 0, 2, [], 0, [], 0, none, 0, false⟩ : Req).status = 0 ∧
      (⟨.port, false, false, 0, 2, [], 0, [], 0, none, 0, false⟩ : Req).addr + (⟨.port, false, false, 0, 2, [], 0, [], 0, none, 0, false⟩ : Req).k < 0x200000 ∧
      (⟨.port, false, false, 0, 2, [], 0, [], 0, none, 0, false⟩ : Req).k < 4 * (⟨.port, false, false, 0, 2, [], 0, [], 0, none, 0, false⟩ : Req).n) ∧
    (w235.reqs = [(⟨.port, true, false, 0x100000, 2, [7, 8], 0, [], 0, none, 0, false⟩ : Req)] ∧
      (⟨.port, true, false, 0x100000, 2, [7, 8], 0, [], 0, none, 0, false⟩ : Req).who = .port ∧
      w235.svc.split = true ∧
      (⟨.port, true, false, 0x100000, 2, [7, 8], 0, [], 0, none, 0, false⟩ : Req).write = true ∧
      (⟨.port, true, false, 0x100000, 2, [7, 8], 0, [], 0, none, 0, false⟩ : Req).bytes = false ∧
      (⟨.port, true, false, 0x100000, 2, [7, 8], 0, [], 0, none, 0, false⟩ : Req).wait = none ∧
      (⟨.port, true, false, 0x100000, 2, [7, 8], 0, [], 0, none, 0, false⟩ : Req).status = 0 ∧
      (⟨.port, true, false, 0x100000, 2, [7, 8], 0, [], 0, none, 0, false⟩ : Req).addr % 4 = 0 ∧
      (⟨.port, true, false, 0x100000, 2, [7, 8], 0, [], 0, none, 0, false⟩ : Req).k % 4 = 0 ∧
      (⟨.port, true, false, 0x100000, 2, [7, 8], 0, [], 0, none, 0, false⟩ : Req).addr + (⟨.port, true, false, 0x100000, 2, [7, 8], 0, [], 0, none, 0, false⟩ : Req).k < 0x200000 ∧
      (⟨.port, true, false, 0x100000, 2, [7, 8], 0, [], 0, none, 0, false⟩ : Req).k < 4 * (⟨.port, true, false, 0x100000, 2, [7, 8], 0, [], 0, none, 0, false⟩ : Req).n) ∧
    (w236.reqs = [(⟨.port, true, false, 0x300000, 2, [7, 8], 0, [], 3, none, 0, false⟩ : Req)] ∧
      (⟨.port, true, false, 0x300000, 2, [7, 8], 0, [], 3, none, 0, false⟩ : Req).who = .port ∧
      w236.svc.split = true ∧
      (⟨.port, true, false, 0x300000, 2, [7, 8], 0, [], 3, none, 0, false⟩ : Req).bytes = false ∧
      (⟨.port, true, false, 0x300000, 2, [7, 8], 0, [], 3, none, 0, false⟩ : Req).wait = none ∧
      (⟨.port, true, false, 0x300000, 2, [7, 8], 0, [], 3, none, 0, false⟩ : Req).status ≠ 0 ∧
      (⟨.port, true, false, 0x300000, 2, [7, 8], 0, [], 3, none, 0, false⟩ : Req).k < 4 * (⟨.port, true, false, 0x300000, 2, [7, 8], 0, [], 3, none, 0, false⟩ : Req).n) ∧
    (w237.wf = true ∧ w237.reqs = [(⟨.port, false, false, 0, 1, [], 4, [9], 5, none, 0, false⟩ : Req)] ∧
      (⟨.port, false, false, 0, 1, [], 4, [9], 5, none, 0, false⟩ : Req).who = .port ∧ w237.svc.split = true ∧
      (⟨.port, false, false, 0, 1, [], 4, [9], 5, none, 0, false⟩ : Req).wait = none ∧
      (⟨.port, false, false, 0, 1, [], 4, [9], 5, none, 0, false⟩ : Req).status < 256 ∧
      (if (⟨.port, false, false, 0, 1, [], 4, [9], 5, none, 0, false⟩ : Req).bytes then (⟨.port, false, false, 0, 1, [], 4, [9], 5, none, 0, false⟩ : Req).n else 4 * (⟨.port, false, false, 0, 1, [], 4, [9], 5, none, 0, false⟩ : Req).n) ≤ (⟨.port, false, false, 0, 1, [], 4, [9], 5, none, 0, false⟩ : Req).k) ∧
    (w238.reqs = [(⟨.port, false, false, 0x200000, 2, [], 4, [9], 0, none, 0, false⟩ : Req)] ∧
      (⟨.port, false, false, 0x200000, 2, [], 4, [9], 0, none, 0, false⟩ : Req).who = .port ∧
      w238.svc.split = true ∧
      (⟨.port, false, false, 0x200000, 2, [], 4, [9], 0, none, 0, false⟩ : Req).write = false ∧
      (⟨.port, false, false, 0x200000, 2, [], 4, [9], 0, none, 0, false⟩ : Req).bytes = false ∧
      (⟨.port, false, false, 0x200000, 2, [], 4, [9], 0, none, 0, false⟩ : Req).wait = none ∧
      (⟨.port, false, false, 0x200000, 2, [], 4, [9], 0, none, 0, false⟩ : Req).status = 0 ∧
      0x200000 ≤ (⟨.port, false, false, 0x200000, 2, [], 4, [9], 0, none, 0, false⟩ : Req).addr + (⟨.port, false, false, 0x200000, 2, [], 4, [9], 0, none, 0, false⟩ : Req).k ∧
      (⟨.port, false, false, 0x200000, 2, [], 4, [9], 0, none, 0, false⟩ : Req).addr + (⟨.port, false, false, 0x200000, 2, [], 4, [9], 0, none, 0, false⟩ : Req).k < 0x220000 ∧
      (⟨.port, false, false, 0x200000, 2, [], 4, [9], 0, none, 0, false⟩ : Req).k < 4 * (⟨.port, false, false, 0x200000, 2, [], 4, [9], 0, none, 0, false⟩ : Req).n) ∧
    (w239.reqs = [(⟨.port, true, false, 0x200000, 2, [7, 8], 0, [], 0, none, 0, false⟩ : Req)] ∧
      (⟨.port, true, false, 0x200000, 2, [7, 8], 0, [], 0, none, 0, false⟩ : Req).who = .port ∧
      w239.svc.split = true ∧
      (⟨.port, true, false, 0x200000, 2, [7, 8], 0, [], 0, none, 0, false⟩ : Req).write = true ∧
      (⟨.port, true, false, 0x200000, 2, [7, 8], 0, [], 0, none, 0, false⟩ : Req).bytes = false ∧
      (⟨.port, true, false, 0x200000, 2, [7, 8], 0, [], 0, none, 0, false⟩ : Req).wait = none ∧
      (⟨.port, true, false, 0x200000, 2, [7, 8], 0, [], 0, none, 0, false⟩ : Req).status = 0 ∧
      0x200000 ≤ (⟨.port, true, false, 0x200000, 2, [7, 8], 0, [], 0, none, 0, false⟩ : Req).addr + (⟨.port, true, false, 0x200000, 2, [7, 8], 0, [], 0, none, 0, false⟩ : Req).k ∧
      (⟨.port, true, false, 0x200000, 2, [7, 8], 0, [], 0, none, 0, false⟩ : Req).addr + (⟨.port, true, false, 0x200000, 2, [7, 8], 0, [], 0, none, 0, false⟩ : Req).k < 0x220000 ∧
      (⟨.port, true, false, 0x200000, 2, [7, 8], 0, [], 0, none, 0, false⟩ : Req).k + 4 < 4 * (⟨.port, true, false, 0x200000, 2, [7, 8], 0, [], 0, none, 0, false⟩ : Req).n ∧
      w239.writeGate ((⟨.port, true, false, 0x200000, 2, [7, 8], 0, [], 0, none, 0, false⟩ : Req).addr + (⟨.port, true, false, 0x200000, 2, [7, 8], 0, [], 0, none, 0, false⟩ : Req).k) = true ∧
      ((⟨.port, true, false, 0x200000, 2, [7, 8], 0, [], 0, none, 0, false⟩ : Req).addr + (⟨.port, true, false, 0x200000, 2, [7, 8], 0, [], 0, none, 0, false⟩ : Req).k + 4) % 64 ≠ 0) ∧
    (w240.reqs = [(⟨.port, true, false, 0x200000, 2, [7, 8], 4, [], 0, none, 0, false⟩ : Req)] ∧
      (⟨.port, true, false, 0x200000, 2, [7, 8], 4, [], 0, none, 0, false⟩ : Req).who = .port ∧
      w240.svc.split = true ∧
      (⟨.port, true, false, 0x200000, 2, [7, 8], 4, [], 0, none, 0, false⟩ : Req).write = true ∧
      (⟨.port, true, false, 0x200000, 2, [7, 8], 4, [], 0, none, 0, false⟩ : Req).bytes = false ∧
      (⟨.port, true, false, 0x200000, 2, [7, 8], 4, [], 0, none, 0, false⟩ : Req).wait = none ∧
      (⟨.port, true, false, 0x200000, 2, [7, 8], 4, [], 0, none, 0, false⟩ : Req).status = 0 ∧
      0x200000 ≤ (⟨.port, true, false, 0x200000, 2, [7, 8], 4, [], 0, none, 0, false⟩ : Req).addr + (⟨.port, true, false, 0x200000, 2, [7, 8], 4, [], 0, none, 0, false⟩ : Req).k ∧
      (⟨.port, true, false, 0x200000, 2, [7, 8], 4, [], 0, none, 0, false⟩ : Req).addr + (⟨.port, true, false, 0x200000, 2, [7, 8], 4, [], 0, none, 0, false⟩ : Req).k < 0x220000 ∧
      (⟨.port, true, false, 0x200000, 2, [7, 8], 4, [], 0, none, 0, false⟩ : Req).k < 4 * (⟨.port, true, false, 0x200000, 2, [7, 8], 4, [], 0, none, 0, false⟩ : Req).n ∧
      w240.writeGate ((⟨.port, true, false, 0x200000, 2, [7, 8], 4, [], 0, none, 0, false⟩ : Req).addr + (⟨.port, true, false, 0x200000, 2, [7, 8], 4, [], 0, none, 0, false⟩ : Req).k) = true ∧
      (((⟨.port, true, false, 0x200000, 2, [7, 8], 4, [], 0, none, 0, false⟩ : Req).addr + (⟨.port, true, false, 0x200000, 2, [7, 8], 4, [], 0, none, 0, false⟩ : Req).k + 4) % 64 = 0 ∨ 4 * (⟨.port, true, false, 0x200000, 2, [7, 8], 4, [], 0, none, 0, false⟩ : Req).n ≤ (⟨.port, true, false, 0x200000, 2, [7, 8], 4, [], 0, none, 0, false⟩ : Req).k + 4)) ∧
    (w241.wf = true ∧
      w241.reqs.find? (fun q => decide (q.who = .port)) = some (⟨.port, true, false, 0x200000, 2, [7, 8], 4, [], 0, none, 0, false⟩ : Req)) ∧
    (w242.reqs.find? (fun q => decide (q.who = .port)) = some (⟨.port, true, false, 0x200000, 2, [7, 8], 0, [], 0, some 8, 0, false⟩ : Req) ∧
      (⟨.port, true, false, 0x200000, 2, [7, 8], 0, [], 0, some 8, 0, false⟩ : Req).write = true ∧
      (⟨.port, true, false, 0x200000, 2, [7, 8], 0, [], 0, some 8, 0, false⟩ : Req).bytes = false ∧
      (⟨.port, true, false, 0x200000, 2, [7, 8], 0, [], 0, some 8, 0, false⟩ : Req).status = 0 ∧
      (⟨.port, true, false, 0x200000, 2, [7, 8], 0, [], 0, some 8, 0, false⟩ : Req).k % 4 = 0 ∧
      0x200000 ≤ (⟨.port, true, false, 0x200000, 2, [7, 8], 0, [], 0, some 8, 0, false⟩ : Req).addr + (⟨.port, true, false, 0x200000, 2, [7, 8], 0, [], 0, some 8, 0, false⟩ : Req).k ∧
      (⟨.port, true, false, 0x200000, 2, [7, 8], 0, [], 0, some 8, 0, false⟩ : Req).data.length = (⟨.port, true, false, 0x200000, 2, [7, 8], 0, [], 0, some 8, 0, false⟩ : Req).n ∧
      (∀ x, w242.fol.txn = some x → x.who ≠ .port)) ∧
    (w243.reqs.find? (fun q => decide (q.who = .port)) = some (⟨.port, true, false, 0x200000, 2, [7, 8], 0, [], 0, some 8, 0, false⟩ : Req) ∧
      w243.fol.txn = some (⟨.port, none, 4, [8, 0, 0, 0], 0⟩ : FolTxn) ∧
      (⟨.port, none, 4, [8, 0, 0, 0], 0⟩ : FolTxn).who = .port) :=
  by and_intros <;> decide +kernel

end Sys2Proof.Tests
end

namespace Sys2Proof.Machine

/-! PROOFS. The state after reset and a power-on reset, memory, counters and clear registers, and the access types of
registers. -/

/-! ### The state after reset, and little-endian memory -/

/-- Settles O4: nothing is listed after reset, and every list of a fixed number of things has that many entries. -/
theorem resetHasStoredForm : Obligations.ResetHasStoredForm := by
  unfold Obligations.ResetHasStoredForm
  exact ⟨rfl, by decide +kernel⟩

theorem State.mb_setM_same {s : State} (h : Memory.wf s.mem = true) (a v : Nat) {k : Nat} (hk : k < 4) :
    (s.setM a v).mb (a + k) = v / 256 ^ k % 256 := by
  change (Memory.byte (Memory.setWord s.mem a v) (a + k)).toNat = _
  rw [Memory.byte_setWord_same h a v k hk, BitVec.toNat_ofNat]

/-- Settles O16: the four bytes of a stored word are its base-256 digits, lowest first. -/
theorem memoryIsLittleEndian : Obligations.MemoryIsLittleEndian := by
  intro s a v hs hv
  have hm := State.wf_mem hs
  have low := State.mb_setM_same hm a v (k := 0) (by omega)
  have high := State.mb_setM_same hm a v (k := 3) (by omega)
  refine ⟨?_, by simpa using low, ?_, fun b hb => State.mb_setM_ne s v hb⟩
  · rw [State.mw_setM_same hm, Nat.mod_eq_of_lt hv]
  · rw [high]; omega

/-! ### Counters and clear registers (R20, R58) -/

section Counters

variable {s : State}

/-- The clear registers outside the drives. -/
def clearAddrs : List Nat :=
  [0x40000054, 0x40020050, 0x40030050, 0x40040010, 0x40050014, 0x40050034, 0x40050054, 0x4006004C, 0x400700CC,
   0x400780CC, 0x40080078, 0x40090058, 0x400A0050, 0x400B0038, 0x400C0070, 0x400D0814, 0x400E0038]

/-- A register that clears counters is one of the blocks' clear registers, or that of a drive. -/
theorem counterList_ne_nil {a : Nat} (h : counterList a ≠ []) :
    a ∈ clearAddrs ∨ (0x40050200 ≤ a ∧ a < 0x40050380 ∧ (a - 0x40050200) % 0x40 = 0x20) := by
  unfold counterList at h
  split at h
  case h_17 =>
    split at h
    · rename_i ha; subst ha; exact .inl (by decide)
    · split at h
      · exact .inr ‹_›
      · exact absurd rfl h
  all_goals exact .inl (by decide)

theorem counterList_nodup (a : Nat) : (counterList a).Nodup := by
  unfold counterList
  split
  case h_17 =>
    split
    · decide
    · split
      · simp; omega
      · exact List.nodup_nil
  all_goals decide

/-- A clear register is a register, and not FOL_PROT. -/
theorem counterList_register {a : Nat} (h : counterList a ≠ []) : inMem a = false ∧ a ≠ F.FOL_PROT_BP.addr := by
  rcases counterList_ne_nil h with h | ⟨h, h', -⟩
  · have all : ∀ a ∈ clearAddrs, inMem a = false ∧ a ≠ F.FOL_PROT_BP.addr := by decide
    exact all a h
  · have hp : F.FOL_PROT_BP.addr = 0x400A0004 := rfl
    refine ⟨?_, by omega⟩
    simp only [inMem, Bool.or_eq_false_iff, Bool.and_eq_false_iff, decide_eq_false_iff_not]
    omega

/-- What a clear register sets besides counters: the headroom minima, and the peak temperature. -/
def clearedBeside (a : Nat) : List Nat :=
  (if a = 0x40000054 then (List.range 4).map (fun k => (F.CRT_HEAD_MIN k).addr) else [])
    ++ (if a = 0x400B0038 then [F.THM_MAX_PEAK.addr] else [])

theorem counterList_apart_clearedBeside {a c : Nat} (h : c ∈ counterList a) : c ∉ clearedBeside a := by
  unfold clearedBeside
  split
  · subst a; revert c; decide
  · split
    · subst a; revert c; decide
    · exact List.not_mem_nil

/-- The counters that the set bits of `w` select in `l`, each with its bit, are cleared in turn. -/
def State.clearCounters (s : State) (w : Nat) (l : List (Nat × Nat)) : State :=
  l.foldl (fun t p => if bit w p.2 then t.wr p.1 0 else t) s

theorem State.clearCounters_cons (s : State) (w c n : Nat) (l : List (Nat × Nat)) :
    s.clearCounters w ((c, n) :: l) = (if bit w n then s.wr c 0 else s).clearCounters w l := rfl

theorem State.counterClr_eq (s : State) (a w : Nat) : s.counterClr a w =
    if a = 0x40000054 ∧ bit w 4 then
      (s.clearCounters w (counterList a).zipIdx).each (List.range 4) (fun t k => t.setF (F.CRT_HEAD_MIN k) 0xFFFF)
    else if a = 0x400B0038 ∧ bit w 2 then (s.clearCounters w (counterList a).zipIdx).setF F.THM_MAX_PEAK 0x8000
    else s.clearCounters w (counterList a).zipIdx := rfl

theorem State.clearCounters_same (w : Nat) (l : List Nat) (n : Nat) (s : State) :
    sameRegs s (s.clearCounters w (l.zipIdx n)) l := by
  induction l generalizing n s with
  | nil => exact sameRegs.refl s []
  | cons c l ih =>
    rw [List.zipIdx_cons, State.clearCounters_cons]
    have first : sameRegs s (if bit w n then s.wr c 0 else s) (c :: l) := by
      split
      · exact sameRegs.wr s 0 List.mem_cons_self
      · exact sameRegs.refl s _
    exact first.trans ((ih (n + 1) _).mono fun _ h => List.mem_cons_of_mem c h)

theorem State.clearCounters_mem (w : Nat) (l : List (Nat × Nat)) (s : State) : (s.clearCounters w l).mem = s.mem :=
  State.each_mem (fun t p => by split <;> simp) l s

theorem State.clearCounters_regsWf (w : Nat) (l : List (Nat × Nat)) {s : State} (h : regsWf s.regs = true) :
    regsWf (s.clearCounters w l).regs = true := by
  induction l generalizing s with
  | nil => exact h
  | cons p l ih =>
    refine ih ?_
    dsimp only
    split
    · exact State.wr_regsWf h p.1 0
    · exact h

/-- Each counter of a list without repetition is cleared by its own bit. -/
theorem State.rd_clearCounters (w : Nat) {l : List Nat} (hl : l.Nodup) (n : Nat) {s : State} (h : regsWf s.regs = true)
    {k c : Nat} (hk : l[k]? = some c) :
    (s.clearCounters w (l.zipIdx n)).rd c = if bit w (n + k) then 0 else s.rd c := by
  induction l generalizing n s k with
  | nil => simp at hk
  | cons x l ih =>
    rw [List.zipIdx_cons, State.clearCounters_cons]
    obtain ⟨hx, hl⟩ := List.nodup_cons.mp hl
    cases k with
    | zero =>
      obtain rfl : x = c := by simpa using hk
      rw [State.clearCounters_same w l (n + 1) _ x hx, Nat.add_zero]
      split
      · exact State.rd_wr_same h x 0
      · rfl
    | succ k =>
      have hk : l[k]? = some c := by simpa using hk
      have hc : c ≠ x := fun e => hx (e ▸ List.mem_of_getElem? hk)
      have hwf : regsWf (if bit w n then s.wr x 0 else s).regs = true := by
        split
        · exact State.wr_regsWf h x 0
        · exact h
      rw [ih hl (n + 1) hwf hk, show n + 1 + k = n + (k + 1) by omega]
      congr 1
      split
      · exact State.rd_wr_ne s 0 hc
      · rfl

/-- Fields that share no bit, set to one value in turn: each then has that value. -/
theorem State.f_each_setF {x : Nat → Fld} (hx : ∀ i, (x i).fits = true) (hxy : ∀ i j, i ≠ j → (x i).apart (x j) = true)
    (v : Nat) {l : List Nat} {k : Nat} (hk : k ∈ l) {s : State} (h : regsWf s.regs = true) :
    (s.each l (fun t i => t.setF (x i) v)).f (x k) = v % 2 ^ (x k).width := by
  have others : ∀ (l : List Nat) (t : State), k ∉ l → regsWf t.regs = true →
      (t.each l (fun t i => t.setF (x i) v)).f (x k) = t.f (x k) := by
    intro l
    induction l with
    | nil => intro t _ _; rfl
    | cons i l ih =>
      intro t hl ht
      have hi : i ≠ k := fun e => hl (e ▸ List.mem_cons_self)
      exact (ih (t.setF (x i) v) (fun e => hl (List.mem_cons_of_mem i e)) (State.setF_regsWf ht _ _)).trans
        (State.f_setF_apart ht (hx i) (hxy i k hi) v)
  induction l generalizing s with
  | nil => exact absurd hk List.not_mem_nil
  | cons i l ih =>
    have hw := State.setF_regsWf h (x i) v
    by_cases hl : k ∈ l
    · exact ih hl hw
    · obtain rfl : k = i := by simpa [hl] using hk
      exact (others l (s.setF (x k) v) hl hw).trans (State.f_setF_same h (hx k) v)

theorem sameRegs.each_setF (x : Nat → Fld) (v : Nat) (l : List Nat) (s : State) :
    sameRegs s (s.each l (fun t i => t.setF (x i) v)) (l.map (fun i => (x i).addr)) := by
  induction l generalizing s with
  | nil => exact sameRegs.refl s []
  | cons i l ih =>
    exact (sameRegs.setF s v List.mem_cons_self).trans
      ((ih (s.setF (x i) v)).mono fun _ h => List.mem_cons_of_mem _ h)

theorem State.counterClr_same (s : State) (a w : Nat) :
    sameRegs (s.clearCounters w (counterList a).zipIdx) (s.counterClr a w) (clearedBeside a) := by
  rw [State.counterClr_eq]
  split
  · rename_i h
    rw [h.1]
    exact (sameRegs.each_setF F.CRT_HEAD_MIN 0xFFFF (List.range 4) _).mono (by decide)
  · split
    · rename_i h
      rw [h.1]
      exact sameRegs.setF _ _ (by decide)
    · exact sameRegs.refl _ _

theorem State.counterClr_mem (s : State) (a w : Nat) : (s.counterClr a w).mem = s.mem := by
  rw [State.counterClr_eq]
  split
  · rw [State.each_mem (fun t k => t.setF_mem _ _), State.clearCounters_mem]
  · split
    · rw [State.setF_mem, State.clearCounters_mem]
    · exact State.clearCounters_mem w _ s

/-- What a clear register does to its counters (R58). -/
theorem State.rd_counterClr (h : regsWf s.regs = true) (a w : Nat) {k c : Nat} (hk : (counterList a)[k]? = some c) :
    (s.counterClr a w).rd c = if bit w k then 0 else s.rd c := by
  rw [s.counterClr_same a w c (counterList_apart_clearedBeside (List.mem_of_getElem? hk)),
    State.rd_clearCounters w (counterList_nodup a) 0 h hk, Nat.zero_add]

/-- HEADMIN returns the headroom minima to 0xFFFF. -/
theorem State.headMin_counterClr (h : regsWf s.regs = true) (w : Nat) {k : Nat} (hk : k < 4) :
    (s.counterClr 0x40000054 w).f (F.CRT_HEAD_MIN k) = if bit w 4 then 0xFFFF else s.f (F.CRT_HEAD_MIN k) := by
  have apart : ∀ i j, i ≠ j → (F.CRT_HEAD_MIN i).apart (F.CRT_HEAD_MIN j) = true := by
    intro i j hij
    simp [Fld.apart, F.CRT_HEAD_MIN, hij]
  have outside : ∀ k, k < 4 → (F.CRT_HEAD_MIN k).addr ∉ counterList 0x40000054 := by decide
  rw [State.counterClr_eq]
  split
  · rename_i hb
    rw [if_pos hb.2]
    exact State.f_each_setF (fun _ => rfl) apart 0xFFFF (List.mem_range.mpr hk) (State.clearCounters_regsWf w _ h)
  · rename_i hb
    rw [if_neg (fun e => hb ⟨rfl, e⟩), if_neg (fun e => absurd e.1 (by decide))]
    unfold State.f
    rw [State.clearCounters_same w _ 0 s _ (outside k hk)]

/-- The thermal watch's clear register starts the peak temperature anew. -/
theorem State.peak_counterClr (h : regsWf s.regs = true) (w : Nat) :
    (s.counterClr 0x400B0038 w).f F.THM_MAX_PEAK = if bit w 2 then 0x8000 else s.f F.THM_MAX_PEAK := by
  rw [State.counterClr_eq, if_neg (fun e => absurd e.1 (by decide))]
  split
  · rename_i hb
    rw [if_pos hb.2]
    exact State.f_setF_same (State.clearCounters_regsWf w _ h) rfl 0x8000
  · rename_i hb
    rw [if_neg (fun e => hb ⟨rfl, e⟩)]
    unfold State.f
    rw [State.clearCounters_same w _ 0 s _ (by decide)]

/-- An admitted write of a clear register clears what it selects, and nothing is discarded. -/
theorem exec_counterClear {m : Master} {a : BitVec 32} (w : Word) (ha : s.admits m a.toNat = true)
    (h : counterList a.toNat ≠ []) : exec (.counterClear m a w) s = .next (s.counterClr a.toNat w.toNat) := by
  have he : (counterList a.toNat).isEmpty = false := by simpa using h
  obtain ⟨hm, hp⟩ := counterList_register h
  have run : exec (.counterClear m a w) s = execCounterClear m a w s := rfl
  have own : s.regWrite a.toNat w.toNat = (s.counterClr a.toNat w.toNat, true) := by
    unfold State.regWrite
    rw [he]
    rfl
  rw [run, execCounterClear, he, State.masterOp_admitted ha hm hp, own]
  rfl

end Counters

/-- Settles O17: an addition is limited to the field's greatest value, and a clear register's frame is its list of
counters with what it sets beside them. -/
theorem countersSaturateAndClear : Obligations.CountersSaturateAndClear := by
  refine ⟨fun s x n hs hx => ?_, fun s m a w hs ha hl => ?_⟩
  · have fits : x.fits = true := by simpa [Fld.fits] using hx
    exact ⟨State.f_add (State.wf_regs hs) fits n, sameRegs.setF s _ List.mem_cons_self, fun _ => rfl⟩
  · have hr := State.wf_regs hs
    refine ⟨_, exec_counterClear w ha hl, fun k c hk => State.rd_counterClr hr _ _ hk, fun e k hk => ?_,
      fun e => ?_, ?_, sameMem.ofMem (State.counterClr_mem s _ _)⟩
    · rw [e]; exact State.headMin_counterClr hr _ hk
    · rw [e]; exact State.peak_counterClr hr _
    · rw [List.append_assoc]
      exact ((State.clearCounters_same _ _ 0 s).mono fun _ h => List.mem_append_left _ h).trans
        ((State.counterClr_same s _ _).mono fun _ h => List.mem_append_right _ h)

/-! ### The bits of a written word (R16) -/

section Bits

theorem bit_eq_testBit (x k : Nat) : bit x k = x.testBit k := by
  rw [Nat.testBit_eq_decide_div_mod_eq]
  rfl

theorem bit_mod {k n : Nat} (x : Nat) (hk : k < n) : bit (x % 2 ^ n) k = bit x k := by
  simp [bit_eq_testBit, hk]

theorem bit_andN (x y k : Nat) : bit (andN x y) k = (bit x k && bit y k) := by
  simp only [bit_eq_testBit]
  exact Nat.testBit_land x y k

theorem bit_orN (x y k : Nat) : bit (orN x y) k = (bit x k || bit y k) := by
  simp only [bit_eq_testBit]
  exact Nat.testBit_lor x y k

theorem bit_andNot (x y k : Nat) : bit (andNot x y) k = (bit x k && (decide (k < 32) && !bit y k)) := by
  simp only [bit_eq_testBit]
  have e : 4294967295 - y % 4294967296 = 2 ^ 32 - (y % 2 ^ 32 + 1) := by omega
  rw [andNot, e]
  refine (Nat.testBit_land x _ k).trans ?_
  rw [Nat.testBit_two_pow_sub_succ (Nat.mod_lt y (by decide)), Nat.testBit_mod_two_pow]
  by_cases hk : k < 32 <;> simp [hk]

/-- Words that share no bit add up without carries. -/
theorem bit_add {x y : Nat} (h : ∀ i, (bit x i && bit y i) = false) (k : Nat) :
    bit (x + y) k = (bit x k || bit y k) := by
  simp only [bit_eq_testBit] at h ⊢
  have disjoint : BitVec.ofNat (k + 1) x &&& BitVec.ofNat (k + 1) y = 0#(k + 1) := by
    refine BitVec.eq_of_getLsbD_eq fun i hi => ?_
    simpa only [BitVec.getLsbD_and, BitVec.getLsbD_ofNat, hi, decide_true, Bool.true_and, BitVec.getLsbD_ofNat,
      Nat.zero_testBit, Bool.and_false] using h i
  have sum := congrArg (fun v => BitVec.getLsbD v k) (BitVec.add_eq_or_of_and_eq_zero _ _ disjoint)
  simpa only [← BitVec.ofNat_add, BitVec.getLsbD_or, BitVec.getLsbD_ofNat, Nat.lt_succ_self, decide_true,
    Bool.true_and] using sum

/-- A write under access types, bit by bit: RW bits, and RWL bits while they are free, take the written value, W1C bits
are cleared by a 1, and the others stay. -/
theorem RegRow.bit_apply (r : RegRow) (old w : Nat) (free : Bool) {k : Nat} (hk : k < 32) :
    bit (r.apply old w free) k =
      if bit r.rw k || (free && bit r.rwl k) then bit w k
      else if bit r.w1c k && bit w k then false else bit old k := by
  have mask : ∀ i, bit (orN r.rw (if free then r.rwl else 0)) i = (bit r.rw i || (free && bit r.rwl i)) := by
    intro i
    rw [bit_orN]
    cases free
    · simp [bit_eq_testBit]
    · rfl
  rw [RegRow.apply, bit_add]
  · simp only [bit_andNot, bit_andN, mask, hk]
    cases bit r.rw k <;> cases free && bit r.rwl k <;> cases bit r.w1c k <;> cases bit w k <;> simp
  · intro i
    simp only [bit_andNot, bit_andN]
    cases bit (orN r.rw (if free then r.rwl else 0)) i <;> simp

end Bits

/-! ### What the register table says of RWL fields -/

section Table

theorem findReg_lt {a : Nat} (h : a < 0x40000000) : findReg a = none := if_pos h

theorem findReg_ge {a : Nat} {r : RegRow} (h : findReg a = some r) : 0x40000000 ≤ a := by
  by_contra hlt
  rw [findReg_lt (by omega)] at h
  exact absurd h nofun

theorem findReg_of_ge {a : Nat} (h : 0x40000000 ≤ a) : findReg a = (blockRegs (blockOf a)).find? (·.hit a) := by
  rw [findReg, blockOf, if_neg (by omega), if_neg (by omega)]

/-- A register's row stands in the table of its block. -/
theorem findReg_block {a : Nat} {r : RegRow} (h : findReg a = some r) : r ∈ blockRegs (blockOf a) := by
  rw [findReg_of_ge (findReg_ge h)] at h
  exact List.mem_of_find?_eq_some h

theorem findReg_hit {a : Nat} {r : RegRow} (h : findReg a = some r) : r.hit a = true := by
  rw [findReg_of_ge (findReg_ge h)] at h
  exact List.find?_some (p := fun r : RegRow => r.hit a) h

/-- Where no register stands, none of a list of registers does. -/
theorem not_mem_of_unoccupied {a : Nat} {l : List Nat} (hr : findReg a = none)
    (hl : ∀ b ∈ l, (findReg b).isSome = true) : a ∉ l := by
  intro h
  have found := hl a h
  rw [hr] at found
  exact absurd found nofun

theorem blockRegs_ge {k : Nat} (h : 15 ≤ k) : blockRegs k = [] := by
  obtain ⟨n, rfl⟩ := Nat.exists_eq_add_of_le' h
  rfl

theorem mem_allRegs {k : Nat} {r : RegRow} (h : r ∈ blockRegs k) : r ∈ allRegs := by
  by_cases hk : k < 15
  · exact List.mem_flatMap.mpr ⟨k, List.mem_range.mpr hk, h⟩
  · rw [blockRegs_ge (by omega)] at h
    exact absurd h List.not_mem_nil

theorem findReg_allRegs {a : Nat} {r : RegRow} (h : findReg a = some r) : r ∈ allRegs :=
  mem_allRegs (findReg_block h)

/-- No RWL bit of a register is RW or W1C too, and a register has 32 bits. -/
theorem rwl_apart : ∀ r ∈ allRegs, andN r.rwl r.rw = 0 ∧ andN r.rwl r.w1c = 0 ∧ r.rwl < 2 ^ 32 := by decide +kernel

theorem bit_rwl {a k : Nat} {r : RegRow} (h : findReg a = some r) (hk : bit r.rwl k = true) :
    k < 32 ∧ bit r.rw k = false ∧ bit r.w1c k = false := by
  obtain ⟨hrw, hw1c, hlt⟩ := rwl_apart r (findReg_allRegs h)
  have apart : ∀ m, andN r.rwl m = 0 → bit m k = false := by
    intro m hm
    have both := bit_andN r.rwl m k
    rw [hm, hk] at both
    simpa [bit_eq_testBit] using both.symm
  refine ⟨?_, apart _ hrw, apart _ hw1c⟩
  by_contra hge
  rw [bit_eq_testBit, Nat.testBit_lt_two_pow (hlt.trans_le (Nat.pow_le_pow_right (by decide) (by omega)))] at hk
  exact absurd hk nofun

theorem RegRow.keepsRwl_of_zero {r : RegRow} (h : r.rwl = 0) (old w : Nat) : r.keepsRwl old w = true := by
  simp [RegRow.keepsRwl, h, andN]

/-- A write that keeps the RWL fields has their bits as they are. -/
theorem RegRow.bit_of_keepsRwl {r : RegRow} {old w k : Nat} (h : r.keepsRwl old w = true) (hk : bit r.rwl k = true) :
    bit w k = bit old k := by
  have e : andN old r.rwl = andN w r.rwl := by simpa [RegRow.keepsRwl] using h
  have alike := congrArg (bit · k) e
  simpa [bit_andN, hk] using alike.symm

end Table

/-! ### A discarded write is reported (R589) -/

section Reject

variable {s : State}

/-- The registers that a report changes. -/
def rejectRegs : List Nat := [F.SVC_REJADDR.addr, F.SVC_REJINFO_SUBSYS.addr, F.SVC_IRQST_REJECT.addr] ++ countRegs

theorem State.reject_eq (s : State) (who a : Nat) : s.reject who a =
    (((((s.log (subsysOf a) 1 who a none false).ledger 11).setF F.SVC_REJADDR a).setF F.SVC_REJINFO_SUBSYS
      (subsysOf a)).setF F.SVC_REJINFO_MASTER who).setF F.SVC_IRQST_REJECT 1 := rfl

theorem State.reject_same (s : State) (who a : Nat) : sameRegs s (s.reject who a) rejectRegs := by
  have counted : ∀ b, b ∈ countRegs → b ∈ rejectRegs := fun b h => List.mem_append_right _ h
  have addr : F.SVC_REJADDR.addr ∈ rejectRegs := by simp [rejectRegs]
  have info : F.SVC_REJINFO_SUBSYS.addr ∈ rejectRegs := by simp [rejectRegs]
  have master : F.SVC_REJINFO_MASTER.addr ∈ rejectRegs := info
  have irq : F.SVC_IRQST_REJECT.addr ∈ rejectRegs := by simp [rejectRegs]
  rw [State.reject_eq]
  have logged := (s.log_same (subsysOf a) 1 who a none false).mono counted
  have reported := logged.trans ((State.ledger_same _ 11).mono counted)
  exact (((reported.trans (sameRegs.setF _ _ addr)).trans (sameRegs.setF _ _ info)).trans
    (sameRegs.setF _ _ master)).trans (sameRegs.setF _ _ irq)

theorem State.reject_mem (s : State) (who a : Nat) : (s.reject who a).mem = s.mem := by
  rw [State.reject_eq, State.setF_mem, State.setF_mem, State.setF_mem, State.setF_mem, State.ledger_mem, State.log_mem]

/-- The last address discarded stands in REJADDR, and REJECT is set. -/
theorem State.reject_shown (h : regsWf s.regs = true) (who : Nat) {a : Nat} (ha : a < 2 ^ 32) :
    (s.reject who a).rd F.SVC_REJADDR.addr = a ∧ (s.reject who a).on F.SVC_IRQST_REJECT = true := by
  have h0 := State.ledger_regsWf (State.log_regsWf h (subsysOf a) 1 who a none false) 11
  have h1 := State.setF_regsWf h0 F.SVC_REJADDR a
  have h2 := State.setF_regsWf (State.setF_regsWf h1 F.SVC_REJINFO_SUBSYS (subsysOf a)) F.SVC_REJINFO_MASTER who
  rw [State.reject_eq]
  refine ⟨?_, State.on_setF_same h2 rfl rfl 1⟩
  have whole : ∀ x, x < 2 ^ 32 → setBits x 0 32 a = a := by
    intro x hx
    simp only [setBits, Nat.pow_zero, Nat.mod_one, Nat.zero_add, Nat.mul_one, Nat.mod_eq_of_lt ha, Nat.div_eq_of_lt hx,
      Nat.zero_mul, Nat.add_zero]
  rw [State.rd_setF_ne _ _ (by decide), State.rd_setF_ne _ _ (by decide), State.rd_setF_ne _ _ (by decide),
    State.rd_setF_same h0 rfl]
  exact whole _ (State.rd_lt _ _)

end Reject

/-! ### A write under access types and state rules -/

section PlainWrite

variable {s : State} {a w : Nat} {r : RegRow}

/-- The word reads alike in both, as far as the bits of `m` go. -/
def sameBits (m x y : Nat) : Prop := ∀ k, bit m k = true → bit y k = bit x k

theorem sameBits.refl (m x : Nat) : sameBits m x x := fun _ _ => rfl

theorem State.plainWrite_none (h : findReg a = none) : s.plainWrite a w = (s, true) := by
  unfold State.plainWrite
  rw [h]

/-- A write of an unshadowed register that breaks no structural check. -/
theorem State.plainWrite_taken (hr : findReg a = some r) (hsh : r.shadowed = false)
    (ok : (r.judged a (s.rd a) w && s.wouldBreak (s.wr a (r.apply (s.rd a) w (s.ownerStopped a)))) = false) :
    s.plainWrite a w =
      (s.wr a (r.apply (s.rd a) w (s.ownerStopped a)), s.ownerStopped a || r.keepsRwl (s.rd a) w) := by
  simp only [State.plainWrite, hr, hsh, ok, Bool.false_eq_true, if_false]

/-- What a register reads once a write has been taken. -/
theorem State.bit_rd_apply (h : regsWf s.regs = true) (r : RegRow) (a w : Nat) (free : Bool) {k : Nat} (hk : k < 32) :
    bit ((s.wr a (r.apply (s.rd a) w free)).rd a) k =
      if bit r.rw k || (free && bit r.rwl k) then bit w k
      else if bit r.w1c k && bit w k then false else bit (s.rd a) k := by
  rw [State.rd_wr_same h, bit_mod _ hk, r.bit_apply _ _ _ hk]

/-- While its owner runs, a write that would change an RWL field leaves the RWL fields and is reported. -/
theorem State.plainWrite_locked (h : regsWf s.regs = true) (hr : findReg a = some r) (hsh : r.shadowed = false)
    (hrun : s.ownerStopped a = false) (hch : r.keepsRwl (s.rd a) w = false) :
    (s.plainWrite a w).2 = false ∧ sameBits r.rwl (s.rd a) ((s.plainWrite a w).1.rd a) := by
  cases ok : r.judged a (s.rd a) w && s.wouldBreak (s.wr a (r.apply (s.rd a) w (s.ownerStopped a))) with
  | true =>
    have e : s.plainWrite a w = (s, false) := by
      simp only [State.plainWrite, hr, hsh, ok, Bool.false_eq_true, if_false, if_true]
    rw [e]
    exact ⟨rfl, sameBits.refl _ _⟩
  | false =>
    rw [State.plainWrite_taken hr hsh ok, hrun, hch]
    refine ⟨rfl, fun k hk => ?_⟩
    obtain ⟨hlt, hrw, hw1c⟩ := bit_rwl hr hk
    rw [State.bit_rd_apply h r a w false hlt, hrw, hw1c]
    rfl

end PlainWrite

/-! ### What else a register's write changes, block by block -/

section Effects

variable {s : State}

/-- A loop whose passes each change only the registers of a list changes only these. -/
theorem sameRegs.each_of_mem {α : Type} {l : List Nat} {f : State → α → State} {xs : List α}
    (h : ∀ x, x ∈ xs → ∀ s, sameRegs s (f s x) l) (s : State) : sameRegs s (s.each xs f) l := by
  induction xs generalizing s with
  | nil => exact sameRegs.refl s l
  | cons x xs ih =>
    exact (h x List.mem_cons_self s).trans (ih (fun y hy => h y (List.mem_cons_of_mem x hy)) (f s x))

theorem sameRegs.cond {l : List Nat} {f : State → State} (b : Bool) (h : sameRegs s (f s) l) :
    sameRegs s (s.cond b f) l := by
  cases b
  · exact sameRegs.refl s l
  · exact h

theorem sameRegs.ite {t u : State} {l : List Nat} {c : Prop} [Decidable c] (ht : sameRegs s t l) (hu : sameRegs s u l) :
    sameRegs s (if c then t else u) l := by
  split
  · exact ht
  · exact hu

/-! #### Converters and sequencer -/

/-- Registers that follow a change of CORE_EN. -/
def coreEnRegs : List Nat := [0x40020028, 0x4002002C, 0x40020030]

theorem State.powerUpCore_same (s : State) (k : Nat) : sameRegs s (s.powerUpCore k) coreEnRegs := by
  have age : (calAge k).addr ∈ coreEnRegs := by
    unfold calAge
    split <;> decide
  unfold State.powerUpCore
  exact sameRegs.ite (sameRegs.setF { s with adc := _ } _ age) (sameRegs.ofRegs rfl)

theorem State.cycleDrop_same (s : State) : sameRegs s s.cycleDrop coreEnRegs := by
  have adc : ∀ (t : State) (x : Conv9), sameRegs t { t with adc := x } coreEnRegs := fun _ _ => sameRegs.ofRegs rfl
  have ended : ∀ t : State, sameRegs t t.endCycle coreEnRegs := fun t =>
    (sameRegs.setF (x := F.ADC_CALSTAT_PHASE) t 0 (by decide)).trans (adc _ _)
  unfold State.cycleDrop
  exact (sameRegs.cond (f := (·.powerUpCore _)) _ (s.powerUpCore_same _)).trans ((ended _).trans (adc _ _))

theorem State.coreEnWritten_same (s : State) (old : Nat) : sameRegs s (s.coreEnWritten old) coreEnRegs := by
  unfold State.coreEnWritten
  have up : ∀ t : State, sameRegs t (if t.unitKnown && (t.unitCode == 0 || t.unitCode == 2) then
      t.each (List.range 9) (fun t k => if t.coreEn k && !bit old k then t.powerUpCore k else t)
    else t) coreEnRegs := fun t =>
    sameRegs.ite (sameRegs.each (fun t k => sameRegs.ite (t.powerUpCore_same k) (sameRegs.refl t _)) _ t)
      (sameRegs.refl t _)
  refine (up s).trans ?_
  generalize (if s.unitKnown && (s.unitCode == 0 || s.unitCode == 2) then _ else s) = t
  have phase : sameRegs t ((t.setF F.ADC_CALSTAT_PHASE 2).setF F.ADC_CALSTAT_CORE (t.f F.ADC_CALCTL_PCORE))
      coreEnRegs :=
    (sameRegs.setF t _ (by decide)).trans (sameRegs.setF _ _ (by decide))
  exact sameRegs.ite t.cycleDrop_same (sameRegs.ite phase (sameRegs.refl t _))

theorem State.enChanged_same (s : State) (old : Bool) : sameRegs s (s.enChanged old) [] := sameRegs.ofRegs rfl

theorem State.ringStart_same (s : State) (r : Nat) : sameRegs s (s.ringStart r) [(F.SEQ_RING_POS_WIDX r).addr] := by
  have wrap : (F.SEQ_RING_POS_WRAP r).addr ∈ [(F.SEQ_RING_POS_WIDX r).addr] := List.mem_singleton.mpr rfl
  have dec : ∀ (t : State) (x : Conv9), sameRegs t { t with adc := x } [(F.SEQ_RING_POS_WIDX r).addr] :=
    fun _ _ => sameRegs.ofRegs rfl
  have start := (sameRegs.setF s 0 (List.mem_singleton.mpr rfl)).trans
    (sameRegs.setF (s.setF (F.SEQ_RING_POS_WIDX r) 0) 0 wrap)
  unfold State.ringStart
  exact start.trans (dec _ _)

/-! #### PWM -/

/-- Registers that follow the trip inputs and the enables of groups. -/
def pwmEffectRegs : List Nat :=
  [F.PWM_STAT_TRIPIN.addr, F.PWM_TRIPFLAG_FLAG.addr] ++
    (List.range 6).flatMap
      (fun g => (F.PWM_G_STAT_TRIP g).addr :: [0, 1, 2].map (fun x => (F.PWM_G_ACT_CARRY g x).addr))

theorem mem_pwmEffectRegs {g : Nat} (hg : g < 6) {a : Nat}
    (h : a ∈ (F.PWM_G_STAT_TRIP g).addr :: [0, 1, 2].map (fun x => (F.PWM_G_ACT_CARRY g x).addr)) : a ∈ pwmEffectRegs :=
  List.mem_append_right _ (List.mem_flatMap.mpr ⟨g, List.mem_range.mpr hg, h⟩)

theorem State.zeroCarry_same {g : Nat} (hg : g < 6) (s : State) : sameRegs s (s.zeroCarry g) pwmEffectRegs :=
  (sameRegs.each_setF (F.PWM_G_ACT_CARRY g) 0 [0, 1, 2] s).mono
    fun _ h => mem_pwmEffectRegs hg (List.mem_cons_of_mem _ h)

theorem State.groupForce_same {g : Nat} (hg : g < 6) (s : State) : sameRegs s (s.groupForce g) pwmEffectRegs := by
  unfold State.groupForce
  refine sameRegs.ite (sameRegs.refl s _) ?_
  have off : sameRegs s (s.free.2.switchesOff g (s.offClock g)) pwmEffectRegs := sameRegs.ofRegs rfl
  refine off.trans ?_
  generalize s.free.2.switchesOff g (s.offClock g) = t
  have carries := sameRegs.cond (f := (·.zeroCarry g)) (t.groupQuiet g) (State.zeroCarry_same hg t)
  have stopped : ∀ u : State, sameRegs u (u.setGrp g (fun q => { q with live := false })) pwmEffectRegs :=
    fun u => sameRegs.ofRegs rfl
  exact (carries.trans (stopped _)).trans (sameRegs.setF _ 1 (mem_pwmEffectRegs hg List.mem_cons_self))

theorem State.enWritten_same {g : Nat} (hg : g < 6) (s : State) : sameRegs s (s.enWritten g) pwmEffectRegs := by
  unfold State.enWritten
  have carries := sameRegs.cond (f := (·.zeroCarry g)) (!s.on (F.PWM_G_CFG_CARRY g)) (State.zeroCarry_same hg s)
  exact carries.trans (sameRegs.ite (sameRegs.refl _ _) (State.groupForce_same hg _))

theorem State.gpShow_regs (s : State) (c : Nat) : (s.gpShow c).regs = s.regs := by
  unfold State.gpShow
  simp only [State.setGpc_regs]
  unfold State.cond
  split <;> rfl

theorem State.gpEnWritten_same (s : State) (c : Nat) (l : List Nat) : sameRegs s (s.gpEnWritten c) l := by
  unfold State.gpEnWritten
  exact sameRegs.ite (sameRegs.ofRegs rfl) (sameRegs.ite (sameRegs.ofRegs (s.gpShow_regs c)) (sameRegs.refl s l))

theorem State.gpDutyWritten_same (s : State) (c : Nat) (l : List Nat) : sameRegs s (s.gpDutyWritten c) l := by
  unfold State.gpDutyWritten
  exact sameRegs.ite (sameRegs.ofRegs (s.gpShow_regs c)) (sameRegs.refl s l)

theorem State.tripNow_same (s : State) : sameRegs s s.tripNow pwmEffectRegs := by
  unfold State.tripNow
  exact sameRegs.ite (sameRegs.refl s _) (sameRegs.setF s.free.2 _ (by decide))

theorem State.tripLevels_same (s : State) (lv : Nat) : sameRegs s (s.tripLevels lv) pwmEffectRegs := by
  unfold State.tripLevels
  have flags : sameRegs s ((s.setF F.PWM_STAT_TRIPIN lv).orF F.PWM_TRIPFLAG_FLAG lv) pwmEffectRegs :=
    (sameRegs.setF s lv (by decide)).trans (sameRegs.setF _ _ (by decide))
  refine flags.trans (sameRegs.each_of_mem (fun g hg t => ?_) _)
  exact sameRegs.cond _ (sameRegs.setF t 1 (mem_pwmEffectRegs (List.mem_range.mp hg) List.mem_cons_self))

/-! #### Bus controllers

Below the state register of a controller stands its control register, of which the controller changes only FDTX. -/

variable {c a : Nat}

theorem State.rd_each {α : Type} {f : State → α → State} (h : ∀ s x, (f s x).rd a = s.rd a) (s : State) (xs : List α) :
    (s.each xs f).rd a = s.rd a := by
  induction xs generalizing s with
  | nil => rfl
  | cons x xs ih => exact (ih (f s x)).trans (h s x)

theorem State.rd_objEnd (h : a < 0x40070004 + 0x8000 * c) (s : State) (n m : Nat) : (s.objEnd c n m).rd a = s.rd a := by
  have obj : a ≠ objAddr c n 8 := by unfold objAddr; omega
  have pend : a ≠ (F.CAN_TXPEND c (n / 32)).addr := by unfold F.CAN_TXPEND; dsimp only; omega
  have park : a ≠ (F.CAN_TXPARK c (n / 32)).addr := by unfold F.CAN_TXPARK; dsimp only; omega
  unfold State.objEnd State.clrBit
  rw [State.rd_wr_ne _ _ obj, State.rd_setF_ne _ _ park, State.rd_setF_ne _ _ pend, State.setCc_rd]

theorem State.rd_objCancel (h : a < 0x40070004 + 0x8000 * c) (s : State) (n : Nat) :
    (s.objCancel c n).rd a = s.rd a := by
  have irq : a ≠ (F.CAN_IRQST_TXEND c).addr := by unfold F.CAN_IRQST_TXEND; dsimp only; omega
  unfold State.objCancel
  rw [State.rd_setF_ne _ _ irq, State.rd_objEnd h]

theorem State.rd_cancelNow (h : a < 0x40070004 + 0x8000 * c) (s : State) (n : Nat) :
    (s.cancelNow c n).rd a = s.rd a := by
  unfold State.cancelNow
  split
  · rfl
  · split
    · exact State.setCc_rd s c _ a
    · exact State.rd_objCancel h s n

theorem State.rd_objPark (h : a < 0x40070004 + 0x8000 * c) (hc : a ∉ countRegs) (s : State) (n : Nat) :
    (s.objPark c n).rd a = s.rd a := by
  have obj : a ≠ objAddr c n 8 := by unfold objAddr; omega
  have pend : a ≠ (F.CAN_TXPEND c (n / 32)).addr := by unfold F.CAN_TXPEND; dsimp only; omega
  have park : a ≠ (F.CAN_TXPARK c (n / 32)).addr := by unfold F.CAN_TXPARK; dsimp only; omega
  have alone : a ≠ (F.CAN_STAT_ALONE c).addr := by unfold F.CAN_STAT_ALONE; dsimp only; omega
  have irq : a ≠ (F.CAN_IRQST_ALONE c).addr := by unfold F.CAN_IRQST_ALONE; dsimp only; omega
  have parked : ∀ t : State, ((((t.setCc c (fun x => { x with probes := x.probes.filter (· != n) })).clrBit
      (F.CAN_TXPEND c (n / 32)) (n % 32)).setBit (F.CAN_TXPARK c (n / 32)) (n % 32))).rd a = t.rd a := by
    intro t
    unfold State.setBit State.orF State.clrBit
    rw [State.rd_setF_ne _ _ park, State.rd_setF_ne _ _ pend, State.setCc_rd]
  unfold State.objPark
  dsimp only
  split
  · rw [State.rd_wr_ne _ _ obj, parked]
  · rw [State.ledger_same _ _ a hc, State.rd_setF_ne _ _ irq, State.rd_setF_ne _ _ alone, State.rd_wr_ne _ _ obj,
      parked]

theorem State.rd_canOff (h : a < 0x40070004 + 0x8000 * c) (hc : a ∉ countRegs) (s : State) :
    (s.canOff c).rd a = s.rd a := by
  have uncommitted : (s.uncommit c).rd a = s.rd a := by
    unfold State.uncommit
    split
    · rfl
    · dsimp only
      split
      · rw [State.rd_objCancel h, State.setCc_rd]
      · split
        · rw [State.rd_objPark h hc, State.setCc_rd]
        · exact State.setCc_rd s c _ a
  unfold State.canOff
  rw [State.rd_each (fun t n => State.rd_cancelNow h t n), State.setCc_rd, uncommitted]

theorem State.rd_canSetState (h : a < 0x40070004 + 0x8000 * c) (s : State) (st : Nat) :
    (s.canSetState c st).rd a = s.rd a := by
  have state : a ≠ (F.CAN_STAT_STATE c).addr := by unfold F.CAN_STAT_STATE; dsimp only; omega
  have listen : a ≠ (F.CAN_STAT_LISTEN c).addr := state
  unfold State.canSetState State.setB
  rw [State.rd_setF_ne _ _ listen, State.rd_setF_ne _ _ state]

theorem State.rd_canStop (h : a < 0x40070004 + 0x8000 * c) (hc : a ∉ countRegs) (s : State) :
    (s.canStop c).rd a = s.rd a := by
  unfold State.canStop
  split
  · rfl
  · rw [State.rd_canSetState h, State.setCc_rd, State.rd_canOff h hc]

theorem State.rd_canStart (h : a < 0x40070004 + 0x8000 * c) (s : State) : (s.canStart c).rd a = s.rd a := by
  have joins : ∀ (t : State) (detect : Bool), (t.canJoin c detect).rd a = t.rd a := by
    intro t detect
    unfold State.canJoin
    split
    · exact State.rd_canSetState h t 1
    · split
      · rw [State.rd_canSetState h, State.setCc_rd]
      · exact State.rd_canSetState h t 2
  unfold State.canStart
  split
  · rw [joins, State.setCc_rd]
  · rfl

theorem State.rd_fdOff (h : a < 0x40070004 + 0x8000 * c) (s : State) : (s.fdOff c).rd a = s.rd a := by
  unfold State.fdOff
  refine State.rd_each (fun t n => ?_) s _
  have obj : a ≠ objAddr c n 8 := by unfold objAddr; omega
  rw [State.rd_wr_ne _ _ obj, State.rd_cancelNow h]

theorem State.rd_canCtlWritten (h : a < 0x40070004 + 0x8000 * c) (hc : a ∉ countRegs) (s : State) (busy : Bool) :
    (s.canCtlWritten c busy).rd a = s.rd a := by
  have fd : (if s.on (F.CAN_CTL_FDTX c) then s else s.fdOff c).rd a = s.rd a := by
    split
    · rfl
    · exact State.rd_fdOff h s
  unfold State.canCtlWritten
  generalize (if s.on (F.CAN_CTL_FDTX c) then s else s.fdOff c) = t at fd
  dsimp only
  split
  · rw [State.rd_canStart h, State.setCc_rd, fd]
  · split
    · rw [State.setCc_rd, fd]
    · rw [State.rd_canStop h hc, fd]

/-- FDTX alone of a controller's control register follows the Zone Protocol layer. -/
theorem State.fdFollow_ctl (hs : regsWf s.regs = true) (hc : c < 2) {m : Nat} (hm : bit m 31 = false) :
    sameBits m (s.rd (F.CAN_CTL_FDTX c).addr) ((s.fdFollow c).rd (F.CAN_CTL_FDTX c).addr) := by
  have low : (F.CAN_CTL_FDTX c).addr < 0x40070004 + 0x8000 * c := by unfold F.CAN_CTL_FDTX; dsimp only; omega
  have fd : (F.CAN_CTL_FDTX c).addr ≠ (zpFd c).addr := by
    interval_cases c <;> decide
  have set : ∀ v, sameBits m (s.rd (F.CAN_CTL_FDTX c).addr)
      (((s.setB (zpFd c) (s.fdUse c)).setF (F.CAN_CTL_FDTX c) v).rd (F.CAN_CTL_FDTX c).addr) := by
    intro v k hk
    have hk31 : k ≠ 31 := fun e => by rw [e, hm] at hk; exact absurd hk nofun
    have fits : (F.CAN_CTL_FDTX c).fits = true := rfl
    have hw : regsWf (s.setB (zpFd c) (s.fdUse c)).regs = true := State.setF_regsWf hs _ _
    rw [State.rd_setF_same hw fits, State.setB, State.rd_setF_ne s _ fd, bit_eq_testBit, testBit_setBits,
      bit_eq_testBit]
    have lo : (F.CAN_CTL_FDTX c).lo = 31 := rfl
    have width : (F.CAN_CTL_FDTX c).width = 1 := rfl
    rw [lo, width]
    split
    · rfl
    · rw [if_neg (by omega)]
  unfold State.fdFollow
  split
  · dsimp only
    split
    · exact set 1
    · split
      · have drop : ∀ t : State, ((t.fdOff c).zpDropFd c).rd (F.CAN_CTL_FDTX c).addr = t.rd (F.CAN_CTL_FDTX c).addr :=
          fun t => (State.setZb_rd _ _ _ _).trans (State.rd_fdOff low t)
        rw [drop]
        exact set 0
      · rw [State.setB, State.rd_setF_ne s _ fd]
        exact sameBits.refl _ _
  · exact sameBits.refl _ _

/-! #### The pair -/

theorem State.linkOff_same (s : State) : sameRegs s s.linkOff [F.PAIR_STAT_LINKUP.addr] := by
  have down : ∀ t : State, sameRegs t
      (((t.setF F.PAIR_STAT_LINKUP 0).setF F.PAIR_STAT_PEERSTATE 7).setF F.PAIR_STAT_DUAL 0)
      [F.PAIR_STAT_LINKUP.addr] := fun t =>
    ((sameRegs.setF t 0 (by decide)).trans (sameRegs.setF _ 7 (by decide))).trans (sameRegs.setF _ 0 (by decide))
  unfold State.linkOff
  dsimp only
  exact sameRegs.trans (sameRegs.ofRegs rfl) (down _)

/-- Registers that a refusal of Folio's or Folio's state after a reset changes. -/
def folShutRegs : List Nat := [F.FOL_STAT_BUSY.addr, F.FOL_PROT_BP.addr, F.FOL_REFCNT.addr] ++ countRegs

theorem State.folShut_same (s : State) : sameRegs s s.folShut folShutRegs := by
  have counted : F.FOL_REFCNT.addr ∈ folShutRegs := by simp [folShutRegs]
  have refused : ∀ (t : State) (w : Requester), sameRegs t (t.refCount.reqOutcome w true []) folShutRegs := by
    intro t w
    have count : sameRegs t t.refCount folShutRegs := by
      unfold State.refCount
      refine sameRegs.cond _ ((State.count_same t F.FOL_REFCNT 168).mono fun b hb => ?_)
      rcases List.mem_cons.mp hb with rfl | hb
      · exact counted
      · exact List.mem_append_right _ hb
    exact count.trans (sameRegs.ofRegs rfl)
  unfold State.folShut State.folRefuseAll
  refine sameRegs.trans ?_ (sameRegs.each (fun t (r : Req) => refused t r.who) _ _)
  exact sameRegs.trans (sameRegs.ofRegs rfl) (sameRegs.each (fun t (x : FolTxn) => refused t x.who) _ _)

theorem State.folAfter_same (s : State) : sameRegs s s.folAfter folShutRegs := by
  have busy : F.FOL_STAT_BUSY.addr ∈ folShutRegs := by simp [folShutRegs]
  have prot : F.FOL_PROT_BP.addr ∈ folShutRegs := by simp [folShutRegs]
  exact (sameRegs.setF s _ busy).trans (sameRegs.setF _ _ prot)

/-- A Curator's hold leaves the registers that are not held. -/
theorem State.rd_holdPlant {pq : List Instr} (hs : s.Kept pq) (ha : curatorHeld a = false) (hf : a ∉ folShutRegs) :
    s.holdPlant.rd a = s.rd a := by
  have hw : canonical resetWord s.folShut.regs = true := (State.folShut_kept hs).1
  have rising : risingFrom 0 s.folShut.regs = true := (Bool.and_eq_true_iff.mp hw).1
  have keys : ∀ e x : Nat × Word, (if curatorHeld e.1 then keepAon e else some e) = some x → x.1 = e.1 := by
    intro e x h
    split at h
    · exact (keepAon_some h).1
    · exact (Option.some.inj h) ▸ rfl
  unfold State.holdPlant
  rw [State.folAfter_same _ a hf, State.rd_eq, lookupAt_filterMap rising _ keys, ← State.folShut_same s a hf,
    State.rd_eq]
  cases lookupAt s.folShut.regs a <;> simp [ha]

/-- What follows a write of PAIR_CFG leaves the register. -/
theorem State.rd_modeWritten {pq : List Instr} (hs : s.Kept pq) :
    s.modeWritten.rd F.PAIR_CFG_MODE.addr = s.rd F.PAIR_CFG_MODE.addr := by
  have off : ∀ t : State, t.linkOff.rd F.PAIR_CFG_MODE.addr = t.rd F.PAIR_CFG_MODE.addr :=
    fun t => State.linkOff_same t _ (by decide)
  have held : ∀ (u : State) (b : Bool), u.Kept pq →
      (u.cond b (·.holdPlant)).rd F.PAIR_CFG_MODE.addr = u.rd F.PAIR_CFG_MODE.addr := by
    intro u b hu
    cases b
    · rfl
    · exact State.rd_holdPlant hu (by decide) (by decide)
  have low : ∀ (u : State) (p : Pair), { u with pair := p }.rd F.PAIR_CFG_MODE.addr = u.rd F.PAIR_CFG_MODE.addr :=
    fun _ _ => rfl
  unfold State.modeWritten
  split
  · rfl
  · exact (held _ _ (kept_mk (State.linkOff_kept hs))).trans ((low _ _).trans (off s))

end Effects

/-! ### Which registers have RWL fields, and how their writes run -/

section RegWrite

variable {s : State} {a w : Nat} {r : RegRow}

/-- No register with an RWL field stands at `a`. -/
def noRwl (a : Nat) : Bool := (findReg a).all (fun r => r.rwl == 0)

/-- A register that a write changes in an RWL field has such fields. -/
theorem noRwl_of_changed (hr : findReg a = some r) (hch : r.keepsRwl (s.rd a) w = false) : noRwl a = false := by
  rw [noRwl, hr]
  by_contra h
  have zero : r.rwl = 0 := by simpa using h
  rw [RegRow.keepsRwl_of_zero zero] at hch
  exact absurd hch nofun

theorem not_mem_of_noRwl {l : List Nat} (hl : ∀ b, b ∈ l → noRwl b = true) (ha : noRwl a = false) : a ∉ l :=
  fun h => by rw [hl a h] at ha; exact absurd ha nofun

theorem noRwl_block {k : Nat} (hk : ∀ r ∈ blockRegs k, r.rwl = 0) (ha : noRwl a = false) : blockOf a ≠ k := by
  intro hb
  cases hr : findReg a with
  | none => rw [noRwl, hr] at ha; exact absurd ha nofun
  | some r =>
    have zero := hk r (hb ▸ findReg_block hr)
    rw [noRwl, hr] at ha
    simp [zero] at ha

theorem noRwl_blocks {k : Nat} (hk : k ∈ [1, 5, 6, 10, 11, 12, 13, 14]) : ∀ r ∈ blockRegs k, r.rwl = 0 := by
  revert k
  decide +kernel

theorem noRwl_counterList (h : counterList a ≠ []) : noRwl a = true := by
  rcases counterList_ne_nil h with h | ⟨h, h', hm⟩
  · have all : ∀ b ∈ clearAddrs, noRwl b = true := by decide +kernel
    exact all a h
  · cases ha : noRwl a with
    | true => rfl
    | false =>
      have hb : blockOf a = 5 := by unfold blockOf; split <;> omega
      exact absurd hb (noRwl_block (noRwl_blocks (by decide)) ha)

theorem noRwl_rejectRegs : ∀ b ∈ rejectRegs, noRwl b = true := by decide +kernel

theorem noRwl_pwmEffectRegs : ∀ b ∈ pwmEffectRegs, noRwl b = true := by decide +kernel

/-- Where a row of a bus controller with RWL fields stands: one register in each controller, or 64 filters. -/
def RegRow.canRwlRow (r : RegRow) : Bool :=
  (r.dims == [(2, 0x8000)] && (r.base == 0x40070000 || decide (0x4007000C ≤ r.base ∧ r.base < 0x4007001C)))
    || (r.dims == [(2, 0x8000), (64, 0x8)] && (r.base == 0x40070800 || r.base == 0x40070804))

/-- The registers of a bus controller with RWL fields: its control register, its bit times and set-up, its filters. -/
theorem can_rwl_offset (hb : blockOf a = 7) (hr : findReg a = some r) (ha : r.rwl ≠ 0) :
    a % 0x8000 = 0 ∨ (0xC ≤ a % 0x8000 ∧ a % 0x8000 < 0x1C) ∨ (0x800 ≤ a % 0x8000 ∧ a % 0x8000 < 0xA00) := by
  have rows : ∀ r ∈ blockRegs 7, r.rwl ≠ 0 → r.canRwlRow = true := by decide +kernel
  have row := rows r (hb ▸ findReg_block hr) ha
  have hit := findReg_hit hr
  simp only [RegRow.canRwlRow, Bool.or_eq_true, Bool.and_eq_true, beq_iff_eq, decide_eq_true_eq] at row
  simp only [RegRow.hit, Bool.and_eq_true, decide_eq_true_eq] at hit
  obtain ⟨hbase, hdims⟩ := hit
  rcases row with ⟨hd, hat⟩ | ⟨hd, hat⟩
  all_goals
    rw [hd] at hdims
    simp only [dimsHit, Bool.and_eq_true, decide_eq_true_eq, beq_iff_eq] at hdims
    omega

/-- The register at `a` is one whose write does nothing but write it. -/
def owned (a : Nat) : Bool := (findReg a).any (fun r => ownedNames.contains r.name)

/-- A write of the register at `a` is the plain write, and effects that leave its RWL bits; for a register whose write
does nothing else there are none. CAN_CTL uses up a free value first. -/
def State.PlainThen (s : State) (a w : Nat) (x : State × Bool) : Prop :=
  ∃ u f, (u = s ∨ u = s.free.2) ∧ x = onWrite (u.plainWrite a w) f ∧ (owned a = true → u = s ∧ ∀ t, f t = t) ∧
    ∀ t pq r, t.Kept pq → findReg a = some r → sameBits r.rwl (t.rd a) ((f t).rd a)

theorem State.PlainThen.plain (s : State) (a w : Nat) : s.PlainThen a w (s.plainWrite a w) :=
  ⟨s, id, .inl rfl, rfl, fun _ => ⟨rfl, fun _ => rfl⟩, fun _ _ _ _ _ => sameBits.refl _ _⟩

/-- Effects that keep the register's word. -/
theorem State.PlainThen.effect {f : State → State} (s : State) (w : Nat) (ho : owned a = false)
    (h : ∀ t pq, t.Kept pq → (f t).rd a = t.rd a) : s.PlainThen a w (onWrite (s.plainWrite a w) f) :=
  ⟨s, f, .inl rfl, rfl, fun e => absurd e (by rw [ho]; nofun),
    fun t pq _ ht _ => by rw [h t pq ht]; exact sameBits.refl _ _⟩

/-- More effects that keep the register's word. -/
theorem State.PlainThen.more {x : State × Bool} {g : State → State} (hx : s.PlainThen a w x) (ho : owned a = false)
    (hg : ∀ t, (g t).rd a = t.rd a) : s.PlainThen a w (onWrite x g) := by
  obtain ⟨u, f, hu, rfl, -, hf⟩ := hx
  refine ⟨u, fun t => g (f t), hu, rfl, fun e => absurd e (by rw [ho]; nofun), fun t pq r ht hr => ?_⟩
  rw [hg]
  exact hf t pq r ht hr

theorem State.adcWrite_plainThen (ha : noRwl a = false) : s.PlainThen a w (s.adcWrite a w) := by
  unfold State.adcWrite
  split
  · subst a
    exact absurd ha (by decide)
  · split
    · subst a
      exact .effect s w (by decide) fun t _ _ => t.coreEnWritten_same _ _ (by decide)
    · exact .plain s a w

theorem State.seqWrite_plainThen (ha : noRwl a = false) : s.PlainThen a w (s.seqWrite a w) := by
  unfold State.seqWrite
  split
  · subst a
    exact .effect s w (by decide) fun t _ _ => t.enChanged_same _ _ List.not_mem_nil
  split
  · subst a
    exact absurd ha (by decide)
  split
  · subst a
    exact absurd ha (by decide)
  split
  · rename_i ring
    have cfgs : ∀ k < 16, owned (0x40030800 + 16 * k) = false := by decide +kernel
    have addr : a = 0x40030800 + 16 * ((a - 0x40030800) / 16) := by omega
    have ho : owned a = false := by rw [addr]; exact cfgs _ (by omega)
    refine .effect s w ho fun t _ _ => ?_
    have start : (t.ringStart ((a - 0x40030800) / 16)).rd a = t.rd a := by
      refine t.ringStart_same _ _ fun h => ?_
      simp only [F.SEQ_RING_POS_WIDX, List.mem_singleton] at h
      omega
    split
    · exact start
    · rfl
  · exact .plain s a w

theorem not_owned_pwm (hb : blockOf a = 4) : owned a = false := by
  have rows : ∀ r ∈ blockRegs 4, ownedNames.contains r.name = false := by decide +kernel
  unfold owned
  cases hr : findReg a with
  | none => rfl
  | some r => exact rows r (hb ▸ findReg_block hr)

theorem State.groupWrite_plainThen {g o : Nat} (hg : g < 6) (ho : a = 0x40040100 + 0x80 * g + o) (how : owned a = false)
    (ha : noRwl a = false) : s.PlainThen a w (s.groupWrite g o a w) := by
  have absent : ∀ g < 6, ∀ o ∈ [0x0C, 0x10, 0x14, 0x18, 0x2C, 0x34], noRwl (0x40040100 + 0x80 * g + o) = true := by
    decide +kernel
  have apart : o ∉ [0x0C, 0x10, 0x14, 0x18, 0x2C, 0x34] := by
    intro h
    rw [ho, absent g hg o h] at ha
    exact absurd ha nofun
  unfold State.groupWrite
  split
  · exact .effect s w how fun t _ _ => State.enWritten_same hg t a (not_mem_of_noRwl noRwl_pwmEffectRegs ha)
  case h_8 => exact .plain s a w
  all_goals exact absurd (by decide) apart

theorem State.pwmReg_plainThen (hb : blockOf a = 4) (ha : noRwl a = false) : s.PlainThen a w (s.pwmReg a w) := by
  have ho := not_owned_pwm hb
  have apart := not_mem_of_noRwl noRwl_pwmEffectRegs ha
  unfold State.pwmReg
  split
  · subst a
    refine .effect s w ho fun t _ _ => ?_
    have groups := sameRegs.each_of_mem (f := (·.enWritten ·))
      (fun g hg => State.enWritten_same (List.mem_range.mp hg)) t
    exact (groups.trans (sameRegs.each (fun u c => u.gpEnWritten_same c _) _ _)) _ apart
  split
  · exact State.groupWrite_plainThen (by omega) (by omega) ho ha
  split
  · exact .effect s w ho fun t _ _ => t.gpEnWritten_same _ [] _ List.not_mem_nil
  split
  · exact .effect s w ho fun t _ _ => t.gpDutyWritten_same _ [] _ List.not_mem_nil
  · exact .plain s a w

theorem State.pwmWrite_plainThen (hb : blockOf a = 4) (ha : noRwl a = false) : s.PlainThen a w (s.pwmWrite a w) := by
  have trips : ∀ (t : State) (lv : Nat), (t.tripNow.tripLevels lv).rd a = t.rd a := fun t lv =>
    (t.tripNow_same.trans (t.tripNow.tripLevels_same lv)) a (not_mem_of_noRwl noRwl_pwmEffectRegs ha)
  exact (State.pwmReg_plainThen hb ha).more (not_owned_pwm hb) fun t => trips t _

theorem State.canWrite_plainThen (hb : blockOf a = 7) (hr : findReg a = some r) (hrwl : r.rwl ≠ 0) :
    s.PlainThen a w (s.canWrite ((a - 0x40070000) / 0x8000) (a % 0x8000) a w) := by
  have window : 0x40070000 ≤ a ∧ a < 0x40080000 := by
    unfold blockOf at hb
    split at hb <;> omega
  have off := can_rwl_offset hb hr hrwl
  unfold State.canWrite
  split
  · rename_i zero
    have hc : (a - 0x40070000) / 0x8000 < 2 := by omega
    have addr : a = 0x40070000 + 0x8000 * ((a - 0x40070000) / 0x8000) := by omega
    generalize (a - 0x40070000) / 0x8000 = c at hc addr
    have ctl : ∀ c < 2, owned (0x40070000 + 0x8000 * c) = false ∧
        (findReg (0x40070000 + 0x8000 * c)).all (fun r => !bit r.rwl 31) = true := by decide +kernel
    subst addr
    refine ⟨s.free.2, _, .inr rfl, rfl, fun e => absurd e (by rw [(ctl c hc).1]; nofun), fun t pq r' ht hr' => ?_⟩
    have bit31 : bit r'.rwl 31 = false := by simpa [hr'] using (ctl c hc).2
    have hcount : 0x40070000 + 0x8000 * c ∉ countRegs := by interval_cases c <;> decide +kernel
    have low : 0x40070000 + 0x8000 * c < 0x40070004 + 0x8000 * c := by omega
    rw [← State.rd_canCtlWritten low hcount t]
    exact State.fdFollow_ctl (State.canCtlWritten_kept c _ ht).1 hc bit31
  rw [if_neg (by omega), if_neg (by omega), if_neg (by omega), if_neg (by omega), if_neg (by omega), if_neg (by omega)]
  exact .plain s a w

theorem State.zpWrite_plainThen (ha : noRwl a = false) : s.PlainThen a w (s.zpWrite a w) := by
  unfold State.zpWrite
  split
  · subst a
    exact absurd ha (by decide)
  · exact .plain s a w

theorem State.pairWrite_plainThen (ha : noRwl a = false) : s.PlainThen a w (s.pairWrite a w) := by
  unfold State.pairWrite
  split
  · subst a
    exact absurd ha (by decide)
  split
  · subst a
    exact .effect s w (by decide) fun t _ ht => State.rd_modeWritten ht
  · exact .plain s a w

/-- A write of a register with RWL fields, whatever the block. -/
theorem State.regWrite_plainThen (hr : findReg a = some r) (hrwl : r.rwl ≠ 0) : s.PlainThen a w (s.regWrite a w) := by
  have ha : noRwl a = false := by simpa [noRwl, hr] using hrwl
  have nil : counterList a = [] := by
    by_contra h
    rw [noRwl_counterList h] at ha
    exact absurd ha nofun
  have notIn := fun k (hk : k ∈ [1, 5, 6, 10, 11, 12, 13, 14]) => noRwl_block (noRwl_blocks hk) ha
  unfold State.regWrite
  rw [nil, List.isEmpty_nil, Bool.not_true, if_neg (by decide)]
  split
  case h_2 => exact State.adcWrite_plainThen ha
  case h_3 => exact State.seqWrite_plainThen ha
  case h_4 hb => exact State.pwmWrite_plainThen hb ha
  case h_7 hb => exact State.canWrite_plainThen hb hr hrwl
  case h_8 => exact State.zpWrite_plainThen ha
  case h_9 => exact State.pairWrite_plainThen ha
  case h_13 => exact .plain s a w
  all_goals exact absurd ‹blockOf a = _› (notIn _ (by decide))

end RegWrite

/-! ### REGISTER_WRITE -/

section RegisterWrite

variable {s : State} {m : Master} {a : BitVec 32} {w : Word} {r : RegRow}

/-- An admitted write of a register, FOL_PROT apart: the register's own rule, and a report when it discards. -/
theorem exec_registerWrite (ha : s.admits m a.toNat = true) (h4 : a.toNat % 4 = 0) (hlo : 0x40000000 ≤ a.toNat)
    (hhi : a.toNat < 0x400F0000) (hp : a.toNat ≠ F.FOL_PROT_BP.addr) : exec (.registerWrite m a w) s =
      .next (State.report (s.regWrite a.toNat w.toNat) (masterCode m) a.toNat) := by
  have hm : inMem a.toNat = false := by
    simp only [inMem, Bool.or_eq_false_iff, Bool.and_eq_false_iff, decide_eq_false_iff_not]
    omega
  have run : exec (.registerWrite m a w) s = execRegisterWrite m a w s := rfl
  rw [run, execRegisterWrite, if_neg (by omega), State.masterOp_admitted ha hm hp]

/-- In a block whose registers have no behaviour of their own a write is the plain one. -/
theorem State.regWrite_plain {a w : Nat} (hb : blockOf a ∈ [0, 0xB, 0xE]) (hl : counterList a = []) :
    s.regWrite a w = s.plainWrite a w := by
  unfold State.regWrite
  rw [hl, List.isEmpty_nil, Bool.not_true, if_neg (by decide)]
  split
  case h_13 => rfl
  all_goals exact absurd hb (by rw [‹blockOf a = _›]; decide)

theorem ne_folProt {a : Nat} (hb : blockOf a ≠ 10) : a ≠ F.FOL_PROT_BP.addr := by
  rintro rfl
  exact hb (by decide)

theorem ge_of_block {a : Nat} (hb : blockOf a ≠ 15) : 0x40000000 ≤ a := by
  by_contra h
  exact hb (if_pos (by omega))

/-- A write in a block without behaviour of its own that keeps the RWL fields. -/
theorem plain_registerWrite (hs : s.wf = true) (ha : s.admits m a.toNat = true) (h4 : a.toNat % 4 = 0)
    (hhi : a.toNat < 0x400F0000) (hb : blockOf a.toNat ∈ [0, 0xB, 0xE]) (hl : counterList a.toNat = [])
    (hr : findReg a.toNat = some r) (hsh : r.shadowed = false) (hk : r.keepsRwl (s.rd a.toNat) w.toNat = true) :
    ∃ t, exec (.registerWrite m a w) s = .next t ∧
      (∀ k, k < 32 → bit (t.rd a.toNat) k =
        (if bit r.rw k then bit w.toNat k
         else if bit r.w1c k && bit w.toNat k then false else bit (s.rd a.toNat) k)) ∧
      sameRegs s t [a.toNat] ∧ sameMem s t := by
  have blocks : blockOf a.toNat ≠ 10 ∧ blockOf a.toNat ≠ 15 ∧ blockOf a.toNat ≠ 6 ∧ blockOf a.toNat ≠ 2 := by
    simp only [List.mem_cons, List.not_mem_nil, or_false] at hb
    omega
  obtain ⟨h10, h15, h6, h2⟩ := blocks
  have calint : a.toNat ≠ F.ADC_CALINT_INT.addr := fun e => h2 (by rw [e]; decide)
  have unjudged : r.judged a.toNat (s.rd a.toNat) w.toNat = false := by
    simp [RegRow.judged, hk, calint, h6]
  refine ⟨_, exec_registerWrite ha h4 (ge_of_block h15) hhi (ne_folProt h10), ?_⟩
  rw [State.regWrite_plain hb hl, State.plainWrite_taken hr hsh (by rw [unjudged, Bool.false_and]), hk, Bool.or_true,
    State.report, if_pos rfl]
  refine ⟨fun k hlt => ?_, sameRegs.wr s _ List.mem_cons_self, fun _ => rfl⟩
  rw [State.bit_rd_apply (State.wf_regs hs) r _ _ _ hlt]
  cases hrwl : bit r.rwl k with
  | false => rw [Bool.and_false, Bool.or_false]
  | true =>
    obtain ⟨-, hrw, hw1c⟩ := bit_rwl hr hrwl
    rw [hrw, hw1c, r.bit_of_keepsRwl hk hrwl]
    cases s.ownerStopped a.toNat <;> rfl

/-- A write that would change an RWL field while the owner runs. -/
theorem locked_registerWrite (hs : s.wf = true) (ha : s.admits m a.toNat = true) (h4 : a.toNat % 4 = 0)
    (hhi : a.toNat < 0x400F0000) (hr : findReg a.toNat = some r) (hsh : r.shadowed = false)
    (hrun : s.ownerStopped a.toNat = false) (hch : r.keepsRwl (s.rd a.toNat) w.toNat = false) :
    ∃ t, exec (.registerWrite m a w) s = .next t ∧ t.on F.SVC_IRQST_REJECT = true ∧
      ∀ k, bit r.rwl k = true → bit (t.rd a.toNat) k = bit (s.rd a.toNat) k := by
  have noreg := noRwl_of_changed hr hch
  have hrwl : r.rwl ≠ 0 := fun e => by rw [RegRow.keepsRwl_of_zero e] at hch; exact absurd hch nofun
  have h10 : blockOf a.toNat ≠ 10 := noRwl_block (noRwl_blocks (by decide)) noreg
  have kept := State.wf_iff_kept.mp hs
  obtain ⟨u, f, hu, hx, -, hf⟩ := State.regWrite_plainThen (s := s) (w := w.toNat) hr hrwl
  have plain : (u.plainWrite a.toNat w.toNat).2 = false ∧
      sameBits r.rwl (s.rd a.toNat) ((u.plainWrite a.toNat w.toNat).1.rd a.toNat) := by
    rcases hu with rfl | rfl
    · exact State.plainWrite_locked kept.1 hr hsh hrun hch
    · exact State.plainWrite_locked (s := s.free.2) kept.1 hr hsh hrun hch
  have hw : (u.plainWrite a.toNat w.toNat).1.Kept s.pending := by
    rcases hu with rfl | rfl
    · exact State.plainWrite_kept _ _ kept
    · exact State.plainWrite_kept _ _ (State.free_kept kept)
  refine ⟨_, exec_registerWrite ha h4 (findReg_ge hr) hhi (ne_folProt h10), ?_⟩
  have discarded : (s.regWrite a.toNat w.toNat).2 = false := by rw [hx]; exact plain.1
  rw [State.report, discarded, if_neg nofun]
  have hkw : regsWf (s.regWrite a.toNat w.toNat).1.regs = true := (State.regWrite_kept _ _ kept).1
  refine ⟨(State.reject_shown hkw _ a.isLt).2, fun k hk => ?_⟩
  rw [State.reject_same _ _ _ _ (not_mem_of_noRwl noRwl_rejectRegs noreg), hx]
  exact (hf _ _ r hw hr k hk).trans (plain.2 k hk)

/-- A write that changes an RWL field of a register whose write does nothing else, and breaks no structural check. -/
theorem owned_registerWrite (hs : s.wf = true) (ha : s.admits m a.toNat = true) (h4 : a.toNat % 4 = 0)
    (hhi : a.toNat < 0x400F0000) (hr : findReg a.toNat = some r) (hn : r.name ∈ ownedNames)
    (hch : r.keepsRwl (s.rd a.toNat) w.toNat = false)
    (hok : s.wouldBreak (s.wr a.toNat (r.apply (s.rd a.toNat) w.toNat (s.ownerStopped a.toNat))) = false) :
    ∃ t, exec (.registerWrite m a w) s = .next t ∧
      (∀ k, k < 32 → bit (t.rd a.toNat) k =
        (if bit r.rw k || (s.ownerStopped a.toNat && bit r.rwl k) then bit w.toNat k
         else if bit r.w1c k && bit w.toNat k then false else bit (s.rd a.toNat) k)) ∧
      (s.ownerStopped a.toNat = true → sameRegs s t [a.toNat]) ∧
      (s.ownerStopped a.toNat = false → t.rd F.SVC_REJADDR.addr = a.toNat ∧ t.on F.SVC_IRQST_REJECT = true ∧
        sameRegs s t (a.toNat :: rejectRegs)) ∧ sameMem s t := by
  have noreg := noRwl_of_changed hr hch
  have hrwl : r.rwl ≠ 0 := fun e => by rw [RegRow.keepsRwl_of_zero e] at hch; exact absurd hch nofun
  have h10 : blockOf a.toNat ≠ 10 := noRwl_block (noRwl_blocks (by decide)) noreg
  have names : ∀ r ∈ allRegs, r.shadowed = true → ownedNames.contains r.name = false := by decide +kernel
  have hc : ownedNames.contains r.name = true := List.contains_iff_mem.mpr hn
  have hsh : r.shadowed = false := by
    by_contra h
    rw [names r (findReg_allRegs hr) (by simpa using h)] at hc
    exact absurd hc nofun
  have taken := State.plainWrite_taken (s := s) hr hsh (w := w.toNat) (by rw [hok, Bool.and_false])
  have write : s.regWrite a.toNat w.toNat = s.plainWrite a.toNat w.toNat := by
    obtain ⟨u, f, -, hx, hown, -⟩ := State.regWrite_plainThen (s := s) (w := w.toNat) hr hrwl
    obtain ⟨rfl, hf⟩ := hown (by simpa [owned, hr] using hn)
    rw [hx, onWrite, hf]
  refine ⟨_, exec_registerWrite ha h4 (findReg_ge hr) hhi (ne_folProt h10), ?_⟩
  rw [write, taken, hch, Bool.or_false]
  have wrote : sameRegs s (s.wr a.toNat (r.apply (s.rd a.toNat) w.toNat (s.ownerStopped a.toNat))) [a.toNat] :=
    sameRegs.wr s _ List.mem_cons_self
  have bits := fun k hk => State.bit_rd_apply (k := k) (State.wf_regs hs) r a.toNat w.toNat (s.ownerStopped a.toNat) hk
  have hw := State.wr_regsWf (State.wf_regs hs) a.toNat (r.apply (s.rd a.toNat) w.toNat (s.ownerStopped a.toNat))
  have mem : sameMem s (s.wr a.toNat (r.apply (s.rd a.toNat) w.toNat (s.ownerStopped a.toNat))) := fun _ => rfl
  generalize s.wr a.toNat (r.apply (s.rd a.toNat) w.toNat (s.ownerStopped a.toNat)) = t at wrote bits hw mem
  cases hst : s.ownerStopped a.toNat with
  | true =>
    rw [hst] at bits
    exact ⟨bits, fun _ => wrote, nofun, mem⟩
  | false =>
    rw [hst] at bits
    have same := t.reject_same (masterCode m) a.toNat
    have word := same _ (not_mem_of_noRwl noRwl_rejectRegs noreg)
    obtain ⟨addr, irq⟩ := State.reject_shown hw (masterCode m) a.isLt
    refine ⟨fun k hk => ?_, nofun, fun _ => ⟨addr, irq, ?_⟩, fun b => ?_⟩
    · rw [State.report, if_neg nofun, word]
      exact bits k hk
    · exact (wrote.mono fun b hb => List.mem_cons.mpr (.inl (List.mem_singleton.mp hb))).trans
        (same.mono fun b hb => List.mem_cons_of_mem _ hb)
    · exact (sameMem.ofMem (t.reject_mem _ _) b).trans (mem b)

/-- Who owns the fields of a block (R602). -/
theorem ownerStopped_blocks (s : State) (a : Nat) :
    (blockOf a ∈ [0, 2, 3, 4, 5] → s.ownerStopped a = s.on F.CE_STAT_STOPPED) ∧
    (blockOf a = 1 → s.ownerStopped a = s.on F.BOOT_STAT_RECOVERY) ∧
    (blockOf a = 6 → s.ownerStopped a = !s.on F.ALM_CTL_RUN) ∧
    (∀ c, c < 2 → 0x40070000 + 0x8000 * c ≤ a → a < 0x40078000 + 0x8000 * c →
      s.ownerStopped a = (s.f (F.CAN_STAT_STATE c) == 0)) ∧
    (blockOf a = 8 → s.ownerStopped a = !(s.on F.ZP_CTL_EN0 || s.on F.ZP_CTL_EN1)) ∧
    (blockOf a = 9 → s.ownerStopped a = [1, 3, 4].contains (s.f F.PAIR_STAT_STATE)) := by
  unfold State.ownerStopped
  refine ⟨fun h => ?_, fun h => by rw [h]; rfl, fun h => by rw [h]; rfl, fun c hc hlo hhi => ?_, fun h => ?_,
    fun h => ?_⟩
  · split
    case h_6 => rfl
    all_goals exact absurd h (by rw [‹blockOf a = _›]; decide)
  · have hb : blockOf a = 7 := by unfold blockOf; split <;> omega
    have own : (a - 0x40070000) / 0x8000 = c := by omega
    rw [hb, ← own]
    rfl
  · rw [h, Bool.not_or]
    rfl
  · rw [h, List.contains_cons, List.contains_cons, List.contains_cons, List.contains_nil, Bool.or_false,
      ← Bool.or_assoc]
    rfl

/-- Where no register stands, in a block without behaviour of its own. -/
theorem unoccupied_registerWrite (ha : s.admits m a.toNat = true) (h4 : a.toNat % 4 = 0) (hhi : a.toNat < 0x400F0000)
    (hb : blockOf a.toNat ∈ [0, 0xB, 0xE]) (hr : findReg a.toNat = none) :
    exec (.registerWrite m a w) s = .next s := by
  have blocks : blockOf a.toNat ≠ 10 ∧ blockOf a.toNat ≠ 15 ∧ blockOf a.toNat ≠ 5 := by
    simp only [List.mem_cons, List.not_mem_nil, or_false] at hb
    omega
  obtain ⟨h10, h15, h5⟩ := blocks
  have nil : counterList a.toNat = [] := by
    by_contra h
    rcases counterList_ne_nil h with h | ⟨hlo, hhi, -⟩
    · exact not_mem_of_unoccupied hr (l := clearAddrs) (by decide +kernel) h
    · refine h5 ?_
      unfold blockOf
      split <;> omega
  rw [exec_registerWrite ha h4 (ge_of_block h15) hhi (ne_folProt h10), State.regWrite_plain hb nil,
    State.plainWrite_none hr]
  rfl

theorem resetWord_none {a : Nat} (h : findReg a = none) : resetWord a = 0 := by
  unfold resetWord
  rw [h]

/-- The registers whose reads do not just give what they hold. -/
def viewedAddrs : List Nat :=
  [F.CRT_FRAMEPOS_POS.addr, F.SEQ_STAT_ISACT.addr, F.PWM_STAT_TRIPIN.addr, (F.PNL_ENC_AB 0).addr, (F.PNL_ENC_AB 1).addr,
   F.SVC_IRQST_REJECT.addr, (F.AZ_UID 0).addr, (F.AZ_UID 1).addr, F.FOX_VREQ_N.addr, F.FOX_STAT_SUSP.addr,
   F.PNL_STAT_ENCLIVE.addr, F.FOL_PGINFO_COUNT.addr, F.FOL_SPARES_BANK0.addr, F.ALM_STAT_STOPPED.addr,
   F.BOOT_SHADOWCTL_PENDING.addr]

theorem State.busRead_unoccupied {a : Nat} (hb : blockOf a ∈ [0, 0xB, 0xE]) (hr : findReg a = none)
    (hl : lookupAt s.regs a = none) : s.busRead a = (0, s) := by
  have ne : a ∉ viewedAddrs := not_mem_of_unoccupied hr (by decide +kernel)
  simp only [viewedAddrs, List.mem_cons, not_or] at ne
  have blocks : blockOf a = 0 ∨ blockOf a = 0xB ∨ blockOf a = 0xE := by simpa using hb
  have lo : 0x40000000 ≤ a := ge_of_block (by omega)
  have block : blockOf a = (a - 0x40000000) / 0x10000 := if_neg (by omega)
  have mem : inMem a = false := by
    simp only [inMem, Bool.or_eq_false_iff, Bool.and_eq_false_iff, decide_eq_false_iff_not]
    omega
  have trims : ¬ (0x40020100 ≤ a ∧ a < 0x40020148) := by omega
  have drives : ¬ (0x40050200 ≤ a ∧ a < 0x40050380 ∧ (a - 0x40050200) % 0x40 = 4) := by omega
  have partners : ¬ (0x40081000 ≤ a ∧ a < 0x40081800 ∧ (a % 0x400 / 8 = 0 ∨ a % 0x400 / 8 = 127)) := by omega
  have zero : s.rd a = 0 := by
    rw [State.rd_eq, hl, resetWord_none hr]
    rfl
  simp only [State.busRead, State.viewReg, mem, ne, trims, drives, partners, hr, zero, Bool.false_eq_true, if_false,
    or_self]

end RegisterWrite

/-- Settles O12: a write of a register with RWL fields is the plain write with effects that leave them, and elsewhere in
the blocks without behaviour of their own it is the plain write alone. -/
theorem plainRegistersFollowAccessTypes : Obligations.PlainRegistersFollowAccessTypes := by
  refine ⟨fun s m a w r => plain_registerWrite, fun s m a w r => locked_registerWrite,
    fun s m a w r => owned_registerWrite, ownerStopped_blocks, fun s m a w ha h4 hhi hb hr => ⟨?_, ?_⟩⟩
  · exact unoccupied_registerWrite ha h4 hhi hb hr
  · exact State.busRead_unoccupied hb hr

/-! ### Power-on reset (R60, R498)

`Obligations.PowerOnResetClears` says that the stored protection outlasts the reset. A reset that cuts off the program of
a new protection value leaves the old value or the new one, as a free value has it (`State.tearProg`), so the statement
holds exactly if every free value is even. `Config.freeWord` is opaque: it can neither be proved nor refuted. -/

section PowerOn

variable {s : State}

theorem State.tearByte_prot (s : State) (a : Nat) (b : Byte) : (s.tearByte a b).fol.prot = s.fol.prot := by
  unfold State.tearByte
  dsimp only [State.setFol_fol, State.free_fol]
  split <;> rfl

theorem State.each_prot {α : Type} {f : State → α → State} (h : ∀ s x, (f s x).fol.prot = s.fol.prot) (s : State)
    (l : List α) : (s.each l f).fol.prot = s.fol.prot := by
  induction l generalizing s with
  | nil => rfl
  | cons x l ih => exact (ih (f s x)).trans (h s x)

/-- A program cut off leaves the stored protection alone when the free values are even. -/
theorem State.tearProg_prot (even : ∀ n, (Config.freeWord n).toNat % 2 = 0) (s : State) (q : FolProg) :
    (s.tearProg q).fol.prot = s.fol.prot := by
  have bytes : (s.each q.pages (fun t g => t.each (g.bytes.zipIdx)
      (fun u b => u.tearByte (64 * g.phys + g.off + b.2) b.1))).fol.prot = s.fol.prot :=
    State.each_prot (fun t g => State.each_prot (fun u b => u.tearByte_prot _ _) t _) s _
  unfold State.tearProg
  generalize s.each q.pages _ = t at bytes
  have draw : ¬ t.free.1 % 2 = 1 := by rw [State.free, even]; decide
  dsimp only
  rw [State.setF_fol, State.setFol_fol]
  split
  · rw [if_neg draw]
    exact bytes
  · exact bytes

theorem State.tearProg_prog (s : State) (q : FolProg) : (s.tearProg q).fol.prog = none := by
  unfold State.tearProg
  rw [State.setF_fol, State.setFol_fol]

/-- The state in which a power-on reset finds Folio: a program in progress is cut off, unless a save lasts. -/
def State.cutOff (s : State) (core : Bool) : State :=
  match s.fol.prog with
  | some q => s.cond (!s.saveLasts core) (fun t => t.dropHand.tearProg q)
  | none => s

theorem State.cutOff_prog (s : State) (core : Bool) :
    (∀ q, s.fol.prog = some q → (s.cutOff core).fol.prog = if core = true ∧ q.src = .save then some q else none) ∧
    (s.fol.prog = none → (s.cutOff core).fol.prog = none) := by
  unfold State.cutOff
  refine ⟨fun q hq => ?_, fun hn => by simp only [hn]⟩
  simp only [hq, State.cond, State.saveLasts, Option.any_some]
  by_cases h : core = true ∧ q.src = .save
  · simp [h, hq]
  · have torn : (!(core && decide (q.src = .save))) = true := by
      cases core <;> simp_all
    rw [if_neg h, if_pos torn, State.tearProg_prog]

theorem State.cutOff_prot (even : ∀ n, (Config.freeWord n).toNat % 2 = 0) (s : State) (core : Bool) :
    (s.cutOff core).fol.prot = s.fol.prot := by
  unfold State.cutOff State.cond
  split
  · split
    · exact State.tearProg_prot even _ _
    · rfl
  · rfl

/-- What a power-on reset leaves, for whatever `u` it finds, before Folio's registers follow. -/
def State.cleared (u : State) (latch : List (List Byte)) : State :=
  { u.clearRun with
    regs := [], mem := [], pnl := .reset, fox := .reset, clk := ⟨false, false, true, false⟩
    fol := { u.fol.afterReset with latch := latch, restored := false, saveMade := false }
    pair := .reset }

theorem State.powerReset_eq (s : State) (core : Bool) : s.powerReset core = ((s.cutOff core).cleared
    (if s.saveLasts core then (s.cutOff core).fol.latch else List.replicate 4 [])).folAfter := by
  unfold State.powerReset State.cutOff
  cases s.fol.prog <;> rfl

/-- All but the stored protection follows from the reset's own words. -/
theorem powerOnResetClears_of_prot (h : ∀ (s : State) (core : Bool), (s.cutOff core).fol.prot = s.fol.prot) :
    Obligations.PowerOnResetClears := by
  intro s core
  obtain ⟨lasts, idle⟩ := s.cutOff_prog core
  refine ⟨s.powerReset core, rfl, ?_⟩
  rw [State.powerReset_eq]
  have prot := h s core
  generalize (if s.saveLasts core then (s.cutOff core).fol.latch else List.replicate 4 []) = latch
  generalize s.cutOff core = u at lasts idle prot
  have reads : ∀ a, (u.cleared latch).rd a = (resetWord a).toNat := fun _ => rfl
  refine ⟨rfl, fun a hp hb => ?_, ?_, lasts, idle, rfl, rfl, rfl, rfl, rfl, rfl, rfl, rfl, rfl, rfl, rfl, rfl, rfl, rfl,
    rfl, rfl, rfl, rfl, prot⟩
  · unfold State.folAfter State.setB
    rw [State.rd_setF_ne _ _ hp, State.rd_setF_ne _ _ hb, reads]
  · unfold State.folAfter State.setB
    rw [State.rd_setF_ne _ _ (by decide), State.rd_setF_same rfl rfl, reads]
    rfl

/-- Folio with a program of the protection value 1 in progress, the free value `n` to come. -/
def protProgram (n : Nat) : State :=
  { State.reset with freeCount := n, fol := { Folio.factory with prog := some ⟨.prot 1, []⟩ } }

/-- A power-on reset keeps the stored protection in every state exactly if every free value is even; the rest of the
obligation holds whatever they are. -/
theorem powerOnResetClears_iff : Obligations.PowerOnResetClears ↔ ∀ n, (Config.freeWord n).toNat % 2 = 0 := by
  refine ⟨fun h n => ?_, fun even => powerOnResetClears_of_prot (State.cutOff_prot even)⟩
  have torn : ((protProgram n).cutOff false).fol.prot = if (Config.freeWord n).toNat % 2 = 1 then 1 else 0 := by
    have run : (protProgram n).cutOff false = (protProgram n).dropHand.tearProg ⟨.prot 1, []⟩ := rfl
    rw [run]
    unfold State.tearProg
    dsimp only [State.each, List.foldl_nil]
    rw [State.setF_fol, State.setFol_fol]
    have draw : (protProgram n).dropHand.free.1 = (Config.freeWord n).toNat := rfl
    dsimp only
    rw [draw]
    split <;> rfl
  obtain ⟨t, ht, -, -, -, -, -, -, -, -, -, -, -, -, -, -, -, -, -, -, -, -, -, -, -, hprot⟩ := h (protProgram n) false
  obtain rfl : (protProgram n).powerReset false = t := Host.Outcome.next.inj ht
  rw [State.powerReset_eq] at hprot
  have kept : ((protProgram n).cutOff false).fol.prot = 0 := hprot
  rw [torn] at kept
  split at kept
  · exact absurd kept (by decide)
  · omega

end PowerOn

end Sys2Proof.Machine

namespace Sys2Proof.Machine

/-! PROOFS. The frame and the clocks: resets other than power-on, shadows, lock loss and relock, trips and the safe-state
bus, the order of a tick, and the lanes of the control engine. -/

section SafeBus

variable {s t u : State}

/-! ### What forcing the outputs leaves -/

/-- What `p` shows of a state is in `t` as in `s`. -/
def sameIn {β : Type} (p : State → β) (s t : State) : Prop := p t = p s

section SameIn

variable {β : Type} {p : State → β}

theorem sameIn.refl (s : State) : sameIn p s s := rfl

theorem sameIn.trans (h : sameIn p s t) (k : sameIn p t u) : sameIn p s u := Eq.trans k h

theorem sameIn.field {γ : Type} (h : sameIn p s t) (q : β → γ) : q (p t) = q (p s) := congrArg q h

theorem sameIn.each {α : Type} {f : State → α → State} (h : ∀ s x, sameIn p s (f s x)) (xs : List α) (s : State) :
    sameIn p s (s.each xs f) := by
  induction xs generalizing s with
  | nil => rfl
  | cons x xs ih => exact (h s x).trans (ih (f s x))

theorem sameIn.cond {f : State → State} (b : Bool) (h : sameIn p s (f s)) : sameIn p s (s.cond b f) := by
  cases b
  · rfl
  · exact h

theorem sameIn.ite {c : Prop} [Decidable c] (ht : sameIn p s t) (hu : sameIn p s u) :
    sameIn p s (if c then t else u) := by
  split
  · exact ht
  · exact hu

end SameIn

/-- The state but for its registers. -/
def State.noRegs (s : State) : State := { s with regs := [] }

/-- The state but for its registers, the PWM array and the count of free values used. -/
def State.noPwm (s : State) : State := { s with regs := [], pwm := .reset, freeCount := 0 }

/-- `t` is `s` but for its registers. -/
def regsOnly (s t : State) : Prop := sameIn State.noRegs s t

/-- `t` is `s` but for its registers, the PWM array and the count of free values used. -/
def pwmOnly (s t : State) : Prop := sameIn State.noPwm s t

theorem regsOnly.pwmOnly (h : regsOnly s t) : pwmOnly s t := sameIn.field h State.noPwm

theorem regsOnly.pwm (h : regsOnly s t) : t.pwm = s.pwm := sameIn.field h State.pwm

theorem regsOnly.adc (h : regsOnly s t) : t.adc = s.adc := sameIn.field h State.adc

theorem pwmOnly.mem (h : pwmOnly s t) : t.mem = s.mem := sameIn.field h State.mem

theorem pwmOnly.boot (h : pwmOnly s t) : t.boot = s.boot := sameIn.field h State.boot

theorem pwmOnly.safe (h : pwmOnly s t) : t.safe = s.safe := sameIn.field h State.safe

theorem pwmOnly.shadow (h : pwmOnly s t) : t.shadow = s.shadow := sameIn.field h State.shadow

theorem regsOnly.setF (s : State) (x : Fld) (v : Nat) : regsOnly s (s.setF x v) := rfl

theorem State.ledgerAdd_regsOnly (s : State) (n k : Nat) : regsOnly s (s.ledgerAdd n k) :=
  sameIn.trans (regsOnly.setF s _ _) (regsOnly.setF _ _ _)

theorem State.ledgerN_regsOnly (s : State) (src n : Nat) : regsOnly s (s.ledgerN src n) :=
  sameIn.each (fun t k => t.ledgerAdd_regsOnly n k) (ledgerHits s.regs src) s

theorem State.ledger_regsOnly (s : State) (src : Nat) : regsOnly s (s.ledger src) := s.ledgerN_regsOnly src 1

theorem State.count_regsOnly (s : State) (x : Fld) (src : Nat) : regsOnly s (s.count x src) :=
  sameIn.trans (regsOnly.setF s _ _) (State.ledger_regsOnly _ src)

theorem pwmOnly.setF (s : State) (x : Fld) (v : Nat) : pwmOnly s (s.setF x v) := rfl

theorem State.zeroCarry_pwmOnly (s : State) (g : Nat) : pwmOnly s (s.zeroCarry g) :=
  sameIn.each (fun t _ => pwmOnly.setF t _ 0) _ s

theorem State.groupForce_pwmOnly (s : State) (g : Nat) : pwmOnly s (s.groupForce g) := by
  have carries : ∀ (t : State) (b : Bool), pwmOnly t (t.cond b (·.zeroCarry g)) := fun t b =>
    sameIn.cond b (t.zeroCarry_pwmOnly g)
  unfold State.groupForce
  exact sameIn.ite (sameIn.refl s) ((carries (s.free.2.switchesOff g (s.offClock g)) _).trans rfl)

theorem State.gpShow_pwmOnly (s : State) (c : Nat) : pwmOnly s (s.gpShow c) := by
  have used : ∀ b : Bool, pwmOnly s (s.cond b (·.free.2)) := fun b => sameIn.cond b rfl
  unfold State.gpShow
  exact (used _).trans rfl

theorem State.outputsSafe_pwmOnly (s : State) : pwmOnly s s.outputsSafe :=
  (sameIn.each (·.groupForce_pwmOnly ·) _ s).trans
    (sameIn.each (fun t c => sameIn.cond (f := (·.gpShow c)) _ (t.gpShow_pwmOnly c)) _ _)

theorem State.ledger_pwmOnly (s : State) (src : Nat) : pwmOnly s (s.ledger src) := (s.ledger_regsOnly src).pwmOnly

theorem State.showSafe_regsOnly (s : State) : regsOnly s s.showSafe := sameIn.cond _ (regsOnly.setF s _ _)

theorem State.showSafe_pwmOnly (s : State) : pwmOnly s s.showSafe := s.showSafe_regsOnly.pwmOnly

theorem State.groupsForce_same (s : State) : sameRegs s (s.each (List.range 6) (·.groupForce ·)) pwmEffectRegs :=
  sameRegs.each_of_mem (fun _ hg t => State.groupForce_same (List.mem_range.mp hg) t) s

theorem State.outputsSafe_same (s : State) : sameRegs s s.outputsSafe pwmEffectRegs :=
  s.groupsForce_same.trans
    (sameRegs.each (fun t c => sameRegs.cond (f := (·.gpShow c)) _ (sameRegs.ofRegs (t.gpShow_regs c))) _ _)

theorem State.showSafe_same (s : State) : sameRegs s s.showSafe [F.PWM_STAT_SAFE.addr] :=
  sameRegs.cond _ (sameRegs.setF s _ List.mem_cons_self)

/-! ### A source asserts the safe-state bus -/

/-- The bus with `src` among the sources that assert it. -/
def State.withSource (s : State) (src : SafeSource) : State :=
  if s.safe.srcs.contains src then s
  else { s with safe := { s.safe with srcs := src :: s.safe.srcs, held := true } }

theorem State.mem_withSource (s : State) (src : SafeSource) : src ∈ (s.withSource src).safe.srcs := by
  unfold State.withSource
  split
  · exact List.contains_iff_mem.mp ‹_›
  · exact List.mem_cons_self

theorem State.safeAssert_known (h : s.safe.srcs.contains src = true) : s.safeAssert src = s := if_pos h

theorem State.safeAssert_new {src : SafeSource} (h : s.safe.srcs.contains src = false) : s.safeAssert src =
    if s.safe.srcs.isEmpty then (s.withSource src).showSafe.outputsSafe.ledger 48 else (s.withSource src).showSafe := by
  unfold State.safeAssert State.withSource
  rw [h]
  rfl

theorem State.safeAssert_pwmOnly (s : State) (src : SafeSource) : pwmOnly (s.withSource src) (s.safeAssert src) := by
  cases h : s.safe.srcs.contains src with
  | true =>
    rw [State.safeAssert_known h, State.withSource, if_pos h]
    rfl
  | false =>
    rw [State.safeAssert_new h]
    have shown := (s.withSource src).showSafe_pwmOnly
    exact sameIn.ite ((shown.trans (State.outputsSafe_pwmOnly _)).trans (State.ledger_pwmOnly _ 48)) shown

/-- The registers that an assertion of the bus may change: SAFE, those of the drive groups, and the counters. -/
def safeRegs : List Nat := F.PWM_STAT_SAFE.addr :: pwmEffectRegs ++ countRegs

theorem State.withSource_regs (s : State) (src : SafeSource) : (s.withSource src).regs = s.regs := by
  unfold State.withSource
  split <;> rfl

theorem State.safeAssert_same (s : State) (src : SafeSource) : sameRegs s (s.safeAssert src) safeRegs := by
  cases h : s.safe.srcs.contains src with
  | true => rw [State.safeAssert_known h]; exact sameRegs.refl s _
  | false =>
    have shown : sameRegs s (s.withSource src).showSafe safeRegs :=
      (sameRegs.ofRegs (s.withSource_regs src)).trans
        ((State.showSafe_same _).mono fun a ha => List.mem_append_left _ (List.mem_cons.mpr (.inl (by simpa using ha))))
    have forced : sameRegs s ((s.withSource src).showSafe.outputsSafe.ledger 48) safeRegs :=
      (shown.trans ((State.outputsSafe_same _).mono fun a ha =>
        List.mem_append_left _ (List.mem_cons_of_mem _ ha))).trans
          ((State.ledger_same _ 48).mono fun a ha => List.mem_append_right _ ha)
    rw [State.safeAssert_new h]
    exact sameRegs.ite forced shown

theorem State.withSource_mem (s : State) (src : SafeSource) : (s.withSource src).mem = s.mem := by
  unfold State.withSource
  split <;> rfl

theorem State.withSource_boot (s : State) (src : SafeSource) : (s.withSource src).boot = s.boot := by
  unfold State.withSource
  split <;> rfl

theorem State.safeAssert_mem (s : State) (src : SafeSource) : (s.safeAssert src).mem = s.mem := by
  rw [(s.safeAssert_pwmOnly src).mem, s.withSource_mem]

theorem State.safeAssert_boot (s : State) (src : SafeSource) : (s.safeAssert src).boot = s.boot := by
  rw [(s.safeAssert_pwmOnly src).boot, s.withSource_boot]

theorem State.mem_safeAssert (s : State) (src : SafeSource) : src ∈ (s.safeAssert src).safe.srcs := by
  rw [(s.safeAssert_pwmOnly src).safe]
  exact s.mem_withSource src

end SafeBus

/-! ### Lock loss and relock (R28, R35, R55, R608) -/

section Clocks

variable {s : State}

/-- The lock bits that a loss of a PLL leaves. -/
def State.lockLost (s : State) (link : Bool) : State :=
  if link then (s.setF F.CRT_CLKSTAT_LOCK_L 0).setF F.CRT_CLKSTAT_LOCKLOSS_L 1
  else (s.setF F.CRT_CLKSTAT_LOCK_M 0).setF F.CRT_CLKSTAT_LOCKLOSS_M 1

theorem State.lockLost_same (s : State) (link : Bool) : sameRegs s (s.lockLost link) [F.CRT_CLKSTAT_LOCK_L.addr] := by
  have both : ∀ x y : Fld, x.addr = F.CRT_CLKSTAT_LOCK_L.addr → y.addr = F.CRT_CLKSTAT_LOCK_L.addr →
      sameRegs s ((s.setF x 0).setF y 1) [F.CRT_CLKSTAT_LOCK_L.addr] := fun x y hx hy =>
    (sameRegs.setF s 0 (List.mem_singleton.mpr hx)).trans (sameRegs.setF _ 1 (List.mem_singleton.mpr hy))
  exact sameRegs.ite (both _ _ rfl rfl) (both _ _ rfl rfl)

theorem State.lockLost_pwmOnly (s : State) (link : Bool) : pwmOnly s (s.lockLost link) :=
  sameIn.ite ((pwmOnly.setF s _ 0).trans (pwmOnly.setF _ _ 1)) ((pwmOnly.setF s _ 0).trans (pwmOnly.setF _ _ 1))

/-- The lost PLL's own bits show the loss; the other's lock bit stays. -/
theorem State.lockLost_shown (h : regsWf s.regs = true) :
    ((s.lockLost true).on F.CRT_CLKSTAT_LOCK_L = false ∧ (s.lockLost true).on F.CRT_CLKSTAT_LOCKLOSS_L = true ∧
      (s.lockLost true).on F.CRT_CLKSTAT_LOCK_M = s.on F.CRT_CLKSTAT_LOCK_M) ∧
    ((s.lockLost false).on F.CRT_CLKSTAT_LOCK_M = false ∧ (s.lockLost false).on F.CRT_CLKSTAT_LOCKLOSS_M = true ∧
      (s.lockLost false).on F.CRT_CLKSTAT_LOCK_L = s.on F.CRT_CLKSTAT_LOCK_L) := by
  have first : ∀ x : Fld, regsWf (s.setF x 0).regs = true := fun x => State.setF_regsWf h x 0
  refine ⟨⟨?_, ?_, ?_⟩, ?_, ?_, ?_⟩
  · exact (State.on_setF_apart (first _) rfl rfl 1).trans (State.on_setF_same h rfl rfl 0)
  · exact State.on_setF_same (first _) rfl rfl 1
  · exact (State.on_setF_apart (first _) rfl rfl 1).trans (State.on_setF_apart h rfl rfl 0)
  · exact (State.on_setF_apart (first _) rfl rfl 1).trans (State.on_setF_same h rfl rfl 0)
  · exact State.on_setF_same (first _) rfl rfl 1
  · exact (State.on_setF_apart (first _) rfl rfl 1).trans (State.on_setF_apart h rfl rfl 0)

theorem exec_pllLockLoss (link : Bool) (s : State) : exec (.pllLockLoss link) s =
    .next (if !s.portLive then s
      else if (s.lockLost link).boot.stage ≠ .run then s.lockLost link
      else if link then (s.lockLost link).safeAssert .pllL else ((s.lockLost link).safeAssert .pllM).frameStop) := by
  cases link <;> rfl

/-- Registers outside the clock's and the PWM block, the counters apart, read alike. -/
theorem outside_of_sameRegs {t : State} {l : List Nat} {k : List Nat} (h : sameRegs s t l)
    (hl : ∀ a, a ∈ l → blockOf a ∈ k ∨ a ∈ countRegs) : outside k s t := by
  intro a hb hc
  refine h a fun ha => ?_
  rcases hl a ha with h | h
  · exact hb h
  · exact hc h

theorem State.frameStop_same (s : State) : sameRegs s s.frameStop [F.CRT_FRAMEPOS_POS.addr] := by
  unfold State.frameStop
  refine sameRegs.ite ?_ (sameRegs.refl s _)
  exact sameRegs.setF s.free.2 _ List.mem_cons_self

theorem State.frameStop_counting (s : State) : s.frameStop.boot.counting = false := by
  unfold State.frameStop
  split
  · rfl
  · exact Bool.eq_false_iff.mpr ‹_›

theorem State.frameStop_mem (s : State) : s.frameStop.mem = s.mem := by
  unfold State.frameStop
  split <;> rfl

theorem State.frameStop_safe (s : State) : s.frameStop.safe = s.safe := by
  unfold State.frameStop
  split <;> rfl

theorem State.on_of_rd {t : State} {x : Fld} (h : t.rd x.addr = s.rd x.addr) : t.on x = s.on x := by
  unfold State.on State.f
  rw [h]

/-- An assertion of the bus leaves the clock's status. -/
theorem State.rd_clkstat_safeAssert (s : State) (src : SafeSource) :
    (s.safeAssert src).rd F.CRT_CLKSTAT_LOCK_L.addr = s.rd F.CRT_CLKSTAT_LOCK_L.addr :=
  s.safeAssert_same src _ (by decide +kernel)

theorem State.portLive_of_stage (h : s.boot.stage ∉ [.reset, .pll]) : s.portLive = true := by
  simp only [List.mem_cons, List.not_mem_nil, or_false, not_or] at h
  simp [State.portLive, h]

/-- A loss after the boot's end: the lock bits, the bus, and the frame counter of PLL_M. -/
theorem lockLoss_running (hs : s.wf = true) (hr : s.boot.stage = .run) :
    (∃ t, exec (.pllLockLoss false) s = .next t ∧ t.on F.CRT_CLKSTAT_LOCK_M = false ∧ t.on F.CRT_CLKSTAT_LOCKLOSS_M = true ∧
      t.boot.counting = false ∧ SafeSource.pllM ∈ t.safe.srcs ∧ t.on F.CRT_CLKSTAT_LOCK_L = s.on F.CRT_CLKSTAT_LOCK_L ∧
      outside [0, 4] s t ∧ sameMem s t) ∧
    (∃ t, exec (.pllLockLoss true) s = .next t ∧ t.on F.CRT_CLKSTAT_LOCK_L = false ∧ t.on F.CRT_CLKSTAT_LOCKLOSS_L = true ∧
      t.boot = s.boot ∧ SafeSource.pllL ∈ t.safe.srcs ∧ t.on F.CRT_CLKSTAT_LOCK_M = s.on F.CRT_CLKSTAT_LOCK_M ∧
      outside [0, 4] s t ∧ sameMem s t) := by
  have live : s.portLive = true := State.portLive_of_stage (by rw [hr]; decide)
  have stage : ∀ link, (s.lockLost link).boot.stage = .run := fun link => by rw [(s.lockLost_pwmOnly link).boot, hr]
  obtain ⟨⟨lockL, lossL, keepM⟩, lockM, lossM, keepL⟩ := State.lockLost_shown (State.wf_regs hs)
  have asserted : ∀ link src, sameRegs s ((s.lockLost link).safeAssert src) (F.CRT_CLKSTAT_LOCK_L.addr :: safeRegs) :=
    fun link src => ((s.lockLost_same link).mono fun a ha => List.mem_cons.mpr (.inl (List.mem_singleton.mp ha))).trans
      ((State.safeAssert_same _ src).mono fun a ha => List.mem_cons_of_mem _ ha)
  have mem : ∀ link src, ((s.lockLost link).safeAssert src).mem = s.mem := fun link src => by
    rw [State.safeAssert_mem, (s.lockLost_pwmOnly link).mem]
  have blocks : ∀ a, a ∈ F.CRT_FRAMEPOS_POS.addr :: F.CRT_CLKSTAT_LOCK_L.addr :: safeRegs →
      blockOf a ∈ [0, 4] ∨ a ∈ countRegs := by decide +kernel
  have clk : ∀ link src, ((s.lockLost link).safeAssert src).rd F.CRT_CLKSTAT_LOCK_L.addr =
      (s.lockLost link).rd F.CRT_CLKSTAT_LOCK_L.addr := fun link src => State.rd_clkstat_safeAssert _ src
  refine ⟨⟨((s.lockLost false).safeAssert .pllM).frameStop, ?_, ?_⟩, (s.lockLost true).safeAssert .pllL, ?_, ?_⟩
  · rw [exec_pllLockLoss, live, stage]
    rfl
  · have stopped : ((s.lockLost false).safeAssert .pllM).frameStop.rd F.CRT_CLKSTAT_LOCK_L.addr =
        (s.lockLost false).rd F.CRT_CLKSTAT_LOCK_L.addr :=
      (State.frameStop_same _ _ (by decide)).trans (clk false .pllM)
    have on : ∀ x : Fld, x.addr = F.CRT_CLKSTAT_LOCK_L.addr →
        ((s.lockLost false).safeAssert .pllM).frameStop.on x = (s.lockLost false).on x :=
      fun x hx => State.on_of_rd (by rw [hx]; exact stopped)
    refine ⟨(on F.CRT_CLKSTAT_LOCK_M rfl).trans lockM, (on F.CRT_CLKSTAT_LOCKLOSS_M rfl).trans lossM,
      State.frameStop_counting _, ?_, (on F.CRT_CLKSTAT_LOCK_L rfl).trans keepL,
      outside_of_sameRegs (((asserted false .pllM).mono fun a ha => List.mem_cons_of_mem _ ha).trans
        ((State.frameStop_same _).mono fun a ha => List.mem_cons.mpr (.inl (List.mem_singleton.mp ha)))) blocks,
      sameMem.ofMem ?_⟩
    · rw [State.frameStop_safe]; exact State.mem_safeAssert _ _
    · rw [State.frameStop_mem, mem]
  · rw [exec_pllLockLoss, live, stage]
    rfl
  · have on : ∀ x : Fld, x.addr = F.CRT_CLKSTAT_LOCK_L.addr →
        ((s.lockLost true).safeAssert .pllL).on x = (s.lockLost true).on x :=
      fun x hx => State.on_of_rd (by rw [hx]; exact clk true .pllL)
    refine ⟨(on F.CRT_CLKSTAT_LOCK_L rfl).trans lockL, (on F.CRT_CLKSTAT_LOCKLOSS_L rfl).trans lossL, ?_,
      State.mem_safeAssert _ _, (on F.CRT_CLKSTAT_LOCK_M rfl).trans keepM,
      outside_of_sameRegs (asserted true .pllL) fun a ha => blocks a (List.mem_cons_of_mem _ ha), sameMem.ofMem (mem _ _)⟩
    rw [State.safeAssert_boot, (s.lockLost_pwmOnly true).boot]

/-- A loss during the boot shows in the lock bits and nowhere else (log entry 16). -/
theorem lockLoss_booting (link : Bool) (hs : s.wf = true) (hb : s.boot.stage ∉ [.reset, .pll, .run]) :
    exec (.pllLockLoss link) s = .next (s.lockLost link) ∧
    (link = true → (s.lockLost link).on F.CRT_CLKSTAT_LOCK_L = false ∧
      (s.lockLost link).on F.CRT_CLKSTAT_LOCKLOSS_L = true) ∧
    (link = false → (s.lockLost link).on F.CRT_CLKSTAT_LOCK_M = false ∧
      (s.lockLost link).on F.CRT_CLKSTAT_LOCKLOSS_M = true) := by
  simp only [List.mem_cons, List.not_mem_nil, or_false, not_or] at hb
  obtain ⟨notReset, notPll, notRun⟩ := hb
  have live : s.portLive = true := State.portLive_of_stage (by simp [notReset, notPll])
  have stage : (s.lockLost link).boot.stage ≠ .run := by rw [(s.lockLost_pwmOnly link).boot]; exact notRun
  obtain ⟨⟨lockL, lossL, -⟩, lockM, lossM, -⟩ := State.lockLost_shown (State.wf_regs hs)
  refine ⟨by rw [exec_pllLockLoss, live, if_neg (by decide), if_pos stage], ?_, ?_⟩
  · rintro rfl; exact ⟨lockL, lossL⟩
  · rintro rfl; exact ⟨lockM, lossM⟩

theorem State.safeRelease_srcs (s : State) (src : SafeSource) :
    (s.safeRelease src).safe.srcs = s.safe.srcs.filter (fun x => decide (x ≠ src)) := by
  unfold State.safeRelease
  rw [(State.showSafe_pwmOnly _).safe]

theorem State.mem_safeRelease (s : State) (src x : SafeSource) :
    x ∈ (s.safeRelease src).safe.srcs ↔ x ∈ s.safe.srcs ∧ x ≠ src := by
  rw [State.safeRelease_srcs, List.mem_filter, decide_eq_true_eq]

theorem State.safeRelease_same (s : State) (src : SafeSource) :
    sameRegs s (s.safeRelease src) [F.PWM_STAT_SAFE.addr] :=
  sameRegs.trans (sameRegs.ofRegs rfl) (State.showSafe_same _)

theorem State.safeRelease_mem (s : State) (src : SafeSource) : (s.safeRelease src).mem = s.mem :=
  (State.showSafe_pwmOnly _).mem

/-- PLL_L locked again (R28, R35, R55). -/
theorem relock (three : Bool) (hs : s.wf = true) (hp : s.portLive = true) (hl : s.on F.CRT_CLKSTAT_LOCK_L = false) :
    ∃ t, exec (.pllLRelock three) s = .next t ∧ t.on F.CRT_CLKSTAT_LOCK_L = true ∧ t.clk.link3 = three ∧
      SafeSource.pllL ∉ t.safe.srcs ∧ (∀ x, x ≠ SafeSource.pllL → (x ∈ t.safe.srcs ↔ x ∈ s.safe.srcs)) ∧
      sameRegs s t [F.CRT_CLKSTAT_LOCK_L.addr, F.PWM_STAT_SAFE.addr] ∧ sameMem s t := by
  have run : exec (.pllLRelock three) s = execPllLRelock three s := rfl
  rw [run, execPllLRelock, hp, hl, if_pos (by decide)]
  refine ⟨_, rfl, ?_⟩
  have released := (s.setF F.CRT_CLKSTAT_LOCK_L 1).safeRelease_same .pllL
  have mem := (s.setF F.CRT_CLKSTAT_LOCK_L 1).safeRelease_mem .pllL
  have srcs := (s.setF F.CRT_CLKSTAT_LOCK_L 1).mem_safeRelease .pllL
  have locked : ((s.setF F.CRT_CLKSTAT_LOCK_L 1).safeRelease .pllL).on F.CRT_CLKSTAT_LOCK_L = true :=
    (State.on_of_rd (released _ (by decide))).trans (State.on_setF_same (State.wf_regs hs) rfl rfl 1)
  have regs : sameRegs s ((s.setF F.CRT_CLKSTAT_LOCK_L 1).safeRelease .pllL)
      [F.CRT_CLKSTAT_LOCK_L.addr, F.PWM_STAT_SAFE.addr] :=
    (sameRegs.setF s 1 List.mem_cons_self).trans (released.mono fun a ha => List.mem_cons_of_mem _ ha)
  generalize (s.setF F.CRT_CLKSTAT_LOCK_L 1).safeRelease .pllL = t at mem srcs locked regs
  refine ⟨locked, rfl, fun h => ((srcs _).mp h).2 rfl, fun x hx => ?_, regs, sameMem.ofMem mem⟩
  exact (srcs x).trans (and_iff_left hx)

end Clocks

/-- Settles O20: the lock bits, the safe-state bus and the frame counter after a loss; the latency and the bus after a
relock. -/
theorem lockLossAndRelock : Obligations.LockLossAndRelock := by
  refine ⟨fun s => lockLoss_running, fun s link hs hb => ?_, fun s three => relock three, fun s => rfl⟩
  obtain ⟨run, shownL, shownM⟩ := lockLoss_booting link hs hb
  have kept := s.lockLost_pwmOnly link
  exact ⟨_, run, shownL, shownM, kept.safe, kept.boot, s.lockLost_same link, sameMem.ofMem kept.mem⟩

/-! ### Resets other than power-on (R52, R54, R59, R60, R63, R265) -/

section OtherResets

variable {s : State}

theorem lookupAt_filter_key {β : Type} (p : Nat → Bool) (l : List (Nat × β)) (a : Nat) :
    lookupAt (l.filter (fun e => p e.1)) a = if p a then lookupAt l a else none := by
  induction l with
  | nil => simp [lookupAt]
  | cons e r ih =>
    obtain ⟨k, v⟩ := e
    by_cases hk : k = a
    · subst hk
      cases hp : p k <;> simp_all [lookupAt]
    · cases hp : p k <;> simp_all [lookupAt]

theorem Memory.byte_clear (m : List Host.Cell) (lo hi a : Nat) :
    Memory.byte (Memory.clear m lo hi) a = if lo ≤ a ∧ a < hi then memReset a else Memory.byte m a := by
  unfold Memory.byte Memory.clear
  rw [lookupAt_filter_key (fun k => decide (k < lo) || decide (hi ≤ k)) m a]
  by_cases h : lo ≤ a ∧ a < hi
  · have out : (decide (a < lo) || decide (hi ≤ a)) = false := by
      simp only [Bool.or_eq_false_iff, decide_eq_false_iff_not]
      omega
    rw [out, if_pos h]
    rfl
  · have kept : (decide (a < lo) || decide (hi ≤ a)) = true := by
      simp only [Bool.or_eq_true, decide_eq_true_eq]
      omega
    rw [kept, if_neg h]
    rfl

/-- A word that takes the bits of a mask from `x` and the others from `y`. -/
theorem bit_merge (x y m k : Nat) :
    bit (andNot y m + andN x m) k = if bit m k then bit x k else (bit y k && decide (k < 32)) := by
  have apart : ∀ i, (bit (andNot y m) i && bit (andN x m) i) = false := by
    intro i
    rw [bit_andNot, bit_andN]
    cases bit m i <;> simp
  rw [bit_add apart, bit_andNot, bit_andN]
  cases bit m k <;> simp

theorem lt_of_bit {x : Nat} (h : ∀ k, 32 ≤ k → bit x k = false) : x < 2 ^ 32 :=
  Nat.lt_pow_two_of_testBit x fun k hk => by rw [← bit_eq_testBit]; exact h k hk

theorem bit_of_lt {x k : Nat} (hx : x < 2 ^ 32) (hk : 32 ≤ k) : bit x k = false := by
  rw [bit_eq_testBit]
  exact Nat.testBit_lt_two_pow (hx.trans_le (Nat.pow_le_pow_right (by decide) hk))

theorem merge_lt {x : Nat} (hx : x < 2 ^ 32) (y m : Nat) : andNot y m + andN x m < 2 ^ 32 := by
  refine lt_of_bit fun k hk => ?_
  rw [bit_merge, bit_of_lt hx hk, decide_eq_false (by omega), Bool.and_false, ite_self]

theorem merge_self {x : Nat} (hx : x < 2 ^ 32) (m : Nat) : andNot x m + andN x m = x := by
  refine Nat.eq_of_testBit_eq fun k => ?_
  rw [← bit_eq_testBit, ← bit_eq_testBit, bit_merge]
  by_cases hk : k < 32
  · simp [hk]
  · rw [bit_of_lt hx (by omega), Bool.false_and, ite_self]

/-- A register after the retention of what AON holds: its AON bits, and the others of the reset word. -/
theorem rd_keepAon {t : State} (h : regsWf s.regs = true) (ht : t.regs = s.regs.filterMap keepAon) (a : Nat) :
    t.rd a = andN (s.rd a) (aonMask a) + andNot (resetWord a).toNat (aonMask a) := by
  have rising : risingFrom 0 s.regs = true := by
    unfold regsWf canonical at h
    exact (Bool.and_eq_true_iff.mp h).1
  have reset : (resetWord a).toNat < 2 ^ 32 := (resetWord a).isLt
  rw [State.rd_eq, ht, lookupAt_filterMap rising keepAon (fun _ _ he => (keepAon_some he).1), State.rd_eq, Nat.add_comm]
  cases lookupAt s.regs a with
  | none => simpa using (merge_self reset (aonMask a)).symm
  | some w =>
    have word : (BitVec.ofNat 32 (andN w.toNat (aonMask a) + andNot (resetWord a).toNat (aonMask a))).toNat =
        andNot (resetWord a).toNat (aonMask a) + andN w.toNat (aonMask a) := by
      rw [Nat.add_comm, BitVec.toNat_ofNat, Nat.mod_eq_of_lt (merge_lt w.isLt _ _)]
    simp only [Option.bind_some, Option.getD_some, keepAon]
    split
    · rename_i hw
      rw [hw] at word
      exact word
    · exact word

/-- What a reset other than power-on leaves, before its cause bit and Folio's registers follow. -/
def State.restarted (s : State) : State :=
  { s.clearRun with
    regs := s.regs.filterMap keepAon, mem := Memory.clear s.mem 0x141000 0x142000, fol := s.fol.afterReset
    thm := { Thermal.reset with progNum := if s.fol.afterReset.hand.isSome then s.thm.progNum else none }
    clk := { s.clk with link3 := false, por := false } }

theorem State.otherReset_eq (s : State) (cause : Fld) :
    s.otherReset cause = ((s.restarted.setF cause 1).folAfter).encDrop := rfl

theorem State.rd_folAfter {a : Nat} (hb : a ≠ F.FOL_STAT_BUSY.addr) (hp : a ≠ F.FOL_PROT_BP.addr) (s : State) :
    s.folAfter.rd a = s.rd a := by
  unfold State.folAfter State.setB
  rw [State.rd_setF_ne _ _ hp, State.rd_setF_ne _ _ hb]

theorem State.rd_otherReset {a : Nat} (hb : a ≠ F.FOL_STAT_BUSY.addr) (hp : a ≠ F.FOL_PROT_BP.addr) (s : State)
    (cause : Fld) : (s.otherReset cause).rd a = (s.restarted.setF cause 1).rd a := by
  rw [State.otherReset_eq]
  exact State.rd_folAfter hb hp _

theorem State.restarted_regsWf (h : regsWf s.regs = true) : regsWf s.restarted.regs = true := regsWf_keepAon h

/-- Main SRAM and the Vault outlast such a reset, but for the states of the Perennial links (R60, R265). -/
theorem State.afterReset_otherReset (s : State) (cause : Fld) : afterReset s (s.otherReset cause) := by
  intro a
  have mem : (s.otherReset cause).mem = Memory.clear s.mem 0x141000 0x142000 := rfl
  unfold State.mb
  rw [mem, Memory.byte_clear]
  split <;> rfl

/-- The cause bits of RSTCAUSE that a reset other than power-on sets. -/
def causes : List Fld :=
  [F.CRT_RSTCAUSE_PIN, F.CRT_RSTCAUSE_XTAL, F.CRT_RSTCAUSE_WDOG, F.CRT_RSTCAUSE_SVC, F.CRT_RSTCAUSE_PANEL]

theorem causes_shape : ∀ x, x ∈ causes → x.addr = F.CRT_RSTCAUSE_PIN.addr ∧ x.width = 1 ∧ x.lo < 6 ∧ x.fits = true := by
  decide

theorem rstcause_apart : F.CRT_RSTCAUSE_PIN.addr ≠ F.FOL_STAT_BUSY.addr ∧
    F.CRT_RSTCAUSE_PIN.addr ≠ F.FOL_PROT_BP.addr := by decide

variable {cause : Fld}

theorem on_otherReset (h : regsWf s.regs = true) (hc : cause ∈ causes) : (s.otherReset cause).on cause = true := by
  obtain ⟨addr, width, -, fits⟩ := causes_shape cause hc
  rw [State.on_of_rd (s := s.restarted.setF cause 1)
    (State.rd_otherReset (by rw [addr]; decide) (by rw [addr]; decide) s cause)]
  exact State.on_setF_same (State.restarted_regsWf h) fits width 1

/-- A register beside RSTCAUSE and those of Folio keeps its AON bits and no other. -/
theorem rd_otherReset_aon (h : regsWf s.regs = true) {a : Nat} (ha : a ≠ cause.addr) (hb : a ≠ F.FOL_STAT_BUSY.addr)
    (hp : a ≠ F.FOL_PROT_BP.addr) :
    (s.otherReset cause).rd a = andN (s.rd a) (aonMask a) + andNot (resetWord a).toNat (aonMask a) := by
  rw [State.rd_otherReset hb hp, State.rd_setF_ne _ _ ha]
  exact rd_keepAon h rfl a

/-- RSTCAUSE gains the cause bit and keeps the others. -/
theorem bit_rstcause_otherReset (h : regsWf s.regs = true) (hc : cause ∈ causes) (k : Nat) (hk : k < 32) :
    bit ((s.otherReset cause).rd F.CRT_RSTCAUSE_PIN.addr) k =
      ((k == cause.lo) || (decide (k < 6) && bit (s.rd F.CRT_RSTCAUSE_PIN.addr) k)) := by
  obtain ⟨addr, width, lo, fits⟩ := causes_shape cause hc
  have mask : aonMask F.CRT_RSTCAUSE_PIN.addr = 63 := by decide +kernel
  have reset : andNot (resetWord F.CRT_RSTCAUSE_PIN.addr).toNat 63 = 0 := by decide +kernel
  have kept : s.restarted.rd F.CRT_RSTCAUSE_PIN.addr = andN (s.rd F.CRT_RSTCAUSE_PIN.addr) 63 := by
    rw [rd_keepAon h rfl, mask, reset, Nat.add_zero]
  have low : bit 63 k = decide (k < 6) := by
    interval_cases k <;> rfl
  rw [State.rd_otherReset rstcause_apart.1 rstcause_apart.2, ← addr,
    State.rd_setF_same (State.restarted_regsWf h) fits, addr, kept, bit_eq_testBit, testBit_setBits, width,
    ← bit_eq_testBit, bit_andN, low]
  by_cases hlo : k < cause.lo
  · have ne : (k == cause.lo) = false := by simpa using Nat.ne_of_lt hlo
    rw [if_pos hlo, ne, Bool.false_or, Bool.and_comm]
  · by_cases heq : k = cause.lo
    · subst heq
      simp
    · have ne : (k == cause.lo) = false := by simpa using heq
      rw [if_neg hlo, if_neg (by omega), ne, Bool.false_or, Bool.and_comm]

theorem lockLoss_otherReset (h : regsWf s.regs = true) (hc : cause ∈ causes) :
    (s.otherReset cause).f F.CRT_CLKSTAT_LOCKLOSS_M = s.f F.CRT_CLKSTAT_LOCKLOSS_M := by
  obtain ⟨addr, -, -, -⟩ := causes_shape cause hc
  have mask : aonMask F.CRT_CLKSTAT_LOCKLOSS_M.addr = 4 := by decide +kernel
  have reset : andNot (resetWord F.CRT_CLKSTAT_LOCKLOSS_M.addr).toNat 4 = 0 := by decide +kernel
  unfold State.f
  rw [rd_otherReset_aon h (by rw [addr]; decide) (by decide) (by decide), mask, reset, Nat.add_zero]
  refine Nat.eq_of_testBit_eq fun k => ?_
  rw [testBit_getBits, testBit_getBits, ← bit_eq_testBit, ← bit_eq_testBit, bit_andN]
  by_cases hk : k < F.CRT_CLKSTAT_LOCKLOSS_M.width
  · obtain rfl : k = 0 := Nat.lt_one_iff.mp hk
    simp [show bit 4 F.CRT_CLKSTAT_LOCKLOSS_M.lo = true from rfl]
  · simp [hk]

/-- The crystal and the watchdog assert the safe-state bus before they reset (R52, R54). -/
theorem afterReset_safeAssert (s : State) (src : SafeSource) (cause : Fld) :
    afterReset s ((s.safeAssert src).otherReset cause) := by
  intro a
  have same : (s.safeAssert src).mb a = s.mb a := sameMem.ofMem (s.safeAssert_mem src) a
  rw [← same]
  exact State.afterReset_otherReset _ cause a

theorem safeAssert_regsWf (hs : s.wf = true) (src : SafeSource) : regsWf (s.safeAssert src).regs = true :=
  (State.safeAssert_kept src (State.wf_iff_kept.mp hs)).1

theorem exec_frameWatchdogExpiry (h : s.boot.ticked = true) :
    exec .frameWatchdogExpiry s = .next ((s.safeAssert .watchdog).otherReset F.CRT_RSTCAUSE_WDOG) := by
  have run : exec .frameWatchdogExpiry s = execFrameWatchdogExpiry s := rfl
  rw [run, execFrameWatchdogExpiry, if_pos h]

theorem exec_spiReset (hb : s.boot.stage ≠ .reset) (hp : s.hasReq .port = false) :
    exec (.spiReset [0x5A, 0xA5]) s = .next (s.otherReset F.CRT_RSTCAUSE_SVC) := by
  have run : exec (.spiReset [0x5A, 0xA5]) s = execSpiReset [0x5A, 0xA5] s := rfl
  have idle : ¬ (decide (s.boot.stage = .reset) || s.hasReq .port) = true := by simp [hb, hp]
  rw [run, execSpiReset, if_neg idle]
  rfl

end OtherResets

/-- Settles O7: what a reset keeps is read off the retained register file and memory, its cause bit set over them. -/
theorem otherResetsKeepAonBits : Obligations.OtherResetsKeepAonBits := by
  refine ⟨fun s => ⟨rfl, ⟨_, rfl, rfl⟩, exec_frameWatchdogExpiry, exec_spiReset⟩, fun s hs => ⟨?_, ?_, ?_, ?_⟩, ?_⟩
  · exact ⟨_, rfl, on_otherReset (State.wf_regs hs) (by decide), rfl, State.afterReset_otherReset _ _,
      fun a ha hb hp => rd_otherReset_aon (State.wf_regs hs) ha hb hp⟩
  · exact ⟨_, rfl, on_otherReset (safeAssert_regsWf hs .crystal) (cause := F.CRT_RSTCAUSE_XTAL) (by decide), rfl, rfl,
      afterReset_safeAssert s .crystal F.CRT_RSTCAUSE_XTAL⟩
  · exact fun ht => ⟨_, exec_frameWatchdogExpiry ht, on_otherReset (safeAssert_regsWf hs .watchdog) (by decide), rfl,
      afterReset_safeAssert s _ _⟩
  · exact fun hb hp => ⟨_, exec_spiReset hb hp, on_otherReset (State.wf_regs hs) (by decide), rfl,
      State.afterReset_otherReset _ _⟩
  · exact fun s cause hs hc => ⟨on_otherReset (State.wf_regs hs) hc, rfl, rfl, State.afterReset_otherReset _ _,
      bit_rstcause_otherReset (State.wf_regs hs) hc, lockLoss_otherReset (State.wf_regs hs) hc,
      fun a ha hb hp => rd_otherReset_aon (State.wf_regs hs) ha hb hp⟩

/-! ### Shadows (R37, R99, R585) -/

section Shadows

variable {s : State} {a : Nat} {w : Word} {r : RegRow}

theorem State.plainWrite_shadowed (hr : findReg a = some r) (hsh : r.shadowed = true) (w : Nat) :
    s.plainWrite a w = (s.pushShadow a w, true) := by
  unfold State.plainWrite
  simp only [hr, hsh, if_true]

theorem State.shadowMask_register (hr : findReg a = some r) (hm : inMem a = false) :
    s.shadowMask a = orN r.rw r.rwl := by
  simp only [State.shadowMask, hm, hr, Bool.false_eq_true, if_false]

/-- The commit of one word leaves every register at another address. -/
theorem State.rd_commitWord_ne {b : Nat} (h : a ≠ b) (s : State) (v : Nat) : (s.commitWord b v).rd a = s.rd a := by
  unfold State.commitWord State.poke
  split
  · exact State.setM_rd s b _ a
  · exact State.rd_wr_ne s _ h

theorem State.commitWord_regsWf (h : regsWf s.regs = true) (b v : Nat) : regsWf (s.commitWord b v).regs = true := by
  unfold State.commitWord State.poke
  split
  · exact h
  · exact State.wr_regsWf h _ _

/-- A register takes the bits of a committed word that a write may set. -/
theorem State.rd_commitWord_same (h : regsWf s.regs = true) (hm : inMem a = false) {v : Nat} (hv : v < 2 ^ 32) :
    (s.commitWord a v).rd a = andNot (s.rd a) (s.shadowMask a) + andN v (s.shadowMask a) := by
  simp only [State.commitWord, State.poke, State.peek, hm, Bool.false_eq_true, if_false]
  rw [State.rd_wr_same h, Nat.mod_eq_of_lt (merge_lt hv _ _)]

/-- The pending words, committed in turn. -/
def State.commitWords (s : State) (l : List (Nat × Word)) : State := s.each l (fun t e => t.commitWord e.1 e.2.toNat)

theorem State.rd_commitWords_other {l : List (Nat × Word)} (h : ∀ e, e ∈ l → e.1 ≠ a) (s : State) :
    (s.commitWords l).rd a = s.rd a := by
  induction l generalizing s with
  | nil => rfl
  | cons e l ih =>
    refine (ih (fun x hx => h x (List.mem_cons_of_mem e hx)) (s.commitWord e.1 e.2.toNat)).trans ?_
    exact State.rd_commitWord_ne (h e List.mem_cons_self).symm s _

theorem State.commitWords_regsWf (h : regsWf s.regs = true) (l : List (Nat × Word)) :
    regsWf (s.commitWords l).regs = true := by
  induction l generalizing s with
  | nil => exact h
  | cons e l ih => exact ih (State.commitWord_regsWf h e.1 e.2.toNat)

theorem State.commitWords_append (s : State) (l k : List (Nat × Word)) :
    s.commitWords (l ++ k) = (s.commitWords l).commitWords k := List.foldl_append ..

theorem State.tickShadow_hold (h : s.on F.BOOT_SHADOWCTL_HOLD = true) :
    s.tickShadow = { s with holdFrames := s.holdFrames + 1 } := if_pos h

theorem State.tickShadow_commit (h : s.on F.BOOT_SHADOWCTL_HOLD = false) :
    s.tickShadow = { s.commitWords s.shadow with shadow := [] } := by
  unfold State.tickShadow
  rw [h]
  rfl

/-- A register whose shadowed write waits takes, at the commit, the written bits of its RW and RWL fields. -/
theorem State.rd_commit_pushShadow (h : regsWf s.regs = true) (hr : findReg a = some r) (hm : inMem a = false) :
    ((s.pushShadow a w.toNat).commitWords (s.pushShadow a w.toNat).shadow).rd a =
      andNot (s.rd a) (orN r.rw r.rwl) + andN w.toNat (orN r.rw r.rwl) := by
  have shadow : (s.pushShadow a w.toNat).shadow = s.shadow.filter (fun e => e.1 != a) ++ [(a, w)] := by
    unfold State.pushShadow
    rw [BitVec.ofNat_toNat, BitVec.setWidth_eq]
  have others : ∀ e, e ∈ s.shadow.filter (fun e => e.1 != a) → e.1 ≠ a := fun e he => by
    simpa using (List.mem_filter.mp he).2
  have before := State.rd_commitWords_other others (s.pushShadow a w.toNat)
  have wf := State.commitWords_regsWf (s := s.pushShadow a w.toNat) h (s.shadow.filter (fun e => e.1 != a))
  rw [shadow, State.commitWords_append]
  generalize (s.pushShadow a w.toNat).commitWords (s.shadow.filter (fun e => e.1 != a)) = t at before wf
  have last : t.commitWords [(a, w)] = t.commitWord a w.toNat := rfl
  rw [last, State.rd_commitWord_same wf hm w.isLt, State.shadowMask_register hr hm, before]
  rfl

end Shadows

/-- Settles O13: a commit of the words that wait before leaves the register, its own word comes last. -/
theorem shadowsWaitForTheTick : Obligations.ShadowsWaitForTheTick := by
  intro s a w r hs hr hsh hm
  refine ⟨_, State.plainWrite_shadowed hr hsh _, rfl, fun _ _ => rfl, fun _ => rfl, fun hold => ?_, fun free => ?_⟩
  · rw [State.tickShadow_hold (s := s.pushShadow a w.toNat) hold]
    exact ⟨rfl, rfl⟩
  · rw [State.tickShadow_commit (s := s.pushShadow a w.toNat) free]
    refine ⟨rfl, fun k hk => ?_⟩
    have word := State.rd_commit_pushShadow (w := w) (State.wf_regs hs) hr hm
    have read : { (s.pushShadow a w.toNat).commitWords (s.pushShadow a w.toNat).shadow with shadow := [] }.rd a =
      ((s.pushShadow a w.toNat).commitWords (s.pushShadow a w.toNat).shadow).rd a := rfl
    rw [read, word, bit_merge, decide_eq_true hk, Bool.and_true]

/-! ### The tick (R33, R36, R460) -/

section Tick

variable {s : State} {di : BitVec 16}

/-- Without a running frame counter a tick does nothing. -/
theorem exec_tick_standing (h : s.boot.counting = false) : exec (.tick di) s = .next s := by
  have run : exec (.tick di) s = execTick di s := rfl
  rw [run, execTick, h]
  rfl

theorem exec_tick_curator (hc : s.boot.counting = true) (h : s.curator = true) :
    exec (.tick di) s = .next s.curatorTick := by
  have run : exec (.tick di) s = execTick di s := rfl
  rw [run, execTick, hc, h]
  rfl

/-- What a tick of a unit that is no Curator ends with, after the Catalogue's visits `d` of R36's order. -/
theorem exec_tick_unit (hc : s.boot.counting = true) (h : s.curator = false) : exec (.tick di) s = .next
    ((((((((s.frameCount.tickPwm).snapTick s.frameCount.tickPwm.frame).tickClose.tickShadow.almCommit).tickClear
      ).engineTick.seqTick.capTick.almArm.tickCatalogue di.toNat).firstTick.canTick).pairTick
        s.mirrorBytes).ledger 185) := by
  have run : exec (.tick di) s = execTick di s := rfl
  rw [run, execTick, hc, h]
  rfl

theorem State.frameCount_first (h : s.boot.ticked = false) : s.frameCount = s := by
  rw [State.frameCount, h, if_neg nofun]

theorem State.frameCount_later (h : s.boot.ticked = true) :
    s.frameCount = s.setF F.CRT_FRAMENO (s.frame + 1) := if_pos h

/-- The frame number after a tick (R33). -/
theorem State.frame_frameCount (h : regsWf s.regs = true) (ht : s.boot.ticked = true) :
    s.frameCount.frame = (s.frame + 1) % 2 ^ 32 := by
  rw [State.frameCount_later ht]
  exact State.f_setF_same h rfl _

theorem State.frameCount_same (s : State) : sameRegs s s.frameCount [F.CRT_FRAMENO.addr] :=
  sameRegs.ite (sameRegs.setF s _ List.mem_cons_self) (sameRegs.refl s _)

theorem State.frameCount_pwmOnly (s : State) : pwmOnly s s.frameCount :=
  sameIn.ite (pwmOnly.setF s _ _) (sameIn.refl s)

/-- A snapshot of a tick changes SNAPCTL.MODE, when it ends a single snapshot, and what no register shows. -/
theorem State.snapTick_eq (s : State) (n : Nat) : ∃ (b : Bool) (x : Option Snap),
    s.snapTick n = { s.cond b (·.setF F.LDG_SNAPCTL_MODE 0) with snap := x } := by
  unfold State.snapTick
  dsimp only
  split
  · exact ⟨_, _, rfl⟩
  · exact ⟨false, s.snap, rfl⟩

theorem State.modeEnd_same (s : State) (b : Bool) :
    sameRegs s (s.cond b (·.setF F.LDG_SNAPCTL_MODE 0)) [F.LDG_SNAPCTL_MODE.addr] :=
  sameRegs.cond (f := (·.setF F.LDG_SNAPCTL_MODE 0)) b (sameRegs.setF s 0 List.mem_cons_self)

theorem State.modeEnd_pwmOnly (s : State) (b : Bool) : pwmOnly s (s.cond b (·.setF F.LDG_SNAPCTL_MODE 0)) :=
  sameIn.cond (f := (·.setF F.LDG_SNAPCTL_MODE 0)) b (pwmOnly.setF s _ 0)

theorem State.snapTick_same (s : State) (n : Nat) : sameRegs s (s.snapTick n) [F.LDG_SNAPCTL_MODE.addr] := by
  obtain ⟨b, x, h⟩ := s.snapTick_eq n
  have ended := s.modeEnd_same b
  rw [h]
  generalize s.cond b (·.setF F.LDG_SNAPCTL_MODE 0) = t at ended
  exact ended.trans (sameRegs.ofRegs rfl)

/-- A snapshot leaves memory, the boot and the shadows. -/
theorem State.snapTick_keeps (s : State) (n : Nat) :
    (s.snapTick n).mem = s.mem ∧ (s.snapTick n).boot = s.boot ∧ (s.snapTick n).shadow = s.shadow := by
  obtain ⟨b, x, h⟩ := s.snapTick_eq n
  have ended := s.modeEnd_pwmOnly b
  rw [h]
  generalize s.cond b (·.setF F.LDG_SNAPCTL_MODE 0) = t at ended
  exact ⟨ended.mem, ended.boot, ended.shadow⟩

/-- Nothing is committed where nothing waits, or where HOLD is set (R37, R99). -/
theorem State.tickShadow_idle (h : s.shadow = [] ∨ s.on F.BOOT_SHADOWCTL_HOLD = true) :
    s.tickShadow.regs = s.regs ∧ s.tickShadow.mem = s.mem ∧ s.tickShadow.boot = s.boot := by
  cases hold : s.on F.BOOT_SHADOWCTL_HOLD with
  | true => rw [State.tickShadow_hold hold]; exact ⟨rfl, rfl, rfl⟩
  | false =>
    have none : s.shadow = [] := h.resolve_right (by rw [hold]; nofun)
    rw [State.tickShadow_commit hold, none]
    exact ⟨rfl, rfl, rfl⟩

/-- The registers that the first tick of a Curator writes. -/
def firstTickRegs : List Nat := [F.BOOT_STAT_FFMS.addr, F.BOOT_STAT_PHASE.addr, F.FOX_VREQ_N.addr]

/-- The number of cells that a restore of Foxing finds in Folio (R576). -/
def State.restoreCells (s : State) : State :=
  if s.on F.FOX_CTL_VLOCK then s
  else match s.fol.newestEntry (entryKind (fun k => k == 1 || k == 2)) with
    | some e => s.setN (min (max (if numAt e.2 7 1 = 0x11 then numAt e.2 10 4 / 2 ^ 27 else numAt e.2 10 4) nfac) 20)
    | none => s

/-- The calibration interval that a restore of Foxing finds in Folio (R576). -/
def State.restoreInterval (s : State) : State :=
  if s.on F.ADC_CALCTL_FOXLOCK || s.curator then s
  else match s.fol.newestEntry (entryKind (· == 3)) with
    | some e => s.setF F.ADC_CALINT_INT (min (max (if numAt e.2 7 1 = 0x11 then numAt e.2 8 2 else numAt e.2 10 4)
        (s.f F.FOX_CALCFG_INTMIN)) (s.f F.FOX_CALCFG_INTMAX))
    | none => s

theorem State.foxRestore_eq (s : State) : s.foxRestore =
    if !s.on F.ANL_PSTAT_READY then s else s.restoreCells.restoreInterval := rfl

theorem State.restoreCells_pwmOnly (s : State) : pwmOnly s s.restoreCells := by
  unfold State.restoreCells
  refine sameIn.ite (sameIn.refl s) ?_
  split
  · exact pwmOnly.setF s _ _
  · exact sameIn.refl s

theorem State.restoreInterval_pwmOnly (s : State) : pwmOnly s s.restoreInterval := by
  unfold State.restoreInterval
  refine sameIn.ite (sameIn.refl s) ?_
  split
  · exact pwmOnly.setF s _ _
  · exact sameIn.refl s

theorem State.foxRestore_pwmOnly (s : State) : pwmOnly s s.foxRestore := by
  rw [State.foxRestore_eq]
  exact sameIn.ite (sameIn.refl s) (s.restoreCells_pwmOnly.trans (State.restoreInterval_pwmOnly _))

theorem State.restoreCells_same (s : State) : sameRegs s s.restoreCells firstTickRegs := by
  unfold State.restoreCells
  refine sameRegs.ite (sameRegs.refl s _) ?_
  split
  · exact sameRegs.setF s _ (by decide)
  · exact sameRegs.refl s _

/-- The register of a state that two states share makes both Curators or neither. -/
theorem State.curator_of_rd {t : State} (h : t.rd F.PAIR_CFG_MODE.addr = s.rd F.PAIR_CFG_MODE.addr) :
    t.curator = s.curator := by
  unfold State.curator State.f
  rw [h]

/-- A Curator restores its number of cells, and no calibration interval (R460, R576). -/
theorem State.foxRestore_curator (h : s.curator = true) : sameRegs s s.foxRestore firstTickRegs := by
  have cells := s.restoreCells_same
  have mode : s.restoreCells.curator = true := (State.curator_of_rd (cells _ (by decide))).trans h
  have interval : s.restoreCells.restoreInterval = s.restoreCells := by
    rw [State.restoreInterval, mode, Bool.or_true, if_pos rfl]
  rw [State.foxRestore_eq, interval]
  exact sameRegs.ite (sameRegs.refl s _) cells

theorem State.encStop_keeps (s : State) :
    s.encStop.regs = s.regs ∧ s.encStop.mem = s.mem ∧ s.encStop.boot = s.boot := by
  unfold State.encStop State.cond
  split <;> exact ⟨rfl, rfl, rfl⟩

/-- FFMS and the last phase of the boot, as the first tick writes them. -/
def State.bootShown (s : State) : State :=
  (s.free.2.setF F.BOOT_STAT_FFMS (min (s.free.1 % 65536) 255)).phase 10

/-- The first tick has come. -/
def State.setTicked (s : State) : State := { s with boot := { s.boot with ticked := true } }

theorem State.firstTick_first (h : s.boot.ticked = false) : s.firstTick = s.bootShown.setTicked.foxRestore.encStop := by
  simp only [State.firstTick, h, Bool.false_eq_true, if_false, State.bootShown, State.setTicked]

theorem State.firstTick_later (h : s.boot.ticked = true) : s.firstTick = s := if_pos h

theorem State.bootShown_same (s : State) : sameRegs s s.bootShown firstTickRegs :=
  (sameRegs.setF s.free.2 (x := F.BOOT_STAT_FFMS) _ (by decide)).trans
    (sameRegs.setF (x := F.BOOT_STAT_PHASE) _ _ (by decide))

theorem State.bootShown_pwmOnly (s : State) : pwmOnly s s.bootShown :=
  sameIn.trans (t := s.free.2) rfl ((pwmOnly.setF _ _ _).trans (pwmOnly.setF _ _ _))

/-- The first tick has come after it (R65). -/
theorem State.firstTick_ticked (s : State) : s.firstTick.boot.ticked = true := by
  cases h : s.boot.ticked with
  | true => rw [State.firstTick_later h, h]
  | false =>
    rw [State.firstTick_first h, (State.encStop_keeps _).2.2, (State.foxRestore_pwmOnly _).boot]
    rfl

theorem State.setTicked_same (s : State) (l : List Nat) : sameRegs s s.setTicked l := sameRegs.ofRegs rfl

/-- What the first tick of a Curator does to the shown state `s`. -/
theorem State.setTicked_restored (h : s.curator = true) :
    sameRegs s s.setTicked.foxRestore.encStop firstTickRegs ∧ s.setTicked.foxRestore.encStop.mem = s.mem := by
  have ticked := s.setTicked_same firstTickRegs
  have mode : s.setTicked.curator = true := (State.curator_of_rd (ticked _ (by decide))).trans h
  have mem : s.setTicked.mem = s.mem := rfl
  generalize s.setTicked = t at *
  have restored := State.foxRestore_curator mode
  have restoredMem := t.foxRestore_pwmOnly.mem
  generalize t.foxRestore = u at *
  obtain ⟨stopped, stoppedMem, -⟩ := u.encStop_keeps
  exact ⟨(ticked.trans restored).trans (sameRegs.ofRegs stopped), by rw [stoppedMem, restoredMem, mem]⟩

theorem State.firstTick_curator (h : s.curator = true) :
    sameRegs s s.firstTick firstTickRegs ∧ s.firstTick.mem = s.mem := by
  cases ht : s.boot.ticked with
  | true => rw [State.firstTick_later ht]; exact ⟨sameRegs.refl s _, rfl⟩
  | false =>
    rw [State.firstTick_first ht]
    have shown := s.bootShown_same
    have shownMem := s.bootShown_pwmOnly.mem
    generalize s.bootShown = t at *
    obtain ⟨restored, restoredMem⟩ := State.setTicked_restored ((State.curator_of_rd (shown _ (by decide))).trans h)
    exact ⟨shown.trans restored, restoredMem.trans shownMem⟩

/-- The registers of a Curator's tick, the counters apart. -/
def curatorTickRegs : List Nat := F.CRT_FRAMENO.addr :: F.LDG_SNAPCTL_MODE.addr :: firstTickRegs

/-- A Curator's tick is one of the frame number, the snapshot, BOOT and Foxing (R460, log entry 123). -/
theorem State.curatorTick_frame (h : s.curator = true) (hw : s.shadow = [] ∨ s.on F.BOOT_SHADOWCTL_HOLD = true) :
    s.curatorTick.boot.ticked = true ∧ s.curatorTick.f F.CRT_FRAMENO = s.frameCount.f F.CRT_FRAMENO ∧
      sameRegs s s.curatorTick (curatorTickRegs ++ countRegs) ∧ s.curatorTick.mem = s.mem := by
  have eq : s.curatorTick = (((s.frameCount.snapTick s.frameCount.frame).tickShadow.firstTick).ledger 185) := rfl
  have counted := s.frameCount_same
  have snap := s.frameCount.snapTick_same s.frameCount.frame
  obtain ⟨snapMem, snapBoot, snapShadow⟩ := s.frameCount.snapTick_keeps s.frameCount.frame
  rw [eq]
  generalize s.frameCount.snapTick s.frameCount.frame = t at *
  have waits : t.shadow = [] ∨ t.on F.BOOT_SHADOWCTL_HOLD = true := by
    rw [snapShadow, State.on_of_rd ((snap _ (by decide)).trans (counted _ (by decide))), s.frameCount_pwmOnly.shadow]
    exact hw
  obtain ⟨idleRegs, idleMem, idleBoot⟩ := State.tickShadow_idle waits
  have idle : sameRegs t t.tickShadow [] := sameRegs.ofRegs idleRegs
  generalize t.tickShadow = u at *
  have mode : u.curator = true :=
    (State.curator_of_rd ((idle _ List.not_mem_nil).trans ((snap _ (by decide)).trans (counted _ (by decide))))).trans h
  obtain ⟨first, firstMem⟩ := State.firstTick_curator mode
  have ticked := u.firstTick_ticked
  generalize u.firstTick = v at *
  have after : sameRegs s.frameCount v (F.LDG_SNAPCTL_MODE.addr :: firstTickRegs) :=
    ((snap.mono fun a ha => List.mem_cons.mpr (.inl (List.mem_singleton.mp ha))).trans
      (idle.mono fun a ha => absurd ha List.not_mem_nil)).trans (first.mono fun a ha => List.mem_cons_of_mem _ ha)
  refine ⟨by rw [(v.ledger_pwmOnly 185).boot, ticked], ?_, ?_, ?_⟩
  · rw [State.f_ledger v 185 (by decide +kernel)]
    unfold State.f
    rw [after _ (by decide)]
  · exact ((counted.mono fun a ha => List.mem_append_left _ (List.mem_cons.mpr (.inl (List.mem_singleton.mp ha)))).trans
      (after.mono fun a ha => List.mem_append_left _ (List.mem_cons_of_mem _ ha))).trans
        ((v.ledger_same 185).mono fun a ha => List.mem_append_right _ ha)
  · rw [State.ledger_mem, firstMem, idleMem, snapMem, s.frameCount_pwmOnly.mem]

end Tick

/-- Settles O21: the parts of a tick of a unit are composed in the order of R36; those of a Curator's tick keep to CRT,
BOOT and the monitor block. -/
theorem tickFollowsItsOrder : Obligations.TickFollowsItsOrder := by
  refine ⟨fun s di => exec_tick_standing, fun s di hc h => ⟨_, _, _, _, exec_tick_unit hc h, rfl, rfl, rfl, rfl⟩,
    fun s di hs hc h hw => ?_, fun s hs => State.frame_frameCount (State.wf_regs hs),
    fun s h => ⟨State.frameCount_first h, s.firstTick_ticked⟩⟩
  obtain ⟨ticked, number, regs, mem⟩ := State.curatorTick_frame h hw
  refine ⟨_, exec_tick_curator hc h, ticked, ?_, outside_of_sameRegs regs (by decide +kernel), sameMem.ofMem mem⟩
  rw [number]
  split
  · exact State.frame_frameCount (State.wf_regs hs) ‹_›
  · rw [State.frameCount_first (Bool.eq_false_iff.mpr ‹_›)]

/-! ### Trips and the safe-state bus (R55, R183 to R195) -/

section Groups

variable {s t u : State} {g : Nat}

/-! #### One visit of a loop -/

/-- A loop over the elements of a list without repetition: what the visits of the others keep (`R`), `g`'s visit finds and
leaves. -/
theorem State.each_visit {R : State → State → Prop} (refl : ∀ s, R s s) (trans : ∀ s t u, R s t → R t u → R s u)
    {f : State → Nat → State} {l : List Nat} (hg : g ∈ l) (hl : l.Nodup) (h : ∀ t k, k ∈ l → k ≠ g → R t (f t k))
    (s : State) : ∃ u, R s u ∧ R (f u g) (s.each l f) := by
  have others : ∀ (m : List Nat), (∀ k ∈ m, k ∈ l ∧ k ≠ g) → ∀ s, R s (s.each m f) := by
    intro m
    induction m with
    | nil => intro _ s; exact refl s
    | cons k m ih =>
      intro hm s
      obtain ⟨hk, hne⟩ := hm k List.mem_cons_self
      exact trans _ _ _ (h s k hk hne) (ih (fun j hj => hm j (List.mem_cons_of_mem k hj)) (f s k))
  obtain ⟨before, after, rfl⟩ := List.append_of_mem hg
  have apart : g ∉ before ∧ g ∉ after := by
    obtain ⟨-, tail, disjoint⟩ := List.nodup_append.mp hl
    exact ⟨fun hb => disjoint g hb g List.mem_cons_self rfl, (List.nodup_cons.mp tail).1⟩
  refine ⟨s.each before f, others before (fun k hk => ⟨by simp [hk], fun e => apart.1 (e ▸ hk)⟩) s, ?_⟩
  have split : s.each (before ++ g :: after) f = (f (s.each before f) g).each after f := by
    simp only [State.each, List.foldl_append, List.foldl_cons]
  rw [split]
  exact others after (fun k hk => ⟨by simp [hk], fun e => apart.2 (e ▸ hk)⟩) _

/-! #### What concerns one drive group -/

theorem State.f_of_rd {x : Fld} (h : t.rd x.addr = s.rd x.addr) : t.f x = s.f x := by
  unfold State.f
  rw [h]

theorem State.plantHeld_of_rd (h : t.rd F.PAIR_CFG_MODE.addr = s.rd F.PAIR_CFG_MODE.addr) (hb : t.boot = s.boot) :
    t.plantHeld = s.plantHeld := by
  unfold State.plantHeld
  rw [State.curator_of_rd h, hb]

/-- The registers that tell whether group `g` is cut: its status and count of cuts, those in FOL_LIVE, its carries. -/
def cutRegs (g : Nat) : List Nat :=
  [(F.PWM_G_STAT_CUT g).addr, (F.PWM_G_TRIPCNT g).addr, (F.FOL_LIVE (22 + g)).addr] ++
    [0, 1, 2].map (fun x => (F.PWM_G_ACT_CARRY g x).addr)

/-- The registers that tell of group `g`: its trip map besides. -/
def groupRegs (g : Nat) : List Nat := (F.PWM_G_TRIPMAP_MAP g).addr :: cutRegs g

theorem statTrip_mem_groupRegs (g : Nat) : (F.PWM_G_STAT_TRIP g).addr ∈ groupRegs g :=
  List.mem_cons_of_mem _ List.mem_cons_self

theorem tripmap_mem_groupRegs (g : Nat) : (F.PWM_G_TRIPMAP_MAP g).addr ∈ groupRegs g := List.mem_cons_self

theorem tripcnt_mem_groupRegs (g : Nat) : (F.PWM_G_TRIPCNT g).addr ∈ groupRegs g :=
  List.mem_cons_of_mem _ (List.mem_cons_of_mem _ List.mem_cons_self)

theorem live_mem_groupRegs (g : Nat) : (F.FOL_LIVE (22 + g)).addr ∈ groupRegs g :=
  List.mem_cons_of_mem _ (List.mem_cons_of_mem _ (List.mem_cons_of_mem _ List.mem_cons_self))

theorem carry_mem_groupRegs {x : Nat} (hx : x < 3) (g : Nat) : (F.PWM_G_ACT_CARRY g x).addr ∈ groupRegs g :=
  List.mem_cons_of_mem _ (List.mem_append_right _ (List.mem_map.mpr
    ⟨x, by simp only [List.mem_cons, List.not_mem_nil, or_false]; omega, rfl⟩))

/-- From `s` to `t` nothing of group `g` has changed, nor what holds the outputs. -/
structure GroupKept (g : Nat) (s t : State) : Prop where
  wf : regsWf s.regs = true → regsWf t.regs = true
  regs : ∀ a, a ∈ groupRegs g → t.rd a = s.rd a
  mode : t.rd F.PAIR_CFG_MODE.addr = s.rd F.PAIR_CFG_MODE.addr
  boot : t.boot = s.boot
  safe : t.safe = s.safe
  grp : t.grp g = s.grp g
  len : t.pwm.groups.length = s.pwm.groups.length

theorem GroupKept.refl (g : Nat) (s : State) : GroupKept g s s :=
  ⟨id, fun _ _ => rfl, rfl, rfl, rfl, rfl, rfl⟩

theorem GroupKept.trans (h : GroupKept g s t) (k : GroupKept g t u) : GroupKept g s u :=
  ⟨k.wf ∘ h.wf, fun a ha => (k.regs a ha).trans (h.regs a ha), k.mode.trans h.mode, k.boot.trans h.boot,
    k.safe.trans h.safe, k.grp.trans h.grp, k.len.trans h.len⟩

theorem GroupKept.f (h : GroupKept g s t) {x : Fld} (hx : x.addr ∈ groupRegs g) : t.f x = s.f x :=
  State.f_of_rd (h.regs _ hx)

theorem GroupKept.on (h : GroupKept g s t) {x : Fld} (hx : x.addr ∈ groupRegs g) : t.on x = s.on x :=
  State.on_of_rd (h.regs _ hx)

theorem GroupKept.held (h : GroupKept g s t) : t.plantHeld = s.plantHeld :=
  State.plantHeld_of_rd h.mode h.boot

/-- A change of registers beside those of the group. -/
theorem GroupKept.ofRegs {l : List Nat} (h : regsOnly s t) (hr : sameRegs s t l)
    (hw : regsWf s.regs = true → regsWf t.regs = true) (hl : ∀ a, a ∈ groupRegs g → a ∉ l)
    (hm : F.PAIR_CFG_MODE.addr ∉ l) : GroupKept g s t :=
  ⟨hw, fun a ha => hr a (hl a ha), hr _ hm, h.pwmOnly.boot, h.pwmOnly.safe, by unfold State.grp; rw [h.pwm],
    by rw [h.pwm]⟩

theorem State.grp_setGrp_ne {k : Nat} (h : g ≠ k) (s : State) (f : Group → Group) : (s.setGrp k f).grp g = s.grp g := by
  unfold State.grp State.setGrp updAt
  dsimp only
  split
  · simp [List.getD_eq_getElem?_getD, List.getElem?_set_ne (Ne.symm h)]
  · rfl

theorem State.grp_setGrp_same (h : g < s.pwm.groups.length) (f : Group → Group) : (s.setGrp g f).grp g = f (s.grp g) := by
  unfold State.grp State.setGrp updAt
  simp [List.getD_eq_getElem?_getD, h]

theorem State.setGrp_len (s : State) (k : Nat) (f : Group → Group) :
    (s.setGrp k f).pwm.groups.length = s.pwm.groups.length := by
  unfold State.setGrp updAt
  dsimp only
  split <;> simp

/-- A change of another group. -/
theorem GroupKept.setGrp {k : Nat} (h : g ≠ k) (s : State) (f : Group → Group) : GroupKept g s (s.setGrp k f) :=
  ⟨id, fun _ _ => rfl, rfl, rfl, rfl, s.grp_setGrp_ne h f, s.setGrp_len k f⟩

theorem GroupKept.setF (s : State) {x : Fld} (v : Nat) (hx : x.addr ∉ groupRegs g)
    (hm : x.addr ≠ F.PAIR_CFG_MODE.addr) : GroupKept g s (s.setF x v) :=
  .ofRegs (regsOnly.setF s x v) (sameRegs.setF s v List.mem_cons_self) (fun h => State.setF_regsWf h x v)
    (fun _ ha hl => hx (List.mem_singleton.mp hl ▸ ha)) (fun hl => hm (List.mem_singleton.mp hl).symm)

/-- The counters tell nothing of a group. -/
theorem groupRegs_count : ∀ g, g < 6 → ∀ a, a ∈ groupRegs g → a ∉ countRegs := by decide +kernel

theorem mode_count : F.PAIR_CFG_MODE.addr ∉ countRegs := by decide +kernel

theorem GroupKept.ledger (hg : g < 6) (s : State) (src : Nat) : GroupKept g s (s.ledger src) :=
  .ofRegs (s.ledger_regsOnly src) (s.ledger_same src) (fun h => State.ledger_regsWf h src) (groupRegs_count g hg) mode_count

theorem GroupKept.count (hg : g < 6) (s : State) {x : Fld} (src : Nat) (hx : x.addr ∉ groupRegs g)
    (hm : x.addr ≠ F.PAIR_CFG_MODE.addr) : GroupKept g s (s.count x src) :=
  (GroupKept.setF s _ hx hm).trans (GroupKept.ledger hg _ src)

theorem GroupKept.cond {f : State → State} (b : Bool) (h : GroupKept g s (f s)) : GroupKept g s (s.cond b f) := by
  cases b
  · exact GroupKept.refl g s
  · exact h

theorem GroupKept.ite {c : Prop} [Decidable c] (ht : GroupKept g s t) (hu : GroupKept g s u) :
    GroupKept g s (if c then t else u) := by
  split
  · exact ht
  · exact hu

/-- The registers of two groups are apart. -/
theorem groupRegs_apart (hg : g < 6) {k : Nat} (hk : k < 6) (h : k ≠ g) {a : Nat} (ha : a ∈ groupRegs k) :
    a ∉ groupRegs g := by
  have apart : ∀ g, g < 6 → ∀ k, k < 6 → k = g ∨ ∀ a, a ∈ groupRegs k → a ∉ groupRegs g := by decide +kernel
  exact (apart g hg k hk).resolve_left h a ha

theorem groupRegs_mode : ∀ g, g < 6 → ∀ a, a ∈ groupRegs g → a ≠ F.PAIR_CFG_MODE.addr := by decide +kernel

/-- A field of another group. -/
theorem GroupKept.setOther (hg : g < 6) {k : Nat} (hk : k < 6) (h : k ≠ g) (s : State) {x : Fld} (v : Nat)
    (hx : x.addr ∈ groupRegs k) : GroupKept g s (s.setF x v) :=
  .setF s v (groupRegs_apart hg hk h hx) (groupRegs_mode k hk _ hx)

theorem GroupKept.zeroOther (hg : g < 6) {k : Nat} (hk : k < 6) (h : k ≠ g) (s : State) : GroupKept g s (s.zeroCarry k) :=
  have zeroed : ∀ (t : State) (x : Nat), x < 3 → GroupKept g t (t.setF (F.PWM_G_ACT_CARRY k x) 0) := fun t x hx =>
    .setOther hg hk h t 0 (carry_mem_groupRegs hx k)
  ((zeroed s 0 (by decide)).trans (zeroed _ 1 (by decide))).trans (zeroed _ 2 (by decide))

/-- Nothing that a group's tale rests on has changed. -/
theorem GroupKept.same (hr : t.regs = s.regs) (hp : t.pwm = s.pwm) (hb : t.boot = s.boot) (hs : t.safe = s.safe) :
    GroupKept g s t :=
  have rd := fun a => sameRegs.ofRegs (l := []) hr a List.not_mem_nil
  ⟨fun h => hr ▸ h, fun a _ => rd a, rd _, hb, hs, by unfold State.grp; rw [hp], by rw [hp]⟩

end Groups

/-! #### The flags of a registered trip (R189) -/

section Trips

variable {s t u : State} {g n : Nat}

/-- The trip inputs that show as active once input `n` is registered. -/
def State.tripsWith (s : State) (n : Nat) : Nat := orN (s.f F.PWM_STAT_TRIPIN) (2 ^ n)

/-- The state in which the trip of input `n` has set its flags and is counted. -/
def State.flagged (s : State) (n : Nat) : State := (s.tripLevels (s.tripsWith n)).ledger (40 + n)

/-- What the trip levels `lv` set in the status of group `g`. -/
def State.groupFlag (s : State) (lv g : Nat) : State :=
  s.cond (andN (s.f (F.PWM_G_TRIPMAP_MAP g)) lv != 0) (·.setF (F.PWM_G_STAT_TRIP g) 1)

/-- The live and the sticky bits of the trip inputs, before the groups'. -/
def State.tripBits (s : State) (lv : Nat) : State := (s.setF F.PWM_STAT_TRIPIN lv).orF F.PWM_TRIPFLAG_FLAG lv

theorem State.tripLevels_eq (s : State) (lv : Nat) :
    s.tripLevels lv = (s.tripBits lv).each (List.range 6) (fun t g => t.groupFlag lv g) := rfl

theorem exec_tripRegistered (n : Fin 8) (c : BitVec 16) (hp : s.portLive = true) (hh : s.halted = false)
    (hc : s.plantHeld = false) :
    exec (.tripRegistered n c) s = .next ((s.flagged n).cond (s.flagged n).pwmOn (·.tripCuts n c.toNat)) := by
  have run : exec (.tripRegistered n c) s = execTripRegistered n c s := rfl
  rw [run, execTripRegistered, hp, hh, hc]
  rfl

theorem State.tripBits_regsOnly (s : State) (lv : Nat) : regsOnly s (s.tripBits lv) :=
  sameIn.trans (regsOnly.setF s _ _) (regsOnly.setF _ _ _)

theorem State.groupFlag_regsOnly (s : State) (lv g : Nat) : regsOnly s (s.groupFlag lv g) :=
  sameIn.cond _ (regsOnly.setF s _ _)

theorem State.flagged_regsOnly (s : State) (n : Nat) : regsOnly s (s.flagged n) := by
  unfold State.flagged
  rw [State.tripLevels_eq]
  exact sameIn.trans (sameIn.trans (s.tripBits_regsOnly _) (sameIn.each (fun t g => t.groupFlag_regsOnly _ g) _ _))
    (State.ledger_regsOnly _ _)

/-- The statuses of the groups. -/
def statRegs : List Nat := (List.range 6).map (fun g => (F.PWM_G_STAT_TRIP g).addr)

theorem mem_statRegs (hg : g < 6) : (F.PWM_G_STAT_TRIP g).addr ∈ statRegs :=
  List.mem_map.mpr ⟨g, List.mem_range.mpr hg, rfl⟩

theorem State.groupFlags_same (s : State) (lv : Nat) :
    sameRegs s (s.each (List.range 6) (fun t g => t.groupFlag lv g)) statRegs :=
  sameRegs.each_of_mem (fun _ hg t => sameRegs.cond _ (sameRegs.setF t 1 (mem_statRegs (List.mem_range.mp hg)))) s

theorem State.tripBits_same (s : State) (lv : Nat) :
    sameRegs s (s.tripBits lv) [F.PWM_STAT_TRIPIN.addr, F.PWM_TRIPFLAG_FLAG.addr] :=
  (sameRegs.setF s lv List.mem_cons_self).trans (sameRegs.setF _ _ (by simp))

theorem State.flagged_same (s : State) (n : Nat) :
    sameRegs s (s.flagged n) (F.PWM_STAT_TRIPIN.addr :: F.PWM_TRIPFLAG_FLAG.addr :: statRegs ++ countRegs) := by
  unfold State.flagged
  rw [State.tripLevels_eq]
  refine (sameRegs.trans ((s.tripBits_same _).mono ?_) ((State.groupFlags_same _ _).mono ?_)).trans
    ((State.ledger_same _ _).mono ?_)
  all_goals intro a ha; simp only [List.mem_append, List.mem_cons, List.not_mem_nil, or_false] at *
  all_goals tauto

theorem tripsWith_lt (hn : n < 8) (s : State) : s.tripsWith n < 2 ^ 8 :=
  Nat.or_lt_two_pow (s.f_lt F.PWM_STAT_TRIPIN) (Nat.pow_lt_pow_right (by decide) hn)

theorem bit_tripsWith (s : State) (n : Nat) : bit (s.tripsWith n) n = true := by
  unfold State.tripsWith
  rw [bit_orN, bit_eq_testBit (2 ^ n), Nat.testBit_two_pow_self, Bool.or_true]

/-- Beside the statuses and the counters a group's flags change nothing of the trip inputs' own registers. -/
theorem State.f_flagged (s : State) (n : Nat) {x : Fld} (hx : x.addr ∉ statRegs ++ countRegs) :
    (s.flagged n).f x = (s.tripBits (s.tripsWith n)).f x := by
  unfold State.flagged State.f
  rw [State.ledger_same _ _ _ fun h => hx (List.mem_append_right _ h), State.tripLevels_eq,
    State.groupFlags_same _ _ _ fun h => hx (List.mem_append_left _ h)]

/-- The live and the sticky bits after a trip (R189). -/
theorem State.flagged_tripin (hs : regsWf s.regs = true) (hn : n < 8) :
    (s.flagged n).f F.PWM_STAT_TRIPIN = s.tripsWith n := by
  rw [State.f_flagged s n (by decide +kernel)]
  exact (State.f_setF_apart (State.setF_regsWf hs _ _) rfl rfl _).trans
    ((State.f_setF_same hs rfl _).trans (Nat.mod_eq_of_lt (tripsWith_lt hn s)))

theorem State.flagged_tripflag (hs : regsWf s.regs = true) (hn : n < 8) :
    (s.flagged n).f F.PWM_TRIPFLAG_FLAG = orN (s.f F.PWM_TRIPFLAG_FLAG) (s.tripsWith n) := by
  rw [State.f_flagged s n (by decide +kernel)]
  have before : (s.setF F.PWM_STAT_TRIPIN (s.tripsWith n)).f F.PWM_TRIPFLAG_FLAG = s.f F.PWM_TRIPFLAG_FLAG :=
    State.f_setF_apart hs rfl rfl _
  refine (State.f_setF_same (State.setF_regsWf hs _ _) rfl _).trans ?_
  rw [before]
  exact Nat.mod_eq_of_lt (Nat.or_lt_two_pow (s.f_lt F.PWM_TRIPFLAG_FLAG) (tripsWith_lt hn s))

/-! #### The flags of one group -/

theorem GroupKept.groupFlag (hg : g < 6) {k : Nat} (hk : k < 6) (h : k ≠ g) (s : State) (lv : Nat) :
    GroupKept g s (s.groupFlag lv k) :=
  .cond _ (.setOther hg hk h s 1 (statTrip_mem_groupRegs k))

theorem GroupKept.tripBits (hg : g < 6) (s : State) (lv : Nat) : GroupKept g s (s.tripBits lv) := by
  have apart : ∀ g, g < 6 → F.PWM_STAT_TRIPIN.addr ∉ groupRegs g ∧ F.PWM_TRIPFLAG_FLAG.addr ∉ groupRegs g := by
    decide +kernel
  obtain ⟨live, sticky⟩ := apart g hg
  exact (GroupKept.setF s lv live (by decide)).trans (GroupKept.setF _ _ sticky (by decide))

/-- Of group `g` a trip's flags change its own TRIP bit and nothing else. -/
theorem State.flagged_group (hg : g < 6) (s : State) (n : Nat) :
    ∃ v, GroupKept g s v ∧ GroupKept g (v.groupFlag (s.tripsWith n) g) (s.flagged n) := by
  obtain ⟨v, before, after⟩ := State.each_visit (R := GroupKept g) (GroupKept.refl g) (fun _ _ _ => GroupKept.trans)
    (f := fun t g => t.groupFlag (s.tripsWith n) g) (List.mem_range.mpr hg) List.nodup_range
    (fun t k hk h => .groupFlag hg (List.mem_range.mp hk) h t _) (s.tripBits (s.tripsWith n))
  refine ⟨v, (GroupKept.tripBits hg s _).trans before, after.trans ?_⟩
  rw [← State.tripLevels_eq]
  exact .ledger hg _ _

/-- The flag of the group that maps the trip. -/
theorem State.groupFlag_on (hs : regsWf s.regs = true) {lv : Nat} (h : bit (s.f (F.PWM_G_TRIPMAP_MAP g)) n = true)
    (hl : bit lv n = true) : (s.groupFlag lv g).on (F.PWM_G_STAT_TRIP g) = true := by
  have mapped : andN (s.f (F.PWM_G_TRIPMAP_MAP g)) lv ≠ 0 := fun zero => by
    have := bit_andN (s.f (F.PWM_G_TRIPMAP_MAP g)) lv n
    rw [zero, h, hl, bit_eq_testBit, Nat.zero_testBit] at this
    exact absurd this (by decide)
  unfold State.groupFlag State.cond
  rw [if_pos (bne_iff_ne.mpr mapped)]
  exact State.on_setF_same hs rfl rfl 1

/-- A group's flag is a bit of its status that no other fact about the group reads. -/
theorem State.f_groupFlag (hs : regsWf s.regs = true) (lv : Nat) {x : Fld} (h : (F.PWM_G_STAT_TRIP g).apart x = true) :
    (s.groupFlag lv g).f x = s.f x := by
  unfold State.groupFlag State.cond
  split
  · exact State.f_setF_apart hs rfl h 1
  · rfl

end Trips

/-! #### The cuts of a registered trip (R183 to R190, R500) -/

section Cuts

variable {s t u : State} {g n : Nat}

/-- What a trip of input `n` at PWM clock `c` does to group `g`. -/
def State.groupCut (s : State) (n c g : Nat) : State :=
  s.cond (bit (s.f (F.PWM_G_TRIPMAP_MAP g)) n) (fun v =>
    (v.startCut g (((v.grp g).phase + c) % max (v.np g) 1)).cond (c == 0) (·.cutAtZero g))

/-- The trigger event of a trip of input `n` at PWM clock `c` (R150). -/
def State.tripTrigger (s : State) (n c : Nat) : State :=
  s.trigRaise (fun k => s.f (F.SEQ_IS_CFG_SRC k) == 5 && s.f (F.SEQ_IS_CFG_GRP k) == n) (some c)

theorem State.tripCuts_eq (s : State) (n c : Nat) :
    s.tripCuts n c = (s.tripTrigger n c).each (List.range 6) (fun t g => t.groupCut n c g) := rfl

/-- The registers that count a cut of group `g`, and its status. -/
def State.cutCounted (s : State) (g : Nat) : State :=
  ((s.setF (F.PWM_G_STAT_CUT g) 1).count (F.PWM_G_TRIPCNT g) (16 + g)).liveAdd (22 + g) 1

/-- Group `g` off from period clock `pc` on. -/
def State.phasesCut (s : State) (g pc : Nat) : State :=
  (s.switchesOff g (if pc = 0 then s.np g else pc)).setGrp g (fun q => { q with fresh := pc == 0 })

theorem State.startCut_known (h : s.on (F.PWM_G_STAT_CUT g) = true) (pc : Nat) : s.startCut g pc = s := if_pos h

theorem State.startCut_new (h : s.on (F.PWM_G_STAT_CUT g) = false) (pc : Nat) :
    s.startCut g pc = ((s.cutCounted g).zeroCarry g).phasesCut g pc := if_neg (by rw [h]; decide)

/-! What a cut keeps. -/

/-- Memory and the sequencer. -/
def State.memAdc (s : State) : List Host.Cell × Conv9 := (s.mem, s.adc)

theorem regsOnly.memAdc (h : regsOnly s t) : sameIn State.memAdc s t := sameIn.field h State.memAdc

theorem State.liveAdd_regsOnly (s : State) (i k : Nat) : regsOnly s (s.liveAdd i k) := sameIn.cond _ (regsOnly.setF s _ _)

theorem State.zeroCarry_regsOnly (s : State) (g : Nat) : regsOnly s (s.zeroCarry g) :=
  sameIn.each (fun t _ => regsOnly.setF t _ 0) _ s

theorem State.cutCounted_regsOnly (s : State) (g : Nat) : regsOnly s (s.cutCounted g) :=
  ((regsOnly.setF s _ 1).trans (State.count_regsOnly _ _ _)).trans (State.liveAdd_regsOnly _ _ _)

theorem State.startCut_memAdc (s : State) (g pc : Nat) : sameIn State.memAdc s (s.startCut g pc) := by
  cases h : s.on (F.PWM_G_STAT_CUT g) with
  | true => rw [State.startCut_known h]; exact sameIn.refl s
  | false =>
    rw [State.startCut_new h]
    have off : ∀ u : State, sameIn State.memAdc u (u.phasesCut g pc) := fun u => rfl
    exact (regsOnly.memAdc ((s.cutCounted_regsOnly g).trans (State.zeroCarry_regsOnly _ g))).trans (off _)

theorem State.groupCut_memAdc (s : State) (n c g : Nat) : sameIn State.memAdc s (s.groupCut n c g) := by
  have zero : ∀ (v : State) (pc : Nat), sameIn State.memAdc v ((v.startCut g pc).cond (c == 0) (·.cutAtZero g)) :=
    fun v pc => (v.startCut_memAdc g pc).trans (sameIn.cond (f := (·.cutAtZero g)) _ rfl)
  exact sameIn.cond (f := fun v => (v.startCut g (((v.grp g).phase + c) % max (v.np g) 1)).cond (c == 0) (·.cutAtZero g))
    _ (zero s _)

theorem State.tripCuts_memAdc (s : State) (n c : Nat) : sameIn State.memAdc (s.tripTrigger n c) (s.tripCuts n c) := by
  rw [State.tripCuts_eq]
  exact sameIn.each (fun t g => t.groupCut_memAdc n c g) _ _

/-! Where a cut is shown. -/

theorem State.liveAdd_same (s : State) (i k : Nat) : sameRegs s (s.liveAdd i k) [(F.FOL_LIVE i).addr] :=
  sameRegs.cond _ (sameRegs.setF s _ List.mem_cons_self)

theorem State.zeroCarry_sameCarries (s : State) (g : Nat) :
    sameRegs s (s.zeroCarry g) ([0, 1, 2].map (fun x => (F.PWM_G_ACT_CARRY g x).addr)) :=
  sameRegs.each_setF (F.PWM_G_ACT_CARRY g) 0 [0, 1, 2] s

theorem State.cutCounted_same (s : State) (g : Nat) : sameRegs s (s.cutCounted g) (cutRegs g ++ countRegs) := by
  refine (sameRegs.trans (sameRegs.setF s 1 ?_) ((State.count_same _ _ _).mono ?_)).trans
    ((State.liveAdd_same _ _ _).mono ?_)
  · simp [cutRegs]
  all_goals intro a ha; simp only [cutRegs, List.mem_append, List.mem_cons, List.not_mem_nil, or_false] at *
  all_goals tauto

theorem State.startCut_same (s : State) (g pc : Nat) : sameRegs s (s.startCut g pc) (cutRegs g ++ countRegs) := by
  cases h : s.on (F.PWM_G_STAT_CUT g) with
  | true => rw [State.startCut_known h]; exact sameRegs.refl s _
  | false =>
    rw [State.startCut_new h]
    have off : ∀ u : State, sameRegs u (u.phasesCut g pc) (cutRegs g ++ countRegs) := fun u => sameRegs.ofRegs rfl
    exact ((s.cutCounted_same g).trans ((State.zeroCarry_sameCarries _ g).mono
      fun a ha => List.mem_append_left _ (List.mem_append_right _ ha))).trans (off _)

theorem State.groupCut_same (s : State) (n c g : Nat) : sameRegs s (s.groupCut n c g) (cutRegs g ++ countRegs) :=
  sameRegs.cond (f := fun v => (v.startCut g (((v.grp g).phase + c) % max (v.np g) 1)).cond (c == 0) (·.cutAtZero g)) _
    ((s.startCut_same g _).trans (sameRegs.cond (f := (·.cutAtZero g)) _ (sameRegs.ofRegs rfl)))

theorem State.tripCuts_same (s : State) (n c : Nat) :
    sameRegs s (s.tripCuts n c) ((List.range 6).flatMap cutRegs ++ countRegs) := by
  rw [State.tripCuts_eq]
  have trigger : sameRegs s (s.tripTrigger n c) ((List.range 6).flatMap cutRegs ++ countRegs) := sameRegs.ofRegs rfl
  refine trigger.trans (sameRegs.each_of_mem (fun g hg t => (t.groupCut_same n c g).mono fun a ha => ?_) _)
  rcases List.mem_append.mp ha with h | h
  · exact List.mem_append_left _ (List.mem_flatMap.mpr ⟨g, hg, h⟩)
  · exact List.mem_append_right _ h

/-! The cut of another group. -/

theorem GroupKept.liveAdd (hg : g < 6) {k : Nat} (hk : k < 6) (h : k ≠ g) (s : State) :
    GroupKept g s (s.liveAdd (22 + k) 1) :=
  .cond (f := (·.add (F.FOL_LIVE (22 + k)) 1)) _ (setOther hg hk h s _ (live_mem_groupRegs k))

theorem GroupKept.tripCount (hg : g < 6) {k : Nat} (hk : k < 6) (h : k ≠ g) (s : State) :
    GroupKept g s (s.count (F.PWM_G_TRIPCNT k) (16 + k)) := by
  have counted := tripcnt_mem_groupRegs k
  exact .count hg s _ (groupRegs_apart hg hk h counted) (groupRegs_mode k hk _ counted)

theorem GroupKept.cutCounted (hg : g < 6) {k : Nat} (hk : k < 6) (h : k ≠ g) (s : State) :
    GroupKept g s (s.cutCounted k) := by
  have cut : GroupKept g s (s.setF (F.PWM_G_STAT_CUT k) 1) := .setOther hg hk h s 1 (statTrip_mem_groupRegs k)
  exact (cut.trans (.tripCount hg hk h _)).trans (.liveAdd hg hk h _)

theorem GroupKept.startCut (hg : g < 6) {k : Nat} (hk : k < 6) (h : k ≠ g) (s : State) (pc : Nat) :
    GroupKept g s (s.startCut k pc) := by
  cases hc : s.on (F.PWM_G_STAT_CUT k) with
  | true => rw [State.startCut_known hc]; exact .refl g s
  | false =>
    rw [State.startCut_new hc]
    have off : ∀ u : State, GroupKept g u (u.phasesCut k pc) := fun u =>
      (GroupKept.setGrp h.symm u _).trans (.setGrp h.symm _ _)
    exact ((cutCounted hg hk h s).trans (.zeroOther hg hk h _)).trans (off _)

theorem GroupKept.cutAtZero (s : State) (k : Nat) : GroupKept g s (s.cutAtZero k) := .same rfl rfl rfl rfl

theorem GroupKept.groupCut (hg : g < 6) {k : Nat} (hk : k < 6) (h : k ≠ g) (s : State) (n c : Nat) :
    GroupKept g s (s.groupCut n c k) :=
  .cond (f := fun v => (v.startCut k (((v.grp k).phase + c) % max (v.np k) 1)).cond (c == 0) (·.cutAtZero k)) _
    ((startCut hg hk h s _).trans (.cond (f := (·.cutAtZero k)) _ (.cutAtZero _ k)))

/-- Of group `g` a trip does its own cut and nothing else. -/
theorem State.tripCuts_group (hg : g < 6) (s : State) (n c : Nat) :
    ∃ v, GroupKept g s v ∧ GroupKept g (v.groupCut n c g) (s.tripCuts n c) := by
  rw [State.tripCuts_eq]
  obtain ⟨v, before, after⟩ := State.each_visit (R := GroupKept g) (GroupKept.refl g) (fun _ _ _ => GroupKept.trans)
    (f := fun t g => t.groupCut n c g) (List.mem_range.mpr hg) List.nodup_range
    (fun t k hk h => .groupCut hg (List.mem_range.mp hk) h t n c) (s.tripTrigger n c)
  have trigger : GroupKept g s (s.tripTrigger n c) := .same rfl rfl rfl rfl
  exact ⟨v, trigger.trans before, after⟩

/-! The group's own cut. -/

theorem carry_apart (g : Nat) (i j : Nat) (h : i ≠ j) :
    (F.PWM_G_ACT_CARRY g i).fits = true ∧ (F.PWM_G_ACT_CARRY g i).apart (F.PWM_G_ACT_CARRY g j) = true := by
  have addr : (F.PWM_G_ACT_CARRY g i).addr ≠ (F.PWM_G_ACT_CARRY g j).addr := fun e => by
    unfold F.PWM_G_ACT_CARRY at e
    dsimp only at e
    omega
  refine ⟨rfl, ?_⟩
  unfold Fld.apart
  rw [decide_eq_true addr]
  rfl

theorem State.cutCounted_cut (hs : regsWf s.regs = true) (hg : g < 6) :
    (s.cutCounted g).on (F.PWM_G_STAT_CUT g) = true := by
  have apart : ∀ g, g < 6 → (F.PWM_G_STAT_CUT g).addr ∉ (F.PWM_G_TRIPCNT g).addr :: countRegs ∧
      (F.PWM_G_STAT_CUT g).addr ∉ [(F.FOL_LIVE (22 + g)).addr] := by decide +kernel
  obtain ⟨count, live⟩ := apart g hg
  refine (State.on_of_rd ?_).trans (State.on_setF_same hs rfl rfl 1)
  exact (State.liveAdd_same _ _ _ _ live).trans (State.count_same _ _ _ _ count)

theorem State.cutCounted_tripcnt (hs : regsWf s.regs = true) (hg : g < 6) :
    (s.cutCounted g).f (F.PWM_G_TRIPCNT g) = min (s.f (F.PWM_G_TRIPCNT g) + 1) (2 ^ 32 - 1) := by
  have apart : ∀ g, g < 6 → (F.PWM_G_TRIPCNT g).addr ∉ countRegs ∧
      (F.PWM_G_TRIPCNT g).addr ∉ [(F.FOL_LIVE (22 + g)).addr] ∧
      (F.PWM_G_STAT_CUT g).apart (F.PWM_G_TRIPCNT g) = true := by decide +kernel
  obtain ⟨count, live, cut⟩ := apart g hg
  have before : (s.setF (F.PWM_G_STAT_CUT g) 1).f (F.PWM_G_TRIPCNT g) = s.f (F.PWM_G_TRIPCNT g) :=
    State.f_setF_apart hs rfl cut 1
  have added := State.f_add (State.setF_regsWf hs (F.PWM_G_STAT_CUT g) 1) (x := F.PWM_G_TRIPCNT g) rfl 1
  rw [before] at added
  refine Eq.trans ?_ added
  exact (State.f_of_rd (State.liveAdd_same _ _ _ _ live)).trans (State.f_ledger _ _ count)

theorem State.cutCounted_live (hs : regsWf s.regs = true) (hp : s.plantHeld = false) (hg : g < 6) :
    (s.cutCounted g).f (F.FOL_LIVE (22 + g)) = min (s.f (F.FOL_LIVE (22 + g)) + 1) (2 ^ 32 - 1) := by
  have apart : ∀ g, g < 6 → (F.FOL_LIVE (22 + g)).addr ∉ (F.PWM_G_TRIPCNT g).addr :: countRegs ∧
      (F.PWM_G_STAT_CUT g).apart (F.FOL_LIVE (22 + g)) = true ∧
      F.PAIR_CFG_MODE.addr ∉ (F.PWM_G_STAT_CUT g).addr :: (F.PWM_G_TRIPCNT g).addr :: countRegs := by decide +kernel
  obtain ⟨count, cut, mode⟩ := apart g hg
  unfold State.cutCounted
  have counted := State.count_same (s.setF (F.PWM_G_STAT_CUT g) 1) (F.PWM_G_TRIPCNT g) (16 + g)
  have wf : regsWf ((s.setF (F.PWM_G_STAT_CUT g) 1).count (F.PWM_G_TRIPCNT g) (16 + g)).regs = true :=
    State.ledger_regsWf (State.setF_regsWf (State.setF_regsWf hs _ _) _ _) _
  have held : ((s.setF (F.PWM_G_STAT_CUT g) 1).count (F.PWM_G_TRIPCNT g) (16 + g)).plantHeld = s.plantHeld :=
    State.plantHeld_of_rd ((counted _ fun h => mode (List.mem_cons_of_mem _ h)).trans
      (State.rd_setF_ne s 1 fun h => mode (h ▸ List.mem_cons_self)))
      (regsOnly.pwmOnly ((regsOnly.setF s _ 1).trans (State.count_regsOnly _ _ _))).boot
  have before : ((s.setF (F.PWM_G_STAT_CUT g) 1).count (F.PWM_G_TRIPCNT g) (16 + g)).f (F.FOL_LIVE (22 + g)) =
      s.f (F.FOL_LIVE (22 + g)) := (State.f_of_rd (counted _ count)).trans (State.f_setF_apart hs rfl cut 1)
  generalize (s.setF (F.PWM_G_STAT_CUT g) 1).count (F.PWM_G_TRIPCNT g) (16 + g) = t at wf held before ⊢
  rw [← before]
  unfold State.liveAdd State.cond
  rw [held, hp]
  exact State.f_add wf rfl 1

/-- The carries of a group that is told to drop them. -/
theorem State.carry_zeroCarry (hs : regsWf s.regs = true) {x : Nat} (hx : x < 3) : (s.zeroCarry g).carry g x = 0 := by
  have mem : x ∈ [0, 1, 2] := by simp only [List.mem_cons, List.not_mem_nil, or_false]; omega
  have zero : (s.zeroCarry g).f (F.PWM_G_ACT_CARRY g x) = 0 % 2 ^ 12 :=
    State.f_each_setF (fun i => rfl) (fun i j h => (carry_apart g i j h).2) 0 mem hs
  unfold State.carry
  rw [zero]
  decide

/-- What a cut leaves of group `g`: the counts and the status that follow from `s`, no carry, every switch off. -/
structure CutFrom (s t : State) (g : Nat) : Prop where
  cut : t.on (F.PWM_G_STAT_CUT g) = true
  tripcnt : t.f (F.PWM_G_TRIPCNT g) = min (s.f (F.PWM_G_TRIPCNT g) + 1) (2 ^ 32 - 1)
  live : t.f (F.FOL_LIVE (22 + g)) = min (s.f (F.FOL_LIVE (22 + g)) + 1) (2 ^ 32 - 1)
  carry : ∀ x, x < 3 → t.carry g x = 0
  off : ∀ p, p ∈ (t.grp g).ph → p.hi = false ∧ p.lo = false

theorem State.phasesCut_off (h : g < s.pwm.groups.length) (pc : Nat) :
    ∀ p, p ∈ ((s.phasesCut g pc).grp g).ph → p.hi = false ∧ p.lo = false := by
  intro p hp
  unfold State.phasesCut at hp
  rw [State.grp_setGrp_same ((s.setGrp_len g _).symm ▸ h)] at hp
  unfold State.switchesOff at hp
  rw [State.grp_setGrp_same h] at hp
  obtain ⟨q, -, rfl⟩ := List.mem_map.mp hp
  exact ⟨rfl, rfl⟩

theorem State.cutCounted_regsWf (hs : regsWf s.regs = true) (g : Nat) : regsWf (s.cutCounted g).regs = true := by
  have counted : regsWf ((s.setF (F.PWM_G_STAT_CUT g) 1).count (F.PWM_G_TRIPCNT g) (16 + g)).regs = true :=
    State.ledger_regsWf (State.setF_regsWf (State.setF_regsWf hs _ _) _ _) _
  unfold State.cutCounted State.liveAdd State.cond
  split
  · exact State.setF_regsWf counted _ _
  · exact counted

theorem State.phasesCut_rd (s : State) (g pc a : Nat) : (s.phasesCut g pc).rd a = s.rd a := rfl

/-- A cut that is counted takes the carries and switches the phases off. -/
theorem CutFrom.ofCounted (wf : regsWf t.regs = true) (len : g < t.pwm.groups.length) (hg : g < 6)
    (cut : t.on (F.PWM_G_STAT_CUT g) = true)
    (tripcnt : t.f (F.PWM_G_TRIPCNT g) = min (s.f (F.PWM_G_TRIPCNT g) + 1) (2 ^ 32 - 1))
    (live : t.f (F.FOL_LIVE (22 + g)) = min (s.f (F.FOL_LIVE (22 + g)) + 1) (2 ^ 32 - 1)) (pc : Nat) :
    CutFrom s ((t.zeroCarry g).phasesCut g pc) g := by
  have apart : ∀ g, g < 6 → ∀ a, a ∈ [(F.PWM_G_STAT_CUT g).addr, (F.PWM_G_TRIPCNT g).addr, (F.FOL_LIVE (22 + g)).addr] →
      a ∉ [0, 1, 2].map (fun x => (F.PWM_G_ACT_CARRY g x).addr) := by decide +kernel
  have kept : ∀ x : Fld, x.addr ∈ [(F.PWM_G_STAT_CUT g).addr, (F.PWM_G_TRIPCNT g).addr, (F.FOL_LIVE (22 + g)).addr] →
      ((t.zeroCarry g).phasesCut g pc).rd x.addr = t.rd x.addr := fun x hx =>
    (State.phasesCut_rd _ g pc _).trans (t.zeroCarry_sameCarries g _ (apart g hg _ hx))
  have zero : ∀ x, x < 3 → ((t.zeroCarry g).phasesCut g pc).carry g x = 0 := fun x hx => by
    unfold State.carry
    rw [State.f_of_rd (State.phasesCut_rd _ g pc _)]
    exact State.carry_zeroCarry wf hx
  have len' : g < (t.zeroCarry g).pwm.groups.length := by rw [(t.zeroCarry_regsOnly g).pwm]; exact len
  have status := State.on_of_rd (kept (F.PWM_G_STAT_CUT g) (by simp))
  have count := State.f_of_rd (kept (F.PWM_G_TRIPCNT g) (by simp))
  have counts := State.f_of_rd (kept (F.FOL_LIVE (22 + g)) (by simp))
  exact ⟨status.trans cut, count.trans tripcnt, counts.trans live, zero, State.phasesCut_off len' pc⟩

/-- A cut that starts (R185, R186, R190, R500). -/
theorem State.startCut_cutFrom (hs : regsWf s.regs = true) (hp : s.plantHeld = false) (hl : s.pwm.groups.length = 6)
    (hg : g < 6) (hc : s.on (F.PWM_G_STAT_CUT g) = false) (pc : Nat) : CutFrom s (s.startCut g pc) g := by
  rw [State.startCut_new hc]
  have len : g < (s.cutCounted g).pwm.groups.length := by rw [(s.cutCounted_regsOnly g).pwm, hl]; exact hg
  exact .ofCounted (State.cutCounted_regsWf hs g) len hg (State.cutCounted_cut hs hg) (State.cutCounted_tripcnt hs hg)
    (State.cutCounted_live hs hp hg) pc

end Cuts

section TripResults

variable {s t u : State} {g n : Nat}

theorem State.groupCut_unmapped (h : bit (s.f (F.PWM_G_TRIPMAP_MAP g)) n = false) (c : Nat) :
    s.groupCut n c g = s := by
  unfold State.groupCut
  rw [h]
  rfl

/-- The cut of a group that maps the trip; what follows it at PWM clock 0 tells nothing of the group. -/
theorem State.groupCut_mapped (h : bit (s.f (F.PWM_G_TRIPMAP_MAP g)) n = true) (c : Nat) :
    ∃ pc, GroupKept g (s.startCut g pc) (s.groupCut n c g) := by
  unfold State.groupCut
  rw [h]
  exact ⟨_, .cond (f := (·.cutAtZero g)) _ (.cutAtZero _ g)⟩

theorem GroupKept.cutFrom (h : GroupKept g t u) (k : CutFrom s t g) : CutFrom s u g :=
  ⟨(h.on (x := F.PWM_G_STAT_CUT g) (statTrip_mem_groupRegs g)).trans k.cut,
    (h.f (tripcnt_mem_groupRegs g)).trans k.tripcnt, (h.f (live_mem_groupRegs g)).trans k.live,
    fun x hx => by unfold State.carry; rw [h.f (carry_mem_groupRegs hx g)]; exact k.carry x hx, by rw [h.grp]; exact k.off⟩

/-- The cut that `u` starts from is the one that `s` starts from. -/
theorem CutFrom.ofBefore (k : CutFrom u t g) (hc : u.f (F.PWM_G_TRIPCNT g) = s.f (F.PWM_G_TRIPCNT g))
    (hl : u.f (F.FOL_LIVE (22 + g)) = s.f (F.FOL_LIVE (22 + g))) : CutFrom s t g :=
  ⟨k.cut, hc ▸ k.tripcnt, hl ▸ k.live, k.carry, k.off⟩

/-! What the flags leave of a group: all but its TRIP bit. -/

section Flagged

variable (hs : regsWf s.regs = true) (hg : g < 6)
include hs hg

theorem State.flagged_f {x : Fld} (hx : x.addr ∈ groupRegs g) (ha : (F.PWM_G_STAT_TRIP g).apart x = true) :
    (s.flagged n).f x = s.f x := by
  obtain ⟨v, before, after⟩ := s.flagged_group hg n
  exact (after.f hx).trans ((State.f_groupFlag (before.wf hs) _ ha).trans (before.f hx))

theorem State.flagged_trip (hm : bit (s.f (F.PWM_G_TRIPMAP_MAP g)) n = true) :
    (s.flagged n).on (F.PWM_G_STAT_TRIP g) = true := by
  obtain ⟨v, before, after⟩ := s.flagged_group hg n
  exact (after.on (statTrip_mem_groupRegs g)).trans
    (State.groupFlag_on (before.wf hs) ((before.f (tripmap_mem_groupRegs g)).symm ▸ hm) (bit_tripsWith s n))

theorem State.flagged_cut : (s.flagged n).on (F.PWM_G_STAT_CUT g) = s.on (F.PWM_G_STAT_CUT g) := by
  have apart : (F.PWM_G_STAT_TRIP g).apart (F.PWM_G_STAT_CUT g) = true := by
    simp [Fld.apart, F.PWM_G_STAT_CUT, F.PWM_G_STAT_TRIP]
  unfold State.on
  rw [State.flagged_f (x := F.PWM_G_STAT_CUT g) hs hg (statTrip_mem_groupRegs g) apart]

end Flagged

/-- The flag of a group is no part of its other registers. -/
theorem flagApart : ∀ g, g < 6 → (F.PWM_G_STAT_TRIP g).apart (F.PWM_G_TRIPMAP_MAP g) = true ∧
    (F.PWM_G_STAT_TRIP g).apart (F.PWM_G_TRIPCNT g) = true ∧
    (F.PWM_G_STAT_TRIP g).apart (F.FOL_LIVE (22 + g)) = true := by decide +kernel

theorem State.groupFlag_regsWf (hs : regsWf s.regs = true) (lv g : Nat) : regsWf (s.groupFlag lv g).regs = true := by
  unfold State.groupFlag State.cond
  split
  · exact State.setF_regsWf hs _ _
  · exact hs

theorem State.flagged_regsWf (hs : regsWf s.regs = true) (n : Nat) : regsWf (s.flagged n).regs = true := by
  have visit : ∀ (l : List Nat) (t : State), regsWf t.regs = true →
      regsWf (t.each l (fun t g => t.groupFlag (s.tripsWith n) g)).regs = true := by
    intro l
    induction l with
    | nil => exact fun _ h => h
    | cons k l ih =>
      exact fun t ht => ih _ (State.groupFlag_regsWf ht _ k)
  unfold State.flagged
  rw [State.tripLevels_eq]
  exact State.ledger_regsWf (visit _ _ (State.setF_regsWf (State.setF_regsWf hs _ _) _ _)) _

theorem State.flagged_held (s : State) (n : Nat) : (s.flagged n).plantHeld = s.plantHeld :=
  State.plantHeld_of_rd (s.flagged_same n _ (by decide +kernel)) (s.flagged_regsOnly n).pwmOnly.boot

/-- A cut leaves the group's TRIP bit. -/
theorem State.startCut_trip (hs : regsWf s.regs = true) (hg : g < 6) (pc : Nat) :
    (s.startCut g pc).on (F.PWM_G_STAT_TRIP g) = s.on (F.PWM_G_STAT_TRIP g) := by
  cases hc : s.on (F.PWM_G_STAT_CUT g) with
  | true => rw [State.startCut_known hc]
  | false =>
    have apart : ∀ g, g < 6 → (F.PWM_G_STAT_TRIP g).addr ∉ (F.PWM_G_TRIPCNT g).addr :: countRegs ∧
        (F.PWM_G_STAT_TRIP g).addr ∉ [(F.FOL_LIVE (22 + g)).addr] ∧
        (F.PWM_G_STAT_TRIP g).addr ∉ [0, 1, 2].map (fun x => (F.PWM_G_ACT_CARRY g x).addr) ∧
        (F.PWM_G_STAT_CUT g).apart (F.PWM_G_STAT_TRIP g) = true := by decide +kernel
    obtain ⟨count, live, carry, cut⟩ := apart g hg
    rw [State.startCut_new hc]
    have counted : (s.cutCounted g).rd (F.PWM_G_STAT_TRIP g).addr =
        (s.setF (F.PWM_G_STAT_CUT g) 1).rd (F.PWM_G_STAT_TRIP g).addr :=
      (State.liveAdd_same _ _ _ _ live).trans (State.count_same _ _ _ _ count)
    have off := (State.phasesCut_rd ((s.cutCounted g).zeroCarry g) g pc _).trans
      (State.zeroCarry_sameCarries (s.cutCounted g) g _ carry)
    exact (State.on_of_rd (off.trans counted)).trans (State.on_setF_apart hs rfl cut 1)

/-! #### The trip of input `n` at PWM clock `c` -/

/-- The state after the trip of an array that runs. -/
def State.tripped (s : State) (n c : Nat) : State := (s.flagged n).tripCuts n c

section Tripped

variable (hs : regsWf s.regs = true) (hp : s.plantHeld = false) (hg : g < 6)
include hs hg

/-- A group that maps no trip, or is cut already, starts no cut (R186). -/
theorem State.tripped_kept (c : Nat)
    (h : bit (s.f (F.PWM_G_TRIPMAP_MAP g)) n = false ∨ s.on (F.PWM_G_STAT_CUT g) = true) :
    GroupKept g (s.flagged n) (s.tripped n c) := by
  obtain ⟨v, before, after⟩ := (s.flagged n).tripCuts_group hg n c
  have map : v.f (F.PWM_G_TRIPMAP_MAP g) = s.f (F.PWM_G_TRIPMAP_MAP g) :=
    (before.f (tripmap_mem_groupRegs g)).trans (State.flagged_f hs hg (tripmap_mem_groupRegs g) (flagApart g hg).1)
  have cut : v.on (F.PWM_G_STAT_CUT g) = s.on (F.PWM_G_STAT_CUT g) :=
    (before.on (x := F.PWM_G_STAT_CUT g) (statTrip_mem_groupRegs g)).trans (State.flagged_cut hs hg)
  cases hm : bit (s.f (F.PWM_G_TRIPMAP_MAP g)) n with
  | false => rw [State.groupCut_unmapped (map ▸ hm)] at after; exact before.trans after
  | true =>
    obtain ⟨pc, kept⟩ := State.groupCut_mapped (s := v) (map ▸ hm) c
    have known : v.on (F.PWM_G_STAT_CUT g) = true := cut.trans (h.resolve_left (by simp [hm]))
    rw [State.startCut_known known] at kept
    exact before.trans (kept.trans after)

theorem State.tripped_trip (c : Nat) (hm : bit (s.f (F.PWM_G_TRIPMAP_MAP g)) n = true) :
    (s.tripped n c).on (F.PWM_G_STAT_TRIP g) = true := by
  obtain ⟨v, before, after⟩ := (s.flagged n).tripCuts_group hg n c
  have map : v.f (F.PWM_G_TRIPMAP_MAP g) = s.f (F.PWM_G_TRIPMAP_MAP g) :=
    (before.f (tripmap_mem_groupRegs g)).trans (State.flagged_f hs hg (tripmap_mem_groupRegs g) (flagApart g hg).1)
  obtain ⟨pc, kept⟩ := State.groupCut_mapped (s := v) (map ▸ hm) c
  have wf : regsWf v.regs = true := before.wf (State.flagged_regsWf hs n)
  exact ((kept.trans after).on (statTrip_mem_groupRegs g)).trans ((State.startCut_trip wf hg pc).trans
    ((before.on (statTrip_mem_groupRegs g)).trans (State.flagged_trip hs hg hm)))

include hp

/-- A group that maps the trip and is not cut yet is cut (R183 to R190). -/
theorem State.tripped_cut (hl : s.pwm.groups.length = 6) (c : Nat)
    (hm : bit (s.f (F.PWM_G_TRIPMAP_MAP g)) n = true) (hc : s.on (F.PWM_G_STAT_CUT g) = false) :
    CutFrom s (s.tripped n c) g := by
  obtain ⟨v, before, after⟩ := (s.flagged n).tripCuts_group hg n c
  obtain ⟨mapApart, countApart, liveApart⟩ := flagApart g hg
  have fld := fun (x : Fld) (hx : x.addr ∈ groupRegs g) (ha : (F.PWM_G_STAT_TRIP g).apart x = true) =>
    (before.f hx).trans (State.flagged_f (n := n) hs hg hx ha)
  have cut : v.on (F.PWM_G_STAT_CUT g) = s.on (F.PWM_G_STAT_CUT g) :=
    (before.on (x := F.PWM_G_STAT_CUT g) (statTrip_mem_groupRegs g)).trans (State.flagged_cut hs hg)
  obtain ⟨pc, kept⟩ := State.groupCut_mapped (s := v) (fld _ (tripmap_mem_groupRegs g) mapApart ▸ hm) c
  have held : v.plantHeld = false := before.held.trans ((State.flagged_held s n).trans hp)
  have len : v.pwm.groups.length = 6 := before.len.trans (by rw [(s.flagged_regsOnly n).pwm, hl])
  have wf : regsWf v.regs = true := before.wf (State.flagged_regsWf hs n)
  have fresh := State.startCut_cutFrom wf held len hg (cut.trans hc) pc
  exact (kept.trans after).cutFrom (fresh.ofBefore (fld _ (tripcnt_mem_groupRegs g) countApart)
    (fld _ (live_mem_groupRegs g) liveApart))

end Tripped

/-! #### What else a trip changes -/

/-- The trip's trigger reaches the sequences that wait for it (R150). -/
theorem State.iseq_tripTrigger (hl : s.adc.seqs.length = 8) (c : Nat) {k : Nat} (hk : k < 8) :
    ((s.tripTrigger n c).iseq k).req = if s.f (F.SEQ_IS_CFG_SRC k) = 5 ∧ s.f (F.SEQ_IS_CFG_GRP k) = n then
      (s.iseq k).req ++ [some ((c + s.f (F.SEQ_IS_CFG_DELAY k) : Nat) : Int)] else (s.iseq k).req := by
  have hk' : k < s.adc.seqs.length := hl ▸ hk
  unfold State.tripTrigger State.trigRaise State.iseq
  dsimp only
  rw [List.getD_eq_getElem _ _ (by simpa using hk'), List.getD_eq_getElem _ _ hk', List.getElem_map, List.getElem_zipIdx]
  simp only [Nat.zero_add, Bool.and_eq_true, beq_iff_eq]
  split <;> rfl

theorem State.iseq_tripped (hl : s.adc.seqs.length = 8) (c : Nat) {k : Nat} (hk : k < 8) :
    ((s.tripped n c).iseq k).req = if s.f (F.SEQ_IS_CFG_SRC k) = 5 ∧ s.f (F.SEQ_IS_CFG_GRP k) = n then
      (s.iseq k).req ++ [some ((c + s.f (F.SEQ_IS_CFG_DELAY k) : Nat) : Int)] else (s.iseq k).req := by
  have cfg : ∀ k, k < 8 → (F.SEQ_IS_CFG_SRC k).addr ∉
      F.PWM_STAT_TRIPIN.addr :: F.PWM_TRIPFLAG_FLAG.addr :: statRegs ++ countRegs := by decide +kernel
  have rd := s.flagged_same n _ (cfg k hk)
  have src : (s.flagged n).f (F.SEQ_IS_CFG_SRC k) = s.f (F.SEQ_IS_CFG_SRC k) := State.f_of_rd rd
  have grp : (s.flagged n).f (F.SEQ_IS_CFG_GRP k) = s.f (F.SEQ_IS_CFG_GRP k) := State.f_of_rd rd
  have delay : (s.flagged n).f (F.SEQ_IS_CFG_DELAY k) = s.f (F.SEQ_IS_CFG_DELAY k) := State.f_of_rd rd
  have adc := (s.flagged_regsOnly n).adc
  have seqs : (s.flagged n).iseq k = s.iseq k := by unfold State.iseq; rw [adc]
  have rest : (s.tripped n c).iseq k = ((s.flagged n).tripTrigger n c).iseq k := by
    have same : (s.tripped n c).adc = ((s.flagged n).tripTrigger n c).adc :=
      sameIn.field ((s.flagged n).tripCuts_memAdc n c) Prod.snd
    unfold State.iseq
    rw [same]
  rw [rest, State.iseq_tripTrigger (by rw [adc, hl]) c hk, src, grp, delay, seqs]

theorem State.tripped_mem (s : State) (n c : Nat) : (s.tripped n c).mem = s.mem :=
  (sameIn.field ((s.flagged n).tripCuts_memAdc n c) Prod.fst).trans (s.flagged_regsOnly n).pwmOnly.mem

/-- Where a trip of an array that runs is shown. -/
theorem State.tripped_same (s : State) (n c : Nat) : sameRegs s (s.tripped n c)
    (F.PWM_STAT_TRIPIN.addr :: F.PWM_TRIPFLAG_FLAG.addr :: statRegs ++ ((List.range 6).flatMap cutRegs ++ countRegs)) := by
  refine ((s.flagged_same n).mono ?_).trans ((State.tripCuts_same _ n c).mono ?_)
  all_goals intro a ha; simp only [List.mem_append, List.mem_cons] at *
  all_goals tauto

theorem State.tripped_outside (s : State) (n c : Nat) {a : Nat} (ha : a < 0x40040000 ∨ 0x40050000 ≤ a)
    (hc : a ∉ countRegs) (hl : ∀ g, g < 6 → a ≠ (F.FOL_LIVE (22 + g)).addr) : (s.tripped n c).rd a = s.rd a := by
  have inside : ∀ a, a ∈ F.PWM_STAT_TRIPIN.addr :: F.PWM_TRIPFLAG_FLAG.addr :: statRegs ++
      ((List.range 6).flatMap cutRegs ++ countRegs) → 0x40040000 ≤ a ∧ a < 0x40050000 ∨ a ∈ countRegs ∨
        a ∈ (List.range 6).map (fun g => (F.FOL_LIVE (22 + g)).addr) := by decide +kernel
  refine s.tripped_same n c a fun h => ?_
  rcases inside a h with h | h | h
  · omega
  · exact hc h
  · obtain ⟨g, hg, e⟩ := List.mem_map.mp h
    exact hl g (List.mem_range.mp hg) e.symm

/-- The trip inputs' own bits stand after the cuts. -/
theorem State.tripped_bits (s : State) (n c : Nat) :
    (s.tripped n c).f F.PWM_STAT_TRIPIN = (s.flagged n).f F.PWM_STAT_TRIPIN ∧
    (s.tripped n c).f F.PWM_TRIPFLAG_FLAG = (s.flagged n).f F.PWM_TRIPFLAG_FLAG :=
  ⟨State.f_of_rd (State.tripCuts_same _ n c _ (by decide +kernel)),
    State.f_of_rd (State.tripCuts_same _ n c _ (by decide +kernel))⟩

theorem State.flagged_pwmOn (s : State) (n : Nat) : (s.flagged n).pwmOn = s.pwmOn := by
  unfold State.pwmOn
  rw [s.flagged_held n, (s.flagged_regsOnly n).pwmOnly.boot]

/-- A trip of an array that runs (R150, R183 to R190, R500). -/
theorem trip_running (n : Fin 8) (c : BitVec 16) (hs : s.wf = true) (hl : s.pwm.groups.length = 6)
    (hq : s.adc.seqs.length = 8) (hp : s.portLive = true) (hh : s.halted = false) (ho : s.pwmOn = true) :
    ∃ t, exec (.tripRegistered n c) s = .next t ∧ bit (t.f F.PWM_TRIPFLAG_FLAG) n = true ∧
      bit (t.f F.PWM_STAT_TRIPIN) n = true ∧
      (∀ g, g < 6 → bit (s.f (F.PWM_G_TRIPMAP_MAP g)) n = true → t.on (F.PWM_G_STAT_TRIP g) = true ∧
        t.on (F.PWM_G_STAT_CUT g) = true) ∧
      (∀ g, g < 6 → bit (s.f (F.PWM_G_TRIPMAP_MAP g)) n = true → s.on (F.PWM_G_STAT_CUT g) = false → CutFrom s t g) ∧
      (∀ g, g < 6 → (bit (s.f (F.PWM_G_TRIPMAP_MAP g)) n = false ∨ s.on (F.PWM_G_STAT_CUT g) = true) →
        t.on (F.PWM_G_STAT_CUT g) = s.on (F.PWM_G_STAT_CUT g) ∧
          t.rd (F.PWM_G_TRIPCNT g).addr = s.rd (F.PWM_G_TRIPCNT g).addr) ∧
      (∀ k, k < 8 → (t.iseq k).req =
        if s.f (F.SEQ_IS_CFG_SRC k) = 5 ∧ s.f (F.SEQ_IS_CFG_GRP k) = n.val then (s.iseq k).req ++
          [some ((c.toNat + s.f (F.SEQ_IS_CFG_DELAY k) : Nat) : Int)] else (s.iseq k).req) ∧
      (∀ a, (a < 0x40040000 ∨ 0x40050000 ≤ a) → a ∉ countRegs →
        (∀ g, g < 6 → a ≠ (F.FOL_LIVE (22 + g)).addr) → t.rd a = s.rd a) ∧ sameMem s t := by
  have wf := State.wf_regs hs
  have held : s.plantHeld = false := by
    unfold State.pwmOn at ho
    rw [Bool.and_eq_true, Bool.not_eq_true'] at ho
    exact ho.2
  obtain ⟨live, sticky⟩ := s.tripped_bits n c.toNat
  have kept := fun g (hg : g < 6) h => State.tripped_kept (n := n) wf hg c.toNat h
  have cuts := fun g (hg : g < 6) hm hc => State.tripped_cut (n := n) wf held hg hl c.toNat hm hc
  have cutKept : ∀ g, g < 6 → bit (s.f (F.PWM_G_TRIPMAP_MAP g)) n = false ∨ s.on (F.PWM_G_STAT_CUT g) = true →
      (s.tripped n c.toNat).on (F.PWM_G_STAT_CUT g) = s.on (F.PWM_G_STAT_CUT g) := fun g hg h =>
    ((kept g hg h).on (x := F.PWM_G_STAT_CUT g) (statTrip_mem_groupRegs g)).trans (State.flagged_cut wf hg)
  refine ⟨s.tripped n c.toNat, ?_, ?_, ?_, fun g hg hm => ⟨State.tripped_trip wf hg c.toNat hm, ?_⟩, cuts,
    fun g hg h => ⟨cutKept g hg h, ?_⟩, fun k hk => State.iseq_tripped hq c.toNat hk,
    fun a => s.tripped_outside n c.toNat, sameMem.ofMem (s.tripped_mem n c.toNat)⟩
  · rw [exec_tripRegistered n c hp hh held, s.flagged_pwmOn n, ho]
    rfl
  · rw [sticky, State.flagged_tripflag wf n.isLt, bit_orN, bit_tripsWith, Bool.or_true]
  · rw [live, State.flagged_tripin wf n.isLt, bit_tripsWith]
  · cases hc : s.on (F.PWM_G_STAT_CUT g) with
    | false => exact (cuts g hg hm hc).cut
    | true => exact (cutKept g hg (.inr hc)).trans hc
  · have apart : ∀ g, g < 6 → (F.PWM_G_TRIPCNT g).addr ∉
        F.PWM_STAT_TRIPIN.addr :: F.PWM_TRIPFLAG_FLAG.addr :: statRegs ++ countRegs := by decide +kernel
    exact ((kept g hg h).regs _ (tripcnt_mem_groupRegs g)).trans (s.flagged_same n _ (apart g hg))

/-- A trip while the frame counter stands: the flags and nothing else (log entry 141). -/
theorem trip_standing (n : Fin 8) (c : BitVec 16) (hs : s.wf = true) (hp : s.portLive = true) (hh : s.halted = false)
    (hc : s.plantHeld = false) (hb : s.boot.counting = false) :
    ∃ t, exec (.tripRegistered n c) s = .next t ∧ t.f F.PWM_STAT_TRIPIN = orN (s.f F.PWM_STAT_TRIPIN) (2 ^ n.val) ∧
      t.f F.PWM_TRIPFLAG_FLAG = orN (s.f F.PWM_TRIPFLAG_FLAG) (t.f F.PWM_STAT_TRIPIN) ∧ t.pwm = s.pwm ∧ t.adc = s.adc ∧
      (∀ g, g < 6 → t.on (F.PWM_G_STAT_CUT g) = s.on (F.PWM_G_STAT_CUT g)) ∧
      sameRegs s t (F.PWM_STAT_TRIPIN.addr :: F.PWM_TRIPFLAG_FLAG.addr ::
        (List.range 6).map (fun g => (F.PWM_G_STAT_TRIP g).addr) ++ countRegs) ∧ sameMem s t := by
  have wf := State.wf_regs hs
  have off : s.pwmOn = false := by unfold State.pwmOn; rw [hb]; rfl
  have kept := s.flagged_regsOnly n
  have live := State.flagged_tripin wf n.isLt
  refine ⟨s.flagged n, ?_, live, ?_, kept.pwm, kept.adc, fun g hg => State.flagged_cut wf hg, s.flagged_same n,
    sameMem.ofMem kept.pwmOnly.mem⟩
  · rw [exec_tripRegistered n c hp hh hc, s.flagged_pwmOn n, off]
    rfl
  · rw [live, State.flagged_tripflag wf n.isLt]

end TripResults

/-! #### A source asserts the safe-state bus (R55, R192, R193) -/

section Bus

variable {s t u : State} {g c : Nat} {src : SafeSource}

theorem exec_safeStateAssert (h : s.boot.stage ≠ .reset) : exec (.safeStateAssert src) s = .next (s.safeAssert src) := by
  have run : exec (.safeStateAssert src) s = execSafeStateAssert src s := rfl
  rw [run, execSafeStateAssert, if_neg h]

theorem State.withSource_new (h : src ∉ s.safe.srcs) :
    s.withSource src = { s with safe := { s.safe with srcs := src :: s.safe.srcs, held := true } } :=
  if_neg fun k => h (List.contains_iff_mem.mp k)

/-- The bus once `src` is among its sources, and SAFE shows it. -/
def State.sourced (s : State) (src : SafeSource) : State := (s.withSource src).showSafe

theorem State.sourced_safe (h : src ∉ s.safe.srcs) :
    (s.sourced src).safe.srcs = src :: s.safe.srcs ∧ (s.sourced src).safe.held = true := by
  unfold State.sourced
  rw [(State.showSafe_pwmOnly _).safe, State.withSource_new h]
  exact ⟨rfl, rfl⟩

theorem State.withSource_pwm (s : State) (src : SafeSource) : (s.withSource src).pwm = s.pwm := by
  unfold State.withSource
  split <;> rfl

theorem State.sourced_pwm (s : State) (src : SafeSource) : (s.sourced src).pwm = s.pwm :=
  (State.showSafe_regsOnly _).pwm.trans (s.withSource_pwm src)

theorem State.sourced_boot (s : State) (src : SafeSource) : (s.sourced src).boot = s.boot :=
  (State.showSafe_pwmOnly _).boot.trans (s.withSource_boot src)

theorem State.sourced_mem (s : State) (src : SafeSource) : (s.sourced src).mem = s.mem :=
  (State.showSafe_pwmOnly _).mem.trans (s.withSource_mem src)

theorem State.sourced_same (s : State) (src : SafeSource) : sameRegs s (s.sourced src) [F.PWM_STAT_SAFE.addr] :=
  (sameRegs.ofRegs (s.withSource_regs src)).trans (State.showSafe_same _)

theorem State.withSource_held (s : State) (src : SafeSource) : (s.withSource src).plantHeld = s.plantHeld :=
  State.plantHeld_of_rd (sameRegs.ofRegs (l := []) (s.withSource_regs src) _ List.not_mem_nil) (s.withSource_boot src)

theorem State.sourced_held (s : State) (src : SafeSource) : (s.sourced src).plantHeld = s.plantHeld :=
  State.plantHeld_of_rd (s.sourced_same src _ (by decide)) (s.sourced_boot src)

/-- SAFE shows whether a source asserts the bus (R55). -/
theorem State.showSafe_on (hs : regsWf s.regs = true) (hp : s.plantHeld = false) :
    s.showSafe.on F.PWM_STAT_SAFE = !s.safe.srcs.isEmpty := by
  unfold State.showSafe State.cond
  rw [hp]
  refine (State.on_setF_same hs rfl rfl _).trans ?_
  cases s.safe.srcs.isEmpty <;> rfl

theorem State.showSafe_held (hp : s.plantHeld = true) : s.showSafe = s := by
  unfold State.showSafe
  rw [hp]
  rfl

theorem State.showSafe_regsWf (hs : regsWf s.regs = true) : regsWf s.showSafe.regs = true := by
  unfold State.showSafe State.cond
  split
  · exact State.setF_regsWf hs _ _
  · exact hs

theorem State.sourced_regsWf (hs : regsWf s.regs = true) (src : SafeSource) : regsWf (s.sourced src).regs = true :=
  State.showSafe_regsWf (by rw [s.withSource_regs src]; exact hs)

theorem State.sourced_on (hs : regsWf s.regs = true) (hp : s.plantHeld = false) (h : src ∉ s.safe.srcs) :
    (s.sourced src).on F.PWM_STAT_SAFE = true := by
  have shown := State.showSafe_on (s := s.withSource src) (by rw [s.withSource_regs src]; exact hs)
    ((s.withSource_held src).trans hp)
  rw [State.withSource_new h] at shown
  unfold State.sourced
  rw [State.withSource_new h]
  exact shown

theorem State.safeAssert_first (h : s.safe.srcs = []) :
    s.safeAssert src = (s.sourced src).outputsSafe.ledger 48 := by
  rw [State.safeAssert_new (by rw [h]; rfl), h]
  rfl

theorem State.safeAssert_further (h : s.safe.srcs ≠ []) (hm : src ∉ s.safe.srcs) :
    s.safeAssert src = s.sourced src := by
  have new : s.safe.srcs.contains src = false := Bool.eq_false_iff.mpr fun k => hm (List.contains_iff_mem.mp k)
  rw [State.safeAssert_new new, if_neg (by simpa using h)]
  rfl

/-- A further source is added and shown, and nothing else changes. -/
theorem safeAssert_adds (hs : s.wf = true) (hb : s.boot.stage ≠ .reset) (hn : s.safe.srcs ≠ []) (hm : src ∉ s.safe.srcs)
    (hp : s.plantHeld = false) :
    ∃ t, exec (.safeStateAssert src) s = .next t ∧ t.safe.held = true ∧ t.safe.srcs = src :: s.safe.srcs ∧
      t.on F.PWM_STAT_SAFE = true ∧ t.pwm = s.pwm ∧ sameRegs s t [F.PWM_STAT_SAFE.addr] ∧ sameMem s t := by
  obtain ⟨srcs, held⟩ := State.sourced_safe hm
  exact ⟨_, (exec_safeStateAssert hb).trans (congrArg _ (State.safeAssert_further hn hm)), held, srcs,
    State.sourced_on (State.wf_regs hs) hp hm, s.sourced_pwm src, s.sourced_same src, sameMem.ofMem (s.sourced_mem src)⟩

/-! #### A Curator has no outputs to force (log entry 123) -/

theorem State.groupForce_held (h : s.plantHeld = true) : s.groupForce g = s := if_pos h

theorem State.gpEnabled_held (h : s.plantHeld = true) : s.gpEnabled c = false := by
  unfold State.plantHeld at h
  rw [Bool.and_eq_true] at h
  have mode : (s.f F.PAIR_CFG_MODE != 2) = false := by
    have curator : (s.f F.PAIR_CFG_MODE == 2) = true := h.1
    unfold bne
    rw [curator]
    rfl
  unfold State.gpEnabled State.drivesPins State.unitKnown
  rw [mode]
  simp

theorem State.each_id {α : Type} {f : State → α → State} {l : List α} (h : ∀ x, f s x = s) : s.each l f = s := by
  induction l with
  | nil => rfl
  | cons x l ih =>
    unfold State.each at ih ⊢
    rw [List.foldl_cons, h x, ih]

theorem State.outputsSafe_held (h : s.plantHeld = true) : s.outputsSafe = s := by
  unfold State.outputsSafe
  rw [State.each_id fun g => State.groupForce_held h]
  exact State.each_id fun c => by rw [State.gpEnabled_held h]; rfl

/-- The bus of a Curator: the source and the count. -/
theorem safeAssert_curator (hb : s.boot.stage ≠ .reset) (hm : src ∉ s.safe.srcs) (hp : s.plantHeld = true) :
    ∃ t, exec (.safeStateAssert src) s = .next t ∧ t.safe.held = true ∧ t.safe.srcs = src :: s.safe.srcs ∧
      t.pwm = s.pwm ∧ sameRegs s t countRegs ∧ sameMem s t := by
  have regs : (s.sourced src).regs = s.regs := by
    unfold State.sourced
    rw [State.showSafe_held ((s.withSource_held src).trans hp), s.withSource_regs src]
  obtain ⟨srcs, held⟩ := State.sourced_safe hm
  have shown : sameRegs s (s.sourced src) countRegs := sameRegs.ofRegs regs
  refine ⟨_, exec_safeStateAssert hb, ?_⟩
  by_cases hn : s.safe.srcs = []
  · have counted := (s.sourced src).ledger_regsOnly 48
    rw [State.safeAssert_first hn, State.outputsSafe_held ((s.sourced_held src).trans hp)]
    refine ⟨?_, ?_, counted.pwm.trans (s.sourced_pwm src), shown.trans (State.ledger_same _ 48),
      sameMem.ofMem (counted.pwmOnly.mem.trans (s.sourced_mem src))⟩
    · rw [counted.pwmOnly.safe, held]
    · rw [counted.pwmOnly.safe, srcs]
  · rw [State.safeAssert_further hn hm]
    exact ⟨held, srcs, s.sourced_pwm src, shown, sameMem.ofMem (s.sourced_mem src)⟩

/-- A source that asserts the bus already changes nothing. -/
theorem safeAssert_again (h : src ∈ s.safe.srcs) : exec (.safeStateAssert src) s = .next s := by
  have run : exec (.safeStateAssert src) s = execSafeStateAssert src s := rfl
  rw [run, execSafeStateAssert, State.safeAssert_known (List.contains_iff_mem.mpr h), ite_self]

/-! #### A release, and the tick that ends the safe values (R55, R195) -/

theorem safeRelease_shown (hs : s.wf = true) (hc : s.sourceStands src = false) (hp : s.plantHeld = false) :
    ∃ t, exec (.safeStateRelease src) s = .next t ∧ (∀ x, x ∈ t.safe.srcs ↔ x ∈ s.safe.srcs ∧ x ≠ src) ∧
      t.on F.PWM_STAT_SAFE = !t.safe.srcs.isEmpty ∧ t.safe.held = s.safe.held ∧ t.pwm = s.pwm ∧
      sameRegs s t [F.PWM_STAT_SAFE.addr] ∧ sameMem s t := by
  have run : exec (.safeStateRelease src) s = execSafeStateRelease src s := rfl
  have released : ∀ l, ({ s with safe := { s.safe with srcs := l } } : State).showSafe.on F.PWM_STAT_SAFE =
      !({ s with safe := { s.safe with srcs := l } } : State).showSafe.safe.srcs.isEmpty := fun l => by
    rw [(State.showSafe_pwmOnly _).safe]
    exact State.showSafe_on (State.wf_regs hs) hp
  have held : (s.safeRelease src).safe.held = s.safe.held := by
    unfold State.safeRelease
    rw [(State.showSafe_pwmOnly _).safe]
  refine ⟨s.safeRelease src, ?_, s.mem_safeRelease src, released _, held, (State.showSafe_regsOnly _).pwm,
    s.safeRelease_same src, sameMem.ofMem (s.safeRelease_mem src)⟩
  rw [run, execSafeStateRelease, hc]
  rfl

theorem State.zeroCarry_safe (s : State) (g : Nat) : sameIn State.safe s (s.zeroCarry g) :=
  (s.zeroCarry_regsOnly g).pwmOnly.safe

theorem State.setWidth_safe (s : State) (g x w : Nat) : sameIn State.safe s (s.setWidth g x w) := by
  unfold sameIn State.setWidth State.setPh
  rw [State.setGrp_safe, State.setF_safe]

theorem State.regroup_safe (s : State) (g : Nat) : sameIn State.safe s (s.regroup g) := by
  unfold State.regroup
  dsimp only
  refine sameIn.ite (sameIn.refl s) (sameIn.trans ?_ (sameIn.each (fun t x => t.setWidth_safe g x _) _ _))
  refine sameIn.trans ?_ (State.zeroCarry_safe _ g)
  exact State.setGrp_safe _ _ _

theorem State.rechannel_safe (s : State) (c : Nat) : sameIn State.safe s (s.rechannel c) := by
  unfold State.rechannel
  dsimp only
  refine sameIn.ite (sameIn.refl s) ?_
  unfold sameIn
  rw [State.setF_safe, State.setGpc_safe]

theorem State.cutAtZero_safe (s : State) (g : Nat) : sameIn State.safe s (s.cutAtZero g) := rfl

theorem State.gpSafeTick_safe (s : State) : sameIn State.safe s s.gpSafeTick :=
  sameIn.each (fun _ c => sameIn.cond (f := fun u => u.setGpc c
    (fun q => { q with live := false, safe := true, pin := u.gpSafeLevel c q.phase })) _ (State.setGpc_safe _ _ _)) _ s

/-- The work of a tick before the bus's own. -/
def State.pwmNew (s : State) : State :=
  (((s.each (List.range 6) (·.regroup ·)).each (List.range 32) (·.rechannel ·)).carriersAnew.each (List.range 6)
    (·.cutAtZero ·))

theorem State.pwmNew_safe (s : State) : s.pwmNew.safe = s.safe := by
  have groups := sameIn.each (fun t g => t.regroup_safe g) (List.range 6) s
  have channels := fun t : State => sameIn.each (fun t c => t.rechannel_safe c) (List.range 32) t
  have carriers : ∀ t : State, sameIn State.safe t t.carriersAnew := fun t =>
    sameIn.each (fun u g => State.setGrp_safe _ _ _) _ t
  have cuts : ∀ t : State, sameIn State.safe t (t.each (List.range 6) (·.cutAtZero ·)) := fun t =>
    sameIn.each (fun u g => u.cutAtZero_safe g) _ t
  exact ((groups.trans (channels _)).trans (carriers _)).trans (cuts _)

/-- The end of the safe values when no source asserts the bus (R55). -/
def State.endSafe (s : State) : State :=
  if s.safe.srcs.isEmpty then { s with safe := { s.safe with held := false, ticks := 0 } }
  else { s with safe := { s.safe with ticks := min (s.safe.ticks + 1) 2 } }

theorem State.endSafe_held (s : State) :
    s.endSafe.safe.held = if s.safe.srcs.isEmpty then false else s.safe.held := by
  unfold State.endSafe
  split <;> rfl

theorem State.pwmTick_held (s : State) :
    s.pwmTick.safe.held = if s.safe.srcs.isEmpty then false else s.safe.held := by
  have kept : ∀ b : Bool, (s.pwmNew.cond b (·.gpSafeTick)).safe = s.safe := fun b =>
    Eq.trans (sameIn.cond (f := (·.gpSafeTick)) b (State.gpSafeTick_safe _)) s.pwmNew_safe
  have eq : s.pwmTick = (s.pwmNew.cond s.pwmNew.safe.held (·.gpSafeTick)).endSafe := rfl
  rw [eq, State.endSafe_held, kept]

end Bus

/-! #### The first source forces the outputs (R55, R192, R193) -/

section Force

variable {s t u : State} {g c : Nat} {src : SafeSource}

theorem State.groupQuiet_of_srcs (h : s.safe.srcs ≠ []) (g : Nat) : s.groupQuiet g = true := by
  unfold State.groupQuiet
  have empty : s.safe.srcs.isEmpty = false := by simpa using h
  rw [empty]
  rfl

/-- Group `g` with every switch off, to resume at no edge. -/
def State.phasesForced (s : State) (g : Nat) : State := s.free.2.switchesOff g (s.offClock g)

theorem State.groupForce_safe (hp : s.plantHeld = false) (hn : s.safe.srcs ≠ []) (g : Nat) : s.groupForce g =
    (((s.phasesForced g).zeroCarry g).setGrp g (fun q => { q with live := false })).setF (F.PWM_G_STAT_FORCED g) 1 := by
  have quiet : (s.phasesForced g).groupQuiet g = true := State.groupQuiet_of_srcs (s := s.phasesForced g) hn g
  have forced : s.groupForce g = if s.plantHeld then s else
      (((s.phasesForced g).cond ((s.phasesForced g).groupQuiet g) (·.zeroCarry g)).setGrp g
        (fun q => { q with live := false })).setF (F.PWM_G_STAT_FORCED g) 1 := rfl
  rw [forced, hp, quiet]
  rfl

/-- Group `g` is forced off: shown, no carry, every switch off until a valley. -/
structure ForcedOff (t : State) (g : Nat) : Prop where
  shown : t.on (F.PWM_G_STAT_FORCED g) = true
  live : (t.grp g).live = false
  carry : ∀ x, x < 3 → t.carry g x = 0
  off : ∀ p, p ∈ (t.grp g).ph → p.hi = false ∧ p.lo = false

theorem GroupKept.forcedOff (h : GroupKept g s t) (k : ForcedOff s g) : ForcedOff t g :=
  ⟨(h.on (x := F.PWM_G_STAT_FORCED g) (statTrip_mem_groupRegs g)).trans k.shown, by rw [h.grp]; exact k.live,
    fun x hx => by unfold State.carry; rw [h.f (carry_mem_groupRegs hx g)]; exact k.carry x hx, by rw [h.grp]; exact k.off⟩

theorem State.phasesForced_off (h : g < s.pwm.groups.length) :
    ∀ p, p ∈ ((s.phasesForced g).grp g).ph → p.hi = false ∧ p.lo = false := by
  intro p hp
  unfold State.phasesForced State.switchesOff at hp
  rw [State.grp_setGrp_same (s := s.free.2) h] at hp
  obtain ⟨q, -, rfl⟩ := List.mem_map.mp hp
  exact ⟨rfl, rfl⟩

theorem State.phasesForced_len (s : State) (g : Nat) :
    (s.phasesForced g).pwm.groups.length = s.pwm.groups.length := s.free.2.setGrp_len g _

theorem State.phasesForced_regsWf (hs : regsWf s.regs = true) (g : Nat) : regsWf (s.phasesForced g).regs = true := hs

theorem State.grp_of_pwm (h : t.pwm = s.pwm) (g : Nat) : t.grp g = s.grp g := by
  unfold State.grp
  rw [h]

theorem State.zeroCarry_regsWf (hs : regsWf s.regs = true) (g : Nat) : regsWf (s.zeroCarry g).regs = true :=
  State.setF_regsWf (State.setF_regsWf (State.setF_regsWf hs _ 0) _ 0) _ 0

/-- What the force leaves of the group once its switches and carries are off. -/
theorem State.unlive_forcedOff (hs : regsWf s.regs = true) (hg : g < 6) (hl : g < s.pwm.groups.length)
    (hc : ∀ x, x < 3 → s.carry g x = 0) (ho : ∀ p, p ∈ (s.grp g).ph → p.hi = false ∧ p.lo = false) :
    ForcedOff ((s.setGrp g (fun q => { q with live := false })).setF (F.PWM_G_STAT_FORCED g) 1) g := by
  have apart : ∀ g, g < 6 → ∀ x, x < 3 → (F.PWM_G_ACT_CARRY g x).addr ≠ (F.PWM_G_STAT_FORCED g).addr := by decide +kernel
  have group : ((s.setGrp g (fun q => { q with live := false })).setF (F.PWM_G_STAT_FORCED g) 1).grp g =
      { s.grp g with live := false } :=
    (State.grp_of_pwm (regsOnly.setF (s.setGrp g (fun q => { q with live := false })) _ 1).pwm g).trans
      (State.grp_setGrp_same hl _)
  refine ⟨State.on_setF_same (s := s.setGrp g (fun q => { q with live := false })) hs rfl rfl 1, ?_, fun x hx => ?_, ?_⟩
  · rw [group]
  · unfold State.carry
    rw [State.f_of_rd (State.rd_setF_ne _ 1 (apart g hg x hx))]
    exact hc x hx
  · rw [group]
    exact ho

theorem State.groupForce_forcedOff (hs : regsWf s.regs = true) (hp : s.plantHeld = false) (hn : s.safe.srcs ≠ [])
    (hl : s.pwm.groups.length = 6) (hg : g < 6) : ForcedOff (s.groupForce g) g := by
  rw [State.groupForce_safe hp hn]
  have wf := State.phasesForced_regsWf hs g
  have off := State.phasesForced_off (s := s) (g := g) (hl ▸ hg)
  have len := s.phasesForced_len g
  generalize s.phasesForced g = v at wf off len ⊢
  have pwm := (v.zeroCarry_regsOnly g).pwm
  refine State.unlive_forcedOff (State.zeroCarry_regsWf wf g) hg ?_ (fun x hx => State.carry_zeroCarry wf hx) ?_
  · rw [pwm, len, hl]; exact hg
  · rw [State.grp_of_pwm pwm]; exact off

/-! The other groups and the channels. -/

theorem GroupKept.groupForce (hg : g < 6) {k : Nat} (hk : k < 6) (h : k ≠ g) (s : State) :
    GroupKept g s (s.groupForce k) := by
  unfold State.groupForce
  have free : GroupKept g s s.free.2 := .same rfl rfl rfl rfl
  have off : GroupKept g s (s.free.2.switchesOff k (s.offClock k)) := free.trans (.setGrp h.symm _ _)
  refine .ite (.refl g s) ?_
  generalize s.free.2.switchesOff k (s.offClock k) = v at off ⊢
  have carries : GroupKept g v (v.cond (v.groupQuiet k) (·.zeroCarry k)) := .cond _ (.zeroOther hg hk h v)
  have stopped : ∀ u : State, GroupKept g u (u.setGrp k (fun q => { q with live := false })) := fun u => .setGrp h.symm u _
  exact ((off.trans carries).trans (stopped _)).trans
    (.setOther hg hk h _ 1 (x := F.PWM_G_STAT_FORCED k) (statTrip_mem_groupRegs k))

theorem GroupKept.gpShow (s : State) (c : Nat) : GroupKept g s (s.gpShow c) := by
  have used : ∀ b : Bool, GroupKept g s (s.cond b (·.free.2)) := fun b => .cond b (.same rfl rfl rfl rfl)
  have shown : ∀ (t : State) (f : GpChan → GpChan), GroupKept g t (t.setGpc c f) := fun t f =>
    ⟨id, fun _ _ => rfl, rfl, rfl, rfl, rfl, rfl⟩
  unfold State.gpShow
  exact (used _).trans (shown _ _)

theorem GroupKept.each {α : Type} {f : State → α → State} (h : ∀ t x, GroupKept g t (f t x)) (l : List α) (s : State) :
    GroupKept g s (s.each l f) := by
  induction l generalizing s with
  | nil => exact .refl g s
  | cons x l ih => exact (h s x).trans (ih (f s x))

theorem State.outputsSafe_group (hs : regsWf s.regs = true) (hp : s.plantHeld = false) (hn : s.safe.srcs ≠ [])
    (hl : s.pwm.groups.length = 6) (hg : g < 6) : ForcedOff s.outputsSafe g := by
  obtain ⟨v, before, after⟩ := State.each_visit (R := GroupKept g) (GroupKept.refl g) (fun _ _ _ => GroupKept.trans)
    (f := fun t g => t.groupForce g) (List.mem_range.mpr hg) List.nodup_range
    (fun t k hk h => .groupForce hg (List.mem_range.mp hk) h t) s
  have own : ForcedOff (v.groupForce g) g := State.groupForce_forcedOff (before.wf hs) (before.held.trans hp)
    (by rw [before.safe]; exact hn) (before.len.trans hl) hg
  have channels := GroupKept.each (g := g) (f := fun t c => t.cond (t.gpEnabled c) (·.gpShow c))
    (fun t c => .cond _ (.gpShow t c)) (List.range 32) (s.each (List.range 6) (fun t g => t.groupForce g))
  exact (after.trans channels).forcedOff own

/-! #### The general channels -/

/-- From `s` to `t` nothing of channel `c` has changed, nor what its configuration tells. -/
structure ChanKept (c : Nat) (s t : State) : Prop where
  regs : sameRegs s t safeRegs
  boot : t.boot = s.boot
  gpc : t.gpc c = s.gpc c
  len : t.pwm.gps.length = s.pwm.gps.length

theorem ChanKept.refl (c : Nat) (s : State) : ChanKept c s s := ⟨sameRegs.refl s _, rfl, rfl, rfl⟩

theorem ChanKept.trans (h : ChanKept c s t) (k : ChanKept c t u) : ChanKept c s u :=
  ⟨h.regs.trans k.regs, k.boot.trans h.boot, k.gpc.trans h.gpc, k.len.trans h.len⟩

theorem ChanKept.f (h : ChanKept c s t) {x : Fld} (hx : x.addr ∉ safeRegs) : t.f x = s.f x :=
  State.f_of_rd (h.regs _ hx)

theorem ChanKept.each {f : State → Nat → State} {l : List Nat} (h : ∀ t k, k ∈ l → ChanKept c t (f t k)) (s : State) :
    ChanKept c s (s.each l f) := by
  induction l generalizing s with
  | nil => exact .refl c s
  | cons k l ih =>
    exact (h s k List.mem_cons_self).trans (ih (fun t j hj => h t j (List.mem_cons_of_mem k hj)) (f s k))

/-- The registers that tell of channel `c` are none that the bus changes. -/
theorem chanRegs_apart : ∀ c, c < 32 → ∀ x, x ∈ [F.PWM_GP_CFG_SAFE c, F.PWM_GP_CFG_EN c, F.PWM_GP_DUTY_SAFEDUTY c,
    F.PWM_CTL_EN, F.PAIR_CFG_MODE, F.BOOT_STAT_RECOVERY, F.PAIR_STAT_STATE, F.CRT_FRAMECFG_NF] →
    x.addr ∉ safeRegs := by decide +kernel

theorem ChanKept.gpEnabled (h : ChanKept c s t) (hc : c < 32) : t.gpEnabled c = s.gpEnabled c := by
  have fld : ∀ x, x ∈ [F.PWM_GP_CFG_SAFE c, F.PWM_GP_CFG_EN c, F.PWM_GP_DUTY_SAFEDUTY c,
      F.PWM_CTL_EN, F.PAIR_CFG_MODE, F.BOOT_STAT_RECOVERY, F.PAIR_STAT_STATE, F.CRT_FRAMECFG_NF] → t.f x = s.f x :=
    fun x hx => h.f (chanRegs_apart c hc x hx)
  unfold State.gpEnabled State.drivesPins State.unitKnown State.unitCode State.on
  rw [fld (F.PWM_GP_CFG_EN c) (by simp), fld F.PWM_CTL_EN (by simp), fld F.PAIR_CFG_MODE (by simp),
    fld F.BOOT_STAT_RECOVERY (by simp), fld F.PAIR_STAT_STATE (by simp), h.boot]

theorem State.gpc_setGpc_ne {k : Nat} (h : c ≠ k) (s : State) (f : GpChan → GpChan) : (s.setGpc k f).gpc c = s.gpc c := by
  unfold State.gpc State.setGpc updAt
  dsimp only
  split
  · simp [List.getD_eq_getElem?_getD, List.getElem?_set_ne (Ne.symm h)]
  · rfl

theorem State.gpc_setGpc_same (h : c < s.pwm.gps.length) (f : GpChan → GpChan) : (s.setGpc c f).gpc c = f (s.gpc c) := by
  unfold State.gpc State.setGpc updAt
  simp [List.getD_eq_getElem?_getD, h]

theorem State.setGpc_len (s : State) (k : Nat) (f : GpChan → GpChan) :
    (s.setGpc k f).pwm.gps.length = s.pwm.gps.length := by
  unfold State.setGpc updAt
  dsimp only
  split <;> simp

theorem ChanKept.same (hr : sameRegs s t safeRegs) (hb : t.boot = s.boot) (hp : t.pwm.gps = s.pwm.gps) : ChanKept c s t :=
  ⟨hr, hb, by unfold State.gpc; rw [hp], by rw [hp]⟩

theorem State.zeroCarry_gps (s : State) (g : Nat) : (s.zeroCarry g).pwm.gps = s.pwm.gps := by
  rw [(s.zeroCarry_regsOnly g).pwm]

theorem State.groupForce_gps (s : State) (g : Nat) : (s.groupForce g).pwm.gps = s.pwm.gps := by
  have carries : ∀ (t : State) (b : Bool), sameIn (·.pwm.gps) t (t.cond b (·.zeroCarry g)) := fun t b =>
    sameIn.cond b (t.zeroCarry_gps g)
  unfold State.groupForce
  split
  · rfl
  · exact carries (s.free.2.switchesOff g (s.offClock g)) _

theorem ChanKept.groupForce (hg : g < 6) (s : State) : ChanKept c s (s.groupForce g) :=
  .same ((State.groupForce_same hg s).mono fun _ h => List.mem_append_left _ (List.mem_cons_of_mem _ h))
    (s.groupForce_pwmOnly g).boot (s.groupForce_gps g)

theorem ChanKept.gpShow {k : Nat} (h : c ≠ k) (s : State) : ChanKept c s (s.gpShow k) := by
  have used : ∀ b : Bool, ChanKept c s (s.cond b (·.free.2)) := fun b => by
    cases b
    · exact .refl c s
    · exact .same (sameRegs.ofRegs rfl) rfl rfl
  have shown : ∀ (t : State) (f : GpChan → GpChan), ChanKept c t (t.setGpc k f) := fun t f =>
    ⟨sameRegs.ofRegs rfl, rfl, t.gpc_setGpc_ne h f, t.setGpc_len k f⟩
  unfold State.gpShow
  exact (used _).trans (shown _ _)

theorem ChanKept.cond {f : State → State} (b : Bool) (h : ChanKept c s (f s)) : ChanKept c s (s.cond b f) := by
  cases b
  · exact .refl c s
  · exact h

/-- What a channel shows under the safe-state bus (R193), where the command tells it. -/
structure ShowsSafe (s t : State) (c : Nat) : Prop where
  safe : (t.gpc c).safe = true
  low : s.f (F.PWM_GP_CFG_SAFE c) = 0 → (t.gpc c).pin = false
  high : s.f (F.PWM_GP_CFG_SAFE c) = 1 → (t.gpc c).pin = true
  never : 2 ≤ s.f (F.PWM_GP_CFG_SAFE c) → s.f (F.PWM_GP_DUTY_SAFEDUTY c) = 0 → (t.gpc c).pin = false
  always : 2 ≤ s.f (F.PWM_GP_CFG_SAFE c) → s.period (s.gpc c).rate ≤ s.f (F.PWM_GP_DUTY_SAFEDUTY c) →
    0 < s.f (F.PWM_GP_DUTY_SAFEDUTY c) → (t.gpc c).pin = true

/-- The instant of the command leaves the level of SAFEDUTY open (log entry 108). -/
def State.gpOpen (s : State) (c : Nat) : Bool :=
  decide (2 ≤ s.f (F.PWM_GP_CFG_SAFE c)) && decide (0 < s.f (F.PWM_GP_DUTY_SAFEDUTY c)) &&
    decide (s.f (F.PWM_GP_DUTY_SAFEDUTY c) < s.period (s.gpc c).rate)

theorem State.gpc_gpShow (h : c < s.pwm.gps.length) : (s.gpShow c).gpc c =
    { s.gpc c with live := false, safe := true,
                   pin := if s.gpOpen c then s.free.1 % 2 == 1 else s.gpSafeLevel c 0 } := by
  have used : ∀ b : Bool, (s.cond b (·.free.2)).pwm = s.pwm := fun b => by cases b <;> rfl
  have visits : s.gpShow c = (s.cond (s.gpOpen c) (·.free.2)).setGpc c (fun q => { q with
      live := false, safe := true, pin := if s.gpOpen c then s.free.1 % 2 == 1 else s.gpSafeLevel c 0 }) := rfl
  have gpc : (s.cond (s.gpOpen c) (·.free.2)).gpc c = s.gpc c := by unfold State.gpc; rw [used]
  rw [visits, State.gpc_setGpc_same (by rw [used]; exact h), gpc]

theorem State.gpSafeLevel_low (h : s.f (F.PWM_GP_CFG_SAFE c) = 0) (n : Nat) : s.gpSafeLevel c n = false := by
  unfold State.gpSafeLevel
  rw [h]
  rfl

theorem State.gpSafeLevel_high (h : s.f (F.PWM_GP_CFG_SAFE c) = 1) (n : Nat) : s.gpSafeLevel c n = true := by
  unfold State.gpSafeLevel
  rw [h]
  rfl

theorem State.gpSafeLevel_duty (h : 2 ≤ s.f (F.PWM_GP_CFG_SAFE c)) (n : Nat) :
    s.gpSafeLevel c n = decide (n < s.f (F.PWM_GP_DUTY_SAFEDUTY c)) := by
  unfold State.gpSafeLevel
  split
  · omega
  · omega
  · rfl

theorem State.gpShow_showsSafe (h : c < s.pwm.gps.length) : ShowsSafe s (s.gpShow c) c := by
  have pin : s.gpOpen c = false → ((s.gpShow c).gpc c).pin = s.gpSafeLevel c 0 := fun closed => by
    rw [State.gpc_gpShow h, closed]
    rfl
  refine ⟨by rw [State.gpc_gpShow h], fun e => ?_, fun e => ?_, fun e d => ?_, fun e d p => ?_⟩
  · rw [pin (by unfold State.gpOpen; rw [e]; rfl), State.gpSafeLevel_low e]
  · rw [pin (by unfold State.gpOpen; rw [e]; rfl), State.gpSafeLevel_high e]
  · rw [pin (by unfold State.gpOpen; rw [d]; simp), State.gpSafeLevel_duty e, d]
    rfl
  · rw [pin (by unfold State.gpOpen; simp; omega), State.gpSafeLevel_duty e]
    exact decide_eq_true p

/-- The configuration of the channel stands from `s` on, so what it shows is what `s` tells. -/
theorem ShowsSafe.ofKept (h : ChanKept c s t) (hc : c < 32) (k : ShowsSafe t u c) : ShowsSafe s u c := by
  have cfg : t.f (F.PWM_GP_CFG_SAFE c) = s.f (F.PWM_GP_CFG_SAFE c) := h.f (chanRegs_apart c hc _ (by simp))
  have duty : t.f (F.PWM_GP_DUTY_SAFEDUTY c) = s.f (F.PWM_GP_DUTY_SAFEDUTY c) := h.f (chanRegs_apart c hc _ (by simp))
  have period : t.period (t.gpc c).rate = s.period (s.gpc c).rate := by
    have nf : t.f F.CRT_FRAMECFG_NF = s.f F.CRT_FRAMECFG_NF := h.f (chanRegs_apart c hc _ (by simp))
    unfold State.period State.nf
    rw [nf, h.gpc]
  exact ⟨k.safe, cfg ▸ k.low, cfg ▸ k.high, cfg ▸ duty ▸ k.never, cfg ▸ duty ▸ period ▸ k.always⟩

theorem ChanKept.showsSafe (h : ChanKept c t u) (k : ShowsSafe s t c) : ShowsSafe s u c := by
  obtain ⟨safe, low, high, never, always⟩ := k
  rw [← h.gpc] at safe low high never always
  exact ⟨safe, low, high, never, always⟩

theorem State.outputsSafe_channel (hl : s.pwm.gps.length = 32) (hc : c < 32) (he : s.gpEnabled c = true) :
    ShowsSafe s s.outputsSafe c := by
  have groups : ChanKept c s (s.each (List.range 6) (fun t g => t.groupForce g)) :=
    .each (fun t _ hg => .groupForce (List.mem_range.mp hg) t) s
  obtain ⟨v, before, after⟩ := State.each_visit (R := ChanKept c) (ChanKept.refl c) (fun _ _ _ => ChanKept.trans)
    (f := fun t c => t.cond (t.gpEnabled c) (·.gpShow c)) (List.mem_range.mpr hc) List.nodup_range
    (fun t k _ h => .cond _ (.gpShow h.symm t)) (s.each (List.range 6) (fun t g => t.groupForce g))
  have kept := groups.trans before
  have own : v.cond (v.gpEnabled c) (·.gpShow c) = v.gpShow c := by rw [kept.gpEnabled hc, he]; rfl
  have shown : ShowsSafe v (v.gpShow c) c := State.gpShow_showsSafe (by rw [kept.len, hl]; exact hc)
  rw [own] at after
  exact after.showsSafe (shown.ofKept kept hc)

/-! #### The whole assertion -/

theorem safeRegs_within : ∀ a, a ∈ safeRegs → 0x40040000 ≤ a ∧ a < 0x40050000 ∨ a ∈ countRegs := by decide +kernel

theorem State.safeAssert_outsidePwm (s : State) (src : SafeSource) : outsidePwm s (s.safeAssert src) := by
  refine ⟨fun a ha hc => s.safeAssert_same src a fun h => ?_, sameMem.ofMem (s.safeAssert_mem src)⟩
  rcases safeRegs_within a h with h | h
  · omega
  · exact hc h

/-- The register of SAFE is none of a group. -/
theorem stat_apart (g x : Nat) : F.PWM_STAT_SAFE.addr ≠ (F.PWM_G_STAT_FORCED g).addr ∧
    F.PWM_STAT_SAFE.addr ≠ (F.PWM_G_ACT_CARRY g x).addr := by
  unfold F.PWM_STAT_SAFE F.PWM_G_STAT_FORCED F.PWM_G_ACT_CARRY
  dsimp only
  omega

theorem State.groupForce_stat (s : State) (g : Nat) :
    (s.groupForce g).rd F.PWM_STAT_SAFE.addr = s.rd F.PWM_STAT_SAFE.addr := by
  have apart : F.PWM_STAT_SAFE.addr ∉
      (F.PWM_G_STAT_FORCED g).addr :: [0, 1, 2].map (fun x => (F.PWM_G_ACT_CARRY g x).addr) :=
    fun h => by
      rcases List.mem_cons.mp h with h | h
      · exact (stat_apart g 0).1 h
      · obtain ⟨x, -, h⟩ := List.mem_map.mp h
        exact (stat_apart g x).2 h.symm
  have carries : ∀ (t : State) (b : Bool), sameRegs t (t.cond b (·.zeroCarry g)) _ := fun t b =>
    sameRegs.cond b ((t.zeroCarry_sameCarries g).mono fun _ => List.mem_cons_of_mem (F.PWM_G_STAT_FORCED g).addr)
  unfold State.groupForce
  split
  · rfl
  · exact (State.rd_setF_ne _ 1 (stat_apart g 0).1).trans (carries (s.free.2.switchesOff g (s.offClock g)) _ _ apart)

theorem State.outputsSafe_stat (s : State) :
    s.outputsSafe.rd F.PWM_STAT_SAFE.addr = s.rd F.PWM_STAT_SAFE.addr := by
  have visits : ∀ (t : State) (c : Nat), sameRegs t (t.cond (t.gpEnabled c) (·.gpShow c)) [] := fun t c =>
    sameRegs.cond (f := (·.gpShow c)) _ (sameRegs.ofRegs (t.gpShow_regs c))
  have channels := sameRegs.each visits (List.range 32) (s.each (List.range 6) (·.groupForce ·))
  exact (channels _ List.not_mem_nil).trans (State.rd_each (fun t g => t.groupForce_stat g) s (List.range 6))

/-- The forced outputs once the assertion is counted. -/
theorem ChanKept.ledger (s : State) (n : Nat) : ChanKept c s (s.ledger n) :=
  .same ((s.ledger_same n).mono fun _ h => List.mem_append_right _ h) (s.ledger_pwmOnly n).boot
    (by rw [(s.ledger_regsOnly n).pwm])

theorem ChanKept.sourced (s : State) (src : SafeSource) : ChanKept c s (s.sourced src) :=
  .same ((s.sourced_same src).mono fun _ h => List.mem_append_left _ (List.mem_cons.mpr (.inl (List.mem_singleton.mp h))))
    (s.sourced_boot src) (by rw [s.sourced_pwm src])

/-- The first source forces every output to its safe value and shows it. -/
theorem safeAssert_forces (hs : s.wf = true) (hg : s.pwm.groups.length = 6) (hc : s.pwm.gps.length = 32)
    (hb : s.boot.stage ≠ .reset) (hn : s.safe.srcs = []) (hp : s.plantHeld = false) :
    ∃ t, exec (.safeStateAssert src) s = .next t ∧ t.safe.held = true ∧ t.safe.srcs = [src] ∧
      t.on F.PWM_STAT_SAFE = true ∧ (∀ g, g < 6 → ForcedOff t g) ∧
      (∀ c, c < 32 → s.gpEnabled c = true → ShowsSafe s t c) ∧ outsidePwm s t := by
  have hm : src ∉ s.safe.srcs := by rw [hn]; exact List.not_mem_nil
  obtain ⟨srcs, held⟩ := State.sourced_safe hm
  have on := State.sourced_on (State.wf_regs hs) hp hm
  have wf := State.sourced_regsWf (State.wf_regs hs) src
  have bus := (s.sourced_held src).trans hp
  have pwm := s.sourced_pwm src
  have chans := fun c => ChanKept.sourced (c := c) s src
  have outside := s.safeAssert_outsidePwm src
  refine ⟨_, exec_safeStateAssert hb, ?_⟩
  rw [State.safeAssert_first hn] at outside ⊢
  generalize s.sourced src = u at *
  have safe : (u.outputsSafe.ledger 48).safe = u.safe := (State.ledger_pwmOnly _ 48).safe.trans u.outputsSafe_pwmOnly.safe
  have shown : (u.outputsSafe.ledger 48).rd F.PWM_STAT_SAFE.addr = u.rd F.PWM_STAT_SAFE.addr :=
    (State.ledger_same _ 48 _ (by decide +kernel)).trans u.outputsSafe_stat
  refine ⟨by rw [safe, held], by rw [safe, srcs, hn], (State.on_of_rd shown).trans on, fun g h => ?_,
    fun c h he => ?_, outside⟩
  · exact (GroupKept.ledger h _ 48).forcedOff
      (State.outputsSafe_group wf bus (by rw [srcs]; exact List.cons_ne_nil _ _) (by rw [pwm, hg]) h)
  · have forced := State.outputsSafe_channel (s := u) (by rw [pwm, hc]) h (((chans c).gpEnabled h).trans he)
    exact (ChanKept.ledger _ 48).showsSafe (forced.ofKept (chans c) h)

end Force

/-- Settles O32: the flags and cuts of a registered trip, with the frame counter running and standing; then the safe-state
bus at its first source, a further one, one that stands, in a Curator, at a release and at a tick. -/
theorem tripsAndSafeStateForceOutputs : Obligations.TripsAndSafeStateForceOutputs := by
  refine ⟨fun s n c hs hl hq hp hh ho => ?_, fun s n c => trip_standing n c, fun s src hs hg hc hb hn hp => ?_,
    fun s src => safeAssert_adds, fun s src _ => safeAssert_curator, fun s src => safeAssert_again,
    fun s src => safeRelease_shown, fun s h => ?_, fun s h => ?_⟩
  · obtain ⟨t, run, sticky, live, mapped, cuts, rest⟩ := trip_running n c hs hl hq hp hh ho
    exact ⟨t, run, sticky, live, mapped, fun g hg hm hc => have cut := cuts g hg hm hc
      ⟨cut.tripcnt, cut.live, cut.carry, cut.off⟩, rest⟩
  · obtain ⟨t, run, held, srcs, shown, groups, channels, rest⟩ := safeAssert_forces (src := src) hs hg hc hb hn hp
    exact ⟨t, run, held, srcs, shown, fun g h => have forced := groups g h
      ⟨forced.shown, forced.live, forced.carry, forced.off⟩, fun c h he => have shows := channels c h he
      ⟨shows.safe, shows.low, shows.high, shows.never, shows.always⟩, rest⟩
  · rw [State.pwmTick_held, h]
    rfl
  · rw [State.pwmTick_held, if_neg (by simpa using h)]

/-! ### The lanes of the control engine (R303, R306) -/

section Back

/-- Drive 0 in the last block of POLARITY, its chain at BACK on lane 0: VPOL is the least word, NPOL 1, two runs done. -/
def polarityBack : State :=
  let s := { State.reset with boot := { Boot.reset with stage := .run, ticked := true, counting := true, decided := true } }
  let s := (s.setF F.THM_STAT_STATE 0).setF F.CE_STAT_STOPPED 0
  let s := ((s.setDr 0 0xD4 (3 + 3 * 2 ^ 8)).setDr 0 0x5C (2 ^ 20)).setDr 0 0x60 (2 ^ 31)
  s.setLane 0 (fun x => { x with cls := 0, chain := some 0 })

/-- A DRIVE_BACK on lane 0 of that state meets every condition of R288. -/
theorem polarityBack_ready : polarityBack.wf = true ∧ polarityBack.ce.lanes.length = 4 ∧
    polarityBack.ce.drives.length = 6 ∧ polarityBack.ceLive = true ∧ (polarityBack.lane 0).run = none ∧
    (polarityBack.lane 0).chain = some 0 ∧ (polarityBack.lane 0).chainTodo = [] ∧ (polarityBack.lane 0).cls = 0 ∧
    (polarityBack.lane 0).cyc + 96 ≤ polarityBack.nce ∧ (polarityBack.lane 0).c0 = [] := by decide +kernel

/-- BACK applies -VPOL, which the word VDA of 32 bits cannot hold. -/
theorem polarityBack_volts : (polarityBack.backVolts 0).1 = 2 ^ 31 := by decide +kernel

/-- The answer of DRIVE_BACK, if it is a state. -/
def backed : Option State :=
  match exec (.driveBack 0) polarityBack with
  | .next t => some t
  | _ => none

/-- VDA holds the low 32 bits of the voltage: its sign is turned. -/
theorem backed_vda : backed.map (fun t => t.drI 0 0xA4) = some (-2 ^ 31) := by decide +kernel

end Back

/-- Refutes O35: DRIVE_BACK stores the low 32 bits of the voltage in VDA, and the statement claims the saturated voltage.
In POLARITY with VPOL = -2^31 BACK applies -VPOL = 2^31 (R306), and VDA reads -2^31, not 2^31 - 1. -/
theorem not_lanesRunItems : ¬ Obligations.LanesRunItems := by
  rintro ⟨-, -, -, -, -, -, -, -, -, back, -⟩
  obtain ⟨hs, lanes, drives, live, run, chain, todo, cls, fits, none⟩ := polarityBack_ready
  obtain ⟨ends, -⟩ := back polarityBack 0 0 hs lanes drives live run chain todo cls
  obtain ⟨t, answer, -, -, -, -, vda, -⟩ := ends fits none
  have stored : backed = some t := by rw [backed, answer]
  have wrapped := backed_vda
  rw [stored, Option.map_some] at wrapped
  have saturated : t.drI 0 0xA4 = 2 ^ 31 - 1 := by
    refine vda.trans ?_
    rw [show ((0 : Fin 6) : Nat) = 0 from rfl, polarityBack_volts]
    rfl
  rw [saturated] at wrapped
  exact absurd wrapped (by decide)

end Sys2Proof.Machine

namespace Sys2Proof.Machine

/-! PROOFS. Start-up and image: the masters' writes of BOOT, the encoders, the steps of the boot, the unit state, the staged
image and the sections of a slot. -/

/-! ### BOOT_CTL outside RECOVERY (R97) -/

section BootCtl

variable {s : State} {m : Master} {w : Nat}

theorem State.regWrite_bootCtl (s : State) (w : Nat) : s.regWrite F.BOOT_CTL_GO_A.addr w = s.bootCtlWrite w := rfl

/-- Outside RECOVERY a write that sets a bit of BOOT_CTL is turned away, one bit or several. -/
theorem State.bootCtlWrite_outside (h : s.boot.stage ≠ .recovery) (hw : bitsOf w 5 ≠ []) :
    s.bootCtlWrite w = (s, false) := by
  unfold State.bootCtlWrite
  split
  · exact absurd ‹_› hw
  · rw [if_pos (.inl h)]
  · rfl

/-- A Curator holds no register of BOOT, so a master that reaches the part is admitted wherever the gate is open. -/
theorem State.admits_bootCtl (hr : s.reaches m = true) (hg : s.writeGate F.BOOT_CTL_GO_A.addr = true) :
    s.admits m F.BOOT_CTL_GO_A.addr = true := by
  have held : s.heldReg F.BOOT_CTL_GO_A.addr = false := by
    rw [State.heldReg, show curatorHeld F.BOOT_CTL_GO_A.addr = false by decide, Bool.and_false]
  rw [State.admits, hr, hg, held]
  rfl

end BootCtl

/-- Settles O15: the gate turns the write away, or BOOT_CTL's own rule does. -/
theorem bootCtlOutsideRecoveryIsDiscarded : Obligations.BootCtlOutsideRecoveryIsDiscarded := by
  intro s m w hr hb hw
  have run : exec (.registerWrite m 0x4001001C w) s = .next (s.masterOp m F.BOOT_CTL_GO_A.addr w.toNat) := rfl
  rw [run]
  cases hg : s.writeGate F.BOOT_CTL_GO_A.addr with
  | false => rw [State.masterOp_turned_away hr hg]; rfl
  | true =>
    rw [State.masterOp_admitted (State.admits_bootCtl hr hg) (by decide) (by decide), State.regWrite_bootCtl,
      State.bootCtlWrite_outside hb hw]
    rfl

/-! ### HOLD (R99, R100) -/

section Hold

variable {s : State} {m : Master}

/-- The row of BOOT_SHADOWCTL. -/
def shadowCtlRow : RegRow := ⟨"BOOT_SHADOWCTL", 0x40010024, [], 0x1, 0x0, 0x4, 0x2, 0x0, 0x0, 0x0, false⟩

theorem findReg_shadowCtl : findReg F.BOOT_SHADOWCTL_HOLD.addr = some shadowCtlRow := by decide +kernel

/-- What a write leaves in BOOT_SHADOWCTL: HOLD as written, HOLDEXP cleared by a 1. -/
def State.shadowCtlWritten (s : State) (w : Nat) : State :=
  s.wr F.BOOT_SHADOWCTL_HOLD.addr (shadowCtlRow.apply (s.rd F.BOOT_SHADOWCTL_HOLD.addr) w
    (s.ownerStopped F.BOOT_SHADOWCTL_HOLD.addr))

theorem State.plainWrite_shadowCtl (s : State) (w : Nat) :
    s.plainWrite F.BOOT_SHADOWCTL_HOLD.addr w = (s.shadowCtlWritten w, true) := by
  have keeps : ∀ old, shadowCtlRow.keepsRwl old w = true := RegRow.keepsRwl_of_zero rfl (w := w)
  have unjudged : shadowCtlRow.judged F.BOOT_SHADOWCTL_HOLD.addr (s.rd F.BOOT_SHADOWCTL_HOLD.addr) w = false := by
    rw [RegRow.judged, keeps]
    rfl
  rw [State.plainWrite_taken findReg_shadowCtl rfl (by rw [unjudged, Bool.false_and]), keeps, Bool.or_true]
  rfl

theorem State.shadowCtlWritten_hold (h : regsWf s.regs = true) (w : Nat) :
    (s.shadowCtlWritten w).on F.BOOT_SHADOWCTL_HOLD = bit w 0 :=
  (State.bit_rd_apply h shadowCtlRow F.BOOT_SHADOWCTL_HOLD.addr w _ (by decide)).trans (if_pos rfl)

theorem State.shadowCtlWritten_same (s : State) (w : Nat) :
    sameRegs s (s.shadowCtlWritten w) [F.BOOT_SHADOWCTL_HOLD.addr] := sameRegs.wr s _ List.mem_cons_self

theorem State.holdWrite_eq (s : State) (w : Nat) : s.holdWrite w =
    (if s.on F.BOOT_SHADOWCTL_HOLD = bit w 0 then s.shadowCtlWritten w
      else { s.shadowCtlWritten w with holdFrames := 0 }, true) := by
  rw [State.holdWrite, State.plainWrite_shadowCtl]
  rfl

theorem exec_shadowHoldWrite {w : Word} (ha : s.admits m F.BOOT_SHADOWCTL_HOLD.addr = true) :
    exec (.shadowHoldWrite m w) s = .next (s.holdWrite w.toNat).1 := by
  have run : exec (.shadowHoldWrite m w) s = .next (s.masterOp m F.BOOT_SHADOWCTL_HOLD.addr w.toNat) := rfl
  have own : s.regWrite F.BOOT_SHADOWCTL_HOLD.addr w.toNat = s.holdWrite w.toNat := rfl
  rw [run, State.masterOp_admitted ha (by decide) (by decide), own, State.holdWrite_eq]
  exact congrArg Host.Outcome.next (if_pos rfl)

/-- The device clears HOLD and shows it. -/
theorem exec_shadowHoldExpiry (hold : s.on F.BOOT_SHADOWCTL_HOLD = true) (due : 2048 ≤ s.holdFrames) :
    exec .shadowHoldExpiry s =
      .next { (s.setF F.BOOT_SHADOWCTL_HOLD 0).setF F.BOOT_SHADOWCTL_HOLDEXP 1 with holdFrames := 0 } := by
  have run : exec .shadowHoldExpiry s = execShadowHoldExpiry s := rfl
  rw [run, execShadowHoldExpiry, hold, decide_eq_true due]
  rfl

end Hold

/-- Settles O22: the write of BOOT_SHADOWCTL is the plain one, with a new count where it changes HOLD. -/
theorem holdIsWrittenAndExpires : Obligations.HoldIsWrittenAndExpires := by
  refine ⟨fun s m w hs ha => ⟨_, exec_shadowHoldWrite ha, ?_⟩,
    fun s hs hold due => ⟨_, exec_shadowHoldExpiry hold due, ?_⟩⟩
  · have written := State.shadowCtlWritten_hold (State.wf_regs hs) w.toNat
    have same := s.shadowCtlWritten_same w.toNat
    by_cases changes : s.on F.BOOT_SHADOWCTL_HOLD = bit w.toNat 0
    · rw [State.holdWrite_eq, if_pos changes, if_pos changes]
      exact ⟨written, rfl, rfl, same, fun _ => rfl⟩
    · rw [State.holdWrite_eq, if_neg changes, if_neg changes]
      exact ⟨written, rfl, rfl, same, fun _ => rfl⟩
  · have first := State.setF_regsWf (State.wf_regs hs) F.BOOT_SHADOWCTL_HOLD 0
    have cleared : ((s.setF F.BOOT_SHADOWCTL_HOLD 0).setF F.BOOT_SHADOWCTL_HOLDEXP 1).on F.BOOT_SHADOWCTL_HOLD = false :=
      (State.on_setF_apart first rfl rfl 1).trans (State.on_setF_same (State.wf_regs hs) rfl rfl 0)
    have same : sameRegs s ((s.setF F.BOOT_SHADOWCTL_HOLD 0).setF F.BOOT_SHADOWCTL_HOLDEXP 1)
        [F.BOOT_SHADOWCTL_HOLD.addr] :=
      (sameRegs.setF s 0 List.mem_cons_self).trans (sameRegs.setF _ 1 List.mem_cons_self)
    exact ⟨cleared, State.on_setF_same first rfl rfl 1, rfl, rfl, same, fun _ => rfl⟩

end Sys2Proof.Machine

namespace Sys2Proof.Machine

/-! ### Step 3 starts (R65, R94) -/

section BootFlash

variable {s t : State} {l : List Nat}

theorem sameRegs.thenSetF (h : sameRegs s t l) {x : Fld} (hx : x.addr ∈ l) (v : Nat) : sameRegs s (t.setF x v) l :=
  h.trans (sameRegs.setF t v hx)

/-- BOOT_STAT as step 3 leaves it: RECOVERY is over, PHASE shows the step. -/
def State.flashShown (s : State) : State := (s.setF F.BOOT_STAT_RECOVERY 0).setF F.BOOT_STAT_PHASE 3

theorem State.bootFlash_regs (s : State) : s.bootFlash.regs = s.flashShown.regs := rfl

theorem State.bootFlash_mem (s : State) : s.bootFlash.mem = Memory.clear s.mem 0 0x200000 := rfl

theorem State.flashShown_same (s : State) : sameRegs s s.flashShown [F.BOOT_STAT_PHASE.addr] :=
  ((sameRegs.refl s _).thenSetF (by decide) 0).thenSetF (by decide) 3

theorem State.flashShown_shown (h : regsWf s.regs = true) :
    s.flashShown.f F.BOOT_STAT_PHASE = 3 ∧ s.flashShown.on F.BOOT_STAT_RECOVERY = false := by
  have first := State.setF_regsWf h F.BOOT_STAT_RECOVERY 0
  exact ⟨State.f_setF_same first rfl 3,
    (State.on_setF_apart first rfl rfl 3).trans (State.on_setF_same h rfl rfl 0)⟩

theorem State.bootFlash_shown (h : regsWf s.regs = true) :
    s.bootFlash.f F.BOOT_STAT_PHASE = 3 ∧ s.bootFlash.on F.BOOT_STAT_RECOVERY = false := State.flashShown_shown h

theorem State.bootFlash_same (s : State) : sameRegs s s.bootFlash [F.BOOT_STAT_PHASE.addr] :=
  s.flashShown_same.trans (sameRegs.ofRegs s.bootFlash_regs)

/-- The plane memories are zeroed, the Vault is kept. -/
theorem State.mb_bootFlash (s : State) :
    (∀ a, a < 0x200000 → s.bootFlash.mb a = (memReset a).toNat) ∧ ∀ a, 0x200000 ≤ a → s.bootFlash.mb a = s.mb a := by
  unfold State.mb
  rw [State.bootFlash_mem]
  refine ⟨fun a ha => ?_, fun a ha => ?_⟩
  · rw [Memory.byte_clear, if_pos ⟨Nat.zero_le a, ha⟩]
  · rw [Memory.byte_clear, if_neg (by omega)]

/-- Slot `k` is booted alone (R94). -/
theorem State.goSlot_shown (h : regsWf s.regs = true) (k : Nat) :
    (s.goSlot k).boot.stage = .flash ∧ (s.goSlot k).boot.alone = true ∧ (s.goSlot k).boot.cur = k ∧
      (s.goSlot k).f F.BOOT_STAT_PHASE = 3 ∧ (s.goSlot k).on F.BOOT_STAT_RECOVERY = false ∧
      (∀ a, a < 0x200000 → (s.goSlot k).mb a = (memReset a).toNat) ∧
      sameRegs s (s.goSlot k) [F.BOOT_STAT_PHASE.addr] ∧ ∀ a, 0x200000 ≤ a → (s.goSlot k).mb a = s.mb a := by
  obtain ⟨phase, recovery⟩ := State.bootFlash_shown h
  obtain ⟨below, above⟩ := s.mb_bootFlash
  exact ⟨rfl, rfl, rfl, phase, recovery, below, s.bootFlash_same, above⟩

end BootFlash

end Sys2Proof.Machine

namespace Sys2Proof.Machine

/-! ### Encoders (R93, R94, R546 to R549) -/

section Encoders

variable {s : State} {k : Nat} {e : Enc}

/-! #### The state of an encoder -/

theorem State.enc_setEnc (h : k < s.pnl.encs.length) (e : Enc) : (s.setEnc k e).enc k = e := by
  simp [State.enc, State.setEnc, h]

theorem State.setEnc_setEnc (s : State) (k : Nat) (e e' : Enc) : (s.setEnc k e).setEnc k e' = s.setEnc k e' := by
  simp [State.setEnc, State.setPnl]

theorem State.setEnc_enc (h : k < s.pnl.encs.length) : s.setEnc k (s.enc k) = s := by
  simp [State.enc, State.setEnc, State.setPnl, h]

theorem State.setEnc_length (s : State) (k : Nat) (e : Enc) : (s.setEnc k e).pnl.encs.length = s.pnl.encs.length := by
  simp [State.setEnc]

theorem State.encLive_setEnc (s : State) (k : Nat) (e : Enc) : (s.setEnc k e).encLive = s.encLive := rfl

/-- An encoder that changes leaves registers, memory and the boot. -/
theorem State.setEnc_same (s : State) (k : Nat) (e : Enc) : sameRegs s (s.setEnc k e) [] := sameRegs.ofRegs rfl

theorem encRegs_length (h : s.pnl.encs.length = 2) (k : Fin 2) : k.val < s.pnl.encs.length := by
  rw [h]
  exact k.isLt

/-! #### A path of the pair (A, B) -/

/-- The encoder after a path on which no detent ends. -/
def Enc.follow (e : Enc) : List (Bool × Bool) → Option Enc
  | [] => some e
  | p :: r => match e.turn p.1 p.2 with
    | (e', none) => e'.follow r
    | (_, some _) => none

theorem State.encMove_quiet (live : s.encLive = true) {p : Bool × Bool} {e' : Enc}
    (h : (s.enc k).turn p.1 p.2 = (e', none)) : s.encMove k p = s.setEnc k e' := by
  simp only [State.encMove, live, if_true, h]

theorem State.encMove_detent (live : s.encLive = true) {p : Bool × Bool} {e' : Enc} {kind : DetentKind}
    (h : (s.enc k).turn p.1 p.2 = (e', some kind)) : s.encMove k p = (s.setEnc k e').detent k kind := by
  simp only [State.encMove, live, if_true, h]

/-- Where no detent ends only the encoder changes. -/
theorem State.each_encMove_follow (live : s.encLive = true) (hk : k < s.pnl.encs.length) {path : List (Bool × Bool)}
    (h : (s.enc k).follow path = some e) : s.each path (fun t p => t.encMove k p) = s.setEnc k e := by
  induction path generalizing s with
  | nil =>
    obtain rfl : s.enc k = e := Option.some.inj h
    exact (State.setEnc_enc hk).symm
  | cons p path ih =>
    rw [Enc.follow] at h
    split at h
    case h_2 => exact absurd h nofun
    case h_1 e' turned =>
      have moved : s.encMove k p = s.setEnc k e' := State.encMove_quiet live turned
      have rest := ih (s := s.setEnc k e') live (by rw [State.setEnc_length]; exact hk)
        (by rw [State.enc_setEnc hk]; exact h)
      rw [State.setEnc_setEnc] at rest
      exact (congrArg (fun t : State => t.each path (fun t p => t.encMove k p)) moved).trans rest

/-- An encoder at rest. -/
structure Enc.Rest (e : Enc) : Prop where
  a : e.a = true
  b : e.b = true
  steps : e.steps = some 0

theorem Enc.Rest.eq (h : e.Rest) : e = ⟨true, true, e.sw, some 0⟩ := by
  obtain ⟨a, b, sw, steps⟩ := e
  obtain ⟨rfl, rfl, rfl⟩ := h
  rfl

/-- Three steps on the way up, the fourth ends the cycle. -/
theorem Enc.follow_up (sw : Bool) :
    Enc.follow ⟨true, true, sw, some 0⟩ [(false, true), (false, false), (true, false)] =
      some ⟨true, false, sw, some 3⟩ := by cases sw <;> decide

theorem Enc.turn_up (sw : Bool) :
    Enc.turn ⟨true, false, sw, some 3⟩ true true = (⟨true, true, sw, some 0⟩, some .up) := by cases sw <;> decide

theorem Enc.follow_down (sw : Bool) :
    Enc.follow ⟨true, true, sw, some 0⟩ [(true, false), (false, false), (false, true)] =
      some ⟨false, true, sw, some (-3)⟩ := by cases sw <;> decide

theorem Enc.turn_down (sw : Bool) :
    Enc.turn ⟨false, true, sw, some (-3)⟩ true true = (⟨true, true, sw, some 0⟩, some .down) := by cases sw <;> decide

/-- A cycle that ends with `kind`: `path` to the last state before rest. -/
theorem State.each_encMove_cycle (live : s.encLive = true) (hk : k < s.pnl.encs.length) (hr : (s.enc k).Rest)
    {path : List (Bool × Bool)} {kind : DetentKind} (hp : (s.enc k).follow path = some e)
    (ht : e.turn true true = (⟨true, true, (s.enc k).sw, some 0⟩, some kind)) :
    s.each (path ++ [(true, true)]) (fun t p => t.encMove k p) = s.detent k kind := by
  have split : s.each (path ++ [(true, true)]) (fun t p => t.encMove k p) =
      (s.each path (fun t p => t.encMove k p)).encMove k (true, true) := List.foldl_append ..
  have last : ((s.setEnc k e).enc k).turn (true, true).1 (true, true).2 =
      (⟨true, true, (s.enc k).sw, some 0⟩, some kind) := by rw [State.enc_setEnc hk]; exact ht
  rw [split, State.each_encMove_follow live hk hp, State.encMove_detent (s := s.setEnc k e) live last,
    State.setEnc_setEnc, ← hr.eq, State.setEnc_enc hk]

theorem exec_encoderDetent (k : Fin 2) (path : List (Bool × Bool)) (s : State) :
    exec (.encoderDetent k path) s = .next (s.each path (fun t p => t.encMove k p)) := rfl

theorem exec_detentUp {k : Fin 2} (hl : s.pnl.encs.length = 2) (live : s.encLive = true) (hr : (s.enc k).Rest) :
    exec (.encoderDetent k [(false, true), (false, false), (true, false), (true, true)]) s =
      .next (s.detent k .up) := by
  have path := Enc.follow_up (s.enc k).sw
  rw [← hr.eq] at path
  exact congrArg Host.Outcome.next (State.each_encMove_cycle live (encRegs_length hl k) hr path (Enc.turn_up _))

theorem exec_detentDown {k : Fin 2} (hl : s.pnl.encs.length = 2) (live : s.encLive = true) (hr : (s.enc k).Rest) :
    exec (.encoderDetent k [(true, false), (false, false), (false, true), (true, true)]) s =
      .next (s.detent k .down) := by
  have path := Enc.follow_down (s.enc k).sw
  rw [← hr.eq] at path
  exact congrArg Host.Outcome.next (State.each_encMove_cycle live (encRegs_length hl k) hr path (Enc.turn_down _))

/-- A path that comes back to rest as it went leaves no trace. -/
theorem exec_detentBack {k : Fin 2} (hl : s.pnl.encs.length = 2) (live : s.encLive = true) (hr : (s.enc k).Rest)
    {path : List (Bool × Bool)} (hp : ∀ sw, Enc.follow ⟨true, true, sw, some 0⟩ path = some ⟨true, true, sw, some 0⟩) :
    exec (.encoderDetent k path) s = .next s := by
  have back := hp (s.enc k).sw
  rw [← hr.eq] at back
  rw [exec_encoderDetent, State.each_encMove_follow live (encRegs_length hl k) back,
    State.setEnc_enc (encRegs_length hl k)]

/-! #### What a full cycle counts -/

/-- COUNT moved by a detent. -/
def State.encCounted (s : State) (k n : Nat) : State := s.setF (F.PNL_ENC_COUNT k) (s.f (F.PNL_ENC_COUNT k) + n)

theorem State.encCounted_count (h : regsWf s.regs = true) (k n : Nat) :
    (s.encCounted k n).f (F.PNL_ENC_COUNT k) = (s.f (F.PNL_ENC_COUNT k) + n) % 2 ^ 16 := State.f_setF_same h rfl _

theorem State.encCounted_pnl (s : State) (k n : Nat) : (s.encCounted k n).pnl = s.pnl := State.setF_pnl ..

theorem State.encCounted_sameMem (s : State) (k n : Nat) : sameMem s (s.encCounted k n) :=
  sameMem.ofMem (State.setF_mem ..)

/-- 65535 counts down by one. -/
theorem State.encCounted_down (h : regsWf s.regs = true) (k : Nat) :
    (s.encCounted k 65535).f (F.PNL_ENC_COUNT k) = (s.f (F.PNL_ENC_COUNT k) + 2 ^ 16 - 1) % 2 ^ 16 := by
  rw [show s.f (F.PNL_ENC_COUNT k) + 2 ^ 16 - 1 = s.f (F.PNL_ENC_COUNT k) + 65535 by omega]
  exact State.encCounted_count h k 65535

theorem State.encCounted_same (s : State) (k n : Nat) :
    sameRegs s (s.encCounted k n) [(F.PNL_ENC_COUNT k).addr] := sameRegs.setF s _ List.mem_cons_self

theorem State.encCounted_recovery (s : State) (k n : Nat) : (s.encCounted k n).recovery = s.recovery :=
  State.on_of_rd (State.encCounted_same s k n _ (by
    have here : (F.PNL_ENC_COUNT k).addr = 0x400C0050 + 4 * k := rfl
    have there : F.BOOT_STAT_RECOVERY.addr = 0x40010000 := rfl
    rw [List.mem_singleton]
    omega))

theorem State.detent_eq_up (s : State) (k : Nat) : s.detent k .up =
    if s.recovery && k == 0 then (s.encCounted k 1).recMove 1 else s.encCounted k 1 := by
  rw [← s.encCounted_recovery k 1]
  rfl

theorem State.detent_eq_down (s : State) (k : Nat) : s.detent k .down =
    if s.recovery && k == 0 then (s.encCounted k 65535).recMove 2 else s.encCounted k 65535 := by
  rw [← s.encCounted_recovery k 65535]
  rfl

theorem notSelecting {k : Fin 2} (h : s.recovery = false ∨ k = 1) :
    (s.recovery && k.val == 0) = false ∧ (s.recovery && k == 0) = false := by
  rcases h with h | rfl
  · rw [h]
    exact ⟨rfl, rfl⟩
  · exact ⟨Bool.and_false _, Bool.and_false _⟩

/-! Outside RECOVERY, and for encoder 1, a cycle moves COUNT alone. -/

theorem exec_detentUp_counts (hl : s.pnl.encs.length = 2) (live : s.encLive = true) {k : Fin 2}
    (hn : s.recovery = false ∨ k = 1) (hr : (s.enc k).Rest) :
    exec (.encoderDetent k [(false, true), (false, false), (true, false), (true, true)]) s =
      .next (s.encCounted k 1) := by
  have plain : ¬ (s.recovery && k.val == 0) = true := by rw [(notSelecting hn).1]; decide
  rw [exec_detentUp hl live hr, State.detent_eq_up, if_neg plain]

theorem exec_detentDown_counts (hl : s.pnl.encs.length = 2) (live : s.encLive = true) {k : Fin 2}
    (hn : s.recovery = false ∨ k = 1) (hr : (s.enc k).Rest) :
    exec (.encoderDetent k [(true, false), (false, false), (false, true), (true, true)]) s =
      .next (s.encCounted k 65535) := by
  have plain : ¬ (s.recovery && k.val == 0) = true := by rw [(notSelecting hn).1]; decide
  rw [exec_detentDown hl live hr, State.detent_eq_down, if_neg plain]

/-- COUNT of encoder 0 and the selection, both moved by a detent. -/
def State.encSelected (s : State) (n m : Nat) : State := (s.encCounted 0 n).recMove m

theorem State.encSelected_shown (h : regsWf s.regs = true) (n m : Nat) :
    (s.encSelected n m).f F.BOOT_RECSEL_POS = (s.f F.BOOT_RECSEL_POS + m) % 3 ∧
    (s.encSelected n m).f (F.PNL_ENC_COUNT 0) = (s.f (F.PNL_ENC_COUNT 0) + n) % 2 ^ 16 ∧
    sameRegs s (s.encSelected n m) [(F.PNL_ENC_COUNT 0).addr, F.BOOT_RECSEL_POS.addr] ∧
    sameMem s (s.encSelected n m) := by
  have wf : regsWf (s.encCounted 0 n).regs = true := State.setF_regsWf h _ _
  have pos : (s.encCounted 0 n).f F.BOOT_RECSEL_POS = s.f F.BOOT_RECSEL_POS :=
    State.f_setF_apart h rfl rfl _
  have moved : (s.encSelected n m).f F.BOOT_RECSEL_POS = (s.f F.BOOT_RECSEL_POS + m) % 3 % 2 ^ 2 := by
    rw [← pos]
    exact State.f_setF_same wf rfl _
  refine ⟨?_, ?_, ?_, fun a => ?_⟩
  · rw [moved]; omega
  · exact (State.f_setF_apart wf rfl rfl _).trans (State.encCounted_count h 0 n)
  · exact ((s.encCounted_same 0 n).mono fun a ha => List.mem_cons.mpr (.inl (List.mem_singleton.mp ha))).trans
      (sameRegs.setF _ _ (by decide))
  · exact (sameMem.ofMem (State.setF_mem ..) a).trans (s.encCounted_sameMem 0 n a)

theorem State.encLive_of_recovery (h : s.recovery = true) : s.encLive = true := by
  rw [State.encLive, show s.on F.BOOT_STAT_RECOVERY = true from h, Bool.or_true, Bool.true_or]

/-- In RECOVERY a cycle of encoder 0 moves the selection too (R93). -/
theorem selects (hs : s.wf = true) (hl : s.pnl.encs.length = 2) (hv : s.recovery = true) (hr : (s.enc 0).Rest) :
    (∃ t, exec (.encoderDetent 0 [(false, true), (false, false), (true, false), (true, true)]) s = .next t ∧
      t.f F.BOOT_RECSEL_POS = (s.f F.BOOT_RECSEL_POS + 1) % 3 ∧
      t.f (F.PNL_ENC_COUNT 0) = (s.f (F.PNL_ENC_COUNT 0) + 1) % 2 ^ 16 ∧
      sameRegs s t [(F.PNL_ENC_COUNT 0).addr, F.BOOT_RECSEL_POS.addr] ∧ sameMem s t) ∧
    (∃ t, exec (.encoderDetent 0 [(true, false), (false, false), (false, true), (true, true)]) s = .next t ∧
      t.f F.BOOT_RECSEL_POS = (s.f F.BOOT_RECSEL_POS + 2) % 3 ∧
      t.f (F.PNL_ENC_COUNT 0) = (s.f (F.PNL_ENC_COUNT 0) + 2 ^ 16 - 1) % 2 ^ 16 ∧
      sameRegs s t [(F.PNL_ENC_COUNT 0).addr, F.BOOT_RECSEL_POS.addr] ∧ sameMem s t) := by
  have live := State.encLive_of_recovery hv
  have zero : (s.recovery && ((0 : Fin 2) : Nat) == 0) = true := by rw [hv]; rfl
  obtain ⟨upPos, upCount, upSame, upMem⟩ := State.encSelected_shown (State.wf_regs hs) 1 1
  obtain ⟨downPos, downCount, downSame, downMem⟩ := State.encSelected_shown (State.wf_regs hs) 65535 2
  refine ⟨⟨s.encSelected 1 1, ?_, upPos, upCount, upSame, upMem⟩,
    s.encSelected 65535 2, ?_, downPos, downCount, downSame, downMem⟩
  · rw [exec_detentUp hl live hr, State.detent_eq_up, if_pos zero]
    rfl
  · rw [exec_detentDown hl live hr, State.detent_eq_down, if_pos zero]
    rfl

/-! #### A change of both inputs, and decoding that waits -/

theorem State.f_count (h : regsWf s.regs = true) {x : Fld} (hx : x.fits = true) (hc : x.addr ∉ countRegs) (src : Nat) :
    (s.count x src).f x = min (s.f x + 1) (2 ^ x.width - 1) := by
  have counted : (s.count x src).f x = (s.inc x).f x := State.f_ledger _ src hc
  rw [counted]
  exact State.f_add h hx 1

/-- The encoder both of whose inputs have changed: decoding waits for rest, unless it is there. -/
def Enc.both (e : Enc) : Enc := { e with a := !e.a, b := !e.b, steps := if e.a || e.b then none else some 0 }

/-- Two changes at once are half the cycle. -/
theorem encPlace_both : ∀ a b, (encPlace (!a) (!b) + 4 - encPlace a b) % 4 = 2 := by decide

theorem Enc.turn_both {n : Int} (h : e.steps = some n) : e.turn (!e.a) (!e.b) = (e.both, some .invalid) := by
  obtain ⟨a, b, sw, steps⟩ := e
  obtain rfl : steps = some n := h
  have dropped : Enc.drop ⟨!a, !b, sw, some n⟩ = Enc.both ⟨a, b, sw, some n⟩ := by cases a <;> cases b <;> rfl
  simp only [Enc.turn, encPlace_both, if_true, dropped]

theorem regsOnly.pnl {t : State} (h : regsOnly s t) : t.pnl = s.pnl := sameIn.field h State.pnl

theorem State.enc_of_pnl {t : State} (h : t.pnl = s.pnl) (k : Nat) : t.enc k = s.enc k := by
  unfold State.enc
  rw [h]

/-- Encoder `k` takes the state `e`, and its error is counted. -/
def State.encCountedError (s : State) (k : Nat) (e : Enc) : State := (s.setEnc k e).count F.PNL_ENCERRCNT 178

theorem State.encMove_both (live : s.encLive = true) {n : Int} (hn : (s.enc k).steps = some n) :
    s.encMove k (!(s.enc k).a, !(s.enc k).b) = s.encCountedError k (s.enc k).both :=
  State.encMove_detent (p := (!(s.enc k).a, !(s.enc k).b)) live (Enc.turn_both hn)

theorem State.enc_encCountedError (hk : k < s.pnl.encs.length) (e : Enc) : (s.encCountedError k e).enc k = e :=
  (State.enc_of_pnl (regsOnly.pnl (State.count_regsOnly _ _ _)) k).trans (State.enc_setEnc hk e)

theorem State.encCountedError_same (s : State) (k : Nat) (e : Enc) :
    sameRegs s (s.encCountedError k e) (F.PNL_ENCERRCNT.addr :: countRegs) :=
  ((s.setEnc_same k e).mono fun _ h => absurd h List.not_mem_nil).trans (State.count_same _ _ 178)

theorem State.encCountedError_mem (s : State) (k : Nat) (e : Enc) : (s.encCountedError k e).mem = s.mem :=
  State.count_mem (s.setEnc k e) _ _

theorem State.encCountedError_count (h : regsWf s.regs = true) (k : Nat) (e : Enc) :
    (s.encCountedError k e).f F.PNL_ENCERRCNT = min (s.f F.PNL_ENCERRCNT + 1) (2 ^ 32 - 1) := by
  have before : (s.setEnc k e).f F.PNL_ENCERRCNT = s.f F.PNL_ENCERRCNT := State.f_of_rd rfl
  rw [State.encCountedError, State.f_count (s := s.setEnc k e) h (by decide) (by decide +kernel), before,
    show F.PNL_ENCERRCNT.width = 32 from rfl]

/-- Such a change is counted (R548). -/
theorem exec_detentBoth (hs : s.wf = true) (hl : s.pnl.encs.length = 2) (live : s.encLive = true) {k : Fin 2} {n : Int}
    (hn : (s.enc k).steps = some n) :
    ∃ t, exec (.encoderDetent k [(!(s.enc k).a, !(s.enc k).b)]) s = .next t ∧
      t.f F.PNL_ENCERRCNT = min (s.f F.PNL_ENCERRCNT + 1) (2 ^ 32 - 1) ∧ t.enc k = (s.enc k).both ∧
      sameRegs s t (F.PNL_ENCERRCNT.addr :: countRegs) ∧ sameMem s t :=
  ⟨s.encCountedError k (s.enc k).both, congrArg Host.Outcome.next (State.encMove_both live hn),
    State.encCountedError_count (State.wf_regs hs) k _,
    State.enc_encCountedError (encRegs_length hl k) _, State.encCountedError_same s k _,
    sameMem.ofMem (State.encCountedError_mem s k _)⟩

/-- The levels of the pins alone are followed: a detent is neither begun nor gone on with. -/
def Enc.level (e : Enc) (p : Bool × Bool) : Enc := { e with a := p.1, b := p.2 }.drop

theorem Enc.turn_waiting (h : e.steps = none) (p : Bool × Bool) : e.turn p.1 p.2 = (e.level p, none) := by
  obtain ⟨a, b, sw, steps⟩ := e
  obtain rfl : steps = none := h
  rfl

theorem Enc.level_steps {p : Bool × Bool} (h : p ≠ (true, true)) (e : Enc) : (e.level p).steps = none := by
  obtain ⟨a, b⟩ := p
  cases a <;> cases b
  case true.true => exact absurd rfl h
  all_goals rfl

theorem Enc.levels_sw (path : List (Bool × Bool)) (e : Enc) : (path.foldl Enc.level e).sw = e.sw := by
  induction path generalizing e with
  | nil => rfl
  | cons p path ih => exact ih (e.level p)

theorem State.encMove_level (h : (s.encLive = true ∧ (s.enc k).steps = none) ∨ s.encLive = false) (p : Bool × Bool) :
    s.encMove k p = s.setEnc k ((s.enc k).level p) := by
  rcases h with ⟨live, wait⟩ | off
  · exact State.encMove_quiet live (Enc.turn_waiting wait p)
  · rw [State.encMove, off]
    rfl

/-- While decoding waits, and while there is none, the pins' levels are all that a path leaves. -/
theorem State.each_encMove_level (hk : k < s.pnl.encs.length) {path : List (Bool × Bool)}
    (h : (s.encLive = true ∧ (s.enc k).steps = none ∧ (true, true) ∉ path) ∨ s.encLive = false) (p : Bool × Bool) :
    s.each (path ++ [p]) (fun t p => t.encMove k p) = s.setEnc k ((path.foldl Enc.level (s.enc k)).level p) := by
  induction path generalizing s with
  | nil => exact State.encMove_level (h.imp_left fun ⟨live, wait, _⟩ => ⟨live, wait⟩) p
  | cons q path ih =>
    have moved := State.encMove_level (h.imp_left fun ⟨live, wait, _⟩ => ⟨live, wait⟩) q
    have placed := State.enc_setEnc hk ((s.enc k).level q)
    have rest := ih (s := s.setEnc k ((s.enc k).level q)) (by rw [State.setEnc_length]; exact hk) (by
      rw [State.encLive_setEnc, placed]
      refine h.imp_left fun ⟨live, _, absent⟩ => ⟨live, Enc.level_steps ?_ _, ?_⟩
      · exact fun e => absent (e ▸ List.mem_cons_self)
      · exact fun e => absent (List.mem_cons_of_mem q e))
    rw [placed, State.setEnc_setEnc] at rest
    exact (congrArg (fun t : State => t.each (path ++ [p]) (fun t p => t.encMove k p)) moved).trans rest

theorem exec_detentLevel (hl : s.pnl.encs.length = 2) {k : Fin 2} {path : List (Bool × Bool)}
    (h : (s.encLive = true ∧ (s.enc k).steps = none ∧ (true, true) ∉ path) ∨ s.encLive = false) (p : Bool × Bool) :
    ∃ t, exec (.encoderDetent k (path ++ [p])) s = .next t ∧
      t.enc k = ⟨p.1, p.2, (s.enc k).sw, if p.1 && p.2 then some 0 else none⟩ ∧ t.boot = s.boot ∧
      sameRegs s t [] ∧ sameMem s t := by
  have hk := encRegs_length hl k
  refine ⟨s.setEnc k ((path.foldl Enc.level (s.enc k)).level p), ?_, ?_, rfl, State.setEnc_same s k _, fun _ => rfl⟩
  · rw [exec_encoderDetent, State.each_encMove_level hk h p]
  · rw [State.enc_setEnc hk, ← Enc.levels_sw path (s.enc k)]
    rfl

/-! #### The switch -/

/-- Encoder `k` after the level of its switch has become `down`. -/
def State.encSwitch (s : State) (k : Nat) (down : Bool) : State := s.setEnc k { s.enc k with sw := down }

/-- A press is shown. -/
def State.encPressed (s : State) (k : Nat) : State := (s.encSwitch k true).setF (F.PNL_ENC_SWEV k) 1

/-- The switch of encoder `k` confirms a slot (R94, log entries 35 and 97). -/
def State.confirms (s : State) (k : Fin 2) : Bool :=
  s.recovery && k == 0 && s.boot.prog.isNone && decide (s.f F.BOOT_RECSEL_POS < 2)

/-- A release, a press that repeats, and one while there is no decoding change the level alone. -/
theorem exec_switchLevel {k : Fin 2} {down : Bool} (h : s.encLive = false ∨ down = false ∨ (s.enc k).sw = true) :
    exec (.encoderSwitchPress k down) s = .next (s.encSwitch k down) := by
  have nothing : (!(s.encSwitch k down).encLive || !(down && !(s.enc k).sw)) = true := by
    rw [State.encSwitch, State.encLive_setEnc]
    rcases h with h | h | h <;> simp [h]
  have run : exec (.encoderSwitchPress k down) s = execEncoderSwitchPress k s down := rfl
  rw [run, execEncoderSwitchPress]
  exact congrArg Host.Outcome.next (if_pos nothing)

theorem State.encPressed_same (s : State) (k : Nat) : sameRegs s (s.encPressed k) [(F.PNL_ENC_SWEV k).addr] :=
  sameRegs.trans (sameRegs.ofRegs rfl) (sameRegs.setF (s.encSwitch k true) 1 List.mem_cons_self)

theorem State.encPressed_mem (s : State) (k : Nat) : (s.encPressed k).mem = s.mem := State.setF_mem ..

theorem State.encPressed_boot (s : State) (k : Nat) : (s.encPressed k).boot = s.boot := State.setF_boot ..

theorem State.encPressed_pnl (s : State) (k : Nat) : (s.encPressed k).pnl = (s.encSwitch k true).pnl := State.setF_pnl ..

/-- SWEV lies in the panel's block, what BOOT shows in its own. -/
theorem State.rd_encPressed {a : Nat} (h : a < 0x40020000) (s : State) (k : Nat) : (s.encPressed k).rd a = s.rd a :=
  s.encPressed_same k a (by
    have here : (F.PNL_ENC_SWEV k).addr = 0x400C0050 + 4 * k := rfl
    rw [List.mem_singleton]
    omega)

theorem State.encPressed_pos (s : State) (k : Nat) : (s.encPressed k).f F.BOOT_RECSEL_POS = s.f F.BOOT_RECSEL_POS :=
  State.f_of_rd (State.rd_encPressed (by decide) s k)

theorem State.confirms_encPressed (s : State) (k : Fin 2) : (s.encPressed k).confirms k = s.confirms k := by
  have mode : (s.encPressed k).recovery = s.recovery := State.on_of_rd (State.rd_encPressed (by decide) s k)
  unfold State.confirms
  rw [mode, s.encPressed_pos k, s.encPressed_boot k]

/-- A press shows, and confirms what it can. -/
theorem exec_press {k : Fin 2} (live : s.encLive = true) (up : (s.enc k).sw = false) :
    exec (.encoderSwitchPress k) s = .next (if s.confirms k then (s.encPressed k).goSlot (s.f F.BOOT_RECSEL_POS)
      else s.encPressed k) := by
  have run : exec (.encoderSwitchPress k) s = execEncoderSwitchPress k s := rfl
  have taken : ¬ (!(s.encSwitch k true).encLive || !(true && !(s.enc k).sw)) = true := by
    rw [State.encSwitch, State.encLive_setEnc]
    simp [live, up]
  have chosen : (s.encPressed k).confirms k = s.confirms k := s.confirms_encPressed k
  rw [run, execEncoderSwitchPress, ← State.encPressed_pos s k, ← chosen]
  exact congrArg Host.Outcome.next (if_neg taken)

theorem State.encPressed_shown (hs : s.wf = true) (hl : s.pnl.encs.length = 2) (k : Fin 2) :
    (s.encPressed k).on (F.PNL_ENC_SWEV k) = true ∧ ((s.encPressed k).enc k).sw = true := by
  refine ⟨State.on_setF_same (s := s.encSwitch k true) (State.wf_regs hs) rfl rfl 1, ?_⟩
  rw [State.enc_of_pnl (s.encPressed_pnl k), State.encSwitch, State.enc_setEnc (encRegs_length hl k)]

/-- The press of encoder 0 in RECOVERY starts slot A or B alone (R94). -/
theorem confirmed (hs : s.wf = true) (hl : s.pnl.encs.length = 2) (hv : s.recovery = true) (up : (s.enc 0).sw = false)
    (hp : s.boot.prog = none) (pos : s.f F.BOOT_RECSEL_POS < 2) :
    ∃ t, exec (.encoderSwitchPress 0) s = .next t ∧ t.on (F.PNL_ENC_SWEV 0) = true ∧ t.boot.stage = .flash ∧
      t.boot.alone = true ∧ t.boot.cur = s.f F.BOOT_RECSEL_POS ∧ t.on F.BOOT_STAT_RECOVERY = false ∧
      sameRegs s t [(F.PNL_ENC_SWEV 0).addr, F.BOOT_STAT_PHASE.addr] ∧ ∀ a, 0x200000 ≤ a → t.mb a = s.mb a := by
  have taken : s.confirms 0 = true := by
    rw [State.confirms, hv, hp, decide_eq_true pos]
    rfl
  have wf : regsWf (s.encPressed 0).regs = true := State.setF_regsWf (s := s.encSwitch 0 true) (State.wf_regs hs) _ _
  obtain ⟨sw, -⟩ := State.encPressed_shown hs hl 0
  obtain ⟨stage, alone, cur, -, recovery, -, same, above⟩ :=
    State.goSlot_shown wf (s.f F.BOOT_RECSEL_POS)
  refine ⟨(s.encPressed 0).goSlot (s.f F.BOOT_RECSEL_POS), ?_, ?_, stage, alone, cur, recovery, ?_,
    fun a ha => (above a ha).trans (sameMem.ofMem (s.encPressed_mem 0) a)⟩
  · rw [exec_press (State.encLive_of_recovery hv) up]
    exact congrArg Host.Outcome.next (if_pos taken)
  · exact (State.on_of_rd (same _ (by decide))).trans sw
  · exact ((s.encPressed_same 0).mono fun a ha => List.mem_cons.mpr (.inl (List.mem_singleton.mp ha))).trans
      (same.mono fun a ha => List.mem_cons_of_mem _ ha)

end Encoders

/-- Settles O19: only the last step of a full cycle ends a detent, and what ends with it depends on RECOVERY. -/
theorem encodersCountAndSelect : Obligations.EncodersCountAndSelect := by
  refine ⟨fun s k hs hl live hn ha hb hz => ⟨?_, ?_⟩, fun s k x hl live ha hb hz => ?_,
    fun s k n hs hl live hn => exec_detentBoth hs hl live hn, fun s k path p _ hl h => exec_detentLevel hl h p,
    fun s k hs hl live hn up => ?_, fun s k down _ hl h => ?_, fun s hs hl hv => ⟨fun ha hb hz => ?_, ?_, ?_⟩⟩
  · exact ⟨_, exec_detentUp_counts hl live hn ⟨ha, hb, hz⟩, State.encCounted_count (State.wf_regs hs) k 1,
      s.encCounted_pnl k 1, s.encCounted_same k 1, s.encCounted_sameMem k 1⟩
  · exact ⟨_, exec_detentDown_counts hl live hn ⟨ha, hb, hz⟩, State.encCounted_down (State.wf_regs hs) k,
      s.encCounted_pnl k 65535, s.encCounted_same k 65535, s.encCounted_sameMem k 65535⟩
  · have back := fun path => exec_detentBack (path := path) hl live ⟨ha, hb, hz⟩
    cases x <;> exact ⟨back _ (by decide), back _ (by decide), back _ (by decide)⟩
  · obtain ⟨shown, sw⟩ := State.encPressed_shown hs hl k
    refine ⟨s.encPressed k, ?_, shown, sw, s.encPressed_same k, sameMem.ofMem (s.encPressed_mem k)⟩
    rw [exec_press live up, State.confirms, (notSelecting hn).2]
    rfl
  · refine ⟨_, exec_switchLevel h, ?_, rfl, s.setEnc_same k _, fun _ => rfl⟩
    exact congrArg Enc.sw (State.enc_setEnc (encRegs_length hl k) _)
  · exact selects hs hl hv ⟨ha, hb, hz⟩
  · exact confirmed hs hl hv
  · intro up h
    have idle : s.confirms 0 = false := by
      rcases h with h | h
      · have busy : s.boot.prog.isNone = false := by rw [← Option.not_isSome, h]; rfl
        rw [State.confirms, busy, Bool.and_false, Bool.false_and]
      · rw [State.confirms, decide_eq_false (by omega), Bool.and_false]
    refine ⟨s.encPressed 0, ?_, (State.encPressed_shown hs hl 0).1, s.encPressed_boot 0,
      s.encPressed_same 0, sameMem.ofMem (s.encPressed_mem 0)⟩
    rw [exec_press (State.encLive_of_recovery hv) up]
    exact congrArg Host.Outcome.next (if_neg (by rw [idle]; decide))

end Sys2Proof.Machine

namespace Sys2Proof.Machine

/-! ### Changes within some register blocks -/

theorem blockOf_eq {a b : Nat} (h : 0x40000000 + 0x10000 * b ≤ a ∧ a < 0x40010000 + 0x10000 * b) : blockOf a = b := by
  unfold blockOf
  rw [if_neg (by omega)]
  omega

section Confinement

variable {s t u : State} {l m : List Nat}

theorem outside.refl (s : State) : outside l s s := fun _ _ _ => rfl

theorem outside.trans (h : outside l s t) (k : outside l t u) : outside l s u :=
  fun a ha hc => (k a ha hc).trans (h a ha hc)

theorem outside.mono (h : outside l s t) (hl : ∀ b, b ∈ l → b ∈ m) : outside m s t :=
  fun a ha hc => h a (fun hb => ha (hl _ hb)) hc

theorem outside.ofRegs (h : t.regs = s.regs) : outside l s t := fun a _ _ => by rw [State.rd_eq, State.rd_eq, h]

theorem outside.thenSetF (h : outside l s t) {x : Fld} (hx : blockOf x.addr ∈ l) (v : Nat) : outside l s (t.setF x v) :=
  h.trans fun _ ha _ => State.rd_setF_ne t v fun e => ha (e ▸ hx)

/-- Memory, the boot, whether the converters run, and THERMAL_HALT. -/
def State.base (s : State) : List Host.Cell × Boot × Bool × Bool := (s.mem, s.boot, s.adc.ready, s.thm.halt)

theorem regsOnly.base (h : regsOnly s t) : sameIn State.base s t := sameIn.field h State.base

/-- `t` is `s` but for registers of the blocks in `l`, the counters, and parts that the base has not. -/
structure Confined (l : List Nat) (s t : State) : Prop where
  regs : outside l s t
  base : sameIn State.base s t

theorem Confined.mem (h : Confined l s t) : t.mem = s.mem := h.base.field Prod.fst

theorem Confined.boot (h : Confined l s t) : t.boot = s.boot := h.base.field fun b => b.2.1

theorem Confined.ready (h : Confined l s t) : t.adc.ready = s.adc.ready := h.base.field fun b => b.2.2.1

theorem Confined.halt (h : Confined l s t) : t.thm.halt = s.thm.halt := h.base.field fun b => b.2.2.2

theorem Confined.refl (s : State) : Confined l s s := ⟨outside.refl s, rfl⟩

theorem Confined.trans (h : Confined l s t) (k : Confined l t u) : Confined l s u :=
  ⟨h.regs.trans k.regs, h.base.trans k.base⟩

theorem Confined.mono (h : Confined l s t) (hl : ∀ b, b ∈ l → b ∈ m) : Confined m s t := ⟨h.regs.mono hl, h.base⟩

/-- A step beside registers and base. -/
theorem Confined.thenHidden (h : Confined l s t) (hr : u.regs = t.regs) (hb : u.base = t.base) : Confined l s u :=
  h.trans ⟨outside.ofRegs hr, hb⟩

theorem Confined.thenCe (h : Confined l s t) (x : Engine) : Confined l s { t with ce := x } := h.thenHidden rfl rfl

theorem Confined.thenSetF (h : Confined l s t) {x : Fld} (hx : blockOf x.addr ∈ l) (v : Nat) :
    Confined l s (t.setF x v) := h.trans ⟨(outside.refl t).thenSetF hx v, (regsOnly.setF t x v).base⟩

/-- A field whose address lies in block `b`. -/
theorem Confined.thenSetFIn (h : Confined l s t) {x : Fld} {b : Nat} (hb : b ∈ l)
    (hx : 0x40000000 + 0x10000 * b ≤ x.addr ∧ x.addr < 0x40010000 + 0x10000 * b) (v : Nat) : Confined l s (t.setF x v) :=
  h.thenSetF (by rw [blockOf_eq hx]; exact hb) v

theorem Confined.thenCount (h : Confined l s t) {x : Fld} (hx : blockOf x.addr ∈ l) (src : Nat) :
    Confined l s (t.count x src) := by
  refine h.trans ⟨outside_of_sameRegs (t.count_same x src) fun a ha => ?_, (t.count_regsOnly x src).base⟩
  rcases List.mem_cons.mp ha with rfl | ha
  · exact .inl hx
  · exact .inr ha

theorem State.log_base (s : State) (a b c d : Nat) (e : Option Nat) (f : Bool) : (s.log a b c d e f).base = s.base := by
  unfold State.log
  split
  · rfl
  · exact (regsOnly.setF s F.ANL_LOSTCNT _).base

theorem Confined.thenLog (h : Confined l s t) (a b c d : Nat) (e : Option Nat) (f : Bool) :
    Confined l s (t.log a b c d e f) :=
  h.trans ⟨outside_of_sameRegs (t.log_same a b c d e f) fun _ => .inr, t.log_base a b c d e f⟩

theorem Confined.thenEach (h : Confined l s t) {α : Type} {f : State → α → State} {xs : List α}
    (hf : ∀ x, x ∈ xs → ∀ u, Confined l u (f u x)) : Confined l s (t.each xs f) := by
  induction xs generalizing t with
  | nil => exact h
  | cons x xs ih =>
    exact ih (h.trans (hf x List.mem_cons_self t)) fun y hy => hf y (List.mem_cons_of_mem x hy)

theorem Confined.ite {c : Prop} [Decidable c] (ht : c → Confined l s t) (hu : ¬c → Confined l s u) :
    Confined l s (if c then t else u) := by
  split
  · exact ht ‹_›
  · exact hu ‹_›

theorem Confined.rd (h : Confined l s t) {a : Nat} (hb : blockOf a ∉ l) (hc : a ∉ countRegs) : t.rd a = s.rd a :=
  h.regs a hb hc

theorem Confined.f (h : Confined l s t) {x : Fld} (hb : blockOf x.addr ∉ l) (hc : x.addr ∉ countRegs) : t.f x = s.f x :=
  State.f_of_rd (h.rd hb hc)

theorem Confined.on (h : Confined l s t) {x : Fld} (hb : blockOf x.addr ∉ l) (hc : x.addr ∉ countRegs) : t.on x = s.on x :=
  State.on_of_rd (h.rd hb hc)

theorem Confined.sameMem (h : Confined l s t) : sameMem s t := sameMem.ofMem h.mem

end Confinement

/-! #### The outputs, the buses, the converters and the unit state -/

section Units

variable {s : State}

theorem State.setGrp_base (s : State) (g : Nat) (f : Group → Group) : (s.setGrp g f).base = s.base := rfl

theorem State.setGpc_base (s : State) (c : Nat) (f : GpChan → GpChan) : (s.setGpc c f).base = s.base := rfl

theorem State.setCc_base (s : State) (c : Nat) (f : CanCtl → CanCtl) : (s.setCc c f).base = s.base := rfl

theorem State.zeroCarry_confined {g : Nat} (hg : g < 6) (s : State) : Confined [4] s (s.zeroCarry g) := by
  refine (Confined.refl s).thenEach fun x hx t => ?_
  have hx : x < 3 := by simp only [List.mem_cons, List.not_mem_nil, or_false] at hx; omega
  exact (Confined.refl t).thenSetFIn (b := 4) List.mem_cons_self (by simp only [F.PWM_G_ACT_CARRY]; omega) 0

theorem State.setWidth_confined {g x : Nat} (hg : g < 6) (hx : x < 3) (w : Nat) (s : State) :
    Confined [4] s (s.setWidth g x w) := by
  unfold State.setWidth State.setPh
  refine Confined.thenHidden ?_ (State.setGrp_regs ..) (State.setGrp_base ..)
  exact (Confined.refl s).thenSetFIn (b := 4) List.mem_cons_self (by simp only [F.PWM_G_ACT_WIDTH]; omega) w

theorem State.regroup_confined {g : Nat} (hg : g < 6) (s : State) : Confined [4] s (s.regroup g) := by
  unfold State.regroup
  refine Confined.ite (fun _ => .refl s) fun _ => Confined.thenEach ?_ fun x hx t => ?_
  · exact ((Confined.refl s).thenHidden (State.setGrp_regs ..) (State.setGrp_base ..)).trans
      (State.zeroCarry_confined hg _)
  · have hx : x < 3 := by simp only [List.mem_cons, List.not_mem_nil, or_false] at hx; omega
    exact State.setWidth_confined hg hx _ t

theorem State.showForced_confined (s : State) : Confined [4] s s.showForced := by
  refine (Confined.refl s).thenEach fun g hg t => ?_
  have hg := List.mem_range.mp hg
  exact (Confined.refl t).thenSetFIn (b := 4) List.mem_cons_self (by simp only [F.PWM_G_STAT_FORCED]; omega) _

theorem State.rechannel_confined {c : Nat} (hc : c < 32) (s : State) : Confined [4] s (s.rechannel c) := by
  unfold State.rechannel
  refine Confined.ite (fun _ => .refl s) fun _ => Confined.thenSetFIn (b := 4) ?_ List.mem_cons_self ?_ _
  · exact (Confined.refl s).thenHidden (State.setGpc_regs ..) (State.setGpc_base ..)
  · show 0x40000000 + 0x10000 * 4 ≤ 0x40040408 + 0x10 * c ∧ 0x40040408 + 0x10 * c < 0x40010000 + 0x10000 * 4
    omega

theorem State.carriersAnew_confined (s : State) : Confined [4] s s.carriersAnew :=
  (Confined.refl s).thenEach fun _ _ t => (Confined.refl t).thenHidden (State.setGrp_regs ..) (State.setGrp_base ..)

theorem State.pwmStart_confined (s : State) : Confined [4] s s.pwmStart := by
  unfold State.pwmStart
  refine Confined.trans (Confined.thenEach (.trans (Confined.thenEach (.refl s) ?_) (State.showForced_confined _)) ?_)
    (State.carriersAnew_confined _)
  · exact fun _ hg t => State.regroup_confined (List.mem_range.mp hg) t
  · exact fun _ hc t => State.rechannel_confined (List.mem_range.mp hc) t

theorem State.canSetState_confined {c : Nat} (hc : c < 2) (st : Nat) (s : State) : Confined [7] s (s.canSetState c st) := by
  unfold State.canSetState State.setB
  refine Confined.thenSetFIn (b := 7) (Confined.thenSetFIn (b := 7) (.refl s) List.mem_cons_self ?_ st)
    List.mem_cons_self ?_ _
  · show 0x40000000 + 0x10000 * 7 ≤ 0x40070004 + 0x8000 * c ∧ 0x40070004 + 0x8000 * c < 0x40010000 + 0x10000 * 7
    omega
  · show 0x40000000 + 0x10000 * 7 ≤ 0x40070004 + 0x8000 * c ∧ 0x40070004 + 0x8000 * c < 0x40010000 + 0x10000 * 7
    omega

theorem State.setCc_confined (s : State) (c : Nat) (f : CanCtl → CanCtl) : Confined [7] s (s.setCc c f) :=
  (Confined.refl s).thenHidden (State.setCc_regs ..) (State.setCc_base ..)

theorem State.canJoin_confined {c : Nat} (hc : c < 2) (detect : Bool) (s : State) :
    Confined [7] s (s.canJoin c detect) := by
  unfold State.canJoin
  refine Confined.ite (fun _ => State.canSetState_confined hc 1 s) fun _ => ?_
  exact Confined.ite (fun _ => (s.setCc_confined c _).trans (State.canSetState_confined hc 5 _)) fun _ =>
    State.canSetState_confined hc 2 s

theorem State.canStart_confined {c : Nat} (hc : c < 2) (s : State) : Confined [7] s (s.canStart c) := by
  unfold State.canStart
  exact Confined.ite (fun _ => (s.setCc_confined c _).trans (State.canJoin_confined hc _ _)) fun _ => .refl s

/-- Carriers and buses start (R70). -/
def State.outputsStart (s : State) : State := (s.pwmStart.canStart 0).canStart 1

theorem State.outputsStart_confined (s : State) : Confined [4, 7] s s.outputsStart := by
  unfold State.outputsStart
  exact ((s.pwmStart_confined.mono (by decide)).trans ((State.canStart_confined (by decide) _).mono (by decide))).trans
    ((State.canStart_confined (by decide) _).mono (by decide))

theorem State.frameStart_eq (s : State) : s.frameStart = s.countStart.outputsStart := rfl

theorem State.frameStart_boot (s : State) : s.frameStart.boot = { s.boot with counting := true, stage := .run } := by
  rw [State.frameStart_eq, (State.outputsStart_confined _).boot]
  rfl

theorem State.frameStart_mem (s : State) : s.frameStart.mem = s.mem := by
  rw [State.frameStart_eq, (State.outputsStart_confined _).mem]
  rfl

theorem State.frameStart_ready (s : State) : s.frameStart.adc.ready = s.adc.ready := by
  rw [State.frameStart_eq, (State.outputsStart_confined _).ready]
  rfl

/-- PHASE shows that the frame counter starts. -/
theorem State.countStart_regs (s : State) : s.countStart.regs = (s.setF F.BOOT_STAT_PHASE 9).regs := rfl

theorem State.countStart_outside (s : State) : outside [1] s s.countStart :=
  ((outside.refl s).thenSetF (by decide) 9).trans (outside.ofRegs s.countStart_regs)

theorem State.frameStart_outside (s : State) : outside [1, 4, 7] s s.frameStart := by
  rw [State.frameStart_eq]
  exact (s.countStart_outside.mono (by decide)).trans ((State.outputsStart_confined _).regs.mono (by decide))

theorem State.countStart_phase (h : regsWf s.regs = true) : s.countStart.f F.BOOT_STAT_PHASE = 9 := by
  have shown : s.countStart.f F.BOOT_STAT_PHASE = (s.setF F.BOOT_STAT_PHASE 9).f F.BOOT_STAT_PHASE := State.f_of_rd rfl
  exact shown.trans (State.f_setF_same h (by decide) 9)

theorem State.frameStart_phase (h : regsWf s.regs = true) : s.frameStart.f F.BOOT_STAT_PHASE = 9 := by
  rw [State.frameStart_eq, (State.outputsStart_confined _).f (by decide) (by decide +kernel), State.countStart_phase h]

theorem State.judgeSet_confined (k : Nat) (c : CalSet) (s : State) : Confined [2] s (s.judgeSet k c) := by
  have age : blockOf (calAge k).addr ∈ [2] := by unfold calAge; split <;> decide
  have taken : Confined [2] s { s with adc := { s.adc with wtrim := updAt s.adc.wtrim k (fun _ => some c) } } :=
    (Confined.refl s).thenHidden rfl rfl
  unfold State.judgeSet State.setBit
  refine Confined.ite (fun _ => ?_) fun _ => ?_
  · exact Confined.ite (fun _ => taken.thenSetF age 0) fun _ => taken
  · exact (((Confined.refl s).thenSetF (by decide) _).thenCount (by decide) 59).thenLog ..

theorem State.calibrateAll_confined (c : CalResults) (s : State) : Confined [2] s (s.calibrateAll c true) := by
  unfold State.calibrateAll State.setI
  refine Confined.thenSetF (Confined.thenSetF (Confined.thenSetF (Confined.thenSetF ?_ (by decide) _) (by decide) _)
    (by decide) _) (by decide) _
  exact (Confined.refl s).thenEach fun k _ t => Confined.ite (fun _ => t.judgeSet_confined k _) fun _ => .refl t

/-- The converters run (log entry 106). -/
def State.convertersOn (s : State) : State :=
  { s with adc := { s.adc with ready := true, timer := s.f F.ADC_CALINT_INT } }

theorem State.convertersReady_confined (s : State) : Confined [2] s.convertersOn s.convertersReady := by
  unfold State.convertersReady
  exact Confined.ite (fun _ => ((Confined.refl s.convertersOn).thenSetF (by decide) _).thenSetF (by decide) _) fun _ =>
    .refl s.convertersOn

theorem State.powerUpCores_confined (s : State) : Confined [2] s s.powerUpCores := by
  refine (Confined.refl s).thenEach fun k _ t => Confined.ite (fun _ => ?_) fun _ => .refl t
  have age : blockOf (calAge k).addr ∈ [2] := by unfold calAge; split <;> decide
  have reset : Confined [2] t { t with adc := { t.adc with wtrim := updAt t.adc.wtrim k (fun _ => none) } } :=
    (Confined.refl t).thenHidden rfl rfl
  unfold State.powerUpCore
  exact Confined.ite (fun _ => reset.thenSetF age _) fun _ => reset

theorem State.gensAbort_confined (s : State) (st : Nat) : Confined [5] s (s.gensAbort st) := by
  refine (Confined.refl s).thenEach fun n _ t => ?_
  have ended : Confined [5] t (t.endGen n true) := by
    unfold State.endGen State.setGenState
    exact (((Confined.refl t).thenSetF (by decide) _).thenSetF (by decide) _).thenCe _
  have first : Confined [5] t (if t.genState n = 1 ∨ t.genState n = 2 then t.endGen n true else t) :=
    Confined.ite (fun _ => ended) fun _ => .refl t
  unfold State.setGenState
  exact Confined.ite (fun _ => first.thenSetF (by decide) _) fun _ => first

theorem State.capEnd_confined (s : State) (warm : Bool) : Confined [5] s (s.capEnd warm) := by
  unfold State.capEnd
  refine Confined.ite (fun _ => Confined.thenSetF ((Confined.refl s).thenSetF (by decide) 3) ?_ 1) fun _ => .refl s
  cases warm <;> decide

/-- What ends when the unit leaves ACTIVE (R323, R334, R452, R481). -/
def State.activeEnds (s : State) : State :=
  if s.unitCode = 0 then (((s.setF F.PAIR_FAILSRC_SRC 0).setF F.PAIR_STAT_DUAL 0).gensAbort 0).capEnd false else s

theorem State.setUnit_eq (s : State) (code : Nat) : s.setUnit code =
    if s.unitCode = code then s else (s.activeEnds.setF F.PAIR_STAT_STATE code).setF F.SVC_IRQST_UNIT 1 := rfl

theorem State.activeEnds_confined (s : State) : Confined [5, 9] s s.activeEnds := by
  unfold State.activeEnds
  refine Confined.ite (fun _ => ?_) fun _ => .refl s
  have shown := ((Confined.refl (l := [5, 9]) s).thenSetF (x := F.PAIR_FAILSRC_SRC) (by decide) 0).thenSetF
    (x := F.PAIR_STAT_DUAL) (by decide) 0
  exact (shown.trans ((State.gensAbort_confined _ 0).mono (by decide))).trans
    ((State.capEnd_confined _ false).mono (by decide))

theorem State.setUnit_confined (s : State) (code : Nat) : Confined [5, 9, 14] s (s.setUnit code) := by
  rw [State.setUnit_eq]
  exact Confined.ite (fun _ => .refl s) fun _ =>
    ((s.activeEnds_confined.mono (by decide)).thenSetF (by decide) code).thenSetF (by decide) 1

end Units

end Sys2Proof.Machine

namespace Sys2Proof.Machine

/-! ### The steps of the boot (R65 to R70, R526) -/

section BootSteps

variable {s : State} {pq : List Instr}

theorem State.activeEnds_kept (h : s.Kept pq) : s.activeEnds.Kept pq := by
  unfold State.activeEnds
  split
  · exact State.capEnd_kept _ (State.gensAbort_kept _ (State.setF_kept _ _ (State.setF_kept _ _ h)))
  · exact h

/-- The unit is in the state that it takes. -/
theorem State.setUnit_code (h : s.Kept pq) {code : Nat} (hc : code < 8) : (s.setUnit code).unitCode = code := by
  rw [State.setUnit_eq]
  split
  · assumption
  · have wf := (State.activeEnds_kept h).1
    have first : regsWf (s.activeEnds.setF F.PAIR_STAT_STATE code).regs = true := State.setF_regsWf wf _ _
    exact (State.f_setF_apart first rfl rfl 1).trans ((State.f_setF_same wf rfl code).trans (Nat.mod_eq_of_lt hc))

/-- A step of the boot shows in PHASE alone. -/
theorem State.step_shown (h : regsWf s.regs = true) (st : BootStage) {k : Nat} (hk : k < 16) :
    ((s.toStage st).phase k).boot.stage = st ∧ ((s.toStage st).phase k).f F.BOOT_STAT_PHASE = k ∧
      sameRegs s ((s.toStage st).phase k) [F.BOOT_STAT_PHASE.addr] ∧ sameMem s ((s.toStage st).phase k) := by
  have staged : sameRegs s (s.toStage st) [F.BOOT_STAT_PHASE.addr] := sameRegs.ofRegs rfl
  unfold State.phase
  refine ⟨?_, ?_, staged.thenSetF List.mem_cons_self k, sameMem.ofMem ?_⟩
  · rw [State.setF_boot]
    rfl
  · rw [State.f_setF_same (s := s.toStage st) h (by decide)]
    exact Nat.mod_eq_of_lt hk
  · rw [State.setF_mem]
    rfl

theorem exec_resetRelease (h : s.boot.stage = .reset) : exec .resetRelease s =
    .next { (s.toStage .pll).phase 1 with clk := { s.clk with lost := false } } := by
  have run : exec .resetRelease s = execResetRelease s := rfl
  rw [run, execResetRelease, if_pos h]
  rfl

theorem exec_linkBringupTimeout (h : s.boot.stage = .link) :
    exec .linkBringupTimeout s = .next ((s.toStage .unit).phase 7) := by
  have run : exec .linkBringupTimeout s = execLinkBringupTimeout s := rfl
  rw [run, execLinkBringupTimeout, if_pos h]

theorem exec_memorySelfTestDone (h : s.boot.stage = .selfTest) (march crc : Bool) :
    exec (.memorySelfTestDone march crc) s = .next (if march && crc then
      if s.f F.PAIR_CFG_MODE = 1 then (s.toStage .link).phase 6 else (s.toStage .unit).phase 7
      else (s.setF F.BOOT_STAT_BIST_FAIL 1).toStage .bistFail) := by
  have run : exec (.memorySelfTestDone march crc) s = execMemorySelfTestDone march crc s := rfl
  rw [run, execMemorySelfTestDone, if_pos h]

/-! #### The lock of the PLLs -/

/-- The lock bits. -/
def State.lockShown (s : State) : State := (s.setF F.CRT_CLKSTAT_LOCK_M 1).setF F.CRT_CLKSTAT_LOCK_L 1

/-- The LINK tick's latency is settled (R35). -/
def State.latencyFixed (s : State) : State :=
  let v := s.free
  { v.2 with clk := { v.2.clk with link3 := bit v.1 0 } }

theorem State.latencyFixed_regs (s : State) : s.latencyFixed.regs = s.regs := rfl

theorem State.latencyFixed_base (s : State) : s.latencyFixed.base = s.base := rfl

theorem State.latencyFixed_kept (h : s.Kept pq) : s.latencyFixed.Kept pq := h

/-- Both PLLs are locked: the lock bits, what forces the outputs, and the LINK tick's latency (R27, R35). -/
def State.pllsLocked (s : State) : State := s.lockShown.showForced.latencyFixed

/-- Thermal watch holds the boot at step 2 (R526). -/
def State.stepHeld (s : State) : State :=
  (((s.setThm (fun x => { x with halt := true })).toStage .held).phase 2).setUnit 5

theorem exec_pllLock (h : s.boot.stage = .pll) : exec .pllLock s =
    .next (if s.pllsLocked.on F.THM_STAT_HOLD || s.pllsLocked.on F.THM_STAT_LATCH then s.pllsLocked.stepHeld
      else s.pllsLocked.bootFlash) := by
  have run : exec .pllLock s = execPllLock s := rfl
  rw [run, execPllLock, if_pos h]
  rfl

theorem State.pllsLocked_confined (s : State) : Confined [0, 4] s s.pllsLocked := by
  have shown : Confined [0, 4] s s.lockShown := ((Confined.refl s).thenSetF (by decide) 1).thenSetF (by decide) 1
  exact (shown.trans (s.lockShown.showForced_confined.mono (by decide))).thenHidden
    (State.latencyFixed_regs _) (State.latencyFixed_base _)

theorem State.pllsLocked_kept (h : s.Kept pq) : s.pllsLocked.Kept pq :=
  State.latencyFixed_kept (State.showForced_kept (State.setF_kept _ _ (State.setF_kept _ _ h)))

theorem State.lockShown_shown (h : regsWf s.regs = true) :
    s.lockShown.on F.CRT_CLKSTAT_LOCK_M = true ∧ s.lockShown.on F.CRT_CLKSTAT_LOCK_L = true := by
  have first : regsWf (s.setF F.CRT_CLKSTAT_LOCK_M 1).regs = true := State.setF_regsWf h _ _
  refine ⟨?_, State.on_setF_same first rfl rfl 1⟩
  exact (State.on_setF_apart first rfl rfl 1).trans (State.on_setF_same h rfl rfl 1)

theorem State.pllsLocked_shown (h : regsWf s.regs = true) :
    s.pllsLocked.on F.CRT_CLKSTAT_LOCK_M = true ∧ s.pllsLocked.on F.CRT_CLKSTAT_LOCK_L = true := by
  have forced : Confined [4] s.lockShown s.pllsLocked :=
    s.lockShown.showForced_confined.thenHidden
    (State.latencyFixed_regs _) (State.latencyFixed_base _)
  obtain ⟨lockM, lockL⟩ := State.lockShown_shown h
  exact ⟨(forced.on (by decide) (by decide +kernel)).trans lockM, (forced.on (by decide) (by decide +kernel)).trans lockL⟩

/-- The lock changes no bit of thermal watch. -/
theorem State.pllsLocked_thm (s : State) : s.pllsLocked.on F.THM_STAT_HOLD = s.on F.THM_STAT_HOLD ∧
    s.pllsLocked.on F.THM_STAT_LATCH = s.on F.THM_STAT_LATCH :=
  ⟨s.pllsLocked_confined.on (by decide) (by decide +kernel), s.pllsLocked_confined.on (by decide) (by decide +kernel)⟩

/-- Nothing holds the boot: step 3 starts. -/
theorem pllLock_flash (hs : s.wf = true) (hb : s.boot.stage = .pll) (hh : s.on F.THM_STAT_HOLD = false)
    (hl : s.on F.THM_STAT_LATCH = false) :
    ∃ t, exec .pllLock s = .next t ∧ t.boot.stage = .flash ∧ t.f F.BOOT_STAT_PHASE = 3 ∧ t.on F.CRT_CLKSTAT_LOCK_M = true ∧
      t.on F.CRT_CLKSTAT_LOCK_L = true ∧ t.on F.BOOT_STAT_RECOVERY = false ∧ t.boot.alone = false ∧
      (∀ a, a < 0x200000 → t.mb a = (memReset a).toNat) ∧ outside [0, 1, 4] s t ∧ ∀ a, 0x200000 ≤ a → t.mb a = s.mb a := by
  have locked := s.pllsLocked_confined
  obtain ⟨thmHold, thmLatch⟩ := s.pllsLocked_thm
  obtain ⟨lockM, lockL⟩ := State.pllsLocked_shown (State.wf_regs hs)
  have same := s.pllsLocked.bootFlash_same
  obtain ⟨phase, recovery⟩ := State.bootFlash_shown (State.pllsLocked_kept (State.wf_iff_kept.mp hs)).1
  obtain ⟨below, above⟩ := s.pllsLocked.mb_bootFlash
  refine ⟨s.pllsLocked.bootFlash, ?_, rfl, phase, ?_, ?_, recovery, rfl, below, ?_,
    fun a ha => (above a ha).trans (locked.sameMem a)⟩
  · rw [exec_pllLock hb, thmHold, thmLatch, hh, hl]
    rfl
  · rw [State.on_of_rd (same F.CRT_CLKSTAT_LOCK_M.addr (by decide)), lockM]
  · rw [State.on_of_rd (same F.CRT_CLKSTAT_LOCK_L.addr (by decide)), lockL]
  · exact (locked.regs.mono (by decide)).trans (outside_of_sameRegs same (by decide))

/-- The halt, at stage `held`. -/
def State.haltHeld (s : State) : State := (s.setThm (fun x => { x with halt := true })).toStage .held

theorem State.haltHeld_regs (s : State) : s.haltHeld.regs = s.regs := rfl

theorem State.haltHeld_kept (h : s.Kept pq) : s.haltHeld.Kept pq := h

/-- Step 2 is shown, and the halt. -/
def State.heldShown (s : State) : State := (s.haltHeld).phase 2

theorem State.stepHeld_eq (s : State) : s.stepHeld = s.heldShown.setUnit 5 := rfl

theorem State.heldShown_halt (s : State) : s.heldShown.thm.halt = true := rfl

theorem State.heldShown_stage (s : State) : s.heldShown.boot.stage = .held := rfl

theorem State.heldShown_mem (s : State) : s.heldShown.mem = s.mem := rfl

theorem State.heldShown_outside (s : State) : outside [1] s s.heldShown := by
  unfold State.heldShown State.phase
  exact (outside.ofRegs s.haltHeld_regs).thenSetF (by decide) 2

theorem State.heldShown_kept (h : s.Kept pq) : s.heldShown.Kept pq := State.setF_kept _ _ (State.haltHeld_kept h)

theorem State.heldShown_phase (h : s.Kept pq) : s.heldShown.f F.BOOT_STAT_PHASE = 2 :=
  State.f_setF_same (State.haltHeld_kept h).1 (by decide) 2

theorem State.stepHeld_shown (h : s.Kept pq) : s.stepHeld.boot.stage = .held ∧ s.stepHeld.f F.BOOT_STAT_PHASE = 2 ∧
    s.stepHeld.halted = true ∧ s.stepHeld.unitCode = 5 := by
  have unit := s.heldShown.setUnit_confined 5
  rw [State.stepHeld_eq]
  refine ⟨?_, ?_, ?_, State.setUnit_code (State.heldShown_kept h) (by decide)⟩
  · rw [unit.boot, State.heldShown_stage]
  · rw [unit.f (by decide) (by decide +kernel), State.heldShown_phase h]
  · rw [State.halted, unit.halt, State.heldShown_halt]

theorem State.stepHeld_outside (s : State) : outside [1, 5, 9, 14] s s.stepHeld := by
  rw [State.stepHeld_eq]
  exact (s.heldShown_outside.mono (by decide)).trans ((s.heldShown.setUnit_confined 5).regs.mono (by decide))

theorem State.stepHeld_mem (s : State) : s.stepHeld.mem = s.mem := by
  rw [State.stepHeld_eq, (s.heldShown.setUnit_confined 5).mem, State.heldShown_mem]

/-- Thermal watch holds the boot at step 2. -/
theorem pllLock_held (hs : s.wf = true) (hb : s.boot.stage = .pll)
    (hh : s.on F.THM_STAT_HOLD = true ∨ s.on F.THM_STAT_LATCH = true) :
    ∃ t, exec .pllLock s = .next t ∧ t.boot.stage = .held ∧ t.f F.BOOT_STAT_PHASE = 2 ∧ t.on F.CRT_CLKSTAT_LOCK_M = true ∧
      t.on F.CRT_CLKSTAT_LOCK_L = true ∧ t.halted = true ∧ t.unitCode = 5 ∧ outside [0, 1, 4, 5, 9, 14] s t ∧
      sameMem s t := by
  have locked := s.pllsLocked_confined
  obtain ⟨thmHold, thmLatch⟩ := s.pllsLocked_thm
  obtain ⟨lockM, lockL⟩ := State.pllsLocked_shown (State.wf_regs hs)
  obtain ⟨stage, phase, halted, code⟩ := State.stepHeld_shown (State.pllsLocked_kept (State.wf_iff_kept.mp hs))
  have held := s.pllsLocked.stepHeld_outside
  refine ⟨s.pllsLocked.stepHeld, ?_, stage, phase, ?_, ?_, halted, code,
    (locked.regs.mono (by decide)).trans (held.mono (by decide)), sameMem.ofMem (s.pllsLocked.stepHeld_mem.trans locked.mem)⟩
  · rw [exec_pllLock hb, thmHold, thmLatch, if_pos (by simpa using hh)]
  · rw [State.on_of_rd (held F.CRT_CLKSTAT_LOCK_M.addr (by decide) (by decide +kernel)), lockM]
  · rw [State.on_of_rd (held F.CRT_CLKSTAT_LOCK_L.addr (by decide) (by decide +kernel)), lockL]

/-! #### The end of step 8 -/

theorem exec_initialCalibrationDone {cal : CalResults} (hc : cal.wf = true) (h : s.boot.stage = .calib) :
    exec (.initialCalibrationDone cal) s = .next ((s.calibrateAll cal true).convertersReady).frameStart := by
  have run : exec (.initialCalibrationDone cal) s = execInitialCalibrationDone cal s := rfl
  rw [run, execInitialCalibrationDone, hc, if_pos h]
  rfl

theorem State.convertersOn_regs (s : State) : s.convertersOn.regs = s.regs := rfl

theorem State.convertersOn_ready (s : State) : s.convertersOn.adc.ready = true := rfl

theorem State.convertersOn_mem (s : State) : s.convertersOn.mem = s.mem := rfl

/-- The converters run, and the frame counter with them (R70). -/
theorem calibrated {cal : CalResults} (hs : s.wf = true) (hc : cal.wf = true) (hb : s.boot.stage = .calib) :
    ∃ t, exec (.initialCalibrationDone cal) s = .next t ∧ t = ((s.calibrateAll cal true).convertersReady).frameStart ∧
      t.boot.stage = .run ∧ t.boot.counting = true ∧ t.adc.ready = true ∧ t.f F.BOOT_STAT_PHASE = 9 ∧
      outside [1, 2, 4, 7, 8, 9] s t ∧ sameMem s t := by
  have judged := s.calibrateAll_confined cal
  have on := (s.calibrateAll cal true).convertersReady_confined
  have kept := State.convertersReady_kept (State.calibrateAll_kept cal true (State.wf_iff_kept.mp hs))
  have boot := (s.calibrateAll cal true).convertersReady.frameStart_boot
  refine ⟨_, exec_initialCalibrationDone hc hb, rfl, congrArg Boot.stage boot, congrArg Boot.counting boot, ?_,
    State.frameStart_phase kept.1, ?_, sameMem.ofMem ?_⟩
  · rw [State.frameStart_ready, on.ready, State.convertersOn_ready]
  · exact (judged.regs.mono (by decide)).trans
      (((outside.ofRegs (State.convertersOn_regs _)).trans (on.regs.mono (by decide))).trans
        ((State.frameStart_outside _).mono (by decide)))
  · rw [State.frameStart_mem, on.mem, State.convertersOn_mem, judged.mem]

theorem State.toStage_regs (s : State) (st : BootStage) : (s.toStage st).regs = s.regs := rfl

theorem State.toStage_mem (s : State) (st : BootStage) : (s.toStage st).mem = s.mem := rfl

theorem State.on_of_regs {t : State} (h : t.regs = s.regs) (x : Fld) : t.on x = s.on x :=
  State.on_of_rd (by rw [State.rd_eq, State.rd_eq, h])

/-- A failed self-test (R66). -/
theorem exec_bistFails {march crc : Bool} (hs : s.wf = true) (hb : s.boot.stage = .selfTest)
    (failed : (march && crc) = false) :
    ∃ t, exec (.memorySelfTestDone march crc) s = .next t ∧ t.boot.stage = .bistFail ∧ t.on F.BOOT_STAT_BIST_FAIL = true ∧
      sameRegs s t [F.BOOT_STAT_BIST_FAIL.addr] ∧ sameMem s t := by
  refine ⟨(s.setF F.BOOT_STAT_BIST_FAIL 1).toStage .bistFail, ?_, rfl, ?_, ?_, sameMem.ofMem ?_⟩
  · rw [exec_memorySelfTestDone hb, failed, if_neg (by decide)]
  · rw [State.on_of_regs (State.toStage_regs _ _), State.on_setF_same (State.wf_regs hs) (by decide) rfl]
    rfl
  · exact (sameRegs.setF s 1 List.mem_cons_self).trans (sameRegs.ofRegs (State.toStage_regs _ _))
  · rw [State.toStage_mem, State.setF_mem]

end BootSteps

/-- Settles O8: each step's command moves the stage and PHASE; what else it writes stays within its blocks. -/
theorem bootStepsFollow : Obligations.BootStepsFollow := by
  refine ⟨fun s hs hb => ?_, fun s => pllLock_flash, fun s => pllLock_held, fun s hs hb hm => ?_, fun s hs hb hm => ?_,
    fun s march crc hs hb failed => exec_bistFails hs hb failed, fun s hs hb => ?_, fun s cal => calibrated⟩
  · obtain ⟨stage, phase, same, mem⟩ := State.step_shown (State.wf_regs hs) .pll (k := 1) (by decide)
    exact ⟨_, exec_resetRelease hb, stage, phase, rfl, same, mem⟩
  · refine ⟨_, exec_memorySelfTestDone hb true true, ?_⟩
    rw [if_pos (by decide), if_pos hm]
    exact State.step_shown (State.wf_regs hs) .link (k := 6) (by decide)
  · refine ⟨_, exec_memorySelfTestDone hb true true, ?_⟩
    rw [if_pos (by decide), if_neg hm]
    exact State.step_shown (State.wf_regs hs) .unit (k := 7) (by decide)
  · exact ⟨_, exec_linkBringupTimeout hb, State.step_shown (State.wf_regs hs) .unit (k := 7) (by decide)⟩

end Sys2Proof.Machine

namespace Sys2Proof.Machine

/-! ### Step 7 (R68, R69, R446, R460, R467) -/

section StepSeven

variable {s t u : State} {pq : List Instr}

/-- Step 7 is decided with the level of CUR_SEL: UNIT changes from none to the first state (log entry 37), SELIN follows. -/
def State.decidedWith (s : State) (sel : Bool) : State :=
  let s := { s with boot := { s.boot with decided := true } }
  let s := s.cond (!s.curator) (·.setF F.SVC_IRQST_UNIT 1)
  s.cond s.paired (·.setB F.PAIR_STAT_SELIN sel)

/-- An ACTIVE peer does not match (R467). -/
def State.badPeer (s : State) : Bool := s.f F.PAIR_MISMATCH_FIELD != 0 && s.f F.PAIR_STAT_PEERSTATE == 0

/-- A unit that is not ACTIVE goes straight to the frame counter (R69). -/
def State.runsAs (s : State) (code : Nat) : State := (s.setUnit code).frameStart.bootReads

/-- A peer that is there is told what the unit is compatible with. -/
def State.compatTold (s : State) : State := s.cond s.linkUp (fun t => t.linkSend (.compat t.compatBytes))

/-- Step 8 starts. -/
def State.calibStarts (s : State) : State := ((s.toStage .calib).phase 8).powerUpCores

/-- An ACTIVE unit goes on to calibration (R69). -/
def State.runsActive (s : State) : State := (((s.setUnit 0).bootReads).renumber.dualTest).compatTold.calibStarts

theorem exec_unitStateDecided (h : s.boot.stage = .unit) (sel : Bool) : exec (.unitStateDecided sel) s =
    .next (if (s.decidedWith sel).curator then (s.decidedWith sel).holdPlant.countStart
      else if (s.decidedWith sel).paired && (s.decidedWith sel).badPeer then (s.decidedWith sel).runsAs 4
      else if (s.decidedWith sel).paired && !sel then (s.decidedWith sel).runsAs 1
      else (s.decidedWith sel).runsActive) := by
  have run : exec (.unitStateDecided sel) s = execUnitStateDecided sel s := rfl
  rw [run, execUnitStateDecided, if_pos h]
  rfl

/-! #### The decision -/

/-- The decision is noted. -/
def State.noteDecided (s : State) : State := { s with boot := { s.boot with decided := true } }

theorem State.noteDecided_kept (h : s.Kept pq) : s.noteDecided.Kept pq := h

theorem State.curator_iff : s.curator = true ↔ s.f F.PAIR_CFG_MODE = 2 := beq_iff_eq

theorem State.paired_iff : s.paired = true ↔ s.f F.PAIR_CFG_MODE = 1 := beq_iff_eq

theorem State.paired_of_rd (h : t.rd F.PAIR_CFG_MODE.addr = s.rd F.PAIR_CFG_MODE.addr) : t.paired = s.paired := by
  unfold State.paired State.f
  rw [h]

/-- A Curator is not paired, and its step 7 shows neither UNIT nor SELIN. -/
theorem State.decidedWith_curator (h : s.curator = true) (sel : Bool) : s.decidedWith sel = s.noteDecided := by
  have mode : s.noteDecided.curator = true := h
  have alone : s.noteDecided.paired = false :=
    Bool.eq_false_iff.mpr fun p => absurd ((State.paired_iff.mp p).symm.trans (State.curator_iff.mp h)) (by decide)
  have plain : s.noteDecided.cond (!s.noteDecided.curator) (·.setF F.SVC_IRQST_UNIT 1) = s.noteDecided := by
    rw [mode]
    rfl
  have whole : s.decidedWith sel = (s.noteDecided.cond (!s.noteDecided.curator) (·.setF F.SVC_IRQST_UNIT 1)).cond
    (s.noteDecided.cond (!s.noteDecided.curator) (·.setF F.SVC_IRQST_UNIT 1)).paired (·.setB F.PAIR_STAT_SELIN sel) := rfl
  rw [whole, plain, alone]
  rfl

/-- The first unit state is noted in UNIT. -/
def State.unitNoted (s : State) : State := s.noteDecided.setF F.SVC_IRQST_UNIT 1

theorem State.rd_unitNoted {a : Nat} (h : a ≠ F.SVC_IRQST_UNIT.addr) (s : State) : s.unitNoted.rd a = s.rd a :=
  (State.rd_setF_ne _ 1 h).trans rfl

theorem State.decidedWith_unit (h : s.curator = false) (sel : Bool) :
    s.decidedWith sel = if s.paired then s.unitNoted.setB F.PAIR_STAT_SELIN sel else s.unitNoted := by
  have mode : s.noteDecided.curator = false := h
  have noted : s.noteDecided.cond (!s.noteDecided.curator) (·.setF F.SVC_IRQST_UNIT 1) = s.unitNoted := by
    rw [mode]
    rfl
  have alike : s.unitNoted.paired = s.paired := State.paired_of_rd (State.rd_unitNoted (by decide) s)
  have whole : s.decidedWith sel = (s.noteDecided.cond (!s.noteDecided.curator) (·.setF F.SVC_IRQST_UNIT 1)).cond
    (s.noteDecided.cond (!s.noteDecided.curator) (·.setF F.SVC_IRQST_UNIT 1)).paired (·.setB F.PAIR_STAT_SELIN sel) := rfl
  rw [whole, noted, alike]
  rfl

theorem State.unitNoted_kept (h : s.Kept pq) : s.unitNoted.Kept pq := State.setF_kept _ _ (State.noteDecided_kept h)

theorem State.unitNoted_boot (s : State) : s.unitNoted.boot = { s.boot with decided := true } := State.setF_boot ..

theorem State.unitNoted_irq (h : s.Kept pq) : s.unitNoted.on F.SVC_IRQST_UNIT = true :=
  State.on_setF_same (State.noteDecided_kept h).1 rfl rfl 1

/-- What the decision leaves of a unit that is no Curator: who it is, its peer, and what it notes. -/
structure Decided (s t : State) (sel : Bool) (pq : List Instr) : Prop where
  kept : t.Kept pq
  boot : t.boot = { s.boot with decided := true }
  curator : t.curator = false
  paired : t.paired = s.paired
  bad : t.badPeer = s.badPeer
  irq : t.on F.SVC_IRQST_UNIT = true
  selin : s.paired = true → t.on F.PAIR_STAT_SELIN = sel

theorem State.badPeer_of_f (hm : t.f F.PAIR_MISMATCH_FIELD = s.f F.PAIR_MISMATCH_FIELD)
    (hp : t.f F.PAIR_STAT_PEERSTATE = s.f F.PAIR_STAT_PEERSTATE) : t.badPeer = s.badPeer := by
  unfold State.badPeer
  rw [hm, hp]

theorem State.decidedWith_decided (h : s.Kept pq) (hc : s.curator = false) (sel : Bool) :
    Decided s (s.decidedWith sel) sel pq := by
  have kept := State.unitNoted_kept h
  have mode : s.unitNoted.rd F.PAIR_CFG_MODE.addr = s.rd F.PAIR_CFG_MODE.addr := State.rd_unitNoted (by decide) s
  have mismatch : s.unitNoted.f F.PAIR_MISMATCH_FIELD = s.f F.PAIR_MISMATCH_FIELD :=
    State.f_of_rd (State.rd_unitNoted (by decide) s)
  have peer : s.unitNoted.f F.PAIR_STAT_PEERSTATE = s.f F.PAIR_STAT_PEERSTATE :=
    State.f_of_rd (State.rd_unitNoted (by decide) s)
  rw [State.decidedWith_unit hc]
  cases hp : s.paired with
  | false =>
    exact ⟨kept, s.unitNoted_boot, (State.curator_of_rd mode).trans hc, State.paired_of_rd mode,
      State.badPeer_of_f mismatch peer, State.unitNoted_irq h, fun e => absurd (hp.symm.trans e) (by decide)⟩
  | true =>
    have rd : ∀ a, a ≠ F.PAIR_STAT_SELIN.addr → (s.unitNoted.setB F.PAIR_STAT_SELIN sel).rd a = s.unitNoted.rd a :=
      fun a ha => State.rd_setF_ne _ _ ha
    have mode := (rd _ (by decide)).trans mode
    refine ⟨State.setB_kept _ _ kept, (State.setF_boot ..).trans s.unitNoted_boot, (State.curator_of_rd mode).trans hc,
      State.paired_of_rd mode, ?_, ?_, fun _ => ?_⟩
    · refine State.badPeer_of_f ((State.f_of_rd (rd _ (by decide))).trans mismatch) (.trans ?_ peer)
      exact State.f_setF_apart kept.1 (by decide) (by decide) _
    · exact (State.on_of_rd (rd _ (by decide))).trans (State.unitNoted_irq h)
    · refine (State.on_setF_same kept.1 (by decide) rfl _).trans ?_
      cases sel <;> rfl

/-! #### What the steps after the decision leave of the unit state -/

/-- `t` shows the unit state of `s`, with UNIT and SELIN. -/
structure UnitSame (s t : State) : Prop where
  code : t.unitCode = s.unitCode
  irq : t.on F.SVC_IRQST_UNIT = s.on F.SVC_IRQST_UNIT
  selin : t.on F.PAIR_STAT_SELIN = s.on F.PAIR_STAT_SELIN

theorem UnitSame.trans (h : UnitSame s t) (k : UnitSame t u) : UnitSame s u :=
  ⟨k.code.trans h.code, k.irq.trans h.irq, k.selin.trans h.selin⟩

theorem outside.unitSame {l : List Nat} (h : outside l s t) (hp : 9 ∉ l) (hi : 14 ∉ l) : UnitSame s t := by
  have pair : t.rd F.PAIR_STAT_STATE.addr = s.rd F.PAIR_STAT_STATE.addr := h _ hp (by decide +kernel)
  exact ⟨State.f_of_rd pair, State.on_of_rd (h _ hi (by decide +kernel)), State.on_of_rd pair⟩

theorem UnitSame.ofRegs (h : t.regs = s.regs) : UnitSame s t :=
  (outside.ofRegs (l := []) h).unitSame List.not_mem_nil List.not_mem_nil

theorem UnitSame.setF (h : s.Kept pq) {x : Fld} (hx : x.fits = true) (hs : x.apart F.PAIR_STAT_STATE = true)
    (hi : x.apart F.SVC_IRQST_UNIT = true) (hl : x.apart F.PAIR_STAT_SELIN = true) (v : Nat) : UnitSame s (s.setF x v) :=
  ⟨State.f_setF_apart h.1 hx hs v, State.on_setF_apart h.1 hx hi v, State.on_setF_apart h.1 hx hl v⟩

theorem State.setUnit_irq (h : s.Kept pq) (hu : s.on F.SVC_IRQST_UNIT = true) (code : Nat) :
    (s.setUnit code).on F.SVC_IRQST_UNIT = true := by
  rw [State.setUnit_eq]
  split
  · exact hu
  · exact State.on_setF_same (State.setF_kept _ _ (State.activeEnds_kept h)).1 rfl rfl 1

theorem State.activeEnds_selin (h : s.Kept pq) : s.activeEnds.on F.PAIR_STAT_SELIN = s.on F.PAIR_STAT_SELIN := by
  have first := State.setF_kept F.PAIR_FAILSRC_SRC 0 h
  have ends := (State.gensAbort_confined ((s.setF F.PAIR_FAILSRC_SRC 0).setF F.PAIR_STAT_DUAL 0) 0).trans
    (State.capEnd_confined _ false)
  unfold State.activeEnds
  split
  · rw [ends.on (by decide) (by decide +kernel), State.on_setF_apart first.1 (by decide) (by decide),
      State.on_setF_apart h.1 (by decide) (by decide)]
  · rfl

theorem State.setUnit_selin (h : s.Kept pq) (code : Nat) :
    (s.setUnit code).on F.PAIR_STAT_SELIN = s.on F.PAIR_STAT_SELIN := by
  have ends := State.activeEnds_kept h
  rw [State.setUnit_eq]
  split
  · rfl
  · rw [State.on_setF_apart (State.setF_kept _ _ ends).1 (by decide) (by decide),
      State.on_setF_apart ends.1 (by decide) (by decide), State.activeEnds_selin h]

/-! #### What Folio's reads at the boot leave -/

/-- Beside memory, Folio's registers and counters, `t` differs from `s` in the unit's COLD at most. -/
structure OnlyCold (s t : State) : Prop where
  regs : outside [9, 10] s t
  stat : ∀ x : Fld, x.addr = F.PAIR_STAT_COLD.addr → F.PAIR_STAT_COLD.apart x = true → t.f x = s.f x
  boot : t.boot = s.boot

theorem OnlyCold.ofOutside (h : outside [10] s t) (hb : t.boot = s.boot) : OnlyCold s t :=
  ⟨h.mono (by decide), fun x hx _ => State.f_of_rd (by rw [hx]; exact h _ (by decide) (by decide +kernel)), hb⟩

theorem OnlyCold.refl (s : State) : OnlyCold s s := .ofOutside (outside.refl s) rfl

theorem OnlyCold.trans (h : OnlyCold s t) (k : OnlyCold t u) : OnlyCold s u :=
  ⟨h.regs.trans k.regs, fun x hx ha => (k.stat x hx ha).trans (h.stat x hx ha), k.boot.trans h.boot⟩

theorem OnlyCold.cold (h : s.Kept pq) (v : Nat) : OnlyCold s (s.setF F.PAIR_STAT_COLD v) :=
  ⟨(outside.refl s).thenSetF (by decide) v, fun _ _ ha => State.f_setF_apart h.1 (by decide) ha v, State.setF_boot ..⟩

theorem OnlyCold.unitSame (h : OnlyCold s t) : UnitSame s t :=
  ⟨h.stat _ rfl rfl, State.on_of_rd (h.regs _ (by decide) (by decide +kernel)),
    congrArg (· == 1) (h.stat F.PAIR_STAT_SELIN rfl rfl)⟩

/-- Bytes of memory are stored, COLD is set, and a hidden part of the pair follows. -/
theorem OnlyCold.stored (h : s.Kept pq) (a : Nat) (l : List Byte) (p : Pair) :
    OnlyCold s { (s.setBytes a l).setF F.PAIR_STAT_COLD 1 with pair := p } := by
  have bytes : OnlyCold s (s.setBytes a l) := .ofOutside (outside.ofRegs rfl) rfl
  have cold := bytes.trans (OnlyCold.cold (State.setBytes_kept a l h) 1)
  generalize (s.setBytes a l).setF F.PAIR_STAT_COLD 1 = t at cold
  exact cold.trans (.ofOutside (outside.ofRegs rfl) rfl)

theorem State.folFail_confined (s : State) (p : Nat) : Confined [10] s (s.folFail p) := by
  have page := (Confined.refl (l := [10]) s).thenSetF (x := F.FOL_TORN_LASTPG) (by decide) p
  unfold State.folFail
  exact Confined.ite (fun _ => (page.thenSetF (by decide) 1).thenCount (by decide) 170) fun _ =>
    (page.thenSetF (by decide) 1).thenCount (by decide) 171

theorem State.folRead_confined (s : State) (o n : Nat) : Confined [10] s (s.folRead o n).1 := by
  unfold State.folRead
  refine List.foldlRecOn (motive := fun r : State × List Byte × Bool => Confined [10] s r.1) _ _ (.refl s)
    fun r hr k _ => ?_
  split
  · exact hr
  · exact hr.trans (State.folFail_confined ..)

theorem State.folRead_onlyCold (s : State) (o n : Nat) : OnlyCold s (s.folRead o n).1 :=
  .ofOutside (s.folRead_confined o n).regs (s.folRead_confined o n).boot

theorem State.eachSetM_regs {α : Type} (f g : α → Nat) (v w : α → Nat) (xs : List α) (s : State) :
    (s.each xs (fun t x => (t.setM (f x) (v x)).setM (g x) (w x))).regs = s.regs :=
  sameIn.each (p := State.regs) (f := fun t x => (t.setM (f x) (v x)).setM (g x) (w x)) (fun _ _ => rfl) xs s

theorem State.eachSetM_boot {α : Type} (f g : α → Nat) (v w : α → Nat) (xs : List α) (s : State) :
    (s.each xs (fun t x => (t.setM (f x) (v x)).setM (g x) (w x))).boot = s.boot :=
  sameIn.each (p := State.boot) (f := fun t x => (t.setM (f x) (v x)).setM (g x) (w x)) (fun _ _ => rfl) xs s

theorem State.restoreRates_onlyCold (s : State) : OnlyCold s s.restoreRates := by
  have read := (s.folRead_onlyCold 0x10300 512).trans ((s.folRead 0x10300 512).1.folRead_onlyCold 0x10500 8)
  unfold State.restoreRates
  dsimp only
  split
  · exact read.trans (.ofOutside (outside.ofRegs (State.eachSetM_regs ..)) (State.eachSetM_boot ..))
  · exact read

theorem State.loadVault_onlyCold (h : s.Kept pq) : OnlyCold s s.loadVault := by
  have head := s.folRead_onlyCold 0 256
  have body := (s.folRead 0 256).1.folRead_onlyCold 0x100 ((s.folRead 0 256).1.planEnd - 0x100)
  have read := State.folRead_kept 0x100 ((s.folRead 0 256).1.planEnd - 0x100) (State.folRead_kept 0 256 h)
  unfold State.loadVault
  split
  · exact .refl s
  · dsimp only
    split
    · exact (head.trans body).trans (OnlyCold.stored read _ _ _)
    · exact head

/-- Whether Folio is still to be read at the boot is noted. -/
def State.noteReads (s : State) (b : Bool) : State := { s with boot := { s.boot with reads := b } }

theorem State.bootReads_eq (s : State) : s.bootReads =
    if s.boot.recalled && s.boot.decided && !s.on F.BOOT_STAT_RECOVERY then
      if s.folFree then (s.noteReads (!s.folFree)).restoreRates.loadVault else s.noteReads (!s.folFree)
    else s := rfl

/-- The reads leave the unit state, the step that is shown, and the boot but for the note of them. -/
theorem State.bootReads_shown (h : s.Kept pq) : UnitSame s s.bootReads ∧ s.bootReads.Kept pq ∧
    s.bootReads.f F.BOOT_STAT_PHASE = s.f F.BOOT_STAT_PHASE ∧ ∃ b, s.bootReads.boot = { s.boot with reads := b } := by
  have noted : ∀ b, UnitSame s (s.noteReads b) := fun b => .ofRegs rfl
  have read := ((s.noteReads (!s.folFree)).restoreRates_onlyCold).trans
    (State.loadVault_onlyCold (State.restoreRates_kept (s := s.noteReads (!s.folFree)) h))
  refine ⟨?_, State.bootReads_kept h, ?_, ?_⟩ <;> rw [State.bootReads_eq] <;> split
  · split
    · exact (noted _).trans read.unitSame
    · exact noted _
  · exact .ofRegs rfl
  · split
    · exact State.f_of_rd (read.regs _ (by decide) (by decide +kernel))
    · rfl
  · rfl
  · split
    · exact ⟨_, read.boot⟩
    · exact ⟨_, rfl⟩
  · exact ⟨s.boot.reads, rfl⟩

/-! #### Into the frame counter, and into calibration -/

/-- A unit that is not ACTIVE: the frame counter runs, the state is shown. -/
theorem State.runsAs_shown (h : s.Kept pq) {code : Nat} (hc : code < 8) :
    (s.runsAs code).boot.stage = .run ∧ (s.runsAs code).boot.counting = true ∧ (s.runsAs code).unitCode = code ∧
      (s.runsAs code).f F.BOOT_STAT_PHASE = 9 ∧
      (s.on F.SVC_IRQST_UNIT = true → (s.runsAs code).on F.SVC_IRQST_UNIT = true) ∧
      (s.runsAs code).on F.PAIR_STAT_SELIN = s.on F.PAIR_STAT_SELIN := by
  have unit := State.setUnit_kept code h
  have started := (s.setUnit code).frameStart_outside.unitSame (by decide) (by decide)
  obtain ⟨read, -, phase, b, boot⟩ := State.bootReads_shown (State.frameStart_kept unit)
  have same := started.trans read
  have whole : (s.runsAs code).boot = { (s.setUnit code).boot with counting := true, stage := .run, reads := b } := by
    rw [State.runsAs, boot, State.frameStart_boot]
  refine ⟨congrArg Boot.stage whole, congrArg Boot.counting whole, same.code.trans (State.setUnit_code h hc),
    phase.trans (State.frameStart_phase unit.1), fun on => same.irq.trans (State.setUnit_irq h on code),
    same.selin.trans (State.setUnit_selin h code)⟩

theorem State.renumber_regs (s : State) : s.renumber.regs = s.regs := State.setPair_regs ..

theorem State.renumber_boot (s : State) : s.renumber.boot = s.boot := State.setPair_boot ..

theorem State.dualTest_boot (s : State) : s.dualTest.boot = s.boot := State.setF_boot ..

theorem State.dualTest_unitSame (h : s.Kept pq) : UnitSame s s.dualTest :=
  .setF h (by decide) (by decide) (by decide) (by decide) _

theorem State.linkSend_regs (s : State) (x : LinkOut) : (s.linkSend x).regs = s.regs := rfl

theorem State.linkSend_boot (s : State) (x : LinkOut) : (s.linkSend x).boot = s.boot := rfl

theorem State.compatTold_regs (s : State) : s.compatTold.regs = s.regs := by
  unfold State.compatTold State.cond
  split
  · exact State.linkSend_regs ..
  · rfl

theorem State.compatTold_boot (s : State) : s.compatTold.boot = s.boot := by
  unfold State.compatTold State.cond
  split
  · exact State.linkSend_boot ..
  · rfl

theorem State.compatTold_kept (h : s.Kept pq) : s.compatTold.Kept pq := by
  unfold State.compatTold State.cond
  split
  · exact State.linkSend_kept _ h
  · exact h

/-- Step 8 is shown, the unit state stays. -/
theorem State.calibStarts_shown (h : s.Kept pq) : UnitSame s s.calibStarts ∧ s.calibStarts.f F.BOOT_STAT_PHASE = 8 ∧
    s.calibStarts.boot = { s.boot with stage := .calib } := by
  have staged : (s.toStage .calib).Kept pq := State.toStage_kept _ h
  have power := ((s.toStage .calib).phase 8).powerUpCores_confined
  have shown : UnitSame (s.toStage .calib) ((s.toStage .calib).phase 8) :=
    .setF staged (by decide) (by decide) (by decide) (by decide) 8
  have same := ((UnitSame.ofRegs (State.toStage_regs ..)).trans shown).trans
    (power.regs.unitSame (by decide) (by decide))
  refine ⟨same, ?_, ?_⟩
  · exact (power.f (by decide) (by decide +kernel)).trans (State.f_setF_same staged.1 (by decide) 8)
  · rw [State.calibStarts, power.boot, State.phase, State.setF_boot]
    rfl

/-- An ACTIVE unit: calibration starts, the state is shown. -/
theorem State.runsActive_shown (h : s.Kept pq) :
    s.runsActive.boot.stage = .calib ∧ s.runsActive.boot.decided = s.boot.decided ∧ s.runsActive.unitCode = 0 ∧
      s.runsActive.f F.BOOT_STAT_PHASE = 8 ∧
      (s.on F.SVC_IRQST_UNIT = true → s.runsActive.on F.SVC_IRQST_UNIT = true) ∧
      s.runsActive.on F.PAIR_STAT_SELIN = s.on F.PAIR_STAT_SELIN := by
  have unit := State.setUnit_kept 0 h
  obtain ⟨read, readKept, -, b, readBoot⟩ := State.bootReads_shown unit
  have numbered := State.renumber_kept readKept
  have told := State.compatTold_kept (State.dualTest_kept numbered)
  obtain ⟨calib, phase, boot⟩ := State.calibStarts_shown told
  have same := (((read.trans (.ofRegs (State.renumber_regs _))).trans (State.dualTest_unitSame numbered)).trans
    (.ofRegs (State.compatTold_regs _))).trans calib
  have whole : s.runsActive.boot = { s.boot with stage := .calib, reads := b } := by
    rw [State.runsActive, boot, State.compatTold_boot, State.dualTest_boot, State.renumber_boot, readBoot,
      (s.setUnit_confined 0).boot]
  refine ⟨congrArg Boot.stage whole, (congrArg Boot.decided whole).trans rfl,
    same.code.trans (State.setUnit_code h (by decide)), phase, fun on => same.irq.trans (State.setUnit_irq h on 0),
    same.selin.trans (State.setUnit_selin h 0)⟩

/-! #### A Curator holds the plant in reset -/

/-- Registers, memory and boot. -/
def State.core (s : State) : List (Nat × Word) × List Host.Cell × Boot := (s.regs, s.mem, s.boot)

theorem State.plantHeld_of_core (h : t.core = s.core) : t.plantHeld = s.plantHeld := by
  obtain ⟨regs, -, boot⟩ : t.regs = s.regs ∧ t.mem = s.mem ∧ t.boot = s.boot := by simpa [State.core] using h
  exact State.plantHeld_of_rd (by rw [State.rd_eq, State.rd_eq, regs]) boot

/-- While the plant is held a refusal is not counted. -/
theorem State.refuse_core (h : s.plantHeld = true) (w : Requester) : (s.refCount.reqOutcome w true []).core = s.core := by
  have uncounted : s.refCount = s := by
    rw [State.refCount, h]
    rfl
  rw [uncounted]
  rfl

theorem State.eachRefuse_core {α : Type} (who : α → Requester) (xs : List α) (h : s.plantHeld = true) :
    (s.each xs (fun t x => t.refCount.reqOutcome (who x) true [])).core = s.core := by
  induction xs generalizing s with
  | nil => rfl
  | cons x xs ih =>
    have first := State.refuse_core h (who x)
    exact (ih ((State.plantHeld_of_core first).trans h)).trans first

/-- No transaction of a master is part-way. -/
def State.txnEnded (s : State) : State := s.setFol (fun x => { x with txn := none, held := false })

/-- None waits. -/
def State.txnsEnded (s : State) : State := s.setFol (fun x => { x with txns := [] })

theorem State.folShut_core (h : s.plantHeld = true) : s.folShut.core = s.core := by
  have refused : s.txnEnded.folRefuseAll.core = s.core :=
    State.eachRefuse_core (s := s.txnEnded.txnsEnded) FolTxn.who _ h
  exact (State.eachRefuse_core Req.who _ ((State.plantHeld_of_core refused).trans h)).trans refused

/-- The plant in reset, before Folio's registers follow. -/
theorem State.holdPlant_core (s : State) : ∃ u : State, s.holdPlant = u.folAfter ∧ u.boot = s.folShut.boot ∧
    u.regs = s.folShut.regs.filterMap (fun (e : Nat × Word) => if curatorHeld e.1 then keepAon e else some e) ∧
    u.mem = Memory.clear (Memory.clear s.folShut.mem 0 0x2B800) 0x100000 0x200000 := ⟨_, rfl, rfl, rfl, rfl⟩

theorem State.folAfter_boot (s : State) : s.folAfter.boot = s.boot := (State.setF_boot ..).trans (State.setF_boot ..)

theorem State.folAfter_mem (s : State) : s.folAfter.mem = s.mem := (State.setF_mem ..).trans (State.setF_mem ..)

/-- The registers of a held plant: what AON keeps of those that are held (R460). -/
theorem State.rd_heldPlant (h : s.Kept pq) (hp : s.plantHeld = true) {a : Nat} (hb : a ≠ F.FOL_STAT_BUSY.addr)
    (hr : a ≠ F.FOL_PROT_BP.addr) : s.holdPlant.rd a =
      if curatorHeld a then andN (s.rd a) (aonMask a) + andNot (resetWord a).toNat (aonMask a) else s.rd a := by
  have shut : s.folShut.regs = s.regs := congrArg Prod.fst (State.folShut_core hp)
  have rising : risingFrom 0 s.regs = true := (Bool.and_eq_true_iff.mp h.1).1
  have keys : ∀ e x : Nat × Word, (if curatorHeld e.1 then keepAon e else some e) = some x → x.1 = e.1 := by
    intro e x hx
    split at hx
    · exact (keepAon_some hx).1
    · exact (Option.some.inj hx) ▸ rfl
  obtain ⟨u, held, -, regs, -⟩ := s.holdPlant_core
  rw [held, State.rd_folAfter hb hr, State.rd_eq, regs, shut, lookupAt_filterMap rising _ keys]
  split
  case isTrue held =>
    have kept : ({ s with regs := s.regs.filterMap keepAon } : State).rd a =
        andN (s.rd a) (aonMask a) + andNot (resetWord a).toNat (aonMask a) := rd_keepAon h.1 rfl a
    rw [← kept, State.rd_eq, lookupAt_filterMap rising keepAon (fun _ _ he => (keepAon_some he).1)]
  case isFalse free =>
    rw [State.rd_eq]
    cases lookupAt s.regs a <;> rfl

theorem State.mb_heldPlant (hp : s.plantHeld = true) (a : Nat) : s.holdPlant.mb a =
    if a < 0x2B800 ∨ (0x100000 ≤ a ∧ a < 0x200000) then (memReset a).toNat else s.mb a := by
  have shut : s.folShut.mem = s.mem := congrArg (fun c => c.2.1) (State.folShut_core hp)
  obtain ⟨u, held, -, -, mem⟩ := s.holdPlant_core
  unfold State.mb
  rw [held, State.folAfter_mem, mem, shut, Memory.byte_clear, Memory.byte_clear]
  by_cases high : 0x100000 ≤ a ∧ a < 0x200000
  · rw [if_pos high, if_pos (.inr high)]
  · by_cases low : a < 0x2B800
    · rw [if_neg high, if_pos ⟨Nat.zero_le a, low⟩, if_pos (.inl low)]
    · rw [if_neg high, if_neg (fun c => low c.2), if_neg (fun c => c.elim low high)]

theorem State.holdPlant_boot (hp : s.plantHeld = true) : s.holdPlant.boot = s.boot := by
  have shut : s.folShut.boot = s.boot := congrArg (fun c => c.2.2) (State.folShut_core hp)
  obtain ⟨u, held, boot, -, -⟩ := s.holdPlant_core
  rw [held, State.folAfter_boot, boot, shut]

theorem State.countStart_mem (s : State) : s.countStart.mem = s.mem := rfl

theorem State.countStart_boot (s : State) : s.countStart.boot = { s.boot with counting := true, stage := .run } := rfl

theorem State.rd_countStart {a : Nat} (h : a ≠ F.BOOT_STAT_PHASE.addr) (s : State) : s.countStart.rd a = s.rd a := by
  rw [State.rd_eq, State.countStart_regs, ← State.rd_eq]
  exact State.rd_setF_ne s 9 h

/-- Step 7 of a Curator (R460). -/
theorem curatorDecided (hs : s.wf = true) (hb : s.boot.stage = .unit) (hc : s.curator = true) (sel : Bool) :
    ∃ t, exec (.unitStateDecided sel) s = .next t ∧ t.boot.stage = .run ∧ t.boot.decided = true ∧ t.boot.counting = true ∧
      t.f F.BOOT_STAT_PHASE = 9 ∧ (∀ a, curatorHeld a = true → a ≠ F.FOL_STAT_BUSY.addr → a ≠ F.FOL_PROT_BP.addr →
        t.rd a = andN (s.rd a) (aonMask a) + andNot (resetWord a).toNat (aonMask a)) ∧
      (∀ a, curatorHeld a = false → a ≠ F.BOOT_STAT_PHASE.addr → t.rd a = s.rd a) ∧
      (∀ a, t.mb a = if a < 0x2B800 ∨ (0x100000 ≤ a ∧ a < 0x200000) then (memReset a).toNat else s.mb a) := by
  have kept : s.noteDecided.Kept s.pending := State.noteDecided_kept (State.wf_iff_kept.mp hs)
  have mode : s.noteDecided.curator = true := hc
  have held : s.noteDecided.plantHeld = true := by
    rw [State.plantHeld, mode]
    rfl
  have boot : s.noteDecided.holdPlant.countStart.boot =
      { s.boot with decided := true, counting := true, stage := .run } := by
    rw [State.countStart_boot, State.holdPlant_boot held]
    rfl
  have noted : ∀ a, s.noteDecided.rd a = s.rd a := fun _ => rfl
  refine ⟨s.noteDecided.holdPlant.countStart, ?_, congrArg Boot.stage boot, congrArg Boot.decided boot,
    congrArg Boot.counting boot, State.countStart_phase (State.holdPlant_kept kept).1, fun a ha hb hr => ?_,
    fun a ha hp => ?_, fun a => ?_⟩
  · rw [exec_unitStateDecided hb, State.decidedWith_curator hc, if_pos mode]
  · have off : a ≠ F.BOOT_STAT_PHASE.addr := fun e => absurd ha (by rw [e]; decide)
    rw [State.rd_countStart off, State.rd_heldPlant kept held hb hr, if_pos ha, noted]
  · have busy : a ≠ F.FOL_STAT_BUSY.addr := fun e => absurd ha (by rw [e]; decide)
    have prot : a ≠ F.FOL_PROT_BP.addr := fun e => absurd ha (by rw [e]; decide)
    rw [State.rd_countStart hp, State.rd_heldPlant kept held busy prot, ha, noted]
    rfl
  · have same : s.noteDecided.holdPlant.countStart.mb a = s.noteDecided.holdPlant.mb a :=
      sameMem.ofMem (State.countStart_mem _) a
    rw [same, State.mb_heldPlant held]
    rfl

theorem State.badPeer_false (h : s.f F.PAIR_MISMATCH_FIELD = 0 ∨ s.f F.PAIR_STAT_PEERSTATE ≠ 0) : s.badPeer = false := by
  unfold State.badPeer
  rcases h with h | h
  · rw [h]
    rfl
  · rw [beq_false_of_ne h, Bool.and_false]

theorem State.badPeer_true (hm : s.f F.PAIR_MISMATCH_FIELD ≠ 0) (hp : s.f F.PAIR_STAT_PEERSTATE = 0) :
    s.badPeer = true := by
  unfold State.badPeer
  rw [hp, bne_iff_ne.mpr hm]
  rfl

end StepSeven

/-- Settles O10: the decision notes UNIT and SELIN; the branch that the peer and CUR_SEL choose shows its state. -/
theorem unitStateIsDecided : Obligations.UnitStateIsDecided := by
  refine ⟨fun s sel hs hb hc => curatorDecided hs hb hc sel, fun s sel hs hb hc h => ?_, fun s hs hb hc hp h => ?_,
    fun s sel hs hb hc hp hm hq => ?_⟩
  · have d := State.decidedWith_decided (State.wf_iff_kept.mp hs) hc sel
    obtain ⟨stage, decided, code, phase, irq, selin⟩ := State.runsActive_shown d.kept
    refine ⟨(s.decidedWith sel).runsActive, ?_, stage, decided.trans (congrArg Boot.decided d.boot), code, phase,
      irq d.irq, fun hp => ?_⟩
    · rw [exec_unitStateDecided hb, d.curator, d.paired, d.bad, if_neg (by decide)]
      rcases h with h | ⟨rfl, h⟩
      · rw [h]
        rfl
      · rw [State.badPeer_false h, Bool.and_false, Bool.not_true, Bool.and_false]
        rfl
    · have high : sel = true := h.elim (fun e => absurd (hp.symm.trans e) (by decide)) And.left
      rw [selin, d.selin hp, high]
  · have d := State.decidedWith_decided (State.wf_iff_kept.mp hs) hc false
    obtain ⟨stage, counting, code, phase, irq, selin⟩ := State.runsAs_shown d.kept (code := 1) (by decide)
    refine ⟨(s.decidedWith false).runsAs 1, ?_, stage, counting, code, phase, irq d.irq, selin.trans (d.selin hp)⟩
    rw [exec_unitStateDecided hb, d.curator, d.paired, d.bad, hp, State.badPeer_false h]
    rfl
  · have d := State.decidedWith_decided (State.wf_iff_kept.mp hs) hc sel
    obtain ⟨stage, counting, code, phase, -, selin⟩ := State.runsAs_shown d.kept (code := 4) (by decide)
    refine ⟨(s.decidedWith sel).runsAs 4, ?_, stage, counting, code, phase, selin.trans (d.selin hp)⟩
    rw [exec_unitStateDecided hb, d.curator, d.paired, d.bad, hp, State.badPeer_true hm hq]
    rfl

end Sys2Proof.Machine

namespace Sys2Proof.Machine

/-! ### The staged image (R95, R96) -/

section StagedImage

variable {s t u : State} {pq : List Instr}

/-- In `t` BOOT_STAT, the slot in hand and the staging area are as in `s`. -/
structure StagingSame (s t : State) : Prop where
  stat : t.rd F.BOOT_STAT_PHASE.addr = s.rd F.BOOT_STAT_PHASE.addr
  alone : t.boot.alone = s.boot.alone
  cur : t.boot.cur = s.boot.cur
  area : ∀ a, 0x80000 ≤ a → a < 0x100000 → t.mb a = s.mb a

theorem StagingSame.refl (s : State) : StagingSame s s := ⟨rfl, rfl, rfl, fun _ _ _ => rfl⟩

theorem StagingSame.trans (h : StagingSame s t) (k : StagingSame t u) : StagingSame s u :=
  ⟨k.stat.trans h.stat, k.alone.trans h.alone, k.cur.trans h.cur,
    fun a lo hi => (k.area a lo hi).trans (h.area a lo hi)⟩

theorem StagingSame.ofSame {l : List Nat} (hr : sameRegs s t l) (hl : F.BOOT_STAT_PHASE.addr ∉ l) (hm : t.mem = s.mem)
    (hb : t.boot = s.boot) : StagingSame s t :=
  ⟨hr _ hl, by rw [hb], by rw [hb], fun a _ _ => sameMem.ofMem hm a⟩

theorem StagingSame.thenHidden (h : StagingSame s t) (hr : u.regs = t.regs) (hm : u.mem = t.mem) (hb : u.boot = t.boot) :
    StagingSame s u := h.trans (.ofSame (l := []) (sameRegs.ofRegs hr) List.not_mem_nil hm hb)

theorem StagingSame.thenWr (h : StagingSame s t) {a : Nat} (ha : a ≠ F.BOOT_STAT_PHASE.addr) (v : Nat) :
    StagingSame s (t.wr a v) :=
  h.trans (.ofSame (sameRegs.wr t v List.mem_cons_self) (fun e => ha (List.mem_singleton.mp e).symm) (State.wr_mem ..)
    (State.wr_boot ..))

theorem StagingSame.thenSetF (h : StagingSame s t) {x : Fld} (hx : x.addr ≠ F.BOOT_STAT_PHASE.addr) (v : Nat) :
    StagingSame s (t.setF x v) := h.thenWr hx _

theorem StagingSame.thenSetM (h : StagingSame s t) {a : Nat} (ha : a + 4 ≤ 0x80000 ∨ 0x100000 ≤ a) (v : Nat) :
    StagingSame s (t.setM a v) :=
  h.trans ⟨State.setM_rd .., by rw [State.setM_boot], by rw [State.setM_boot],
    fun b lo hi => State.mb_setM_ne t v (by omega)⟩

theorem StagingSame.thenCount (h : StagingSame s t) {x : Fld} (hx : x.addr ≠ F.BOOT_STAT_PHASE.addr) (src : Nat) :
    StagingSame s (t.count x src) := by
  refine h.trans (.ofSame (t.count_same x src) (fun e => ?_) (State.count_mem ..) ?_)
  · exact (List.mem_cons.mp e).elim (fun e => hx e.symm) fun e => absurd e (by decide +kernel)
  · exact (State.count_regsOnly t x src).pwmOnly.boot

theorem StagingSame.thenEach (h : StagingSame s t) {α : Type} {f : State → α → State} {xs : List α}
    (hf : ∀ x, x ∈ xs → ∀ u, StagingSame u (f u x)) : StagingSame s (t.each xs f) := by
  induction xs generalizing t with
  | nil => exact h
  | cons x xs ih => exact ih (h.trans (hf x List.mem_cons_self t)) fun y hy => hf y (List.mem_cons_of_mem x hy)

theorem StagingSame.ite {c : Prop} [Decidable c] (ht : c → StagingSame s t) (hu : ¬c → StagingSame s u) :
    StagingSame s (if c then t else u) := by
  split
  · exact ht ‹_›
  · exact hu ‹_›

/-! #### A record's words -/

/-- The row of BOOT_STAT. -/
theorem findReg_bootStat : ∃ r, findReg F.BOOT_STAT_PHASE.addr = some r ∧ orN r.rw r.rwl = 0 := by
  have found : (findReg F.BOOT_STAT_PHASE.addr).map (fun r => orN r.rw r.rwl) = some 0 := by decide +kernel
  exact Option.map_eq_some_iff.mp found

theorem stat_not_mem_counterList (a : Nat) : F.BOOT_STAT_PHASE.addr ∉ counterList a := by
  unfold counterList
  split
  case h_17 =>
    split
    · decide
    · split
      · simp only [F.BOOT_STAT_PHASE, List.mem_cons, List.not_mem_nil, or_false]
        omega
      · exact List.not_mem_nil
  all_goals decide

theorem stat_not_mem_clearedBeside (a : Nat) : F.BOOT_STAT_PHASE.addr ∉ clearedBeside a := by
  unfold clearedBeside
  refine fun h => (List.mem_append.mp h).elim (fun h => ?_) fun h => ?_ <;> revert h <;> split
  all_goals decide

theorem State.clearCounters_boot (s : State) (w : Nat) (l : List (Nat × Nat)) : (s.clearCounters w l).boot = s.boot :=
  sameIn.each (p := State.boot) (f := fun (t : State) (q : Nat × Nat) => if bit w q.2 then t.wr q.1 0 else t)
    (fun t q => sameIn.ite (State.wr_boot t q.1 0) (sameIn.refl t)) l s

theorem State.counterClr_boot (s : State) (a w : Nat) : (s.counterClr a w).boot = s.boot := by
  have cleared := s.clearCounters_boot w (counterList a).zipIdx
  rw [State.counterClr_eq]
  split
  · exact Eq.trans (sameIn.each (p := State.boot) (f := fun t k => t.setF (F.CRT_HEAD_MIN k) 0xFFFF)
      (fun _ _ => State.setF_boot ..) _ _) cleared
  · split
    · exact (State.setF_boot ..).trans cleared
    · exact cleared

theorem State.counterClr_staged (s : State) (a w : Nat) : StagingSame s (s.counterClr a w) := by
  refine ⟨?_, by rw [State.counterClr_boot], by rw [State.counterClr_boot],
    fun b _ _ => sameMem.ofMem (s.counterClr_mem a w) b⟩
  exact (s.counterClr_same a w _ (stat_not_mem_clearedBeside a)).trans
    (State.clearCounters_same w (counterList a) 0 s _ (stat_not_mem_counterList a))

theorem State.ledgerZero_staged (s : State) (k : Nat) : StagingSame s (s.ledgerZero k) := by
  unfold State.ledgerZero
  refine StagingSame.thenSetF (StagingSame.thenSetF (.refl s) ?_ 0) ?_ 0
  · show 0x400D0104 + 0x10 * k ≠ 0x40010000
    omega
  · show 0x400D0108 + 0x10 * k ≠ 0x40010000
    omega

theorem State.queueJob_staged (s : State) (j : FolJob) : StagingSame s (s.queueJob j) := by
  have dropped : StagingSame s ((s.setF F.FOL_STAT_QDROP 1).count F.FOL_QDROPCNT 169) :=
    ((StagingSame.refl s).thenSetF (by decide) 1).thenCount (by decide) 169
  unfold State.queueJob
  refine StagingSame.ite (fun _ => .refl s) fun _ => StagingSame.ite (fun _ => ?_) fun _ => ?_
  · exact (StagingSame.refl s).thenHidden (State.setFol_regs ..) (State.setFol_mem ..) (State.setFol_boot ..)
  · exact StagingSame.ite (fun _ => dropped.thenCount (by decide) 182) fun _ => dropped

theorem State.protImage_staged (s : State) (v : Nat) : StagingSame s (s.protImage v) := by
  unfold State.protImage
  refine StagingSame.ite (fun _ => .refl s) fun _ => StagingSame.trans ?_ (State.queueJob_staged _ _)
  exact (StagingSame.refl s).thenHidden (State.setFol_regs ..) (State.setFol_mem ..) (State.setFol_boot ..)

theorem State.angleWritten_staged (s : State) (g : Nat) : StagingSame s (s.angleWritten g) :=
  (StagingSame.refl s).thenHidden (State.setGrp_regs ..) (State.setGrp_mem ..) (State.setGrp_boot ..)

theorem State.comboWritten_staged (s : State) (n : Nat) : StagingSame s (s.comboWritten n) := by
  unfold State.comboWritten State.clrBit
  exact ((StagingSame.refl s).thenHidden (State.setPnl_regs ..) (State.setPnl_mem ..) (State.setPnl_boot ..)).thenSetF
    (by decide) _

theorem State.noteEnpt_staged (s : State) (l : List Nat) : StagingSame s { s with boot := { s.boot with enpt := l } } :=
  ⟨rfl, rfl, rfl, fun _ _ _ => rfl⟩

/-- A register of BOOT_STAT's kind, of which no bit is for an image to write, keeps its word. -/
theorem andNot_add_andN_zero {x : Nat} (hx : x < 2 ^ 32) (w : Nat) : andNot x 0 + andN w 0 = x := by
  refine Nat.eq_of_testBit_eq fun k => ?_
  have zero : bit 0 k = false := by rw [bit_eq_testBit, Nat.zero_testBit]
  rw [← bit_eq_testBit, ← bit_eq_testBit, bit_merge, zero, if_neg (by decide)]
  by_cases hk : k < 32
  · rw [decide_eq_true hk, Bool.and_true]
  · rw [bit_of_lt hx (by omega), Bool.false_and]

/-- The plain write of an image: BOOT_STAT, which it may address, keeps its word. -/
theorem State.wrImage_staged (h : s.Kept pq) {a : Nat} {r : RegRow} (hr : findReg a = some r) (w : Nat) :
    StagingSame s (s.wr a (andNot (s.rd a) (orN r.rw r.rwl) + andN w (orN r.rw r.rwl))) := by
  by_cases ha : a = F.BOOT_STAT_PHASE.addr
  · obtain ⟨r', found, none⟩ := findReg_bootStat
    obtain rfl : r = r' := Option.some.inj (hr.symm.trans (ha ▸ found))
    have word : s.rd a < 2 ^ 32 := s.rd_lt a
    rw [none, andNot_add_andN_zero word]
    refine ⟨?_, by rw [State.wr_boot], by rw [State.wr_boot], fun _ _ _ => State.wr_mb ..⟩
    rw [← ha, State.rd_wr_same h.1, Nat.mod_eq_of_lt word]
  · exact (StagingSame.refl s).thenWr ha _

theorem State.setN_staged (s : State) (n : Nat) : StagingSame s (s.setN n) := (StagingSame.refl s).thenSetF (by decide) _

theorem State.imageReg_staged (h : s.Kept pq) (idx a w : Nat) : StagingSame s (s.imageReg idx a w) := by
  unfold State.imageReg
  refine StagingSame.ite (fun _ => ?_) fun _ => StagingSame.ite (fun _ => s.counterClr_staged a w) fun _ =>
    StagingSame.ite (fun _ => ?_) fun _ => StagingSame.ite (fun _ => s.protImage_staged _) fun _ =>
    StagingSame.ite (fun _ => s.setN_staged _) fun _ => ?_
  · exact ((StagingSame.refl s).thenSetF (by decide) _).thenSetF (by decide) _
  · exact (StagingSame.refl s).thenEach fun k _ t => t.ledgerZero_staged k
  · split
    case h_1 unlisted =>
      have off : a ≠ F.BOOT_STAT_PHASE.addr := by
        rintro rfl
        obtain ⟨r, found, -⟩ := findReg_bootStat
        exact absurd (found.symm.trans unlisted) nofun
      split
      · exact StagingSame.ite (fun _ => (StagingSame.refl s).thenWr off _) fun _ => .refl s
      · exact .refl s
    case h_2 r listed =>
      refine ((((State.wrImage_staged h listed w).thenEach ?_).thenEach ?_).thenEach ?_).thenEach ?_
      · exact fun g _ t => StagingSame.ite (fun _ => t.angleWritten_staged g) fun _ => .refl t
      · exact fun n _ t => StagingSame.ite (fun _ => t.comboWritten_staged n) fun _ => .refl t
      · exact fun k _ t => StagingSame.ite (fun _ => t.ledgerZero_staged k) fun _ => .refl t
      · exact fun k _ t => StagingSame.ite (fun _ => t.noteEnpt_staged _) fun _ => .refl t

theorem State.noteWrote_staged (s : State) (l : List Nat) : StagingSame s { s with boot := { s.boot with wrote := l } } :=
  ⟨rfl, rfl, rfl, fun _ _ _ => rfl⟩

/-- A record of a staged image that may touch an aligned word lies off the staging area. -/
theorem recordMay_off {target inst a : Nat} (h : recordMay true target inst a = true) (ha : a % 4 = 0) :
    a + 4 ≤ 0x80000 ∨ 0x100000 ≤ a := by
  have off : a < 0x80000 ∨ 0x100000 ≤ a := by simpa [recordMay] using (Bool.and_eq_true_iff.mp h).2
  omega

theorem State.imageMem_staged {a : Nat} (ha : a + 4 ≤ 0x80000 ∨ 0x100000 ≤ a) (w : Nat) (s : State) :
    StagingSame s (s.imageMem a w) := by
  have stored : StagingSame s (s.setM a (andN w (s.imageMask a))) := (StagingSame.refl s).thenSetM ha _
  unfold State.imageMem
  exact StagingSame.ite (fun _ => stored.trans (State.noteWrote_staged _ _)) fun _ => stored

/-- The shadow in which an image's word would wait is emptied. -/
def State.unshadowed (s : State) (a : Nat) : State := { s with shadow := s.shadow.filter (fun e => e.1 != a) }

theorem State.unshadowed_staged (s : State) (a : Nat) : StagingSame s (s.unshadowed a) :=
  (StagingSame.refl s).thenHidden rfl rfl rfl

theorem State.unshadowed_kept (h : s.Kept pq) (a : Nat) : (s.unshadowed a).Kept pq := h

theorem State.imageWrite_eq (s : State) (idx a w : Nat) : s.imageWrite idx a w =
    if inMem a then (s.unshadowed a).imageMem a w else (s.unshadowed a).imageReg idx a w := rfl

theorem State.imageWrite_staged (h : s.Kept pq) {a : Nat} (ha : a + 4 ≤ 0x80000 ∨ 0x100000 ≤ a) (idx w : Nat) :
    StagingSame s (s.imageWrite idx a w) := by
  rw [State.imageWrite_eq]
  exact (s.unshadowed_staged a).trans (StagingSame.ite (fun _ => State.imageMem_staged ha w _) fun _ =>
    State.imageReg_staged (State.unshadowed_kept h a) idx a w)

theorem State.recordWords_staged (h : s.Kept pq) (e : SectEntry) {a : Nat} (ha : a % 4 = 0) (ws : List Nat) :
    StagingSame s (s.recordWords true e a ws).1 := by
  induction ws generalizing s a with
  | nil => exact .refl s
  | cons w ws ih =>
    unfold State.recordWords
    split
    case isTrue may =>
      exact (State.imageWrite_staged h (recordMay_off may ha) e.idx w).trans
        (ih (State.imageWrite_kept e.idx a w h) (by omega))
    case isFalse => exact .refl s

/-- The words of the record that `l` starts with (R84). -/
def recordWordsOf (l : List Byte) : List Nat :=
  if numAt l 4 1 = 1 then wordsOf (numAt l 6 2) (l.drop 8) else List.replicate (numAt l 6 2) (numAt l 8 4)

/-- The bytes that this record takes. -/
def recordSize (l : List Byte) : Nat := 8 + 4 * (if numAt l 4 1 = 1 then numAt l 6 2 else 1)

/-- The record fails check 0x0A by itself. -/
def recordBad (l : List Byte) : Bool :=
  decide (l.length < recordSize l ∨ numAt l 0 4 % 4 ≠ 0 ∨ numAt l 5 1 ≠ 0 ∨ (numAt l 4 1 ≠ 1 ∧ numAt l 4 1 ≠ 2))

theorem State.records_succ (s : State) (ram : Bool) (e : SectEntry) (fuel : Nat) (l : List Byte) :
    s.records ram e (fuel + 1) l =
      if l.isEmpty then (s, true)
      else if recordBad l then (s, false)
      else if (s.recordWords ram e (numAt l 0 4) (recordWordsOf l)).2 then
        (s.recordWords ram e (numAt l 0 4) (recordWordsOf l)).1.records ram e fuel (l.drop (recordSize l))
      else s.recordWords ram e (numAt l 0 4) (recordWordsOf l) := by
  unfold recordBad
  simp only [decide_eq_true_eq]
  rfl

theorem aligned_of_not_recordBad {l : List Byte} (h : ¬ recordBad l = true) : numAt l 0 4 % 4 = 0 := by
  simp only [recordBad, decide_eq_true_eq, not_or, not_not] at h
  exact h.2.1

theorem State.records_staged (h : s.Kept pq) (e : SectEntry) (fuel : Nat) (l : List Byte) :
    StagingSame s (s.records true e fuel l).1 := by
  induction fuel generalizing s l with
  | zero => exact .refl s
  | succ fuel ih =>
    rw [State.records_succ]
    split
    · exact .refl s
    · split
      case isTrue => exact .refl s
      case isFalse sound =>
        have words := State.recordWords_staged h e (aligned_of_not_recordBad sound) (recordWordsOf l)
        split
        · exact words.trans (ih (State.recordWords_kept true e h) _)
        · exact words

/-! #### A section, and the end of the image -/

/-- A section changes neither BOOT_STAT nor the staging area; the code of a failed check is not 0 (R89). -/
theorem State.applySection_staged (h : s.Kept pq) (e : SectEntry) (rest : List SectEntry) (b : List Byte) :
    StagingSame s (s.applySection true e rest b).1 ∧ (s.applySection true e rest b).2 < 256 := by
  have records := State.records_staged h e b.length b
  have small : 0xA < 256 ∧ 0xB < 256 ∧ 0xC < 256 ∧ 0 < 256 := by decide
  obtain ⟨badRecord, badSum, badTarget, good⟩ := small
  unfold State.applySection
  dsimp only
  split
  · exact ⟨records, badRecord⟩
  · split
    · exact ⟨records, badSum⟩
    · split
      · exact ⟨records, badTarget⟩
      · exact ⟨records, good⟩

/-- The staged image is being read in `u`; its staging area is that of `s`. -/
structure RamRead (s u : State) (pq : List Instr) : Prop where
  kept : u.Kept pq
  alone : u.boot.alone = true
  cur : u.boot.cur = 2
  recovery : u.on F.BOOT_STAT_RECOVERY = false
  area : ∀ a, 0x80000 ≤ a → a < 0x100000 → u.mb a = s.mb a

/-- The reading of the staged image has ended in `t`: it is in use, or it has failed a check (R95). -/
structure RamEnd (s t : State) : Prop where
  alone : t.boot.alone = true
  cur : t.boot.cur = 2
  ends : (t.boot.stage = .selfTest ∧ t.f F.BOOT_STAT_SOURCE = 2 ∧ t.on F.BOOT_STAT_RECOVERY = false) ∨
    (t.boot.stage = .clear ∧ t.f F.BOOT_FAILA_CODE ≠ 0)
  area : ∀ a, 0x80000 ≤ a → a < 0x100000 → t.mb a = s.mb a

theorem RamRead.then (h : RamRead s u pq) (k : t.Kept pq) (st : StagingSame u t) : RamRead s t pq :=
  ⟨k, st.alone.trans h.alone, st.cur.trans h.cur, (State.on_of_rd (x := F.BOOT_STAT_RECOVERY) st.stat).trans h.recovery,
    fun a lo hi => (st.area a lo hi).trans (h.area a lo hi)⟩

/-- The stage is that of a failed image. -/
def State.failed (s : State) : State := { s with boot := { s.boot with stage := .clear, sects := [] } }

theorem State.slotFail_ram (h : s.boot.cur = 2) (code sect : Nat) : s.slotFail code sect =
    (((s.setF F.BOOT_FAILA_CODE code).setF F.BOOT_FAILA_SECT sect).log 0x02 0x10 (code + 256 * sect) 2 none
      true).failed := by
  have other : ¬ s.boot.cur = 1 := by rw [h]; decide
  have whole : s.slotFail code sect = ((if s.boot.cur = 1 then (s.setF F.BOOT_FAILB_CODE code).setF F.BOOT_FAILB_SECT sect
    else (s.setF F.BOOT_FAILA_CODE code).setF F.BOOT_FAILA_SECT sect).log 0x02 0x10 (code + 256 * sect) s.boot.cur none
      true).failed := rfl
  rw [whole, if_neg other, h]

theorem State.failed_regs (s : State) : s.failed.regs = s.regs := rfl

theorem State.failed_mem (s : State) : s.failed.mem = s.mem := rfl

/-- A failed check ends the reading (R89, R90). -/
theorem RamRead.fail (h : RamRead s u pq) {code : Nat} (hc : code ≠ 0) (lt : code < 256) (sect : Nat) :
    RamEnd s (u.slotFail code sect) := by
  have first := State.setF_kept F.BOOT_FAILA_CODE code h.kept
  rw [State.slotFail_ram h.cur]
  generalize hv : (u.setF F.BOOT_FAILA_CODE code).setF F.BOOT_FAILA_SECT sect = v
  have shown : v.f F.BOOT_FAILA_CODE = code := by
    rw [← hv, State.f_setF_apart first.1 (by decide) (by decide), State.f_setF_same h.kept.1 (by decide)]
    exact Nat.mod_eq_of_lt lt
  have boot : v.boot = u.boot := by rw [← hv, State.setF_boot, State.setF_boot]
  have mem : v.mem = u.mem := by rw [← hv, State.setF_mem, State.setF_mem]
  generalize hw : v.log 0x02 0x10 (code + 256 * sect) 2 none true = w
  have logged : w.f F.BOOT_FAILA_CODE = code := by rw [← hw, State.f_log v _ _ _ _ _ _ (by decide +kernel), shown]
  have logBoot : w.boot = u.boot := by
    have base := State.log_base v 0x02 0x10 (code + 256 * sect) 2 none true
    rw [hw] at base
    exact (congrArg (fun b => b.2.1) base).trans boot
  have logMem : w.mem = u.mem := by rw [← hw, State.log_mem, mem]
  have code' : w.failed.f F.BOOT_FAILA_CODE = w.f F.BOOT_FAILA_CODE :=
    State.f_of_rd (by rw [State.rd_eq, State.rd_eq, State.failed_regs])
  refine ⟨?_, ?_, .inr ⟨rfl, ?_⟩, fun a lo hi => ?_⟩
  · exact (congrArg Boot.alone logBoot).trans h.alone
  · exact (congrArg Boot.cur logBoot).trans h.cur
  · rw [code', logged]
    exact hc
  · exact (sameMem.ofMem (w.failed_mem.trans logMem) a).trans (h.area a lo hi)

/-- What an image in use shows in BOOT (R89). -/
def State.imageShown (s : State) : State :=
  let src := s.boot.cur
  let s := s.setF F.BOOT_STAT_SOURCE src
  let s := s.setB F.BOOT_STAT_FALLBACK (src == 1 && !s.boot.alone && s.f F.BOOT_FAILA_CODE != 0)
  let s := s.setF F.BOOT_STAT_FORMAT s.boot.format
  (s.setF (F.BOOT_FPRINT 0) s.boot.fprint).setF (F.BOOT_FPRINT 1) (s.boot.fprint / 2 ^ 32)

/-- What follows an image in use: boot values, the loops' memory, the voltage request (R219, R576). -/
def State.imageSettled (s : State) : State := s.trimFfsrc.loopBoot.keepLoops.foxImage

theorem State.imageUp_eq (s : State) : s.imageUp = s.imageShown.imageSettled.toSelfTest := rfl

/-- A chain of fields of BOOT that share no bit with SOURCE or RECOVERY. -/
structure Shown (s t : State) (pq : List Instr) : Prop where
  kept : t.Kept pq
  boot : t.boot = s.boot
  mem : t.mem = s.mem
  source : t.f F.BOOT_STAT_SOURCE = s.f F.BOOT_STAT_SOURCE
  recovery : t.on F.BOOT_STAT_RECOVERY = s.on F.BOOT_STAT_RECOVERY

theorem Shown.refl (h : s.Kept pq) : Shown s s pq := ⟨h, rfl, rfl, rfl, rfl⟩

theorem Shown.thenSetF (h : Shown s t pq) {x : Fld} (hx : x.fits = true) (hs : x.apart F.BOOT_STAT_SOURCE = true)
    (hr : x.apart F.BOOT_STAT_RECOVERY = true) (v : Nat) : Shown s (t.setF x v) pq :=
  ⟨State.setF_kept x v h.kept, (State.setF_boot ..).trans h.boot, (State.setF_mem ..).trans h.mem,
    (State.f_setF_apart h.kept.1 hx hs v).trans h.source, (State.on_setF_apart h.kept.1 hx hr v).trans h.recovery⟩

theorem State.imageShown_shown (h : s.Kept pq) : Shown (s.setF F.BOOT_STAT_SOURCE s.boot.cur) s.imageShown pq := by
  have source := Shown.refl (State.setF_kept F.BOOT_STAT_SOURCE s.boot.cur h)
  unfold State.imageShown State.setB
  exact (((source.thenSetF (by decide) (by decide) (by decide) _).thenSetF (by decide) (by decide) (by decide) _).thenSetF
    (by decide) (by decide) (by decide) _).thenSetF (by decide) (by decide) (by decide) _

theorem State.trimFf_staged {a : Nat} (ha : 0x100000 ≤ a) (s : State) : StagingSame s (s.trimFf a) := by
  unfold State.trimFf
  split
  · exact (StagingSame.refl s).thenSetM (.inr ha) _
  · exact .refl s

theorem State.trimFfsrc_staged (s : State) : StagingSame s s.trimFfsrc := by
  unfold State.trimFfsrc
  refine (StagingSame.refl s).thenEach fun a ha t => State.trimFf_staged ?_ t
  obtain ⟨c, -, hc⟩ := List.mem_filterMap.mp ha
  split at hc
  case isTrue cond =>
    simp only [Bool.and_eq_true, decide_eq_true_eq] at cond
    have := Option.some.inj hc
    omega
  case isFalse => exact absurd hc nofun

theorem State.loopBoot_staged (s : State) : StagingSame s s.loopBoot := by
  unfold State.loopBoot
  refine (StagingSame.refl s).thenEach fun i _ t => ?_
  have at_ : ∀ n, 0x100000 ≤ lsAddr i + n := fun n => by unfold lsAddr; omega
  have first : StagingSame t (if s.boot.wrote.contains (lsAddr i + 0x14) then t
      else t.setM (lsAddr i + 0x14) (getBits (t.ld i 0) 6 2)) :=
    StagingSame.ite (fun _ => .refl t) fun _ => (StagingSame.refl t).thenSetM (.inr (at_ 0x14)) _
  exact StagingSame.ite (fun _ => first.thenSetM (.inr (at_ 0x10)) _) fun _ => first

theorem State.keepLoops_staged (s : State) : StagingSame s s.keepLoops := ⟨rfl, rfl, rfl, fun _ _ _ => rfl⟩

theorem State.foxImage_staged (s : State) : StagingSame s s.foxImage := by
  unfold State.foxImage State.cond
  refine StagingSame.ite (fun _ => (s.setN_staged nfac).thenSetF (by decide) 1) fun _ => ?_
  exact StagingSame.ite (fun _ => s.setN_staged nfac) fun _ => .refl s

theorem State.imageSettled_staged (s : State) : StagingSame s s.imageSettled :=
  ((s.trimFfsrc_staged.trans (State.loopBoot_staged _)).trans (State.keepLoops_staged _)).trans (State.foxImage_staged _)

theorem State.imageSettled_kept (h : s.Kept pq) : s.imageSettled.Kept pq :=
  State.foxImage_kept (State.keepLoops_kept (State.loopBoot_kept (State.trimFfsrc_kept h)))

theorem State.toSelfTest_boot (s : State) : s.toSelfTest.boot = { s.boot with stage := .selfTest } := State.setF_boot ..

theorem State.toSelfTest_mem (s : State) : s.toSelfTest.mem = s.mem := State.setF_mem ..

/-- The staged image is in use (R95). -/
theorem RamRead.up (h : RamRead s u pq) : RamEnd s u.imageUp := by
  have shown := State.imageShown_shown h.kept
  have settled := u.imageShown.imageSettled_staged
  have kept : (u.imageShown.imageSettled.toStage .selfTest).Kept pq :=
    State.toStage_kept _ (State.imageSettled_kept shown.kept)
  have boot := u.imageShown.imageSettled.toSelfTest_boot
  have source : u.imageShown.f F.BOOT_STAT_SOURCE = 2 := by
    rw [shown.source, State.f_setF_same h.kept.1 (by decide), h.cur]
    rfl
  have recovery : u.imageShown.on F.BOOT_STAT_RECOVERY = false := by
    rw [shown.recovery, State.on_setF_apart h.kept.1 (by decide) (by decide), h.recovery]
  have stat : (u.imageShown.imageSettled.toStage .selfTest).rd F.BOOT_STAT_PHASE.addr =
      u.imageShown.rd F.BOOT_STAT_PHASE.addr := Eq.trans (by rw [State.rd_eq, State.rd_eq, State.toStage_regs]) settled.stat
  rw [State.imageUp_eq]
  refine ⟨?_, ?_, .inl ⟨by rw [boot], ?_, ?_⟩, fun a lo hi => ?_⟩
  · rw [boot]
    exact (settled.alone.trans (by rw [shown.boot, State.setF_boot])).trans h.alone
  · rw [boot]
    exact (settled.cur.trans (by rw [shown.boot, State.setF_boot])).trans h.cur
  · have inUse := (State.f_of_rd (x := F.BOOT_STAT_SOURCE) stat).trans source
    exact (State.f_setF_apart kept.1 (by decide) (by decide) 5).trans inUse
  · have left := (State.on_of_rd (x := F.BOOT_STAT_RECOVERY) stat).trans recovery
    exact (State.on_setF_apart kept.1 (by decide) (by decide) 5).trans left
  · rw [sameMem.ofMem (State.toSelfTest_mem _) a, settled.area a lo hi, sameMem.ofMem shown.mem a,
      sameMem.ofMem (State.setF_mem ..) a, h.area a lo hi]

theorem State.slotCheck_code {c i : Nat} (h : s.slotCheck = some (c, i)) : c ≠ 0 ∧ c < 256 := by
  have codes : (0xC ≠ 0 ∧ 0xC < 256) ∧ 0xD ≠ 0 ∧ 0xD < 256 := by decide
  obtain ⟨energy, required⟩ := codes
  unfold State.slotCheck at h
  dsimp only at h
  split at h
  · split at h
    · exact absurd h nofun
    · obtain ⟨rfl, -⟩ := Prod.mk.inj (Option.some.inj h)
      exact energy
  · split at h
    · exact absurd h nofun
    · obtain ⟨rfl, -⟩ := Prod.mk.inj (Option.some.inj h)
      exact required

/-- The checks after the last section (R89). -/
theorem RamRead.last (h : RamRead s u pq) : RamEnd s u.slotEnd := by
  unfold State.slotEnd
  split
  case h_1 code sect bad =>
    obtain ⟨hc, lt⟩ := State.slotCheck_code bad
    exact h.fail hc lt sect
  case h_2 => exact h.up

/-- The sections still to come are noted. -/
def State.noteSects (s : State) (l : List SectEntry) : State := { s with boot := { s.boot with sects := l } }

theorem State.noteSects_staged (s : State) (l : List SectEntry) : StagingSame s (s.noteSects l) :=
  ⟨rfl, rfl, rfl, fun _ _ _ => rfl⟩

theorem State.noteSects_kept (h : s.Kept pq) (l : List SectEntry) : (s.noteSects l).Kept pq := h

theorem RamRead.sections (h : RamRead s u pq) (l : List SectEntry) : RamEnd s (u.stagedSections l) := by
  induction l generalizing u with
  | nil => exact h.last
  | cons e rest ih =>
    have applied := State.applySection_staged h.kept e rest (u.bytesAt (0x80000 + e.offset) e.length)
    have kept := State.applySection_kept true e rest (u.bytesAt (0x80000 + e.offset) e.length) h.kept
    have read := h.then kept applied.1
    unfold State.stagedSections
    dsimp only
    split
    · exact ih (read.then (State.noteSects_kept kept rest) (State.noteSects_staged _ rest))
    · exact read.fail ‹_› applied.2 e.idx

/-! #### The trailer and the Colophon -/

theorem trailerCheck_lt (t : List Byte) : trailerCheck t < 256 := by
  unfold trailerCheck
  split_ifs <;> decide

theorem colophonCheck_lt (t c : List Byte) : colophonCheck t c < 256 := by
  unfold colophonCheck
  dsimp only
  split_ifs <;> decide

/-- A failed check of trailer and Colophon has a code of its own. -/
theorem headCheck_code {t c : List Byte} {code i : Nat} (h : headCheck t c = some (code, i)) : code ≠ 0 ∧ code < 256 := by
  unfold headCheck at h
  dsimp only at h
  split at h
  case isTrue bad =>
    obtain ⟨rfl, -⟩ := Prod.mk.inj (Option.some.inj h)
    exact ⟨bad, trailerCheck_lt t⟩
  case isFalse =>
    split at h
    case isTrue bad =>
      obtain ⟨rfl, -⟩ := Prod.mk.inj (Option.some.inj h)
      exact ⟨bad, colophonCheck_lt t c⟩
    case isFalse =>
      split at h
      · obtain ⟨rfl, -⟩ := Prod.mk.inj (Option.some.inj h)
        decide
      · obtain ⟨e, -, he⟩ := Option.map_eq_some_iff.mp h
        obtain ⟨rfl, -⟩ := Prod.mk.inj he
        decide

/-- The registers of slot 2 as its reading starts: no failure yet, step 4. -/
def State.ramShown (s : State) : State := ((s.setF F.BOOT_FAILA_CODE 0).setF F.BOOT_FAILA_SECT 0xFF).phase 4

/-- What the reading of slot 2 notes of its trailer and Colophon. -/
def State.ramNoted (s : State) (t c : List Byte) : State :=
  { s with boot := { s.boot with
    stage := .slot, cur := 2, sects := (sectTable c).filter (fun e => targetKnown e.target)
    seen := ((sectTable c).filter (fun e => targetKnown e.target)).map (·.target), fprint := numAt c 0 8
    format := numAt t 4 2, enpt := [0, 0, 0, 0], wrote := [] } }

theorem State.slotStart_ram (s : State) (t c : List Byte) : s.slotStart 2 t c =
    match headCheck t c with
    | some (code, sect) => (s.ramShown.ramNoted t c).slotFail code sect
    | none => if ((sectTable c).filter (fun e => targetKnown e.target)).isEmpty then (s.ramShown.ramNoted t c).slotEnd
        else s.ramShown.ramNoted t c := by
  unfold State.slotStart
  rw [if_neg (by decide)]
  rfl

theorem State.ramShown_shown (h : s.Kept pq) : Shown s s.ramShown pq := by
  unfold State.ramShown State.phase
  exact (((Shown.refl h).thenSetF (by decide) (by decide) (by decide) 0).thenSetF (by decide) (by decide) (by decide)
    0xFF).thenSetF (by decide) (by decide) (by decide) 4

theorem State.ramNoted_kept (h : s.Kept pq) (t c : List Byte) : (s.ramNoted t c).Kept pq := h

theorem State.ramNoted_regs (s : State) (t c : List Byte) : (s.ramNoted t c).regs = s.regs := rfl

theorem State.ramNoted_mem (s : State) (t c : List Byte) : (s.ramNoted t c).mem = s.mem := rfl

theorem State.ramNoted_stage (s : State) (t c : List Byte) : (s.ramNoted t c).boot.stage = .slot := rfl

theorem State.ramNoted_alone (s : State) (t c : List Byte) : (s.ramNoted t c).boot.alone = s.boot.alone := rfl

/-- The image is read from a state that has left RECOVERY. -/
theorem State.slotStart_reads (h : u.Kept pq) (alone : u.boot.alone = true) (off : u.on F.BOOT_STAT_RECOVERY = false)
    (t c : List Byte) : RamRead u (u.ramShown.ramNoted t c) pq := by
  have shown := State.ramShown_shown h
  refine ⟨State.ramNoted_kept shown.kept t c, ?_, rfl, ?_, fun a _ _ => ?_⟩
  · rw [State.ramNoted_alone, shown.boot, alone]
  · rw [State.on_of_regs (State.ramNoted_regs _ t c), shown.recovery, off]
  · exact sameMem.ofMem ((State.ramNoted_mem _ t c).trans shown.mem) a

theorem RamEnd.not_slot (h : RamEnd s t) : t.boot.stage ≠ .slot := by
  rcases h.ends with ⟨stage, -⟩ | ⟨stage, -⟩ <;> rw [stage] <;> decide

/-- The staged image is read to its end (R95). -/
theorem State.stagedApply_ends (h : u.Kept pq) (alone : u.boot.alone = true) (off : u.on F.BOOT_STAT_RECOVERY = false) :
    RamEnd u u.stagedApply := by
  have reads := State.slotStart_reads h alone off u.stagedTrailer u.stagedColophon
  unfold State.stagedApply
  dsimp only
  rw [State.slotStart_ram]
  split
  case h_1 code sect bad =>
    obtain ⟨hc, lt⟩ := headCheck_code bad
    have ended := reads.fail hc lt sect
    rw [if_neg ended.not_slot]
    exact ended
  case h_2 =>
    split
    · have ended := reads.last
      rw [if_neg ended.not_slot]
      exact ended
    · rw [if_pos (State.ramNoted_stage ..)]
      exact reads.sections _

/-! #### GO_RAM -/

/-- The targets of an image at reset, registers first. -/
def State.unwritten (s : State) : State :=
  { s with regs := s.regs.filterMap unwrite, shadow := [], holdFrames := 0,
           mem := Memory.clear (Memory.clear s.mem 0 0x80000) 0x100000 0x200000 }

theorem State.unwritten_mem (s : State) :
    s.unwritten.mem = Memory.clear (Memory.clear s.mem 0 0x80000) 0x100000 0x200000 := rfl

theorem State.clearImage_eq (s : State) : s.clearImage =
    (s.unwritten.each (List.range 6) (fun t g => t.setGrp g (fun q => { q with nextAngle := 0 }))).setFol
      (fun x => { x with jobs := x.jobs.filter (fun j => j.order != 8) }) := rfl

theorem State.clearImage_mem (s : State) : s.clearImage.mem = s.unwritten.mem := by
  rw [State.clearImage_eq, State.setFol_mem]
  exact State.each_mem (fun _ _ => State.setGrp_mem ..) _ _

/-- The clear of a failed image leaves the staging area. -/
theorem State.mb_clearImage {a : Nat} (lo : 0x80000 ≤ a) (hi : a < 0x100000) (s : State) : s.clearImage.mb a = s.mb a := by
  unfold State.mb
  rw [State.clearImage_mem, State.unwritten_mem, Memory.byte_clear, if_neg (by omega), Memory.byte_clear,
    if_neg (by omega)]

/-- RECOVERY is left for the staged image alone. -/
def State.ramAlone (s : State) : State := { s with boot := { s.boot with alone := true, rest := [] } }

theorem State.ramAlone_kept (h : s.Kept pq) : s.ramAlone.Kept pq := h

theorem State.ramAlone_regs (s : State) : s.ramAlone.regs = s.regs := rfl

theorem State.ramAlone_mem (s : State) : s.ramAlone.mem = s.mem := rfl

theorem State.bootRam_eq (s : State) :
    s.bootRam = ((s.clearImage.setF F.BOOT_STAT_RECOVERY 0).ramAlone).stagedApply := rfl

theorem State.bootRam_ends (h : s.Kept pq) : RamEnd s s.bootRam := by
  have clear := State.clearImage_kept h
  have left := State.setF_kept F.BOOT_STAT_RECOVERY 0 clear
  have off : (s.clearImage.setF F.BOOT_STAT_RECOVERY 0).ramAlone.on F.BOOT_STAT_RECOVERY = false := by
    rw [State.on_of_regs (State.ramAlone_regs _), State.on_setF_same clear.1 (by decide) rfl]
    rfl
  have ended := State.stagedApply_ends (State.ramAlone_kept left) rfl off
  rw [State.bootRam_eq]
  refine ⟨ended.alone, ended.cur, ended.ends, fun a lo hi => (ended.area a lo hi).trans ?_⟩
  rw [sameMem.ofMem (State.ramAlone_mem _) a, sameMem.ofMem (State.setF_mem ..) a, State.mb_clearImage lo hi]

end StagedImage

/-! ### BOOT_CTL in RECOVERY (R94 to R96) -/

section Choices

variable {s : State} {m : Master} {pq : List Instr}

theorem State.masterOp_bootCtl (ha : s.admits m F.BOOT_CTL_GO_A.addr = true) (w : Nat) :
    s.masterOp m F.BOOT_CTL_GO_A.addr w = State.report (s.bootCtlWrite w) (masterCode m) F.BOOT_CTL_GO_A.addr := by
  rw [State.masterOp_admitted ha (by decide) (by decide), State.regWrite_bootCtl]

/-- What bit `k` of BOOT_CTL starts. -/
def State.chosen (s : State) (k : Nat) : State :=
  match k with
  | 0 => s.bootRam
  | 1 => s.goSlot 0
  | 2 => s.goSlot 1
  | 3 => s.progSlot 0
  | _ => s.progSlot 1

/-- One bit, in RECOVERY and with no slot being programmed. -/
theorem State.bootCtlWrite_acts (hb : s.boot.stage = .recovery) (hp : s.boot.prog = none) {w k : Nat}
    (hw : bitsOf w 5 = [k]) : s.bootCtlWrite w = (s.chosen k, true) := by
  have free : ¬ (s.boot.stage ≠ .recovery ∨ s.boot.prog.isSome = true) := by simp [hb, hp]
  unfold State.bootCtlWrite
  rw [hw]
  refine (if_neg free).trans ?_
  match k with
  | 0 => rfl
  | 1 => rfl
  | 2 => rfl
  | 3 => rfl
  | _ + 4 => rfl

theorem State.bootCtlWrite_busy (hp : s.boot.prog.isSome = true) {w k : Nat} (hw : bitsOf w 5 = [k]) :
    s.bootCtlWrite w = (s, false) := by
  unfold State.bootCtlWrite
  rw [hw]
  exact if_pos (.inr hp)

theorem State.masterOp_bootCtl_acts (ha : s.admits m F.BOOT_CTL_GO_A.addr = true) (hb : s.boot.stage = .recovery)
    (hp : s.boot.prog = none) {w k : Nat} (hw : bitsOf w 5 = [k]) :
    s.masterOp m F.BOOT_CTL_GO_A.addr w = s.chosen k := by
  rw [State.masterOp_bootCtl ha, State.bootCtlWrite_acts hb hp hw]
  rfl

theorem State.masterOp_bootCtl_busy (ha : s.admits m F.BOOT_CTL_GO_A.addr = true) (hp : s.boot.prog.isSome = true)
    {w k : Nat} (hw : bitsOf w 5 = [k]) :
    s.masterOp m F.BOOT_CTL_GO_A.addr w = s.reject (masterCode m) F.BOOT_CTL_GO_A.addr := by
  rw [State.masterOp_bootCtl ha, State.bootCtlWrite_busy hp hw]
  rfl

/-- A command that sets bit `k` of BOOT_CTL alone. -/
theorem exec_choice {c : Instr} {w : Nat} (run : exec c s = .next (s.masterOp m F.BOOT_CTL_GO_A.addr w))
    (ha : s.admits m F.BOOT_CTL_GO_A.addr = true) (hb : s.boot.stage = .recovery) (hp : s.boot.prog = none) (k : Nat)
    (hw : bitsOf w 5 = [k]) : exec c s = .next (s.chosen k) := by
  rw [run, State.masterOp_bootCtl_acts ha hb hp hw]

theorem exec_choice_busy {c : Instr} {w : Nat} (run : exec c s = .next (s.masterOp m F.BOOT_CTL_GO_A.addr w))
    (ha : s.admits m F.BOOT_CTL_GO_A.addr = true) (hp : s.boot.prog.isSome = true) (k : Nat) (hw : bitsOf w 5 = [k]) :
    exec c s = .next (s.reject (masterCode m) F.BOOT_CTL_GO_A.addr) := by
  rw [run, State.masterOp_bootCtl_busy ha hp hw]

/-- The words of the five choices set one bit each. -/
theorem bitsOf_choices : bitsOf 1 5 = [0] ∧ bitsOf 2 5 = [1] ∧ bitsOf 4 5 = [2] ∧ bitsOf 8 5 = [3] ∧ bitsOf 16 5 = [4] := by
  decide

/-- The programming of slot `k` starts. -/
def State.progStarts (s : State) (k : Nat) : State :=
  { s with boot := { s.boot with prog := some k, flashOps := slotOps s.boot.erase4k k } }

theorem State.progStarts_regs (s : State) (k : Nat) : (s.progStarts k).regs = s.regs := rfl

theorem State.progStarts_mem (s : State) (k : Nat) : (s.progStarts k).mem = s.mem := rfl

theorem State.progSlot_eq (s : State) (k : Nat) : s.progSlot k =
    if s.stagedPasses then (s.setF F.BOOT_STAT_PROGBUSY 1).progStarts k else s.setF F.BOOT_STAT_PROGERR 1 := rfl

theorem State.progSlot_same (s : State) (k : Nat) : sameRegs s (s.progSlot k) [F.BOOT_STAT_PROGBUSY.addr] := by
  rw [State.progSlot_eq]
  split
  · exact (sameRegs.setF s 1 List.mem_cons_self).trans (sameRegs.ofRegs (State.progStarts_regs ..))
  · exact sameRegs.setF s 1 (by decide)

theorem State.progSlot_mem (s : State) (k : Nat) : (s.progSlot k).mem = s.mem := by
  rw [State.progSlot_eq]
  split
  · rw [State.progStarts_mem, State.setF_mem]
  · exact State.setF_mem ..

theorem State.progSlot_passes (h : s.Kept pq) (k : Nat) (hp : s.stagedPasses = true) :
    (s.progSlot k).boot.prog = some k ∧ (s.progSlot k).on F.BOOT_STAT_PROGBUSY = true ∧
      (s.progSlot k).boot.flashOps = slotOps s.boot.erase4k k := by
  rw [State.progSlot_eq, if_pos hp]
  refine ⟨rfl, ?_, ?_⟩
  · rw [State.on_of_regs (State.progStarts_regs ..), State.on_setF_same h.1 (by decide) rfl]
    rfl
  · exact congrArg (fun b : Boot => slotOps b.erase4k k) (State.setF_boot s F.BOOT_STAT_PROGBUSY 1)

theorem State.progSlot_fails (h : s.Kept pq) (k : Nat) (hp : s.stagedPasses = false) :
    (s.progSlot k).boot.prog = s.boot.prog ∧ (s.progSlot k).on F.BOOT_STAT_PROGERR = true := by
  rw [State.progSlot_eq, if_neg (by rw [hp]; decide)]
  exact ⟨by rw [State.setF_boot], State.on_setF_same h.1 rfl rfl 1⟩

/-- The programming of a slot has ended. -/
def State.progEnds (s : State) : State := { s with boot := { s.boot with prog := none, flashOps := [] } }

theorem State.progEnds_regs (s : State) : s.progEnds.regs = s.regs := rfl

theorem State.progEnds_mem (s : State) : s.progEnds.mem = s.mem := rfl

theorem State.progEnds_kept (h : s.Kept pq) : s.progEnds.Kept pq := h

theorem exec_slotProgrammingDone (hp : s.boot.prog.isSome = true) (out : ProgOutcome) :
    exec (.slotProgrammingDone out) s = .next (((s.setF F.BOOT_STAT_PROGBUSY 0).progEnds).cond (!s.slotMatches out)
      (·.setF F.BOOT_STAT_PROGERR 1)) := by
  have run : exec (.slotProgrammingDone out) s = execSlotProgrammingDone out s := rfl
  rw [run, execSlotProgrammingDone, if_pos hp]
  rfl

/-- The end of the programming: BUSY clears, PROGERR shows a slot that does not match (R96). -/
theorem programmed (hs : s.wf = true) (out : ProgOutcome) (hp : s.boot.prog.isSome = true) :
    ∃ t, exec (.slotProgrammingDone out) s = .next t ∧ t.on F.BOOT_STAT_PROGBUSY = false ∧ t.boot.prog = none ∧
      t.boot.flashOps = [] ∧ t.on F.BOOT_STAT_PROGERR = (s.on F.BOOT_STAT_PROGERR || !s.slotMatches out) ∧
      sameRegs s t [F.BOOT_STAT_PROGBUSY.addr] ∧ sameMem s t := by
  have h := State.wf_iff_kept.mp hs
  have busy := State.progEnds_kept (State.setF_kept F.BOOT_STAT_PROGBUSY 0 h)
  have regs := (s.setF F.BOOT_STAT_PROGBUSY 0).progEnds_regs
  have mem : (s.setF F.BOOT_STAT_PROGBUSY 0).progEnds.mem = s.mem := by rw [State.progEnds_mem, State.setF_mem]
  have same : sameRegs s (s.setF F.BOOT_STAT_PROGBUSY 0).progEnds [F.BOOT_STAT_PROGBUSY.addr] :=
    (sameRegs.setF s 0 List.mem_cons_self).trans (sameRegs.ofRegs regs)
  have clear : (s.setF F.BOOT_STAT_PROGBUSY 0).progEnds.on F.BOOT_STAT_PROGBUSY = false := by
    rw [State.on_of_regs regs, State.on_setF_same h.1 (by decide) rfl]
    rfl
  have err : (s.setF F.BOOT_STAT_PROGBUSY 0).progEnds.on F.BOOT_STAT_PROGERR = s.on F.BOOT_STAT_PROGERR := by
    rw [State.on_of_regs regs, State.on_setF_apart h.1 (by decide) (by decide)]
  have prog : (s.setF F.BOOT_STAT_PROGBUSY 0).progEnds.boot.prog = none := rfl
  have ops : (s.setF F.BOOT_STAT_PROGBUSY 0).progEnds.boot.flashOps = [] := rfl
  refine ⟨_, exec_slotProgrammingDone hp out, ?_⟩
  generalize (s.setF F.BOOT_STAT_PROGBUSY 0).progEnds = u at busy mem same clear err prog ops
  cases s.slotMatches out with
  | true => exact ⟨clear, prog, ops, err.trans (Bool.or_false _).symm, same, sameMem.ofMem mem⟩
  | false =>
    refine ⟨(State.on_setF_apart busy.1 (by decide) (by decide) 1).trans clear, prog, ops, ?_,
      same.thenSetF (by decide) 1, sameMem.ofMem ((State.setF_mem ..).trans mem)⟩
    exact (State.on_setF_same busy.1 (by decide) rfl 1).trans (Bool.or_true _).symm

/-- PROG_A and PROG_B (R96). -/
theorem progChosen (h : s.Kept pq) (hp : s.boot.prog = none) (k : Nat) :
    (s.stagedPasses = true → (s.progSlot k).boot.prog = some k ∧ (s.progSlot k).on F.BOOT_STAT_PROGBUSY = true ∧
      (s.progSlot k).boot.flashOps = slotOps s.boot.erase4k k) ∧
    (s.stagedPasses = false → (s.progSlot k).boot.prog = none ∧ (s.progSlot k).on F.BOOT_STAT_PROGERR = true) ∧
    sameRegs s (s.progSlot k) [F.BOOT_STAT_PROGBUSY.addr] ∧ sameMem s (s.progSlot k) := by
  refine ⟨State.progSlot_passes h k, fun fails => ?_, s.progSlot_same k, sameMem.ofMem (s.progSlot_mem k)⟩
  obtain ⟨prog, err⟩ := State.progSlot_fails h k fails
  exact ⟨prog.trans hp, err⟩

end Choices

/-- Settles O18: BOOT_CTL's one set bit chooses; GO_RAM's reading of the staged image ends in use or in a failed check. -/
theorem bootChoicesAct : Obligations.BootChoicesAct := by
  refine ⟨fun s m hs ha hb hp => ?_, fun s m ha hb hp => ?_, fun s out hs hp => programmed hs out hp⟩
  · have kept := State.wf_iff_kept.mp hs
    obtain ⟨ram, a, b, progA, progB⟩ := bitsOf_choices
    have ended := State.bootRam_ends kept
    exact ⟨⟨s.bootRam, exec_choice (c := .goRam m) rfl ha hb hp 0 ram, ended.alone, ended.cur, ended.ends, ended.area⟩,
      ⟨s.goSlot 0, exec_choice (c := .goA m) rfl ha hb hp 1 a, State.goSlot_shown kept.1 0⟩,
      ⟨s.goSlot 1, exec_choice (c := .goB m) rfl ha hb hp 2 b, State.goSlot_shown kept.1 1⟩,
      ⟨s.progSlot 0, exec_choice (c := .progA m) rfl ha hb hp 3 progA, progChosen kept hp 0⟩,
      ⟨s.progSlot 1, exec_choice (c := .progB m) rfl ha hb hp 4 progB, progChosen kept hp 1⟩⟩
  · obtain ⟨ram, a, b, progA, progB⟩ := bitsOf_choices
    simp only [List.forall_mem_cons, List.not_mem_nil, false_imp_iff, implies_true, and_true]
    exact ⟨exec_choice_busy (c := .goRam m) rfl ha hp 0 ram, exec_choice_busy (c := .goA m) rfl ha hp 1 a,
      exec_choice_busy (c := .goB m) rfl ha hp 2 b, exec_choice_busy (c := .progA m) rfl ha hp 3 progA,
      exec_choice_busy (c := .progB m) rfl ha hp 4 progB⟩

end Sys2Proof.Machine

namespace Sys2Proof.Machine

/-! ### A section whose write is felt outside its target (R493, R555) -/

section Overflow

/-- One WRITE record: FOL_PROT takes the value 1. -/
def protRecord : List Byte := leBytes 4 F.FOL_PROT_BP.addr ++ leBytes 1 1 ++ [0] ++ leBytes 2 1 ++ leBytes 4 1

/-- The section of Folio's block that holds this record. -/
def protSection : SectEntry := ⟨0, 0xB, 0, 0, 0, 12, crc32 protRecord⟩

/-- A CRT section without records. -/
def emptySection : SectEntry := ⟨1, 1, 0, 0, 16, 0, 0⟩

/-- Folio's queue is full, and counter 0 of the Ledger counts the jobs that are dropped. -/
def fullQueue : State :=
  let s := { State.reset with
    boot := { Boot.reset with stage := .slot, sects := [protSection, emptySection] }
    fol := { Folio.factory with jobs := List.replicate 16 .thermal } }
  (s.setF (F.LDG_CNT_SEL_SRC 0) 169).setF (F.LDG_CNT_SEL_EN 0) 1

theorem fullQueue_premises : fullQueue.wf = true ∧ fullQueue.boot.stage = .slot ∧
    fullQueue.boot.sects = [protSection, emptySection] ∧ protRecord.length = protSection.length := by decide +kernel

theorem fullQueue_passes : (fullQueue.applySection false protSection [emptySection] protRecord).2 = 0 := by
  decide +kernel

/-- The answer of SECTION_RECEIVED, if it is a state. -/
def protDropped : Option State :=
  match exec (.sectionReceived protRecord) fullQueue with
  | .next t => some t
  | _ => none

/-- The protection update finds no place in the queue, and the Ledger's counter 0 counts that. -/
theorem protDropped_counted : protDropped.map (fun t => t.rd (F.LDG_CNT_LO 0).addr) = some 1 := by decide +kernel

theorem fullQueue_uncounted : fullQueue.rd (F.LDG_CNT_LO 0).addr = 0 := by decide +kernel

theorem counter_outside_target : targetRegs protSection.target protSection.inst (F.LDG_CNT_LO 0).addr = false := by
  decide +kernel

end Overflow

/-- Refutes O9: a section can change a register outside its target. Its record writes FOL_PROT while Folio's queue holds
16 jobs: the protection update is dropped, the drop is a source of the Ledger (169), and counter 0, set to that source,
reads 1 after the section and 0 before it. -/
theorem not_flashAndSectionsAreReadInOrder : ¬ Obligations.FlashAndSectionsAreReadInOrder := by
  rintro ⟨-, -, -, -, -, sections, -⟩
  obtain ⟨hs, stage, sects, length⟩ := fullQueue_premises
  obtain ⟨t, answer, -, -, more⟩ := sections fullQueue protSection [emptySection] protRecord hs stage sects length
  obtain ⟨-, -, regs, -⟩ := more fullQueue_passes (List.cons_ne_nil _ _)
  have same := regs _ counter_outside_target
  have next : protDropped = some t := by rw [protDropped, answer]
  have counted := protDropped_counted
  rw [next, Option.map_some, same, fullQueue_uncounted] at counted
  exact absurd counted (by decide)

end Sys2Proof.Machine

namespace Sys2Proof.Machine

/-! PROOFS. The converters: background calibration and its commands, and the filing of results. -/

/-! ### Changes of some registers alone -/

section Within

theorem mem_cons_of_mem_single {a b : Nat} {l : List Nat} (h : a ∈ [b]) : a ∈ b :: l :=
  List.mem_cons.mpr (.inl (List.mem_singleton.mp h))

variable {s t u : State} {l m : List Nat}

/-- `t` is `s` but for the registers in `l` and what is held outside registers and memory. -/
structure Within (l : List Nat) (s t : State) : Prop where
  regs : sameRegs s t l
  mem : t.mem = s.mem

theorem Within.refl (s : State) : Within l s s := ⟨sameRegs.refl s l, rfl⟩

theorem Within.trans (h : Within l s t) (k : Within l t u) : Within l s u := ⟨h.regs.trans k.regs, k.mem.trans h.mem⟩

theorem Within.mono (h : Within l s t) (hl : ∀ a, a ∈ l → a ∈ m) : Within m s t := ⟨h.regs.mono hl, h.mem⟩

theorem Within.thenHidden (h : Within l s t) (hr : u.regs = t.regs) (hm : u.mem = t.mem) : Within l s u :=
  h.trans ⟨sameRegs.ofRegs hr, hm⟩

theorem Within.thenSetF (h : Within l s t) {x : Fld} (hx : x.addr ∈ l) (v : Nat) : Within l s (t.setF x v) :=
  ⟨h.regs.thenSetF hx v, h.mem⟩

theorem Within.ite {c : Prop} [Decidable c] (ht : Within l s t) (hu : Within l s u) :
    Within l s (if c then t else u) := by
  split
  · exact ht
  · exact hu

theorem Within.cond {f : State → State} (b : Bool) (h : Within l s (f s)) : Within l s (s.cond b f) := by
  cases b
  · exact Within.refl s
  · exact h

theorem Within.f (h : Within l s t) {x : Fld} (hx : x.addr ∉ l) : t.f x = s.f x := State.f_of_rd (h.regs _ hx)

theorem Within.on (h : Within l s t) {x : Fld} (hx : x.addr ∉ l) : t.on x = s.on x := State.on_of_rd (h.regs _ hx)

theorem Within.sameMem (h : Within l s t) : sameMem s t := sameMem.ofMem h.mem

theorem State.count_within (s : State) (x : Fld) (src : Nat) : Within (x.addr :: countRegs) s (s.count x src) :=
  ⟨s.count_same x src, s.count_mem x src⟩

theorem State.log_within (s : State) (a b c d : Nat) (e : Option Nat) (f : Bool) :
    Within countRegs s (s.log a b c d e f) := ⟨s.log_same a b c d e f, s.log_mem a b c d e f⟩

theorem State.log_adc (s : State) (a b c d : Nat) (e : Option Nat) (f : Bool) : (s.log a b c d e f).adc = s.adc := by
  unfold State.log
  split
  · rfl
  · exact (regsOnly.setF s F.ANL_LOSTCNT _).adc

theorem State.f_of_regs (h : t.regs = s.regs) (x : Fld) : t.f x = s.f x :=
  State.f_of_rd (by rw [State.rd_eq, State.rd_eq, h])

/-- The bit that was set reads as set. -/
theorem State.bit_setBit (h : regsWf s.regs = true) {x : Fld} (hx : x.fits = true) {k : Nat} (hk : k < x.width) :
    bit ((s.setBit x k).f x) k = true := by
  have now : (s.setBit x k).f x = orN (s.f x) (2 ^ k) % 2 ^ x.width := State.f_setF_same h hx _
  rw [now, bit_mod _ hk, bit_orN, bit_eq_testBit (2 ^ k), Nat.testBit_two_pow_self, Bool.or_true]

end Within

/-! ### The phase of a cycle, and its core -/

section Phase

variable {s : State} {k : Nat}

/-- The registers of ADC that show a cycle. -/
def calStat : List Nat := [F.ADC_CALSTAT_PHASE.addr]

theorem State.phase_within (s : State) (p : Nat) : Within calStat s (s.setF F.ADC_CALSTAT_PHASE p) :=
  (Within.refl s).thenSetF (x := F.ADC_CALSTAT_PHASE) List.mem_cons_self p

theorem State.f_phase (h : regsWf s.regs = true) {p : Nat} (hp : p < 8) :
    (s.setF F.ADC_CALSTAT_PHASE p).f F.ADC_CALSTAT_PHASE = p :=
  (State.f_setF_same h rfl p).trans (Nat.mod_eq_of_lt hp)

/-- A cycle stands in phase `p`, with F core `k`. -/
def State.atPhase (s : State) (p k : Nat) : State := (s.setF F.ADC_CALSTAT_PHASE p).setF F.ADC_CALSTAT_CORE k

theorem State.atPhase_shown (h : regsWf s.regs = true) {p : Nat} (hp : p < 8) (hk : k < 4) :
    (s.atPhase p k).f F.ADC_CALSTAT_PHASE = p ∧ (s.atPhase p k).f F.ADC_CALSTAT_CORE = k ∧
      Within calStat s (s.atPhase p k) := by
  have wf := State.setF_regsWf h F.ADC_CALSTAT_PHASE p
  refine ⟨?_, (State.f_setF_same wf rfl k).trans (Nat.mod_eq_of_lt hk), ?_⟩
  · exact (State.f_setF_apart wf (x := F.ADC_CALSTAT_CORE) rfl rfl k).trans (State.f_phase h hp)
  · exact (s.phase_within p).thenSetF (x := F.ADC_CALSTAT_CORE) (by decide) k

/-! ### A cycle starts (R127 to R129, R133, R136) -/

/-- S calibrates itself, and F core `k` is next. -/
def State.cycleStarted (s : State) (k : Nat) : State := { s.atPhase 1 k with adc := { s.adc with due := false } }

theorem State.startCycle_starts (next : s.nextCore = some k) (ready : s.adc.ready = true) (spare : s.coreEn 8 = true)
    (idle : s.f F.ADC_CALSTAT_PHASE = 0) (perm : s.on F.ADC_CALCTL_PERM = false) : s.startCycle = s.cycleStarted k := by
  unfold State.startCycle
  rw [if_neg (by simp [idle, ready, perm, spare]), next]
  rfl

theorem State.cycleStarted_shown (h : regsWf s.regs = true) (hk : k < 4) :
    (s.cycleStarted k).f F.ADC_CALSTAT_PHASE = 1 ∧ (s.cycleStarted k).f F.ADC_CALSTAT_CORE = k ∧
      (s.cycleStarted k).adc.due = false ∧ Within calStat s (s.cycleStarted k) := by
  obtain ⟨phase, core, same⟩ := State.atPhase_shown h (p := 1) (by decide) hk
  exact ⟨phase, core, rfl, same.thenHidden rfl rfl⟩

/-- A cycle is due, and waits. -/
def State.noteDue (s : State) : State := { s with adc := { s.adc with due := true } }

theorem State.noteDue_regs (s : State) : s.noteDue.regs = s.regs := rfl

theorem State.noteDue_mem (s : State) : s.noteDue.mem = s.mem := rfl

/-- The interval timer is out, and no cycle runs. -/
theorem exec_calibrationCycleDue (bgen : s.on F.ADC_CALCTL_BGEN = true) (timer : s.adc.timer = 0)
    (idle : s.f F.ADC_CALSTAT_PHASE = 0) (ready : s.adc.ready = true) (fresh : s.adc.postponed = false) :
    exec .calibrationCycleDue s = .next (if s.calHeld then s.noteDue else s.startCycle) := by
  have run : exec .calibrationCycleDue s = execCalibrationCycleDue s := rfl
  rw [run, execCalibrationCycleDue, if_neg (by simp [bgen, timer, idle, ready, fresh])]
  rfl

theorem exec_calibrationRetry (held : s.calHeld = false) (postponed : s.adc.postponed = true) (due : s.frame % 64 = 0) :
    exec .calibrationRetry s = .next s.startCycle := by
  have run : exec .calibrationRetry s = execCalibrationRetry s := rfl
  rw [run, execCalibrationRetry, if_pos (by simp [held, postponed, due])]

end Phase

/-! ### A set is judged (R122, R124, R129, R452) -/

section Judgement

variable {s : State} {k : Nat} {c : CalSet}

/-- The set is taken as the working set of core `k`. -/
def State.setTaken (s : State) (k : Nat) (c : CalSet) : State :=
  { s with adc := { s.adc with wtrim := updAt s.adc.wtrim k (fun _ => some c) } }

theorem State.judgeSet_taken (ok : setAccepted k c.ofs.toNat c.gain.toNat = true) :
    s.judgeSet k c = if k < 4 then (s.setTaken k c).setF (calAge k) 0 else s.setTaken k c := if_pos ok

theorem wtrim_taken {l : List (Option CalSet)} (hk : k < l.length) (x : Option CalSet) :
    (updAt l k fun _ => x)[k]? = some x := by
  rw [updAt, List.getElem?_eq_getElem hk]
  exact List.getElem?_set_self hk

/-- The set is discarded: REJ shows its core, ADC_REJCNT and the Ledger count it, and the Annals log it. -/
def State.setRejected (s : State) (k : Nat) (c : CalSet) : State :=
  ((s.setBit F.ADC_CALSTAT_REJ (rejBit k)).count F.ADC_REJCNT 59).log 0x03 0x10 k
    (c.ofs.toNat * 65536 + c.gain.toNat) none false

theorem State.judgeSet_rejected (bad : setAccepted k c.ofs.toNat c.gain.toNat = false) :
    s.judgeSet k c = s.setRejected k c := if_neg (by rw [bad]; decide)

theorem adcFields_counted : F.ADC_CALSTAT_PHASE.addr ∉ F.ADC_REJCNT.addr :: countRegs ∧
    F.ADC_CALINT_INT.addr ∉ F.ADC_CALSTAT_PHASE.addr :: F.ADC_REJCNT.addr :: countRegs ∧
    F.ADC_REJCNT.addr ∉ F.PAIR_FAILSRC_SRC.addr :: countRegs ∧
    F.ADC_CALSTAT_PHASE.addr ∉ [F.PAIR_FAILSRC_SRC.addr] := by decide +kernel

theorem State.setRejected_adc (s : State) (k : Nat) (c : CalSet) : (s.setRejected k c).adc = s.adc :=
  (State.log_adc ..).trans (State.count_regsOnly _ _ _).adc

/-- The registers that a discarded set changes. -/
def rejRegs : List Nat := F.ADC_CALSTAT_PHASE.addr :: F.ADC_REJCNT.addr :: countRegs

theorem State.setRejected_within (s : State) (k : Nat) (c : CalSet) : Within rejRegs s (s.setRejected k c) := by
  have marked : Within rejRegs s (s.setBit F.ADC_CALSTAT_REJ (rejBit k)) :=
    (Within.refl s).thenSetF (x := F.ADC_CALSTAT_REJ) List.mem_cons_self _
  exact (marked.trans ((State.count_within _ _ _).mono fun _ => List.mem_cons_of_mem _)).trans
    ((State.log_within ..).mono fun _ h => List.mem_cons_of_mem _ (List.mem_cons_of_mem _ h))

theorem State.setRejected_regsWf (h : regsWf s.regs = true) : regsWf (s.setRejected k c).regs = true :=
  State.log_regsWf (State.ledger_regsWf (State.add_regsWf (State.setF_regsWf h ..) ..) _) ..

theorem State.setRejected_shown (h : regsWf s.regs = true) (hk : rejBit k < 5) :
    bit ((s.setRejected k c).f F.ADC_CALSTAT_REJ) (rejBit k) = true ∧
      (s.setRejected k c).f F.ADC_REJCNT = min (s.f F.ADC_REJCNT + 1) (2 ^ 32 - 1) := by
  obtain ⟨stat, -, cnt, -⟩ := adcFields_counted
  have marked : regsWf (s.setBit F.ADC_CALSTAT_REJ (rejBit k)).regs = true := State.setF_regsWf h _ _
  have apart : (s.setBit F.ADC_CALSTAT_REJ (rejBit k)).f F.ADC_REJCNT = s.f F.ADC_REJCNT :=
    State.f_setF_apart h rfl rfl _
  constructor
  · have shown : (s.setRejected k c).f F.ADC_CALSTAT_REJ =
        (s.setBit F.ADC_CALSTAT_REJ (rejBit k)).f F.ADC_CALSTAT_REJ :=
      ((State.log_within ..).f (x := F.ADC_CALSTAT_REJ) fun hc => stat (List.mem_cons_of_mem _ hc)).trans
        ((State.count_within _ _ _).f (x := F.ADC_CALSTAT_REJ) stat)
    rw [shown]
    exact State.bit_setBit h rfl hk
  · have counted := (State.log_within ((s.setBit F.ADC_CALSTAT_REJ (rejBit k)).count F.ADC_REJCNT 59) 0x03 0x10 k
      (c.ofs.toNat * 65536 + c.gain.toNat) none false).f fun hc => cnt (List.mem_cons_of_mem _ hc)
    refine counted.trans ?_
    rw [State.f_count marked rfl (fun hc => cnt (List.mem_cons_of_mem _ hc)), apart]
    rfl

/-! #### S judges itself -/

/-- S keeps the set it had beside the new one (log entry 49). -/
def State.withPrevS (s : State) : State := { s with adc := { s.adc with prevS := s.adc.wtrim.getD 8 none } }

theorem State.withPrevS_wtrim (s : State) : s.withPrevS.adc.wtrim = s.adc.wtrim := rfl

theorem State.withPrevS_f (s : State) (x : Fld) : s.withPrevS.f x = s.f x := rfl

theorem exec_coreCalibrationEnd (c : CalSet) (s : State) : exec (.coreCalibrationEnd (c.ofs, c.gain) c.weights) s =
    execCoreCalibrationEnd (c.ofs, c.gain) c.weights s := rfl

theorem exec_coreCalibrationEnd_self (h : s.f F.ADC_CALSTAT_PHASE = 1) (c : CalSet) :
    exec (.coreCalibrationEnd (c.ofs, c.gain) c.weights) s = .next (
      if setAccepted 8 c.ofs.toNat c.gain.toNat then (s.withPrevS.judgeSet 8 c).setF F.ADC_CALSTAT_PHASE 2
      else (s.withPrevS.judgeSet 8 c).endCycle) := by
  rw [exec_coreCalibrationEnd]
  unfold execCoreCalibrationEnd
  simp only [h]
  rfl

theorem exec_selfCalibration_taken (hs : s.wf = true) (len : s.adc.wtrim.length = 9) (h : s.f F.ADC_CALSTAT_PHASE = 1)
    (ok : setAccepted 8 c.ofs.toNat c.gain.toNat = true) :
    ∃ t, exec (.coreCalibrationEnd (c.ofs, c.gain) c.weights) s = .next t ∧ t.f F.ADC_CALSTAT_PHASE = 2 ∧
      t.adc.wtrim[8]? = some (some c) ∧ t.adc.prevS = s.adc.wtrim.getD 8 none ∧
      sameRegs s t [F.ADC_CALSTAT_PHASE.addr] ∧ sameMem s t := by
  have taken : s.withPrevS.judgeSet 8 c = s.withPrevS.setTaken 8 c := State.judgeSet_taken ok
  have hidden : Within calStat s (s.withPrevS.setTaken 8 c) := (Within.refl s).thenHidden rfl rfl
  have same := hidden.trans (State.phase_within _ 2)
  refine ⟨(s.withPrevS.setTaken 8 c).setF F.ADC_CALSTAT_PHASE 2, ?_, ?_, ?_, rfl, same.regs, same.sameMem⟩
  · rw [exec_coreCalibrationEnd_self h, if_pos ok, taken]
  · exact State.f_phase (s := s.withPrevS.setTaken 8 c) (State.wf_regs hs) (by decide)
  · exact wtrim_taken (l := s.adc.wtrim) (by omega) (some c)

theorem State.endCycle_within (s : State) : Within calStat s s.endCycle := (s.phase_within 0).thenHidden rfl rfl

theorem State.endCycle_wtrim (s : State) : s.endCycle.adc.wtrim = s.adc.wtrim := rfl

theorem State.endCycle_f (s : State) (x : Fld) : s.endCycle.f x = (s.setF F.ADC_CALSTAT_PHASE 0).f x :=
  State.f_of_regs rfl x

theorem State.endCycle_phase (h : regsWf s.regs = true) : s.endCycle.f F.ADC_CALSTAT_PHASE = 0 := by
  rw [State.endCycle_f, State.f_phase h (by decide)]

theorem exec_selfCalibration_rejected (hs : s.wf = true) (h : s.f F.ADC_CALSTAT_PHASE = 1)
    (bad : setAccepted 8 c.ofs.toNat c.gain.toNat = false) :
    ∃ t, exec (.coreCalibrationEnd (c.ofs, c.gain) c.weights) s = .next t ∧ t.f F.ADC_CALSTAT_PHASE = 0 ∧
      bit (t.f F.ADC_CALSTAT_REJ) 4 = true ∧ t.f F.ADC_REJCNT = min (s.f F.ADC_REJCNT + 1) (2 ^ 32 - 1) ∧
      t.adc.wtrim = s.adc.wtrim ∧ t.adc.timer = s.f F.ADC_CALINT_INT ∧ t.adc.postponed = false ∧
      sameRegs s t rejRegs ∧ sameMem s t := by
  have regs : regsWf s.withPrevS.regs = true := State.wf_regs hs
  have wf : regsWf (s.withPrevS.setRejected 8 c).regs = true := State.setRejected_regsWf regs
  obtain ⟨marked, counted⟩ := State.setRejected_shown regs (k := 8) (c := c) (by decide)
  rw [State.withPrevS_f] at counted
  rw [show rejBit 8 = 4 from rfl] at marked
  have before : Within rejRegs s s.withPrevS := (Within.refl s).thenHidden rfl rfl
  have judged := before.trans (s.withPrevS.setRejected_within 8 c)
  have adc := s.withPrevS.setRejected_adc 8 c
  generalize ht : s.withPrevS.setRejected 8 c = t at wf marked counted judged adc
  have same : Within rejRegs s t.endCycle :=
    judged.trans (t.endCycle_within.mono fun _ => mem_cons_of_mem_single)
  refine ⟨t.endCycle, ?_, State.endCycle_phase wf, ?_, ?_, ?_, judged.f adcFields_counted.2.1, rfl, same.regs,
    same.sameMem⟩
  · rw [exec_coreCalibrationEnd_self h, if_neg (by rw [bad]; decide), State.judgeSet_rejected bad, ht]
  · rw [State.endCycle_f, State.f_setF_apart wf rfl rfl]
    exact marked
  · exact (t.endCycle_within.f (by decide)).trans counted
  · rw [State.endCycle_wtrim, adc, State.withPrevS_wtrim]

/-! #### An F core is judged -/

/-- The judgement of the core that is out: within a cycle, or as PERM ends. -/
def State.judgeCore (s : State) (k : Nat) (c : CalSet) : State :=
  if s.adc.unperm then s.judgeSet k c else s.cycleJudge k c

theorem exec_coreCalibrationEnd_core (h : s.f F.ADC_CALSTAT_PHASE = 3) (c : CalSet) :
    exec (.coreCalibrationEnd (c.ofs, c.gain) c.weights) s =
      .next ((s.judgeCore (s.f F.ADC_CALSTAT_CORE) c).setF F.ADC_CALSTAT_PHASE 4) := by
  rw [exec_coreCalibrationEnd]
  unfold execCoreCalibrationEnd
  simp only [h]
  rfl

theorem State.judgeCore_kept {pq : List Instr} (h : s.Kept pq) (k : Nat) (c : CalSet) : (s.judgeCore k c).Kept pq :=
  kept_ite (State.judgeSet_kept k c h) (State.cycleJudge_kept k c h)

theorem State.failSource_within (s : State) (n : Nat) : Within [F.PAIR_FAILSRC_SRC.addr] s (s.failSource n) := by
  unfold State.failSource State.cond
  exact Within.ite ((Within.refl s).thenSetF (x := F.PAIR_FAILSRC_SRC) List.mem_cons_self _) (Within.refl s)

theorem State.failSource_adc (s : State) (n : Nat) : (s.failSource n).adc = s.adc := by
  unfold State.failSource State.cond
  split <;> rfl

/-- `n` cycles in a row have rejected core `k`. -/
def State.runCounted (s : State) (k n : Nat) : State :=
  { s with adc := { s.adc with rejRun := updAt s.adc.rejRun k (fun _ => n) } }

theorem State.runCounted_regs (s : State) (k n : Nat) : (s.runCounted k n).regs = s.regs := rfl

theorem State.runCounted_wtrim (s : State) (k n : Nat) : (s.runCounted k n).adc.wtrim = s.adc.wtrim := rfl

theorem State.cycleJudge_eq (s : State) (k : Nat) (c : CalSet) : ∃ n,
    s.cycleJudge k c = ((s.judgeSet k c).runCounted k n).cond (decide (2 ≤ n)) (·.failSource 4) ∧
      (setAccepted k c.ofs.toNat c.gain.toNat = true → n = 0) :=
  ⟨_, rfl, fun ok => if_pos ok⟩

/-- Beside the judgement a FAIL source may be set, and the count of rejections in a row moves. -/
theorem State.judgeCore_beside (s : State) (k : Nat) (c : CalSet) :
    Within [F.PAIR_FAILSRC_SRC.addr] (s.judgeSet k c) (s.judgeCore k c) ∧
      (s.judgeCore k c).adc.wtrim = (s.judgeSet k c).adc.wtrim := by
  unfold State.judgeCore
  split
  · exact ⟨Within.refl _, rfl⟩
  · obtain ⟨n, judged, -⟩ := s.cycleJudge_eq k c
    have counted : Within [F.PAIR_FAILSRC_SRC.addr] (s.judgeSet k c) ((s.judgeSet k c).runCounted k n) :=
      (Within.refl _).thenHidden rfl rfl
    rw [judged, State.cond]
    split
    · exact ⟨counted.trans (State.failSource_within _ 4), by rw [State.failSource_adc, State.runCounted_wtrim]⟩
    · exact ⟨counted, State.runCounted_wtrim ..⟩

/-- A set that is taken sets no FAIL source. -/
theorem State.judgeCore_taken (ok : setAccepted k c.ofs.toNat c.gain.toNat = true) :
    (s.judgeCore k c).regs = (s.judgeSet k c).regs := by
  unfold State.judgeCore
  split
  · rfl
  · obtain ⟨n, judged, zero⟩ := s.cycleJudge_eq k c
    rw [judged, zero ok, State.cond, if_neg (by decide), State.runCounted_regs]

theorem calAge_shape (k : Nat) : (calAge k).fits = true ∧ (calAge k).width = 16 ∧ (calAge k).addr ∉ calStat := by
  unfold calAge
  split <;> decide

theorem exec_coreCalibration_taken (hs : s.wf = true) (len : s.adc.wtrim.length = 9) (h : s.f F.ADC_CALSTAT_PHASE = 3)
    (ok : setAccepted (s.f F.ADC_CALSTAT_CORE) c.ofs.toNat c.gain.toNat = true) :
    ∃ t, exec (.coreCalibrationEnd (c.ofs, c.gain) c.weights) s = .next t ∧ t.f F.ADC_CALSTAT_PHASE = 4 ∧
      t.f (calAge (s.f F.ADC_CALSTAT_CORE)) = 0 ∧ t.adc.wtrim[s.f F.ADC_CALSTAT_CORE]? = some (some c) ∧
      sameRegs s t [F.ADC_CALSTAT_PHASE.addr, (calAge (s.f F.ADC_CALSTAT_CORE)).addr] ∧ sameMem s t := by
  have run := exec_coreCalibrationEnd_core h c
  have hk : s.f F.ADC_CALSTAT_CORE < 4 := State.f_lt s F.ADC_CALSTAT_CORE
  generalize s.f F.ADC_CALSTAT_CORE = k at run hk ok
  obtain ⟨fits, -, apart⟩ := calAge_shape k
  have judged : s.judgeSet k c = (s.setTaken k c).setF (calAge k) 0 := (State.judgeSet_taken ok).trans (if_pos hk)
  obtain ⟨beside, wtrim⟩ := s.judgeCore_beside k c
  have regs := State.judgeCore_taken (s := s) ok
  have wf := (State.judgeCore_kept (State.wf_iff_kept.mp hs) k c).1
  rw [judged] at beside wtrim regs
  have same : Within [F.ADC_CALSTAT_PHASE.addr, (calAge k).addr] s ((s.judgeCore k c).setF F.ADC_CALSTAT_PHASE 4) :=
    (((((Within.refl s).thenHidden rfl rfl).thenSetF (x := calAge k) (by simp) 0).thenHidden regs beside.mem).trans
      ((State.phase_within _ 4).mono fun _ => mem_cons_of_mem_single))
  refine ⟨_, run, State.f_phase wf (by decide), ?_, ?_, same.regs, same.sameMem⟩
  · have kept : (s.judgeCore k c).f (calAge k) = ((s.setTaken k c).setF (calAge k) 0).f (calAge k) :=
      State.f_of_regs regs _
    rw [(State.phase_within _ 4).f apart, kept]
    exact (State.f_setF_same (s := s.setTaken k c) (State.wf_regs hs) fits 0).trans (Nat.zero_mod _)
  · rw [show ((s.judgeCore k c).setF F.ADC_CALSTAT_PHASE 4).adc.wtrim = _ from wtrim]
    exact wtrim_taken (by omega) (some c)

theorem exec_coreCalibration_rejected (hs : s.wf = true) (h : s.f F.ADC_CALSTAT_PHASE = 3)
    (bad : setAccepted (s.f F.ADC_CALSTAT_CORE) c.ofs.toNat c.gain.toNat = false) :
    ∃ t, exec (.coreCalibrationEnd (c.ofs, c.gain) c.weights) s = .next t ∧ t.f F.ADC_CALSTAT_PHASE = 4 ∧
      bit (t.f F.ADC_CALSTAT_REJ) (s.f F.ADC_CALSTAT_CORE) = true ∧
      t.f F.ADC_REJCNT = min (s.f F.ADC_REJCNT + 1) (2 ^ 32 - 1) ∧ t.adc.wtrim = s.adc.wtrim ∧
      sameRegs s t (F.ADC_CALSTAT_PHASE.addr :: F.ADC_REJCNT.addr :: F.PAIR_FAILSRC_SRC.addr :: countRegs) ∧
      sameMem s t := by
  have run := exec_coreCalibrationEnd_core h c
  have hk : s.f F.ADC_CALSTAT_CORE < 4 := State.f_lt s F.ADC_CALSTAT_CORE
  generalize s.f F.ADC_CALSTAT_CORE = k at run hk bad
  have bitk : rejBit k = k := if_neg (by omega)
  have wf := (State.judgeCore_kept (State.wf_iff_kept.mp hs) k c).1
  obtain ⟨marked, counted⟩ := State.setRejected_shown (State.wf_regs hs) (k := k) (c := c) (by omega)
  obtain ⟨beside, wtrim⟩ := s.judgeCore_beside k c
  rw [State.judgeSet_rejected bad] at beside wtrim
  rw [bitk] at marked
  obtain ⟨-, -, cnt, stat⟩ := adcFields_counted
  have rejected : ∀ a, a ∈ rejRegs →
      a ∈ F.ADC_CALSTAT_PHASE.addr :: F.ADC_REJCNT.addr :: F.PAIR_FAILSRC_SRC.addr :: countRegs := fun a ha => by
    simp only [rejRegs, List.mem_cons] at ha ⊢
    tauto
  have source : ∀ a, a ∈ [F.PAIR_FAILSRC_SRC.addr] →
      a ∈ F.ADC_CALSTAT_PHASE.addr :: F.ADC_REJCNT.addr :: F.PAIR_FAILSRC_SRC.addr :: countRegs := fun _ ha =>
    List.mem_cons_of_mem _ (List.mem_cons_of_mem _ (mem_cons_of_mem_single ha))
  have same := (((s.setRejected_within k c).mono rejected).trans (beside.mono source)).trans
    ((State.phase_within _ 4).mono fun _ => mem_cons_of_mem_single)
  refine ⟨_, run, State.f_phase wf (by decide), ?_, ?_, ?_, same.regs, same.sameMem⟩
  · have apart : ((s.judgeCore k c).setF F.ADC_CALSTAT_PHASE 4).f F.ADC_CALSTAT_REJ =
        (s.judgeCore k c).f F.ADC_CALSTAT_REJ := State.f_setF_apart wf rfl rfl 4
    rw [apart, beside.f (x := F.ADC_CALSTAT_REJ) stat]
    exact marked
  · rw [(State.phase_within _ 4).f (by decide), beside.f (by decide)]
    exact counted
  · exact wtrim.trans (congrArg Conv9.wtrim (s.setRejected_adc k c))

end Judgement

/-- Settles O24: a cycle's start is one change of ADC_CALSTAT; a set is taken or discarded as its limits say, and the
phase then moves on. -/
theorem calibrationCycleStartsAndIsJudged : Obligations.CalibrationCycleStartsAndIsJudged := by
  refine ⟨fun s k hs hk next ready spare idle perm held => ?_, fun s bgen timer idle ready fresh held => ?_,
    fun s c hs len h ok => exec_selfCalibration_taken hs len h ok,
    fun s c hs h bad => exec_selfCalibration_rejected hs h bad,
    fun s c hs len h ok => exec_coreCalibration_taken hs len h ok,
    fun s c hs h bad => exec_coreCalibration_rejected hs h bad⟩
  · obtain ⟨phase, core, due, same⟩ := State.cycleStarted_shown (State.wf_regs hs) hk
    have starts := State.startCycle_starts next ready spare idle perm
    refine ⟨fun bgen timer fresh => ⟨_, ?_, phase, core, due, same.regs, same.sameMem⟩,
      fun postponed frame => ⟨_, ?_, phase, core, due, same.regs, same.sameMem⟩⟩
    · rw [exec_calibrationCycleDue bgen timer idle ready fresh, held, starts]
      rfl
    · rw [exec_calibrationRetry held postponed frame, starts]
  · refine ⟨s.noteDue, ?_, rfl, sameRegs.ofRegs s.noteDue_regs, sameMem.ofMem s.noteDue_mem⟩
    rw [exec_calibrationCycleDue bgen timer idle ready fresh, if_pos held]

end Sys2Proof.Machine

namespace Sys2Proof.Machine

/-! ### Handoff and handback (R131 to R135, R138) -/

section Handoff

variable {s : State} {k j : Nat} {c : Conv}

theorem getD_updAt {α : Type} (l : List α) (n : Nat) (f : α → α) {d : α} (hd : f d = d) :
    (updAt l n f).getD n d = f (l.getD n d) := by
  unfold updAt
  cases h : l[n]? with
  | none => simp [List.getD_eq_getElem?_getD, h, hd]
  | some x =>
    have hn : n < l.length := (List.getElem?_eq_some_iff.mp h).1
    simp [List.getD_eq_getElem?_getD, h, List.getElem?_set_self hn]

/-- From ADC edge `j` on, S or the core itself samples core `k`'s regular conversions. -/
theorem State.sub_of_mem_resample {byS : Bool} (h : c ∈ (s.resample k j byS).adc.reg.getD k [])
    (late : 2 * (j : Int) ≤ c.edge) : c.sub = byS := by
  have queue := getD_updAt s.adc.reg k
    (List.map (fun c : Conv => if 2 * (j : Int) ≤ c.edge then { c with sub := byS } else c)) (d := []) rfl
  obtain ⟨before, -, rfl⟩ := List.mem_map.mp (queue ▸ h)
  split at late
  · rw [if_pos ‹_›]
  · exact absurd late ‹_›

/-- S takes the samples of core `k` from ADC edge `j` on. -/
def State.handedOff (s : State) (k j : Nat) : State :=
  State.resample { s with adc := { s.adc with sub := some k } } k j true

theorem State.handedOff_regs (s : State) (k j : Nat) : (s.handedOff k j).regs = s.regs := rfl

theorem exec_calibrationHandoff {j : BitVec 16} (phase : s.f F.ADC_CALSTAT_PHASE = 2)
    (eligible : s.eligible (s.f F.ADC_CALSTAT_CORE) j.toNat = true) :
    exec (.calibrationHandoff j) s = .next ((s.handedOff (s.f F.ADC_CALSTAT_CORE) j.toNat).setF F.ADC_CALSTAT_PHASE
      (if s.on F.ADC_CALCTL_PERM then 5 else 3)) := by
  have run : exec (.calibrationHandoff j) s = execCalibrationHandoff s j := rfl
  have perm := State.on_of_regs (s.handedOff_regs (s.f F.ADC_CALSTAT_CORE) j.toNat) F.ADC_CALCTL_PERM
  rw [run, execCalibrationHandoff, if_pos ⟨phase, eligible⟩, ← perm]
  rfl

theorem exec_calibrationHandoff_shown (hs : s.wf = true) {j : BitVec 16} (phase : s.f F.ADC_CALSTAT_PHASE = 2)
    (eligible : s.eligible (s.f F.ADC_CALSTAT_CORE) j.toNat = true) :
    ∃ t, exec (.calibrationHandoff j) s = .next t ∧ t.adc.sub = some (s.f F.ADC_CALSTAT_CORE) ∧
      t.f F.ADC_CALSTAT_PHASE = (if s.on F.ADC_CALCTL_PERM then 5 else 3) ∧
      (∀ c, c ∈ t.adc.reg.getD (s.f F.ADC_CALSTAT_CORE) [] → 2 * (j.toNat : Int) ≤ c.edge → c.sub = true) ∧
      t.adc.inj = s.adc.inj ∧ sameRegs s t [F.ADC_CALSTAT_PHASE.addr] ∧ sameMem s t := by
  have run := exec_calibrationHandoff phase eligible
  generalize s.f F.ADC_CALSTAT_CORE = k at run
  have small : (if s.on F.ADC_CALCTL_PERM then 5 else 3) < 8 := by split <;> decide
  have wf : regsWf (s.handedOff k j.toNat).regs = true := by rw [State.handedOff_regs, State.wf_regs hs]
  have hidden : Within calStat s (s.handedOff k j.toNat) := (Within.refl s).thenHidden rfl rfl
  have same := hidden.trans (State.phase_within _ (if s.on F.ADC_CALCTL_PERM then 5 else 3))
  exact ⟨_, run, rfl, State.f_phase wf small, fun c hc late => State.sub_of_mem_resample hc late, rfl, same.regs,
    same.sameMem⟩

/-! #### The deadline of a handoff, and the late handback -/

theorem calCounted_apart : F.ADC_CALSTAT_LATEBACK.addr ∉ countRegs ∧ F.ADC_POSTCNT.addr ∉ countRegs := by
  decide +kernel

/-- A cycle will be tried again. -/
def State.postpone (s : State) : State := { s with adc := { s.adc with postponed := true } }

theorem State.postpone_regs (s : State) : s.postpone.regs = s.regs := rfl

theorem State.postpone_mem (s : State) : s.postpone.mem = s.mem := rfl

/-- The cycle is given up, and counted. -/
def State.cycleGivenUp (s : State) : State := (s.count F.ADC_POSTCNT 58).setF F.ADC_CALSTAT_PHASE 0

theorem exec_handoffDeadline (phase : s.f F.ADC_CALSTAT_PHASE = 2) (perm : s.on F.ADC_CALCTL_PERM = false) :
    exec .handoffDeadline s = .next s.cycleGivenUp.postpone := by
  have run : exec .handoffDeadline s = execHandoffDeadline s := rfl
  rw [run, execHandoffDeadline, if_pos ⟨phase, by rw [perm]; rfl⟩]
  rfl

theorem exec_handoffDeadline_shown (hs : s.wf = true) (phase : s.f F.ADC_CALSTAT_PHASE = 2)
    (perm : s.on F.ADC_CALCTL_PERM = false) :
    ∃ t, exec .handoffDeadline s = .next t ∧ t.f F.ADC_CALSTAT_PHASE = 0 ∧ t.adc.postponed = true ∧
      t.f F.ADC_POSTCNT = min (s.f F.ADC_POSTCNT + 1) (2 ^ 32 - 1) ∧
      sameRegs s t (F.ADC_CALSTAT_PHASE.addr :: F.ADC_POSTCNT.addr :: countRegs) ∧ sameMem s t := by
  have counted := (State.count_kept F.ADC_POSTCNT 58 (State.wf_iff_kept.mp hs)).1
  have shown : ∀ x, s.cycleGivenUp.postpone.f x = s.cycleGivenUp.f x := State.f_of_regs (State.postpone_regs _)
  have same : Within (F.ADC_CALSTAT_PHASE.addr :: F.ADC_POSTCNT.addr :: countRegs) s s.cycleGivenUp.postpone :=
    (((s.count_within F.ADC_POSTCNT 58).mono fun _ => List.mem_cons_of_mem _).thenSetF (x := F.ADC_CALSTAT_PHASE)
      List.mem_cons_self 0).thenHidden (State.postpone_regs _) (State.postpone_mem _)
  refine ⟨_, exec_handoffDeadline phase perm, ?_, rfl, ?_, same.regs, same.sameMem⟩
  · exact (shown _).trans (State.f_phase counted (by decide))
  · rw [shown, State.cycleGivenUp, State.f_setF_apart counted rfl rfl,
      State.f_count (State.wf_regs hs) rfl calCounted_apart.2, show F.ADC_POSTCNT.width = 32 from rfl]

theorem exec_lateHandback_shown (hs : s.wf = true) (phase : s.f F.ADC_CALSTAT_PHASE = 4) :
    ∃ t, exec .lateHandback s = .next t ∧ t.on F.ADC_CALSTAT_LATEBACK = true ∧ t.f F.ADC_CALSTAT_PHASE = 4 ∧
      sameRegs s t (F.ADC_CALSTAT_LATEBACK.addr :: countRegs) ∧ sameMem s t := by
  have run : exec .lateHandback s = execLateHandback s := rfl
  have wf := State.wf_regs hs
  have counted := State.ledger_same (s.setF F.ADC_CALSTAT_LATEBACK 1) 60
  have stat := counted F.ADC_CALSTAT_LATEBACK.addr calCounted_apart.1
  refine ⟨(s.setF F.ADC_CALSTAT_LATEBACK 1).ledger 60, ?_, ?_, ?_, ?_, sameMem.ofMem (State.ledger_mem _ 60)⟩
  · rw [run, execLateHandback, if_pos phase]
  · rw [State.on_of_rd (x := F.ADC_CALSTAT_LATEBACK) stat, State.on_setF_same wf rfl rfl]
    rfl
  · rw [State.f_of_rd (x := F.ADC_CALSTAT_PHASE) stat, State.f_setF_apart wf rfl rfl]
    exact phase
  · exact (sameRegs.setF s 1 List.mem_cons_self).trans (counted.mono fun _ => List.mem_cons_of_mem _)

/-! #### The handback -/

/-- The core samples for itself again from ADC edge `j` on. -/
def State.handedBack (s : State) (k j : Nat) : State :=
  State.resample { s with adc := { s.adc with sub := none, lastF := k, unperm := false } } k j false

/-- The cycle ends with the handback. -/
def State.cycleOver (s : State) (k j : Nat) : State := (s.handedBack k j).endCycle

theorem State.cycleOver_within (s : State) (k j : Nat) : Within calStat s (s.cycleOver k j) :=
  ((Within.refl s).thenHidden (u := s.handedBack k j) rfl rfl).trans (State.endCycle_within _)

theorem State.cycleOver_regsWf (h : regsWf s.regs = true) : regsWf (s.cycleOver k j).regs = true :=
  State.setF_regsWf (s := s.handedBack k j) h _ _

/-- What the handback leaves beside the registers. -/
theorem State.cycleOver_adc (s : State) (k j : Nat) :
    (s.cycleOver k j).adc.sub = none ∧ (s.cycleOver k j).adc.lastF = k ∧
      (s.cycleOver k j).adc.timer = s.f F.ADC_CALINT_INT ∧ (s.cycleOver k j).adc.postponed = false ∧
      (∀ c, c ∈ (s.cycleOver k j).adc.reg.getD k [] → 2 * (j : Int) ≤ c.edge → c.sub = false) ∧
      (s.cycleOver k j).adc.inj = s.adc.inj :=
  ⟨rfl, rfl, State.f_of_regs (s := s) (t := s.handedBack k j) rfl F.ADC_CALINT_INT, rfl,
    fun _ hc late => State.sub_of_mem_resample hc late, rfl⟩

theorem exec_calibrationHandback {j : BitVec 16} (phase : s.f F.ADC_CALSTAT_PHASE = 4)
    (eligible : s.eligible (s.f F.ADC_CALSTAT_CORE) j.toNat = true) :
    exec (.calibrationHandback j) s = .next (if (s.cycleOver (s.f F.ADC_CALSTAT_CORE) j.toNat).on F.ADC_CALCTL_PERM then
      (s.cycleOver (s.f F.ADC_CALSTAT_CORE) j.toNat).atPhase 2
        ((s.cycleOver (s.f F.ADC_CALSTAT_CORE) j.toNat).f F.ADC_CALCTL_PCORE)
      else s.cycleOver (s.f F.ADC_CALSTAT_CORE) j.toNat) := by
  have run : exec (.calibrationHandback j) s = execCalibrationHandback s j := rfl
  rw [run, execCalibrationHandback, if_pos ⟨phase, eligible⟩]
  rfl

theorem exec_calibrationHandback_shown (hs : s.wf = true) {j : BitVec 16} (phase : s.f F.ADC_CALSTAT_PHASE = 4)
    (eligible : s.eligible (s.f F.ADC_CALSTAT_CORE) j.toNat = true) :
    ∃ t, exec (.calibrationHandback j) s = .next t ∧ t.adc.sub = none ∧ t.adc.lastF = s.f F.ADC_CALSTAT_CORE ∧
      t.f F.ADC_CALSTAT_PHASE = (if s.on F.ADC_CALCTL_PERM then 2 else 0) ∧
      (s.on F.ADC_CALCTL_PERM = true → t.f F.ADC_CALSTAT_CORE = s.f F.ADC_CALCTL_PCORE) ∧
      t.adc.timer = s.f F.ADC_CALINT_INT ∧ t.adc.postponed = false ∧
      (∀ c, c ∈ t.adc.reg.getD (s.f F.ADC_CALSTAT_CORE) [] → 2 * (j.toNat : Int) ≤ c.edge → c.sub = false) ∧
      t.adc.inj = s.adc.inj ∧ sameRegs s t [F.ADC_CALSTAT_PHASE.addr] ∧ sameMem s t := by
  have run := exec_calibrationHandback phase eligible
  generalize s.f F.ADC_CALSTAT_CORE = k at run
  have back := s.cycleOver_within k j.toNat
  have wf := State.cycleOver_regsWf (k := k) (j := j.toNat) (State.wf_regs hs)
  obtain ⟨sub, last, timer, fresh, own, inj⟩ := s.cycleOver_adc k j.toNat
  have ended : (s.cycleOver k j.toNat).f F.ADC_CALSTAT_PHASE = 0 :=
    State.endCycle_phase (s := s.handedBack k j.toNat) (State.wf_regs hs)
  rw [back.on (by decide), back.f (x := F.ADC_CALCTL_PCORE) (by decide)] at run
  cases perm : s.on F.ADC_CALCTL_PERM with
  | false =>
    rw [perm] at run
    exact ⟨_, run, sub, last, ended, fun h => absurd h (by decide), timer, fresh, own, inj, back.regs, back.sameMem⟩
  | true =>
    rw [perm] at run
    obtain ⟨phase, core, shown⟩ := State.atPhase_shown wf (p := 2) (by decide) (State.f_lt s F.ADC_CALCTL_PCORE)
    have same := back.trans shown
    exact ⟨_, run, sub, last, phase, fun _ => core, timer, fresh, own, inj, same.regs, same.sameMem⟩

end Handoff

/-- Settles O25: an eligible point moves the core's samples to S or back, the deadline and the late handback move
none. -/
theorem handoffAndHandback : Obligations.HandoffAndHandback :=
  ⟨fun _ _ hs phase eligible => exec_calibrationHandoff_shown hs phase eligible,
    fun _ hs phase perm => exec_handoffDeadline_shown hs phase perm,
    fun _ _ hs phase eligible => exec_calibrationHandback_shown hs phase eligible,
    fun _ hs phase => exec_lateHandback_shown hs phase⟩

end Sys2Proof.Machine

namespace Sys2Proof.Machine

/-! ### Writes of ADC_CALCTL (R127, R137, R138) -/

section CalCtl

variable {s t u : State} {m : Master} {w k : Nat}

/-! #### The register -/

theorem getBits_congr {x y lo n : Nat} (h : ∀ i, i < n → bit x (lo + i) = bit y (lo + i)) :
    getBits x lo n = getBits y lo n := by
  refine Nat.eq_of_testBit_eq fun i => ?_
  rw [testBit_getBits, testBit_getBits]
  cases hi : decide (i < n) with
  | false => rfl
  | true => rw [← bit_eq_testBit, ← bit_eq_testBit, h i (of_decide_eq_true hi)]

/-- ADC_CALCTL as a write leaves it. -/
def State.calCtlWritten (s : State) (w : Nat) : State :=
  (((s.setB F.ADC_CALCTL_BGEN (bit w 0)).setB F.ADC_CALCTL_FOXLOCK (bit w 1)).setB F.ADC_CALCTL_PERM (bit w 3)).setF
    F.ADC_CALCTL_PCORE (getBits w 4 2)

/-- The interval timer starts anew. -/
def State.timerAnew (s : State) : State := { s with adc := { s.adc with timer := s.f F.ADC_CALINT_INT } }

/-- The register is written, and the timer starts where BGEN has been set (R127). -/
def State.calTimed (s : State) (w : Nat) : State :=
  if !s.on F.ADC_CALCTL_BGEN && bit w 0 then (s.calCtlWritten w).timerAnew else s.calCtlWritten w

/-- From `s` to `u` the word `w` has been written to ADC_CALCTL, and nothing has followed from PERM or FORCE yet. -/
structure CtlTaken (s u : State) (w : Nat) : Prop where
  wf : regsWf u.regs = true
  bgen : u.on F.ADC_CALCTL_BGEN = bit w 0
  perm : u.on F.ADC_CALCTL_PERM = bit w 3
  pcore : u.f F.ADC_CALCTL_PCORE = getBits w 4 2
  same : Within [F.ADC_CALCTL_PERM.addr] s u
  ready : u.adc.ready = s.adc.ready
  last : u.adc.lastF = s.adc.lastF

/-- A change beside registers, memory, and what a start of a cycle looks at. -/
theorem CtlTaken.thenHidden (h : CtlTaken s u w) (hr : t.regs = u.regs) (hm : t.mem = u.mem)
    (ready : t.adc.ready = u.adc.ready) (last : t.adc.lastF = u.adc.lastF) : CtlTaken s t w where
  wf := hr ▸ h.wf
  bgen := (State.on_of_regs hr _).trans h.bgen
  perm := (State.on_of_regs hr _).trans h.perm
  pcore := (State.f_of_regs hr _).trans h.pcore
  same := h.same.thenHidden hr hm
  ready := ready.trans h.ready
  last := last.trans h.last

theorem CtlTaken.due (h : CtlTaken s u w) : CtlTaken s u.noteDue w := h.thenHidden u.noteDue_regs u.noteDue_mem rfl rfl

theorem b2n_odd (b : Bool) : (b2n b % 2 == 1) = b := by cases b <;> rfl

theorem State.calCtlWritten_taken (h : regsWf s.regs = true) (w : Nat) : CtlTaken s (s.calCtlWritten w) w := by
  have wf1 : regsWf (s.setB F.ADC_CALCTL_BGEN (bit w 0)).regs = true := State.setF_regsWf h _ _
  have wf2 : regsWf ((s.setB F.ADC_CALCTL_BGEN (bit w 0)).setB F.ADC_CALCTL_FOXLOCK (bit w 1)).regs = true :=
    State.setF_regsWf wf1 _ _
  have wf3 : regsWf (((s.setB F.ADC_CALCTL_BGEN (bit w 0)).setB F.ADC_CALCTL_FOXLOCK (bit w 1)).setB F.ADC_CALCTL_PERM
    (bit w 3)).regs = true := State.setF_regsWf wf2 _ _
  refine ⟨State.setF_regsWf wf3 _ _, ?_, ?_, ?_, ?_, rfl, rfl⟩
  · rw [State.calCtlWritten, State.on_setF_apart wf3 rfl rfl, State.setB, State.on_setF_apart wf2 rfl rfl, State.setB,
      State.on_setF_apart wf1 rfl rfl, State.setB, State.on_setF_same h rfl rfl, b2n_odd]
  · rw [State.calCtlWritten, State.on_setF_apart wf3 rfl rfl, State.setB, State.on_setF_same wf2 rfl rfl, b2n_odd]
  · exact (State.f_setF_same wf3 rfl _).trans (Nat.mod_mod _ _)
  · exact ((((Within.refl s).thenSetF (x := F.ADC_CALCTL_BGEN) List.mem_cons_self _).thenSetF
      (x := F.ADC_CALCTL_FOXLOCK) List.mem_cons_self _).thenSetF (x := F.ADC_CALCTL_PERM) List.mem_cons_self _).thenSetF
      (x := F.ADC_CALCTL_PCORE) List.mem_cons_self _

theorem State.calTimed_taken (h : regsWf s.regs = true) (w : Nat) : CtlTaken s (s.calTimed w) w := by
  have written := State.calCtlWritten_taken h w
  unfold State.calTimed
  split
  · exact written.thenHidden rfl rfl rfl rfl
  · exact written

theorem CtlTaken.phase (h : CtlTaken s u w) : u.f F.ADC_CALSTAT_PHASE = s.f F.ADC_CALSTAT_PHASE :=
  h.same.f (by decide)

theorem CtlTaken.core (h : CtlTaken s u w) : u.f F.ADC_CALSTAT_CORE = s.f F.ADC_CALSTAT_CORE :=
  h.same.f (by decide)

theorem CtlTaken.coreEn (h : CtlTaken s u w) (k : Nat) : u.coreEn k = s.coreEn k := by
  unfold State.coreEn
  rw [h.same.f (by decide)]

theorem CtlTaken.nextCore (h : CtlTaken s u w) : u.nextCore = s.nextCore := by
  unfold State.nextCore
  rw [h.last, funext h.coreEn]

/-! #### The command -/

/-- What follows from a change of PERM, `was` being its value before. -/
def State.permFollow (s : State) (was now : Bool) : State :=
  if !was && now then s.permSet else if was && !now then s.permClear else s

/-- What follows from FORCE. -/
def State.forceFollow (s : State) (force : Bool) : State := if force then s.noteDue.startCycle else s

theorem State.calCtlWrite_refused (force : bit w 2 = true)
    (busy : (s.f F.ADC_CALSTAT_PHASE ≠ 0 ∧ s.f F.ADC_CALSTAT_PHASE ≠ 5) ∨ s.sheds = true ∨
      s.on F.ADC_CALCTL_BGEN = false) : s.calCtlWrite w = (s, false) := by
  have refused : (bit w 2 && (decide (s.f F.ADC_CALSTAT_PHASE ≠ 0 ∧ s.f F.ADC_CALSTAT_PHASE ≠ 5) || s.sheds ||
      !s.on F.ADC_CALCTL_BGEN)) = true := by
    rw [force, Bool.true_and, Bool.or_eq_true, Bool.or_eq_true, decide_eq_true_eq, Bool.not_eq_true', or_assoc]
    exact busy
  exact if_pos refused

theorem State.calCtlWrite_taken (free : bit w 2 = false ∨ ((s.f F.ADC_CALSTAT_PHASE = 0 ∨ s.f F.ADC_CALSTAT_PHASE = 5) ∧
      s.sheds = false ∧ s.on F.ADC_CALCTL_BGEN = true))
    (core : s.on F.ADC_CALCTL_PERM = true → getBits w 4 2 = s.f F.ADC_CALCTL_PCORE) :
    s.calCtlWrite w =
      (((s.calTimed w).permFollow (s.on F.ADC_CALCTL_PERM) (bit w 3)).forceFollow (bit w 2), true) := by
  have first : ¬ (bit w 2 && (decide (s.f F.ADC_CALSTAT_PHASE ≠ 0 ∧ s.f F.ADC_CALSTAT_PHASE ≠ 5) || s.sheds ||
      !s.on F.ADC_CALCTL_BGEN)) = true := by
    rcases free with force | ⟨phase, sheds, bgen⟩
    · rw [force, Bool.false_and]
      decide
    · have idle : ¬ (s.f F.ADC_CALSTAT_PHASE ≠ 0 ∧ s.f F.ADC_CALSTAT_PHASE ≠ 5) := by tauto
      rw [decide_eq_false idle, sheds, bgen]
      simp
  exact (if_neg first).trans (if_neg fun h => h.2 (core h.1))

theorem State.regWrite_calCtl (s : State) (w : Nat) : s.regWrite F.ADC_CALCTL_PERM.addr w = s.calCtlWrite w := rfl

theorem State.masterOp_calCtl (ha : s.admits m F.ADC_CALCTL_PERM.addr = true) (w : Nat) :
    s.masterOp m F.ADC_CALCTL_PERM.addr w =
      State.report (s.calCtlWrite w) (masterCode m) F.ADC_CALCTL_PERM.addr := by
  rw [State.masterOp_admitted ha (by decide) (by decide), State.regWrite_calCtl]

/-- An admitted command that is taken: the register is written, then PERM acts, then FORCE. -/
theorem State.masterOp_calCtl_taken (ha : s.admits m F.ADC_CALCTL_PERM.addr = true)
    (free : bit w 2 = false ∨ ((s.f F.ADC_CALSTAT_PHASE = 0 ∨ s.f F.ADC_CALSTAT_PHASE = 5) ∧
      s.sheds = false ∧ s.on F.ADC_CALCTL_BGEN = true))
    (core : s.on F.ADC_CALCTL_PERM = true → getBits w 4 2 = s.f F.ADC_CALCTL_PCORE) :
    s.masterOp m F.ADC_CALCTL_PERM.addr w =
      ((s.calTimed w).permFollow (s.on F.ADC_CALCTL_PERM) (bit w 3)).forceFollow (bit w 2) := by
  rw [State.masterOp_calCtl ha, State.calCtlWrite_taken free core]
  rfl

/-! #### The words of the three commands -/

theorem bit_force (w : Nat) : bit (orN w 4) 2 = true := by rw [bit_orN, show bit 4 2 = true from rfl, Bool.or_true]

theorem getBits_force (w : Nat) : getBits (orN w 4) 4 2 = getBits w 4 2 :=
  getBits_congr fun i hi => by
    have off : bit 4 (4 + i) = false := by interval_cases i <;> decide
    rw [bit_orN, off, Bool.or_false]

theorem getBits_permSet (w : Nat) : getBits (orN w 8) 4 2 = getBits w 4 2 :=
  getBits_congr fun i hi => by
    have off : bit 8 (4 + i) = false := by interval_cases i <;> decide
    rw [bit_orN, off, Bool.or_false]

theorem getBits_permClear (w : Nat) : getBits (andNot w 8) 4 2 = getBits w 4 2 :=
  getBits_congr fun i hi => by
    have on : (decide (4 + i < 32) && !bit 8 (4 + i)) = true := by interval_cases i <;> decide
    rw [bit_andNot, on, Bool.and_true]

/-! #### FORCE (R137) -/

theorem exec_calibrationForce (m : Master) (w : Word) (s : State) :
    exec (.calibrationForce m w) s = .next (s.masterOp m F.ADC_CALCTL_PERM.addr (orN w.toNat 4)) := rfl

theorem State.startCycle_busy (h : s.f F.ADC_CALSTAT_PHASE ≠ 0) : s.startCycle = s := if_pos (.inl h)

theorem exec_calibrationForce_starts (hs : s.wf = true) (ha : s.admits m F.ADC_CALCTL_PERM.addr = true) (hk : k < 4)
    (next : s.nextCore = some k) (ready : s.adc.ready = true) (spare : s.coreEn 8 = true)
    (idle : s.f F.ADC_CALSTAT_PHASE = 0) (cool : s.sheds = false) (bgen : s.on F.ADC_CALCTL_BGEN = true)
    (perm : s.on F.ADC_CALCTL_PERM = false) {w : Word} (still : bit w.toNat 3 = false) :
    ∃ t, exec (.calibrationForce m w) s = .next t ∧ t.f F.ADC_CALSTAT_PHASE = 1 ∧ t.f F.ADC_CALSTAT_CORE = k ∧
      t.on F.ADC_CALCTL_BGEN = bit w.toNat 0 ∧
      sameRegs s t [F.ADC_CALCTL_PERM.addr, F.ADC_CALSTAT_PHASE.addr] ∧ sameMem s t := by
  have same3 : bit (orN w.toNat 4) 3 = false := by rw [bit_orN, still]; rfl
  have same0 : bit (orN w.toNat 4) 0 = bit w.toNat 0 := by rw [bit_orN, show bit 4 0 = false from rfl, Bool.or_false]
  have taken := (State.calTimed_taken (State.wf_regs hs) (orN w.toNat 4)).due
  have run : exec (.calibrationForce m w) s = .next (s.calTimed (orN w.toNat 4)).noteDue.startCycle := by
    rw [exec_calibrationForce, State.masterOp_calCtl_taken ha (.inr ⟨.inl idle, cool, bgen⟩)
      (fun h => absurd (perm.symm.trans h) (by decide)), bit_force, same3, perm]
    rfl
  generalize (s.calTimed (orN w.toNat 4)).noteDue = u at taken run
  rw [State.startCycle_starts (taken.nextCore.trans next) (taken.ready.trans ready) ((taken.coreEn 8).trans spare)
    (taken.phase.trans idle) (taken.perm.trans same3)] at run
  obtain ⟨phase, core, -, started⟩ := State.cycleStarted_shown taken.wf hk
  have same : Within [F.ADC_CALCTL_PERM.addr, F.ADC_CALSTAT_PHASE.addr] s (u.cycleStarted k) :=
    (taken.same.mono fun _ => mem_cons_of_mem_single).trans
      (started.mono fun _ => List.mem_cons_of_mem _)
  exact ⟨_, run, phase, core, (started.on (by decide)).trans (taken.bgen.trans same0), same.regs, same.sameMem⟩

theorem exec_calibrationForce_waits (hs : s.wf = true) (ha : s.admits m F.ADC_CALCTL_PERM.addr = true)
    (out : s.f F.ADC_CALSTAT_PHASE = 5) (cool : s.sheds = false) (bgen : s.on F.ADC_CALCTL_BGEN = true)
    (perm : s.on F.ADC_CALCTL_PERM = true) {w : Word} (still : bit w.toNat 3 = true)
    (core : getBits w.toNat 4 2 = s.f F.ADC_CALCTL_PCORE) :
    ∃ t, exec (.calibrationForce m w) s = .next t ∧ t.adc.due = true ∧ t.f F.ADC_CALSTAT_PHASE = 5 ∧
      sameRegs s t [F.ADC_CALCTL_PERM.addr] ∧ sameMem s t := by
  have same3 : bit (orN w.toNat 4) 3 = true := by rw [bit_orN, still]; rfl
  have taken := (State.calTimed_taken (State.wf_regs hs) (orN w.toNat 4)).due
  have phase := taken.phase.trans out
  have busy : (s.calTimed (orN w.toNat 4)).noteDue.startCycle = (s.calTimed (orN w.toNat 4)).noteDue :=
    State.startCycle_busy (by rw [phase]; decide)
  refine ⟨(s.calTimed (orN w.toNat 4)).noteDue, ?_, rfl, phase, taken.same.regs, taken.same.sameMem⟩
  rw [exec_calibrationForce, State.masterOp_calCtl_taken ha (.inr ⟨.inr out, cool, bgen⟩)
    (fun _ => (getBits_force _).trans core), bit_force, same3, perm, ← busy]
  rfl

theorem exec_calibrationForce_refused (ha : s.admits m F.ADC_CALCTL_PERM.addr = true) (w : Word)
    (busy : (s.f F.ADC_CALSTAT_PHASE ≠ 0 ∧ s.f F.ADC_CALSTAT_PHASE ≠ 5) ∨ s.sheds = true ∨
      s.on F.ADC_CALCTL_BGEN = false) :
    exec (.calibrationForce m w) s = .next (s.reject (masterCode m) F.ADC_CALCTL_PERM.addr) := by
  rw [exec_calibrationForce, State.masterOp_calCtl ha, State.calCtlWrite_refused (bit_force _) busy]
  rfl

/-! #### PERM is set (R138) -/

/-- A core that is out: it is PCORE already, or it comes back first. -/
theorem State.permSet_out (h : s.f F.ADC_CALSTAT_PHASE = 3 ∨ s.f F.ADC_CALSTAT_PHASE = 4) :
    s.permSet = if s.f F.ADC_CALSTAT_CORE = s.f F.ADC_CALCTL_PCORE then s.setF F.ADC_CALSTAT_PHASE 5 else s := if_pos h

theorem State.permSet_seeks (h3 : s.f F.ADC_CALSTAT_PHASE ≠ 3) (h4 : s.f F.ADC_CALSTAT_PHASE ≠ 4)
    (ready : s.adc.ready = true) (spare : s.coreEn 8 = true) :
    s.permSet = s.atPhase 2 (s.f F.ADC_CALCTL_PCORE) :=
  (if_neg (not_or.mpr ⟨h3, h4⟩)).trans (if_pos (by rw [ready, spare]; rfl))

theorem State.permSet_within (s : State) : Within calStat s s.permSet := by
  have seeks : Within calStat s (s.atPhase 2 (s.f F.ADC_CALCTL_PCORE)) :=
    (s.phase_within 2).thenSetF (x := F.ADC_CALSTAT_CORE) (by decide) _
  exact Within.ite (Within.ite (s.phase_within 5) (Within.refl s)) (Within.ite seeks (Within.refl s))

theorem exec_permanentSubstitutionSet_shown (hs : s.wf = true) (ha : s.admits m F.ADC_CALCTL_PERM.addr = true)
    (perm : s.on F.ADC_CALCTL_PERM = false) {w : Word} (noForce : bit w.toNat 2 = false) :
    ∃ t, exec (.permanentSubstitutionSet m w) s = .next t ∧ t.on F.ADC_CALCTL_PERM = true ∧
      t.f F.ADC_CALCTL_PCORE = getBits w.toNat 4 2 ∧
      ((s.f F.ADC_CALSTAT_PHASE = 3 ∨ s.f F.ADC_CALSTAT_PHASE = 4) → t.f F.ADC_CALSTAT_PHASE =
        if s.f F.ADC_CALSTAT_CORE = getBits w.toNat 4 2 then 5 else s.f F.ADC_CALSTAT_PHASE) ∧
      (s.f F.ADC_CALSTAT_PHASE ≠ 3 → s.f F.ADC_CALSTAT_PHASE ≠ 4 → s.adc.ready = true → s.coreEn 8 = true →
        t.f F.ADC_CALSTAT_PHASE = 2 ∧ t.f F.ADC_CALSTAT_CORE = getBits w.toNat 4 2) ∧
      sameRegs s t [F.ADC_CALCTL_PERM.addr, F.ADC_CALSTAT_PHASE.addr] ∧ sameMem s t := by
  have set3 : bit (orN w.toNat 8) 3 = true := by rw [bit_orN, show bit 8 3 = true from rfl, Bool.or_true]
  have same2 : bit (orN w.toNat 8) 2 = false := by rw [bit_orN, noForce]; rfl
  have taken := State.calTimed_taken (State.wf_regs hs) (orN w.toNat 8)
  have run : exec (.permanentSubstitutionSet m w) s = .next (s.masterOp m F.ADC_CALCTL_PERM.addr (orN w.toNat 8)) := rfl
  rw [State.masterOp_calCtl_taken ha (.inl same2) (fun h => absurd (perm.symm.trans h) (by decide)), same2, set3,
    perm] at run
  have pcore := taken.pcore.trans (getBits_permSet w.toNat)
  generalize s.calTimed (orN w.toNat 8) = u at taken run pcore
  have same : Within [F.ADC_CALCTL_PERM.addr, F.ADC_CALSTAT_PHASE.addr] s u.permSet :=
    (taken.same.mono fun _ => mem_cons_of_mem_single).trans
      (u.permSet_within.mono fun _ => List.mem_cons_of_mem _)
  refine ⟨u.permSet, run, (u.permSet_within.on (by decide)).trans (taken.perm.trans set3),
    (u.permSet_within.f (by decide)).trans pcore, fun out => ?_, fun h3 h4 ready spare => ?_, same.regs, same.sameMem⟩
  · rw [State.permSet_out (by rw [taken.phase]; exact out), taken.core, pcore]
    split
    · exact State.f_phase taken.wf (by decide)
    · exact taken.phase
  · rw [State.permSet_seeks (by rw [taken.phase]; exact h3) (by rw [taken.phase]; exact h4) (taken.ready.trans ready)
      ((taken.coreEn 8).trans spare), pcore]
    obtain ⟨phase, core, -⟩ := State.atPhase_shown taken.wf (p := 2) (k := getBits w.toNat 4 2) (by decide)
      (Nat.mod_lt _ (by decide))
    exact ⟨phase, core⟩

/-! #### PERM is cleared (R138) -/

/-- Core `k` has its factory trim as its working set. -/
def State.factoryTrim (s : State) (k : Nat) : State :=
  { s with adc := { s.adc with wtrim := updAt s.adc.wtrim k (fun _ => none) } }

theorem State.powerUpCore_eq (hk : k < 4) : s.powerUpCore k = (s.factoryTrim k).setF (calAge k) 0xFFFF := if_pos hk

theorem State.powerUpCore_regsWf (h : regsWf s.regs = true) (k : Nat) : regsWf (s.powerUpCore k).regs = true := by
  unfold State.powerUpCore
  dsimp only
  split
  · exact State.setF_regsWf (s := s.factoryTrim k) h _ _
  · exact h

theorem State.powerUpCore_mem (s : State) (k : Nat) : (s.powerUpCore k).mem = s.mem := by
  unfold State.powerUpCore
  dsimp only
  split <;> rfl

theorem State.powerUpCore_within (s : State) (k : Nat) : Within coreEnRegs s (s.powerUpCore k) :=
  ⟨s.powerUpCore_same k, s.powerUpCore_mem k⟩

/-- The core that PERM had out is on its way back. -/
def State.noteUnperm (s : State) : State := { s with adc := { s.adc with unperm := true } }

theorem State.noteUnperm_regs (s : State) : s.noteUnperm.regs = s.regs := rfl

theorem State.noteUnperm_mem (s : State) : s.noteUnperm.mem = s.mem := rfl

/-- The core powers up from its factory trim, and is calibrated before its handback. -/
def State.permBack (s : State) (k : Nat) : State := ((s.powerUpCore k).setF F.ADC_CALSTAT_PHASE 3).noteUnperm

theorem State.permBack_within (s : State) (k : Nat) : Within coreEnRegs s (s.permBack k) :=
  ((s.powerUpCore_within k).thenSetF (x := F.ADC_CALSTAT_PHASE) List.mem_cons_self 3).thenHidden
    (State.noteUnperm_regs _) (State.noteUnperm_mem _)

theorem State.permBack_shown (h : regsWf s.regs = true) (hk : k < 4) :
    (s.permBack k).f F.ADC_CALSTAT_PHASE = 3 ∧ (s.permBack k).f (calAge k) = 0xFFFF ∧
      (s.permBack k).adc.wtrim.getD k none = none ∧ (s.permBack k).adc.unperm = true := by
  have shown := State.f_of_regs (State.noteUnperm_regs ((s.powerUpCore k).setF F.ADC_CALSTAT_PHASE 3))
  obtain ⟨fits, width, apart⟩ := calAge_shape k
  refine ⟨?_, ?_, ?_, rfl⟩
  · exact (shown _).trans (State.f_phase (State.powerUpCore_regsWf h k) (by decide))
  · have age : (s.powerUpCore k).f (calAge k) = 0xFFFF := by
      rw [State.powerUpCore_eq hk, State.f_setF_same (s := s.factoryTrim k) h fits, width, Nat.mod_eq_of_lt (by decide)]
    exact ((shown _).trans ((State.phase_within _ 3).f apart)).trans age
  · have kept : (s.permBack k).adc.wtrim = (s.powerUpCore k).adc.wtrim := rfl
    have trim : (s.powerUpCore k).adc.wtrim = updAt s.adc.wtrim k fun _ => none := by
      rw [State.powerUpCore_eq hk]
      rfl
    rw [kept, trim]
    exact getD_updAt s.adc.wtrim k (fun _ => none) rfl

/-- What `cycleDrop` does before the cycle ends. -/
def State.dropPower (s : State) : State :=
  s.cond (s.f F.ADC_CALSTAT_PHASE == 5 && s.coreEn (s.f F.ADC_CALSTAT_CORE)) (·.powerUpCore (s.f F.ADC_CALSTAT_CORE))

theorem State.cycleDrop_regs (s : State) : s.cycleDrop.regs = s.dropPower.endCycle.regs := rfl

theorem State.cycleDrop_mem (s : State) : s.cycleDrop.mem = s.mem := by
  have power : s.dropPower.mem = s.mem := by
    unfold State.dropPower State.cond
    split
    · exact s.powerUpCore_mem _
    · rfl
  exact power

theorem State.cycleDrop_phase (h : regsWf s.regs = true) : s.cycleDrop.f F.ADC_CALSTAT_PHASE = 0 := by
  have power : regsWf s.dropPower.regs = true := by
    unfold State.dropPower State.cond
    split
    · exact State.powerUpCore_regsWf h _
    · exact h
  rw [State.f_of_regs s.cycleDrop_regs, State.endCycle_phase power]

/-- What PERM's end does where a substitution stands. -/
theorem State.permClear_out (h : s.f F.ADC_CALSTAT_PHASE = 5) : s.permClear =
    if s.coreEn (s.f F.ADC_CALSTAT_CORE) then s.permBack (s.f F.ADC_CALSTAT_CORE) else s.cycleDrop := by
  unfold State.permClear
  simp only [h]
  rfl

theorem State.permClear_waits (h : s.f F.ADC_CALSTAT_PHASE = 2) : s.permClear = s.setF F.ADC_CALSTAT_PHASE 0 := by
  unfold State.permClear
  simp only [h]

theorem State.permClear_else (h5 : s.f F.ADC_CALSTAT_PHASE ≠ 5) (h2 : s.f F.ADC_CALSTAT_PHASE ≠ 2) :
    s.permClear = s := by
  unfold State.permClear
  split
  · exact absurd ‹_› h5
  · exact absurd ‹_› h2
  · rfl

theorem State.permClear_within (s : State) : Within coreEnRegs s s.permClear := by
  by_cases h5 : s.f F.ADC_CALSTAT_PHASE = 5
  · rw [State.permClear_out h5]
    exact Within.ite (s.permBack_within _) ⟨s.cycleDrop_same, s.cycleDrop_mem⟩
  by_cases h2 : s.f F.ADC_CALSTAT_PHASE = 2
  · rw [State.permClear_waits h2]
    exact (Within.refl s).thenSetF (x := F.ADC_CALSTAT_PHASE) List.mem_cons_self 0
  · rw [State.permClear_else h5 h2]
    exact Within.refl s

theorem exec_permanentSubstitutionClear_shown (hs : s.wf = true) (ha : s.admits m F.ADC_CALCTL_PERM.addr = true)
    (perm : s.on F.ADC_CALCTL_PERM = true) {w : Word} (noForce : bit w.toNat 2 = false)
    (core : getBits w.toNat 4 2 = s.f F.ADC_CALCTL_PCORE) :
    ∃ t, exec (.permanentSubstitutionClear m w) s = .next t ∧ t.on F.ADC_CALCTL_PERM = false ∧
      (s.f F.ADC_CALSTAT_PHASE = 5 → s.coreEn (s.f F.ADC_CALSTAT_CORE) = false → t.f F.ADC_CALSTAT_PHASE = 0) ∧
      (s.f F.ADC_CALSTAT_PHASE = 5 → s.coreEn (s.f F.ADC_CALSTAT_CORE) = true → t.f F.ADC_CALSTAT_PHASE = 3 ∧
        t.f (calAge (s.f F.ADC_CALSTAT_CORE)) = 0xFFFF ∧
        t.adc.wtrim.getD (s.f F.ADC_CALSTAT_CORE) none = none ∧ t.adc.unperm = true) ∧
      (s.f F.ADC_CALSTAT_PHASE = 2 → t.f F.ADC_CALSTAT_PHASE = 0) ∧
      (s.f F.ADC_CALSTAT_PHASE ≠ 5 → s.f F.ADC_CALSTAT_PHASE ≠ 2 → t.f F.ADC_CALSTAT_PHASE = s.f F.ADC_CALSTAT_PHASE) ∧
      sameRegs s t [F.ADC_CALCTL_PERM.addr, F.ADC_CALSTAT_PHASE.addr, F.ADC_CALAGE0_AGE_F0.addr,
        F.ADC_CALAGE1_AGE_F2.addr] ∧ sameMem s t := by
  have clear3 : bit (andNot w.toNat 8) 3 = false := by
    rw [bit_andNot, show (decide (3 < 32) && !bit 8 3) = false from rfl, Bool.and_false]
  have same2 : bit (andNot w.toNat 8) 2 = false := by rw [bit_andNot, noForce, Bool.false_and]
  have taken := State.calTimed_taken (State.wf_regs hs) (andNot w.toNat 8)
  have run : exec (.permanentSubstitutionClear m w) s =
    .next (s.masterOp m F.ADC_CALCTL_PERM.addr (andNot w.toNat 8)) := rfl
  rw [State.masterOp_calCtl_taken ha (.inl same2) (fun _ => (getBits_permClear _).trans core), same2, clear3,
    perm] at run
  have hk : s.f F.ADC_CALSTAT_CORE < 4 := State.f_lt s F.ADC_CALSTAT_CORE
  generalize s.calTimed (andNot w.toNat 8) = u at taken run
  have same : Within (F.ADC_CALCTL_PERM.addr :: coreEnRegs) s u.permClear :=
    (taken.same.mono fun _ => mem_cons_of_mem_single).trans
      (u.permClear_within.mono fun _ => List.mem_cons_of_mem _)
  rw [← taken.phase, ← taken.core, ← taken.coreEn]
  rw [← taken.core] at hk
  refine ⟨u.permClear, run, (u.permClear_within.on (by decide)).trans (taken.perm.trans clear3), fun out off => ?_,
    fun out on => ?_, fun waits => ?_, fun h5 h2 => ?_, same.regs, same.sameMem⟩
  · rw [State.permClear_out out, if_neg (by rw [off]; decide)]
    exact State.cycleDrop_phase taken.wf
  · rw [State.permClear_out out, if_pos on]
    exact State.permBack_shown taken.wf hk
  · rw [State.permClear_waits waits]
    exact State.f_phase taken.wf (by decide)
  · rw [State.permClear_else h5 h2]

end CalCtl

/-- Settles O26: an admitted write of ADC_CALCTL stores the word, then PERM's change acts, then FORCE. -/
theorem calibrationCommandsAct : Obligations.CalibrationCommandsAct :=
  ⟨fun _ _ _ _ hs ha hk next ready spare idle cool bgen perm still =>
      exec_calibrationForce_starts hs ha hk next ready spare idle cool bgen perm still,
    fun _ _ _ hs ha out cool bgen perm still core => exec_calibrationForce_waits hs ha out cool bgen perm still core,
    fun _ _ w ha busy => exec_calibrationForce_refused ha w busy,
    fun _ _ _ hs ha perm noForce => exec_permanentSubstitutionSet_shown hs ha perm noForce,
    fun _ _ _ hs ha perm noForce core => exec_permanentSubstitutionClear_shown hs ha perm noForce core⟩

end Sys2Proof.Machine

namespace Sys2Proof.Machine

/-! ### An entry of the result RAM (R163, R164) -/

section Entries

variable {s t u : State} {a lo hi : Nat}

/-- Beside the bytes from `lo` to `hi - 1`, memory reads in `t` as in `s`. -/
def storedIn (lo hi : Nat) (s t : State) : Prop := ∀ b, (b < lo ∨ hi ≤ b) → t.mb b = s.mb b

theorem storedIn.ofMem (h : t.mem = s.mem) : storedIn lo hi s t := fun b _ => sameMem.ofMem h b

theorem storedIn.trans (h : storedIn lo hi s t) (k : storedIn lo hi t u) : storedIn lo hi s u :=
  fun b hb => (k b hb).trans (h b hb)

theorem storedIn.mono {lo' hi' : Nat} (h : storedIn lo hi s t) (hl : lo' ≤ lo) (hh : hi ≤ hi') : storedIn lo' hi' s t :=
  fun b hb => h b (by omega)

/-- A word that lies wholly outside those bytes. -/
theorem storedIn.mw (h : storedIn lo hi s t) (ha : a + 4 ≤ lo ∨ hi ≤ a) : t.mw a = s.mw a := by
  have byte : ∀ k, k < 4 → (Memory.byte t.mem (a + k)).toNat = (Memory.byte s.mem (a + k)).toNat :=
    fun k hk => h (a + k) (by omega)
  have first := byte 0 (by decide)
  rw [Nat.add_zero] at first
  unfold State.mw Memory.word
  rw [first, byte 1 (by decide), byte 2 (by decide), byte 3 (by decide)]

/-- The raw word and the value of an entry at `a`. -/
def State.storeEntry (s : State) (a raw : Nat) (v : Int) : State := (s.setM a raw).setMI (a + 4) v

theorem State.storeEntry_regs (s : State) (a raw : Nat) (v : Int) : (s.storeEntry a raw v).regs = s.regs := rfl

theorem State.storeEntry_in (s : State) (a raw : Nat) (v : Int) : storedIn a (a + 8) s (s.storeEntry a raw v) := by
  intro b hb
  unfold State.storeEntry State.setMI
  rw [State.mb_setM_ne _ _ (by omega), State.mb_setM_ne _ _ (by omega)]

theorem State.storeEntry_words (h : Memory.wf s.mem = true) (a raw : Nat) (v : Int) :
    (s.storeEntry a raw v).mw a = raw % 2 ^ 32 ∧ (s.storeEntry a raw v).mw (a + 4) = ofI 32 v % 2 ^ 32 := by
  refine ⟨?_, State.mw_setM_same (s := s.setM a raw) (Memory.wf_setWord h a raw) _ _⟩
  exact (State.mw_setM_ne (s.setM a raw) _ (.inl (Nat.le_refl _))).trans (State.mw_setM_same h a raw)

/-- A signed word reads as it was stored. -/
theorem toS_ofI {v : Int} (lo : -2147483648 ≤ v) (hi : v ≤ 2147483647) : toS 32 (ofI 32 v % 2 ^ 32) = v := by
  unfold toS ofI
  norm_num
  split <;> omega

end Entries

/-! ### A step of the filing, within SEQ and the result RAM -/

section Filed

variable {s t u : State} {lo hi : Nat}

/-- The conversions that wait in the queues of the cores. -/
def State.queues (s : State) : List (List Conv) × List (List Conv) := (s.adc.inj, s.adc.reg)

/-- `t` is `s` but for registers of SEQ, the counters, memory from `lo` to `hi - 1`, and parts that are neither
registers nor memory nor the queues of conversions. -/
structure Filed (lo hi : Nat) (s t : State) : Prop where
  regs : outside [3] s t
  queues : sameIn State.queues s t
  mem : storedIn lo hi s t

theorem Filed.refl (s : State) : Filed lo hi s s := ⟨outside.refl s, rfl, fun _ _ => rfl⟩

theorem Filed.trans (h : Filed lo hi s t) (k : Filed lo hi t u) : Filed lo hi s u :=
  ⟨h.regs.trans k.regs, h.queues.trans k.queues, h.mem.trans k.mem⟩

theorem Filed.mono {lo' hi' : Nat} (h : Filed lo hi s t) (hl : lo' ≤ lo) (hh : hi ≤ hi') : Filed lo' hi' s t :=
  ⟨h.regs, h.queues, h.mem.mono hl hh⟩

theorem Filed.thenHidden (h : Filed lo hi s t) (hr : u.regs = t.regs) (hm : u.mem = t.mem) (hq : u.queues = t.queues) :
    Filed lo hi s u := h.trans ⟨outside.ofRegs hr, hq, storedIn.ofMem hm⟩

theorem Filed.thenWr (h : Filed lo hi s t) {a : Nat} (ha : 0x40030000 ≤ a ∧ a < 0x40040000) (v : Nat) :
    Filed lo hi s (t.wr a v) := by
  have block : blockOf a = 3 := blockOf_eq ha
  exact h.trans ⟨fun b hb _ => State.rd_wr_ne t v fun e => hb (by rw [e, block]; exact List.mem_cons_self), rfl,
    fun _ _ => rfl⟩

theorem Filed.thenSetF (h : Filed lo hi s t) {x : Fld} (hx : 0x40030000 ≤ x.addr ∧ x.addr < 0x40040000) (v : Nat) :
    Filed lo hi s (t.setF x v) := h.thenWr hx _

theorem Filed.thenInc (h : Filed lo hi s t) {x : Fld} (hx : 0x40030000 ≤ x.addr ∧ x.addr < 0x40040000) :
    Filed lo hi s (t.inc x) := h.thenSetF hx _

theorem Filed.thenCond (h : Filed lo hi s t) {f : State → State} (hf : Filed lo hi t (f t)) (b : Bool) :
    Filed lo hi s (t.cond b f) := by
  cases b
  · exact h
  · exact h.trans hf

theorem Filed.ite {c : Prop} [Decidable c] (ht : Filed lo hi s t) (hu : Filed lo hi s u) :
    Filed lo hi s (if c then t else u) := by
  split
  · exact ht
  · exact hu

theorem Filed.thenEach (h : Filed lo hi s t) {α : Type} {f : State → α → State} {xs : List α}
    (hf : ∀ x, x ∈ xs → ∀ u, Filed lo hi u (f u x)) : Filed lo hi s (t.each xs f) := by
  induction xs generalizing t with
  | nil => exact h
  | cons x xs ih =>
    exact ih (h.trans (hf x List.mem_cons_self t)) fun y hy => hf y (List.mem_cons_of_mem x hy)

theorem Filed.thenStore (h : Filed lo hi s t) {a : Nat} (hl : lo ≤ a) (hh : a + 8 ≤ hi) (raw : Nat) (v : Int) :
    Filed lo hi s (t.storeEntry a raw v) :=
  h.trans ⟨outside.ofRegs (State.storeEntry_regs ..), rfl, (t.storeEntry_in a raw v).mono hl hh⟩

/-! #### The latch (R164 to R167) -/

variable {cv : Conv}

/-- The first occurrence dates the latch half. -/
def State.halfDated (s : State) (cv : Conv) : State :=
  if cv.occ = 0 then (s.wr (F.SEQ_IS_HSTAT_FRAME cv.seq (cv.frame % 2)).addr 0).setF
    (F.SEQ_IS_HSTAT_FRAME cv.seq (cv.frame % 2)) cv.frame
  else s

theorem State.halfOpen_eq (s : State) (cv : Conv) : s.halfOpen cv =
    ((s.halfDated cv).inc (F.SEQ_IS_HSTAT_OCCS cv.seq (cv.frame % 2))).cond cv.late
      (·.setF (F.SEQ_IS_HSTAT_LATE cv.seq (cv.frame % 2)) 1) := rfl

/-- The status of a latch half lies in SEQ. -/
theorem Conv.hstat_range (hn : cv.seq < 8) :
    0x40030000 ≤ 0x40030114 + 0x20 * cv.seq + 0x4 * (cv.frame % 2) ∧
      0x40030114 + 0x20 * cv.seq + 0x4 * (cv.frame % 2) < 0x40040000 := by
  omega

theorem State.halfOpen_filed (hn : cv.seq < 8) (s : State) : Filed lo hi s (s.halfOpen cv) := by
  have stat := Conv.hstat_range hn
  have dated : Filed lo hi s (s.halfDated cv) :=
    Filed.ite (((Filed.refl s).thenWr stat _).thenSetF stat _) (Filed.refl s)
  rw [State.halfOpen_eq]
  exact (dated.thenInc stat).thenCond ((Filed.refl _).thenSetF stat 1) _

theorem State.latchJudge_filed (s : State) (d : Nat) : Filed lo hi s (s.latchJudge d) :=
  Filed.ite ((Filed.refl s).thenHidden rfl rfl rfl) (Filed.refl s)

theorem State.occEnd_filed (hn : cv.seq < 8) (s : State) : Filed lo hi s (s.occEnd cv) := by
  have complete := (Filed.refl (lo := lo) (hi := hi) s).thenSetF (x := F.SEQ_IS_HSTAT_COMPLETE cv.seq (cv.frame % 2))
    (Conv.hstat_range hn) 1
  have done : ∀ u : State, Filed lo hi u (u.setSeq cv.seq fun q => { q with comp := true }) := fun u =>
    (Filed.refl u).thenHidden rfl rfl rfl
  unfold State.occEnd
  exact Filed.ite (Filed.ite ((complete.trans (done _)).trans (State.latchJudge_filed _ _)) complete) (Filed.refl s)

/-- The status of the latch half before its entry is stored. -/
def State.latchOpened (s : State) (cv : Conv) (sat : Bool) : State :=
  (s.cond (s.occLeft cv + 1 == cv.total) (·.halfOpen cv)).cond sat
    (·.setF (F.SEQ_IS_HSTAT_SAT cv.seq (cv.frame % 2)) 1)

/-- The address of the latch entry of `cv`. -/
def Conv.latch (cv : Conv) : Nat := latchAddr cv.seq (cv.frame % 2) cv.entry

theorem State.latchWrite_eq (s : State) (cv : Conv) (raw : Nat) (v : Int) (sat : Bool) :
    s.latchWrite cv raw v sat =
      ((s.latchOpened cv sat).storeEntry cv.latch raw v).cond (s.occLeft cv == 0) (·.occEnd cv) := rfl

theorem State.latchOpened_filed (hn : cv.seq < 8) (s : State) (sat : Bool) : Filed lo hi s (s.latchOpened cv sat) := by
  exact ((Filed.refl s).thenCond (State.halfOpen_filed hn s) _).thenCond
    ((Filed.refl _).thenSetF (Conv.hstat_range hn) 1) _

theorem State.latchOpened_kept {pq : List Instr} (h : s.Kept pq) (sat : Bool) : (s.latchOpened cv sat).Kept pq :=
  State.cond_kept (fun _ k => State.setF_kept _ _ k) _ (State.cond_kept (fun _ k => State.halfOpen_kept cv k) _ h)

theorem Conv.latch_range (hn : cv.seq < 8) (he : cv.entry < 32) : 0x1C1000 ≤ cv.latch ∧ cv.latch + 8 ≤ 0x1C2000 := by
  have half : cv.frame % 2 < 2 := Nat.mod_lt _ (by decide)
  unfold Conv.latch latchAddr
  omega

theorem State.latchWrite_filed (hn : cv.seq < 8) (s : State) (raw : Nat) (v : Int) (sat : Bool) :
    Filed cv.latch (cv.latch + 8) s (s.latchWrite cv raw v sat) := by
  rw [State.latchWrite_eq]
  exact ((s.latchOpened_filed hn sat).thenStore (Nat.le_refl _) (Nat.le_refl _) raw v).thenCond
    (State.occEnd_filed hn _) _

/-- The words of the latch entry. -/
theorem State.latchWrite_words {pq : List Instr} (h : s.Kept pq) (hn : cv.seq < 8) (raw : Nat) (v : Int) (sat : Bool) :
    (s.latchWrite cv raw v sat).mw cv.latch = raw % 2 ^ 32 ∧
      (s.latchWrite cv raw v sat).mw (cv.latch + 4) = ofI 32 v % 2 ^ 32 := by
  have opened := State.latchOpened_kept (cv := cv) h sat
  obtain ⟨first, second⟩ := State.storeEntry_words opened.2.1 cv.latch raw v
  have after : Filed 0 0 ((s.latchOpened cv sat).storeEntry cv.latch raw v) (s.latchWrite cv raw v sat) := by
    rw [State.latchWrite_eq]
    exact (Filed.refl _).thenCond (State.occEnd_filed hn _) _
  exact ⟨(after.mem.mw (.inr (Nat.zero_le _))).trans first, (after.mem.mw (.inr (Nat.zero_le _))).trans second⟩

/-! #### The rings (R168) -/

/-- Ring `r` takes the value for input `i`. -/
def State.ringTakes (s : State) (i : Nat) (injected : Bool) (r : Nat) : Bool :=
  s.on (F.SEQ_RING_CFG_EN r) && s.f (F.SEQ_RING_CFG_INPUT r) == i && bit (s.f (F.SEQ_RING_CFG_SEL r)) (b2n injected)

/-- The decimation count of ring `r`. -/
def State.ringCounted (s : State) (r n : Nat) : State :=
  { s with adc := { s.adc with ringDec := updAt s.adc.ringDec r (fun _ => n) } }

/-- The address of the next record of ring `r`. -/
def State.ringAddr (s : State) (r : Nat) : Nat :=
  0x1C2000 + 8 * (s.f (F.SEQ_RING_BASE_BASE r) + s.f (F.SEQ_RING_POS_WIDX r))

/-- The write index of ring `r` moves to `n`. -/
def State.ringMove (s : State) (r n : Nat) : State :=
  (s.setF (F.SEQ_RING_POS_WIDX r) n).cond (n == 0) (·.inc (F.SEQ_RING_POS_WRAP r))

/-- Ring `r` records the value, and its write index moves on. -/
def State.ringRecord (s : State) (r raw : Nat) (v : Int) : State :=
  (s.storeEntry (s.ringAddr r) raw v).ringMove r
    ((s.f (F.SEQ_RING_POS_WIDX r) + 1) % 2 ^ (s.storeEntry (s.ringAddr r) raw v).f (F.SEQ_RING_CFG_LEN r))

theorem State.ringWrite_eq (s : State) (i : Nat) (injected : Bool) (raw : Nat) (v : Int) :
    s.ringWrite i injected raw v = s.each (List.range 16) (fun t r =>
      if t.ringTakes i injected r then
        if t.adc.ringDec.getD r 0 + 1 < max (t.f (F.SEQ_RING_CFG_DEC r)) 1 then
          t.ringCounted r (t.adc.ringDec.getD r 0 + 1)
        else (t.ringCounted r 0).ringRecord r raw v
      else t) := rfl

theorem State.ringAddr_range (s : State) (r : Nat) : 0x1C2000 ≤ s.ringAddr r ∧ s.ringAddr r + 8 ≤ 0x262000 := by
  have base : s.f (F.SEQ_RING_BASE_BASE r) < 2 ^ 14 := s.f_lt _
  have index : s.f (F.SEQ_RING_POS_WIDX r) < 2 ^ 16 := s.f_lt _
  unfold State.ringAddr
  omega

theorem State.ringMove_filed {r : Nat} (hr : r < 16) (s : State) (n : Nat) : Filed lo hi s (s.ringMove r n) := by
  have pos : 0x40030000 ≤ 0x40030808 + 0x10 * r ∧ 0x40030808 + 0x10 * r < 0x40040000 := by omega
  exact ((Filed.refl s).thenSetF pos n).thenCond ((Filed.refl _).thenInc pos) _

theorem State.ringRecord_filed {r : Nat} (hr : r < 16) (s : State) (raw : Nat) (v : Int) :
    Filed 0x1C2000 0x262000 s (s.ringRecord r raw v) := by
  obtain ⟨above, below⟩ := s.ringAddr_range r
  exact ((Filed.refl s).thenStore above below raw v).trans (State.ringMove_filed hr _ _)

theorem State.ringWrite_filed (s : State) (i : Nat) (injected : Bool) (raw : Nat) (v : Int) :
    Filed 0x1C2000 0x262000 s (s.ringWrite i injected raw v) := by
  have counted : ∀ (t : State) (r n : Nat), Filed 0x1C2000 0x262000 t (t.ringCounted r n) := fun t _ _ =>
    (Filed.refl t).thenHidden rfl rfl rfl
  rw [State.ringWrite_eq]
  exact (Filed.refl s).thenEach fun r hr t => Filed.ite (Filed.ite (counted t r _)
    ((counted t r 0).trans (State.ringRecord_filed (List.mem_range.mp hr) _ raw v))) (Filed.refl t)

/-- A loop whose visits each leave the state leaves it. -/
theorem State.each_still {α : Type} {f : State → α → State} {l : List α} (h : ∀ x, x ∈ l → f s x = s) :
    s.each l f = s := by
  induction l with
  | nil => rfl
  | cons x xs ih =>
    have first : s.each (x :: xs) f = (f s x).each xs f := rfl
    rw [first, h x List.mem_cons_self]
    exact ih fun y hy => h y (List.mem_cons_of_mem x hy)

theorem State.ringWrite_off (h : ∀ r, r < 16 → s.on (F.SEQ_RING_CFG_EN r) = false) (i : Nat) (injected : Bool)
    (raw : Nat) (v : Int) : s.ringWrite i injected raw v = s := by
  rw [State.ringWrite_eq]
  refine State.each_still fun r hr => if_neg ?_
  rw [State.ringTakes, h r (List.mem_range.mp hr), Bool.false_and, Bool.false_and]
  decide

end Filed

end Sys2Proof.Machine

namespace Sys2Proof.Machine

/-! ### From the queue to the result RAM (R104, R107, R113, R139, R159) -/

section Results

variable {s t u : State} {cv : Conv} {pq : List Instr}

/-- The registers that may change before a result is stored: ISACT and the counters. -/
def resultRegs : List Nat :=
  F.SEQ_STAT_ISACT.addr :: F.ADC_SHARECNT.addr :: F.ADC_CLIPCNT.addr :: F.SEQ_SATCNT.addr :: countRegs

theorem resultRegs_blocks : ∀ a, a ∈ resultRegs → blockOf a ∈ [2, 3] ∨ a ∈ countRegs := by decide +kernel

theorem countRegs_result : ∀ a, a ∈ countRegs → a ∈ resultRegs := fun a ha => by simp [resultRegs, ha]

/-! #### The conversion comes out of its queue -/

/-- Sequence `n` no longer runs at the time `x`, where its last sample was taken before it. -/
def State.seqStop (s : State) (x : Int) (n : Nat) : State :=
  if (s.iseq n).st == 2 && decide (25 * (s.iseq n).lastEdge < x) then
    (s.setSeq n (fun q => { q with st := 0 })).clrBit F.SEQ_STAT_ISACT n
  else s

theorem State.seqsUpTo_eq (s : State) (x : Int) : s.seqsUpTo x = s.each (List.range 8) (fun t n => t.seqStop x n) := rfl

theorem State.seqStop_within (s : State) (x : Int) (n : Nat) : Within [F.SEQ_STAT_ISACT.addr] s (s.seqStop x n) := by
  have idle : Within [F.SEQ_STAT_ISACT.addr] s (s.setSeq n fun q => { q with st := 0 }) :=
    (Within.refl s).thenHidden (State.setSeq_regs ..) (State.setSeq_mem ..)
  exact Within.ite (idle.thenSetF (x := F.SEQ_STAT_ISACT) List.mem_cons_self _) (Within.refl s)

theorem State.seqStop_queues (s : State) (x : Int) (n : Nat) : sameIn State.queues s (s.seqStop x n) :=
  sameIn.ite rfl rfl

theorem State.seqsUpTo_within (s : State) (x : Int) : Within [F.SEQ_STAT_ISACT.addr] s (s.seqsUpTo x) := by
  rw [State.seqsUpTo_eq]
  exact ⟨sameRegs.each (fun t n => (t.seqStop_within x n).regs) _ s,
    State.each_mem (fun t n => (t.seqStop_within x n).mem) _ s⟩

theorem State.seqsUpTo_queues (s : State) (x : Int) : sameIn State.queues s (s.seqsUpTo x) := by
  rw [State.seqsUpTo_eq]
  exact sameIn.each (fun t n => t.seqStop_queues x n) _ s

/-- The queues of core `core` are `inj` and `reg` from now on. -/
def State.setQueues (s : State) (core : Nat) (inj reg : List Conv) : State :=
  { s with adc := { s.adc with inj := s.adc.inj.set core inj, reg := s.adc.reg.set core reg } }

theorem State.setQueues_regs (s : State) (core : Nat) (inj reg : List Conv) :
    (s.setQueues core inj reg).regs = s.regs := rfl

theorem State.setQueues_mem (s : State) (core : Nat) (inj reg : List Conv) :
    (s.setQueues core inj reg).mem = s.mem := rfl

theorem State.setQueues_kept (h : s.Kept pq) (core : Nat) (inj reg : List Conv) :
    (s.setQueues core inj reg).Kept pq := h

theorem State.setQueues_queues (s : State) (core : Nat) (inj reg : List Conv) :
    (s.setQueues core inj reg).queues = (s.queues.1.set core inj, s.queues.2.set core reg) := rfl

/-- Conversion `cv` has come out of the queues of core `core`. -/
def State.dequeued (s : State) (core : Nat) (cv : Conv) (inj reg : List Conv) : State :=
  (s.seqsUpTo (25 * (cv.edge + 24))).setQueues core inj reg

theorem State.dequeued_within (s : State) (core : Nat) (cv : Conv) (inj reg : List Conv) :
    Within [F.SEQ_STAT_ISACT.addr] s (s.dequeued core cv inj reg) :=
  (s.seqsUpTo_within _).thenHidden (State.setQueues_regs ..) (State.setQueues_mem ..)

theorem State.dequeued_queues (s : State) (core : Nat) (cv : Conv) (inj reg : List Conv) :
    (s.dequeued core cv inj reg).queues = (s.queues.1.set core inj, s.queues.2.set core reg) := by
  rw [State.dequeued, State.setQueues_queues, s.seqsUpTo_queues]

theorem State.dequeued_kept (h : s.Kept pq) (core : Nat) (cv : Conv) (inj reg : List Conv) :
    (s.dequeued core cv inj reg).Kept pq := State.setQueues_kept (State.seqsUpTo_kept _ h) core inj reg

theorem exec_conversionResult {core : Fin 8} {inj reg : List Conv} (c : ConvOutcome)
    (front : takeConv (s.adc.inj.getD core.val []) (s.adc.reg.getD core.val []) = some (cv, inj, reg)) :
    exec (.conversionResult core c) s = .next ((s.dequeued core.val cv inj reg).fileResult core.val cv c) := by
  have run : exec (.conversionResult core c) s = execConversionResult core c s := rfl
  rw [run, execConversionResult, front]
  rfl

theorem exec_conversionResult_idle {core : Fin 8} (c : ConvOutcome) (inj : s.adc.inj.getD core.val [] = [])
    (reg : s.adc.reg.getD core.val [] = []) : exec (.conversionResult core c) s = .next s := by
  have run : exec (.conversionResult core c) s = execConversionResult core c s := rfl
  rw [run, execConversionResult, inj, reg]
  rfl

/-! #### The code (R104, R107, R139) -/

/-- The code of a single-ended input. -/
def singleCode (c : ConvOutcome) : Int :=
  if c.vp < 0 then 0 else if 1600000000000 < c.vp then 16383 else clampI 0 16383 (c.vp / 97656250 + c.err)

/-- The code of a differential input whose pins are both within their range. -/
def diffCode (c : ConvOutcome) : Int := clampI (-8192) 8191 ((c.vp - c.vn) / 195312500 + c.err)

theorem clampI_range {a b : Int} (h : a ≤ b) (x : Int) : a ≤ clampI a b x ∧ clampI a b x ≤ b := by
  unfold clampI
  split_ifs <;> omega

theorem singleCode_range (c : ConvOutcome) : -8192 ≤ singleCode c ∧ singleCode c ≤ 16383 := by
  have clamped := clampI_range (a := 0) (b := 16383) (by decide) (c.vp / 97656250 + c.err)
  unfold singleCode
  split_ifs <;> omega

theorem diffCode_range (c : ConvOutcome) : -8192 ≤ diffCode c ∧ diffCode c ≤ 16383 := by
  have clamped := clampI_range (a := -8192) (b := 8191) (by decide) ((c.vp - c.vn) / 195312500 + c.err)
  unfold diffCode
  omega

theorem State.convCode_single {i : Nat} (h : s.isDiff i = false) (c : ConvOutcome) : s.convCode i c =
    (s, singleCode c, false, decide (c.vp < 0) || decide (1600000000000 < c.vp)) := by
  unfold State.convCode
  rw [if_neg (by rw [h]; decide)]
  rfl

theorem State.convCode_diff {i : Nat} (h : s.isDiff i = true) {c : ConvOutcome} (vp : 0 ≤ c.vp)
    (vp' : c.vp ≤ 1600000000000) (vn : 0 ≤ c.vn) (vn' : c.vn ≤ 1600000000000) : (s.convCode i c).2.1 = diffCode c := by
  unfold State.convCode
  rw [if_pos h]
  dsimp only
  rw [if_neg (by simp [vp, vp', vn, vn'])]
  rfl

/-- A conversion uses a free value at most. -/
theorem State.convCode_state (s : State) (i : Nat) (c : ConvOutcome) :
    (s.convCode i c).1 = s ∨ (s.convCode i c).1 = s.free.2 := by
  unfold State.convCode
  dsimp only
  split
  · split
    exacts [.inr rfl, .inl rfl]
  · exact .inl rfl

theorem State.convCode_within {l : List Nat} (s : State) (i : Nat) (c : ConvOutcome) :
    Within l s (s.convCode i c).1 := by
  rcases s.convCode_state i c with h | h <;> rw [h]
  exacts [Within.refl s, (Within.refl s).thenHidden rfl rfl]

theorem State.convCode_queues (s : State) (i : Nat) (c : ConvOutcome) : sameIn State.queues s (s.convCode i c).1 := by
  rcases s.convCode_state i c with h | h <;> rw [h] <;> rfl

/-! #### What is counted before the result is stored (R107, R116) -/

/-- A shared sample is counted once for its edge, a clipped one each time. -/
def State.clipCounted (s : State) (cv : Conv) (clip : Bool) : State :=
  (s.shareCount cv).cond clip (·.count F.ADC_CLIPCNT 57)

theorem State.shareCount_eq (s : State) (cv : Conv) : ∃ (t : State) (b : Bool),
    s.shareCount cv = t.cond b (·.count F.ADC_SHARECNT 56) ∧ t.regs = s.regs ∧ t.mem = s.mem ∧ t.queues = s.queues :=
  ⟨_, _, rfl, rfl, rfl, rfl⟩

theorem State.shareCount_within (s : State) (cv : Conv) :
    Within (F.ADC_SHARECNT.addr :: countRegs) s (s.shareCount cv) := by
  obtain ⟨t, b, counted, regs, mem, -⟩ := s.shareCount_eq cv
  rw [counted]
  exact ((Within.refl s).thenHidden regs mem).trans (Within.cond b (t.count_within F.ADC_SHARECNT 56))

theorem State.count_queues (s : State) (x : Fld) (src : Nat) : sameIn State.queues s (s.count x src) :=
  congrArg (fun a : Conv9 => (a.inj, a.reg)) (s.count_regsOnly x src).adc

theorem State.shareCount_queues (s : State) (cv : Conv) : sameIn State.queues s (s.shareCount cv) := by
  obtain ⟨t, b, counted, -, -, queues⟩ := s.shareCount_eq cv
  rw [counted]
  exact sameIn.trans queues (sameIn.cond b (t.count_queues F.ADC_SHARECNT 56))

theorem State.clipCounted_within (s : State) (cv : Conv) (clip : Bool) :
    Within resultRegs s (s.clipCounted cv clip) := by
  have shared : Within resultRegs s (s.shareCount cv) := (s.shareCount_within cv).mono fun a ha => by
    rcases List.mem_cons.mp ha with rfl | ha
    exacts [by decide, countRegs_result a ha]
  refine shared.trans (Within.cond clip ((State.count_within _ F.ADC_CLIPCNT 57).mono fun a ha => ?_))
  rcases List.mem_cons.mp ha with rfl | ha
  exacts [by decide, countRegs_result a ha]

theorem State.clipCounted_queues (s : State) (cv : Conv) (clip : Bool) :
    sameIn State.queues s (s.clipCounted cv clip) :=
  sameIn.trans (s.shareCount_queues cv) (sameIn.cond clip (State.count_queues _ F.ADC_CLIPCNT 57))

theorem State.clipCounted_kept (h : s.Kept pq) (clip : Bool) : (s.clipCounted cv clip).Kept pq :=
  State.cond_kept (fun _ k => State.count_kept _ _ k) _ (State.shareCount_kept cv h)

theorem clipcnt_counted : F.ADC_CLIPCNT.addr ∉ F.ADC_SHARECNT.addr :: countRegs := by decide +kernel

theorem State.clipCounted_count (h : s.Kept pq) (cv : Conv) :
    (s.clipCounted cv true).f F.ADC_CLIPCNT = min (s.f F.ADC_CLIPCNT + 1) (2 ^ 32 - 1) := by
  have counted : s.clipCounted cv true = (s.shareCount cv).count F.ADC_CLIPCNT 57 := rfl
  rw [counted, State.f_count (State.shareCount_kept cv h).1 rfl fun hc => clipcnt_counted (List.mem_cons_of_mem _ hc),
    (s.shareCount_within cv).f clipcnt_counted, show F.ADC_CLIPCNT.width = 32 from rfl]

/-! #### The value (R159, R160) -/

/-- The value of a code of input `i`, and whether the shaper saturated. -/
def State.shapedValue (s : State) (i : Nat) (code : Int) : Int × Bool :=
  resultShape (s.on (F.SEQ_SH_CFG_EN i)) (s.fi (F.SEQ_SH_GAIN i)) (s.fi (F.SEQ_SH_OFS i))
    (s.f (F.SEQ_SH_CFG_GSH i)) code

theorem shapeRegs_apart : ∀ i, i < 64 → (F.SEQ_SH_CFG_EN i).addr ∉ resultRegs ∧ (F.SEQ_SH_GAIN i).addr ∉ resultRegs ∧
    (F.SEQ_SH_OFS i).addr ∉ resultRegs := by decide +kernel

theorem State.shapedValue_same (h : Within resultRegs s t) {i : Nat} (hi : i < 64) (code : Int) :
    t.shapedValue i code = s.shapedValue i code := by
  obtain ⟨cfg, gain, ofs⟩ := shapeRegs_apart i hi
  have shift : t.f (F.SEQ_SH_CFG_GSH i) = s.f (F.SEQ_SH_CFG_GSH i) := h.f cfg
  unfold State.shapedValue State.fi
  rw [h.on cfg, h.f gain, h.f ofs, shift]

theorem State.shapedValue_off {i : Nat} (h : s.on (F.SEQ_SH_CFG_EN i) = false) (code : Int) :
    (s.shapedValue i code).1 = 65536 * code := by
  unfold State.shapedValue
  rw [h]
  exact Int.mul_comm code 65536

theorem State.shapedValue_range {code : Int} (lo : -8192 ≤ code) (hi : code ≤ 16383) (i : Nat) :
    -2147483648 ≤ (s.shapedValue i code).1 ∧ (s.shapedValue i code).1 ≤ 2147483647 := by
  cases h : s.on (F.SEQ_SH_CFG_EN i) with
  | false =>
    rw [State.shapedValue_off h]
    omega
  | true =>
    unfold State.shapedValue
    rw [h]
    exact clampI_range (by decide) _

theorem diffRegs_apart : F.ADC_DIFFF_PAIR.addr ∉ resultRegs ∧ F.ADC_DIFFS_PAIR.addr ∉ resultRegs := by decide +kernel

theorem State.isDiff_same (h : Within resultRegs s t) (i : Nat) : t.isDiff i = s.isDiff i := by
  unfold State.isDiff
  rw [h.f diffRegs_apart.1, h.f diffRegs_apart.2]

/-! #### The entries -/

/-- A saturated value is counted. -/
def State.satCounted (s : State) (sat : Bool) : State := s.cond sat (·.count F.SEQ_SATCNT 81)

/-- Input `i` has a result that the Almanac has not seen. -/
def State.noteFresh (s : State) (i : Nat) : State :=
  if s.alm.fresh.contains i then s else { s with alm := { s.alm with fresh := i :: s.alm.fresh } }

/-- The latest-value entry takes the raw word and the value `r`. -/
def State.latestStored (s : State) (i raw : Nat) (r : Int × Bool) : State :=
  ((s.satCounted r.2).storeEntry (latestAddr i) raw r.1).noteFresh i

/-- The latch entry too, for an injected conversion. -/
def State.latchStored (s : State) (cv : Conv) (raw : Nat) (r : Int × Bool) : State :=
  if cv.seq < 8 then s.latchWrite cv raw r.1 r.2 else s

/-- The raw word and the value `r` are stored wherever they belong. -/
def State.entered (s : State) (cv : Conv) (raw : Nat) (r : Int × Bool) : State :=
  ((s.latestStored cv.input raw r).latchStored cv raw r).ringWrite cv.input (decide (cv.seq < 8)) raw r.1

theorem State.fileResult_eq (s : State) (core : Nat) (cv : Conv) (c : ConvOutcome) : ∃ raw,
    s.fileResult core cv c =
      ((s.convCode cv.input c).1.clipCounted cv (s.convCode cv.input c).2.2.2).entered cv raw
        (((s.convCode cv.input c).1.clipCounted cv (s.convCode cv.input c).2.2.2).shapedValue cv.input
          (s.convCode cv.input c).2.1) := ⟨_, rfl⟩

theorem State.satCounted_within (s : State) (sat : Bool) :
    Within (F.SEQ_SATCNT.addr :: countRegs) s (s.satCounted sat) :=
  Within.cond sat (s.count_within F.SEQ_SATCNT 81)

theorem State.satCounted_filed {lo hi : Nat} (s : State) (sat : Bool) : Filed lo hi s (s.satCounted sat) := by
  refine ⟨outside_of_sameRegs (s.satCounted_within sat).regs fun a ha => ?_,
    sameIn.cond sat (s.count_queues F.SEQ_SATCNT 81), storedIn.ofMem (s.satCounted_within sat).mem⟩
  rcases List.mem_cons.mp ha with rfl | ha
  exacts [.inl (by decide), .inr ha]

theorem State.noteFresh_same (s : State) (i : Nat) : (s.noteFresh i).regs = s.regs ∧ (s.noteFresh i).mem = s.mem ∧
    (s.noteFresh i).queues = s.queues := by
  unfold State.noteFresh
  split <;> exact ⟨rfl, rfl, rfl⟩

theorem State.latestStored_filed (s : State) (i raw : Nat) (r : Int × Bool) :
    Filed (latestAddr i) (latestAddr i + 8) s (s.latestStored i raw r) := by
  obtain ⟨regs, mem, queues⟩ := ((s.satCounted r.2).storeEntry (latestAddr i) raw r.1).noteFresh_same i
  exact ((s.satCounted_filed r.2).thenStore (Nat.le_refl _) (Nat.le_refl _) raw r.1).thenHidden regs mem queues

theorem State.satCounted_kept (h : s.Kept pq) (sat : Bool) : (s.satCounted sat).Kept pq :=
  State.cond_kept (fun _ k => State.count_kept F.SEQ_SATCNT 81 k) sat h

theorem State.storeEntry_kept (h : s.Kept pq) (a raw : Nat) (v : Int) : (s.storeEntry a raw v).Kept pq :=
  State.setMI_kept _ _ (State.setM_kept _ _ h)

theorem State.noteFresh_kept (h : s.Kept pq) (i : Nat) : (s.noteFresh i).Kept pq := kept_ite h h

theorem State.latestStored_kept (h : s.Kept pq) (i raw : Nat) (r : Int × Bool) : (s.latestStored i raw r).Kept pq :=
  State.noteFresh_kept (State.storeEntry_kept (State.satCounted_kept h r.2) _ raw r.1) i

theorem State.latestStored_words (h : Memory.wf s.mem = true) (i raw : Nat) (r : Int × Bool) :
    (s.latestStored i raw r).mw (latestAddr i) = raw % 2 ^ 32 ∧
      (s.latestStored i raw r).mw (latestAddr i + 4) = ofI 32 r.1 % 2 ^ 32 := by
  have counted : Memory.wf (s.satCounted r.2).mem = true := by rw [(s.satCounted_within r.2).mem, h]
  obtain ⟨-, mem, -⟩ := ((s.satCounted r.2).storeEntry (latestAddr i) raw r.1).noteFresh_same i
  have fresh : ∀ a, (s.latestStored i raw r).mw a = ((s.satCounted r.2).storeEntry (latestAddr i) raw r.1).mw a :=
    fun a => congrArg (Memory.word · a) mem
  rw [fresh, fresh]
  exact State.storeEntry_words counted (latestAddr i) raw r.1

theorem latestAddr_range {i : Nat} (hi : i < 64) : 0x1C0000 ≤ latestAddr i ∧ latestAddr i + 8 ≤ 0x1C0200 := by
  unfold latestAddr
  omega

/-- The latch entry lies above the latest values and below the rings. -/
theorem State.latchStored_filed (he : cv.entry < 32) (s : State) (raw : Nat) (r : Int × Bool) :
    Filed 0x1C1000 0x1C2000 s (s.latchStored cv raw r) := by
  unfold State.latchStored
  split
  · obtain ⟨above, below⟩ := Conv.latch_range ‹_› he
    exact (State.latchWrite_filed ‹_› s raw r.1 r.2).mono above below
  · exact Filed.refl s

theorem State.entered_filed (hi : cv.input < 64) (he : cv.entry < 32) (s : State) (raw : Nat) (r : Int × Bool) :
    Filed 0x1C0000 0x262000 s (s.entered cv raw r) := by
  obtain ⟨above, below⟩ := latestAddr_range hi
  exact (((s.latestStored_filed cv.input raw r).mono above (by omega)).trans
    ((State.latchStored_filed he _ raw r).mono (by decide) (by decide))).trans
    ((State.ringWrite_filed _ cv.input _ raw r.1).mono (by decide) (Nat.le_refl _))

/-- The words of the latest-value entry, and of the latch entry of an injected conversion. -/
theorem State.entered_words (h : s.Kept pq) (hi : cv.input < 64) (he : cv.entry < 32) (raw : Nat) (r : Int × Bool) :
    ((s.entered cv raw r).mw (latestAddr cv.input) = raw % 2 ^ 32 ∧
      (s.entered cv raw r).mw (latestAddr cv.input + 4) = ofI 32 r.1 % 2 ^ 32) ∧
    (cv.seq < 8 → (s.entered cv raw r).mw cv.latch = raw % 2 ^ 32 ∧
      (s.entered cv raw r).mw (cv.latch + 4) = ofI 32 r.1 % 2 ^ 32) := by
  obtain ⟨-, below⟩ := latestAddr_range hi
  obtain ⟨first, second⟩ := State.latestStored_words h.2.1 cv.input raw r
  have latched := (State.latchStored_filed he (s.latestStored cv.input raw r) raw r).mem
  have rings := (State.ringWrite_filed ((s.latestStored cv.input raw r).latchStored cv raw r) cv.input
    (decide (cv.seq < 8)) raw r.1).mem
  have latest : ∀ a, a + 4 ≤ 0x1C0200 → (s.entered cv raw r).mw a = (s.latestStored cv.input raw r).mw a :=
    fun a ha => (rings.mw (.inl (by omega))).trans (latched.mw (.inl (by omega)))
  refine ⟨⟨(latest _ (by omega)).trans first, (latest _ (by omega)).trans second⟩, fun hn => ?_⟩
  obtain ⟨-, low⟩ := Conv.latch_range hn he
  have stored := State.latchWrite_words (State.latestStored_kept h cv.input raw r) hn raw r.1 r.2
  have taken : (s.latestStored cv.input raw r).latchStored cv raw r =
    (s.latestStored cv.input raw r).latchWrite cv raw r.1 r.2 := if_pos hn
  rw [← taken] at stored
  exact ⟨(rings.mw (.inl (by omega))).trans stored.1, (rings.mw (.inl (by omega))).trans stored.2⟩

/-! #### The filing of one result -/

variable {core : Fin 8} {c : ConvOutcome} {inj reg : List Conv}

/-- The state that the code and the counts of a result leave. -/
def State.resultCounted (s : State) (cv : Conv) (c : ConvOutcome) : State :=
  (s.convCode cv.input c).1.clipCounted cv (s.convCode cv.input c).2.2.2

theorem State.resultCounted_within (s : State) (cv : Conv) (c : ConvOutcome) :
    Within resultRegs s (s.resultCounted cv c) :=
  (s.convCode_within cv.input c).trans (State.clipCounted_within _ cv _)

theorem State.resultCounted_kept (h : s.Kept pq) (cv : Conv) (c : ConvOutcome) : (s.resultCounted cv c).Kept pq :=
  State.clipCounted_kept (State.convCode_kept cv.input c h) _

theorem State.resultCounted_queues (s : State) (cv : Conv) (c : ConvOutcome) :
    sameIn State.queues s (s.resultCounted cv c) :=
  sameIn.trans (s.convCode_queues cv.input c) (State.clipCounted_queues _ cv _)

theorem State.resultCounted_clip (h : s.Kept pq) (clip : (s.convCode cv.input c).2.2.2 = true) :
    (s.resultCounted cv c).f F.ADC_CLIPCNT = min (s.f F.ADC_CLIPCNT + 1) (2 ^ 32 - 1) := by
  rw [State.resultCounted, clip, State.clipCounted_count (State.convCode_kept cv.input c h),
    (s.convCode_within (l := []) cv.input c).f List.not_mem_nil]

theorem State.dequeued_result (s : State) (core : Nat) (cv : Conv) (inj reg : List Conv) :
    Within resultRegs s (s.dequeued core cv inj reg) :=
  (s.dequeued_within core cv inj reg).mono fun _ => mem_cons_of_mem_single

theorem clipcnt_apart : F.ADC_CLIPCNT.addr ∉ [F.SEQ_STAT_ISACT.addr] ∧ blockOf F.ADC_CLIPCNT.addr ∉ [3] ∧
    F.ADC_CLIPCNT.addr ∉ countRegs := by decide +kernel

/-- What the filing of the conversion that was sampled first leaves. -/
theorem exec_conversionResult_filed (hs : s.wf = true) (c : ConvOutcome)
    (front : takeConv (s.adc.inj.getD core.val []) (s.adc.reg.getD core.val []) = some (cv, inj, reg))
    (hi : cv.input < 64) (he : cv.entry < 32) :
    ∃ t, exec (.conversionResult core c) s = .next t ∧
      t.queues = (s.adc.inj.set core.val inj, s.adc.reg.set core.val reg) ∧
      (∀ code, ((s.dequeued core.val cv inj reg).convCode cv.input c).2.1 = code → -8192 ≤ code ∧ code ≤ 16383 →
        t.latest cv.input = (s.shapedValue cv.input code).1) ∧
      (((s.dequeued core.val cv inj reg).convCode cv.input c).2.2.2 = true →
        t.f F.ADC_CLIPCNT = min (s.f F.ADC_CLIPCNT + 1) (2 ^ 32 - 1)) ∧
      (cv.seq < 8 → t.latchVal cv.seq (cv.frame % 2) cv.entry = t.latest cv.input ∧
        t.mw (latchAddr cv.seq (cv.frame % 2) cv.entry) = t.mw (latestAddr cv.input)) ∧
      outside [2, 3] s t ∧ ∀ b, b < 0x1C0000 → t.mb b = s.mb b := by
  have run := exec_conversionResult c front
  have taken := s.dequeued_within core.val cv inj reg
  have queues := s.dequeued_queues core.val cv inj reg
  have kept := State.dequeued_kept (State.wf_iff_kept.mp hs) core.val cv inj reg
  have before := s.dequeued_result core.val cv inj reg
  generalize s.dequeued core.val cv inj reg = d at run taken queues kept before
  obtain ⟨raw, stored⟩ := d.fileResult_eq core.val cv c
  have counted := before.trans (d.resultCounted_within cv c)
  have shaped : ((d.resultCounted cv c).shapedValue cv.input (d.convCode cv.input c).2.1) =
      s.shapedValue cv.input (d.convCode cv.input c).2.1 := State.shapedValue_same counted hi _
  have value : d.fileResult core.val cv c =
      (d.resultCounted cv c).entered cv raw (s.shapedValue cv.input (d.convCode cv.input c).2.1) := by
    rw [stored, ← shaped]
    rfl
  obtain ⟨⟨first, second⟩, latch⟩ := State.entered_words (State.resultCounted_kept kept cv c) hi he raw
    (s.shapedValue cv.input (d.convCode cv.input c).2.1)
  have filed := State.entered_filed hi he (d.resultCounted cv c) raw
    (s.shapedValue cv.input (d.convCode cv.input c).2.1)
  rw [← value] at first second latch filed
  refine ⟨_, run, ?_, fun code hc range => ?_, fun clip => ?_, fun hn => ?_, ?_, fun b hb => ?_⟩
  · exact Eq.trans filed.queues (Eq.trans (d.resultCounted_queues cv c) queues)
  · obtain ⟨lo, hi⟩ := State.shapedValue_range (s := s) range.1 range.2 cv.input
    unfold State.latest State.mi
    rw [second, hc, toS_ofI lo hi]
  · have same : (d.fileResult core.val cv c).f F.ADC_CLIPCNT = (d.resultCounted cv c).f F.ADC_CLIPCNT :=
      State.f_of_rd (filed.regs _ clipcnt_apart.2.1 clipcnt_apart.2.2)
    rw [same, State.resultCounted_clip kept clip, taken.f clipcnt_apart.1]
  · obtain ⟨latch1, latch2⟩ := latch hn
    have words : (d.fileResult core.val cv c).mw (cv.latch + 4) =
        (d.fileResult core.val cv c).mw (latestAddr cv.input + 4) := latch2.trans second.symm
    exact ⟨congrArg (toS 32) words, latch1.trans first.symm⟩
  · exact (outside_of_sameRegs counted.regs resultRegs_blocks).trans (filed.regs.mono fun _ => List.mem_cons_of_mem _)
  · exact (filed.mem b (.inl hb)).trans (counted.sameMem b)

theorem ringRegs_apart : ∀ r, r < 16 → (F.SEQ_RING_CFG_EN r).addr ∉ resultRegs ∧
    (F.SEQ_RING_CFG_EN r).addr ∉ F.SEQ_SATCNT.addr :: countRegs := by decide +kernel

/-- A regular result goes to its latest-value entry alone, where no ring is enabled. -/
theorem exec_conversionResult_regular (c : ConvOutcome)
    (front : takeConv (s.adc.inj.getD core.val []) (s.adc.reg.getD core.val []) = some (cv, inj, reg))
    (regular : cv.seq = 8) (off : ∀ r, r < 16 → s.on (F.SEQ_RING_CFG_EN r) = false) :
    ∃ t, exec (.conversionResult core c) s = .next t ∧
      storedIn (latestAddr cv.input) (latestAddr cv.input + 8) s t := by
  have run := exec_conversionResult c front
  have before := s.dequeued_result core.val cv inj reg
  generalize s.dequeued core.val cv inj reg = d at run before
  obtain ⟨raw, stored⟩ := d.fileResult_eq core.val cv c
  have counted := before.trans (d.resultCounted_within cv c)
  generalize ht : (d.resultCounted cv c).shapedValue cv.input (d.convCode cv.input c).2.1 = r
  have latest := (d.resultCounted cv c).latestStored_filed cv.input raw r
  have unlatched : ((d.resultCounted cv c).latestStored cv.input raw r).latchStored cv raw r =
      (d.resultCounted cv c).latestStored cv.input raw r := if_neg (by omega)
  have rings : ∀ k, k < 16 → ((d.resultCounted cv c).latestStored cv.input raw r).on (F.SEQ_RING_CFG_EN k) = false := by
    intro k hk
    obtain ⟨early, late⟩ := ringRegs_apart k hk
    obtain ⟨regs, -⟩ := (((d.resultCounted cv c).satCounted r.2).storeEntry (latestAddr cv.input) raw r.1).noteFresh_same
      cv.input
    have fresh := State.on_of_regs (regs.trans (State.storeEntry_regs ..)) (F.SEQ_RING_CFG_EN k)
    have saturated := (d.resultCounted cv c).satCounted_within r.2
    exact fresh.trans ((saturated.on late).trans ((counted.on early).trans (off k hk)))
  have filed : d.fileResult core.val cv c = (d.resultCounted cv c).latestStored cv.input raw r := by
    have entered : d.fileResult core.val cv c = (d.resultCounted cv c).entered cv raw r := by
      rw [stored, ← ht]
      rfl
    rw [entered, State.entered, unlatched, State.ringWrite_off rings]
  rw [filed] at run
  exact ⟨_, run, (storedIn.ofMem counted.mem).trans latest.mem⟩

end Results

/-- Settles O29: the code of the conversion and the shaper give the value, and the latest-value entry, the latch
entry and the rings lie apart. -/
theorem resultsAreFiled : Obligations.ResultsAreFiled := by
  refine ⟨fun s core c cv inj reg hs _ _ front hi he => ?_, fun s core c cv inj reg _ front regular off => ?_,
    fun s core c inj reg => exec_conversionResult_idle c inj reg⟩
  · obtain ⟨t, run, queues, value, clip, latch, regs, mem⟩ := exec_conversionResult_filed hs c front hi he
    have kind := State.isDiff_same (s.dequeued_result core.val cv inj reg) cv.input
    obtain ⟨injected, regular⟩ := Prod.mk.inj queues
    refine ⟨t, run, injected, regular, fun single off => ?_, fun diff off vp vp' vn vn' => ?_,
      fun single on vp vp' => ?_, fun single out => ?_, latch, regs, mem⟩
    · rw [value _ (by rw [State.convCode_single (kind.trans single)]) (singleCode_range c), State.shapedValue_off off]
      rfl
    · rw [value _ (State.convCode_diff (kind.trans diff) vp vp' vn vn') (diffCode_range c), State.shapedValue_off off]
      rfl
    · have code : singleCode c = clampI 0 16383 (c.vp / 97656250 + c.err) :=
        (if_neg (by omega)).trans (if_neg (by omega))
      rw [value _ (by rw [State.convCode_single (kind.trans single)]) (singleCode_range c), State.shapedValue, on, code]
    · refine clip ?_
      rw [State.convCode_single (kind.trans single)]
      simpa using out
  · obtain ⟨t, run, mem⟩ := exec_conversionResult_regular c front regular off
    exact ⟨t, run, mem⟩

end Sys2Proof.Machine

namespace Sys2Proof.Machine

/-! PROOFS. The sequencer: regular passes, and the triggers and starts of injected sequences. -/

/-! ### One entry of a list -/

section Entry

variable {α : Type}

theorem length_updAt (l : List α) (n : Nat) (f : α → α) : (updAt l n f).length = l.length := by
  unfold updAt
  split
  · exact List.length_set
  · rfl

theorem getD_updAt_lt {l : List α} {n : Nat} (hn : n < l.length) (f : α → α) (d : α) :
    (updAt l n f).getD n d = f (l.getD n d) := by
  simp [updAt, hn]

theorem getD_updAt_ne (l : List α) {n k : Nat} (h : k ≠ n) (f : α → α) (d : α) :
    (updAt l n f).getD k d = l.getD k d := by
  unfold updAt
  split
  · simp [List.getD_eq_getElem?_getD, List.getElem?_set_ne h.symm]
  · rfl

end Entry

/-! ### Changes of the injected sequences, the queues and ISACT alone -/

section SeqOnly

variable {s t u : State} {n k : Nat}

theorem State.iseq_of_adc (h : t.adc = s.adc) (n : Nat) : t.iseq n = s.iseq n := by
  unfold State.iseq
  rw [h]

theorem State.iseq_setSeq (hn : n < s.adc.seqs.length) (f : InjSeq → InjSeq) : (s.setSeq n f).iseq n = f (s.iseq n) :=
  getD_updAt_lt hn f _

theorem State.iseq_setSeq_ne (s : State) (h : k ≠ n) (f : InjSeq → InjSeq) : (s.setSeq n f).iseq k = s.iseq k :=
  getD_updAt_ne _ h f _

theorem State.setSeq_length (s : State) (n : Nat) (f : InjSeq → InjSeq) :
    (s.setSeq n f).adc.seqs.length = s.adc.seqs.length := length_updAt _ n f

/-- The state but for its registers, the injected sequences and the conversions in the queues. -/
def State.noSeqs (s : State) : State :=
  { s with regs := [], adc := { s.adc with seqs := [], inj := [], reg := [] } }

/-- `t` is `s` but for ISACT, the injected sequences and the conversions in the queues. -/
structure SeqOnly (s t : State) : Prop where
  within : Within [F.SEQ_STAT_ISACT.addr] s t
  rest : sameIn State.noSeqs s t
  size : t.adc.seqs.length = s.adc.seqs.length
  stat : regsWf s.regs = true → regsWf t.regs = true ∧ t.on F.SEQ_STAT_REGRUN = s.on F.SEQ_STAT_REGRUN

theorem SeqOnly.refl (s : State) : SeqOnly s s := ⟨Within.refl s, rfl, rfl, fun h => ⟨h, rfl⟩⟩

theorem SeqOnly.trans (h : SeqOnly s t) (k : SeqOnly t u) : SeqOnly s u where
  within := h.within.trans k.within
  rest := sameIn.trans h.rest k.rest
  size := k.size.trans h.size
  stat wf := by
    obtain ⟨wf', run⟩ := h.stat wf
    obtain ⟨wf'', run'⟩ := k.stat wf'
    exact ⟨wf'', run'.trans run⟩

theorem SeqOnly.setSeq (s : State) (n : Nat) (f : InjSeq → InjSeq) : SeqOnly s (s.setSeq n f) where
  within := (Within.refl s).thenHidden (State.setSeq_regs ..) (State.setSeq_mem ..)
  rest := rfl
  size := s.setSeq_length n f
  stat wf := ⟨wf, rfl⟩

theorem SeqOnly.setIsact (s : State) (v : Nat) : SeqOnly s (s.setF F.SEQ_STAT_ISACT v) where
  within := (Within.refl s).thenSetF List.mem_cons_self v
  rest := rfl
  size := rfl
  stat wf := ⟨State.setF_regsWf wf _ _, State.on_setF_apart wf rfl rfl v⟩

theorem SeqOnly.ite {c : Prop} [Decidable c] (ht : SeqOnly s t) (hu : SeqOnly s u) :
    SeqOnly s (if c then t else u) := by
  split
  · exact ht
  · exact hu

theorem SeqOnly.each {α : Type} {f : State → α → State} (h : ∀ s x, SeqOnly s (f s x)) (xs : List α)
    (s : State) : SeqOnly s (s.each xs f) := by
  induction xs generalizing s with
  | nil => exact SeqOnly.refl s
  | cons x xs ih => exact (h s x).trans (ih (f s x))

theorem SeqOnly.boot (h : SeqOnly s t) : t.boot = s.boot := sameIn.field h.rest State.boot

theorem SeqOnly.ready (h : SeqOnly s t) : t.adc.ready = s.adc.ready := sameIn.field h.rest fun u => u.adc.ready

theorem SeqOnly.f (h : SeqOnly s t) {x : Fld} (hx : x.addr ≠ F.SEQ_STAT_ISACT.addr) : t.f x = s.f x :=
  h.within.f fun hm => hx (List.mem_singleton.mp hm)

theorem SeqOnly.on (h : SeqOnly s t) {x : Fld} (hx : x.addr ≠ F.SEQ_STAT_ISACT.addr) : t.on x = s.on x :=
  h.within.on fun hm => hx (List.mem_singleton.mp hm)

/-! #### What such a change leaves: the set-up of passes and sequences -/

theorem seqCfg_apart (n : Nat) : (F.SEQ_IS_CFG_MODE n).addr ≠ F.SEQ_STAT_ISACT.addr := by
  dsimp only [F.SEQ_IS_CFG_MODE, F.SEQ_STAT_ISACT]
  omega

theorem seqBurst_apart (n : Nat) : (F.SEQ_IS_BURST_COUNT n).addr ≠ F.SEQ_STAT_ISACT.addr := by
  dsimp only [F.SEQ_IS_BURST_COUNT, F.SEQ_STAT_ISACT]
  omega

theorem seqEnt_apart (n e : Nat) : (F.SEQ_IS_ENT_CORELO n e).addr ≠ F.SEQ_STAT_ISACT.addr := by
  dsimp only [F.SEQ_IS_ENT_CORELO, F.SEQ_STAT_ISACT]
  omega

theorem scanMask_apart (k : Nat) : (F.SEQ_SCAN_MASK k).addr ≠ F.SEQ_STAT_ISACT.addr := by
  dsimp only [F.SEQ_SCAN_MASK, F.SEQ_STAT_ISACT]
  omega

theorem SeqOnly.interleaved (h : SeqOnly s t) (k : Nat) : t.interleaved k = s.interleaved k := by
  unfold State.interleaved
  rw [h.f (by decide)]

theorem SeqOnly.oddDiff (h : SeqOnly s t) (i : Nat) : t.oddDiff i = s.oddDiff i := by
  unfold State.oddDiff
  rw [State.isDiff_same (h.within.mono fun _ => mem_cons_of_mem_single)]

theorem SeqOnly.coreUp (h : SeqOnly s t) (k : Nat) : t.coreUp k = s.coreUp k := by
  unfold State.coreUp
  rw [h.f (by decide), h.ready]

theorem SeqOnly.passInputs (h : SeqOnly s t) (k : Nat) : t.passInputs k = s.passInputs k := by
  unfold State.passInputs State.scanMask
  rw [h.interleaved, h.f (scanMask_apart k), funext h.oddDiff]

theorem SeqOnly.isEnt (h : SeqOnly s t) (n e : Nat) : t.isEnt n e = s.isEnt n e := by
  unfold State.isEnt
  rw [h.within.regs _ fun hm => seqEnt_apart n (e / 2) (List.mem_singleton.mp hm)]

theorem SeqOnly.seqCores (h : SeqOnly s t) (n : Nat) : t.seqCores n = s.seqCores n := by
  have entries : t.entriesOf n = s.entriesOf n := by
    unfold State.entriesOf
    rw [h.on (seqCfg_apart n), h.f (x := F.SEQ_IS_CFG_NENT n) (seqCfg_apart n), funext (h.isEnt n)]
  have refused : ∀ e, t.entRefused e = s.entRefused e := fun e => by
    unfold State.entRefused
    rw [h.interleaved, h.oddDiff]
  unfold State.seqCores State.seqEntries
  rw [entries, funext refused]

theorem SeqOnly.seqSpan (h : SeqOnly s t) (n : Nat) : t.seqSpan n = s.seqSpan n := by
  unfold State.seqSpan
  rw [h.on (seqCfg_apart n), h.f (seqBurst_apart n), h.f (x := F.SEQ_IS_BURST_SPACE n) (seqBurst_apart n), h.isEnt,
    h.interleaved]

theorem SeqOnly.warmBurst (h : SeqOnly s t) (n : Nat) : t.warmBurst n = s.warmBurst n := by
  have record : ∀ d o, t.dr d o = s.dr d o := fun d o => congrArg (Memory.word · (drAddr d + o)) h.within.mem
  unfold State.warmBurst State.sheds State.warm State.hot State.chained State.ripen
  rw [h.f (by decide)]
  simp only [record]

theorem SeqOnly.trigIgnored (h : SeqOnly s t) (n : Nat) : t.trigIgnored n = s.trigIgnored n := by
  unfold State.trigIgnored
  rw [h.boot, h.on (by decide), h.seqCores, funext h.coreUp, h.warmBurst]

end SeqOnly

end Sys2Proof.Machine

namespace Sys2Proof.Machine

/-! ### The sequences up to a time of the frame (R152) -/

section UpTo

variable {s t u : State} {n k : Nat} {x : Int} {q : InjSeq}

/-- The sequence runs, and has taken its last sample before the time `x`. -/
def InjSeq.over (q : InjSeq) (x : Int) : Bool := q.st == 2 && decide (25 * q.lastEdge < x)

/-- The sequence once the frame has come to the time `x`. -/
def InjSeq.upTo (q : InjSeq) (x : Int) : InjSeq := if q.over x then { q with st := 0 } else q

theorem InjSeq.upTo_free (h : q.st = 0 ∨ (q.st = 2 ∧ 25 * q.lastEdge < x)) : (q.upTo x).st = 0 := by
  unfold InjSeq.upTo
  rcases h with idle | ⟨runs, past⟩
  · split
    · rfl
    · exact idle
  · rw [if_pos (by simp [InjSeq.over, runs, past])]

theorem InjSeq.over_busy (h : q.st = 1 ∨ (q.st = 2 ∧ x ≤ 25 * q.lastEdge)) : q.over x = false := by
  rcases h with waits | ⟨-, late⟩
  · simp [InjSeq.over, waits]
  · simp [InjSeq.over, late]

theorem InjSeq.upTo_busy (h : q.over x = false) : q.upTo x = q := if_neg (by rw [h]; decide)

/-- What time leaves of a sequence: its edges, its waiting triggers, and whether it is pending. -/
def InjSeq.place (q : InjSeq) : Int × Int × List (Option Int) × Bool := (q.edge, q.lastEdge, q.req, q.st == 1)

theorem InjSeq.place_upTo (q : InjSeq) (x : Int) : (q.upTo x).place = q.place := by
  unfold InjSeq.upTo
  split
  · have runs : q.st = 2 := by
      unfold InjSeq.over at *
      simp_all
    simp [InjSeq.place, runs]
  · rfl

theorem InjSeq.of_place {q r : InjSeq} (h : q.place = r.place) :
    q.edge = r.edge ∧ q.lastEdge = r.lastEdge ∧ q.req = r.req ∧ (q.st == 1) = (r.st == 1) := by
  simpa only [InjSeq.place, Prod.mk.injEq] using h

/-- Sequence `n` and its bit of ISACT are in `t` as in `s`. -/
structure SeqKept (n : Nat) (s t : State) : Prop where
  seq : t.iseq n = s.iseq n
  shown : regsWf s.regs = true →
    regsWf t.regs = true ∧ bit (t.f F.SEQ_STAT_ISACT) n = bit (s.f F.SEQ_STAT_ISACT) n

theorem SeqKept.refl (n : Nat) (s : State) : SeqKept n s s := ⟨rfl, fun wf => ⟨wf, rfl⟩⟩

theorem SeqKept.trans (h : SeqKept n s t) (k : SeqKept n t u) : SeqKept n s u where
  seq := k.seq.trans h.seq
  shown wf := by
    obtain ⟨wf', now⟩ := h.shown wf
    obtain ⟨wf'', later⟩ := k.shown wf'
    exact ⟨wf'', later.trans now⟩

/-- Bit `k` of ISACT after bit `n` has been cleared. -/
theorem State.bit_clrIsact (h : regsWf s.regs = true) (hk : k < 8) :
    bit ((s.clrBit F.SEQ_STAT_ISACT n).f F.SEQ_STAT_ISACT) k = (bit (s.f F.SEQ_STAT_ISACT) k && decide (k ≠ n)) := by
  have now : (s.clrBit F.SEQ_STAT_ISACT n).f F.SEQ_STAT_ISACT = andNot (s.f F.SEQ_STAT_ISACT) (2 ^ n) % 2 ^ 8 :=
    State.f_setF_same h rfl _
  rw [now, bit_mod _ hk, bit_andNot, bit_eq_testBit (2 ^ n), Nat.testBit_two_pow, decide_eq_true (by omega),
    Bool.true_and, ← decide_not, decide_eq_decide.mpr ne_comm]

theorem State.seqStop_seqOnly (s : State) (x : Int) (n : Nat) : SeqOnly s (s.seqStop x n) :=
  SeqOnly.ite ((SeqOnly.setSeq s n _).trans (SeqOnly.setIsact _ _)) (SeqOnly.refl s)

theorem State.iseq_seqStop (s : State) (x : Int) (n : Nat) : (s.seqStop x n).iseq n = (s.iseq n).upTo x := by
  unfold State.seqStop InjSeq.upTo InjSeq.over
  split
  · exact getD_updAt _ n _ rfl
  · rfl

theorem State.seqStop_busy (h : (s.iseq n).over x = false) : s.seqStop x n = s :=
  if_neg (by rw [← InjSeq.over, h]; decide)

theorem State.seqStop_keeps (hn : n < 8) (s : State) (x : Int) (h : k ≠ n) : SeqKept n s (s.seqStop x k) := by
  unfold State.seqStop
  split
  · refine ⟨s.iseq_setSeq_ne h.symm _, fun wf => ⟨State.setF_regsWf wf _ _, ?_⟩⟩
    rw [State.bit_clrIsact (s := s.setSeq k _) wf hn, decide_eq_true h.symm, Bool.and_true, State.setSeq_f]
  · exact SeqKept.refl n s

theorem State.seqsUpTo_seqOnly (s : State) (x : Int) : SeqOnly s (s.seqsUpTo x) := by
  rw [State.seqsUpTo_eq]
  exact SeqOnly.each (fun t k => t.seqStop_seqOnly x k) _ s

theorem State.seqStop_place (s : State) (x : Int) (k m : Nat) :
    sameIn (fun t => (t.iseq m).place) s (s.seqStop x k) := by
  by_cases e : m = k
  · rw [e, sameIn, State.iseq_seqStop, InjSeq.place_upTo]
  · unfold State.seqStop
    exact sameIn.ite (congrArg InjSeq.place (s.iseq_setSeq_ne e _)) rfl

theorem State.seqsUpTo_place (s : State) (x : Int) (m : Nat) : ((s.seqsUpTo x).iseq m).place = (s.iseq m).place :=
  sameIn.each (p := fun t => (t.iseq m).place) (fun t k => t.seqStop_place x k m) _ s

/-- One visit of the loop concerns sequence `n`. -/
theorem State.seqsUpTo_visit (hn : n < 8) (s : State) (x : Int) :
    ∃ u, SeqKept n s u ∧ SeqKept n (u.seqStop x n) (s.seqsUpTo x) :=
  State.each_visit (SeqKept.refl n) (fun _ _ _ => SeqKept.trans) (List.mem_range.mpr hn) List.nodup_range
    (fun t _ _ h => t.seqStop_keeps hn x h) s

theorem State.iseq_seqsUpTo (hn : n < 8) (s : State) (x : Int) : (s.seqsUpTo x).iseq n = (s.iseq n).upTo x := by
  obtain ⟨u, before, after⟩ := s.seqsUpTo_visit hn x
  rw [after.seq, State.iseq_seqStop, before.seq]

theorem State.seqsUpTo_keeps (hn : n < 8) (h : (s.iseq n).over x = false) : SeqKept n s (s.seqsUpTo x) := by
  obtain ⟨u, before, after⟩ := s.seqsUpTo_visit hn x
  rw [State.seqStop_busy (by rw [before.seq, h])] at after
  exact before.trans after

end UpTo

/-! ### What is flagged and counted (R148, R154, R155) -/

section Noted

variable {s : State} {x c : Fld} {n : Nat}

/-- Field `x`, a flag of SEQ_OVRFLAG, takes `v`, and the event is counted in `c` and in the Ledger. -/
def State.noted (s : State) (x c : Fld) (v src : Nat) : State := (s.setF x v).count c src

/-- The counters of overruns and late starts. -/
def ovrCounts : List Fld := [F.SEQ_IOVRCNT, F.SEQ_ROVRCNT, F.SEQ_LATECNT]

theorem ovrFlag_apart : F.SEQ_OVRFLAG_ROVR.addr ∉ countRegs ∧ ∀ c, c ∈ ovrCounts →
    c.fits = true ∧ c.width = 32 ∧ c.addr ∉ countRegs ∧ F.SEQ_OVRFLAG_ROVR.addr ≠ c.addr := by decide +kernel

theorem State.noted_within (s : State) (x c : Fld) (v src : Nat) :
    Within (x.addr :: c.addr :: countRegs) s (s.noted x c v src) :=
  ((Within.refl s).thenSetF List.mem_cons_self v).trans
    ((State.count_within _ c src).mono fun _ => List.mem_cons_of_mem _)

theorem State.noted_adc (s : State) (x c : Fld) (v src : Nat) : (s.noted x c v src).adc = s.adc :=
  (State.count_regsOnly _ c src).adc

theorem State.noted_flag (hx : x.addr = F.SEQ_OVRFLAG_ROVR.addr) (hc : c ∈ ovrCounts) (s : State) (v src : Nat) :
    (s.noted x c v src).f x = (s.setF x v).f x := by
  obtain ⟨-, -, -, apart⟩ := ovrFlag_apart.2 c hc
  have off : x.addr ∉ c.addr :: countRegs := by
    rw [hx, List.mem_cons, not_or]
    exact ⟨apart, ovrFlag_apart.1⟩
  exact ((s.setF x v).count_within c src).f off

theorem State.noted_count (h : regsWf s.regs = true) (hx : x.addr = F.SEQ_OVRFLAG_ROVR.addr) (hc : c ∈ ovrCounts)
    (v src : Nat) : (s.noted x c v src).f c = min (s.f c + 1) (2 ^ 32 - 1) := by
  obtain ⟨fits, width, counted, apart⟩ := ovrFlag_apart.2 c hc
  have before : (s.setF x v).f c = s.f c := State.f_wr_ne s _ (by rw [hx]; exact apart.symm)
  rw [State.noted, State.f_count (State.setF_regsWf h x v) fits counted, before, width]

/-- The event of sequence `n` is flagged in bit `n`. -/
theorem State.bit_noted (h : regsWf s.regs = true) (hx : x.addr = F.SEQ_OVRFLAG_ROVR.addr) (fits : x.fits = true)
    (hc : c ∈ ovrCounts) (hn : n < x.width) (src : Nat) :
    bit ((s.noted x c (orN (s.f x) (2 ^ n)) src).f x) n = true := by
  rw [State.noted_flag hx hc]
  exact State.bit_setBit h fits hn

end Noted

/-! ### The trigger of an injected sequence falls due (R150, R152, R155, R156) -/

section Trigger

variable {s : State} {n c : Nat}

/-- Sequence `n` is pending since its trigger fell due at PWM clock `c`. -/
def State.seqPending (s : State) (n c : Nat) : State :=
  (s.setSeq n fun q => { q with st := 1, edge := firstEdge c }).setBit F.SEQ_STAT_ISACT n

/-- The trigger of sequence `n` is an overrun. -/
def State.seqOverrun (s : State) (n : Nat) : State :=
  s.noted F.SEQ_OVRFLAG_IOVR F.SEQ_IOVRCNT (orN (s.f F.SEQ_OVRFLAG_IOVR) (2 ^ n)) (64 + n)

theorem State.seqOverrun_shown (h : regsWf s.regs = true) (hn : n < 8) :
    bit ((s.seqOverrun n).f F.SEQ_OVRFLAG_IOVR) n = true ∧
      (s.seqOverrun n).f F.SEQ_IOVRCNT = min (s.f F.SEQ_IOVRCNT + 1) (2 ^ 32 - 1) ∧
      Within (F.SEQ_OVRFLAG_IOVR.addr :: F.SEQ_IOVRCNT.addr :: countRegs) s (s.seqOverrun n) :=
  ⟨State.bit_noted (x := F.SEQ_OVRFLAG_IOVR) (c := F.SEQ_IOVRCNT) h rfl rfl (by decide) hn (64 + n),
    State.noted_count (x := F.SEQ_OVRFLAG_IOVR) (c := F.SEQ_IOVRCNT) h rfl (by decide) _ (64 + n),
    s.noted_within F.SEQ_OVRFLAG_IOVR F.SEQ_IOVRCNT _ (64 + n)⟩

theorem State.iseq_seqOverrun (s : State) (n k : Nat) : (s.seqOverrun n).iseq k = s.iseq k :=
  State.iseq_of_adc (s.noted_adc F.SEQ_OVRFLAG_IOVR F.SEQ_IOVRCNT _ (64 + n)) k

theorem State.trigDue_eq (s : State) (n c : Nat) : s.trigDue n c =
    if (s.seqsUpTo (4 * (c : Int))).trigIgnored n then s.seqsUpTo (4 * (c : Int))
    else if ((s.seqsUpTo (4 * (c : Int))).iseq n).st ≠ 0 then (s.seqsUpTo (4 * (c : Int))).seqOverrun n
    else (s.seqsUpTo (4 * (c : Int))).seqPending n c := rfl

/-- What a due trigger makes of a sequence that is free by then. -/
theorem State.trigDue_shown (wf : regsWf s.regs = true) (hn : n < 8) (len : s.adc.seqs.length = 8)
    (taken : s.trigIgnored n = false)
    (free : (s.iseq n).st = 0 ∨ ((s.iseq n).st = 2 ∧ 25 * (s.iseq n).lastEdge < 4 * (c : Int))) :
    ((s.trigDue n c).iseq n).st = 1 ∧ ((s.trigDue n c).iseq n).edge = firstEdge c ∧
      ((s.trigDue n c).iseq n).req = (s.iseq n).req ∧ bit ((s.trigDue n c).f F.SEQ_STAT_ISACT) n = true ∧
      SeqOnly s (s.trigDue n c) := by
  have moved := s.seqsUpTo_seqOnly (4 * (c : Int))
  have seq := s.iseq_seqsUpTo hn (4 * (c : Int))
  have due : s.trigDue n c = (s.seqsUpTo (4 * (c : Int))).seqPending n c := by
    rw [State.trigDue_eq, moved.trigIgnored, taken, seq, InjSeq.upTo_free free]
    rfl
  rw [due]
  generalize s.seqsUpTo (4 * (c : Int)) = u at moved seq
  have pending : (u.seqPending n c).iseq n = { (s.iseq n).upTo (4 * (c : Int)) with st := 1, edge := firstEdge c } := by
    rw [← seq]
    exact u.iseq_setSeq (by rw [moved.size, len]; exact hn) _
  obtain ⟨-, -, req, -⟩ := InjSeq.of_place ((s.iseq n).place_upTo (4 * (c : Int)))
  refine ⟨by rw [pending], by rw [pending], by rw [pending]; exact req, ?_,
    moved.trans ((SeqOnly.setSeq u n _).trans (SeqOnly.setIsact _ _))⟩
  exact State.bit_setBit (s := u.setSeq n _) (moved.stat wf).1 rfl hn

/-- A due trigger of a sequence that is pending or still runs is an overrun. -/
theorem State.trigDue_overrun (hn : n < 8) (taken : s.trigIgnored n = false)
    (busy : (s.iseq n).st = 1 ∨ ((s.iseq n).st = 2 ∧ 4 * (c : Int) ≤ 25 * (s.iseq n).lastEdge)) :
    s.trigDue n c = (s.seqsUpTo (4 * (c : Int))).seqOverrun n := by
  have moved := s.seqsUpTo_seqOnly (4 * (c : Int))
  have still := (s.seqsUpTo_keeps hn (InjSeq.over_busy busy)).seq
  have busy : (s.iseq n).st ≠ 0 := by omega
  rw [State.trigDue_eq, moved.trigIgnored, taken, still, if_pos busy]
  rfl

end Trigger

end Sys2Proof.Machine

namespace Sys2Proof.Machine

/-! ### INJECTED_TRIGGER_DUE -/

section Due

variable {s : State} {n : Fin 8} {c : BitVec 16} {r : List (Option Int)}

/-- The triggers of sequence `n` that wait are `r` from now on. -/
def State.waiting (s : State) (n : Nat) (r : List (Option Int)) : State := s.setSeq n fun q => { q with req := r }

theorem State.iseq_waiting {n : Nat} (hn : n < s.adc.seqs.length) (r : List (Option Int)) :
    (s.waiting n r).iseq n = { s.iseq n with req := r } := State.iseq_setSeq hn _

theorem State.waiting_seqOnly (s : State) (n : Nat) (r : List (Option Int)) : SeqOnly s (s.waiting n r) :=
  SeqOnly.setSeq s n _

theorem exec_injectedTriggerDue (come : takeReq (s.iseq n).req c.toNat = some r) :
    exec (.injectedTriggerDue n c) s = .next ((s.waiting n r).trigDue n c.toNat) := by
  have run : exec (.injectedTriggerDue n c) s = execInjectedTriggerDue n c s := rfl
  rw [run, execInjectedTriggerDue, come]
  rfl

theorem exec_injectedTriggerDue_idle (come : takeReq (s.iseq n).req c.toNat = none) :
    exec (.injectedTriggerDue n c) s = .next s := by
  have run : exec (.injectedTriggerDue n c) s = execInjectedTriggerDue n c s := rfl
  rw [run, execInjectedTriggerDue, come]

theorem exec_injectedTriggerDue_pending (hs : s.wf = true) (len : s.adc.seqs.length = 8)
    (taken : s.trigIgnored n = false) (come : takeReq (s.iseq n).req c.toNat = some r)
    (free : (s.iseq n).st = 0 ∨ ((s.iseq n).st = 2 ∧ 25 * (s.iseq n).lastEdge < 4 * (c.toNat : Int))) :
    ∃ t, exec (.injectedTriggerDue n c) s = .next t ∧ (t.iseq n).st = 1 ∧ (t.iseq n).edge = firstEdge c.toNat ∧
      (t.iseq n).req = r ∧ bit (t.f F.SEQ_STAT_ISACT) n = true ∧ t.on F.SEQ_STAT_REGRUN = s.on F.SEQ_STAT_REGRUN ∧
      sameRegs s t [F.SEQ_STAT_ISACT.addr] ∧ sameMem s t := by
  have waits := s.waiting_seqOnly n r
  have seq := State.iseq_waiting (by rw [len]; exact n.isLt) r
  obtain ⟨st, edge, req, shown, due⟩ := State.trigDue_shown (s := s.waiting n r) (c := c.toNat)
    (waits.stat (State.wf_regs hs)).1 n.isLt (waits.size.trans len) ((waits.trigIgnored n).trans taken)
    (by rw [seq]; exact free)
  have same := waits.trans due
  exact ⟨_, exec_injectedTriggerDue come, st, edge, req.trans (by rw [seq]), shown, (same.stat (State.wf_regs hs)).2,
    same.within.regs, same.within.sameMem⟩

theorem exec_injectedTriggerDue_overrun (hs : s.wf = true) (len : s.adc.seqs.length = 8)
    (taken : s.trigIgnored n = false) (come : takeReq (s.iseq n).req c.toNat = some r)
    (busy : (s.iseq n).st = 1 ∨ ((s.iseq n).st = 2 ∧ 4 * (c.toNat : Int) ≤ 25 * (s.iseq n).lastEdge)) :
    ∃ t, exec (.injectedTriggerDue n c) s = .next t ∧ (t.iseq n).st = (s.iseq n).st ∧
      (t.iseq n).edge = (s.iseq n).edge ∧ (t.iseq n).req = r ∧ bit (t.f F.SEQ_OVRFLAG_IOVR) n = true ∧
      t.f F.SEQ_IOVRCNT = min (s.f F.SEQ_IOVRCNT + 1) (2 ^ 32 - 1) ∧
      sameRegs s t (F.SEQ_STAT_ISACT.addr :: F.SEQ_OVRFLAG_IOVR.addr :: F.SEQ_IOVRCNT.addr :: countRegs) ∧
      sameMem s t := by
  have waits := s.waiting_seqOnly n r
  have seq := State.iseq_waiting (by rw [len]; exact n.isLt) r
  have busy' : ((s.waiting n r).iseq n).st = 1 ∨
      (((s.waiting n r).iseq n).st = 2 ∧ 4 * (c.toNat : Int) ≤ 25 * ((s.waiting n r).iseq n).lastEdge) := by
    rw [seq]
    exact busy
  have run := exec_injectedTriggerDue come
  rw [State.trigDue_overrun n.isLt ((waits.trigIgnored n).trans taken) busy'] at run
  have moved := waits.trans ((s.waiting n r).seqsUpTo_seqOnly (4 * (c.toNat : Int)))
  have still := ((s.waiting n r).seqsUpTo_keeps n.isLt (InjSeq.over_busy busy')).seq.trans seq
  generalize (s.waiting n r).seqsUpTo (4 * (c.toNat : Int)) = u at run moved still
  have wf := (moved.stat (State.wf_regs hs)).1
  have after := (u.iseq_seqOverrun n n).trans still
  obtain ⟨flag, count, noted⟩ := State.seqOverrun_shown wf n.isLt
  have same := (moved.within.mono fun _ => mem_cons_of_mem_single).trans (noted.mono fun _ => List.mem_cons_of_mem _)
  rw [moved.f (by decide)] at count
  exact ⟨_, run, by rw [after], by rw [after], by rw [after], flag, count, same.regs, same.sameMem⟩

end Due

/-! ### INJECTED_SOFTWARE_TRIGGER (R150) -/

section Software

variable {s : State} {m : Master} {n : Fin 8} {c : BitVec 16}

theorem State.masterOpBy_admitted {a : Nat} (h : s.admits m a = true) (f : State → State × Bool) :
    s.masterOpBy m a f = State.report (f s) (masterCode m) a := by
  unfold State.admits at h
  rw [Bool.and_eq_true, Bool.and_eq_true, Bool.not_eq_true'] at h
  obtain ⟨⟨reached, gate⟩, held⟩ := h
  simp [State.masterOpBy, reached, gate, held]

/-- What a write of SEQ_ISTRIG at PWM clock `c` does to sequence `n`. -/
def State.softTrigger (s : State) (n c : Nat) : State :=
  if s.f (F.SEQ_IS_CFG_SRC n) ≠ 1 then s
  else if s.f (F.SEQ_IS_CFG_DELAY n) = 0 then s.trigDue n c
  else s.trigRaise (· == n) (some c)

theorem exec_injectedSoftwareTrigger (ha : s.admits m F.SEQ_ISTRIG_GO.addr = true) (w : Word) :
    exec (.injectedSoftwareTrigger m w c) s = .next (s.each (bitsOf w.toNat 8) (·.softTrigger · c.toNat)) := by
  have run : exec (.injectedSoftwareTrigger m w c) s = execInjectedSoftwareTrigger m w c s := rfl
  rw [run, execInjectedSoftwareTrigger, State.masterOpBy_admitted ha]
  rfl

theorem bitsOf_single : ∀ n : Fin 8, bitsOf (BitVec.ofNat 32 (2 ^ n.val)).toNat 8 = [n.val] := by decide

/-- The word with bit `n` alone triggers sequence `n` alone. -/
theorem exec_injectedSoftwareTrigger_single (ha : s.admits m F.SEQ_ISTRIG_GO.addr = true) :
    exec (.injectedSoftwareTrigger m (BitVec.ofNat 32 (2 ^ n.val)) c) s = .next (s.softTrigger n c.toNat) := by
  rw [exec_injectedSoftwareTrigger ha, bitsOf_single]
  rfl

/-- The sequences that the word names have other sources. -/
theorem exec_injectedSoftwareTrigger_none (ha : s.admits m F.SEQ_ISTRIG_GO.addr = true) {w : Word}
    (others : ∀ n, n < 8 → bit w.toNat n = true → s.f (F.SEQ_IS_CFG_SRC n) ≠ 1) :
    exec (.injectedSoftwareTrigger m w c) s = .next s := by
  rw [exec_injectedSoftwareTrigger ha, State.each_still fun k hk => ?_]
  obtain ⟨small, named⟩ := List.mem_filter.mp hk
  exact if_pos (others k (List.mem_range.mp small) named)

/-- An event at PWM clock `c` triggers the sequences `p`. -/
theorem State.iseq_trigRaise {k : Nat} (len : s.adc.seqs.length = 8) (hk : k < 8) (p : Nat → Bool) (c : Nat) :
    (s.trigRaise p (some c)).iseq k = if p k then
      { s.iseq k with req := (s.iseq k).req ++ [some ((c + s.f (F.SEQ_IS_CFG_DELAY k) : Nat) : Int)] }
    else s.iseq k := by
  have small : k < s.adc.seqs.length := by rw [len]; exact hk
  unfold State.trigRaise State.iseq
  simp [small]

theorem exec_injectedSoftwareTrigger_now (hs : s.wf = true) (len : s.adc.seqs.length = 8)
    (ha : s.admits m F.SEQ_ISTRIG_GO.addr = true) (src : s.f (F.SEQ_IS_CFG_SRC n) = 1)
    (delay : s.f (F.SEQ_IS_CFG_DELAY n) = 0) (taken : s.trigIgnored n = false) (idle : (s.iseq n).st = 0) :
    ∃ t, exec (.injectedSoftwareTrigger m (BitVec.ofNat 32 (2 ^ n.val)) c) s = .next t ∧ (t.iseq n).st = 1 ∧
      (t.iseq n).edge = firstEdge c.toNat ∧ bit (t.f F.SEQ_STAT_ISACT) n = true ∧
      t.on F.SEQ_STAT_REGRUN = s.on F.SEQ_STAT_REGRUN ∧ sameRegs s t [F.SEQ_STAT_ISACT.addr] ∧ sameMem s t := by
  have due : s.softTrigger n c.toNat = s.trigDue n c.toNat := (if_neg (not_not.mpr src)).trans (if_pos delay)
  obtain ⟨st, edge, -, shown, same⟩ :=
    State.trigDue_shown (c := c.toNat) (State.wf_regs hs) n.isLt len taken (.inl idle)
  rw [exec_injectedSoftwareTrigger_single ha, due]
  exact ⟨_, rfl, st, edge, shown, (same.stat (State.wf_regs hs)).2, same.within.regs, same.within.sameMem⟩

theorem exec_injectedSoftwareTrigger_later (len : s.adc.seqs.length = 8)
    (ha : s.admits m F.SEQ_ISTRIG_GO.addr = true) (src : s.f (F.SEQ_IS_CFG_SRC n) = 1)
    (delay : s.f (F.SEQ_IS_CFG_DELAY n) ≠ 0) :
    ∃ t, exec (.injectedSoftwareTrigger m (BitVec.ofNat 32 (2 ^ n.val)) c) s = .next t ∧
      (t.iseq n).req = (s.iseq n).req ++ [some ((c.toNat + s.f (F.SEQ_IS_CFG_DELAY n) : Nat) : Int)] ∧
      (∀ k, k < 8 → k ≠ n.val → t.iseq k = s.iseq k) ∧ sameRegs s t [] ∧ sameMem s t := by
  have raised : s.softTrigger n c.toNat = s.trigRaise (· == n.val) (some c.toNat) :=
    (if_neg (not_not.mpr src)).trans (if_neg delay)
  rw [exec_injectedSoftwareTrigger_single ha, raised]
  refine ⟨_, rfl, ?_, fun k hk other => ?_, sameRegs.ofRegs rfl, sameMem.ofMem rfl⟩
  · rw [State.iseq_trigRaise len n.isLt, if_pos (beq_self_eq_true n.val)]
  · rw [State.iseq_trigRaise len hk, if_neg (by rw [beq_iff_eq]; exact other)]

end Software

/-! ### INJECTED_SEQUENCE_START (R151, R152, R154, R166) -/

section Start

variable {s : State} {n : Fin 8} {j : BitVec 16}

/-- The queues of conversions are `inj` and `reg` from now on. -/
def State.withQueues (s : State) (inj reg : List (List Conv)) : State :=
  { s with adc := { s.adc with inj := inj, reg := reg } }

theorem SeqOnly.withQueues (s : State) (inj reg : List (List Conv)) : SeqOnly s (s.withQueues inj reg) where
  within := (Within.refl s).thenHidden rfl rfl
  rest := rfl
  size := rfl
  stat wf := ⟨wf, rfl⟩

/-- The sequence as its occurrence starts at ADC edge `j` and takes its last sample `span` half edges later. -/
def InjSeq.started (q : InjSeq) (j span : Nat) : InjSeq :=
  { q with st := if span = 0 then 0 else 2, lastEdge := 2 * (j : Int) + span, occ := q.occ + 1 }

theorem State.seqStart_eq (s : State) (n j : Nat) (late : Bool) : ∃ inj reg, s.seqStart n j late =
    ((s.withQueues inj reg).setSeq n (·.started j (s.seqSpan n))).cond (s.seqSpan n == 0)
      (·.clrBit F.SEQ_STAT_ISACT n) := ⟨_, _, rfl⟩

theorem State.seqStart_seqOnly (s : State) (n j : Nat) (late : Bool) : SeqOnly s (s.seqStart n j late) := by
  obtain ⟨inj, reg, started⟩ := s.seqStart_eq n j late
  rw [started]
  exact (SeqOnly.withQueues s inj reg).trans ((SeqOnly.setSeq _ n _).trans
    (SeqOnly.ite (SeqOnly.setIsact _ _) (SeqOnly.refl _)))

theorem State.iseq_seqStart {n : Nat} (hn : n < s.adc.seqs.length) (j : Nat) (late : Bool) :
    (s.seqStart n j late).iseq n = (s.iseq n).started j (s.seqSpan n) := by
  obtain ⟨inj, reg, started⟩ := s.seqStart_eq n j late
  have seq := State.iseq_setSeq (s := s.withQueues inj reg) hn (·.started j (s.seqSpan n))
  rw [started]
  cases s.seqSpan n == 0 <;> exact seq

/-- An occurrence of one sample is over as it starts. -/
theorem State.bit_shortRun {n : Nat} (h : regsWf s.regs = true) (hn : n < 8) (span : Nat) :
    bit ((s.cond (span == 0) (·.clrBit F.SEQ_STAT_ISACT n)).f F.SEQ_STAT_ISACT) n =
      (decide (span ≠ 0) && bit (s.f F.SEQ_STAT_ISACT) n) := by
  cases span with
  | zero =>
    have cleared := State.bit_clrIsact (n := n) h hn
    rw [decide_eq_false (not_not.mpr rfl), Bool.and_false] at cleared
    exact cleared
  | succ => rfl

theorem State.bit_seqStart {n : Nat} (h : regsWf s.regs = true) (hn : n < 8) (j : Nat) (late : Bool) :
    bit ((s.seqStart n j late).f F.SEQ_STAT_ISACT) n =
      (decide (s.seqSpan n ≠ 0) && bit (s.f F.SEQ_STAT_ISACT) n) := by
  obtain ⟨inj, reg, started⟩ := s.seqStart_eq n j late
  have regs : ((s.withQueues inj reg).setSeq n (·.started j (s.seqSpan n))).regs = s.regs := rfl
  rw [started]
  generalize (s.withQueues inj reg).setSeq n _ = u at regs
  rw [State.bit_shortRun (by rw [regs, h]) hn, State.f_of_regs regs]

theorem State.cond_true (s : State) (f : State → State) : s.cond true f = f s := rfl

theorem State.cond_false (s : State) (f : State → State) : s.cond false f = s := rfl

/-- The start of sequence `n` is flagged and counted as late. -/
def State.seqLate (s : State) (n : Nat) : State :=
  s.noted F.SEQ_OVRFLAG_LATE F.SEQ_LATECNT (orN (s.f F.SEQ_OVRFLAG_LATE) (2 ^ n)) (72 + n)

theorem State.seqLate_shown {n : Nat} (h : regsWf s.regs = true) (hn : n < 8) :
    bit ((s.seqLate n).f F.SEQ_OVRFLAG_LATE) n = true ∧
      (s.seqLate n).f F.SEQ_LATECNT = min (s.f F.SEQ_LATECNT + 1) (2 ^ 32 - 1) ∧
      Within (F.SEQ_OVRFLAG_LATE.addr :: F.SEQ_LATECNT.addr :: countRegs) s (s.seqLate n) :=
  ⟨State.bit_noted (x := F.SEQ_OVRFLAG_LATE) (c := F.SEQ_LATECNT) h rfl rfl (by decide) hn (72 + n),
    State.noted_count (x := F.SEQ_OVRFLAG_LATE) (c := F.SEQ_LATECNT) h rfl (by decide) _ (72 + n),
    s.noted_within F.SEQ_OVRFLAG_LATE F.SEQ_LATECNT _ (72 + n)⟩

theorem State.iseq_seqLate (s : State) (n k : Nat) : (s.seqLate n).iseq k = s.iseq k :=
  State.iseq_of_adc (s.noted_adc F.SEQ_OVRFLAG_LATE F.SEQ_LATECNT _ (72 + n)) k

theorem isact_counted : F.SEQ_STAT_ISACT.addr ∉ F.SEQ_OVRFLAG_LATE.addr :: F.SEQ_LATECNT.addr :: countRegs := by
  decide +kernel

/-- Which sequences hold cores, and which may start, time leaves as it is. -/
theorem State.coresFree_seqsUpTo (s : State) (x : Int) (n j : Nat) :
    (s.seqsUpTo x).coresFree n j = s.coresFree n j := by
  have place : ∀ m, ((s.seqsUpTo x).iseq m).edge = (s.iseq m).edge ∧
      ((s.seqsUpTo x).iseq m).lastEdge = (s.iseq m).lastEdge ∧
      (((s.seqsUpTo x).iseq m).st == 1) = ((s.iseq m).st == 1) := fun m => by
    obtain ⟨edge, last, -, waits⟩ := InjSeq.of_place (s.seqsUpTo_place x m)
    exact ⟨edge, last, waits⟩
  unfold State.coresFree State.claims State.heldCores
  simp only [(s.seqsUpTo_seqOnly x).seqCores, place]

theorem exec_injectedSequenceStart (waits : (s.iseq n).st = 1) (due : (s.iseq n).edge ≤ (j.toNat : Int))
    (free : s.coresFree n j.toNat = true) : exec (.injectedSequenceStart n j) s =
      .next (((s.seqsUpTo (50 * (j.toNat : Int))).seqStart n j.toNat (decide ((s.iseq n).edge < (j.toNat : Int)))).cond
        (decide ((s.iseq n).edge < (j.toNat : Int))) (·.seqLate n)) := by
  have run : exec (.injectedSequenceStart n j) s = execInjectedSequenceStart n j s := rfl
  have still := (State.seqsUpTo_keeps n.isLt (InjSeq.over_busy (x := 50 * (j.toNat : Int)) (.inl waits))).seq
  rw [run, execInjectedSequenceStart]
  dsimp only
  rw [still, State.coresFree_seqsUpTo, if_pos ⟨waits, due, free⟩]
  rfl

theorem exec_injectedSequenceStart_shown (hs : s.wf = true) (len : s.adc.seqs.length = 8) (waits : (s.iseq n).st = 1)
    (due : (s.iseq n).edge ≤ (j.toNat : Int)) (free : s.coresFree n j.toNat = true) :
    ∃ t, exec (.injectedSequenceStart n j) s = .next t ∧ (t.iseq n).st = (if s.seqSpan n = 0 then 0 else 2) ∧
      (t.iseq n).occ = (s.iseq n).occ + 1 ∧ (t.iseq n).lastEdge = 2 * (j.toNat : Int) + s.seqSpan n ∧
      bit (t.f F.SEQ_STAT_ISACT) n = (decide (s.seqSpan n ≠ 0) && bit (s.f F.SEQ_STAT_ISACT) n) ∧
      ((s.iseq n).edge = (j.toNat : Int) → sameRegs s t [F.SEQ_STAT_ISACT.addr]) ∧
      ((s.iseq n).edge < (j.toNat : Int) → bit (t.f F.SEQ_OVRFLAG_LATE) n = true ∧
        t.f F.SEQ_LATECNT = min (s.f F.SEQ_LATECNT + 1) (2 ^ 32 - 1) ∧
        sameRegs s t (F.SEQ_STAT_ISACT.addr :: F.SEQ_OVRFLAG_LATE.addr :: F.SEQ_LATECNT.addr :: countRegs)) ∧
      sameMem s t := by
  have run := exec_injectedSequenceStart waits due free
  have moved := s.seqsUpTo_seqOnly (50 * (j.toNat : Int))
  have kept := State.seqsUpTo_keeps n.isLt (InjSeq.over_busy (x := 50 * (j.toNat : Int)) (.inl waits))
  generalize s.seqsUpTo (50 * (j.toNat : Int)) = u at run moved kept
  generalize hl : decide ((s.iseq n).edge < (j.toNat : Int)) = late at run
  have wf := (moved.stat (State.wf_regs hs)).1
  have seq := State.iseq_seqStart (s := u) (n := n) (by rw [moved.size, len]; exact n.isLt) j.toNat late
  have shown := State.bit_seqStart (n := n) wf n.isLt j.toNat late
  rw [moved.seqSpan, kept.seq] at seq
  rw [moved.seqSpan, (kept.shown (State.wf_regs hs)).2] at shown
  have started := moved.trans (u.seqStart_seqOnly n j.toNat late)
  generalize u.seqStart n j.toNat late = v at run seq shown started
  have wf := (started.stat (State.wf_regs hs)).1
  cases late with
  | false =>
    rw [State.cond_false] at run
    exact ⟨v, run, by rw [seq]; rfl, by rw [seq]; rfl, by rw [seq]; rfl, shown, fun _ => started.within.regs,
      fun before => absurd before (of_decide_eq_false hl), started.within.sameMem⟩
  | true =>
    rw [State.cond_true] at run
    have after := v.iseq_seqLate n n
    obtain ⟨flag, count, noted⟩ := State.seqLate_shown wf n.isLt
    rw [started.f (by decide)] at count
    rw [← noted.f isact_counted] at shown
    have same := (started.within.mono fun _ => mem_cons_of_mem_single).trans
      (noted.mono fun _ => List.mem_cons_of_mem F.SEQ_STAT_ISACT.addr)
    exact ⟨v.seqLate n, run, by rw [after, seq]; rfl, by rw [after, seq]; rfl, by rw [after, seq]; rfl, shown,
      fun e => absurd e (of_decide_eq_true hl).ne, fun _ => ⟨flag, count, same.regs⟩, same.sameMem⟩

end Start

/-- Settles O28: time ends the runs whose last sample is past; a due trigger then finds its sequence free or is an
overrun, and a start keeps what time left of its sequence. -/
theorem injectedSequencesAreTriggeredAndStart : Obligations.InjectedSequencesAreTriggeredAndStart :=
  ⟨fun _ _ _ _ hs len taken come =>
      ⟨fun free => exec_injectedTriggerDue_pending hs len taken come free,
        fun busy => exec_injectedTriggerDue_overrun hs len taken come busy⟩,
    fun _ _ _ come => exec_injectedTriggerDue_idle come,
    fun _ _ _ _ hs len ha src =>
      ⟨fun delay taken idle => exec_injectedSoftwareTrigger_now hs len ha src delay taken idle,
        fun delay => exec_injectedSoftwareTrigger_later len ha src delay⟩,
    fun _ _ _ _ ha others => exec_injectedSoftwareTrigger_none ha others,
    fun _ _ _ hs len waits due free => exec_injectedSequenceStart_shown hs len waits due free⟩

end Sys2Proof.Machine

namespace Sys2Proof.Machine

/-! ### Regular triggers (R146 to R148, R156) -/

section Regular

variable {s t : State} {e : Option Nat}

/-- A regular pass is pending, to start at ADC edge `e` where that is known. -/
def State.regPending (s : State) (e : Option Nat) : State :=
  { s.setF F.SEQ_STAT_REGRUN 1 with adc := { s.adc with regDue := true, regEdge := e.map (fun x => (x : Int)) } }

/-- A regular trigger is an overrun. -/
def State.regOverrun (s : State) : State := s.noted F.SEQ_OVRFLAG_ROVR F.SEQ_ROVRCNT 1 80

theorem State.regDue_ready (h : s.regularReady = true) (e : Option Nat) :
    s.regDue e = if s.on F.SEQ_STAT_REGRUN then s.regOverrun else s.regPending e := by
  have ready : ¬ (!s.boot.ticked || !s.on F.SEQ_CTL_EN || s.passCores.isEmpty ||
      s.passCores.any fun k => !s.coreUp k) = true := by
    rw [Bool.not_eq_true, ← Bool.not_eq_true', Bool.not_or, Bool.not_or, Bool.not_or, Bool.not_not, Bool.not_not,
      ← List.all_eq_not_any_not]
    exact h
  exact if_neg ready

theorem State.regDue_pending (h : s.regularReady = true) (idle : s.on F.SEQ_STAT_REGRUN = false) (e : Option Nat) :
    s.regDue e = s.regPending e := by
  rw [State.regDue_ready h, idle]
  rfl

theorem State.regDue_overrun (h : s.regularReady = true) (runs : s.on F.SEQ_STAT_REGRUN = true) (e : Option Nat) :
    s.regDue e = s.regOverrun := by
  rw [State.regDue_ready h, runs]
  rfl

theorem State.regPending_shown (h : regsWf s.regs = true) (e : Option Nat) :
    (s.regPending e).on F.SEQ_STAT_REGRUN = true ∧ (s.regPending e).adc.regDue = true ∧
      (s.regPending e).adc.regEdge = e.map (fun x => (x : Int)) ∧
      sameRegs s (s.regPending e) [F.SEQ_STAT_REGRUN.addr] ∧ sameMem s (s.regPending e) := by
  have same : Within [F.SEQ_STAT_REGRUN.addr] s (s.regPending e) :=
    ((Within.refl s).thenSetF List.mem_cons_self 1).thenHidden rfl rfl
  exact ⟨State.on_setF_same h rfl rfl 1, rfl, rfl, same.regs, same.sameMem⟩

theorem State.regOverrun_shown (h : regsWf s.regs = true) :
    s.regOverrun.on F.SEQ_OVRFLAG_ROVR = true ∧
      s.regOverrun.f F.SEQ_ROVRCNT = min (s.f F.SEQ_ROVRCNT + 1) (2 ^ 32 - 1) ∧
      sameRegs s s.regOverrun (F.SEQ_OVRFLAG_ROVR.addr :: F.SEQ_ROVRCNT.addr :: countRegs) ∧
      sameMem s s.regOverrun := by
  have same := s.noted_within F.SEQ_OVRFLAG_ROVR F.SEQ_ROVRCNT 1 80
  have flag : s.regOverrun.f F.SEQ_OVRFLAG_ROVR = (s.setF F.SEQ_OVRFLAG_ROVR 1).f F.SEQ_OVRFLAG_ROVR :=
    State.noted_flag (x := F.SEQ_OVRFLAG_ROVR) (c := F.SEQ_ROVRCNT) rfl (by decide) s 1 80
  refine ⟨?_, State.noted_count (x := F.SEQ_OVRFLAG_ROVR) (c := F.SEQ_ROVRCNT) h rfl (by decide) 1 80, same.regs,
    same.sameMem⟩
  rw [State.on, flag, State.f_setF_same h rfl]
  rfl

/-! #### The triggers of the three modes -/

theorem exec_regularTriggerDue_continuous (mode : s.f F.SEQ_REGCFG_MODE = 1)
    (taken : s.on F.SEQ_STAT_REGRUN = false ∨ s.adc.enDue = true) :
    exec .regularTriggerDue s = .next (s.enTaken.regDue none) := by
  have run : exec .regularTriggerDue s = execRegularTriggerDue s := rfl
  have due : ¬ (s.on F.SEQ_STAT_REGRUN && !s.adc.enDue) = true := by
    rcases taken with h | h <;> simp [h]
  rw [run, execRegularTriggerDue, mode]
  exact congrArg _ (if_neg due)

theorem exec_regularTriggerDue_running (mode : s.f F.SEQ_REGCFG_MODE = 1) (runs : s.on F.SEQ_STAT_REGRUN = true)
    (later : s.adc.enDue = false) : exec .regularTriggerDue s = .next s := by
  have run : exec .regularTriggerDue s = execRegularTriggerDue s := rfl
  have waits : (s.on F.SEQ_STAT_REGRUN && !s.adc.enDue) = true := by rw [runs, later]; rfl
  rw [run, execRegularTriggerDue, mode]
  exact congrArg _ (if_pos waits)

theorem exec_regularTriggerDue_tick (mode : s.f F.SEQ_REGCFG_MODE = 2)
    (due : s.frame % max (s.f F.SEQ_REGCFG_DIV) 1 = 0) :
    exec .regularTriggerDue s = .next (s.regDue (some (firstEdge (s.f F.SEQ_REGCFG_OFFSET)))) := by
  have run : exec .regularTriggerDue s = execRegularTriggerDue s := rfl
  rw [run, execRegularTriggerDue, mode]
  exact congrArg _ (if_pos due)

theorem State.regWrite_regStart (s : State) (w : Nat) :
    s.regWrite F.SEQ_REGSTART_GO.addr w = (s.regStartWrite w, true) := rfl

theorem exec_regularStartGo {m : Master} {w : Word} (mode : s.f F.SEQ_REGCFG_MODE = 3)
    (ha : s.admits m F.SEQ_REGSTART_GO.addr = true) (go : bit w.toNat 0 = true) :
    exec (.regularStartGo m w) s = .next (s.regDue none) := by
  have run : exec (.regularStartGo m w) s = execRegularStartGo m w s := rfl
  have due : (bit w.toNat 0 && s.f F.SEQ_REGCFG_MODE == 3) = true := by rw [go, mode]; rfl
  rw [run, execRegularStartGo, State.masterOp_admitted ha (by decide) (by decide), State.regWrite_regStart,
    State.regStartWrite, if_pos due]
  rfl

end Regular

/-! ### A regular pass (R106, R144, R145, R147) -/

section Pass

variable {s : State} {j : BitVec 16}

theorem State.passConvs_inputs (s : State) (j k : Nat) : (s.passConvs j k).map (·.input) = s.passInputs k := by
  unfold State.passConvs
  dsimp only
  rw [List.map_map]
  exact List.zipIdx_map_fst 0 _

/-- What a core's queue holds once each core of a list has got its conversions. -/
theorem getD_pushed (c : Nat → List Conv) {k : Nat} {l : List Nat} (once : l.Nodup) {q : List (List Conv)}
    (hk : k < q.length) : (l.foldl (fun q k => pushConvs q k (c k)) q).getD k [] =
      if k ∈ l then q.getD k [] ++ c k else q.getD k [] := by
  induction l generalizing q with
  | nil => rfl
  | cons i l ih =>
    obtain ⟨fresh, once⟩ := List.nodup_cons.mp once
    rw [List.foldl_cons, ih once (by rw [pushConvs, length_updAt]; exact hk)]
    by_cases e : k = i
    · subst e
      rw [if_neg fresh, if_pos List.mem_cons_self, pushConvs, getD_updAt_lt hk]
    · rw [pushConvs, getD_updAt_ne q e]
      simp only [List.mem_cons, e, false_or]

/-- A pass has started, with the conversions `reg` to come. -/
def State.passStarted (s : State) (reg : List (List Conv)) : State :=
  { s with adc := { s.adc with regDue := false, regEdge := none, passOn := true, reg := reg } }

/-- The queues of a pass that starts at ADC edge `j`. -/
def State.passQueues (s : State) (j : Nat) : List (List Conv) :=
  s.passCores.foldl (fun l k => pushConvs l k (s.passConvs j k)) s.adc.reg

theorem State.passQueues_inputs (empty : s.adc.reg = List.replicate 8 []) (j : Nat) {k : Nat} (hk : k < 8) :
    ((s.passQueues j).getD k []).map (·.input) = s.passInputs k := by
  have once : s.passCores.Nodup := List.nodup_range.filter _
  have none : s.adc.reg.getD k [] = [] := by rw [empty, List.getD_replicate _ hk]
  rw [State.passQueues, getD_pushed (s.passConvs j) once (by rw [empty, List.length_replicate]; exact hk), none,
    List.nil_append]
  split
  · exact s.passConvs_inputs j k
  · rename_i out
    have idle : s.passInputs k = [] := by
      by_contra some
      exact out (List.mem_filter.mpr ⟨List.mem_range.mpr hk, by simpa using some⟩)
    rw [idle]
    rfl

theorem exec_regularPassStart (due : s.adc.regDue = true)
    (edge : s.adc.regEdge = none ∨ s.adc.regEdge = some (j.toNat : Int)) : exec (.regularPassStart j) s =
      .next ((s.seqsUpTo (50 * (j.toNat : Int))).passStarted
        ((s.seqsUpTo (50 * (j.toNat : Int))).passQueues j.toNat)) := by
  have run : exec (.regularPassStart j) s = execRegularPassStart s j := rfl
  have rest := (s.seqsUpTo_seqOnly (50 * (j.toNat : Int))).rest
  rw [run, execRegularPassStart]
  dsimp only
  generalize s.seqsUpTo (50 * (j.toNat : Int)) = u at rest
  have due' : u.adc.regDue = s.adc.regDue := sameIn.field rest fun v => v.adc.regDue
  have edge' : u.adc.regEdge = s.adc.regEdge := sameIn.field rest fun v => v.adc.regEdge
  have now : (u.adc.regDue && (u.adc.regEdge.isNone || u.adc.regEdge == some (j.toNat : Int))) = true := by
    rw [due', edge', due]
    rcases edge with h | h <;> simp [h]
  exact congrArg _ (if_pos now)

theorem exec_regularPassStart_shown (hs : s.wf = true) (due : s.adc.regDue = true)
    (empty : s.adc.reg = List.replicate 8 [])
    (edge : s.adc.regEdge = none ∨ s.adc.regEdge = some (j.toNat : Int)) :
    ∃ t, exec (.regularPassStart j) s = .next t ∧ t.adc.passOn = true ∧ t.adc.regDue = false ∧
      t.adc.regEdge = none ∧ (∀ k, k < 8 → (t.adc.reg.getD k []).map (·.input) = s.passInputs k) ∧
      t.on F.SEQ_STAT_REGRUN = s.on F.SEQ_STAT_REGRUN ∧ sameRegs s t [F.SEQ_STAT_ISACT.addr] ∧ sameMem s t := by
  have run := exec_regularPassStart due edge
  have moved := s.seqsUpTo_seqOnly (50 * (j.toNat : Int))
  have queues := s.seqsUpTo_queues (50 * (j.toNat : Int))
  generalize s.seqsUpTo (50 * (j.toNat : Int)) = u at run moved queues
  have empty : u.adc.reg = List.replicate 8 [] := (sameIn.field queues Prod.snd).trans empty
  have same : Within [F.SEQ_STAT_ISACT.addr] s (u.passStarted (u.passQueues j.toNat)) :=
    moved.within.thenHidden rfl rfl
  exact ⟨_, run, rfl, rfl, rfl,
    fun k hk => (State.passQueues_inputs empty j.toNat hk).trans (moved.passInputs k),
    (moved.stat (State.wf_regs hs)).2, same.regs, same.sameMem⟩

theorem exec_regularPassEnd_shown (hs : s.wf = true) (runs : s.adc.passOn = true) :
    ∃ t, exec .regularPassEnd s = .next t ∧ t.adc.passOn = false ∧ t.on F.SEQ_STAT_REGRUN = false ∧
      sameRegs s t [F.SEQ_STAT_REGRUN.addr] ∧ sameMem s t := by
  have run : exec .regularPassEnd s = execRegularPassEnd s := rfl
  rw [run, execRegularPassEnd, if_pos runs]
  exact ⟨_, rfl, rfl, State.on_setF_same (State.wf_regs hs) rfl rfl 0, sameRegs.setF s 0 List.mem_cons_self,
    sameMem.ofMem rfl⟩

end Pass

/-- Settles O27: a trigger that the sequencer takes is pending or an overrun, as REGRUN tells; a pass gives each core
its own inputs once. -/
theorem regularPassIsTriggeredAndRuns : Obligations.RegularPassIsTriggeredAndRuns := by
  refine ⟨fun s hs ready idle => ⟨fun mode => ?_, fun mode due => ?_, fun m w mode ha go => ?_⟩,
    fun s hs ready runs => ⟨fun mode later => exec_regularTriggerDue_running mode runs later, fun mode first => ?_,
      fun mode due => ?_, fun m w mode ha go => ?_⟩,
    fun s j hs due empty edge => exec_regularPassStart_shown hs due empty edge,
    fun s hs on => exec_regularPassEnd_shown hs on⟩
  · rw [exec_regularTriggerDue_continuous mode (.inl idle), State.regDue_pending (s := s.enTaken) ready idle]
    exact ⟨_, rfl, State.regPending_shown (s := s.enTaken) (State.wf_regs hs) none⟩
  · rw [exec_regularTriggerDue_tick mode due, State.regDue_pending ready idle]
    exact ⟨_, rfl, State.regPending_shown (State.wf_regs hs) _⟩
  · rw [exec_regularStartGo mode ha go, State.regDue_pending ready idle]
    exact ⟨_, rfl, State.regPending_shown (State.wf_regs hs) none⟩
  · obtain ⟨flag, count, regs, mem⟩ := State.regOverrun_shown (s := s.enTaken) (State.wf_regs hs)
    have past : s.enTaken.regOverrun.adc.enDue = false := congrArg Conv9.enDue (State.noted_adc ..)
    rw [exec_regularTriggerDue_continuous mode (.inr first), State.regDue_overrun (s := s.enTaken) ready runs]
    exact ⟨_, rfl, flag, past, count, regs, mem⟩
  · rw [exec_regularTriggerDue_tick mode due, State.regDue_overrun ready runs]
    exact ⟨_, rfl, State.regOverrun_shown (State.wf_regs hs)⟩
  · rw [exec_regularStartGo mode ha go, State.regDue_overrun ready runs]
    exact ⟨_, rfl, State.regOverrun_shown (State.wf_regs hs)⟩

end Sys2Proof.Machine

namespace Sys2Proof.Machine

/-! PROOFS. The PWM array and the engine's arithmetic: no command turns both switches of a phase on, dead time, writes
of masters to a drive group, carrier events, and the ranges of the engine's values. -/

/-! ### What leaves the switches of every phase (R175)

Of each function of the model that commands no switch: `neverBoth` reads of its state as of the one before. The option
`-implicitDefEqProofs` makes simp write its rewriting steps into the proof; left to definitional unfolding, the kernel
compares whole states and runs out of stack. -/

section

variable {α β : Type}

/-- Not both switches of the phase are on. -/
def Phase.apart (p : Phase) : Bool := !(p.hi && p.lo)

/-- No phase of the group has both of its switches on. -/
def Group.apart (q : Group) : Bool := q.ph.all Phase.apart

/-- No phase of the array has both of its switches on. -/
def Pwm.apart (x : Pwm) : Bool := x.groups.all Group.apart

@[simp] theorem Pwm.apart_state (s : State) : s.pwm.apart = s.neverBoth := rfl

@[simp] theorem Pwm.reset_apart : Pwm.reset.apart = true := by decide

theorem State.neverBoth_of_pwm {s t : State} (h : t.pwm = s.pwm) : t.neverBoth = s.neverBoth := congrArg Pwm.apart h

@[simp] theorem neverBoth_mk {a b c d e f g h i j k l m n o p q r u v w x y z} :
    (State.mk a b c d e f g h i j k l m n o p q r u v w x y z).neverBoth = k.apart := rfl

@[simp] theorem neverBoth_ite {c : Prop} [Decidable c] (s t : State) :
    (if c then s else t).neverBoth = if c then s.neverBoth else t.neverBoth := apply_ite State.neverBoth c s t

@[simp] theorem fst_ite {c : Prop} [Decidable c] (s t : State × α) :
    (if c then s else t).1 = if c then s.1 else t.1 := apply_ite Prod.fst c s t

@[simp] theorem snd_ite {c : Prop} [Decidable c] (s t : α × State) :
    (if c then s else t).2 = if c then s.2 else t.2 := apply_ite Prod.snd c s t

@[simp] theorem State.wr_neverBoth (s : State) (a v) :
    (s.wr a v).neverBoth = s.neverBoth := State.neverBoth_of_pwm (s.wr_pwm a v)
@[simp] theorem State.setF_neverBoth (s : State) (x v) :
    (s.setF x v).neverBoth = s.neverBoth := State.neverBoth_of_pwm (s.setF_pwm x v)
@[simp] theorem State.setB_neverBoth (s : State) (x v) :
    (s.setB x v).neverBoth = s.neverBoth := State.neverBoth_of_pwm (s.setB_pwm x v)
@[simp] theorem State.setI_neverBoth (s : State) (x v) :
    (s.setI x v).neverBoth = s.neverBoth := State.neverBoth_of_pwm (s.setI_pwm x v)
@[simp] theorem State.setBit_neverBoth (s : State) (x v) :
    (s.setBit x v).neverBoth = s.neverBoth := State.neverBoth_of_pwm (s.setBit_pwm x v)
@[simp] theorem State.clrBit_neverBoth (s : State) (x v) :
    (s.clrBit x v).neverBoth = s.neverBoth := State.neverBoth_of_pwm (s.clrBit_pwm x v)
@[simp] theorem State.add_neverBoth (s : State) (x v) :
    (s.add x v).neverBoth = s.neverBoth := State.neverBoth_of_pwm (s.add_pwm x v)
@[simp] theorem State.inc_neverBoth (s : State) (x) :
    (s.inc x).neverBoth = s.neverBoth := State.neverBoth_of_pwm (s.inc_pwm x)
@[simp] theorem State.setM_neverBoth (s : State) (a v) :
    (s.setM a v).neverBoth = s.neverBoth := State.neverBoth_of_pwm (s.setM_pwm a v)
@[simp] theorem State.setMI_neverBoth (s : State) (a v) :
    (s.setMI a v).neverBoth = s.neverBoth := State.neverBoth_of_pwm (s.setMI_pwm a v)
@[simp] theorem State.setMB_neverBoth (s : State) (a v) :
    (s.setMB a v).neverBoth = s.neverBoth := State.neverBoth_of_pwm (s.setMB_pwm a v)
@[simp] theorem State.setFol_neverBoth (s : State) (f) :
    (s.setFol f).neverBoth = s.neverBoth := State.neverBoth_of_pwm (s.setFol_pwm f)
@[simp] theorem State.setPair_neverBoth (s : State) (f) :
    (s.setPair f).neverBoth = s.neverBoth := State.neverBoth_of_pwm (s.setPair_pwm f)
@[simp] theorem State.setPnl_neverBoth (s : State) (f) :
    (s.setPnl f).neverBoth = s.neverBoth := State.neverBoth_of_pwm (s.setPnl_pwm f)
@[simp] theorem State.setThm_neverBoth (s : State) (f) :
    (s.setThm f).neverBoth = s.neverBoth := State.neverBoth_of_pwm (s.setThm_pwm f)
@[simp] theorem State.setFox_neverBoth (s : State) (f) :
    (s.setFox f).neverBoth = s.neverBoth := State.neverBoth_of_pwm (s.setFox_pwm f)
@[simp] theorem State.setCc_neverBoth (s : State) (c f) :
    (s.setCc c f).neverBoth = s.neverBoth := State.neverBoth_of_pwm (s.setCc_pwm c f)
@[simp] theorem State.setZb_neverBoth (s : State) (c f) :
    (s.setZb c f).neverBoth = s.neverBoth := State.neverBoth_of_pwm (s.setZb_pwm c f)
@[simp] theorem State.setLane_neverBoth (s : State) (c f) :
    (s.setLane c f).neverBoth = s.neverBoth := State.neverBoth_of_pwm (s.setLane_pwm c f)
@[simp] theorem State.setDrv_neverBoth (s : State) (c f) :
    (s.setDrv c f).neverBoth = s.neverBoth := State.neverBoth_of_pwm (s.setDrv_pwm c f)
@[simp] theorem State.setCap_neverBoth (s : State) (f) :
    (s.setCap f).neverBoth = s.neverBoth := State.neverBoth_of_pwm (s.setCap_pwm f)
@[simp] theorem State.setSeq_neverBoth (s : State) (c f) :
    (s.setSeq c f).neverBoth = s.neverBoth := State.neverBoth_of_pwm (s.setSeq_pwm c f)
@[simp] theorem State.free_neverBoth (s : State) : s.free.2.neverBoth = s.neverBoth := State.neverBoth_of_pwm s.free_pwm

@[simp] theorem State.each_neverBoth {f : State → α → State} (h : ∀ t x, (f t x).neverBoth = t.neverBoth) (l : List α)
    (s : State) : (s.each l f).neverBoth = s.neverBoth := by
  induction l generalizing s with
  | nil => rfl
  | cons x r ih => exact (ih (f s x)).trans (h s x)

@[simp] theorem foldl_neverBoth {f : State → α → State} (h : ∀ t x, (f t x).neverBoth = t.neverBoth) (l : List α)
    (s : State) : (l.foldl f s).neverBoth = s.neverBoth := State.each_neverBoth h l s

@[simp] theorem foldr_neverBoth {f : α → State → State} (h : ∀ t x, (f x t).neverBoth = t.neverBoth) (l : List α)
    (s : State) : (l.foldr f s).neverBoth = s.neverBoth := by
  induction l with
  | nil => rfl
  | cons x r ih => exact (h _ x).trans ih

@[simp] theorem State.cond_neverBoth {s : State} {f : State → State} (h : (f s).neverBoth = s.neverBoth) (b : Bool) :
    (s.cond b f).neverBoth = s.neverBoth := by
  cases b
  · rfl
  · exact h

@[simp] theorem elim_neverBoth {s : State} {f : α → State} (h : ∀ x, (f x).neverBoth = s.neverBoth) (o : Option α) :
    (o.elim s f).neverBoth = s.neverBoth := by
  cases o
  · rfl
  · exact h _

@[simp] theorem State.inCycle_neverBoth {f : State → State} (h : ∀ t, (f t).neverBoth = t.neverBoth) (s : State) :
    (s.inCycle f).neverBoth = s.neverBoth := by
  unfold State.inCycle
  exact (State.each_neverBoth (fun t _ => t.inc_neverBoth _) _ _).trans (h _)

theorem all_updAt {β : Type} {p : β → Bool} {l : List β} {n : Nat} {f : β → β} (h : l.all p = true)
    (hf : ∀ x, p x = true → p (f x) = true) : (updAt l n f).all p = true := by
  unfold updAt
  split
  next x hx =>
    rw [List.all_eq_true] at h ⊢
    intro y hy
    rcases List.mem_or_eq_of_mem_set hy with hy | rfl
    · exact h y hy
    · exact hf x (h x (List.mem_of_getElem? hx))
  next => exact h

theorem map_updAt {β γ : Type} {p : β → γ} {l : List β} {n : Nat} {f : β → β} (hf : ∀ x, p (f x) = p x) :
    (updAt l n f).map p = l.map p := by
  unfold updAt
  split
  next x hx =>
    rw [List.map_set, hf]
    exact List.ext_getElem? fun i => by
      rw [List.getElem?_set]
      split
      · subst_vars
        simp only [List.getElem?_map, hx]
        grind
      · rfl
  next => rfl

/-- A change of a group that leaves its switches. -/
@[simp] theorem State.setGrp_neverBoth {f : Group → Group} (hf : ∀ q, (f q).apart = q.apart) (s : State) (g : Nat) :
    (s.setGrp g f).neverBoth = s.neverBoth := by
  have e := congrArg (List.all · id) (map_updAt (l := s.pwm.groups) (n := g) hf)
  simp only [List.all_map, Function.comp_def] at e
  exact e

@[simp] theorem State.setGpc_neverBoth (s : State) (c f) : (s.setGpc c f).neverBoth = s.neverBoth := rfl

@[simp] theorem Group.apart_mk {a b c d e f g h i j} : (Group.mk a b c d e f g h i j).apart = j.all Phase.apart := rfl

@[simp] theorem Group.all_ph (q : Group) : q.ph.all Phase.apart = q.apart := rfl
@[simp] theorem Phase.shift_apart (p : Phase) (n) : (p.shift n).apart = p.apart := rfl
@[simp] theorem Phase.apart_same {a b c d e f g h i} (p : Phase) :
    (Phase.mk a b c d p.hi p.lo e f g h i).apart = p.apart := rfl
@[simp] theorem Phase.apart_shift (n : Int) : (Phase.apart ∘ fun p => p.shift n) = Phase.apart := rfl
end

/-! #### The state, registers and operands -/

@[simp] theorem State.orF_neverBoth (s : State) (x m) : (s.orF x m).neverBoth = s.neverBoth := by
  simp -implicitDefEqProofs [State.orF]
@[simp] theorem State.setBytes_neverBoth (s : State) (a l) : (s.setBytes a l).neverBoth = s.neverBoth := by
  simp -implicitDefEqProofs [State.setBytes]
@[simp] theorem State.poke_neverBoth (s : State) (a v) : (s.poke a v).neverBoth = s.neverBoth := by
  simp -implicitDefEqProofs [State.poke]
@[simp] theorem State.ledgerAdd_neverBoth (s : State) (n k) : (s.ledgerAdd n k).neverBoth = s.neverBoth := by
  simp -implicitDefEqProofs [State.ledgerAdd]
@[simp] theorem State.ledgerN_neverBoth (s : State) (src n) : (s.ledgerN src n).neverBoth = s.neverBoth := by
  simp -implicitDefEqProofs [State.ledgerN]
@[simp] theorem State.ledger_neverBoth (s : State) (src) : (s.ledger src).neverBoth = s.neverBoth := by
  simp -implicitDefEqProofs [State.ledger]
@[simp] theorem State.count_neverBoth (s : State) (x src) : (s.count x src).neverBoth = s.neverBoth := by
  simp -implicitDefEqProofs [State.count]
@[simp] theorem State.log_neverBoth (s : State) (subsys code arg detail cont crit) :
    (s.log subsys code arg detail cont crit).neverBoth = s.neverBoth := by
  simp -implicitDefEqProofs [State.log]
@[simp] theorem State.reject_neverBoth (s : State) (who a) : (s.reject who a).neverBoth = s.neverBoth := by
  simp -implicitDefEqProofs [State.reject]
@[simp] theorem State.counterClr_neverBoth (s : State) (a w) : (s.counterClr a w).neverBoth = s.neverBoth := by
  simp -implicitDefEqProofs [State.counterClr]
@[simp] theorem State.failSource_neverBoth (s : State) (k) : (s.failSource k).neverBoth = s.neverBoth := by
  simp -implicitDefEqProofs [State.failSource]
@[simp] theorem State.ptUpdate_neverBoth (s : State) (p v broken) :
    (s.ptUpdate p v broken).neverBoth = s.neverBoth := by
  simp -implicitDefEqProofs [State.ptUpdate]
@[simp] theorem State.catAsOf_neverBoth (s : State) (t) : (s.catAsOf t).neverBoth = s.neverBoth := by
  simp -implicitDefEqProofs [State.catAsOf]
@[simp] theorem State.catWritten_neverBoth (s t : State) (p c) : (s.catWritten t p c).neverBoth = t.neverBoth := by
  simp -implicitDefEqProofs [State.catWritten]
@[simp] theorem State.catBefore_neverBoth (s : State) (p c) : (s.catBefore p c).neverBoth = s.neverBoth := by
  unfold State.catBefore
  split <;> simp -implicitDefEqProofs
@[simp] theorem State.catTouched_neverBoth (s : State) (p) : (s.catTouched p).neverBoth = s.neverBoth := by
  simp -implicitDefEqProofs [State.catTouched]
@[simp] theorem State.setDr_neverBoth (s : State) (d o v) : (s.setDr d o v).neverBoth = s.neverBoth := by
  simp -implicitDefEqProofs [State.setDr]
@[simp] theorem State.setDrI_neverBoth (s : State) (d o v) : (s.setDrI d o v).neverBoth = s.neverBoth := by
  simp -implicitDefEqProofs [State.setDrI]
@[simp] theorem State.writeCompare_neverBoth (s : State) (g x v) : (s.writeCompare g x v).neverBoth = s.neverBoth := by
  simp -implicitDefEqProofs [State.writeCompare]
@[simp] theorem State.writeChain_neverBoth (s : State) (d k v) : (s.writeChain d k v).neverBoth = s.neverBoth := by
  unfold State.writeChain
  split <;> simp -implicitDefEqProofs
@[simp] theorem State.writeDest_neverBoth (s : State) (i out) : (s.writeDest i out).1.neverBoth = s.neverBoth := by
  simp -implicitDefEqProofs only [State.writeDest]
  split <;> simp -implicitDefEqProofs

/-! #### Perennial links -/

@[simp] theorem State.setLkStat_neverBoth (s : State) (l lo w v) : (s.setLkStat l lo w v).neverBoth = s.neverBoth := by
  simp -implicitDefEqProofs [State.setLkStat]
@[simp] theorem State.setLkIdx_neverBoth (s : State) (l lo w v) : (s.setLkIdx l lo w v).neverBoth = s.neverBoth := by
  simp -implicitDefEqProofs [State.setLkIdx]
@[simp] theorem State.resetLink_neverBoth (s : State) (l noidx) : (s.resetLink l noidx).neverBoth = s.neverBoth := by
  simp -implicitDefEqProofs [State.resetLink]
@[simp] theorem State.startClear_neverBoth (s : State) (l) : (s.startClear l).neverBoth = s.neverBoth := by
  simp -implicitDefEqProofs [State.startClear]
@[simp] theorem State.endClear_neverBoth (s : State) : (s.endClear).neverBoth = s.neverBoth := by
  unfold State.endClear
  split
  · rfl
  · dsimp only
    split <;> simp -implicitDefEqProofs
@[simp] theorem State.setCalEntry_neverBoth (s : State) (l dt k v) :
    (s.setCalEntry l dt k v).neverBoth = s.neverBoth := by
  simp -implicitDefEqProofs [State.setCalEntry]
@[simp] theorem State.noIndex_neverBoth (s : State) (l) : (s.noIndex l).neverBoth = s.neverBoth := by
  simp -implicitDefEqProofs [State.noIndex]
@[simp] theorem State.angleIndex_neverBoth (s : State) (l a ok late) :
    (s.angleIndex l a ok late).1.neverBoth = s.neverBoth := by
  simp -implicitDefEqProofs [State.angleIndex]
@[simp] theorem State.calIndex_neverBoth (s : State) (l rtcSet m dt) :
    (s.calIndex l rtcSet m dt).1.neverBoth = s.neverBoth := by
  simp -implicitDefEqProofs [State.calIndex]
@[simp] theorem State.countEntry_neverBoth (s : State) (l hit) : (s.countEntry l hit).neverBoth = s.neverBoth := by
  simp -implicitDefEqProofs [State.countEntry]
@[simp] theorem State.pushError_neverBoth (s : State) (l ep idx) : (s.pushError l ep idx).neverBoth = s.neverBoth := by
  simp -implicitDefEqProofs [State.pushError]
@[simp] theorem State.learnAngle_neverBoth (s : State) (l idx ep frozen) :
    (s.learnAngle l idx ep frozen).neverBoth = s.neverBoth := by
  simp -implicitDefEqProofs [State.learnAngle]
@[simp] theorem State.learnMinute_neverBoth (s : State) (l) : (s.learnMinute l).neverBoth = s.neverBoth := by
  simp -implicitDefEqProofs [State.learnMinute]
@[simp] theorem State.learnCal_neverBoth (s : State) (l m dt ep frozen) :
    (s.learnCal l m dt ep frozen).neverBoth = s.neverBoth := by
  simp -implicitDefEqProofs [State.learnCal]
@[simp] theorem State.prnClrWrite_neverBoth (s : State) (w) : (s.prnClrWrite w).1.neverBoth = s.neverBoth := by
  simp -implicitDefEqProofs [State.prnClrWrite]

/-! #### Loop runs -/

@[simp] theorem State.setGenState_neverBoth (s : State) (n v) : (s.setGenState n v).neverBoth = s.neverBoth := by
  simp -implicitDefEqProofs [State.setGenState]
@[simp] theorem State.endGen_neverBoth (s : State) (n abort) : (s.endGen n abort).neverBoth = s.neverBoth := by
  simp -implicitDefEqProofs [State.endGen]
@[simp] theorem State.runGen_neverBoth (s : State) (n) : (s.runGen n).2.neverBoth = s.neverBoth := by
  simp -implicitDefEqProofs [State.runGen]
@[simp] theorem State.takeGen_neverBoth (s : State) (n) : (s.takeGen n).neverBoth = s.neverBoth := by
  simp -implicitDefEqProofs [State.takeGen]
@[simp] theorem State.genStep_neverBoth (s : State) (g mode stop mute) :
    (s.genStep g mode stop mute).1.neverBoth = s.neverBoth := by
  unfold State.genStep
  split <;> simp -implicitDefEqProofs
@[simp] theorem State.takeCmd_neverBoth (s : State) (i cmd driveSafe) :
    (s.takeCmd i cmd driveSafe).1.neverBoth = s.neverBoth := by
  unfold State.takeCmd
  split <;> simp -implicitDefEqProofs
@[simp] theorem State.setSect_neverBoth (s : State) (j o) : (s.setSect j o).neverBoth = s.neverBoth := by
  simp -implicitDefEqProofs [State.setSect]
@[simp] theorem State.loopFlags_neverBoth (s : State) (i bits) : (s.loopFlags i bits).neverBoth = s.neverBoth := by
  simp -implicitDefEqProofs [State.loopFlags]
@[simp] theorem State.linkIndex_neverBoth (s : State) (r) : (s.linkIndex r).1.neverBoth = s.neverBoth := by
  simp -implicitDefEqProofs [State.linkIndex]
@[simp] theorem State.linkLearn_neverBoth (s : State) (r ix ep frz) :
    (s.linkLearn r ix ep frz).neverBoth = s.neverBoth := by
  simp -implicitDefEqProofs [State.linkLearn]
@[simp] theorem State.followFault_neverBoth (s : State) (i fe) : (s.followFault i fe).neverBoth = s.neverBoth := by
  simp -implicitDefEqProofs [State.followFault]
theorem sectStep_neverBoth (hi lo : Bool) (c : ChainOut) (p : Nat × Nat) :
    (sectStep hi lo c p).s.neverBoth = c.s.neverBoth := by
  simp -implicitDefEqProofs [sectStep]
@[simp] theorem runSects_neverBoth (js e hi lo) (s : State) : (runSects js e hi lo s).s.neverBoth = s.neverBoth := by
  have run : ∀ (l : List (Nat × Nat)) (c : ChainOut), (l.foldl (sectStep hi lo) c).s.neverBoth = c.s.neverBoth := by
    intro l
    induction l with
    | nil => exact fun _ => rfl
    | cons p l ih => exact fun c => (ih _).trans (sectStep_neverBoth hi lo c p)
  exact run _ _
/-- The switches of a law's state are as far apart as those of `s`. -/
def LawOut.keeps (s : State) (x : LawOut) : Prop := x.s.neverBoth = s.neverBoth

theorem LawOut.keeps_mk {s t : State} (h : t.neverBoth = s.neverBoth) (a b c d e f) :
    LawOut.keeps s ⟨a, b, c, d, e, f, t⟩ := h

theorem State.biquad_keeps (s : State) (i mode tr e ff pb inj track m) :
    LawOut.keeps s (s.biquad i mode tr e ff pb inj track m) := by
  have runs := fun js e hi lo => runSects_neverBoth js e hi lo s
  unfold State.biquad
  split
  · exact LawOut.keeps_mk rfl _ _ _ _ _ _
  · refine LawOut.keeps_mk ?_ _ _ _ _ _ _
    split
    · exact (State.setSect_neverBoth _ _ _).trans (runs _ _ _ _)
    · exact runs _ _ _ _
  · exact LawOut.keeps_mk (runs _ _ _ _) _ _ _ _ _ _

@[simp] theorem State.biquad_neverBoth (s : State) (i mode tr e ff pb inj track m) :
    (s.biquad i mode tr e ff pb inj track m).s.neverBoth = s.neverBoth := s.biquad_keeps i mode tr e ff pb inj track m

@[simp] theorem State.hyst_neverBoth (s : State) (i mode e m) : (s.hyst i mode e m).s.neverBoth = s.neverBoth := by
  unfold State.hyst
  split <;> rfl
@[simp] theorem State.finishRun_neverBoth (s : State) (r) : (s.finishRun r).neverBoth = s.neverBoth := by
  unfold State.finishRun
  dsimp only
  simp -implicitDefEqProofs [apply_ite LawOut.s]
@[simp] theorem State.trigRaise_neverBoth (s : State) (p e) : (s.trigRaise p e).neverBoth = s.neverBoth := by
  simp -implicitDefEqProofs [State.trigRaise]
@[simp] theorem State.startRun_neverBoth (s : State) (i c) : (s.startRun i c).neverBoth = s.neverBoth := by
  simp -implicitDefEqProofs [State.startRun]
@[simp] theorem State.dropRun_neverBoth (s : State) (r) : (s.dropRun r).neverBoth = s.neverBoth := by
  unfold State.dropRun
  split <;> simp -implicitDefEqProofs

/-! #### The PWM array -/

@[simp] theorem State.liveAdd_neverBoth (s : State) (i n) : (s.liveAdd i n).neverBoth = s.neverBoth := by
  simp -implicitDefEqProofs [State.liveAdd]
@[simp] theorem State.zeroCarry_neverBoth (s : State) (g) : (s.zeroCarry g).neverBoth = s.neverBoth := by
  simp -implicitDefEqProofs [State.zeroCarry]
@[simp] theorem State.setPh_neverBoth {f : Phase → Phase} (hf : ∀ p, (f p).apart = p.apart) (s : State) (g x) :
    (s.setPh g x f).neverBoth = s.neverBoth := by
  refine State.setGrp_neverBoth (fun q => ?_) s g
  have e := congrArg (List.all · id) (map_updAt (l := q.ph) (n := x) hf)
  simp only [List.all_map, Function.comp_def] at e
  exact e
@[simp] theorem State.setWidth_neverBoth (s : State) (g x w) : (s.setWidth g x w).neverBoth = s.neverBoth := by
  simp -implicitDefEqProofs [State.setWidth]
@[simp] theorem State.valleyLoad_neverBoth (s : State) (g x quiet) :
    (s.valleyLoad g x quiet).neverBoth = s.neverBoth := by
  simp -implicitDefEqProofs [State.valleyLoad]
@[simp] theorem State.tripLevels_neverBoth (s : State) (lv) : (s.tripLevels lv).neverBoth = s.neverBoth := by
  simp -implicitDefEqProofs [State.tripLevels]
@[simp] theorem State.tripNow_neverBoth (s : State) : (s.tripNow).neverBoth = s.neverBoth := by
  simp -implicitDefEqProofs [State.tripNow]
@[simp] theorem State.rotate_neverBoth (s : State) (g) : (s.rotate g).neverBoth = s.neverBoth := by
  simp -implicitDefEqProofs [State.rotate]
@[simp] theorem State.releaseSample_neverBoth (s : State) (g) : (s.releaseSample g).neverBoth = s.neverBoth := by
  simp -implicitDefEqProofs [State.releaseSample]
@[simp] theorem State.valley_neverBoth (s : State) (g lv) : (s.valley g lv).neverBoth = s.neverBoth := by
  simp -implicitDefEqProofs [State.valley]
@[simp] theorem State.cutAtZero_neverBoth (s : State) (g) : (s.cutAtZero g).neverBoth = s.neverBoth := by
  simp -implicitDefEqProofs [State.cutAtZero]
@[simp] theorem State.gpShow_neverBoth (s : State) (c) : (s.gpShow c).neverBoth = s.neverBoth := by
  simp -implicitDefEqProofs [State.gpShow]
@[simp] theorem State.showSafe_neverBoth (s : State) : (s.showSafe).neverBoth = s.neverBoth := by
  simp -implicitDefEqProofs [State.showSafe]
@[simp] theorem State.safeRelease_neverBoth (s : State) (src) : (s.safeRelease src).neverBoth = s.neverBoth := by
  simp -implicitDefEqProofs [State.safeRelease]
@[simp] theorem State.regroup_neverBoth (s : State) (g) : (s.regroup g).neverBoth = s.neverBoth := by
  simp -implicitDefEqProofs [State.regroup]
@[simp] theorem State.rechannel_neverBoth (s : State) (c) : (s.rechannel c).neverBoth = s.neverBoth := by
  simp -implicitDefEqProofs [State.rechannel]
@[simp] theorem State.carriersAnew_neverBoth (s : State) : (s.carriersAnew).neverBoth = s.neverBoth := by
  simp -implicitDefEqProofs [State.carriersAnew]
@[simp] theorem State.gpSafeTick_neverBoth (s : State) : (s.gpSafeTick).neverBoth = s.neverBoth := by
  simp -implicitDefEqProofs [State.gpSafeTick]
@[simp] theorem State.pwmTick_neverBoth (s : State) : (s.pwmTick).neverBoth = s.neverBoth := by
  simp -implicitDefEqProofs [State.pwmTick]
@[simp] theorem State.showForced_neverBoth (s : State) : (s.showForced).neverBoth = s.neverBoth := by
  simp -implicitDefEqProofs [State.showForced]
@[simp] theorem State.pwmStart_neverBoth (s : State) : (s.pwmStart).neverBoth = s.neverBoth := by
  simp -implicitDefEqProofs [State.pwmStart]
@[simp] theorem State.gpEnWritten_neverBoth (s : State) (c) : (s.gpEnWritten c).neverBoth = s.neverBoth := by
  simp -implicitDefEqProofs [State.gpEnWritten]
@[simp] theorem State.gpDutyWritten_neverBoth (s : State) (c) : (s.gpDutyWritten c).neverBoth = s.neverBoth := by
  simp -implicitDefEqProofs [State.gpDutyWritten]
@[simp] theorem State.coastWritten_neverBoth (s : State) (g) : (s.coastWritten g).neverBoth = s.neverBoth := by
  simp -implicitDefEqProofs [State.coastWritten]
@[simp] theorem State.angleWritten_neverBoth (s : State) (g) : (s.angleWritten g).neverBoth = s.neverBoth := by
  simp -implicitDefEqProofs [State.angleWritten]

/-! #### The drive chain -/

@[simp] theorem State.pendCmd_neverBoth (s : State) (slot w) : (s.pendCmd slot w).neverBoth = s.neverBoth := by
  simp -implicitDefEqProofs [State.pendCmd]
@[simp] theorem State.chainMode_neverBoth (s : State) (slot mode) :
    (s.chainMode slot mode).neverBoth = s.neverBoth := by
  simp -implicitDefEqProofs [State.chainMode]
@[simp] theorem State.clearLoop_neverBoth (s : State) (i) : (s.clearLoop i).neverBoth = s.neverBoth := by
  simp -implicitDefEqProofs [State.clearLoop]
@[simp] theorem State.clearLoops_neverBoth (s : State) (d) : (s.clearLoops d).neverBoth = s.neverBoth := by
  simp -implicitDefEqProofs [State.clearLoops]
@[simp] theorem State.enter_neverBoth (s : State) (d st) : (s.enter d st).neverBoth = s.neverBoth := by
  simp -implicitDefEqProofs [State.enter]
@[simp] theorem State.driveCmdWrite_neverBoth (s : State) (d w) : (s.driveCmdWrite d w).1.neverBoth = s.neverBoth := by
  simp -implicitDefEqProofs [State.driveCmdWrite]
@[simp] theorem State.polarityDone_neverBoth (s : State) (d) : (s.polarityDone d).neverBoth = s.neverBoth := by
  simp -implicitDefEqProofs [State.polarityDone]
@[simp] theorem State.driveResume_neverBoth (s : State) (d vdc) : (s.driveResume d vdc).neverBoth = s.neverBoth := by
  simp -implicitDefEqProofs [State.driveResume]
@[simp] theorem State.derate_neverBoth (s : State) (d v) : (s.derate d v).2.neverBoth = s.neverBoth := by
  simp -implicitDefEqProofs [State.derate]
@[simp] theorem State.putLoop_neverBoth (s : State) (i x) : (s.putLoop i x).neverBoth = s.neverBoth := by
  simp -implicitDefEqProofs [State.putLoop]
@[simp] theorem State.back_neverBoth (s : State) (d) : (s.back d).neverBoth = s.neverBoth := by
  simp -implicitDefEqProofs [State.back]

/-! #### The sequencer -/

@[simp] theorem State.seqsUpTo_neverBoth (s : State) (x) : (s.seqsUpTo x).neverBoth = s.neverBoth := by
  simp -implicitDefEqProofs [State.seqsUpTo]
@[simp] theorem State.trigDue_neverBoth (s : State) (n t) : (s.trigDue n t).neverBoth = s.neverBoth := by
  simp -implicitDefEqProofs [State.trigDue]
@[simp] theorem State.istrigWrite_neverBoth (s : State) (w t) : (s.istrigWrite w t).neverBoth = s.neverBoth := by
  unfold State.istrigWrite
  split <;> simp -implicitDefEqProofs
@[simp] theorem State.seqStart_neverBoth (s : State) (n j late) : (s.seqStart n j late).neverBoth = s.neverBoth := by
  simp -implicitDefEqProofs [State.seqStart]
@[simp] theorem State.regDue_neverBoth (s : State) (e) : (s.regDue e).neverBoth = s.neverBoth := by
  simp -implicitDefEqProofs [State.regDue]
@[simp] theorem State.enTaken_neverBoth (s : State) : (s.enTaken).neverBoth = s.neverBoth := by
  simp -implicitDefEqProofs [State.enTaken]
@[simp] theorem State.enChanged_neverBoth (s : State) (old) : (s.enChanged old).neverBoth = s.neverBoth := by
  simp -implicitDefEqProofs [State.enChanged]
@[simp] theorem State.regStartWrite_neverBoth (s : State) (w) : (s.regStartWrite w).neverBoth = s.neverBoth := by
  simp -implicitDefEqProofs [State.regStartWrite]
@[simp] theorem State.convCode_neverBoth (s : State) (i c) : (s.convCode i c).1.neverBoth = s.neverBoth := by
  simp -implicitDefEqProofs [State.convCode]
@[simp] theorem State.ringWrite_neverBoth (s : State) (i injected raw v) :
    (s.ringWrite i injected raw v).neverBoth = s.neverBoth := by
  simp -implicitDefEqProofs [State.ringWrite]
@[simp] theorem State.latchJudge_neverBoth (s : State) (d) : (s.latchJudge d).neverBoth = s.neverBoth := by
  simp -implicitDefEqProofs [State.latchJudge]
@[simp] theorem State.halfOpen_neverBoth (s : State) (cv) : (s.halfOpen cv).neverBoth = s.neverBoth := by
  simp -implicitDefEqProofs [State.halfOpen]
@[simp] theorem State.occEnd_neverBoth (s : State) (cv) : (s.occEnd cv).neverBoth = s.neverBoth := by
  simp -implicitDefEqProofs [State.occEnd]
@[simp] theorem State.latchWrite_neverBoth (s : State) (cv raw v sat) :
    (s.latchWrite cv raw v sat).neverBoth = s.neverBoth := by
  simp -implicitDefEqProofs [State.latchWrite]
@[simp] theorem State.shareCount_neverBoth (s : State) (cv) : (s.shareCount cv).neverBoth = s.neverBoth := by
  simp -implicitDefEqProofs [State.shareCount]
@[simp] theorem State.fileResult_neverBoth (s : State) (core cv c) :
    (s.fileResult core cv c).neverBoth = s.neverBoth := by
  simp -implicitDefEqProofs [State.fileResult]
@[simp] theorem State.seqTick_neverBoth (s : State) : (s.seqTick).neverBoth = s.neverBoth := by
  simp -implicitDefEqProofs [State.seqTick]
@[simp] theorem State.ringStart_neverBoth (s : State) (r) : (s.ringStart r).neverBoth = s.neverBoth := by
  simp -implicitDefEqProofs [State.ringStart]

/-! #### Calibration -/

@[simp] theorem State.powerUpCore_neverBoth (s : State) (k) : (s.powerUpCore k).neverBoth = s.neverBoth := by
  simp -implicitDefEqProofs [State.powerUpCore]
@[simp] theorem State.judgeSet_neverBoth (s : State) (k c) : (s.judgeSet k c).neverBoth = s.neverBoth := by
  simp -implicitDefEqProofs [State.judgeSet]
@[simp] theorem State.cycleJudge_neverBoth (s : State) (k c) : (s.cycleJudge k c).neverBoth = s.neverBoth := by
  simp -implicitDefEqProofs [State.cycleJudge]
@[simp] theorem State.calibrateAll_neverBoth (s : State) (c mid) : (s.calibrateAll c mid).neverBoth = s.neverBoth := by
  simp -implicitDefEqProofs [State.calibrateAll]
@[simp] theorem State.powerUpCores_neverBoth (s : State) : (s.powerUpCores).neverBoth = s.neverBoth := by
  simp -implicitDefEqProofs [State.powerUpCores]
@[simp] theorem State.convertersReady_neverBoth (s : State) : (s.convertersReady).neverBoth = s.neverBoth := by
  simp -implicitDefEqProofs [State.convertersReady]
@[simp] theorem State.convertersDown_neverBoth (s : State) : (s.convertersDown).neverBoth = s.neverBoth := by
  simp -implicitDefEqProofs [State.convertersDown]
@[simp] theorem State.startCycle_neverBoth (s : State) : (s.startCycle).neverBoth = s.neverBoth := by
  simp -implicitDefEqProofs [State.startCycle]
  split <;> simp -implicitDefEqProofs
@[simp] theorem State.endCycle_neverBoth (s : State) : (s.endCycle).neverBoth = s.neverBoth := by
  simp -implicitDefEqProofs [State.endCycle]
@[simp] theorem State.resample_neverBoth (s : State) (k j byS) : (s.resample k j byS).neverBoth = s.neverBoth := by
  simp -implicitDefEqProofs [State.resample]
@[simp] theorem State.calWarm_neverBoth (s : State) : (s.calWarm).neverBoth = s.neverBoth := by
  simp -implicitDefEqProofs [State.calWarm]
@[simp] theorem State.calSecond_neverBoth (s : State) : (s.calSecond).neverBoth = s.neverBoth := by
  simp -implicitDefEqProofs [State.calSecond]
@[simp] theorem State.permSet_neverBoth (s : State) : (s.permSet).neverBoth = s.neverBoth := by
  simp -implicitDefEqProofs [State.permSet]
@[simp] theorem State.cycleDrop_neverBoth (s : State) : (s.cycleDrop).neverBoth = s.neverBoth := by
  simp -implicitDefEqProofs [State.cycleDrop]
@[simp] theorem State.permClear_neverBoth (s : State) : (s.permClear).neverBoth = s.neverBoth := by
  unfold State.permClear
  split <;> simp -implicitDefEqProofs
@[simp] theorem State.calCtlWrite_neverBoth (s : State) (w) : (s.calCtlWrite w).1.neverBoth = s.neverBoth := by
  simp -implicitDefEqProofs [State.calCtlWrite]
@[simp] theorem State.dropConvs_neverBoth (s : State) : (s.dropConvs).neverBoth = s.neverBoth := by
  simp -implicitDefEqProofs [State.dropConvs]
@[simp] theorem State.coreEnWritten_neverBoth (s : State) (old) : (s.coreEnWritten old).neverBoth = s.neverBoth := by
  simp -implicitDefEqProofs [State.coreEnWritten]

/-! #### Generators and the capture unit -/

@[simp] theorem State.injCmdWrite_neverBoth (s : State) (w) : (s.injCmdWrite w).1.neverBoth = s.neverBoth := by
  simp -implicitDefEqProofs [State.injCmdWrite]
@[simp] theorem State.gensAbort_neverBoth (s : State) (st) : (s.gensAbort st).neverBoth = s.neverBoth := by
  simp -implicitDefEqProofs [State.gensAbort]
@[simp] theorem State.capCtlWrite_neverBoth (s : State) (w) : (s.capCtlWrite w).1.neverBoth = s.neverBoth := by
  simp -implicitDefEqProofs [State.capCtlWrite]
@[simp] theorem State.capEnd_neverBoth (s : State) (warm) : (s.capEnd warm).neverBoth = s.neverBoth := by
  simp -implicitDefEqProofs [State.capEnd]
@[simp] theorem State.capTick_neverBoth (s : State) : (s.capTick).neverBoth = s.neverBoth := by
  simp -implicitDefEqProofs [State.capTick]
@[simp] theorem State.capStore_neverBoth (s : State) (c) : (s.capStore c).neverBoth = s.neverBoth := by
  simp -implicitDefEqProofs [State.capStore]
@[simp] theorem State.capSample_neverBoth (s : State) : (s.capSample).neverBoth = s.neverBoth := by
  simp -implicitDefEqProofs [State.capSample]

/-! #### The Catalogue -/

@[simp] theorem State.ageUp_neverBoth (s : State) (p) : (s.ageUp p).neverBoth = s.neverBoth := by
  simp -implicitDefEqProofs [State.ageUp]
@[simp] theorem State.visitTake_neverBoth (s : State) (p) : (s.visitTake p).neverBoth = s.neverBoth := by
  simp -implicitDefEqProofs [State.visitTake]
@[simp] theorem State.visit_neverBoth (s : State) (p) : (s.visit p).neverBoth = s.neverBoth := by
  simp -implicitDefEqProofs [State.visit]
@[simp] theorem State.catVisit_neverBoth (s : State) (p) : (s.catVisit p).neverBoth = s.neverBoth := by
  simp -implicitDefEqProofs [State.catVisit]
@[simp] theorem State.catTimed_neverBoth {f : State → State} (h : ∀ t, (f t).neverBoth = t.neverBoth)
    (s : State) (p c) : (s.catTimed p c f).neverBoth = s.neverBoth := by
  simp -implicitDefEqProofs [State.catTimed, h]
@[simp] theorem State.catClear_neverBoth (s : State) : (s.catClear).neverBoth = s.neverBoth := by
  simp -implicitDefEqProofs [State.catClear]
@[simp] theorem State.catVisits_neverBoth (s : State) : (s.catVisits).neverBoth = s.neverBoth := by
  simp -implicitDefEqProofs [State.catVisits]
@[simp] theorem State.diSample_neverBoth (s : State) (di) : (s.diSample di).neverBoth = s.neverBoth := by
  simp -implicitDefEqProofs [State.diSample]
@[simp] theorem State.forceWrite_neverBoth (s : State) (w) : (s.forceWrite w).1.neverBoth = s.neverBoth := by
  simp -implicitDefEqProofs [State.forceWrite]
@[simp] theorem State.valueWrite_neverBoth (s : State) (p w) : (s.valueWrite p w).1.neverBoth = s.neverBoth := by
  simp -implicitDefEqProofs [State.valueWrite]

/-! #### The bus controllers -/

@[simp] theorem State.canSetState_neverBoth (s : State) (c st) : (s.canSetState c st).neverBoth = s.neverBoth := by
  simp -implicitDefEqProofs [State.canSetState]
@[simp] theorem State.objEnd_neverBoth (s : State) (c n m) : (s.objEnd c n m).neverBoth = s.neverBoth := by
  simp -implicitDefEqProofs [State.objEnd]
@[simp] theorem State.objCancel_neverBoth (s : State) (c n) : (s.objCancel c n).neverBoth = s.neverBoth := by
  simp -implicitDefEqProofs [State.objCancel]
@[simp] theorem State.cancelNow_neverBoth (s : State) (c n) : (s.cancelNow c n).neverBoth = s.neverBoth := by
  simp -implicitDefEqProofs [State.cancelNow]
@[simp] theorem State.objPark_neverBoth (s : State) (c n) : (s.objPark c n).neverBoth = s.neverBoth := by
  simp -implicitDefEqProofs [State.objPark]
@[simp] theorem State.uncommit_neverBoth (s : State) (c) : (s.uncommit c).neverBoth = s.neverBoth := by
  unfold State.uncommit
  split <;> simp -implicitDefEqProofs
@[simp] theorem State.cancelReq_neverBoth (s : State) (c n) : (s.cancelReq c n).neverBoth = s.neverBoth := by
  simp -implicitDefEqProofs [State.cancelReq]
@[simp] theorem State.canOff_neverBoth (s : State) (c) : (s.canOff c).neverBoth = s.neverBoth := by
  simp -implicitDefEqProofs [State.canOff]
@[simp] theorem State.fdOff_neverBoth (s : State) (c) : (s.fdOff c).neverBoth = s.neverBoth := by
  simp -implicitDefEqProofs [State.fdOff]
@[simp] theorem State.canStop_neverBoth (s : State) (c) : (s.canStop c).neverBoth = s.neverBoth := by
  simp -implicitDefEqProofs [State.canStop]
@[simp] theorem State.canJoin_neverBoth (s : State) (c detect) : (s.canJoin c detect).neverBoth = s.neverBoth := by
  simp -implicitDefEqProofs [State.canJoin]
@[simp] theorem State.canStart_neverBoth (s : State) (c) : (s.canStart c).neverBoth = s.neverBoth := by
  simp -implicitDefEqProofs [State.canStart]
@[simp] theorem State.canCtlWritten_neverBoth (s : State) (c busy) :
    (s.canCtlWritten c busy).neverBoth = s.neverBoth := by
  simp -implicitDefEqProofs [State.canCtlWritten]
@[simp] theorem State.canFrameEnd_neverBoth (s : State) (c) : (s.canFrameEnd c).neverBoth = s.neverBoth := by
  simp -implicitDefEqProofs [State.canFrameEnd]
@[simp] theorem State.canErr_neverBoth (s : State) (c tec rec) : (s.canErr c tec rec).neverBoth = s.neverBoth := by
  simp -implicitDefEqProofs [State.canErr]
@[simp] theorem State.canRaise_neverBoth (s : State) (c dt dr) : (s.canRaise c dt dr).neverBoth = s.neverBoth := by
  simp -implicitDefEqProofs [State.canRaise]
@[simp] theorem State.canRecover_neverBoth (s : State) (c) : (s.canRecover c).1.neverBoth = s.neverBoth := by
  simp -implicitDefEqProofs [State.canRecover]
@[simp] theorem State.txReq_neverBoth (s : State) (c n) : (s.txReq c n).neverBoth = s.neverBoth := by
  simp -implicitDefEqProofs [State.txReq]
@[simp] theorem State.txReqWrite_neverBoth (s : State) (c k w) : (s.txReqWrite c k w).1.neverBoth = s.neverBoth := by
  simp -implicitDefEqProofs [State.txReqWrite]
@[simp] theorem State.txCanWrite_neverBoth (s : State) (c k w) : (s.txCanWrite c k w).1.neverBoth = s.neverBoth := by
  simp -implicitDefEqProofs [State.txCanWrite]
@[simp] theorem State.acknowledged_neverBoth (s : State) (c) : (s.acknowledged c).neverBoth = s.neverBoth := by
  simp -implicitDefEqProofs [State.acknowledged]
@[simp] theorem State.setNack_neverBoth (s : State) (c n v) : (s.setNack c n v).neverBoth = s.neverBoth := by
  simp -implicitDefEqProofs [State.setNack]
@[simp] theorem State.attempt_neverBoth (s : State) (c n) : (s.attempt c n).neverBoth = s.neverBoth := by
  simp -implicitDefEqProofs [State.attempt]
@[simp] theorem State.tdcMeasured_neverBoth (s : State) (c n v) : (s.tdcMeasured c n v).neverBoth = s.neverBoth := by
  simp -implicitDefEqProofs [State.tdcMeasured]
@[simp] theorem State.txError_neverBoth (s : State) (c n kind) : (s.txError c n kind).neverBoth = s.neverBoth := by
  unfold State.txError
  split <;> simp -implicitDefEqProofs
@[simp] theorem State.storeFrame_neverBoth (s : State) (a keep stamp f) :
    (s.storeFrame a keep stamp f).neverBoth = s.neverBoth := by
  simp -implicitDefEqProofs [State.storeFrame]
@[simp] theorem State.setOwned_neverBoth (s : State) (c q e b) : (s.setOwned c q e b).neverBoth = s.neverBoth := by
  simp -implicitDefEqProofs [State.setOwned]
@[simp] theorem State.enqueue_neverBoth (s : State) (c q flt stamp f) :
    (s.enqueue c q flt stamp f).neverBoth = s.neverBoth := by
  simp -implicitDefEqProofs only [State.enqueue]
  split <;> simp -implicitDefEqProofs
@[simp] theorem State.ackEntry_neverBoth (s : State) (c q e zp) : (s.ackEntry c q e zp).1.neverBoth = s.neverBoth := by
  simp -implicitDefEqProofs [State.ackEntry]
@[simp] theorem State.takeFrame_neverBoth (s : State) (c n stamp f) :
    (s.takeFrame c n stamp f).neverBoth = s.neverBoth := by
  simp -implicitDefEqProofs [State.takeFrame]
@[simp] theorem State.deliver_neverBoth (s : State) (c stamp f) : (s.deliver c stamp f).neverBoth = s.neverBoth := by
  unfold State.deliver
  split
  · simp -implicitDefEqProofs
  · split
    · simp -implicitDefEqProofs
    · split <;> simp -implicitDefEqProofs
@[simp] theorem State.recDown_neverBoth (s : State) (c) : (s.recDown c).neverBoth = s.neverBoth := by
  simp -implicitDefEqProofs [State.recDown]
@[simp] theorem State.objWrite_neverBoth (s : State) (c n o w) : (s.objWrite c n o w).1.neverBoth = s.neverBoth := by
  simp -implicitDefEqProofs [State.objWrite]
@[simp] theorem State.canTick_neverBoth (s : State) : (s.canTick).neverBoth = s.neverBoth := by
  simp -implicitDefEqProofs [State.canTick]
@[simp] theorem State.canSecond_neverBoth (s : State) : (s.canSecond).neverBoth = s.neverBoth := by
  simp -implicitDefEqProofs [State.canSecond]

/-! #### The lanes -/

@[simp] theorem State.busy_neverBoth (s : State) (l) : (s.busy l).neverBoth = s.neverBoth := by
  simp -implicitDefEqProofs [State.busy]
@[simp] theorem State.startItem_neverBoth (s : State) (l i k t) : (s.startItem l i k t).neverBoth = s.neverBoth := by
  simp -implicitDefEqProofs [State.startItem]
@[simp] theorem State.skipItem_neverBoth (s : State) (k) : (s.skipItem k).neverBoth = s.neverBoth := by
  simp -implicitDefEqProofs [State.skipItem]
@[simp] theorem State.nextClass_neverBoth (s : State) (l) : (s.nextClass l).neverBoth = s.neverBoth := by
  simp -implicitDefEqProofs [State.nextClass]
@[simp] theorem State.seekItem_neverBoth (s : State) (l fuel) : (s.seekItem l fuel).neverBoth = s.neverBoth := by
  induction fuel generalizing s with
  | zero => rfl
  | succ fuel ih =>
    unfold State.seekItem
    dsimp only
    split
    · rfl
    · split <;> simp -implicitDefEqProofs [ih]
@[simp] theorem State.completeRun_neverBoth (s : State) (r t) : (s.completeRun r t).neverBoth = s.neverBoth := by
  simp -implicitDefEqProofs [State.completeRun]
@[simp] theorem State.dropLane_neverBoth (s : State) (l) : (s.dropLane l).neverBoth = s.neverBoth := by
  unfold State.dropLane
  split <;> simp -implicitDefEqProofs
@[simp] theorem State.skipRest_neverBoth (s : State) (l) : (s.skipRest l).neverBoth = s.neverBoth := by
  simp -implicitDefEqProofs [State.skipRest]
@[simp] theorem State.publishHeadroom_neverBoth (s : State) : (s.publishHeadroom).neverBoth = s.neverBoth := by
  simp -implicitDefEqProofs [State.publishHeadroom]
@[simp] theorem State.copyStaged_neverBoth (s : State) : (s.copyStaged).neverBoth = s.neverBoth := by
  unfold State.copyStaged
  refine State.each_neverBoth (fun t d => ?_) _ _
  dsimp only
  split <;> simp -implicitDefEqProofs
@[simp] theorem State.skipDue_neverBoth (s : State) (l) : (s.skipDue l).neverBoth = s.neverBoth := by
  simp -implicitDefEqProofs [State.skipDue]
@[simp] theorem State.openFrame_neverBoth (s : State) : (s.openFrame).neverBoth = s.neverBoth := by
  simp -implicitDefEqProofs [State.openFrame]
@[simp] theorem State.engineTick_neverBoth (s : State) : (s.engineTick).neverBoth = s.neverBoth := by
  simp -implicitDefEqProofs [State.engineTick]
@[simp] theorem State.engineHalt_neverBoth (s : State) : (s.engineHalt).neverBoth = s.neverBoth := by
  simp -implicitDefEqProofs [State.engineHalt]

/-! #### The Vault -/

@[simp] theorem State.putRec_neverBoth (s : State) (x r) : (s.putRec x r).neverBoth = s.neverBoth := by
  simp -implicitDefEqProofs [State.putRec]
@[simp] theorem State.restoreLoop_neverBoth (s : State) (x) : (s.restoreLoop x).neverBoth = s.neverBoth := by
  simp -implicitDefEqProofs [State.restoreLoop]
@[simp] theorem State.restoreDrive_neverBoth (s : State) (x) : (s.restoreDrive x).neverBoth = s.neverBoth := by
  simp -implicitDefEqProofs [State.restoreDrive]
@[simp] theorem State.restorePoint_neverBoth (s : State) (x k) : (s.restorePoint x k).neverBoth = s.neverBoth := by
  simp -implicitDefEqProofs [State.restorePoint]
@[simp] theorem State.restoreAlm_neverBoth (s : State) (x) : (s.restoreAlm x).neverBoth = s.neverBoth := by
  simp -implicitDefEqProofs [State.restoreAlm]
@[simp] theorem State.restoreCal_neverBoth (s : State) (x) : (s.restoreCal x).neverBoth = s.neverBoth := by
  simp -implicitDefEqProofs [State.restoreCal]
@[simp] theorem State.restoreSlot_neverBoth (s : State) (x) : (s.restoreSlot x).neverBoth = s.neverBoth := by
  simp -implicitDefEqProofs [State.restoreSlot]
  split <;> simp -implicitDefEqProofs
@[simp] theorem State.resetLinks_neverBoth (s : State) : (s.resetLinks).neverBoth = s.neverBoth := by
  simp -implicitDefEqProofs [State.resetLinks]
@[simp] theorem State.loopsFromImage_neverBoth (s : State) : (s.loopsFromImage).neverBoth = s.neverBoth := by
  simp -implicitDefEqProofs [State.loopsFromImage]
@[simp] theorem State.keepLoops_neverBoth (s : State) : (s.keepLoops).neverBoth = s.neverBoth := by
  simp -implicitDefEqProofs [State.keepLoops]
@[simp] theorem State.restoreVault_neverBoth (s : State) : (s.restoreVault).neverBoth = s.neverBoth := by
  simp -implicitDefEqProofs [State.restoreVault]

/-! #### Folio -/

@[simp] theorem State.folFail_neverBoth (s : State) (p) : (s.folFail p).neverBoth = s.neverBoth := by
  simp -implicitDefEqProofs [State.folFail]
@[simp] theorem State.folRead_neverBoth (s : State) (o n) : (s.folRead o n).1.neverBoth = s.neverBoth := by
  have h : (s, ([] : List Byte), true).1.neverBoth = s.neverBoth := rfl
  unfold State.folRead
  revert h
  generalize (s, ([] : List Byte), true) = r
  induction List.range n generalizing r with
  | nil => exact fun h => h
  | cons k ks ih =>
    intro h
    rw [List.foldl_cons]
    exact ih _ (by split <;> simp -implicitDefEqProofs [h])
@[simp] theorem State.startProg_neverBoth (s : State) (src pages) :
    (s.startProg src pages).neverBoth = s.neverBoth := by
  simp -implicitDefEqProofs [State.startProg]
@[simp] theorem State.pageDone_neverBoth (s : State) (g) : (s.pageDone g).neverBoth = s.neverBoth := by
  simp -implicitDefEqProofs [State.pageDone]
@[simp] theorem State.tearByte_neverBoth (s : State) (a b) : (s.tearByte a b).neverBoth = s.neverBoth := by
  simp -implicitDefEqProofs [State.tearByte]
@[simp] theorem State.tearProg_neverBoth (s : State) (q) : (s.tearProg q).neverBoth = s.neverBoth := by
  unfold State.tearProg
  split <;> simp -implicitDefEqProofs
@[simp] theorem State.abandonProg_neverBoth (s : State) : (s.abandonProg).neverBoth = s.neverBoth := by
  unfold State.abandonProg
  split <;> simp -implicitDefEqProofs
@[simp] theorem State.queueJob_neverBoth (s : State) (j) : (s.queueJob j).neverBoth = s.neverBoth := by
  simp -implicitDefEqProofs [State.queueJob]
@[simp] theorem State.dropJobs_neverBoth (s : State) : (s.dropJobs).neverBoth = s.neverBoth := by
  simp -implicitDefEqProofs [State.dropJobs]
@[simp] theorem State.dropHand_neverBoth (s : State) : (s.dropHand).neverBoth = s.neverBoth := by
  simp -implicitDefEqProofs [State.dropHand]
@[simp] theorem State.dropVaultCopy_neverBoth (s : State) : (s.dropVaultCopy).neverBoth = s.neverBoth := by
  simp -implicitDefEqProofs [State.dropVaultCopy]
@[simp] theorem State.jobGroups_neverBoth (s : State) (j) : (s.jobGroups j).2.neverBoth = s.neverBoth := by
  unfold State.jobGroups
  split <;> simp -implicitDefEqProofs
@[simp] theorem State.startGroup_neverBoth (s : State) (w) : (s.startGroup w).neverBoth = s.neverBoth := by
  unfold State.startGroup
  dsimp only
  split
  · simp -implicitDefEqProofs
  · split <;> simp -implicitDefEqProofs
@[simp] theorem State.startJob_neverBoth (s : State) (j) : (s.startJob j).neverBoth = s.neverBoth := by
  simp -implicitDefEqProofs [State.startJob]
@[simp] theorem State.jobDone_neverBoth (s : State) (j) : (s.jobDone j).neverBoth = s.neverBoth := by
  unfold State.jobDone
  split <;> simp -implicitDefEqProofs
@[simp] theorem State.mapEntry_neverBoth (s : State) (p) : (s.mapEntry p).neverBoth = s.neverBoth := by
  simp -implicitDefEqProofs [State.mapEntry]
@[simp] theorem State.groupDone_neverBoth (s : State) : (s.groupDone).neverBoth = s.neverBoth := by
  unfold State.groupDone
  split
  · rfl
  · split <;> simp -implicitDefEqProofs
@[simp] theorem State.setProt_neverBoth (s : State) (v) : (s.setProt v).neverBoth = s.neverBoth := by
  simp -implicitDefEqProofs [State.setProt]
@[simp] theorem State.setMap_neverBoth (s : State) (p k) : (s.setMap p k).neverBoth = s.neverBoth := by
  simp -implicitDefEqProofs [State.setMap]
@[simp] theorem State.reqOutcome_neverBoth (s : State) (w refused data) :
    (s.reqOutcome w refused data).neverBoth = s.neverBoth := by
  simp -implicitDefEqProofs [State.reqOutcome]
@[simp] theorem State.refCount_neverBoth (s : State) : (s.refCount).neverBoth = s.neverBoth := by
  simp -implicitDefEqProofs [State.refCount]
@[simp] theorem State.folRefuse_neverBoth (s : State) (t) : (s.folRefuse t).neverBoth = s.neverBoth := by
  simp -implicitDefEqProofs [State.folRefuse]
@[simp] theorem State.folRefuseAll_neverBoth (s : State) : (s.folRefuseAll).neverBoth = s.neverBoth := by
  simp -implicitDefEqProofs [State.folRefuseAll]
@[simp] theorem State.folShut_neverBoth (s : State) : (s.folShut).neverBoth = s.neverBoth := by
  simp -implicitDefEqProofs [State.folShut]
@[simp] theorem State.protTake_neverBoth (s : State) (v m) : (s.protTake v m).neverBoth = s.neverBoth := by
  simp -implicitDefEqProofs [State.protTake]
@[simp] theorem State.folWritePage_neverBoth (s : State) (t) : (s.folWritePage t).neverBoth = s.neverBoth := by
  simp -implicitDefEqProofs [State.folWritePage]
@[simp] theorem State.folTake_neverBoth (s : State) (t) : (s.folTake t).neverBoth = s.neverBoth := by
  unfold State.folTake
  split <;> simp -implicitDefEqProofs
@[simp] theorem State.folAccess_neverBoth (s : State) : (s.folAccess).neverBoth = s.neverBoth := by
  simp -implicitDefEqProofs [State.folAccess]
  split <;> simp -implicitDefEqProofs
@[simp] theorem State.progEnd_neverBoth (s : State) : (s.progEnd).neverBoth = s.neverBoth := by
  unfold State.progEnd
  split
  · rfl
  · dsimp only
    split
    · rfl
    · split
      · split <;> simp -implicitDefEqProofs
      all_goals simp -implicitDefEqProofs
@[simp] theorem State.startSave_neverBoth (s : State) : (s.startSave).neverBoth = s.neverBoth := by
  simp -implicitDefEqProofs [State.startSave]
@[simp] theorem State.readSlot_neverBoth (s : State) (b) : (s.readSlot b).2.neverBoth = s.neverBoth := by
  simp -implicitDefEqProofs [State.readSlot]
@[simp] theorem State.loadLive_neverBoth (s : State) (img) : (s.loadLive img).neverBoth = s.neverBoth := by
  simp -implicitDefEqProofs [State.loadLive]
@[simp] theorem State.restoreSave_neverBoth (s : State) : (s.restoreSave).neverBoth = s.neverBoth := by
  simp -implicitDefEqProofs only [State.restoreSave]
  split <;> simp -implicitDefEqProofs
@[simp] theorem State.openSession_neverBoth (s : State) : (s.openSession).neverBoth = s.neverBoth := by
  simp -implicitDefEqProofs [State.openSession]
@[simp] theorem State.recallEnd_neverBoth (s : State) : (s.recallEnd).neverBoth = s.neverBoth := by
  simp -implicitDefEqProofs [State.recallEnd]
@[simp] theorem State.restoreRates_neverBoth (s : State) : (s.restoreRates).neverBoth = s.neverBoth := by
  simp -implicitDefEqProofs [State.restoreRates]
@[simp] theorem State.loadVault_neverBoth (s : State) : (s.loadVault).neverBoth = s.neverBoth := by
  simp -implicitDefEqProofs [State.loadVault]
@[simp] theorem State.bootReads_neverBoth (s : State) : (s.bootReads).neverBoth = s.neverBoth := by
  simp -implicitDefEqProofs [State.bootReads]
@[simp] theorem State.readsLeft_neverBoth (s : State) : (s.readsLeft).neverBoth = s.neverBoth := by
  simp -implicitDefEqProofs [State.readsLeft]
@[simp] theorem State.remapWrite_neverBoth (s : State) (w) : (s.remapWrite w).1.neverBoth = s.neverBoth := by
  simp -implicitDefEqProofs [State.remapWrite]
@[simp] theorem State.protWrite_neverBoth (s : State) (w) : (s.protWrite w).1.neverBoth = s.neverBoth := by
  simp -implicitDefEqProofs [State.protWrite]
@[simp] theorem State.protBy_neverBoth (s : State) (who) : (s.protBy who).neverBoth = s.neverBoth := by
  simp -implicitDefEqProofs [State.protBy]
@[simp] theorem State.protImage_neverBoth (s : State) (v) : (s.protImage v).neverBoth = s.neverBoth := by
  simp -implicitDefEqProofs [State.protImage]
@[simp] theorem State.ucWrite_neverBoth (s : State) (w) : (s.ucWrite w).neverBoth = s.neverBoth := by
  simp -implicitDefEqProofs [State.ucWrite]
@[simp] theorem State.liveWrite_neverBoth (s : State) (i w) : (s.liveWrite i w).neverBoth = s.neverBoth := by
  simp -implicitDefEqProofs [State.liveWrite]
@[simp] theorem State.energy_neverBoth (s : State) : (s.energy).neverBoth = s.neverBoth := by
  simp -implicitDefEqProofs [State.energy]
@[simp] theorem State.liveSecond_neverBoth (s : State) : (s.liveSecond).neverBoth = s.neverBoth := by
  simp -implicitDefEqProofs [State.liveSecond]

/-! #### Resets -/

@[simp] theorem State.folAfter_neverBoth (s : State) : (s.folAfter).neverBoth = s.neverBoth := by
  simp -implicitDefEqProofs [State.folAfter]
@[simp] theorem State.encDrop_neverBoth (s : State) : (s.encDrop).neverBoth = s.neverBoth := by
  simp -implicitDefEqProofs [State.encDrop]
@[simp] theorem State.clearImage_neverBoth (s : State) : (s.clearImage).neverBoth = s.neverBoth := by
  simp -implicitDefEqProofs [State.clearImage]
@[simp] theorem State.phase_neverBoth (s : State) (k) : (s.phase k).neverBoth = s.neverBoth := by
  simp -implicitDefEqProofs [State.phase]
@[simp] theorem State.toStage_neverBoth (s : State) (st) : (s.toStage st).neverBoth = s.neverBoth := by
  simp -implicitDefEqProofs [State.toStage]
@[simp] theorem State.bootFlash_neverBoth (s : State) : (s.bootFlash).neverBoth = s.neverBoth := by
  simp -implicitDefEqProofs [State.bootFlash]
@[simp] theorem State.goSlot_neverBoth (s : State) (k) : (s.goSlot k).neverBoth = s.neverBoth := by
  simp -implicitDefEqProofs [State.goSlot]
@[simp] theorem State.setUnit_neverBoth (s : State) (code) : (s.setUnit code).neverBoth = s.neverBoth := by
  simp -implicitDefEqProofs [State.setUnit]
@[simp] theorem State.almHalt_neverBoth (s : State) : (s.almHalt).neverBoth = s.neverBoth := by
  simp -implicitDefEqProofs [State.almHalt]
@[simp] theorem State.linkOff_neverBoth (s : State) : (s.linkOff).neverBoth = s.neverBoth := by
  simp -implicitDefEqProofs [State.linkOff]
@[simp] theorem State.frameStop_neverBoth (s : State) : (s.frameStop).neverBoth = s.neverBoth := by
  simp -implicitDefEqProofs [State.frameStop]
@[simp] theorem State.planesStop_neverBoth (s : State) : (s.planesStop).neverBoth = s.neverBoth := by
  simp -implicitDefEqProofs [State.planesStop]

/-! #### Thermal watch -/

@[simp] theorem State.breakSensor_neverBoth (s : State) (k cause) :
    (s.breakSensor k cause).neverBoth = s.neverBoth := by
  simp -implicitDefEqProofs [State.breakSensor]
@[simp] theorem State.sensor_neverBoth (s : State) (k t) : (s.sensor k t).neverBoth = s.neverBoth := by
  simp -implicitDefEqProofs [State.sensor]
@[simp] theorem State.setThermal_neverBoth (s : State) (k) : (s.setThermal k).neverBoth = s.neverBoth := by
  simp -implicitDefEqProofs [State.setThermal]
@[simp] theorem State.windowUpdate_neverBoth (s : State) : (s.windowUpdate).neverBoth = s.neverBoth := by
  simp -implicitDefEqProofs [State.windowUpdate]
@[simp] theorem State.warmEnter_neverBoth (s : State) : (s.warmEnter).neverBoth = s.neverBoth := by
  simp -implicitDefEqProofs [State.warmEnter]
@[simp] theorem State.hotTimes_neverBoth (s : State) : (s.hotTimes).neverBoth = s.neverBoth := by
  simp -implicitDefEqProofs [State.hotTimes]
@[simp] theorem State.holdBoot_neverBoth (s : State) : (s.holdBoot).neverBoth = s.neverBoth := by
  simp -implicitDefEqProofs [State.holdBoot]
@[simp] theorem State.bootHalt_neverBoth (s : State) : (s.bootHalt).neverBoth = s.neverBoth := by
  simp -implicitDefEqProofs [State.bootHalt]
@[simp] theorem State.queueRecord_neverBoth (s : State) : (s.queueRecord).neverBoth = s.neverBoth := by
  simp -implicitDefEqProofs [State.queueRecord]
@[simp] theorem State.thermalContinue_neverBoth (s : State) : (s.thermalContinue).neverBoth = s.neverBoth := by
  simp -implicitDefEqProofs [State.thermalContinue]
@[simp] theorem State.tryContinue_neverBoth (s : State) : (s.tryContinue).neverBoth = s.neverBoth := by
  simp -implicitDefEqProofs [State.tryContinue]
@[simp] theorem State.testSample_neverBoth (s : State) (d) : (s.testSample d).neverBoth = s.neverBoth := by
  simp -implicitDefEqProofs [State.testSample]

/-! #### Panel -/

@[simp] theorem State.setKeys_neverBoth (s : State) (v) : (s.setKeys v).neverBoth = s.neverBoth := by
  simp -implicitDefEqProofs [State.setKeys]
@[simp] theorem State.setMask_neverBoth (s : State) (v) : (s.setMask v).neverBoth = s.neverBoth := by
  simp -implicitDefEqProofs [State.setMask]
@[simp] theorem State.debounce_neverBoth (s : State) (keys) : (s.debounce keys).neverBoth = s.neverBoth := by
  simp -implicitDefEqProofs [State.debounce]
@[simp] theorem State.stuckStep_neverBoth (s : State) (old dt k) : (s.stuckStep old dt k).neverBoth = s.neverBoth := by
  simp -implicitDefEqProofs [State.stuckStep]
@[simp] theorem State.swapReq_neverBoth (s : State) (who) : (s.swapReq who).neverBoth = s.neverBoth := by
  simp -implicitDefEqProofs [State.swapReq]
@[simp] theorem State.comboWritten_neverBoth (s : State) (n) : (s.comboWritten n).neverBoth = s.neverBoth := by
  simp -implicitDefEqProofs [State.comboWritten]
@[simp] theorem State.encStop_neverBoth (s : State) : (s.encStop).neverBoth = s.neverBoth := by
  simp -implicitDefEqProofs [State.encStop]
@[simp] theorem State.recMove_neverBoth (s : State) (x1) : (s.recMove x1).neverBoth = s.neverBoth := by
  simp -implicitDefEqProofs [State.recMove]
@[simp] theorem State.detent_neverBoth (s : State) (k kind) : (s.detent k kind).neverBoth = s.neverBoth := by
  unfold State.detent
  split <;> simp -implicitDefEqProofs
@[simp] theorem State.setEnc_neverBoth (s : State) (k e) : (s.setEnc k e).neverBoth = s.neverBoth := by
  simp -implicitDefEqProofs [State.setEnc]
@[simp] theorem State.encMove_neverBoth (s : State) (k p) : (s.encMove k p).neverBoth = s.neverBoth := by
  simp -implicitDefEqProofs [State.encMove]
  split <;> simp -implicitDefEqProofs

/-! #### Ledger, Annals and Foxing -/

@[simp] theorem State.ledgerZero_neverBoth (s : State) (k) : (s.ledgerZero k).neverBoth = s.neverBoth := by
  simp -implicitDefEqProofs [State.ledgerZero]
@[simp] theorem State.ledgerClr_neverBoth (s : State) (w) : (s.ledgerClr w).neverBoth = s.neverBoth := by
  simp -implicitDefEqProofs [State.ledgerClr]
@[simp] theorem State.ledgerSel_neverBoth (s : State) (k w) : (s.ledgerSel k w).1.neverBoth = s.neverBoth := by
  simp -implicitDefEqProofs [State.ledgerSel]
@[simp] theorem State.snapWrite_neverBoth (s : State) (w) : (s.snapWrite w).1.neverBoth = s.neverBoth := by
  simp -implicitDefEqProofs [State.snapWrite]
@[simp] theorem State.snapTick_neverBoth (s : State) (n) : (s.snapTick n).neverBoth = s.neverBoth := by
  simp -implicitDefEqProofs [State.snapTick]
@[simp] theorem State.ringEntry_neverBoth (s : State) (e cont detail) :
    (s.ringEntry e cont detail).neverBoth = s.neverBoth := by
  simp -implicitDefEqProofs [State.ringEntry]
@[simp] theorem State.restoreEq_neverBoth (s : State) : (s.restoreEq).neverBoth = s.neverBoth := by
  simp -implicitDefEqProofs only [State.restoreEq]
  split <;> simp -implicitDefEqProofs
@[simp] theorem State.setN_neverBoth (s : State) (n) : (s.setN n).neverBoth = s.neverBoth := by
  simp -implicitDefEqProofs [State.setN]
@[simp] theorem State.decision_neverBoth (s : State) (kind val) : (s.decision kind val).neverBoth = s.neverBoth := by
  simp -implicitDefEqProofs [State.decision]
@[simp] theorem State.foxSecond_neverBoth (s : State) : (s.foxSecond).neverBoth = s.neverBoth := by
  simp -implicitDefEqProofs [State.foxSecond]
@[simp] theorem State.planVoltage_neverBoth (s : State) : (s.planVoltage).neverBoth = s.neverBoth := by
  simp -implicitDefEqProofs [State.planVoltage]
@[simp] theorem State.planInt_neverBoth (s : State) (v) : (s.planInt v).neverBoth = s.neverBoth := by
  simp -implicitDefEqProofs [State.planInt]
@[simp] theorem State.planCal_neverBoth (s : State) : (s.planCal).neverBoth = s.neverBoth := by
  simp -implicitDefEqProofs [State.planCal]
@[simp] theorem State.planPages_neverBoth (s : State) : (s.planPages).neverBoth = s.neverBoth := by
  unfold State.planPages
  refine State.each_neverBoth (fun t b => ?_) _ _
  split <;> simp -implicitDefEqProofs
@[simp] theorem State.publishLife_neverBoth (s : State) : (s.publishLife).neverBoth = s.neverBoth := by
  simp -implicitDefEqProofs [State.publishLife]
@[simp] theorem State.replan_neverBoth (s : State) : (s.replan).neverBoth = s.neverBoth := by
  simp -implicitDefEqProofs [State.replan]
@[simp] theorem State.foxRestore_neverBoth (s : State) : (s.foxRestore).neverBoth = s.neverBoth := by
  unfold State.foxRestore
  split
  · rfl
  · simp -implicitDefEqProofs only [neverBoth_ite]
    repeat' split
    all_goals simp -implicitDefEqProofs
@[simp] theorem State.vreqWrite_neverBoth (s : State) (w) : (s.vreqWrite w).1.neverBoth = s.neverBoth := by
  simp -implicitDefEqProofs [State.vreqWrite]
@[simp] theorem State.foxImage_neverBoth (s : State) : (s.foxImage).neverBoth = s.neverBoth := by
  simp -implicitDefEqProofs [State.foxImage]

/-! #### The Zone Protocol layer -/

@[simp] theorem State.setPn_neverBoth (s : State) (b n f) : (s.setPn b n f).neverBoth = s.neverBoth := by
  simp -implicitDefEqProofs [State.setPn]
@[simp] theorem State.zpCount_neverBoth (s : State) (k) : (s.zpCount k).neverBoth = s.neverBoth := by
  simp -implicitDefEqProofs [State.zpCount]
@[simp] theorem State.setRtc_neverBoth (s : State) (v) : (s.setRtc v).neverBoth = s.neverBoth := by
  simp -implicitDefEqProofs [State.setRtc]
@[simp] theorem State.zpSend_neverBoth (s : State) (b f) : (s.zpSend b f).neverBoth = s.neverBoth := by
  simp -implicitDefEqProofs [State.zpSend]
@[simp] theorem State.zpSendCtl_neverBoth (s : State) (b typ dst data) :
    (s.zpSendCtl b typ dst data).neverBoth = s.neverBoth := by
  simp -implicitDefEqProofs [State.zpSendCtl]
@[simp] theorem State.zpSettle_neverBoth (s : State) (b) : (s.zpSettle b).neverBoth = s.neverBoth := by
  simp -implicitDefEqProofs [State.zpSettle]
@[simp] theorem State.setStream_neverBoth (s : State) (b k t) : (s.setStream b k t).neverBoth = s.neverBoth := by
  simp -implicitDefEqProofs [State.setStream]
@[simp] theorem State.zpLoad_neverBoth (s : State) (b o f) : (s.zpLoad b o f).neverBoth = s.neverBoth := by
  unfold State.zpLoad
  split <;> simp -implicitDefEqProofs
@[simp] theorem State.zpDropFd_neverBoth (s : State) (b) : (s.zpDropFd b).neverBoth = s.neverBoth := by
  simp -implicitDefEqProofs [State.zpDropFd]
@[simp] theorem State.fdFollow_neverBoth (s : State) (b) : (s.fdFollow b).neverBoth = s.neverBoth := by
  simp -implicitDefEqProofs [State.fdFollow]
@[simp] theorem State.zpInvalidate_neverBoth (s : State) (b n) : (s.zpInvalidate b n).neverBoth = s.neverBoth := by
  simp -implicitDefEqProofs [State.zpInvalidate]
@[simp] theorem State.zpAbsent_neverBoth (s : State) (b n) : (s.zpAbsent b n).neverBoth = s.neverBoth := by
  simp -implicitDefEqProofs [State.zpAbsent]
@[simp] theorem State.zpStart_neverBoth (s : State) (b) : (s.zpStart b).neverBoth = s.neverBoth := by
  simp -implicitDefEqProofs [State.zpStart]
@[simp] theorem State.canRunning_neverBoth (s : State) (c) : (s.canRunning c).neverBoth = s.neverBoth := by
  simp -implicitDefEqProofs [State.canRunning]
@[simp] theorem State.zpCtlWritten_neverBoth (s : State) (old) : (s.zpCtlWritten old).neverBoth = s.neverBoth := by
  simp -implicitDefEqProofs [State.zpCtlWritten]
@[simp] theorem State.zpOffer_neverBoth (s : State) (b n) : (s.zpOffer b n).neverBoth = s.neverBoth := by
  unfold State.zpOffer
  split <;> simp -implicitDefEqProofs
@[simp] theorem State.zpNak_neverBoth (s : State) (b n code typ seq detail) :
    (s.zpNak b n code typ seq detail).neverBoth = s.neverBoth := by
  simp -implicitDefEqProofs [State.zpNak]
@[simp] theorem State.zpQuarantine_neverBoth (s : State) (b n) : (s.zpQuarantine b n).neverBoth = s.neverBoth := by
  simp -implicitDefEqProofs [State.zpQuarantine]
@[simp] theorem State.zpViolate_neverBoth (s : State) (b n code typ seq detail) :
    (s.zpViolate b n code typ seq detail).neverBoth = s.neverBoth := by
  simp -implicitDefEqProofs [State.zpViolate]
@[simp] theorem State.zpResync_neverBoth (s : State) (b a) : (s.zpResync b a).neverBoth = s.neverBoth := by
  simp -implicitDefEqProofs [State.zpResync]
@[simp] theorem State.zpAck_neverBoth (s : State) (b x) : (s.zpAck b x).neverBoth = s.neverBoth := by
  simp -implicitDefEqProofs [State.zpAck]
@[simp] theorem State.zpNext_neverBoth (s : State) (b fuel) : (s.zpNext b fuel).1.neverBoth = s.neverBoth := by
  induction fuel generalizing s with
  | zero => rfl
  | succ fuel ih =>
    unfold State.zpNext
    split <;> simp -implicitDefEqProofs [ih]
@[simp] theorem State.zpHeard_neverBoth (s : State) (b n) : (s.zpHeard b n).neverBoth = s.neverBoth := by
  simp -implicitDefEqProofs [State.zpHeard]
@[simp] theorem State.zpSeq_neverBoth (s : State) (b x pub) : (s.zpSeq b x pub).neverBoth = s.neverBoth := by
  simp -implicitDefEqProofs [State.zpSeq]
@[simp] theorem State.zpRecord_neverBoth (s : State) (b x r) : (s.zpRecord b x r).neverBoth = s.neverBoth := by
  simp -implicitDefEqProofs [State.zpRecord]
@[simp] theorem State.bindScanned_neverBoth (s : State) (b k due) :
    (s.bindScanned b k due).neverBoth = s.neverBoth := by
  simp -implicitDefEqProofs [State.bindScanned]
@[simp] theorem State.zpScan_neverBoth (s : State) (b) : (s.zpScan b).neverBoth = s.neverBoth := by
  simp -implicitDefEqProofs [State.zpScan]
@[simp] theorem State.zpSecondBus_neverBoth (s : State) (b) : (s.zpSecondBus b).neverBoth = s.neverBoth := by
  simp -implicitDefEqProofs [State.zpSecondBus]
@[simp] theorem State.zpSecond_neverBoth (s : State) : (s.zpSecond).neverBoth = s.neverBoth := by
  simp -implicitDefEqProofs [State.zpSecond]

/-! #### Redundant pairs -/

@[simp] theorem State.linkSend_neverBoth (s : State) (x) : (s.linkSend x).neverBoth = s.neverBoth := by
  simp -implicitDefEqProofs [State.linkSend]
@[simp] theorem State.linkHeard_neverBoth (s : State) : (s.linkHeard).neverBoth = s.neverBoth := by
  simp -implicitDefEqProofs [State.linkHeard]
@[simp] theorem State.healthPin_neverBoth (s : State) : (s.healthPin).neverBoth = s.neverBoth := by
  simp -implicitDefEqProofs [State.healthPin]
@[simp] theorem State.ckSent_neverBoth (s : State) : (s.ckSent).neverBoth = s.neverBoth := by
  simp -implicitDefEqProofs [State.ckSent]
@[simp] theorem State.ckPut_neverBoth (s : State) (c rest) : (s.ckPut c rest).neverBoth = s.neverBoth := by
  simp -implicitDefEqProofs [State.ckPut]
@[simp] theorem State.ckStep_neverBoth (s : State) : (s.ckStep).neverBoth = s.neverBoth := by
  unfold State.ckStep
  split
  · rfl
  · split
    · simp -implicitDefEqProofs
    · dsimp only
      split <;> simp -implicitDefEqProofs
    · simp -implicitDefEqProofs
@[simp] theorem State.ckPump_neverBoth (s : State) : (s.ckPump).neverBoth = s.neverBoth := by
  simp -implicitDefEqProofs [State.ckPump]
@[simp] theorem State.mgmtSend_neverBoth (s : State) : (s.mgmtSend).neverBoth = s.neverBoth := by
  simp -implicitDefEqProofs [State.mgmtSend]
@[simp] theorem State.pairTick_neverBoth (s : State) (mirror) : (s.pairTick mirror).neverBoth = s.neverBoth := by
  simp -implicitDefEqProofs [State.pairTick]
@[simp] theorem State.staleTest_neverBoth (s : State) : (s.staleTest).neverBoth = s.neverBoth := by
  simp -implicitDefEqProofs [State.staleTest]
@[simp] theorem State.pairSecond_neverBoth (s : State) : (s.pairSecond).neverBoth = s.neverBoth := by
  simp -implicitDefEqProofs [State.pairSecond]
@[simp] theorem State.judgeCompat_neverBoth (s : State) (diff) : (s.judgeCompat diff).neverBoth = s.neverBoth := by
  simp -implicitDefEqProofs [State.judgeCompat]
@[simp] theorem State.renumber_neverBoth (s : State) : (s.renumber).neverBoth = s.neverBoth := by
  simp -implicitDefEqProofs [State.renumber]
@[simp] theorem State.dualTest_neverBoth (s : State) : (s.dualTest).neverBoth = s.neverBoth := by
  simp -implicitDefEqProofs [State.dualTest]
@[simp] theorem State.ckDrop_neverBoth (s : State) : (s.ckDrop).neverBoth = s.neverBoth := by
  simp -implicitDefEqProofs [State.ckDrop]
@[simp] theorem State.ckRecord_neverBoth (s : State) (r) : (s.ckRecord r).neverBoth = s.neverBoth := by
  simp -implicitDefEqProofs only [State.ckRecord]
  split <;> simp -implicitDefEqProofs
@[simp] theorem State.ckTake_neverBoth (s : State) (r) : (s.ckTake r).neverBoth = s.neverBoth := by
  simp -implicitDefEqProofs [State.ckTake]
@[simp] theorem State.ckHeader_neverBoth (s : State) (num rtc nrec) :
    (s.ckHeader num rtc nrec).neverBoth = s.neverBoth := by
  simp -implicitDefEqProofs [State.ckHeader]
@[simp] theorem State.holdGroup_neverBoth (s : State) (g) : (s.holdGroup g).neverBoth = s.neverBoth := by
  simp -implicitDefEqProofs [State.holdGroup]
@[simp] theorem State.drvForget_neverBoth (s : State) (d) : (s.drvForget d).neverBoth = s.neverBoth := by
  simp -implicitDefEqProofs [State.drvForget]
@[simp] theorem State.becomeActive_neverBoth (s : State) : (s.becomeActive).neverBoth = s.neverBoth := by
  simp -implicitDefEqProofs [State.becomeActive]
@[simp] theorem State.folioSlice_neverBoth (s : State) : (s.folioSlice).2.neverBoth = s.neverBoth := by
  simp -implicitDefEqProofs [State.folioSlice]
@[simp] theorem State.sliceFail_neverBoth (s : State) (k detail) : (s.sliceFail k detail).neverBoth = s.neverBoth := by
  simp -implicitDefEqProofs [State.sliceFail]
@[simp] theorem State.selfTest_neverBoth (s : State) (r) : (s.selfTest r).neverBoth = s.neverBoth := by
  unfold State.selfTest
  dsimp only
  rw [State.inc_neverBoth]
  split
  all_goals
    simp -implicitDefEqProofs
    split <;> simp -implicitDefEqProofs
@[simp] theorem State.setPin_neverBoth (s : State) (c b) : (s.setPin c b).neverBoth = s.neverBoth := by
  simp -implicitDefEqProofs [State.setPin]
@[simp] theorem State.curPins_neverBoth (s : State) (set clear) : (s.curPins set clear).neverBoth = s.neverBoth := by
  simp -implicitDefEqProofs [State.curPins]
@[simp] theorem State.curAct_neverBoth (s : State) : (s.curAct).neverBoth = s.neverBoth := by
  unfold State.curAct
  dsimp only
  split
  · simp -implicitDefEqProofs
  · split <;> simp -implicitDefEqProofs

/-! #### Checks -/

@[simp] theorem State.commitWord_neverBoth (s : State) (a v) : (s.commitWord a v).neverBoth = s.neverBoth := by
  simp -implicitDefEqProofs [State.commitWord]
@[simp] theorem State.commitShadow_neverBoth (s : State) : (s.commitShadow).neverBoth = s.neverBoth := by
  simp -implicitDefEqProofs [State.commitShadow]
@[simp] theorem State.pushShadow_neverBoth (s : State) (a v) : (s.pushShadow a v).neverBoth = s.neverBoth := by
  simp -implicitDefEqProofs [State.pushShadow]

/-! #### Start-up -/

@[simp] theorem State.imageMem_neverBoth (s : State) (a w) : (s.imageMem a w).neverBoth = s.neverBoth := by
  simp -implicitDefEqProofs [State.imageMem]
@[simp] theorem State.imageReg_neverBoth (s : State) (idx a w) : (s.imageReg idx a w).neverBoth = s.neverBoth := by
  unfold State.imageReg
  repeat' split
  all_goals simp -implicitDefEqProofs
@[simp] theorem State.imageWrite_neverBoth (s : State) (idx a w) : (s.imageWrite idx a w).neverBoth = s.neverBoth := by
  simp -implicitDefEqProofs [State.imageWrite]
@[simp] theorem State.recordWords_neverBoth (s : State) (ram e a l) :
    (State.recordWords s ram e a l).1.neverBoth = s.neverBoth := by
  induction l generalizing s a with
  | nil => simp -implicitDefEqProofs [State.recordWords]
  | cons w r ih => simp -implicitDefEqProofs [State.recordWords, ih]
@[simp] theorem State.records_neverBoth (s : State) (ram e fuel l) :
    (State.records s ram e fuel l).1.neverBoth = s.neverBoth := by
  induction fuel generalizing s l with
  | zero => rfl
  | succ fuel ih => simp -implicitDefEqProofs [State.records, ih]
@[simp] theorem State.applySection_neverBoth (s : State) (ram e rest b) :
    (s.applySection ram e rest b).1.neverBoth = s.neverBoth := by
  simp -implicitDefEqProofs [State.applySection]
@[simp] theorem State.loopBoot_neverBoth (s : State) : (s.loopBoot).neverBoth = s.neverBoth := by
  simp -implicitDefEqProofs [State.loopBoot]
@[simp] theorem State.trimFf_neverBoth (s : State) (a) : (s.trimFf a).neverBoth = s.neverBoth := by
  unfold State.trimFf
  split <;> simp -implicitDefEqProofs
@[simp] theorem State.trimFfsrc_neverBoth (s : State) : (s.trimFfsrc).neverBoth = s.neverBoth := by
  simp -implicitDefEqProofs [State.trimFfsrc]
@[simp] theorem State.toSelfTest_neverBoth (s : State) : (s.toSelfTest).neverBoth = s.neverBoth := by
  simp -implicitDefEqProofs [State.toSelfTest]
@[simp] theorem State.imageUp_neverBoth (s : State) : (s.imageUp).neverBoth = s.neverBoth := by
  simp -implicitDefEqProofs [State.imageUp]
@[simp] theorem State.slotFail_neverBoth (s : State) (code sect) : (s.slotFail code sect).neverBoth = s.neverBoth := by
  simp -implicitDefEqProofs [State.slotFail]
@[simp] theorem State.slotEnd_neverBoth (s : State) : (s.slotEnd).neverBoth = s.neverBoth := by
  unfold State.slotEnd
  split <;> simp -implicitDefEqProofs
@[simp] theorem State.slotStart_neverBoth (s : State) (k t c) : (s.slotStart k t c).neverBoth = s.neverBoth := by
  simp -implicitDefEqProofs only [State.slotStart]
  split <;> simp -implicitDefEqProofs
@[simp] theorem State.enterRecovery_neverBoth (s : State) : (s.enterRecovery).neverBoth = s.neverBoth := by
  simp -implicitDefEqProofs [State.enterRecovery]
@[simp] theorem State.stagedSections_neverBoth (s : State) (l) : (s.stagedSections l).neverBoth = s.neverBoth := by
  induction l generalizing s with
  | nil => simp -implicitDefEqProofs [State.stagedSections]
  | cons e rest ih => simp -implicitDefEqProofs [State.stagedSections, ih]
@[simp] theorem State.stagedApply_neverBoth (s : State) : (s.stagedApply).neverBoth = s.neverBoth := by
  simp -implicitDefEqProofs [State.stagedApply]
@[simp] theorem State.bootRam_neverBoth (s : State) : (s.bootRam).neverBoth = s.neverBoth := by
  simp -implicitDefEqProofs [State.bootRam]
@[simp] theorem State.progSlot_neverBoth (s : State) (k) : (s.progSlot k).neverBoth = s.neverBoth := by
  simp -implicitDefEqProofs [State.progSlot]
@[simp] theorem State.takeFlash_neverBoth (s : State) (f) : (s.takeFlash f).neverBoth = s.neverBoth := by
  simp -implicitDefEqProofs [State.takeFlash]
@[simp] theorem State.countStart_neverBoth (s : State) : (s.countStart).neverBoth = s.neverBoth := by
  simp -implicitDefEqProofs [State.countStart]
@[simp] theorem State.frameStart_neverBoth (s : State) : (s.frameStart).neverBoth = s.neverBoth := by
  simp -implicitDefEqProofs [State.frameStart]

/-! #### Accesses of masters -/

@[simp] theorem State.plainWrite_neverBoth (s : State) (a w) : (s.plainWrite a w).1.neverBoth = s.neverBoth := by
  unfold State.plainWrite
  split <;> simp -implicitDefEqProofs
@[simp] theorem State.bootCtlWrite_neverBoth (s : State) (w) : (s.bootCtlWrite w).1.neverBoth = s.neverBoth := by
  unfold State.bootCtlWrite
  split
  · rfl
  · split
    · rfl
    · split <;> simp -implicitDefEqProofs
  · rfl
@[simp] theorem State.holdWrite_neverBoth (s : State) (w) : (s.holdWrite w).1.neverBoth = s.neverBoth := by
  simp -implicitDefEqProofs [State.holdWrite, onWrite]
@[simp] theorem State.bootWrite_neverBoth (s : State) (a w) : (s.bootWrite a w).1.neverBoth = s.neverBoth := by
  simp -implicitDefEqProofs [State.bootWrite]
@[simp] theorem State.adcWrite_neverBoth (s : State) (a w) : (s.adcWrite a w).1.neverBoth = s.neverBoth := by
  simp -implicitDefEqProofs [State.adcWrite, onWrite]
@[simp] theorem State.seqWrite_neverBoth (s : State) (a w) : (s.seqWrite a w).1.neverBoth = s.neverBoth := by
  simp -implicitDefEqProofs [State.seqWrite, onWrite]
@[simp] theorem State.modeCmdWrite_neverBoth (s : State) (w) : (s.modeCmdWrite w).1.neverBoth = s.neverBoth := by
  simp -implicitDefEqProofs [State.modeCmdWrite]
@[simp] theorem State.ceWrite_neverBoth (s : State) (a w) : (s.ceWrite a w).1.neverBoth = s.neverBoth := by
  simp -implicitDefEqProofs [State.ceWrite]
@[simp] theorem State.almWrite_neverBoth (s : State) (a w) : (s.almWrite a w).1.neverBoth = s.neverBoth := by
  simp -implicitDefEqProofs [State.almWrite]
@[simp] theorem State.canCtlWrite_neverBoth (s : State) (c w busy) :
    (s.canCtlWrite c w busy).1.neverBoth = s.neverBoth := by
  simp -implicitDefEqProofs [State.canCtlWrite, onWrite]
@[simp] theorem State.canWrite_neverBoth (s : State) (c o a w) : (s.canWrite c o a w).1.neverBoth = s.neverBoth := by
  simp -implicitDefEqProofs [State.canWrite]
@[simp] theorem State.zpWrite_neverBoth (s : State) (a w) : (s.zpWrite a w).1.neverBoth = s.neverBoth := by
  simp -implicitDefEqProofs [State.zpWrite, onWrite]
@[simp] theorem State.folWrite_neverBoth (s : State) (a w) : (s.folWrite a w).1.neverBoth = s.neverBoth := by
  simp -implicitDefEqProofs [State.folWrite]
@[simp] theorem State.pnlWrite_neverBoth (s : State) (a w) : (s.pnlWrite a w).1.neverBoth = s.neverBoth := by
  simp -implicitDefEqProofs [State.pnlWrite, onWrite]
@[simp] theorem State.ldgWrite_neverBoth (s : State) (a w) : (s.ldgWrite a w).1.neverBoth = s.neverBoth := by
  simp -implicitDefEqProofs [State.ldgWrite]
@[simp] theorem State.ownedWrite_neverBoth (s : State) (a w m free) :
    (s.ownedWrite a w m free).1.neverBoth = s.neverBoth := by
  simp -implicitDefEqProofs [State.ownedWrite]
@[simp] theorem State.memWrite_neverBoth (s : State) (a w) : (s.memWrite a w).1.neverBoth = s.neverBoth := by
  unfold State.memWrite
  split <;> simp -implicitDefEqProofs [onWrite]
@[simp] theorem State.report_neverBoth (x : State × Bool) (who a) :
    (State.report x who a).neverBoth = x.1.neverBoth := by
  simp -implicitDefEqProofs [State.report]
@[simp] theorem State.encRead_neverBoth (s : State) (a) : (s.encRead a).2.neverBoth = s.neverBoth := by
  simp -implicitDefEqProofs [State.encRead]
@[simp] theorem State.busRead_neverBoth (s : State) (a) : (s.busRead a).2.neverBoth = s.neverBoth := by
  simp -implicitDefEqProofs [State.busRead]

/-! #### Requests of masters -/

@[simp] theorem State.folSend_neverBoth (s : State) (r i j) : (s.folSend r i j).1.neverBoth = s.neverBoth := by
  simp -implicitDefEqProofs [State.folSend]
@[simp] theorem State.portEnd_neverBoth (s : State) (r) : (s.portEnd r).neverBoth = s.neverBoth := by
  simp -implicitDefEqProofs [State.portEnd]
@[simp] theorem State.partnerReply_neverBoth (s : State) (b node seq status words) :
    (s.partnerReply b node seq status words).neverBoth = s.neverBoth := by
  simp -implicitDefEqProofs [State.partnerReply]
@[simp] theorem State.reqEnd_neverBoth (s : State) (r) : (s.reqEnd r).neverBoth = s.neverBoth := by
  unfold State.reqEnd
  dsimp only
  split
  · simp -implicitDefEqProofs
  · simp -implicitDefEqProofs
  · split <;> simp -implicitDefEqProofs
  · rfl
@[simp] theorem State.portAbort_neverBoth (s : State) : (s.portAbort).neverBoth = s.neverBoth := by
  simp -implicitDefEqProofs [State.portAbort]
@[simp] theorem State.folAbort_neverBoth (s : State) (r) : (s.folAbort r).neverBoth = s.neverBoth := by
  simp -implicitDefEqProofs [State.folAbort]
@[simp] theorem State.masterOpBy_neverBoth {s : State} {f : State → State × Bool}
    (h : (f s).1.neverBoth = s.neverBoth) (m a) : (s.masterOpBy m a f).neverBoth = s.neverBoth := by
  simp -implicitDefEqProofs [State.masterOpBy, h]

/-! #### The tick and events of the clocks -/

@[simp] theorem State.commitStaged_neverBoth (s : State) (x) : (s.commitStaged x).neverBoth = s.neverBoth := by
  unfold State.commitStaged
  split <;> simp -implicitDefEqProofs
@[simp] theorem State.almIdle_neverBoth (s : State) : (s.almIdle).neverBoth = s.neverBoth := by
  simp -implicitDefEqProofs [State.almIdle]
@[simp] theorem State.almCommit_neverBoth (s : State) : (s.almCommit).neverBoth = s.neverBoth := by
  simp -implicitDefEqProofs [State.almCommit]
@[simp] theorem State.almArm_neverBoth (s : State) : (s.almArm).neverBoth = s.neverBoth := by
  simp -implicitDefEqProofs [State.almArm]
@[simp] theorem State.frameCount_neverBoth (s : State) : (s.frameCount).neverBoth = s.neverBoth := by
  simp -implicitDefEqProofs [State.frameCount]
@[simp] theorem State.tickPwm_neverBoth (s : State) : (s.tickPwm).neverBoth = s.neverBoth := by
  simp -implicitDefEqProofs [State.tickPwm]
@[simp] theorem State.tickShadow_neverBoth (s : State) : (s.tickShadow).neverBoth = s.neverBoth := by
  simp -implicitDefEqProofs [State.tickShadow]
@[simp] theorem State.tickClear_neverBoth (s : State) : (s.tickClear).neverBoth = s.neverBoth := by
  simp -implicitDefEqProofs [State.tickClear]
@[simp] theorem State.firstTick_neverBoth (s : State) : (s.firstTick).neverBoth = s.neverBoth := by
  simp -implicitDefEqProofs [State.firstTick]
@[simp] theorem State.curatorTick_neverBoth (s : State) : (s.curatorTick).neverBoth = s.neverBoth := by
  simp -implicitDefEqProofs [State.curatorTick]
@[simp] theorem State.tickCatalogue_neverBoth (s : State) (di) : (s.tickCatalogue di).neverBoth = s.neverBoth := by
  simp -implicitDefEqProofs [State.tickCatalogue]
@[simp] theorem State.plantSecond_neverBoth (s : State) : (s.plantSecond).neverBoth = s.neverBoth := by
  simp -implicitDefEqProofs [State.plantSecond]
@[simp] theorem State.setPiEdges_neverBoth (s : State) (n k) : (s.setPiEdges n k).neverBoth = s.neverBoth := by
  simp -implicitDefEqProofs [State.setPiEdges]
@[simp] theorem State.pulseLatch_neverBoth (s : State) (n period high) :
    (s.pulseLatch n period high).neverBoth = s.neverBoth := by
  simp -implicitDefEqProofs [State.pulseLatch]

/-! ### What turns switches on or off, and every command (R175)

No phase has both of its switches on after a function of the model, where none had before. -/

section

variable {α : Type} {s : State}

/-! #### The state, registers and operands -/

theorem State.setGrp_apart {f : Group → Group} (hf : ∀ q, q.apart = true → (f q).apart = true) (h : s.neverBoth = true)
    (g) : (s.setGrp g f).neverBoth = true := all_updAt h hf

theorem State.each_apart {f : State → α → State} (hf : ∀ t x, t.neverBoth = true → (f t x).neverBoth = true)
    (h : s.neverBoth = true) (l : List α) : (s.each l f).neverBoth = true := by
  induction l generalizing s with
  | nil => exact h
  | cons x r ih => exact ih (hf s x h)

@[simp] theorem State.cond_apart {f : State → State} (hf : (f s).neverBoth = true) (h : s.neverBoth = true) (b) :
    (s.cond b f).neverBoth = true := by
  cases b
  · exact h
  · exact hf

/-- What an outcome answers, if a state, has no phase with both of its switches on. -/
def apartOut (o : Host.Outcome State Fault Refusal) : Prop :=
  match o with
  | .next t => t.neverBoth = true
  | _ => True

@[simp] theorem apartOut_next : apartOut (.next s) = (s.neverBoth = true) := rfl

@[simp] theorem apartOut_refused (r) : apartOut (.refused r) = True := rfl

@[simp] theorem apartOut_ite {c : Prop} [Decidable c] (x y) :
    apartOut (if c then x else y) = if c then apartOut x else apartOut y := apply_ite apartOut c x y

/-! #### The PWM array -/

@[simp] theorem State.switchesOff_apart (h : s.neverBoth = true) (g t) : (s.switchesOff g t).neverBoth = true := by
  unfold State.switchesOff
  exact State.setGrp_apart (fun q _ => by simp [Phase.allOff, Phase.apart]) h g
@[simp] theorem State.groupForce_apart (h : s.neverBoth = true) (g) :
    (s.groupForce g).neverBoth = true := by
  simp -implicitDefEqProofs [State.groupForce, h]
@[simp] theorem State.groupOff_apart (h : s.neverBoth = true) (g) : (s.groupOff g).neverBoth = true := by
  simp -implicitDefEqProofs [State.groupOff, h]
@[simp] theorem execCarrierValley_apart (h : s.neverBoth = true) (g trips) :
    apartOut (execCarrierValley g trips s) := by
  simp -implicitDefEqProofs [execCarrierValley, h]
@[simp] theorem execCarrierPeak_apart (h : s.neverBoth = true) (g) : apartOut (execCarrierPeak g s) := by
  simp -implicitDefEqProofs [execCarrierPeak, h]
@[simp] theorem execPeakWidthCopy_apart (h : s.neverBoth = true) (d) :
    apartOut (execPeakWidthCopy d s) := by
  unfold execPeakWidthCopy
  rw [apartOut_next]
  split <;> simp -implicitDefEqProofs [h]
@[simp] theorem State.startCut_apart (h : s.neverBoth = true) (g pc) :
    (s.startCut g pc).neverBoth = true := by
  simp -implicitDefEqProofs [State.startCut, h]
@[simp] theorem State.tripCuts_apart (h : s.neverBoth = true) (n t) :
    (s.tripCuts n t).neverBoth = true := by
  unfold State.tripCuts
  exact State.each_apart (fun t g ht => by simp -implicitDefEqProofs [ht]) (by simp -implicitDefEqProofs [h]) _
@[simp] theorem execTripRegistered_apart (h : s.neverBoth = true) (n t) :
    apartOut (execTripRegistered n t s) := by
  simp -implicitDefEqProofs [execTripRegistered, h]
theorem Phase.edge_apart {p : Phase} (h : p.apart = true) (c d m : Int) (ok : Bool) :
    (p.edge c d m ok).1.apart = true := by
  unfold Phase.edge
  unfold Phase.apart at *
  grind

theorem State.grp_apart (h : s.neverBoth = true) (g : Nat) : (s.grp g).apart = true := by
  unfold State.grp
  rw [List.getD_eq_getElem?_getD]
  cases hq : s.pwm.groups[g]? with
  | none => rfl
  | some q => exact List.all_eq_true.mp h q (List.mem_of_getElem? hq)

theorem Group.set_apart {q : Group} (h : q.apart = true) (x : Nat) {p : Phase} (hp : p.apart = true) :
    (q.ph.set x p).all Phase.apart = true := by
  rw [List.all_eq_true]
  intro y hy
  rcases List.mem_or_eq_of_mem_set hy with hy | rfl
  · exact List.all_eq_true.mp h y hy
  · exact hp

@[simp] theorem State.phaseEdge_apart (h : s.neverBoth = true) (g x c ok) :
    (s.phaseEdge g x c ok).neverBoth = true := by
  unfold State.phaseEdge
  split
  · exact h
  · split
    · exact h
    next p hp =>
      have apart := List.all_eq_true.mp (State.grp_apart h g) p (List.mem_of_getElem? hp)
      have edge := Phase.edge_apart apart c (s.f (F.PWM_G_DEADTIME_DT g)) (s.f (F.PWM_G_DEADTIME_MINP g)) ok
      have set :=
  State.setGrp_apart (f := fun q => { q with ph := q.ph.set x _ }) (fun _ hq => Group.set_apart hq x edge) h g
      simp -implicitDefEqProofs [set]
@[simp] theorem execGpPeriodStart_apart (h : s.neverBoth = true) (c) :
    apartOut (execGpPeriodStart c s) := by
  simp -implicitDefEqProofs [execGpPeriodStart, h]
@[simp] theorem execSwitchEdge_apart (h : s.neverBoth = true) (t clk padOk) :
    apartOut (execSwitchEdge t clk padOk s) := by
  unfold execSwitchEdge
  rw [apartOut_next]
  split
  · split <;> simp -implicitDefEqProofs [h]
  · exact h
@[simp] theorem State.outputsSafe_apart (h : s.neverBoth = true) : (s.outputsSafe).neverBoth = true := by
  unfold State.outputsSafe
  have forced := State.each_apart (f := (·.groupForce ·)) (fun t g ht => State.groupForce_apart ht g) h (List.range 6)
  simp -implicitDefEqProofs [forced]
@[simp] theorem State.safeAssert_apart (h : s.neverBoth = true) (src) :
    (s.safeAssert src).neverBoth = true := by
  simp -implicitDefEqProofs [State.safeAssert, h]
@[simp] theorem State.offWritten_apart (h : s.neverBoth = true) (g) :
    (s.offWritten g).neverBoth = true := by
  simp -implicitDefEqProofs [State.offWritten, h]
@[simp] theorem State.enWritten_apart (h : s.neverBoth = true) (g) : (s.enWritten g).neverBoth = true := by
  simp -implicitDefEqProofs [State.enWritten, h]

/-! #### The drive chain -/

@[simp] theorem State.driveFault_apart (h : s.neverBoth = true) (d bits) :
    (s.driveFault d bits).neverBoth = true := by
  simp -implicitDefEqProofs [State.driveFault, h]
@[simp] theorem State.overrunFault_apart (h : s.neverBoth = true) (d) :
    (s.overrunFault d).neverBoth = true := by
  simp -implicitDefEqProofs [State.overrunFault, h]
@[simp] theorem State.driveHalt_apart (h : s.neverBoth = true) (d) : (s.driveHalt d).neverBoth = true := by
  simp -implicitDefEqProofs [State.driveHalt, h]
@[simp] theorem State.driveTake_apart (h : s.neverBoth = true) (d ntc level) :
    (s.driveTake d ntc level).neverBoth = true := by
  unfold State.driveTake
  split <;> simp -implicitDefEqProofs [h]
@[simp] theorem State.driveAdvance_apart (h : s.neverBoth = true) (d) :
    (s.driveAdvance d).neverBoth = true := by
  simp -implicitDefEqProofs [State.driveAdvance, h]
@[simp] theorem State.front_apart (h : s.neverBoth = true) (d) : (s.front d).neverBoth = true := by
  have fault : ∀ (c : Prop) [Decidable c] (t : State) (bits : Nat), t.neverBoth = true →
      (if c then t.driveFault d bits else t).neverBoth = true :=
    fun c _ t bits ht => by split <;> simp -implicitDefEqProofs [ht]
  unfold State.front
  refine fault _ _ _ ?_
  simp -implicitDefEqProofs only [neverBoth_ite, State.setDr_neverBoth, State.setDrI_neverBoth, State.setDrv_neverBoth,
    State.setB_neverBoth, State.setI_neverBoth, State.setF_neverBoth, State.putLoop_neverBoth,
    State.chainMode_neverBoth, State.enter_neverBoth, State.driveResume_neverBoth, ite_self,
    State.driveAdvance_apart, State.driveTake_apart, State.derate_neverBoth, h]

/-! #### The sequencer -/

@[simp] theorem execInjectedTriggerDue_apart (h : s.neverBoth = true) (n t) :
    apartOut (execInjectedTriggerDue n t s) := by
  unfold execInjectedTriggerDue
  rw [apartOut_next]
  split <;> simp -implicitDefEqProofs [h]
@[simp] theorem execInjectedSequenceStart_apart (h : s.neverBoth = true) (n j) :
    apartOut (execInjectedSequenceStart n j s) := by
  simp -implicitDefEqProofs [execInjectedSequenceStart, h]
@[simp] theorem execRegularTriggerDue_apart (h : s.neverBoth = true) :
    apartOut (execRegularTriggerDue s) := by
  unfold execRegularTriggerDue
  rw [apartOut_next]
  split <;> simp -implicitDefEqProofs [h]
@[simp] theorem execRegularPassStart_apart (h : s.neverBoth = true) (j) :
    apartOut (execRegularPassStart s j) := by
  simp -implicitDefEqProofs [execRegularPassStart, h]
@[simp] theorem execRegularPassEnd_apart (h : s.neverBoth = true) : apartOut (execRegularPassEnd s) := by
  simp -implicitDefEqProofs [execRegularPassEnd, h]
@[simp] theorem execConversionResult_apart (h : s.neverBoth = true) (core c) :
    apartOut (execConversionResult core c s) := by
  unfold execConversionResult
  rw [apartOut_next]
  split <;> simp -implicitDefEqProofs [h]

/-! #### Calibration -/

@[simp] theorem execCalibrationCycleDue_apart (h : s.neverBoth = true) :
    apartOut (execCalibrationCycleDue s) := by
  simp -implicitDefEqProofs [execCalibrationCycleDue, h]
@[simp] theorem execCoreCalibrationEnd_apart (h : s.neverBoth = true) (trim weights) :
    apartOut (execCoreCalibrationEnd trim weights s) := by
  unfold execCoreCalibrationEnd
  rw [apartOut_next]
  split <;> simp -implicitDefEqProofs [h]
@[simp] theorem execCalibrationHandoff_apart (h : s.neverBoth = true) (j) :
    apartOut (execCalibrationHandoff s j) := by
  simp -implicitDefEqProofs [execCalibrationHandoff, h]
@[simp] theorem execHandoffDeadline_apart (h : s.neverBoth = true) : apartOut (execHandoffDeadline s) := by
  simp -implicitDefEqProofs [execHandoffDeadline, h]
@[simp] theorem execCalibrationRetry_apart (h : s.neverBoth = true) :
    apartOut (execCalibrationRetry s) := by
  simp -implicitDefEqProofs [execCalibrationRetry, h]
@[simp] theorem execCalibrationHandback_apart (h : s.neverBoth = true) (j) :
    apartOut (execCalibrationHandback s j) := by
  simp -implicitDefEqProofs [execCalibrationHandback, h]
@[simp] theorem execLateHandback_apart (h : s.neverBoth = true) : apartOut (execLateHandback s) := by
  simp -implicitDefEqProofs [execLateHandback, h]
@[simp] theorem execCaptureSample_apart (h : s.neverBoth = true) : apartOut (execCaptureSample s) := by
  unfold execCaptureSample
  rw [apartOut_next]
  split <;> simp -implicitDefEqProofs [h]
@[simp] theorem execAlmanacEvaluationStart_apart (h : s.neverBoth = true) :
    apartOut (execAlmanacEvaluationStart s) := by
  simp -implicitDefEqProofs [execAlmanacEvaluationStart, h]
@[simp] theorem execAlmanacEvaluationEnd_apart (h : s.neverBoth = true) :
    apartOut (execAlmanacEvaluationEnd s) := by
  simp -implicitDefEqProofs [execAlmanacEvaluationEnd, h]

/-! #### The bus controllers -/

@[simp] theorem execRateDetectionDone_apart (h : s.neverBoth = true) (c nrate drate rounds) :
    apartOut (execRateDetectionDone c nrate drate rounds s) := by
  simp -implicitDefEqProofs [execRateDetectionDone, h]
@[simp] theorem execFrameReceived_apart (h : s.neverBoth = true) (c f ago pos) :
    apartOut (execFrameReceived c f ago pos s) := by
  simp -implicitDefEqProofs [execFrameReceived, h]
@[simp] theorem execCancelTaken_apart (h : s.neverBoth = true) (c n) :
    apartOut (execCancelTaken c n s) := by
  simp -implicitDefEqProofs [execCancelTaken, h]
@[simp] theorem execTransmitCommit_apart (h : s.neverBoth = true) (c) :
    apartOut (execTransmitCommit c s) := by
  unfold execTransmitCommit
  rw [apartOut_next]
  split
  · split <;> simp -implicitDefEqProofs [h]
  · exact h
@[simp] theorem execArbitrationLost_apart (h : s.neverBoth = true) (c) :
    apartOut (execArbitrationLost c s) := by
  unfold execArbitrationLost
  rw [apartOut_next]
  split <;> simp -implicitDefEqProofs [h]
@[simp] theorem execTransmitSuccess_apart (h : s.neverBoth = true) (c ago pos tdc) :
    apartOut (execTransmitSuccess c ago pos tdc s) := by
  unfold execTransmitSuccess
  rw [apartOut_next]
  split <;> simp -implicitDefEqProofs [h]
@[simp] theorem execBusError_apart (h : s.neverBoth = true) (c e) : apartOut (execBusError c e s) := by
  unfold execBusError
  rw [apartOut_next]
  dsimp only
  repeat' split
  all_goals simp -implicitDefEqProofs [h]
@[simp] theorem execProtocolException_apart (h : s.neverBoth = true) (c) :
    apartOut (execProtocolException c s) := by
  simp -implicitDefEqProofs [execProtocolException, h]
@[simp] theorem execAloneProbe_apart (h : s.neverBoth = true) (c) : apartOut (execAloneProbe c s) := by
  unfold execAloneProbe
  rw [apartOut_next]
  split
  · dsimp only
    split <;> simp -implicitDefEqProofs [h]
  · exact h

/-! #### The lanes -/

@[simp] theorem State.startChain_apart (h : s.neverBoth = true) (l d t) :
    (s.startChain l d t).neverBoth = true := by
  simp -implicitDefEqProofs [State.startChain, h]
@[simp] theorem State.tryChain_apart (h : s.neverBoth = true) (l) : (s.tryChain l).neverBoth = true := by
  unfold State.tryChain
  dsimp only
  split
  · exact h
  · split <;> simp -implicitDefEqProofs [h]
@[simp] theorem execItemStart_apart (h : s.neverBoth = true) (lane) : apartOut (execItemStart lane s) := by
  unfold execItemStart
  rw [apartOut_next]
  dsimp only
  repeat' split
  all_goals simp -implicitDefEqProofs [h]
@[simp] theorem execC0Release_apart (h : s.neverBoth = true) (d w) : apartOut (execC0Release d w s) := by
  simp -implicitDefEqProofs [execC0Release, h]
@[simp] theorem execItemComplete_apart (h : s.neverBoth = true) (lane) :
    apartOut (execItemComplete lane s) := by
  unfold execItemComplete
  rw [apartOut_next]
  split <;> simp -implicitDefEqProofs [h]
@[simp] theorem execDriveBack_apart (h : s.neverBoth = true) (lane) : apartOut (execDriveBack lane s) := by
  unfold execDriveBack
  rw [apartOut_next]
  dsimp only
  split <;> simp -implicitDefEqProofs [h]
@[simp] theorem State.overrun_apart (h : s.neverBoth = true) (d) : (s.overrun d).neverBoth = true := by
  simp -implicitDefEqProofs [State.overrun, h]
@[simp] theorem State.judgeChains_apart (h : s.neverBoth = true) : (s.judgeChains).neverBoth = true := by
  unfold State.judgeChains
  exact State.each_apart (fun t d ht => by simp -implicitDefEqProofs [ht]) h _
@[simp] theorem State.closeFrame_apart (h : s.neverBoth = true) : (s.closeFrame).neverBoth = true := by
  simp -implicitDefEqProofs [State.closeFrame, h]

/-! #### Folio -/

@[simp] theorem execFolioJobStart_apart (h : s.neverBoth = true) : apartOut (execFolioJobStart s) := by
  unfold execFolioJobStart
  rw [apartOut_next]
  repeat' split
  all_goals simp -implicitDefEqProofs [h]
@[simp] theorem State.pfi_apart (h : s.neverBoth = true) : (s.pfi).neverBoth = true := by
  simp -implicitDefEqProofs [State.pfi, h]
@[simp] theorem execPowerDownSaveEnd_apart (h : s.neverBoth = true) :
    apartOut (execPowerDownSaveEnd s) := by
  unfold execPowerDownSaveEnd
  rw [apartOut_next]
  split <;> simp -implicitDefEqProofs [h]

/-! #### Resets -/

@[simp] theorem State.clearRun_apart (s : State) : s.clearRun.neverBoth = true := by
  rfl
@[simp] theorem State.otherReset_apart (s : State) (cause) : (s.otherReset cause).neverBoth = true := by
  simp -implicitDefEqProofs [State.otherReset]
@[simp] theorem State.powerReset_apart (s : State) (core) : (s.powerReset core).neverBoth = true := by
  simp -implicitDefEqProofs [State.powerReset]
@[simp] theorem State.pinsLow_apart (h : s.neverBoth = true) : (s.pinsLow).neverBoth = true := by
  unfold State.pinsLow
  have forced := State.each_apart (f := (·.groupForce ·)) (fun t g ht => State.groupForce_apart ht g) h (List.range 6)
  simp -implicitDefEqProofs [forced]

/-! #### Thermal watch -/

@[simp] theorem State.hotEnter_apart (h : s.neverBoth = true) : (s.hotEnter).neverBoth = true := by
  simp -implicitDefEqProofs [State.hotEnter, h]
@[simp] theorem State.thermalDecide_apart (h : s.neverBoth = true) :
    (s.thermalDecide).neverBoth = true := by
  simp -implicitDefEqProofs [State.thermalDecide, h]
@[simp] theorem State.thermalSample_apart (h : s.neverBoth = true) (t) :
    (s.thermalSample t).neverBoth = true := by
  unfold State.thermalSample
  dsimp only
  split <;> simp -implicitDefEqProofs [h]
@[simp] theorem execSensorTestSample_apart (h : s.neverBoth = true) (d0 d1 d2 d3) :
    apartOut (execSensorTestSample d0 d1 d2 d3 s) := by
  simp -implicitDefEqProofs [execSensorTestSample, h]
@[simp] theorem State.comparator_apart (h : s.neverBoth = true) (above) :
    (s.comparator above).neverBoth = true := by
  simp -implicitDefEqProofs [State.comparator, h]
@[simp] theorem execThermalHaltEntry_apart (h : s.neverBoth = true) :
    apartOut (execThermalHaltEntry s) := by
  simp -implicitDefEqProofs [execThermalHaltEntry, h]

/-! #### Panel -/

@[simp] theorem State.comboAct_apart (h : s.neverBoth = true) (n) : (s.comboAct n).neverBoth = true := by
  unfold State.comboAct
  dsimp only
  split <;> simp -implicitDefEqProofs [h]
@[simp] theorem State.comboStep_apart (h : s.neverBoth = true) (dt n) :
    (s.comboStep dt n).neverBoth = true := by
  simp -implicitDefEqProofs [State.comboStep, h]
@[simp] theorem execKeyScanEnd_apart (h : s.neverBoth = true) (keys) :
    apartOut (execKeyScanEnd keys s) := by
  unfold execKeyScanEnd
  rw [apartOut_next]
  split
  · exact h
  · exact State.each_apart (fun t n ht => State.comboStep_apart ht _ n) (by simp -implicitDefEqProofs [h]) _
@[simp] theorem execScannerWakeTimeout_apart (h : s.neverBoth = true) :
    apartOut (execScannerWakeTimeout s) := by
  simp -implicitDefEqProofs [execScannerWakeTimeout, h]
@[simp] theorem execEncoderDetent_apart (h : s.neverBoth = true) (k path) :
    apartOut (execEncoderDetent k path s) := by
  simp -implicitDefEqProofs [execEncoderDetent, h]
@[simp] theorem execEncoderSwitchPress_apart (h : s.neverBoth = true) (k down) :
    apartOut (execEncoderSwitchPress k s down) := by
  simp -implicitDefEqProofs [execEncoderSwitchPress, h]

/-! #### Ledger, Annals and Foxing -/

@[simp] theorem execSnapshot_apart (h : s.neverBoth = true) : apartOut (execSnapshot s) := by
  unfold execSnapshot
  rw [apartOut_next]
  split <;> simp -implicitDefEqProofs [h]
@[simp] theorem execAnnalsRingWrite_apart (h : s.neverBoth = true) : apartOut (execAnnalsRingWrite s) := by
  unfold execAnnalsRingWrite
  rw [apartOut_next]
  split
  · exact h
  · dsimp only
    split <;> simp -implicitDefEqProofs [h]
@[simp] theorem execPersistentLogReadEnd_apart (h : s.neverBoth = true) :
    apartOut (execPersistentLogReadEnd s) := by
  simp -implicitDefEqProofs [execPersistentLogReadEnd, h]
@[simp] theorem execFoxingScan_apart (h : s.neverBoth = true) (slack bgdiff cref) :
    apartOut (execFoxingScan slack bgdiff cref s) := by
  simp -implicitDefEqProofs [execFoxingScan, h]
@[simp] theorem execFoxingReplan_apart (h : s.neverBoth = true) : apartOut (execFoxingReplan s) := by
  simp -implicitDefEqProofs [execFoxingReplan, h]
@[simp] theorem execAonSecond_apart (h : s.neverBoth = true) : apartOut (execAonSecond s) := by
  simp -implicitDefEqProofs [execAonSecond, h]

/-! #### The Zone Protocol layer -/

theorem State.zpProcess_apart {f : State → ZpRx → State}
    (hf : ∀ t x, t.neverBoth = true → (f t x).neverBoth = true) (h : s.neverBoth = true) (b c) :
    (s.zpProcess b c f).neverBoth = true := by
  unfold State.zpProcess
  split
  · split
    next t hx =>
      have := s.zpNext_neverBoth b 65
      rw [hx] at this
      exact this.trans h
    next t x hx =>
      have ht : t.neverBoth = true := by
        have := s.zpNext_neverBoth b 65
        rw [hx] at this
        exact this.trans h
      have hu := hf t x ht
      split <;> simp -implicitDefEqProofs [ht, hu]
  · exact h

@[simp] theorem State.zpChecked_apart {f : State → State} (hf : (f s).neverBoth = true) (h : s.neverBoth = true)
    (b x len rng form) : (s.zpChecked b x len rng form f).neverBoth = true := by
  unfold State.zpChecked
  repeat' split
  all_goals simp -implicitDefEqProofs [h, hf]

@[simp] theorem State.zpJoined_apart {f : State → State} (hf : (f (s.zpHeard b x.src)).neverBoth = true)
    (h : s.neverBoth = true) (len rng form) : (s.zpJoined b x len rng form f).neverBoth = true := by
  unfold State.zpJoined
  refine State.zpChecked_apart ?_ h _ _ _ _ _
  split <;> simp -implicitDefEqProofs [h, hf]

@[simp] theorem State.nextSlot_apart (h : s.neverBoth = true) (l hdr) : apartOut (s.nextSlot l hdr) := by
  unfold State.nextSlot
  split <;> simp -implicitDefEqProofs [h]

@[simp] theorem execZpFrameLoad_apart (h : s.neverBoth = true) (b) : apartOut (execZpFrameLoad b s) := by
  unfold execZpFrameLoad
  rw [apartOut_next]
  split
  · dsimp only
    split <;> simp -implicitDefEqProofs [h]
  · exact h
@[simp] theorem execZpBadSource_apart (h : s.neverBoth = true) (b) : apartOut (execZpBadSource b s) := by
  unfold execZpBadSource
  refine State.zpProcess_apart (fun t x ht => ?_) h _ _
  simp -implicitDefEqProofs [ht]
@[simp] theorem execZpUnknownType_apart (h : s.neverBoth = true) (b) :
    apartOut (execZpUnknownType b s) := by
  unfold execZpUnknownType
  refine State.zpProcess_apart (fun t x ht => ?_) h _ _
  simp -implicitDefEqProofs [ht]
@[simp] theorem execZpNakReceived_apart (h : s.neverBoth = true) (b) :
    apartOut (execZpNakReceived b s) := by
  unfold execZpNakReceived
  refine State.zpProcess_apart (fun t x ht => ?_) h _ _
  simp -implicitDefEqProofs [ht]
@[simp] theorem execZpJoin_apart (h : s.neverBoth = true) (b) : apartOut (execZpJoin b s) := by
  unfold execZpJoin
  refine State.zpProcess_apart (fun t x ht => ?_) h _ _
  simp -implicitDefEqProofs [ht]
@[simp] theorem execZpAccept_apart (h : s.neverBoth = true) (b) : apartOut (execZpAccept b s) := by
  unfold execZpAccept
  refine State.zpProcess_apart (fun t x ht => ?_) h _ _
  dsimp only
  repeat' split
  all_goals simp -implicitDefEqProofs [ht]
@[simp] theorem execZpLeave_apart (h : s.neverBoth = true) (b) : apartOut (execZpLeave b s) := by
  unfold execZpLeave
  refine State.zpProcess_apart (fun t x ht => ?_) h _ _
  simp -implicitDefEqProofs [ht]
@[simp] theorem execZpPublish_apart (h : s.neverBoth = true) (b) : apartOut (execZpPublish b s) := by
  unfold execZpPublish
  refine State.zpProcess_apart (fun t x ht => ?_) h _ _
  simp -implicitDefEqProofs [ht]
@[simp] theorem execZpTime_apart (h : s.neverBoth = true) (b) : apartOut (execZpTime b s) := by
  unfold execZpTime
  refine State.zpProcess_apart (fun t x ht => ?_) h _ _
  simp -implicitDefEqProofs [ht]
@[simp] theorem execZpRollcallReply_apart (h : s.neverBoth = true) (b) :
    apartOut (execZpRollcallReply b s) := by
  unfold execZpRollcallReply
  refine State.zpProcess_apart (fun t x ht => ?_) h _ _
  simp -implicitDefEqProofs [ht]
@[simp] theorem execZpOfferTimeout_apart (h : s.neverBoth = true) (b n) :
    apartOut (execZpOfferTimeout b n s) := by
  simp -implicitDefEqProofs [execZpOfferTimeout, h]
@[simp] theorem execZpPartnerLost_apart (h : s.neverBoth = true) (b n) :
    apartOut (execZpPartnerLost b n s) := by
  simp -implicitDefEqProofs [execZpPartnerLost, h]
@[simp] theorem execZpQuarantineEnd_apart (h : s.neverBoth = true) (b n) :
    apartOut (execZpQuarantineEnd b n s) := by
  simp -implicitDefEqProofs [execZpQuarantineEnd, h]
@[simp] theorem execZpFdHoldEnd_apart (h : s.neverBoth = true) (b) : apartOut (execZpFdHoldEnd b s) := by
  simp -implicitDefEqProofs [execZpFdHoldEnd, h]
@[simp] theorem execZpRollcallBroadcast_apart (h : s.neverBoth = true) (b) :
    apartOut (execZpRollcallBroadcast b s) := by
  simp -implicitDefEqProofs [execZpRollcallBroadcast, h]
@[simp] theorem execBusIntegrationDone_apart (h : s.neverBoth = true) (c) :
    apartOut (execBusIntegrationDone c s) := by
  simp -implicitDefEqProofs [execBusIntegrationDone, h]
@[simp] theorem execBusOffRecoveryEnd_apart (h : s.neverBoth = true) (c) :
    apartOut (execBusOffRecoveryEnd c s) := by
  simp -implicitDefEqProofs [execBusOffRecoveryEnd, h]

/-! #### Redundant pairs -/

@[simp] theorem execHealthFrame_apart (h : s.neverBoth = true) : apartOut (execHealthFrame s) := by
  simp -implicitDefEqProofs [execHealthFrame, h]
@[simp] theorem execLinkBringup_apart (h : s.neverBoth = true) : apartOut (execLinkBringup s) := by
  simp -implicitDefEqProofs [execLinkBringup, h]
@[simp] theorem execLinkLaneLock_apart (h : s.neverBoth = true) (lane) :
    apartOut (execLinkLaneLock lane s) := by
  simp -implicitDefEqProofs [execLinkLaneLock, h]
@[simp] theorem execLinkRateFallback_apart (h : s.neverBoth = true) :
    apartOut (execLinkRateFallback s) := by
  simp -implicitDefEqProofs [execLinkRateFallback, h]
@[simp] theorem execLinkCapsReceived_apart (h : s.neverBoth = true) (caps) :
    apartOut (execLinkCapsReceived caps s) := by
  simp -implicitDefEqProofs [execLinkCapsReceived, h]
@[simp] theorem execLinkCompat_apart (h : s.neverBoth = true) (r) : apartOut (execLinkCompat r s) := by
  simp -implicitDefEqProofs [execLinkCompat, h]
@[simp] theorem execLinkStatus_apart (h : s.neverBoth = true) (r) : apartOut (execLinkStatus r s) := by
  simp -implicitDefEqProofs [execLinkStatus, h]
@[simp] theorem execLinkMirror_apart (h : s.neverBoth = true) (bytes) :
    apartOut (execLinkMirror bytes s) := by
  simp -implicitDefEqProofs [execLinkMirror, h]
@[simp] theorem execLinkCrcFail_apart (h : s.neverBoth = true) (typ) :
    apartOut (execLinkCrcFail typ s) := by
  simp -implicitDefEqProofs [execLinkCrcFail, h]
@[simp] theorem execLinkMgmtReply_apart (h : s.neverBoth = true) (x0 x1 x2) :
    apartOut (execLinkMgmtReply x0 x1 x2 s) := by
  simp -implicitDefEqProofs [execLinkMgmtReply, h]
@[simp] theorem execLinkMgmtTimeout_apart (h : s.neverBoth = true) : apartOut (execLinkMgmtTimeout s) := by
  simp -implicitDefEqProofs [execLinkMgmtTimeout, h]
@[simp] theorem execLinkDown_apart (h : s.neverBoth = true) : apartOut (execLinkDown s) := by
  simp -implicitDefEqProofs [execLinkDown, h]
@[simp] theorem execLinkCkptChunk_apart (h : s.neverBoth = true) (c) :
    apartOut (execLinkCkptChunk c s) := by
  unfold execLinkCkptChunk
  split
  · trivial
  · rw [apartOut_next]
    dsimp only
    repeat' split
    all_goals simp -implicitDefEqProofs [h]
@[simp] theorem execLinkCkptEnd_apart (h : s.neverBoth = true) (cknum ckrtc nrec) :
    apartOut (execLinkCkptEnd cknum ckrtc nrec s) := by
  simp -implicitDefEqProofs [execLinkCkptEnd, h]
@[simp] theorem execCheckpointStart_apart (h : s.neverBoth = true) : apartOut (execCheckpointStart s) := by
  simp -implicitDefEqProofs [execCheckpointStart, h]
@[simp] theorem execVaultCopy_apart (h : s.neverBoth = true) : apartOut (execVaultCopy s) := by
  simp -implicitDefEqProofs [execVaultCopy, h]
@[simp] theorem State.takeHold_apart (h : s.neverBoth = true) : (s.takeHold).neverBoth = true := by
  have held : ∀ (p : Nat → Bool) (t : State), t.neverBoth = true →
      (t.each (List.range 6) (fun t g => if p g then t.holdGroup g else t.groupOff g)).neverBoth = true :=
    fun p t ht => State.each_apart (fun u g hu => by simp -implicitDefEqProofs [hu]) ht _
  unfold State.takeHold
  exact (State.each_neverBoth (fun t c => by simp -implicitDefEqProofs) _ _).trans
    (held _ _ (by simp -implicitDefEqProofs [h]))
@[simp] theorem State.takeover_apart (h : s.neverBoth = true) : (s.takeover).neverBoth = true := by
  simp -implicitDefEqProofs [State.takeover, h]
@[simp] theorem execCurSelHigh_apart (h : s.neverBoth = true) : apartOut (execCurSelHigh s) := by
  simp -implicitDefEqProofs [execCurSelHigh, h]
@[simp] theorem State.demote_apart (h : s.neverBoth = true) : (s.demote).neverBoth = true := by
  unfold State.demote
  have off : ∀ (t : State), t.neverBoth = true →
      (t.each (List.range 6) (fun t g => (t.groupOff g).drvForget g)).neverBoth = true :=
    fun t ht => State.each_apart (fun u g hu => by simp -implicitDefEqProofs [hu]) ht _
  simp -implicitDefEqProofs [h, off]
@[simp] theorem execCurSelLow_apart (h : s.neverBoth = true) : apartOut (execCurSelLow s) := by
  simp -implicitDefEqProofs [execCurSelLow, h]
@[simp] theorem execTakeoverRestoreEnd_apart (h : s.neverBoth = true) :
    apartOut (execTakeoverRestoreEnd s) := by
  simp -implicitDefEqProofs [execTakeoverRestoreEnd, h]
@[simp] theorem execTakeoverCalibration_apart (h : s.neverBoth = true) :
    apartOut (execTakeoverCalibration s) := by
  simp -implicitDefEqProofs [execTakeoverCalibration, h]
@[simp] theorem execTakeoverSequencerEnable_apart (h : s.neverBoth = true) (cal) :
    apartOut (execTakeoverSequencerEnable cal s) := by
  simp -implicitDefEqProofs [execTakeoverSequencerEnable, h]
@[simp] theorem execTakeoverEngineStart_apart (h : s.neverBoth = true) :
    apartOut (execTakeoverEngineStart s) := by
  simp -implicitDefEqProofs [execTakeoverEngineStart, h]
@[simp] theorem execSelfTestCycle_apart (h : s.neverBoth = true) (r) :
    apartOut (execSelfTestCycle r s) := by
  simp -implicitDefEqProofs [execSelfTestCycle, h]
@[simp] theorem execCuratorSample_apart (h : s.neverBoth = true) (hbA hsA hbB hsB) :
    apartOut (execCuratorSample hbA hsA hbB hsB s) := by
  simp -implicitDefEqProofs [execCuratorSample, h]

/-! #### Start-up -/

@[simp] theorem execResetRelease_apart (h : s.neverBoth = true) : apartOut (execResetRelease s) := by
  simp -implicitDefEqProofs [execResetRelease, h]
@[simp] theorem execPllLock_apart (h : s.neverBoth = true) : apartOut (execPllLock s) := by
  simp -implicitDefEqProofs [execPllLock, h]
@[simp] theorem execFlashNegotiationDone_apart (h : s.neverBoth = true) (info hdr) :
    apartOut (execFlashNegotiationDone info hdr s) := by
  simp -implicitDefEqProofs [execFlashNegotiationDone, h]
@[simp] theorem execSectionReceived_apart (h : s.neverBoth = true) (bytes) :
    apartOut (execSectionReceived bytes s) := by
  unfold execSectionReceived
  split <;> simp -implicitDefEqProofs [h]
@[simp] theorem execImageClearDone_apart (h : s.neverBoth = true) (hdr) :
    apartOut (execImageClearDone hdr s) := by
  simp -implicitDefEqProofs [execImageClearDone, h]
@[simp] theorem execMemorySelfTestDone_apart (h : s.neverBoth = true) (march crc) :
    apartOut (execMemorySelfTestDone march crc s) := by
  simp -implicitDefEqProofs [execMemorySelfTestDone, h]
@[simp] theorem execLinkBringupTimeout_apart (h : s.neverBoth = true) :
    apartOut (execLinkBringupTimeout s) := by
  simp -implicitDefEqProofs [execLinkBringupTimeout, h]
@[simp] theorem State.holdPlant_apart : (s.holdPlant).neverBoth = true := by
  simp -implicitDefEqProofs [State.holdPlant]
@[simp] theorem execUnitStateDecided_apart (h : s.neverBoth = true) (sel) :
    apartOut (execUnitStateDecided sel s) := by
  simp -implicitDefEqProofs [execUnitStateDecided, h]
@[simp] theorem execInitialCalibrationDone_apart (h : s.neverBoth = true) (cal) :
    apartOut (execInitialCalibrationDone cal s) := by
  simp -implicitDefEqProofs [execInitialCalibrationDone, h]
@[simp] theorem execSlotProgrammingDone_apart (h : s.neverBoth = true) (out) :
    apartOut (execSlotProgrammingDone out s) := by
  simp -implicitDefEqProofs [execSlotProgrammingDone, h]

/-! #### Accesses of masters -/

@[simp] theorem State.groupWrite_apart (h : s.neverBoth = true) (g o a w) :
    (s.groupWrite g o a w).1.neverBoth = true := by
  unfold State.groupWrite
  split <;> simp -implicitDefEqProofs [onWrite, h]
@[simp] theorem State.pwmReg_apart (h : s.neverBoth = true) (a w) : (s.pwmReg a w).1.neverBoth = true := by
  have all := fun (t : State) (ht : t.neverBoth = true) =>
    State.each_apart (f := (·.enWritten ·)) (fun u g hu => State.enWritten_apart hu g) ht (List.range 6)
  simp -implicitDefEqProofs [State.pwmReg, onWrite, h, all]
@[simp] theorem State.pwmWrite_apart (h : s.neverBoth = true) (a w) : (s.pwmWrite a w).1.neverBoth = true := by
  simp -implicitDefEqProofs [State.pwmWrite, onWrite, h]
@[simp] theorem State.modeWritten_apart (h : s.neverBoth = true) : (s.modeWritten).neverBoth = true := by
  simp -implicitDefEqProofs [State.modeWritten, h]
@[simp] theorem State.pairWrite_apart (h : s.neverBoth = true) (a w) :
    (s.pairWrite a w).1.neverBoth = true := by
  simp -implicitDefEqProofs [State.pairWrite, onWrite, h]
@[simp] theorem State.regWrite_apart (h : s.neverBoth = true) (a w) :
    (s.regWrite a w).1.neverBoth = true := by
  unfold State.regWrite
  split
  · simp -implicitDefEqProofs [h]
  · split <;> simp -implicitDefEqProofs [h]
@[simp] theorem State.busWrite_apart (h : s.neverBoth = true) (a w) :
    (s.busWrite a w).1.neverBoth = true := by
  simp -implicitDefEqProofs [State.busWrite, h]
@[simp] theorem State.masterWrite_apart (h : s.neverBoth = true) (who a w x4) :
    (s.masterWrite who a w x4).1.neverBoth = true := by
  simp -implicitDefEqProofs [State.masterWrite, h]

/-! #### Requests of masters -/

@[simp] theorem State.reqAccess_apart (h : s.neverBoth = true) (r) :
    (s.reqAccess r).1.neverBoth = true := by
  simp -implicitDefEqProofs [State.reqAccess, h]
@[simp] theorem State.runReq_apart (h : s.neverBoth = true) (r fuel) : (State.runReq s r fuel).1.neverBoth = true := by
  induction fuel generalizing s r with
  | zero => exact h
  | succ fuel ih =>
    unfold State.runReq
    dsimp only
    repeat' split
    · exact h
    · simp -implicitDefEqProofs [h]
    · exact ih (State.reqAccess_apart h r) _
@[simp] theorem State.waitPoint_apart (h : s.neverBoth = true) (r) :
    (s.waitPoint r).1.neverBoth = true := by
  simp -implicitDefEqProofs [State.waitPoint, h]
@[simp] theorem State.reqOn_apart (h : s.neverBoth = true) (r) : (s.reqOn r).neverBoth = true := by
  simp -implicitDefEqProofs [State.reqOn, h]
@[simp] theorem State.settle_apart (h : s.neverBoth = true) : (s.settle).neverBoth = true := by
  unfold State.settle
  exact State.each_apart (s := { s with reqs := [] }) (fun t r ht => State.reqOn_apart ht r) h _
@[simp] theorem State.idle_apart (h : s.neverBoth = true) : (s.idle).neverBoth = true := by
  unfold State.idle
  refine State.each_apart (fun t r ht => ?_) h _
  dsimp only
  exact State.reqOn_apart (State.runReq_apart (s := { t with reqs := t.reqs.erase r }) ht _ _) _
@[simp] theorem State.portOpen_apart (h : s.neverBoth = true) (write bytes addr n data split) :
    (s.portOpen write bytes addr n data split).neverBoth = true := by
  simp -implicitDefEqProofs [State.portOpen, h]
@[simp] theorem execSpiRead_apart (h : s.neverBoth = true) (addr len split) :
    apartOut (execSpiRead addr len split s) := by
  simp -implicitDefEqProofs [execSpiRead, h]
@[simp] theorem execSpiWrite_apart (h : s.neverBoth = true) (addr words split) :
    apartOut (execSpiWrite addr words split s) := by
  simp -implicitDefEqProofs [execSpiWrite, h]
@[simp] theorem execSpiWriteb_apart (h : s.neverBoth = true) (addr bytes split) :
    apartOut (execSpiWriteb addr bytes split s) := by
  simp -implicitDefEqProofs [execSpiWriteb, h]
@[simp] theorem execSpiWaitPoint_apart (h : s.neverBoth = true) : apartOut (execSpiWaitPoint s) := by
  unfold execSpiWaitPoint
  rw [apartOut_next]
  split <;> simp -implicitDefEqProofs [h]
@[simp] theorem execSpiAbort_apart (h : s.neverBoth = true) : apartOut (execSpiAbort s) := by
  unfold execSpiAbort
  rw [apartOut_next]
  split <;> simp -implicitDefEqProofs [h]
@[simp] theorem execSpiStatus_apart (h : s.neverBoth = true) : apartOut (execSpiStatus s) := by
  simp -implicitDefEqProofs [execSpiStatus, h]
@[simp] theorem execSpiReset_apart (h : s.neverBoth = true) (bytes) : apartOut (execSpiReset bytes s) := by
  simp -implicitDefEqProofs [execSpiReset, h]
@[simp] theorem execSpiBadOpcode_apart (h : s.neverBoth = true) (op clocked) :
    apartOut (execSpiBadOpcode op clocked s) := by
  simp -implicitDefEqProofs [execSpiBadOpcode, h]
@[simp] theorem execLinkMgmtRequest_apart (h : s.neverBoth = true) (write tag addr n words split) :
    apartOut (execLinkMgmtRequest write tag addr n words s split) := by
  simp -implicitDefEqProofs [execLinkMgmtRequest, h]
@[simp] theorem State.zpManage_apart (h : s.neverBoth = true) (b x write n split) :
    (s.zpManage b x write n split).neverBoth = true := by
  simp -implicitDefEqProofs [State.zpManage, h]
@[simp] theorem execZpMgmtRead_apart (h : s.neverBoth = true) (b split) :
    apartOut (execZpMgmtRead b s split) := by
  unfold execZpMgmtRead
  refine State.zpProcess_apart (fun t x ht => ?_) h _ _
  simp -implicitDefEqProofs [ht]
@[simp] theorem execZpMgmtWrite_apart (h : s.neverBoth = true) (b split) :
    apartOut (execZpMgmtWrite b s split) := by
  unfold execZpMgmtWrite
  refine State.zpProcess_apart (fun t x ht => ?_) h _ _
  simp -implicitDefEqProofs [ht]
@[simp] theorem execFolioMasterAccess_apart (h : s.neverBoth = true) :
    apartOut (execFolioMasterAccess s) := by
  simp -implicitDefEqProofs [execFolioMasterAccess, h]
@[simp] theorem execFolioProgramEnd_apart (h : s.neverBoth = true) : apartOut (execFolioProgramEnd s) := by
  simp -implicitDefEqProofs [execFolioProgramEnd, h]
@[simp] theorem execFolioRecallScanEnd_apart (h : s.neverBoth = true) :
    apartOut (execFolioRecallScanEnd s) := by
  simp -implicitDefEqProofs [execFolioRecallScanEnd, h]
@[simp] theorem execPfiAccepted_apart (h : s.neverBoth = true) : apartOut (execPfiAccepted s) := by
  simp -implicitDefEqProofs [execPfiAccepted, h]
@[simp] theorem execSensorSample_apart (h : s.neverBoth = true) (t0 t1 t2 t3) :
    apartOut (execSensorSample t0 t1 t2 t3 s) := by
  simp -implicitDefEqProofs [execSensorSample, h]
@[simp] theorem execAonComparatorSample_apart (h : s.neverBoth = true) (above) :
    apartOut (execAonComparatorSample above s) := by
  simp -implicitDefEqProofs [execAonComparatorSample, h]

/-! #### Writes that are commands -/

@[simp] theorem State.masterOp_apart (h : s.neverBoth = true) (m a w) :
    (s.masterOp m a w).neverBoth = true := by
  simp -implicitDefEqProofs [State.masterOp, h]
@[simp] theorem execGoRam_apart (h : s.neverBoth = true) (m) : apartOut (execGoRam m s) := by
  simp -implicitDefEqProofs [execGoRam, h]
@[simp] theorem execGoA_apart (h : s.neverBoth = true) (m) : apartOut (execGoA m s) := by
  simp -implicitDefEqProofs [execGoA, h]
@[simp] theorem execGoB_apart (h : s.neverBoth = true) (m) : apartOut (execGoB m s) := by
  simp -implicitDefEqProofs [execGoB, h]
@[simp] theorem execProgA_apart (h : s.neverBoth = true) (m) : apartOut (execProgA m s) := by
  simp -implicitDefEqProofs [execProgA, h]
@[simp] theorem execProgB_apart (h : s.neverBoth = true) (m) : apartOut (execProgB m s) := by
  simp -implicitDefEqProofs [execProgB, h]
@[simp] theorem execShadowHoldWrite_apart (h : s.neverBoth = true) (m w) :
    apartOut (execShadowHoldWrite m w s) := by
  simp -implicitDefEqProofs [execShadowHoldWrite, h]
@[simp] theorem execCalibrationForce_apart (h : s.neverBoth = true) (m w) :
    apartOut (execCalibrationForce m w s) := by
  simp -implicitDefEqProofs [execCalibrationForce, h]
@[simp] theorem execPermanentSubstitutionSet_apart (h : s.neverBoth = true) (m w) :
    apartOut (execPermanentSubstitutionSet m w s) := by
  simp -implicitDefEqProofs [execPermanentSubstitutionSet, h]
@[simp] theorem execPermanentSubstitutionClear_apart (h : s.neverBoth = true) (m w) :
    apartOut (execPermanentSubstitutionClear m w s) := by
  simp -implicitDefEqProofs [execPermanentSubstitutionClear, h]
@[simp] theorem execRegularStartGo_apart (h : s.neverBoth = true) (m w) :
    apartOut (execRegularStartGo m w s) := by
  simp -implicitDefEqProofs [execRegularStartGo, h]
@[simp] theorem execInjectedSoftwareTrigger_apart (h : s.neverBoth = true) (m w t) :
    apartOut (execInjectedSoftwareTrigger m w t s) := by
  simp -implicitDefEqProofs [execInjectedSoftwareTrigger, h]
@[simp] theorem execCompareWrite_apart (h : s.neverBoth = true) (m g x w) :
    apartOut (execCompareWrite m g x w s) := by
  simp -implicitDefEqProofs [execCompareWrite, h]
@[simp] theorem execGroupOffWrite_apart (h : s.neverBoth = true) (m g w) :
    apartOut (execGroupOffWrite m g w s) := by
  simp -implicitDefEqProofs [execGroupOffWrite, h]
@[simp] theorem execCoastEnable_apart (h : s.neverBoth = true) (m g) :
    apartOut (execCoastEnable m g s) := by
  simp -implicitDefEqProofs [execCoastEnable, h]
@[simp] theorem execCoastDisable_apart (h : s.neverBoth = true) (m g) :
    apartOut (execCoastDisable m g s) := by
  simp -implicitDefEqProofs [execCoastDisable, h]
@[simp] theorem execCoastAngleWrite_apart (h : s.neverBoth = true) (m g w) :
    apartOut (execCoastAngleWrite m g w s) := by
  simp -implicitDefEqProofs [execCoastAngleWrite, h]
@[simp] theorem execCarrierRatePhaseChange_apart (h : s.neverBoth = true) (m ch w) :
    apartOut (execCarrierRatePhaseChange m ch w s) := by
  simp -implicitDefEqProofs [execCarrierRatePhaseChange, h]
@[simp] theorem execEngineRun_apart (h : s.neverBoth = true) (m) : apartOut (execEngineRun m s) := by
  simp -implicitDefEqProofs [execEngineRun, h]
@[simp] theorem execEngineStop_apart (h : s.neverBoth = true) (m) : apartOut (execEngineStop m s) := by
  simp -implicitDefEqProofs [execEngineStop, h]
@[simp] theorem execModeCommand_apart (h : s.neverBoth = true) (m w) :
    apartOut (execModeCommand m w s) := by
  simp -implicitDefEqProofs [execModeCommand, h]
@[simp] theorem execDriveStart_apart (h : s.neverBoth = true) (m d back) :
    apartOut (execDriveStart m d back s) := by
  simp -implicitDefEqProofs [execDriveStart, h]
@[simp] theorem execDriveStop_apart (h : s.neverBoth = true) (m d) : apartOut (execDriveStop m d s) := by
  simp -implicitDefEqProofs [execDriveStop, h]
@[simp] theorem execDriveFaultclr_apart (h : s.neverBoth = true) (m d) :
    apartOut (execDriveFaultclr m d s) := by
  simp -implicitDefEqProofs [execDriveFaultclr, h]
@[simp] theorem execPerennialClear_apart (h : s.neverBoth = true) (m w) :
    apartOut (execPerennialClear m w s) := by
  simp -implicitDefEqProofs [execPerennialClear, h]
@[simp] theorem execGeneratorStart_apart (h : s.neverBoth = true) (m n) :
    apartOut (execGeneratorStart m n s) := by
  simp -implicitDefEqProofs [execGeneratorStart, h]
@[simp] theorem execGeneratorStop_apart (h : s.neverBoth = true) (m n) :
    apartOut (execGeneratorStop m n s) := by
  simp -implicitDefEqProofs [execGeneratorStop, h]
@[simp] theorem execCaptureArm_apart (h : s.neverBoth = true) (m) : apartOut (execCaptureArm m s) := by
  simp -implicitDefEqProofs [execCaptureArm, h]
@[simp] theorem execCaptureStop_apart (h : s.neverBoth = true) (m) : apartOut (execCaptureStop m s) := by
  simp -implicitDefEqProofs [execCaptureStop, h]
@[simp] theorem execPointForceSet_apart (h : s.neverBoth = true) (m p) :
    apartOut (execPointForceSet m p s) := by
  simp -implicitDefEqProofs [execPointForceSet, h]
@[simp] theorem execPointForceClear_apart (h : s.neverBoth = true) (m p) :
    apartOut (execPointForceClear m p s) := by
  simp -implicitDefEqProofs [execPointForceClear, h]
@[simp] theorem execRtcSet_apart (h : s.neverBoth = true) (m w) : apartOut (execRtcSet m w s) := by
  simp -implicitDefEqProofs [execRtcSet, h]
@[simp] theorem execCatalogueValueWrite_apart (h : s.neverBoth = true) (m p w) :
    apartOut (execCatalogueValueWrite m p w s) := by
  simp -implicitDefEqProofs [execCatalogueValueWrite, h]
@[simp] theorem execCanEnable_apart (h : s.neverBoth = true) (c m w) :
    apartOut (execCanEnable c m w s) := by
  simp -implicitDefEqProofs [execCanEnable, h]
@[simp] theorem execCanDisable_apart (h : s.neverBoth = true) (c m w busy) :
    apartOut (execCanDisable c m w busy s) := by
  simp -implicitDefEqProofs [execCanDisable, h]
@[simp] theorem execTransmitRequest_apart (h : s.neverBoth = true) (c m k w) :
    apartOut (execTransmitRequest c m k w s) := by
  simp -implicitDefEqProofs [execTransmitRequest, h]
@[simp] theorem execTransmitCancel_apart (h : s.neverBoth = true) (c m k w) :
    apartOut (execTransmitCancel c m k w s) := by
  simp -implicitDefEqProofs [execTransmitCancel, h]
@[simp] theorem execBusOffRecovery_apart (h : s.neverBoth = true) (c m) :
    apartOut (execBusOffRecovery c m s) := by
  simp -implicitDefEqProofs [execBusOffRecovery, h]
@[simp] theorem execQueueAck_apart (h : s.neverBoth = true) (c m q w) :
    apartOut (execQueueAck c m q w s) := by
  simp -implicitDefEqProofs [execQueueAck, h]
@[simp] theorem execFdTransmitOff_apart (h : s.neverBoth = true) (c m w) :
    apartOut (execFdTransmitOff c m w s) := by
  simp -implicitDefEqProofs [execFdTransmitOff, h]
@[simp] theorem execObjectWrite_apart (h : s.neverBoth = true) (c m n i w) :
    apartOut (execObjectWrite c m n i w s) := by
  simp -implicitDefEqProofs [execObjectWrite, h]
@[simp] theorem execSwapRequest_apart (h : s.neverBoth = true) (m w) :
    apartOut (execSwapRequest m w s) := by
  simp -implicitDefEqProofs [execSwapRequest, h]
@[simp] theorem execFolioRemap_apart (h : s.neverBoth = true) (m w) : apartOut (execFolioRemap m w s) := by
  simp -implicitDefEqProofs [execFolioRemap, h]
@[simp] theorem execFolioProtWrite_apart (h : s.neverBoth = true) (m w) :
    apartOut (execFolioProtWrite m w s) := by
  simp -implicitDefEqProofs [execFolioProtWrite, h]
@[simp] theorem execClearMissed_apart (h : s.neverBoth = true) (m w) :
    apartOut (execClearMissed m w s) := by
  simp -implicitDefEqProofs [execClearMissed, h]
@[simp] theorem execUserCounterInc_apart (h : s.neverBoth = true) (m w) :
    apartOut (execUserCounterInc m w s) := by
  simp -implicitDefEqProofs [execUserCounterInc, h]
@[simp] theorem execFolLiveWrite_apart (h : s.neverBoth = true) (m i w) :
    apartOut (execFolLiveWrite m i w s) := by
  simp -implicitDefEqProofs [execFolLiveWrite, h]
@[simp] theorem execCombinationWrite_apart (h : s.neverBoth = true) (m n cfg w) :
    apartOut (execCombinationWrite m n cfg w s) := by
  simp -implicitDefEqProofs [execCombinationWrite, h]
@[simp] theorem execLedgerClear_apart (h : s.neverBoth = true) (m w) :
    apartOut (execLedgerClear m w s) := by
  simp -implicitDefEqProofs [execLedgerClear, h]
@[simp] theorem execLedgerSelect_apart (h : s.neverBoth = true) (m k w) :
    apartOut (execLedgerSelect m k w s) := by
  simp -implicitDefEqProofs [execLedgerSelect, h]
@[simp] theorem execSnapshotModeWrite_apart (h : s.neverBoth = true) (m w) :
    apartOut (execSnapshotModeWrite m w s) := by
  simp -implicitDefEqProofs [execSnapshotModeWrite, h]
@[simp] theorem execFoxVreqWrite_apart (h : s.neverBoth = true) (m w) :
    apartOut (execFoxVreqWrite m w s) := by
  simp -implicitDefEqProofs [execFoxVreqWrite, h]
@[simp] theorem execCounterClear_apart (h : s.neverBoth = true) (m a w) :
    apartOut (execCounterClear m a w s) := by
  simp -implicitDefEqProofs [execCounterClear, h]
@[simp] theorem execRegisterWrite_apart (h : s.neverBoth = true) (m a w) :
    apartOut (execRegisterWrite m a w s) := by
  simp -implicitDefEqProofs [execRegisterWrite, h]

/-! #### The tick and events of the clocks -/

@[simp] theorem State.tickClose_apart (h : s.neverBoth = true) : (s.tickClose).neverBoth = true := by
  simp -implicitDefEqProofs [State.tickClose, h]
@[simp] theorem execTick_apart (h : s.neverBoth = true) (di) : apartOut (execTick di s) := by
  simp -implicitDefEqProofs [execTick, h]
@[simp] theorem execShadowHoldExpiry_apart (h : s.neverBoth = true) :
    apartOut (execShadowHoldExpiry s) := by
  simp -implicitDefEqProofs [execShadowHoldExpiry, h]
@[simp] theorem execPllLockLoss_apart (h : s.neverBoth = true) (link) :
    apartOut (execPllLockLoss link s) := by
  simp -implicitDefEqProofs [execPllLockLoss, h]
@[simp] theorem execPllLRelock_apart (h : s.neverBoth = true) (three) :
    apartOut (execPllLRelock three s) := by
  simp -implicitDefEqProofs [execPllLRelock, h]
@[simp] theorem execFrameWatchdogExpiry_apart (h : s.neverBoth = true) :
    apartOut (execFrameWatchdogExpiry s) := by
  simp -implicitDefEqProofs [execFrameWatchdogExpiry, h]
@[simp] theorem execCrystalLoss_apart : apartOut (execCrystalLoss s) := by
  simp -implicitDefEqProofs [execCrystalLoss]
@[simp] theorem execPowerOnReset_apart (core) :
    apartOut (execPowerOnReset s core) := by
  simp -implicitDefEqProofs [execPowerOnReset]
@[simp] theorem execPinReset_apart : apartOut (execPinReset s) := by
  simp -implicitDefEqProofs [execPinReset]
@[simp] theorem execAonClockChangeover_apart (h : s.neverBoth = true) :
    apartOut (execAonClockChangeover s) := by
  simp -implicitDefEqProofs [execAonClockChangeover, h]
@[simp] theorem execRtcSecondEdge_apart (h : s.neverBoth = true) : apartOut (execRtcSecondEdge s) := by
  simp -implicitDefEqProofs [execRtcSecondEdge, h]
@[simp] theorem execSafeStateAssert_apart (h : s.neverBoth = true) (src) :
    apartOut (execSafeStateAssert src s) := by
  simp -implicitDefEqProofs [execSafeStateAssert, h]
@[simp] theorem execSafeStateRelease_apart (h : s.neverBoth = true) (src) :
    apartOut (execSafeStateRelease src s) := by
  simp -implicitDefEqProofs [execSafeStateRelease, h]
@[simp] theorem execPerennialClearEnd_apart (h : s.neverBoth = true) :
    apartOut (execPerennialClearEnd s) := by
  simp -implicitDefEqProofs [execPerennialClearEnd, h]
@[simp] theorem execPulseEdge_apart (h : s.neverBoth = true) (n period high) :
    apartOut (execPulseEdge n period high s) := by
  simp -implicitDefEqProofs [execPulseEdge, h]
@[simp] theorem execPulseTimeout_apart (h : s.neverBoth = true) (n level) :
    apartOut (execPulseTimeout n level s) := by
  simp -implicitDefEqProofs [execPulseTimeout, h]

/-! #### Every command -/

theorem exec_apart (h : s.neverBoth = true) (c : Instr) : apartOut (exec c s) := by
  cases c with
  | tick di => exact execTick_apart h di
  | c0Release d w => exact execC0Release_apart h d w
  | itemStart lane => exact execItemStart_apart h lane
  | itemComplete lane => exact execItemComplete_apart h lane
  | pllLockLoss link => exact execPllLockLoss_apart h link
  | frameWatchdogExpiry => exact execFrameWatchdogExpiry_apart h
  | crystalLoss => exact execCrystalLoss_apart
  | rtcSecondEdge => exact execRtcSecondEdge_apart h
  | almanacEvaluationStart => exact execAlmanacEvaluationStart_apart h
  | almanacEvaluationEnd => exact execAlmanacEvaluationEnd_apart h
  | powerOnReset core => exact execPowerOnReset_apart core
  | pinReset => exact execPinReset_apart
  | resetRelease => exact execResetRelease_apart h
  | pllLock => exact execPllLock_apart h
  | flashNegotiationDone info hdr => exact execFlashNegotiationDone_apart h info hdr
  | sectionReceived bytes => exact execSectionReceived_apart h bytes
  | imageClearDone hdr => exact execImageClearDone_apart h hdr
  | memorySelfTestDone march crc => exact execMemorySelfTestDone_apart h march crc
  | linkBringupTimeout => exact execLinkBringupTimeout_apart h
  | unitStateDecided sel => exact execUnitStateDecided_apart h sel
  | initialCalibrationDone cal => exact execInitialCalibrationDone_apart h cal
  | encoderDetent k path => exact execEncoderDetent_apart h k path
  | encoderSwitchPress k down => exact execEncoderSwitchPress_apart h k down
  | goA m => exact execGoA_apart h m
  | goB m => exact execGoB_apart h m
  | goRam m => exact execGoRam_apart h m
  | progA m => exact execProgA_apart h m
  | progB m => exact execProgB_apart h m
  | slotProgrammingDone out => exact execSlotProgrammingDone_apart h out
  | shadowHoldWrite m w => exact execShadowHoldWrite_apart h m w
  | shadowHoldExpiry => exact execShadowHoldExpiry_apart h
  | conversionResult core c => exact execConversionResult_apart h core c
  | calibrationCycleDue => exact execCalibrationCycleDue_apart h
  | coreCalibrationEnd trim weights => exact execCoreCalibrationEnd_apart h trim weights
  | calibrationHandoff j => exact execCalibrationHandoff_apart h j
  | handoffDeadline => exact execHandoffDeadline_apart h
  | calibrationRetry => exact execCalibrationRetry_apart h
  | calibrationHandback j => exact execCalibrationHandback_apart h j
  | lateHandback => exact execLateHandback_apart h
  | calibrationForce m w => exact execCalibrationForce_apart h m w
  | permanentSubstitutionSet m w => exact execPermanentSubstitutionSet_apart h m w
  | permanentSubstitutionClear m w => exact execPermanentSubstitutionClear_apart h m w
  | regularTriggerDue => exact execRegularTriggerDue_apart h
  | regularStartGo m w => exact execRegularStartGo_apart h m w
  | regularPassStart j => exact execRegularPassStart_apart h j
  | regularPassEnd => exact execRegularPassEnd_apart h
  | injectedTriggerDue n t => exact execInjectedTriggerDue_apart h n t
  | injectedSoftwareTrigger m w t => exact execInjectedSoftwareTrigger_apart h m w t
  | injectedSequenceStart n j => exact execInjectedSequenceStart_apart h n j
  | carrierValley g trips => exact execCarrierValley_apart h g trips
  | carrierPeak g => exact execCarrierPeak_apart h g
  | peakWidthCopy d => exact execPeakWidthCopy_apart h d
  | gpPeriodStart c => exact execGpPeriodStart_apart h c
  | tripRegistered n t => exact execTripRegistered_apart h n t
  | safeStateAssert src => exact execSafeStateAssert_apart h src
  | safeStateRelease src => exact execSafeStateRelease_apart h src
  | compareWrite m g x w => exact execCompareWrite_apart h m g x w
  | groupOffWrite m g w => exact execGroupOffWrite_apart h m g w
  | coastEnable m g => exact execCoastEnable_apart h m g
  | coastDisable m g => exact execCoastDisable_apart h m g
  | coastAngleWrite m g w => exact execCoastAngleWrite_apart h m g w
  | carrierRatePhaseChange m ch w => exact execCarrierRatePhaseChange_apart h m ch w
  | engineRun m => exact execEngineRun_apart h m
  | engineStop m => exact execEngineStop_apart h m
  | modeCommand m w => exact execModeCommand_apart h m w
  | driveStart m d back => exact execDriveStart_apart h m d back
  | driveStop m d => exact execDriveStop_apart h m d
  | driveFaultclr m d => exact execDriveFaultclr_apart h m d
  | driveBack lane => exact execDriveBack_apart h lane
  | pulseEdge n period high => exact execPulseEdge_apart h n period high
  | pulseTimeout n level => exact execPulseTimeout_apart h n level
  | perennialClear m w => exact execPerennialClear_apart h m w
  | perennialClearEnd => exact execPerennialClearEnd_apart h
  | generatorStart m n => exact execGeneratorStart_apart h m n
  | generatorStop m n => exact execGeneratorStop_apart h m n
  | captureArm m => exact execCaptureArm_apart h m
  | captureStop m => exact execCaptureStop_apart h m
  | captureSample => exact execCaptureSample_apart h
  | pointForceSet m p => exact execPointForceSet_apart h m p
  | pointForceClear m p => exact execPointForceClear_apart h m p
  | rtcSet m w => exact execRtcSet_apart h m w
  | catalogueValueWrite m p w => exact execCatalogueValueWrite_apart h m p w
  | canEnable c m w => exact execCanEnable_apart h c m w
  | canDisable c m w busy => exact execCanDisable_apart h c m w busy
  | rateDetectionDone c nrate drate rounds => exact execRateDetectionDone_apart h c nrate drate rounds
  | busIntegrationDone c => exact execBusIntegrationDone_apart h c
  | frameReceived c f ago pos => exact execFrameReceived_apart h c f ago pos
  | transmitRequest c m k w => exact execTransmitRequest_apart h c m k w
  | transmitCancel c m k w => exact execTransmitCancel_apart h c m k w
  | cancelTaken c n => exact execCancelTaken_apart h c n
  | transmitCommit c => exact execTransmitCommit_apart h c
  | arbitrationLost c => exact execArbitrationLost_apart h c
  | transmitSuccess c ago pos tdc => exact execTransmitSuccess_apart h c ago pos tdc
  | busError c e => exact execBusError_apart h c e
  | busOffRecovery c m => exact execBusOffRecovery_apart h c m
  | busOffRecoveryEnd c => exact execBusOffRecoveryEnd_apart h c
  | protocolException c => exact execProtocolException_apart h c
  | queueAck c m q w => exact execQueueAck_apart h c m q w
  | aloneProbe c => exact execAloneProbe_apart h c
  | fdTransmitOff c m w => exact execFdTransmitOff_apart h c m w
  | objectWrite c m n ix w => exact execObjectWrite_apart h c m n ix w
  | zpJoin b => exact execZpJoin_apart h b
  | zpAccept b => exact execZpAccept_apart h b
  | zpLeave b => exact execZpLeave_apart h b
  | zpPublish b => exact execZpPublish_apart h b
  | zpTime b => exact execZpTime_apart h b
  | zpRollcallReply b => exact execZpRollcallReply_apart h b
  | zpMgmtRead b split => exact execZpMgmtRead_apart h b split
  | zpMgmtWrite b split => exact execZpMgmtWrite_apart h b split
  | zpNakReceived b => exact execZpNakReceived_apart h b
  | zpBadSource b => exact execZpBadSource_apart h b
  | zpOfferTimeout b node => exact execZpOfferTimeout_apart h b node
  | zpPartnerLost b node => exact execZpPartnerLost_apart h b node
  | zpQuarantineEnd b node => exact execZpQuarantineEnd_apart h b node
  | zpFdHoldEnd b => exact execZpFdHoldEnd_apart h b
  | zpRollcallBroadcast b => exact execZpRollcallBroadcast_apart h b
  | zpFrameLoad b => exact execZpFrameLoad_apart h b
  | curSelHigh => exact execCurSelHigh_apart h
  | curSelLow => exact execCurSelLow_apart h
  | takeoverRestoreEnd => exact execTakeoverRestoreEnd_apart h
  | takeoverCalibration => exact execTakeoverCalibration_apart h
  | takeoverSequencerEnable cal => exact execTakeoverSequencerEnable_apart h cal
  | takeoverEngineStart => exact execTakeoverEngineStart_apart h
  | healthFrame => exact execHealthFrame_apart h
  | curatorSample hbA hsA hbB hsB => exact execCuratorSample_apart h hbA hsA hbB hsB
  | linkBringup => exact execLinkBringup_apart h
  | linkCompat record => exact execLinkCompat_apart h record
  | linkStatus st => exact execLinkStatus_apart h st
  | linkMirror bytes => exact execLinkMirror_apart h bytes
  | linkCkptChunk c => exact execLinkCkptChunk_apart h c
  | linkCkptEnd cknum ckrtc nrec => exact execLinkCkptEnd_apart h cknum ckrtc nrec
  | linkCrcFail typ => exact execLinkCrcFail_apart h typ
  | linkMgmtRequest write tag addr n words split => exact execLinkMgmtRequest_apart h write tag addr n words split
  | linkMgmtReply tag status words => exact execLinkMgmtReply_apart h tag status words
  | linkMgmtTimeout => exact execLinkMgmtTimeout_apart h
  | linkDown => exact execLinkDown_apart h
  | checkpointStart => exact execCheckpointStart_apart h
  | vaultCopy => exact execVaultCopy_apart h
  | swapRequest m w => exact execSwapRequest_apart h m w
  | selfTestCycle r => exact execSelfTestCycle_apart h r
  | folioMasterAccess => exact execFolioMasterAccess_apart h
  | folioJobStart => exact execFolioJobStart_apart h
  | folioProgramEnd => exact execFolioProgramEnd_apart h
  | folioRecallScanEnd => exact execFolioRecallScanEnd_apart h
  | pfiAccepted => exact execPfiAccepted_apart h
  | powerDownSaveEnd => exact execPowerDownSaveEnd_apart h
  | folioRemap m w => exact execFolioRemap_apart h m w
  | folioProtWrite m w => exact execFolioProtWrite_apart h m w
  | clearMissed m w => exact execClearMissed_apart h m w
  | userCounterInc m w => exact execUserCounterInc_apart h m w
  | folLiveWrite m ix w => exact execFolLiveWrite_apart h m ix w
  | sensorSample t0 t1 t2 t3 => exact execSensorSample_apart h t0 t1 t2 t3
  | sensorTestSample d0 d1 d2 d3 => exact execSensorTestSample_apart h d0 d1 d2 d3
  | aonComparatorSample above => exact execAonComparatorSample_apart h above
  | thermalHaltEntry => exact execThermalHaltEntry_apart h
  | aonSecond => exact execAonSecond_apart h
  | keyScanEnd keys => exact execKeyScanEnd_apart h keys
  | scannerWakeTimeout => exact execScannerWakeTimeout_apart h
  | combinationWrite m n cfg w => exact execCombinationWrite_apart h m n cfg w
  | ledgerClear m w => exact execLedgerClear_apart h m w
  | ledgerSelect m k w => exact execLedgerSelect_apart h m k w
  | snapshotModeWrite m w => exact execSnapshotModeWrite_apart h m w
  | snapshot => exact execSnapshot_apart h
  | annalsRingWrite => exact execAnnalsRingWrite_apart h
  | persistentLogReadEnd => exact execPersistentLogReadEnd_apart h
  | foxingScan slack bgdiff cref => exact execFoxingScan_apart h slack bgdiff cref
  | foxingReplan => exact execFoxingReplan_apart h
  | foxVreqWrite m w => exact execFoxVreqWrite_apart h m w
  | spiRead addr len split => exact execSpiRead_apart h addr len split
  | spiWrite addr words split => exact execSpiWrite_apart h addr words split
  | spiWriteb addr bytes split => exact execSpiWriteb_apart h addr bytes split
  | spiStatus => exact execSpiStatus_apart h
  | spiReset bytes => exact execSpiReset_apart h bytes
  | spiBadOpcode op clocked => exact execSpiBadOpcode_apart h op clocked
  | spiWaitPoint => exact execSpiWaitPoint_apart h
  | spiAbort => exact execSpiAbort_apart h
  | counterClear m a w => exact execCounterClear_apart h m a w
  | registerWrite m a w => exact execRegisterWrite_apart h m a w
  | switchEdge t clk padOk => exact execSwitchEdge_apart h t clk padOk
  | linkLaneLock lane => exact execLinkLaneLock_apart h lane
  | linkRateFallback => exact execLinkRateFallback_apart h
  | linkCapsReceived caps => exact execLinkCapsReceived_apart h caps
  | zpUnknownType b => exact execZpUnknownType_apart h b
  | pllLRelock three => exact execPllLRelock_apart h three
  | aonClockChangeover => exact execAonClockChangeover_apart h

theorem step_apart (h : s.neverBoth = true) : apartOut (step s) := by
  unfold step
  split
  · rw [apartOut_next]
    exact State.idle_apart h
  next c rest _ =>
    have h' : ({ s with pending := rest } : State).neverBoth = true := h
    exact exec_apart h' c
end

/-! ### Dead time (R175, R177) -/

section Edge

variable {p q : Phase} {c d minp : Int} {ok : Bool}

/-- From `p` to `q` a switch is turned on only where the pad reads back and the dead time has passed since the other
went off, and not both are on after it (R175). -/
structure Phase.Spaced (p q : Phase) (c d : Int) (ok : Bool) : Prop where
  apart : ¬(q.hi = true ∧ q.lo = true)
  high : q.hi = true → p.hi = false → ok = true ∧ d ≤ c - q.loOff
  low : q.lo = true → p.lo = false → ok = true ∧ d ≤ c - q.hiOff

/-- The pulse calls for the high switch at period clock `c`. -/
def Phase.up (p : Phase) (c : Int) : Bool :=
  if p.dropH then false else if p.dropL then true else decide (p.r ≤ c) && decide (c < p.f)

/-- The low switch is commanded off at `c`. -/
def Phase.lowOff (p : Phase) (c : Int) : Phase :=
  if p.lo then { p with lo := false, loOff := c, moved := false } else p

/-- The high switch is commanded off at `c`. -/
def Phase.highOff (p : Phase) (c : Int) : Phase :=
  if p.hi then { p with hi := false, hiOff := c, moved := false } else p

/-- The high switch is commanded on at `c`, unless the dead time or the pad forbids it. -/
def Phase.turnHigh (q : Phase) (c d : Int) (ok : Bool) : Phase × Bool × Bool :=
  if q.hi || decide (c - q.loOff < d) then (q, false, false)
  else if ok then ({ q with hi := true, hiOn := c }, false, false) else (q, false, true)

/-- The low switch is commanded on at `c`, unless the dead time or the pad forbids it. -/
def Phase.turnLow (q : Phase) (c d : Int) (ok : Bool) : Phase × Bool × Bool :=
  if q.lo || decide (c - q.hiOff < d) then (q, false, false)
  else if ok then ({ q with lo := true, loOn := c }, false, false) else (q, false, true)

theorem Phase.edge_eq (p : Phase) (c d minp : Int) (ok : Bool) : p.edge c d minp ok =
    if p.up c then
      if p.lo && decide (c - p.loOn < minp) then ({ p with moved := true }, !p.moved, false)
      else (p.lowOff c).turnHigh c d ok
    else
      if p.hi && decide (c - p.hiOn < minp) then ({ p with moved := true }, !p.moved, false)
      else (p.highOff c).turnLow c d ok := rfl

/-- A phase whose switches stand as they were. -/
theorem Phase.Spaced.same (h : ¬(p.hi = true ∧ p.lo = true)) (hh : q.hi = p.hi) (hl : q.lo = p.lo) :
    p.Spaced q c d ok :=
  ⟨by rwa [hh, hl], fun on off => absurd (hh ▸ on) (by simp [off]), fun on off => absurd (hl ▸ on) (by simp [off])⟩

theorem Phase.spaced_turnHigh (hh : q.hi = p.hi) (hl : q.lo = false) : p.Spaced (q.turnHigh c d ok).1 c d ok := by
  have low : ∀ {b : Bool}, q.lo = true → b = false → ok = true ∧ d ≤ c - q.hiOff := fun on =>
    absurd on (by simp [hl])
  have stay : p.Spaced q c d ok := ⟨by simp [hl], fun on off => absurd (hh ▸ on) (by simp [off]), low⟩
  unfold Phase.turnHigh
  split
  · exact stay
  · split
    next wait pad =>
      refine ⟨by simp [hl], fun _ _ => ⟨pad, ?_⟩, low⟩
      simp only [Bool.or_eq_true, decide_eq_true_eq, not_or, not_lt] at wait
      exact wait.2
    next => exact stay

theorem Phase.spaced_turnLow (hh : q.hi = false) (hl : q.lo = p.lo) : p.Spaced (q.turnLow c d ok).1 c d ok := by
  have high : ∀ {b : Bool}, q.hi = true → b = false → ok = true ∧ d ≤ c - q.loOff := fun on =>
    absurd on (by simp [hh])
  have stay : p.Spaced q c d ok := ⟨by simp [hh], high, fun on off => absurd (hl ▸ on) (by simp [off])⟩
  unfold Phase.turnLow
  split
  · exact stay
  · split
    next wait pad =>
      refine ⟨by simp [hh], high, fun _ _ => ⟨pad, ?_⟩⟩
      simp only [Bool.or_eq_true, decide_eq_true_eq, not_or, not_lt] at wait
      exact wait.2
    next => exact stay

theorem Phase.lowOff_shown (p : Phase) (c : Int) : (p.lowOff c).hi = p.hi ∧ (p.lowOff c).lo = false := by
  cases h : p.lo <;> simp [Phase.lowOff, h]

theorem Phase.highOff_shown (p : Phase) (c : Int) : (p.highOff c).hi = false ∧ (p.highOff c).lo = p.lo := by
  cases h : p.hi <;> simp [Phase.highOff, h]

/-- R175 at every edge. -/
theorem Phase.edge_spaced (h : ¬(p.hi = true ∧ p.lo = true)) : p.Spaced (p.edge c d minp ok).1 c d ok := by
  rw [Phase.edge_eq]
  split
  · split
    · exact .same h rfl rfl
    · exact Phase.spaced_turnHigh (p.lowOff_shown c).1 (p.lowOff_shown c).2
  · split
    · exact .same h rfl rfl
    · exact Phase.spaced_turnLow (p.highOff_shown c).1 (p.highOff_shown c).2

theorem Phase.turnHigh_fault (h : (q.turnHigh c d ok).2.2 = true) : ok = false := by
  cases ok
  · rfl
  · unfold Phase.turnHigh at h
    split at h <;> exact absurd h (by simp)

theorem Phase.turnLow_fault (h : (q.turnLow c d ok).2.2 = true) : ok = false := by
  cases ok
  · rfl
  · unfold Phase.turnLow at h
    split at h <;> exact absurd h (by simp)

/-- A turn-on waits for the pad only where the pad does not read back (R177). -/
theorem Phase.edge_fault (h : (p.edge c d minp ok).2.2 = true) : ok = false := by
  rw [Phase.edge_eq] at h
  split at h
  · split at h
    · exact absurd h (by simp)
    · exact Phase.turnHigh_fault h
  · split at h
    · exact absurd h (by simp)
    · exact Phase.turnLow_fault h

end Edge

/-! ### The edge of a phase, and what it shows (R177, R180, R186) -/

section EdgeShown

variable {s : State} {p : Phase} {g x n : Nat} {ok : Bool}

/-- An edge that was moved is counted and shown (R180). -/
def State.edgeMoved (s : State) (g : Nat) (clamp : Bool) : State :=
  s.cond clamp (fun t => (t.count (F.PWM_G_CLAMPCNT g) (34 + g)).setF (F.PWM_G_STAT_CLAMP g) 1)

/-- What the edge of a phase shows besides its switches: a moved edge, and a pad that does not read back (R177,
R180). -/
def State.edgeShown (s : State) (g : Nat) (clamp fault : Bool) : State :=
  (s.edgeMoved g clamp).cond fault (fun t => (t.setF (F.PWM_G_STAT_PADFLT g) 1).failSource 6)

/-- The edge `r` of phase `x` is carried out. -/
def State.edged (s : State) (g x : Nat) (r : Phase × Bool × Bool) : State :=
  (s.setGrp g (fun q => { q with ph := q.ph.set x r.1 })).edgeShown g r.2.1 r.2.2

theorem State.phaseEdge_eq (s : State) (g x n : Nat) (ok : Bool) : s.phaseEdge g x n ok =
    if !(s.grp g).live || s.on (F.PWM_G_STAT_CUT g) then s
    else ((s.grp g).ph[x]?).elim s
      (fun p => s.edged g x (p.edge n (s.f (F.PWM_G_DEADTIME_DT g)) (s.f (F.PWM_G_DEADTIME_MINP g)) ok)) := by
  unfold State.phaseEdge
  cases (s.grp g).ph[x]? <;> rfl

theorem State.phaseEdge_runs (hl : (s.grp g).live = true) (hc : s.on (F.PWM_G_STAT_CUT g) = false)
    (hp : (s.grp g).ph[x]? = some p) : s.phaseEdge g x n ok =
    s.edged g x (p.edge n (s.f (F.PWM_G_DEADTIME_DT g)) (s.f (F.PWM_G_DEADTIME_MINP g)) ok) := by
  rw [State.phaseEdge_eq, hl, hc, hp, if_neg (by decide), Option.elim_some]

theorem State.phaseEdge_still (h : (s.grp g).live = false ∨ s.on (F.PWM_G_STAT_CUT g) = true) :
    s.phaseEdge g x n ok = s := by
  rw [State.phaseEdge_eq, if_pos (by rcases h with h | h <;> simp [h])]

theorem exec_phaseEdge (g : Fin 6) (x : Fin 3) (clk : BitVec 16) (ok : Bool) (s : State) :
    exec (.switchEdge (.phase g x) clk ok) s = .next (if s.pwmOn then s.phaseEdge g x clk.toNat ok else s) := rfl

/-- The registers that an edge may change. -/
def edgeRegs (g : Nat) : List Nat :=
  (F.PWM_G_CLAMPCNT g).addr :: (F.PWM_G_STAT_CLAMP g).addr :: F.PAIR_FAILSRC_SRC.addr :: countRegs

theorem edgeRegs_within (hg : g < 6) : ∀ a, a ∈ edgeRegs g → blockOf a ∈ [4, 9] ∨ a ∈ countRegs := by
  have own : ∀ g, g < 6 → ∀ a, a ∈ [(F.PWM_G_CLAMPCNT g).addr, (F.PWM_G_STAT_CLAMP g).addr, F.PAIR_FAILSRC_SRC.addr] →
      blockOf a ∈ [4, 9] := by decide +kernel
  intro a ha
  rcases (List.mem_append (s := [_, _, _])).mp ha with h | h
  · exact .inl (own g hg a h)
  · exact .inr h

theorem State.edgeMoved_within (s : State) (g : Nat) (b : Bool) : Within (edgeRegs g) s (s.edgeMoved g b) :=
  Within.cond _ (((s.count_within _ _).mono fun a h => by
    rcases List.mem_cons.mp h with h | h <;> simp [edgeRegs, h]).thenSetF (by simp [edgeRegs]) 1)

theorem State.edgeShown_within (s : State) (g : Nat) (a b : Bool) : Within (edgeRegs g) s (s.edgeShown g a b) := by
  have fault : ∀ t : State, Within (edgeRegs g) t ((t.setF (F.PWM_G_STAT_PADFLT g) 1).failSource 6) := fun t =>
    ((Within.refl t).thenSetF (x := F.PWM_G_STAT_PADFLT g) (List.mem_cons_of_mem _ List.mem_cons_self) 1).trans
      ((State.failSource_within _ 6).mono fun a h =>
        List.mem_cons_of_mem _ (List.mem_cons_of_mem _ (mem_cons_of_mem_single h)))
  exact (s.edgeMoved_within g a).trans (Within.cond _ (fault _))

theorem State.failSource_regsOnly (s : State) (k : Nat) : regsOnly s (s.failSource k) :=
  sameIn.cond (f := fun t => t.setBit F.PAIR_FAILSRC_SRC k) _ rfl

theorem State.edgeMoved_regsOnly (s : State) (g : Nat) (b : Bool) : regsOnly s (s.edgeMoved g b) :=
  sameIn.cond b (f := fun t => (t.count (F.PWM_G_CLAMPCNT g) (34 + g)).setF (F.PWM_G_STAT_CLAMP g) 1)
    (sameIn.trans (s.count_regsOnly (F.PWM_G_CLAMPCNT g) (34 + g)) (regsOnly.setF _ (F.PWM_G_STAT_CLAMP g) 1))

theorem State.edgeShown_regsOnly (s : State) (g : Nat) (a b : Bool) : regsOnly s (s.edgeShown g a b) := by
  have fault : ∀ t : State, regsOnly t ((t.setF (F.PWM_G_STAT_PADFLT g) 1).failSource 6) := fun t =>
    sameIn.trans (regsOnly.setF t _ 1) (State.failSource_regsOnly _ 6)
  exact (s.edgeMoved_regsOnly g a).trans
    (sameIn.cond b (f := fun t => (t.setF (F.PWM_G_STAT_PADFLT g) 1).failSource 6) (fault _))

theorem State.edgeMoved_regsWf (h : regsWf s.regs = true) (g : Nat) (b : Bool) :
    regsWf (s.edgeMoved g b).regs = true := by
  cases b
  · exact h
  · exact State.setF_regsWf (State.ledger_regsWf (State.add_regsWf h ..) _) ..

theorem padFault_apart : ∀ g, g < 6 → (F.PWM_G_STAT_PADFLT g).addr ∉ [F.PAIR_FAILSRC_SRC.addr] := by decide +kernel

theorem State.edgeShown_fault (h : regsWf s.regs = true) (hg : g < 6) (a : Bool) :
    (s.edgeShown g a true).on (F.PWM_G_STAT_PADFLT g) = true := by
  have shown : s.edgeShown g a true = ((s.edgeMoved g a).setF (F.PWM_G_STAT_PADFLT g) 1).failSource 6 := by
    unfold State.edgeShown State.cond
    exact if_pos rfl
  rw [shown, (State.failSource_within _ 6).on (padFault_apart g hg)]
  exact State.on_setF_same (s.edgeMoved_regsWf h g a) rfl rfl 1

/-- An edge of a group that runs (R175, R177). -/
theorem phaseEdge_acts (g : Fin 6) (x : Fin 3) (clk : BitVec 16) (hs : s.wf = true) (hn : s.pwm.groups.length = 6)
    (hon : s.pwmOn = true) (hl : (s.grp g).live = true) (hc : s.on (F.PWM_G_STAT_CUT g) = false)
    (hp : (s.grp g).ph[x.val]? = some p) (ha : ¬(p.hi = true ∧ p.lo = true)) :
    ∃ (t : State) (q : Phase), exec (.switchEdge (.phase g x) clk ok) s = .next t ∧ (t.grp g).ph[x.val]? = some q ∧
      p.Spaced q clk.toNat (s.f (F.PWM_G_DEADTIME_DT g)) ok ∧
      ((p.edge clk.toNat (s.f (F.PWM_G_DEADTIME_DT g)) (s.f (F.PWM_G_DEADTIME_MINP g)) ok).2.2 = true →
        ok = false ∧ t.on (F.PWM_G_STAT_PADFLT g) = true) ∧ sameMem s t ∧ outside [4, 9] s t := by
  have run := State.phaseEdge_runs (n := clk.toNat) (ok := ok) hl hc hp
  have spaced := Phase.edge_spaced (c := clk.toNat) (d := s.f (F.PWM_G_DEADTIME_DT g))
    (minp := s.f (F.PWM_G_DEADTIME_MINP g)) (ok := ok) ha
  have fault := Phase.edge_fault (p := p) (c := clk.toNat) (d := s.f (F.PWM_G_DEADTIME_DT g))
    (minp := s.f (F.PWM_G_DEADTIME_MINP g)) (ok := ok)
  generalize p.edge clk.toNat (s.f (F.PWM_G_DEADTIME_DT g)) (s.f (F.PWM_G_DEADTIME_MINP g)) ok = r at run spaced fault ⊢
  have grp : (s.setGrp g (fun q => { q with ph := q.ph.set x r.1 })).grp g =
      { s.grp g with ph := (s.grp g).ph.set x r.1 } :=
    State.grp_setGrp_same (by rw [hn]; exact g.isLt) _
  have same := ((Within.refl s).thenHidden (u := s.setGrp g (fun q => { q with ph := q.ph.set x r.1 })) rfl rfl).trans
    (State.edgeShown_within _ g r.2.1 r.2.2)
  refine ⟨s.edged g x r, r.1, by rw [exec_phaseEdge, hon, if_pos rfl, run], ?_, spaced, fun h => ⟨fault h, ?_⟩,
    same.sameMem, outside_of_sameRegs same.regs (edgeRegs_within g.isLt)⟩
  · rw [State.edged, State.grp_of_pwm (State.edgeShown_regsOnly _ g _ _).pwm, grp]
    obtain ⟨bound, -⟩ := List.getElem?_eq_some_iff.mp hp
    exact List.getElem?_set_self bound
  · rw [State.edged, h]
    exact State.edgeShown_fault (s := s.setGrp g (fun q => { q with ph := q.ph.set x r.1 })) (State.wf_regs hs) g.isLt _

end EdgeShown

/-! ### The edge of a general channel (R193, R200) -/

section ChannelEdge

variable {s : State} {c : Nat}

theorem exec_channelEdge (c : Fin 32) (clk : BitVec 16) (ok : Bool) (s : State) :
    exec (.switchEdge (.gp c) clk ok) s =
      .next (if s.pwmOn then s.setGpc c (fun q => { q with pin := s.gpPin c clk.toNat }) else s) := rfl

theorem State.gpPin_off (h : s.gpEnabled c = false) (n : Nat) : s.gpPin c n = false := by
  unfold State.gpPin
  rw [h]
  rfl

theorem State.gpPin_safe (h : s.gpEnabled c = true) (k : (s.gpc c).safe = true) (n : Nat) :
    s.gpPin c n = s.gpSafeLevel c n := by
  unfold State.gpPin
  rw [h, k]
  rfl

theorem State.gpPin_live (h : s.gpEnabled c = true) (k : (s.gpc c).safe = false) (l : (s.gpc c).live = true) (n : Nat) :
    s.gpPin c n = decide (n < s.f (F.PWM_GP_ACT_DUTY c)) := by
  unfold State.gpPin
  rw [h, k, l]
  rfl

theorem State.gpPin_idle (h : s.gpEnabled c = true) (k : (s.gpc c).safe = false) (l : (s.gpc c).live = false)
    (n : Nat) : s.gpPin c n = (s.gpc c).pin := by
  unfold State.gpPin
  rw [h, k, l]
  rfl

end ChannelEdge

/-- Settles O33: no function of the model turns both switches of a phase on; then the edges of a phase and of a
channel. -/
theorem deadTimeIsKept : Obligations.DeadTimeIsKept := by
  refine ⟨by decide, fun c s t h e => ?_, fun s t h e => ?_, fun s g x clk ok p hs hn hon hl hc hp ha => ?_,
    fun s g x clk ok hon h => ?_, fun s c clk ok hn hon => ?_⟩
  · have kept := exec_apart h c
    rw [e] at kept
    exact kept
  · have kept := step_apart h
    rw [e] at kept
    exact kept
  · obtain ⟨t, q, run, phase, ⟨apart, high, low⟩, rest⟩ := phaseEdge_acts (ok := ok) g x clk hs hn hon hl hc hp ha
    exact ⟨t, q, run, phase, apart, high, low, rest⟩
  · rw [exec_phaseEdge, hon, if_pos rfl, State.phaseEdge_still h]
  · have now : ∀ v, ((s.setGpc c (fun q => { q with pin := v })).gpc c).pin = v := fun v => by
      rw [State.gpc_setGpc_same (by rw [hn]; exact c.isLt)]
    refine ⟨s.setGpc c (fun q => { q with pin := s.gpPin c clk.toNat }), by
      rw [exec_channelEdge, hon, if_pos rfl], fun h => ?_, fun h k => ?_, fun h k l => ?_, fun h k l => ?_,
      fun _ _ => rfl, fun _ => rfl⟩
    · rw [now, State.gpPin_off h]
    · rw [now, State.gpPin_safe h k]
    · rw [now, State.gpPin_live h k l]
    · rw [now, State.gpPin_idle h k l]
end Sys2Proof.Machine

namespace Sys2Proof.Machine

/-! ### The arithmetic of the engine (R198, R211, R212, R243) -/

section Arithmetic

theorem sat32_range (i : Int) : -2147483648 ≤ sat32 i ∧ sat32 i ≤ 2147483647 := clampI_range (by decide) i

/-! #### A section's run (R211, R212) -/

/-- The sum of R211, not yet saturated. -/
def Sect.sum (c : Sect) (x : Int) : Int :=
  term c.b0 (toS 6 c.ex) x + term c.b1 (toS 6 (c.ex / 2 ^ 6)) c.x1 + term c.b2 (toS 6 (c.ex / 2 ^ 12)) c.x2
    - term c.a1 (toS 6 (c.ex / 2 ^ 18)) c.y1 - term c.a2 (toS 6 (c.ex / 2 ^ 24)) c.y2

/-- The signed move of the output by the saturated sum. -/
def Sect.move (c : Sect) (x : Int) : Int :=
  if c.neg then -(sat32 (c.sum x) - c.y1) else sat32 (c.sum x) - c.y1

/-- The section is frozen: an integrator that would move further into the limiter's clamp (R212). -/
def Sect.freezes (c : Sect) (x : Int) (hi lo : Bool) : Bool :=
  c.integ && ((hi && decide (0 < c.move x)) || (lo && decide (c.move x < 0)))

theorem Sect.run_eq (c : Sect) (x : Int) (hi lo : Bool) : c.run x hi lo =
    if c.freezes x hi lo then ⟨c.y1, c.x1, c.x2, c.y1, c.y2, true, false⟩
    else ⟨sat32 (c.sum x), x, c.x1, sat32 (c.sum x), c.y1, false, over32 (c.sum x)⟩ := rfl

/-- A run keeps the section as it was, which only an integrator's does, or writes the saturated sum. -/
theorem Sect.run_cases (c : Sect) (x : Int) (hi lo : Bool) :
    (c.integ = true ∧ c.run x hi lo = ⟨c.y1, c.x1, c.x2, c.y1, c.y2, true, false⟩) ∨
      c.run x hi lo = ⟨sat32 (c.sum x), x, c.x1, sat32 (c.sum x), c.y1, false, over32 (c.sum x)⟩ := by
  rw [Sect.run_eq]
  split
  next frozen => exact .inl ⟨(Bool.and_eq_true_iff.mp frozen).1, rfl⟩
  next => exact .inr rfl

theorem Sect.run_range {c : Sect} (hy : -2147483648 ≤ c.y1) (hy' : c.y1 ≤ 2147483647) (x : Int) (hi lo : Bool) :
    -2147483648 ≤ (c.run x hi lo).out ∧ (c.run x hi lo).out ≤ 2147483647 ∧
      (c.run x hi lo).y1 = (c.run x hi lo).out := by
  obtain ⟨-, run⟩ | run := c.run_cases x hi lo
  · rw [run]
    exact ⟨hy, hy', rfl⟩
  · rw [run]
    exact ⟨(sat32_range _).1, (sat32_range _).2, rfl⟩

theorem Sect.run_frozen {c : Sect} {x : Int} {hi lo : Bool} (h : (c.run x hi lo).froze = true) :
    c.integ = true ∧ (c.run x hi lo).out = c.y1 ∧ (c.run x hi lo).x1 = c.x1 ∧ (c.run x hi lo).x2 = c.x2 ∧
      (c.run x hi lo).y2 = c.y2 := by
  obtain ⟨integ, run⟩ | run := c.run_cases x hi lo
  · rw [run]
    exact ⟨integ, rfl, rfl, rfl, rfl⟩
  · exact absurd (run ▸ h) (by simp)

theorem Sect.run_free {c : Sect} {x : Int} {hi lo : Bool} (h : (c.run x hi lo).froze = false) :
    (c.run x hi lo).out = sat32 (c.sum x) ∧ (c.run x hi lo).x1 = x ∧ (c.run x hi lo).x2 = c.x1 ∧
      (c.run x hi lo).y2 = c.y1 := by
  obtain ⟨-, run⟩ | run := c.run_cases x hi lo
  · exact absurd (run ▸ h) (by simp)
  · rw [run]
    exact ⟨rfl, rfl, rfl, rfl⟩

/-! #### Rotator widths (R198) -/

theorem clampI_toNat_le (n : Nat) (i : Int) : (clampI 0 n i).toNat ≤ n := by
  have := (clampI_range (Int.natCast_nonneg n) i).2
  omega

theorem rotatorWidths_within (a : Nat) (vd vq : Int) (np : Nat) : (rotatorWidths a vd vq np).1.length = 3 ∧
    ∀ w, w ∈ (rotatorWidths a vd vq np).1 → w ≤ np := by
  refine ⟨rfl, fun w hw => ?_⟩
  unfold rotatorWidths at hw
  simp only [List.mem_cons, List.not_mem_nil, or_false] at hw
  rcases hw with rfl | rfl | rfl <;> exact clampI_toNat_le np _

/-! #### The shaper (R243) -/

/-- The steps that R243 tries, the first that fits: one up, as it is, one down. -/
def shaperStep (rate acc u d : Int) : Int :=
  if shaperFits acc (min (u + acc) rate) d then min (u + acc) rate
  else if shaperFits acc (min u rate) d then min u rate else min (u - acc) rate

theorem pos_of_not_shaperFits {acc c d : Int} (h : ¬shaperFits acc c d = true) : 0 < c := by
  unfold shaperFits at h
  simp only [Bool.or_eq_true, decide_eq_true_eq, not_or] at h
  omega

/-- A step down is tried only after a speed towards the target did not fit, so it leads no further than `acc` away. -/
theorem shaperStep_range {rate acc u : Int} (ha : 0 ≤ acc) (har : acc ≤ rate) (hu : -rate ≤ u) (d : Int) :
    -rate ≤ shaperStep rate acc u d ∧ shaperStep rate acc u d ≤ rate := by
  unfold shaperStep
  split
  · omega
  · split
    · omega
    next fits =>
      have speed := pos_of_not_shaperFits fits
      omega

theorem sgnI_cases (i : Int) : sgnI i = 1 ∨ sgnI i = -1 ∨ sgnI i = 0 := by
  unfold sgnI
  split
  · exact .inl rfl
  · split
    · exact .inr (.inl rfl)
    · exact .inr (.inr rfl)

theorem sign_mul_range {k r v : Int} (hk : k = 1 ∨ k = -1 ∨ k = 0) (h : -r ≤ v) (h' : v ≤ r) :
    -r ≤ k * v ∧ k * v ≤ r := by
  rcases hk with rfl | rfl | rfl <;> omega

/-- The new SPVEL, by the cases of R243. -/
theorem shaper_speed {rate : Int} (h : 0 < rate) (shacc t spsh spvel : Int) :
    (shaper rate shacc t spsh spvel).2.1 =
      if max (min shacc rate) 0 = 0 then clampI (-rate) rate (t - spsh)
      else if (t - spsh).natAbs ≤ (max (min shacc rate) 0).natAbs ∧
          (t - spsh - spvel).natAbs ≤ (max (min shacc rate) 0).natAbs then t - spsh
      else (if t - spsh = 0 then sgnI spvel else sgnI (t - spsh)) * shaperStep rate (max (min shacc rate) 0)
        ((if t - spsh = 0 then sgnI spvel else sgnI (t - spsh)) * spvel) (t - spsh).natAbs := by
  unfold shaper shaperStep
  have pos : max rate 0 = rate := by omega
  have moves : ¬rate = 0 := by omega
  dsimp only
  rw [pos, if_neg moves]
  split
  · rfl
  · split <;> rfl

theorem shaper_range {rate : Int} (h : 0 < rate) (shacc t spsh : Int) {spvel : Int} (hv : -rate ≤ spvel)
    (hv' : spvel ≤ rate) :
    -rate ≤ (shaper rate shacc t spsh spvel).2.1 ∧ (shaper rate shacc t spsh spvel).2.1 ≤ rate := by
  rw [shaper_speed h]
  have acc : 0 ≤ max (min shacc rate) 0 ∧ max (min shacc rate) 0 ≤ rate := by omega
  generalize max (min shacc rate) 0 = a at acc ⊢
  have sign : ∀ e : Int, (if e = 0 then sgnI spvel else sgnI e) = 1 ∨ (if e = 0 then sgnI spvel else sgnI e) = -1 ∨
      (if e = 0 then sgnI spvel else sgnI e) = 0 := fun e => by
    split <;> exact sgnI_cases _
  split
  · exact clampI_range (by omega) _
  · split
    next near => omega
    next =>
      have speed := sign_mul_range (sign (t - spsh)) hv hv'
      have step := shaperStep_range acc.1 acc.2 speed.1 (t - spsh).natAbs
      exact sign_mul_range (sign (t - spsh)) step.1 step.2

theorem shaper_jumps {rate : Int} (h : rate ≤ 0) (shacc t spsh spvel : Int) :
    shaper rate shacc t spsh spvel = (t, 0, false) := if_pos (max_eq_right h)

end Arithmetic

/-- Settles O36: sections, rotator widths and the shaper. -/
theorem engineArithmeticStaysInRange : Obligations.EngineArithmeticStaysInRange := by
  refine ⟨fun c x hi lo hy hy' => ?_, rotatorWidths_within,
    fun _ shacc t spsh _ h hv hv' => shaper_range h shacc t spsh hv hv',
    fun _ shacc t spsh spvel h => shaper_jumps h shacc t spsh spvel⟩
  obtain ⟨low, high, same⟩ := Sect.run_range hy hy' x hi lo
  exact ⟨low, high, same, Sect.run_frozen, Sect.run_free⟩

end Sys2Proof.Machine

namespace Sys2Proof.Machine

/-! ### The trip inputs are sampled (R189) -/

section Sampled

variable {s t u : State} {g : Nat}

theorem setBits_one (x lo : Nat) : setBits x lo 1 1 = orN x (2 ^ lo) := by
  refine Nat.eq_of_testBit_eq fun k => ?_
  rw [testBit_setBits, ← bit_eq_testBit (orN x _), bit_orN, bit_eq_testBit, bit_eq_testBit, Nat.testBit_two_pow]
  split
  · simp [show ¬lo = k by omega]
  · split
    · obtain rfl : k = lo := by omega
      simp
    · simp [show ¬lo = k by omega]

theorem State.tripLevels_regsOnly (s : State) (lv : Nat) : regsOnly s (s.tripLevels lv) := by
  rw [State.tripLevels_eq]
  exact (s.tripBits_regsOnly lv).trans (sameIn.each (fun t g => t.groupFlag_regsOnly lv g) _ _)

theorem State.tripLevels_sameTrips (s : State) (lv : Nat) : sameRegs s (s.tripLevels lv)
    (F.PWM_TRIPFLAG_FLAG.addr :: F.PWM_STAT_TRIPIN.addr :: statRegs) := by
  rw [State.tripLevels_eq]
  refine ((s.tripBits_same lv).mono fun a ha => ?_).trans
    ((State.groupFlags_same _ lv).mono fun a ha => List.mem_cons_of_mem _ (List.mem_cons_of_mem _ ha))
  simp only [List.mem_cons, List.not_mem_nil, or_false] at ha ⊢
  tauto

theorem tripRegs_apart : F.PWM_STAT_TRIPIN.addr ∉ statRegs ∧ F.PWM_TRIPFLAG_FLAG.addr ∉ statRegs := by decide +kernel

/-- The live and the sticky bits, and SAFE beside them. -/
theorem State.tripLevels_bits (h : regsWf s.regs = true) {lv : Nat} (hl : lv < 2 ^ 8) :
    (s.tripLevels lv).f F.PWM_STAT_TRIPIN = lv ∧
    (s.tripLevels lv).f F.PWM_TRIPFLAG_FLAG = orN (s.f F.PWM_TRIPFLAG_FLAG) lv ∧
    (s.tripLevels lv).on F.PWM_STAT_SAFE = s.on F.PWM_STAT_SAFE := by
  obtain ⟨live, sticky⟩ := tripRegs_apart
  have wf := State.setF_regsWf h F.PWM_STAT_TRIPIN lv
  have before : (s.setF F.PWM_STAT_TRIPIN lv).f F.PWM_TRIPFLAG_FLAG = s.f F.PWM_TRIPFLAG_FLAG :=
    State.f_setF_apart h rfl rfl _
  have flags := State.groupFlags_same (s.tripBits lv) lv
  rw [State.tripLevels_eq]
  refine ⟨?_, ?_, ?_⟩
  · rw [State.f_of_rd (flags _ live)]
    exact (State.f_setF_apart wf rfl rfl _).trans ((State.f_setF_same h rfl _).trans (Nat.mod_eq_of_lt hl))
  · rw [State.f_of_rd (flags _ sticky)]
    refine (State.f_setF_same wf rfl _).trans ?_
    rw [before]
    exact Nat.mod_eq_of_lt (Nat.or_lt_two_pow (s.f_lt F.PWM_TRIPFLAG_FLAG) hl)
  · rw [State.on_of_rd (x := F.PWM_STAT_SAFE) (flags _ live)]
    exact (State.on_setF_apart wf rfl rfl _).trans (State.on_setF_apart h rfl rfl _)

/-- Of group `g` the trip levels change its own TRIP bit and nothing else. -/
theorem State.tripLevels_group (hg : g < 6) (s : State) (lv : Nat) :
    ∃ v, GroupKept g s v ∧ GroupKept g (v.groupFlag lv g) (s.tripLevels lv) := by
  obtain ⟨v, before, after⟩ := State.each_visit (R := GroupKept g) (GroupKept.refl g) (fun _ _ _ => GroupKept.trans)
    (f := fun t g => t.groupFlag lv g) (List.mem_range.mpr hg) List.nodup_range
    (fun t k hk h => .groupFlag hg (List.mem_range.mp hk) h t lv) (s.tripBits lv)
  exact ⟨v, (GroupKept.tripBits hg s lv).trans before, after⟩

/-- The status of a group after the levels: its TRIP bit is set where the map finds an active input. -/
theorem State.groupFlag_stat (h : regsWf s.regs = true) (lv : Nat) :
    (s.groupFlag lv g).rd (F.PWM_G_STAT_TRIP g).addr = orN (s.rd (F.PWM_G_STAT_TRIP g).addr)
      (if andN (s.f (F.PWM_G_TRIPMAP_MAP g)) lv = 0 then 0 else 2 ^ (F.PWM_G_STAT_TRIP g).lo) := by
  unfold State.groupFlag State.cond
  by_cases none : andN (s.f (F.PWM_G_TRIPMAP_MAP g)) lv = 0
  · rw [if_neg (by simp [none]), if_pos none]
    exact (Nat.or_zero _).symm
  · rw [if_pos (bne_iff_ne.mpr none), if_neg none, State.rd_setF_same h rfl]
    exact setBits_one _ _

theorem State.tripLevels_stat (h : regsWf s.regs = true) (hg : g < 6) (lv : Nat) :
    (s.tripLevels lv).rd (F.PWM_G_STAT_TRIP g).addr = orN (s.rd (F.PWM_G_STAT_TRIP g).addr)
      (if andN (s.f (F.PWM_G_TRIPMAP_MAP g)) lv = 0 then 0 else 2 ^ (F.PWM_G_STAT_TRIP g).lo) := by
  obtain ⟨v, before, after⟩ := s.tripLevels_group hg lv
  rw [after.regs _ (statTrip_mem_groupRegs g), State.groupFlag_stat (before.wf h),
    before.regs _ (statTrip_mem_groupRegs g), before.f (tripmap_mem_groupRegs g)]

/-- Every other bit of a group's status stands. -/
theorem State.tripLevels_f (h : regsWf s.regs = true) (hg : g < 6) (lv : Nat) {x : Fld} (hx : x.addr ∈ groupRegs g)
    (ha : (F.PWM_G_STAT_TRIP g).apart x = true) : (s.tripLevels lv).f x = s.f x := by
  obtain ⟨v, before, after⟩ := s.tripLevels_group hg lv
  exact (after.f hx).trans ((State.f_groupFlag (before.wf h) lv ha).trans (before.f hx))

theorem State.tripLevels_regsWf (h : regsWf s.regs = true) (lv : Nat) : regsWf (s.tripLevels lv).regs = true := by
  obtain ⟨v, before, after⟩ := State.tripLevels_group (g := 0) (by decide) s lv
  exact after.wf (State.groupFlag_regsWf (before.wf h) lv 0)

/-- The trip inputs as they are now act on the flags (log entry 128). -/
def State.sampled (s : State) : State := s.tripNow.tripLevels (s.tripNow.f F.PWM_STAT_TRIPIN)

theorem State.tripNow_pwmOnly (s : State) : pwmOnly s s.tripNow := by
  have used : pwmOnly s s.free.2 := rfl
  unfold State.tripNow
  exact sameIn.ite (sameIn.refl s) (used.trans (pwmOnly.setF _ _ _))

theorem State.tripNow_pwm (s : State) : s.tripNow.pwm = s.pwm := by
  unfold State.tripNow
  split
  · rfl
  · exact (State.setF_pwm ..).trans s.free_pwm

theorem State.tripNow_sameTripin (s : State) : sameRegs s s.tripNow [F.PWM_STAT_TRIPIN.addr] := by
  unfold State.tripNow
  exact sameRegs.ite (sameRegs.refl s _) (sameRegs.setF s.free.2 _ List.mem_cons_self)

theorem State.tripNow_regsWf (h : regsWf s.regs = true) : regsWf s.tripNow.regs = true := by
  unfold State.tripNow
  split
  · exact h
  · exact State.setF_regsWf (s := s.free.2) h _ _

/-- What the inputs show now is part of what they showed, and SAFE stands. -/
theorem State.tripNow_bits (h : regsWf s.regs = true) : (∃ m, s.tripNow.f F.PWM_STAT_TRIPIN =
    andN (s.f F.PWM_STAT_TRIPIN) m) ∧ s.tripNow.on F.PWM_STAT_SAFE = s.on F.PWM_STAT_SAFE := by
  unfold State.tripNow
  split
  next none => exact ⟨⟨0, none.trans (Nat.and_zero _).symm⟩, rfl⟩
  next =>
    refine ⟨⟨s.free.1, ?_⟩, State.on_setF_apart (s := s.free.2) h rfl rfl _⟩
    exact (State.f_setF_same (s := s.free.2) h rfl _).trans
      (Nat.mod_eq_of_lt (Nat.and_le_left.trans_lt (s.f_lt F.PWM_STAT_TRIPIN)))

theorem andNot_andN (x m : Nat) : andNot (andN x m) x = 0 := by
  refine Nat.eq_of_testBit_eq fun k => ?_
  rw [← bit_eq_testBit, bit_andNot, bit_andN, Nat.zero_testBit]
  cases bit x k <;> simp

theorem GroupKept.tripNow (hg : g < 6) (s : State) : GroupKept g s s.tripNow := by
  have apart : ∀ g, g < 6 → ∀ a, a ∈ groupRegs g → a ∉ [F.PWM_STAT_TRIPIN.addr] := by decide +kernel
  exact ⟨State.tripNow_regsWf, fun a ha => s.tripNow_sameTripin a (apart g hg a ha),
    s.tripNow_sameTripin _ (by decide), s.tripNow_pwmOnly.boot, s.tripNow_pwmOnly.safe,
    State.grp_of_pwm s.tripNow_pwm g, congrArg (·.groups.length) s.tripNow_pwm⟩

theorem State.sampled_pwm (s : State) : s.sampled.pwm = s.pwm :=
  (State.tripLevels_regsOnly _ _).pwm.trans s.tripNow_pwm

theorem State.sampled_boot (s : State) : s.sampled.boot = s.boot :=
  (State.tripLevels_regsOnly _ _).pwmOnly.boot.trans s.tripNow_pwmOnly.boot

theorem State.sampled_mem (s : State) : s.sampled.mem = s.mem :=
  (State.tripLevels_regsOnly _ _).pwmOnly.mem.trans s.tripNow_pwmOnly.mem

/-- The registers that the trip inputs change. -/
def sampledRegs : List Nat := F.PWM_TRIPFLAG_FLAG.addr :: F.PWM_STAT_TRIPIN.addr :: statRegs

/-- The registers that tell what the trip inputs do. -/
def tripRegs : List Nat :=
  F.PWM_STAT_TRIPIN.addr :: F.PWM_TRIPFLAG_FLAG.addr :: (List.range 6).map (fun g => (F.PWM_G_TRIPMAP_MAP g).addr)

theorem tripmap_mem_tripRegs (hg : g < 6) : (F.PWM_G_TRIPMAP_MAP g).addr ∈ tripRegs :=
  List.mem_cons_of_mem _ (List.mem_cons_of_mem _ (List.mem_map.mpr ⟨g, List.mem_range.mpr hg, rfl⟩))

theorem State.sampled_same (s : State) : sameRegs s s.sampled sampledRegs :=
  (s.tripNow_sameTripin.mono fun a ha => by simp [sampledRegs, List.mem_singleton.mp ha]).trans
    (State.tripLevels_sameTrips _ _)

/-- A bit of a group's status other than TRIP. -/
theorem State.sampled_f (h : regsWf s.regs = true) (hg : g < 6) {x : Fld} (hx : x.addr ∈ groupRegs g)
    (ha : (F.PWM_G_STAT_TRIP g).apart x = true) : s.sampled.f x = s.f x :=
  (State.tripLevels_f (State.tripNow_regsWf h) hg _ hx ha).trans ((GroupKept.tripNow hg s).f hx)

/-- A write of registers in `l`, then the trip inputs: what `pwmFrame` says, where none of them tells of the inputs. -/
theorem pwmFrame_sampled {l : List Nat} (wf : regsWf u.regs = true) (same : sameRegs s u l) (mem : u.mem = s.mem)
    (apart : ∀ a, a ∈ l → a ∉ tripRegs) : pwmFrame s u.sampled l := by
  have live : F.PWM_STAT_TRIPIN.addr ∉ l := fun h => apart _ h List.mem_cons_self
  have sticky : F.PWM_TRIPFLAG_FLAG.addr ∉ l := fun h => apart _ h (List.mem_cons_of_mem _ List.mem_cons_self)
  have now := State.tripNow_regsWf wf
  obtain ⟨⟨m, fallen⟩, safe⟩ := State.tripNow_bits wf
  obtain ⟨tripin, flag, safe'⟩ := State.tripLevels_bits now (u.tripNow.f_lt F.PWM_STAT_TRIPIN)
  have tripin' : u.sampled.f F.PWM_STAT_TRIPIN = u.tripNow.f F.PWM_STAT_TRIPIN := tripin
  have before : u.f F.PWM_STAT_TRIPIN = s.f F.PWM_STAT_TRIPIN := State.f_of_rd (same _ live)
  refine ⟨?_, ?_, ?_, ?_, fun g hg hs => ?_, sameMem.ofMem (u.sampled_mem.trans mem)⟩
  · refine (same.mono fun a ha => List.mem_append_left _ ha).trans (u.sampled_same.mono fun a ha =>
      List.mem_append_right _ ha)
  · rw [tripin', fallen, before]
    exact andNot_andN _ _
  · exact safe'.trans (safe.trans (State.on_of_rd (x := F.PWM_STAT_SAFE) (same _ live)))
  · rw [tripin']
    refine flag.trans (congrArg (orN · _) ?_)
    exact (State.f_of_rd (u.tripNow_sameTripin _ (by decide))).trans (State.f_of_rd (same _ sticky))
  · have kept := GroupKept.tripNow hg u
    rw [tripin', ← same _ hs, ← State.f_of_rd (same _ fun h => apart _ h (tripmap_mem_tripRegs hg)),
      ← kept.f (tripmap_mem_groupRegs g),
      ← kept.regs _ (statTrip_mem_groupRegs g)]
    exact State.tripLevels_stat now hg _

end Sampled

/-! ### Writes of masters in the PWM block -/

section PwmWrites

variable {s t u : State} {m : Master} {g o a w : Nat}

/-! #### A word written under its access types -/

/-- A register without RWL fields takes every write. -/
theorem State.plainWrite_open {r : RegRow} (hr : findReg a = some r) (hsh : r.shadowed = false) (hrwl : r.rwl = 0)
    (hc : a ≠ F.ADC_CALINT_INT.addr) (hb : blockOf a ≠ 6) : (s.plainWrite a w).2 = true := by
  have keeps := RegRow.keepsRwl_of_zero (r := r) hrwl (s.rd a) w
  rw [State.plainWrite_taken hr hsh (by simp [RegRow.judged, keeps, hc, hb]), keeps, Bool.or_true]

/-- A write that discards nothing leaves the written bits in every RW and RWL field, and no other register. -/
theorem State.plainWrite_reads {r : RegRow} (h : regsWf s.regs = true) (hr : findReg a = some r)
    (hsh : r.shadowed = false) (ok : (s.plainWrite a w).2 = true) : ∃ v, (s.plainWrite a w).1 = s.wr a v ∧
      ∀ k, k < 32 → bit (orN r.rw r.rwl) k = true → bit ((s.wr a v).rd a) k = bit w k := by
  cases judged : r.judged a (s.rd a) w && s.wouldBreak (s.wr a (r.apply (s.rd a) w (s.ownerStopped a))) with
  | true =>
    simp only [State.plainWrite, hr, hsh, judged, Bool.false_eq_true, if_false, if_true] at ok
  | false =>
    rw [State.plainWrite_taken hr hsh judged] at ok ⊢
    refine ⟨_, rfl, fun k hk field => ?_⟩
    rw [State.bit_rd_apply h r a w _ hk]
    rw [bit_orN, Bool.or_eq_true] at field
    rcases field with rw' | rwl
    · rw [rw', Bool.true_or, if_pos rfl]
    · obtain ⟨-, hrw, hw1c⟩ := bit_rwl hr rwl
      rw [hrw, hw1c, rwl]
      rcases Bool.or_eq_true_iff.mp ok with free | keeps
      · rw [free]
        rfl
      · rw [r.bit_of_keepsRwl keeps rwl]
        cases s.ownerStopped a <;> rfl

/-- `u` is `s` with the word at `a` written: `w` stands in every RW and RWL field of the row `r`. -/
structure Written (s u : State) (a w : Nat) (r : RegRow) : Prop where
  kept : u.Kept s.pending
  pwm : u.pwm = s.pwm
  safe : u.safe = s.safe
  boot : u.boot = s.boot
  mem : u.mem = s.mem
  same : sameRegs s u [a]
  bits : ∀ k, k < 32 → bit (orN r.rw r.rwl) k = true → bit (u.rd a) k = bit w k

theorem State.plainWrite_written {r : RegRow} (hs : s.wf = true) (hr : findReg a = some r) (hsh : r.shadowed = false)
    (ok : (s.plainWrite a w).2 = true) : Written s (s.plainWrite a w).1 a w r := by
  obtain ⟨v, hv, bits⟩ := State.plainWrite_reads (State.wf_regs hs) hr hsh ok
  rw [hv]
  exact ⟨State.wr_kept a v (State.wf_iff_kept.mp hs), rfl, rfl, rfl, rfl, sameRegs.wr s v List.mem_cons_self, bits⟩

/-- A Curator that holds the PWM block takes no write there. -/
theorem State.plantHeld_of_admits (ha : s.admits m a = true) (hb : blockOf a = 4) : s.plantHeld = false := by
  unfold State.admits State.heldReg curatorHeld at ha
  rw [hb] at ha
  simp only [Bool.and_eq_true, Bool.not_eq_true'] at ha
  obtain ⟨-, held⟩ := ha
  exact Bool.eq_false_iff.mpr fun h => by rw [h] at held; simp at held

theorem Written.held {r : RegRow} (h : Written s u a w r) (ha : s.admits m a = true) (hb : blockOf a = 4) :
    u.plantHeld = false := by
  have mode : F.PAIR_CFG_MODE.addr ∉ [a] := fun e => by
    rw [← List.mem_singleton.mp e] at hb
    exact absurd hb (by decide)
  rw [State.plantHeld_of_rd (h.same _ mode) h.boot]
  exact State.plantHeld_of_admits ha hb

theorem State.on_eq_bit {x : Fld} (hx : x.width = 1) : s.on x = bit (s.rd x.addr) x.lo := by
  unfold State.on State.f getBits bit
  rw [hx]
  rfl

/-- A field all of whose bits are as written. -/
theorem State.f_of_bits {x : Fld} (h : ∀ k, k < x.width → bit (s.rd x.addr) (x.lo + k) = bit w (x.lo + k)) :
    s.f x = getBits w x.lo x.width := getBits_congr h

/-! #### How the registers of a group take a write -/

/-- The registers of a drive group whose writes the commands of R179 and R196 to R199 are, and its configuration. -/
def groupOffsets : List Nat := [0x00, 0x0C, 0x10, 0x14, 0x18, 0x2C, 0x34]

theorem groupOffsets_plain : ∀ g, g < 6 → ∀ o, o ∈ groupOffsets → blockOf (groupAddr g + o) = 4 ∧
    counterList (groupAddr g + o) = [] ∧ inMem (groupAddr g + o) = false ∧ o < 0x80 := by decide +kernel

theorem State.pwmWrite_eq (s : State) (a w : Nat) : s.pwmWrite a w = onWrite (s.pwmReg a w) State.sampled := rfl

/-- An admitted write of a register of PWM: its own rule, then the trip inputs, and a report when it discards. -/
theorem State.masterOp_pwm (ha : s.admits m a = true) (hb : blockOf a = 4) (hl : counterList a = [])
    (hm : inMem a = false) : s.masterOp m a w =
      State.report (onWrite (s.pwmReg a w) State.sampled) (masterCode m) a := by
  have own : s.regWrite a w = s.pwmWrite a w := by
    unfold State.regWrite
    rw [hl, hb, List.isEmpty_nil, Bool.not_true, if_neg (by decide)]
    rfl
  rw [State.masterOp_admitted ha hm (ne_folProt (by omega)), own, State.pwmWrite_eq]

theorem State.pwmReg_group (hg : g < 6) (ho : o < 0x80) (w : Nat) :
    s.pwmReg (groupAddr g + o) w = s.groupWrite g o (groupAddr g + o) w := by
  unfold groupAddr
  have ctl : ¬0x40040100 + 0x80 * g + o = F.PWM_CTL_EN.addr := by
    unfold F.PWM_CTL_EN
    dsimp only
    omega
  have group : (0x40040100 + 0x80 * g + o - 0x40040100) / 0x80 = g := by omega
  have offset : (0x40040100 + 0x80 * g + o - 0x40040100) % 0x80 = o := by omega
  unfold State.pwmReg
  rw [if_neg ctl, if_pos (by omega), group, offset]

theorem State.masterOp_group (hg : g < 6) (ho : o ∈ groupOffsets) (ha : s.admits m (groupAddr g + o) = true) (w : Nat) :
    s.masterOp m (groupAddr g + o) w =
      State.report (onWrite (s.groupWrite g o (groupAddr g + o) w) State.sampled) (masterCode m) (groupAddr g + o) := by
  obtain ⟨block, counters, mem, bound⟩ := groupOffsets_plain g hg o ho
  rw [State.masterOp_pwm ha block counters mem, State.pwmReg_group hg bound]

/-- A write that is taken: the effect, then the trip inputs. -/
theorem State.masterOp_taken {f : State → State} (hg : g < 6) (ho : o ∈ groupOffsets)
    (ha : s.admits m (groupAddr g + o) = true)
    (own : s.groupWrite g o (groupAddr g + o) w = onWrite (s.plainWrite (groupAddr g + o) w) f)
    (ok : (s.plainWrite (groupAddr g + o) w).2 = true) :
    s.masterOp m (groupAddr g + o) w = (f (s.plainWrite (groupAddr g + o) w).1).sampled := by
  rw [State.masterOp_group hg ho ha, own, State.report, onWrite, onWrite, ok, if_pos rfl]

/-! #### Their rows in the register table -/

/-- The row of PWM_Gg_CFG. -/
def groupCfgRow : RegRow := ⟨"PWM_G_CFG", 0x40040100, [(6, 0x80)], 0x0, 0xFFFF001F, 0x0, 0x0, 0x0, 0x0, 0x0, false⟩

/-- The row of PWM_Gg_CTL. -/
def groupCtlRow : RegRow := ⟨"PWM_G_CTL", 0x4004010C, [(6, 0x80)], 0x1, 0x0, 0x0, 0x0, 0x0, 0x0, 0x0, false⟩

/-- The row of PWM_Gg_COAST. -/
def groupCoastRow : RegRow := ⟨"PWM_G_COAST", 0x4004012C, [(6, 0x80)], 0x1, 0x0, 0x0, 0x0, 0x0, 0x0, 0x0, false⟩

/-- The row of PWM_Gg_ANGLE. -/
def groupAngleRow : RegRow :=
  ⟨"PWM_G_ANGLE", 0x40040134, [(6, 0x80)], 0xFFFFFFFF, 0x0, 0x0, 0x0, 0x0, 0x0, 0x0, false⟩

/-- The row of PWM_GPc_CFG. -/
def channelCfgRow : RegRow := ⟨"PWM_GP_CFG", 0x40040400, [(32, 0x10)], 0x0, 0xFFFF001F, 0x0, 0x0, 0x0, 0x0, 0x0, false⟩

theorem findReg_group : ∀ g, g < 6 → findReg (groupAddr g) = some groupCfgRow ∧
    findReg (groupAddr g + 0x0C) = some groupCtlRow ∧ findReg (groupAddr g + 0x2C) = some groupCoastRow ∧
    findReg (groupAddr g + 0x34) = some groupAngleRow := by decide +kernel

theorem findReg_channel : ∀ c, c < 32 → findReg (F.PWM_GP_CFG_RATE c).addr = some channelCfgRow := by decide +kernel

/-- A register of a group that is RW throughout. -/
theorem State.plainWrite_group {r : RegRow} (hg : g < 6) (ho : o ∈ groupOffsets)
    (hr : findReg (groupAddr g + o) = some r) (hsh : r.shadowed = false) (hrwl : r.rwl = 0) (w : Nat) :
    (s.plainWrite (groupAddr g + o) w).2 = true := by
  have calint : blockOf F.ADC_CALINT_INT.addr = 2 := by decide
  have block := (groupOffsets_plain g hg o ho).1
  exact State.plainWrite_open hr hsh hrwl (fun e => by rw [e, calint] at block; omega) (by omega)

end PwmWrites

/-! #### The groups' commands (R179, R182, R196 to R199, R629) -/

section GroupWrites

variable {s t u : State} {m : Master} {g o a w : Nat}

/-- The registers of group `g` that commands of masters change. -/
def groupWritten (g : Nat) : List Nat :=
  [groupAddr g, (F.PWM_G_CTL_OFF g).addr, (F.PWM_G_COAST_EN g).addr, (F.PWM_G_ANGLE g).addr,
    (F.PWM_G_CMP_WIDTH g 0).addr, (F.PWM_G_CMP_WIDTH g 1).addr, (F.PWM_G_CMP_WIDTH g 2).addr,
    (F.PWM_G_ACT_CARRY g 0).addr, (F.PWM_G_ACT_CARRY g 1).addr, (F.PWM_G_ACT_CARRY g 2).addr]

theorem groupWritten_apart : ∀ g, g < 6 → ∀ a, a ∈ groupWritten g → a ∉ tripRegs ∧ a ∉ sampledRegs := by decide +kernel

theorem groupStat_apart : ∀ g, g < 6 → (F.PWM_G_STAT_FORCED g).addr ∉ tripRegs := by decide +kernel

/-! A compare buffer. -/

theorem State.groupWrite_compare {x : Nat} (hx : x < 3) :
    s.groupWrite g (0x10 + 4 * x) a w = (s.writeCompare g x (w % 65536), true) := by
  interval_cases x <;> rfl

theorem compareOffset (x : Fin 3) : 0x10 + 4 * x.val ∈ groupOffsets := by
  revert x
  decide

theorem State.writeCompare_same {x v : Nat} :
    sameRegs s (s.writeCompare g x v) [(F.PWM_G_CMP_WIDTH g x).addr] := by
  unfold State.writeCompare
  exact sameRegs.ite (sameRegs.refl s _) (sameRegs.setF s v List.mem_cons_self)

theorem State.writeCompare_regsOnly (s : State) (g x v : Nat) : regsOnly s (s.writeCompare g x v) := by
  unfold State.writeCompare
  exact sameIn.ite (sameIn.refl s) (regsOnly.setF s _ v)

theorem State.writeCompare_regsWf (h : regsWf s.regs = true) (g x v : Nat) :
    regsWf (s.writeCompare g x v).regs = true := by
  unfold State.writeCompare
  split
  · exact h
  · exact State.setF_regsWf h _ _

theorem State.f_writeCompare (h : regsWf s.regs = true) (g x v : Nat) :
    (s.writeCompare g x v).f (F.PWM_G_CMP_WIDTH g x) =
      if (s.grp g).coasting then s.f (F.PWM_G_CMP_WIDTH g x) else v % 65536 := by
  unfold State.writeCompare
  split
  · rfl
  · exact State.f_setF_same h rfl v

theorem compare_mem (x : Fin 3) (g : Nat) : (F.PWM_G_CMP_WIDTH g x.val).addr ∈ groupWritten g := by
  fin_cases x <;> simp [groupWritten]

/-- COMPARE_WRITE (R179, R197). -/
theorem compareWrite_acts {g : Fin 6} {x : Fin 3} {w : Word} (hs : s.wf = true)
    (ha : s.admits m (groupAddr g + 0x10 + 4 * x.val) = true) : ∃ t, exec (.compareWrite m g x w) s = .next t ∧
      t.f (F.PWM_G_CMP_WIDTH g x) = (if (s.grp g).coasting then s.f (F.PWM_G_CMP_WIDTH g x) else w.toNat % 65536) ∧
      t.pwm = s.pwm ∧ pwmFrame s t [(F.PWM_G_CMP_WIDTH g x).addr] := by
  have run : exec (.compareWrite m g x w) s = execCompareWrite m g x w s := rfl
  have wf := State.wf_regs hs
  rw [Nat.add_assoc] at ha
  obtain ⟨trips, beside⟩ := groupWritten_apart g g.isLt _ (compare_mem x g)
  refine ⟨(s.writeCompare g x (w.toNat % 65536)).sampled, ?_, ?_, ?_, ?_⟩
  · rw [run, execCompareWrite, Nat.add_assoc, State.masterOp_group g.isLt (compareOffset x) ha,
      State.groupWrite_compare x.isLt]
    rfl
  · rw [State.f_of_rd (State.sampled_same _ _ beside), State.f_writeCompare wf, Nat.mod_mod]
  · rw [State.sampled_pwm, (State.writeCompare_regsOnly ..).pwm]
  · refine pwmFrame_sampled (State.writeCompare_regsWf wf ..) State.writeCompare_same
      (State.writeCompare_regsOnly ..).pwmOnly.mem fun a ha => ?_
    rwa [List.mem_singleton.mp ha]

/-! A group that is forced off makes no drop test: its carries go (R182, R196). -/

theorem State.groupQuiet_phasesForced (s : State) (g : Nat) : (s.phasesForced g).groupQuiet g = s.groupQuiet g := by
  have regs : (s.phasesForced g).regs = s.regs := rfl
  have safe : (s.phasesForced g).safe = s.safe := rfl
  unfold State.groupQuiet
  rw [State.on_of_regs regs, State.on_of_regs regs, safe]

theorem State.groupForce_ite (s : State) (g : Nat) : s.groupForce g = if s.plantHeld then s else
    (((s.phasesForced g).cond ((s.phasesForced g).groupQuiet g) (·.zeroCarry g)).setGrp g
      (fun q => { q with live := false })).setF (F.PWM_G_STAT_FORCED g) 1 := rfl

theorem State.groupForce_eq (hp : s.plantHeld = false) (g : Nat) : s.groupForce g =
    (((s.phasesForced g).cond (s.groupQuiet g) (·.zeroCarry g)).setGrp g (fun q => { q with live := false })).setF
      (F.PWM_G_STAT_FORCED g) 1 := by
  rw [State.groupForce_ite, State.groupQuiet_phasesForced]
  exact if_neg (by simp [hp])

theorem State.groupForce_quiet (hs : regsWf s.regs = true) (hp : s.plantHeld = false) (hq : s.groupQuiet g = true)
    (hl : s.pwm.groups.length = 6) (hg : g < 6) : ForcedOff (s.groupForce g) g := by
  have zeroed : (s.phasesForced g).cond true (·.zeroCarry g) = (s.phasesForced g).zeroCarry g := if_pos rfl
  rw [State.groupForce_eq hp, hq, zeroed]
  have wf := State.phasesForced_regsWf hs g
  have off := State.phasesForced_off (s := s) (g := g) (hl ▸ hg)
  have len := s.phasesForced_len g
  generalize s.phasesForced g = v at wf off len ⊢
  have pwm := (v.zeroCarry_regsOnly g).pwm
  refine State.unlive_forcedOff (State.zeroCarry_regsWf wf g) hg ?_ (fun x hx => State.carry_zeroCarry wf hx) ?_
  · rw [pwm, len, hl]; exact hg
  · rw [State.grp_of_pwm pwm]; exact off

/-- The registers that a force changes. -/
def forceRegs (g : Nat) : List Nat :=
  [(F.PWM_G_STAT_FORCED g).addr, (F.PWM_G_ACT_CARRY g 0).addr, (F.PWM_G_ACT_CARRY g 1).addr,
    (F.PWM_G_ACT_CARRY g 2).addr]

theorem State.zeroCarry_sameForce (s : State) (g : Nat) : sameRegs s (s.zeroCarry g) (forceRegs g) :=
  (s.zeroCarry_sameCarries g).mono fun _ => List.mem_cons_of_mem _

theorem State.groupForce_sameForce (s : State) (g : Nat) : sameRegs s (s.groupForce g) (forceRegs g) := by
  cases hp : s.plantHeld with
  | true => rw [State.groupForce_held hp]; exact sameRegs.refl s _
  | false =>
    have off : sameRegs s (s.phasesForced g) (forceRegs g) := sameRegs.ofRegs rfl
    have carries := sameRegs.cond (f := (·.zeroCarry g)) (s.groupQuiet g) ((s.phasesForced g).zeroCarry_sameForce g)
    have stopped : ∀ u : State, sameRegs u (u.setGrp g (fun q => { q with live := false })) (forceRegs g) :=
      fun u => sameRegs.ofRegs rfl
    rw [State.groupForce_eq hp]
    exact ((off.trans carries).trans (stopped _)).trans (sameRegs.setF _ 1 List.mem_cons_self)

theorem ForcedOff.sampled (h : regsWf t.regs = true) (hg : g < 6) (k : ForcedOff t g) : ForcedOff t.sampled g := by
  obtain ⟨shown, live, carry, off⟩ := k
  have grp := State.grp_of_pwm t.sampled_pwm g
  have forced : t.sampled.f (F.PWM_G_STAT_FORCED g) = t.f (F.PWM_G_STAT_FORCED g) :=
    State.sampled_f h hg (statTrip_mem_groupRegs g) (by simp [Fld.apart, F.PWM_G_STAT_FORCED, F.PWM_G_STAT_TRIP])
  have apart : ∀ x, x < 3 → (F.PWM_G_STAT_TRIP g).apart (F.PWM_G_ACT_CARRY g x) = true := fun x _ => by
    unfold Fld.apart F.PWM_G_STAT_TRIP F.PWM_G_ACT_CARRY
    simp only [ne_eq, Bool.or_eq_true, decide_eq_true_eq]
    omega
  refine ⟨by unfold State.on; rw [forced]; exact shown, by rw [grp]; exact live, fun x hx => ?_, by rw [grp]; exact off⟩
  unfold State.carry
  rw [State.sampled_f h hg (carry_mem_groupRegs hx g) (apart x hx)]
  exact carry x hx

/-! OFF. -/

theorem State.offWritten_on (h : s.on (F.PWM_G_CTL_OFF g) = true) : s.offWritten g = s.groupForce g := if_pos h

theorem State.offWritten_off (h : s.on (F.PWM_G_CTL_OFF g) = false) : s.offWritten g = s := if_neg (by rw [h]; decide)

theorem State.offWritten_same (s : State) (g : Nat) : sameRegs s (s.offWritten g) (forceRegs g) := by
  cases h : s.on (F.PWM_G_CTL_OFF g) with
  | true => rw [State.offWritten_on h]; exact s.groupForce_sameForce g
  | false => rw [State.offWritten_off h]; exact sameRegs.refl s _

theorem State.offWritten_pwmOnly (s : State) (g : Nat) : pwmOnly s (s.offWritten g) := by
  cases h : s.on (F.PWM_G_CTL_OFF g) with
  | true => rw [State.offWritten_on h]; exact s.groupForce_pwmOnly g
  | false => rw [State.offWritten_off h]; exact sameIn.refl s

theorem State.groupQuiet_of_off (h : s.on (F.PWM_G_CTL_OFF g) = true) : s.groupQuiet g = true := by
  unfold State.groupQuiet
  rw [h, Bool.or_true, Bool.true_or]

theorem groupAddr_ctl (g : Nat) : groupAddr g + 0x0C = (F.PWM_G_CTL_OFF g).addr := by
  unfold groupAddr F.PWM_G_CTL_OFF
  dsimp only
  omega

theorem ctl_apart_force : ∀ g, g < 6 → (F.PWM_G_CTL_OFF g).addr ∉ forceRegs g ∧
    (F.PWM_G_CTL_OFF g).addr ∉ sampledRegs ∧ ∀ a, a ∈ (F.PWM_G_CTL_OFF g).addr :: forceRegs g → a ∉ tripRegs := by
  decide +kernel

/-- GROUP_OFF_WRITE (R182, R196). -/
theorem groupOffWrite_acts {g : Fin 6} {w : Word} (hs : s.wf = true) (hl : s.pwm.groups.length = 6)
    (ha : s.admits m (groupAddr g + 0x0C) = true) : ∃ t, exec (.groupOffWrite m g w) s = .next t ∧
      t.on (F.PWM_G_CTL_OFF g) = bit w.toNat 0 ∧ (bit w.toNat 0 = true → ForcedOff t g) ∧
      (bit w.toNat 0 = false → t.pwm = s.pwm) ∧ pwmFrame s t ((F.PWM_G_CTL_OFF g).addr :: forceRegs g) := by
  have run : exec (.groupOffWrite m g w) s = execGroupOffWrite m g w s := rfl
  obtain ⟨block, -⟩ := groupOffsets_plain g g.isLt 0x0C (by decide)
  obtain ⟨-, row, -⟩ := findReg_group g g.isLt
  obtain ⟨force, trips, apart⟩ := ctl_apart_force g g.isLt
  have ok := State.plainWrite_group (s := s) g.isLt (o := 0x0C) (by decide) row rfl rfl w.toNat
  have wrote := State.plainWrite_written hs row rfl ok
  have taken := State.masterOp_taken (f := (·.offWritten g)) g.isLt (by decide) ha rfl ok
  generalize (s.plainWrite (groupAddr g + 0x0C) w.toNat).1 = u at wrote taken
  have held := wrote.held ha block
  obtain ⟨kept, pwm, -, -, mem, same, bits⟩ := wrote
  rw [groupAddr_ctl] at same bits
  have off : u.on (F.PWM_G_CTL_OFF g) = bit w.toNat 0 := (State.on_eq_bit rfl).trans (bits 0 (by decide) (by decide))
  refine ⟨(u.offWritten g).sampled, by rw [run, execGroupOffWrite, taken], ?_, fun h => ?_, fun h => ?_, ?_⟩
  · rw [State.on_of_rd (State.sampled_same _ _ trips), State.on_of_rd (u.offWritten_same g _ force), off]
  · rw [State.offWritten_on (off.trans h)]
    exact (State.groupForce_quiet kept.1 held (State.groupQuiet_of_off (off.trans h)) (by rw [pwm, hl]) g.isLt).sampled
      (State.groupForce_kept g kept).1 g.isLt
  · rw [State.sampled_pwm, State.offWritten_off (off.trans h), pwm]
  · exact pwmFrame_sampled (State.offWritten_kept g kept).1
      ((same.mono fun _ => mem_cons_of_mem_single).trans ((u.offWritten_same g).mono fun _ => List.mem_cons_of_mem _))
      ((u.offWritten_pwmOnly g).mem.trans mem) apart

end GroupWrites

section CoastWrites

variable {s t u : State} {m : Master} {g o a w : Nat}

/-! COAST.EN. -/

theorem groupAddr_coast (g : Nat) : groupAddr g + 0x2C = (F.PWM_G_COAST_EN g).addr := by
  unfold groupAddr F.PWM_G_COAST_EN
  dsimp only
  omega

theorem coast_apart : ∀ g, g < 6 → (F.PWM_G_COAST_EN g).addr ∉ sampledRegs ∧
    (F.PWM_G_COAST_EN g).addr ≠ (F.PWM_G_STAT_COASTING g).addr ∧
    ∀ a, a ∈ [(F.PWM_G_COAST_EN g).addr, (F.PWM_G_STAT_COASTING g).addr] → a ∉ tripRegs := by decide +kernel

/-- What a write of PWM_Gg_COAST leaves before its effect. -/
theorem coastWrite_written {g : Fin 6} (hs : s.wf = true) (ha : s.admits m (groupAddr g + 0x2C) = true) (w : Nat) :
    ∃ u, Written s u (F.PWM_G_COAST_EN g).addr w groupCoastRow ∧ u.on (F.PWM_G_COAST_EN g) = bit w 0 ∧
      s.masterOp m (groupAddr g + 0x2C) w = (u.coastWritten g).sampled := by
  obtain ⟨-, -, row, -⟩ := findReg_group g g.isLt
  have ok := State.plainWrite_group (s := s) g.isLt (o := 0x2C) (by decide) row rfl rfl w
  have wrote := State.plainWrite_written hs row rfl ok
  have taken := State.masterOp_taken (f := (·.coastWritten g)) g.isLt (by decide) ha rfl ok
  rw [groupAddr_coast] at wrote
  rw [groupAddr_coast] at taken ⊢
  exact ⟨_, wrote, (State.on_eq_bit rfl).trans (wrote.bits 0 (by decide) (by decide)), taken⟩

theorem State.coastWritten_on (h : s.on (F.PWM_G_COAST_EN g) = true) : s.coastWritten g = s := if_pos h

theorem State.coastWritten_off (h : s.on (F.PWM_G_COAST_EN g) = false) : s.coastWritten g =
    (s.setGrp g (fun q => { q with coasting := false })).setF (F.PWM_G_STAT_COASTING g) 0 := if_neg (by rw [h]; decide)

/-- COAST_ENABLE (R197). -/
theorem coastEnable_acts {g : Fin 6} (hs : s.wf = true) (ha : s.admits m (groupAddr g + 0x2C) = true) :
    ∃ t, exec (.coastEnable m g) s = .next t ∧ t.on (F.PWM_G_COAST_EN g) = true ∧ t.pwm = s.pwm ∧
      pwmFrame s t [(F.PWM_G_COAST_EN g).addr] := by
  have run : exec (.coastEnable m g) s = execCoastEnable m g s := rfl
  obtain ⟨u, wrote, on, taken⟩ := coastWrite_written hs ha 1
  obtain ⟨trips, -, apart⟩ := coast_apart g g.isLt
  refine ⟨u.sampled, ?_, (State.on_of_rd (State.sampled_same _ _ trips)).trans on, u.sampled_pwm.trans wrote.pwm,
    pwmFrame_sampled wrote.kept.1 wrote.same wrote.mem fun a h => apart a (mem_cons_of_mem_single h)⟩
  rw [run, execCoastEnable, taken, State.coastWritten_on on]

/-- COAST_DISABLE (R199). -/
theorem coastDisable_acts {g : Fin 6} (hs : s.wf = true) (hl : s.pwm.groups.length = 6)
    (ha : s.admits m (groupAddr g + 0x2C) = true) :
    ∃ t, exec (.coastDisable m g) s = .next t ∧ t.on (F.PWM_G_COAST_EN g) = false ∧
      t.on (F.PWM_G_STAT_COASTING g) = false ∧ (t.grp g).coasting = false ∧
      pwmFrame s t [(F.PWM_G_COAST_EN g).addr, (F.PWM_G_STAT_COASTING g).addr] := by
  have run : exec (.coastDisable m g) s = execCoastDisable m g s := rfl
  obtain ⟨u, ⟨kept, pwm, -, -, mem, same, -⟩, off, taken⟩ := coastWrite_written hs ha 0
  obtain ⟨trips, stat, apart⟩ := coast_apart g g.isLt
  have grp : (u.setGrp g (fun q => { q with coasting := false })).grp g = { u.grp g with coasting := false } :=
    State.grp_setGrp_same (by rw [pwm, hl]; exact g.isLt) _
  have stopped : sameRegs s (u.setGrp g (fun q => { q with coasting := false }))
      [(F.PWM_G_COAST_EN g).addr, (F.PWM_G_STAT_COASTING g).addr] := same.mono fun _ => mem_cons_of_mem_single
  have on : (u.setGrp g (fun q => { q with coasting := false })).on (F.PWM_G_COAST_EN g) = false := off
  have kept' := State.setGrp_kept g (fun q => { q with coasting := false }) kept
  have mem' : (u.setGrp g (fun q => { q with coasting := false })).mem = s.mem := mem
  refine ⟨(u.coastWritten g).sampled, by rw [run, execCoastDisable, taken], ?_⟩
  rw [State.coastWritten_off off]
  generalize u.setGrp g (fun q => { q with coasting := false }) = v at grp stopped on kept' mem' ⊢
  have wf := State.setF_regsWf kept'.1 (F.PWM_G_STAT_COASTING g) 0
  refine ⟨?_, ?_, ?_, pwmFrame_sampled wf (stopped.thenSetF (by simp) 0) ((State.setF_mem ..).trans mem') apart⟩
  · rw [State.on_of_rd (State.sampled_same _ _ trips), State.on_of_rd (State.rd_setF_ne v 0 stat), on]
  · have shown : (v.setF (F.PWM_G_STAT_COASTING g) 0).sampled.f (F.PWM_G_STAT_COASTING g) =
        (v.setF (F.PWM_G_STAT_COASTING g) 0).f (F.PWM_G_STAT_COASTING g) :=
      State.sampled_f wf g.isLt (statTrip_mem_groupRegs g)
        (by simp [Fld.apart, F.PWM_G_STAT_COASTING, F.PWM_G_STAT_TRIP])
    unfold State.on
    rw [shown, State.f_setF_same kept'.1 rfl]
    rfl
  · rw [State.grp_of_pwm ((State.sampled_pwm _).trans (State.setF_pwm ..)), grp]

/-! ANGLE. -/

theorem groupAddr_angle (g : Nat) : groupAddr g + 0x34 = (F.PWM_G_ANGLE g).addr := by
  unfold groupAddr F.PWM_G_ANGLE
  dsimp only
  omega

theorem angle_apart : ∀ g, g < 6 → (F.PWM_G_ANGLE g).addr ∉ sampledRegs ∧ (F.PWM_G_ANGLE g).addr ∉ tripRegs := by
  decide +kernel

theorem exec_coastAngleWrite (g : Fin 6) (w : Word) (s : State) : exec (.coastAngleWrite m g w) s =
    .next (s.masterOp m (groupAddr g + 0x34) w.toNat) := rfl

/-- ANGLE while the rotator runs: discarded and reported (R199). -/
theorem coastAngleWrite_refused {g : Fin 6} {w : Word} (ha : s.admits m (groupAddr g + 0x34) = true)
    (h : s.on (F.PWM_G_COAST_EN g) = true) : exec (.coastAngleWrite m g w) s =
      .next (s.sampled.reject (masterCode m) (groupAddr g + 0x34)) := by
  have busy : s.groupWrite g 0x34 (groupAddr g + 0x34) w.toNat = (s, false) := if_pos h
  rw [exec_coastAngleWrite, State.masterOp_group g.isLt (by decide) ha, busy, onWrite, State.report,
    if_neg Bool.false_ne_true]

/-- Two words with the same 32 bits. -/
theorem eq_of_bits {x y : Nat} (hx : x < 2 ^ 32) (hy : y < 2 ^ 32) (h : ∀ k, k < 32 → bit x k = bit y k) : x = y := by
  refine Nat.eq_of_testBit_eq fun k => ?_
  rw [← bit_eq_testBit, ← bit_eq_testBit]
  by_cases hk : k < 32
  · exact h k hk
  · rw [bit_of_lt hx (by omega), bit_of_lt hy (by omega)]

theorem State.f_word {x : Fld} (hl : x.lo = 0) (hw : x.width = 32) : s.f x = s.rd x.addr := by
  unfold State.f getBits
  rw [hl, hw, Nat.pow_zero, Nat.div_one, Nat.mod_eq_of_lt (s.rd_lt _)]

/-- ANGLE while the rotator stands (R199, log entry 113). -/
theorem coastAngleWrite_acts {g : Fin 6} {w : Word} (hs : s.wf = true) (hl : s.pwm.groups.length = 6)
    (ha : s.admits m (groupAddr g + 0x34) = true) (h : s.on (F.PWM_G_COAST_EN g) = false) :
    ∃ t, exec (.coastAngleWrite m g w) s = .next t ∧ t.rd (F.PWM_G_ANGLE g).addr = w.toNat ∧
      (t.grp g).nextAngle = w.toNat ∧ pwmFrame s t [(F.PWM_G_ANGLE g).addr] := by
  obtain ⟨-, -, -, row⟩ := findReg_group g g.isLt
  obtain ⟨trips, apart⟩ := angle_apart g g.isLt
  have ok := State.plainWrite_group (s := s) g.isLt (o := 0x34) (by decide) row rfl rfl w.toNat
  have wrote := State.plainWrite_written hs row rfl ok
  have own : s.groupWrite g 0x34 (groupAddr g + 0x34) w.toNat =
      onWrite (s.plainWrite (groupAddr g + 0x34) w.toNat) (·.angleWritten g) := if_neg (by rw [h]; decide)
  have taken := State.masterOp_taken (f := (·.angleWritten g)) g.isLt (by decide) ha own ok
  generalize (s.plainWrite (groupAddr g + 0x34) w.toNat).1 = u at wrote taken
  obtain ⟨kept, pwm, -, -, mem, same, bits⟩ := wrote
  rw [groupAddr_angle] at same bits
  have all : ∀ k, k < 32 → bit (orN groupAngleRow.rw groupAngleRow.rwl) k = true := by decide
  have word : u.rd (F.PWM_G_ANGLE g).addr = w.toNat :=
    eq_of_bits (u.rd_lt _) w.isLt fun k hk => bits k hk (all k hk)
  have grp : (u.angleWritten g).grp g = { u.grp g with nextAngle := u.f (F.PWM_G_ANGLE g) } :=
    State.grp_setGrp_same (by rw [pwm, hl]; exact g.isLt) _
  refine ⟨(u.angleWritten g).sampled, by rw [exec_coastAngleWrite, taken], ?_, ?_, ?_⟩
  · exact (State.sampled_same _ _ trips).trans word
  · rw [State.grp_of_pwm (State.sampled_pwm _), grp, State.f_word rfl rfl, word]
  · exact pwmFrame_sampled (u := u.angleWritten g) kept.1 same mem fun a ha => by rwa [List.mem_singleton.mp ha]

end CoastWrites

section RatePhase

variable {s t u : State} {m : Master} {g c a w : Nat}

/-! RATE and PHASE of a group: written now, taken over at a tick (R629). -/

theorem State.grp_setGrp_field {β : Type} {p : Group → β} {f : Group → Group} (hf : ∀ q, p (f q) = p q) (s : State)
    (k g : Nat) : p ((s.setGrp k f).grp g) = p (s.grp g) := by
  by_cases h : g = k
  · subst h
    by_cases len : g < s.pwm.groups.length
    · rw [State.grp_setGrp_same len, hf]
    · unfold State.grp State.setGrp updAt
      simp [List.getElem?_eq_none (Nat.le_of_not_lt len)]
  · rw [State.grp_setGrp_ne h]

/-- The rate and phase that group `g` runs at. -/
def State.runsAt (s : State) (g : Nat) : Nat × Nat := ((s.grp g).rate, (s.grp g).phase)

theorem State.runsAt_setGrp {f : Group → Group} (hf : ∀ q, (f q).rate = q.rate ∧ (f q).phase = q.phase) (s : State)
    (k g : Nat) : (s.setGrp k f).runsAt g = s.runsAt g :=
  State.grp_setGrp_field (p := fun q => (q.rate, q.phase)) (fun q => Prod.ext (hf q).1 (hf q).2) s k g

theorem State.runsAt_of_pwm (h : t.pwm = s.pwm) (g : Nat) : t.runsAt g = s.runsAt g := by
  unfold State.runsAt
  rw [State.grp_of_pwm h]

theorem State.cond_zeroCarry_pwm (s : State) (b : Bool) (g : Nat) : (s.cond b (·.zeroCarry g)).pwm = s.pwm := by
  cases b
  · rfl
  · exact (s.zeroCarry_regsOnly g).pwm

theorem State.runsAt_groupForce (s : State) (k g : Nat) : (s.groupForce k).runsAt g = s.runsAt g := by
  cases hp : s.plantHeld with
  | true => rw [State.groupForce_held hp]
  | false =>
    rw [State.groupForce_eq hp, State.runsAt_of_pwm (State.setF_pwm ..), State.runsAt_setGrp,
      State.runsAt_of_pwm (State.cond_zeroCarry_pwm ..), State.phasesForced, State.switchesOff, State.runsAt_setGrp,
      State.runsAt_of_pwm s.free_pwm]
    all_goals exact fun _ => ⟨rfl, rfl⟩

/-- The carries of a group go with CARRY. -/
def State.carryWritten (s : State) (g : Nat) : State := s.cond (!s.on (F.PWM_G_CFG_CARRY g)) (·.zeroCarry g)

theorem State.enWritten_eq (s : State) (g : Nat) : s.enWritten g =
    if (s.carryWritten g).on (F.PWM_G_CFG_EN g) && (s.carryWritten g).on F.PWM_CTL_EN then s.carryWritten g
    else (s.carryWritten g).groupForce g := rfl

theorem State.carryWritten_pwmOnly (s : State) (g : Nat) : pwmOnly s (s.carryWritten g) :=
  sameIn.cond (f := (·.zeroCarry g)) _ (s.zeroCarry_pwmOnly g)

theorem State.carryWritten_pwm (s : State) (g : Nat) : (s.carryWritten g).pwm = s.pwm := s.cond_zeroCarry_pwm _ g

theorem State.carryWritten_sameForce (s : State) (g : Nat) : sameRegs s (s.carryWritten g) (forceRegs g) :=
  sameRegs.cond (f := (·.zeroCarry g)) _ (s.zeroCarry_sameForce g)

theorem State.enWritten_sameForce (s : State) (g : Nat) : sameRegs s (s.enWritten g) (forceRegs g) := by
  rw [State.enWritten_eq]
  exact (s.carryWritten_sameForce g).trans (sameRegs.ite (sameRegs.refl _ _) (State.groupForce_sameForce _ g))

theorem State.enWritten_pwmOnly (s : State) (g : Nat) : pwmOnly s (s.enWritten g) := by
  rw [State.enWritten_eq]
  exact (s.carryWritten_pwmOnly g).trans (sameIn.ite (sameIn.refl _) (State.groupForce_pwmOnly _ g))

theorem State.runsAt_enWritten (s : State) (g : Nat) : (s.enWritten g).runsAt g = s.runsAt g := by
  rw [State.enWritten_eq]
  split
  · exact State.runsAt_of_pwm (s.carryWritten_pwm g) g
  · rw [State.runsAt_groupForce, State.runsAt_of_pwm (s.carryWritten_pwm g)]

theorem enables_apart : ∀ g, g < 6 → (F.PWM_G_CFG_EN g).addr ∉ forceRegs g ∧ (F.PWM_G_CFG_EN g).addr ∉ sampledRegs ∧
    F.PWM_CTL_EN.addr ∉ forceRegs g ∧ F.PWM_CTL_EN.addr ≠ groupAddr g ∧
    ∀ a, a ∈ groupAddr g :: forceRegs g → a ∉ tripRegs := by decide +kernel

/-- A group that stays enabled is not forced. -/
theorem State.enWritten_enabled (hg : g < 6) (he : s.on (F.PWM_G_CFG_EN g) = true) (hc : s.on F.PWM_CTL_EN = true) :
    s.enWritten g = s.carryWritten g := by
  obtain ⟨en, -, ctl, -⟩ := enables_apart g hg
  have same := s.carryWritten_sameForce g
  rw [State.enWritten_eq, if_pos]
  rw [State.on_of_rd (x := F.PWM_G_CFG_EN g) (same _ en), State.on_of_rd (x := F.PWM_CTL_EN) (same _ ctl), he, hc]
  rfl

/-- RATE, PHASE and every other field of the word are those that were written. -/
theorem Written.f {r : RegRow} {x : Fld} (h : Written s u x.addr w r) (hx : x.fits = true)
    (mask : ∀ k, k < x.width → bit (orN r.rw r.rwl) (x.lo + k) = true) : u.f x = getBits w x.lo x.width :=
  State.f_of_bits fun k hk => h.bits _ (by unfold Fld.fits at hx; have := of_decide_eq_true hx; omega) (mask k hk)

/-- CARRIER_RATE_PHASE_CHANGE of a group (R629). -/
theorem ratePhaseChange_group {g : Fin 6} {w : Word} (hs : s.wf = true)
    (ha : s.admits m (groupAddr g) = true) (ok : (s.plainWrite (groupAddr g) w.toNat).2 = true) :
    ∃ t, exec (.carrierRatePhaseChange m ⟨g.val, by omega⟩ w) s = .next t ∧
      t.f (F.PWM_G_CFG_RATE g) = getBits w.toNat (F.PWM_G_CFG_RATE g).lo (F.PWM_G_CFG_RATE g).width ∧
      t.f (F.PWM_G_CFG_PHASE g) = getBits w.toNat (F.PWM_G_CFG_PHASE g).lo (F.PWM_G_CFG_PHASE g).width ∧
      t.runsAt g = s.runsAt g ∧
      (t.on (F.PWM_G_CFG_EN g) = true → s.on F.PWM_CTL_EN = true → t.pwm = s.pwm) ∧
      pwmFrame s t (groupAddr g :: forceRegs g) := by
  have run : exec (.carrierRatePhaseChange m ⟨g.val, by omega⟩ w) s = .next (s.masterOp m
      (if g.val < 6 then groupAddr g else 0x40040400 + 16 * (g.val - 6)) w.toNat) := rfl
  obtain ⟨row, -⟩ := findReg_group g g.isLt
  obtain ⟨en, trips, -, ctl, apart⟩ := enables_apart g g.isLt
  have wrote := State.plainWrite_written hs row rfl ok
  have taken := State.masterOp_taken (o := 0) (f := (·.enWritten g)) g.isLt (by decide) ha rfl ok
  rw [Nat.add_zero] at taken
  generalize (s.plainWrite (groupAddr g) w.toNat).1 = u at wrote taken
  have rate := wrote.f (x := F.PWM_G_CFG_RATE g) rfl
    (show ∀ k, k < 2 → bit (orN groupCfgRow.rw groupCfgRow.rwl) (0 + k) = true by decide)
  have phase := Written.f (x := F.PWM_G_CFG_PHASE g) wrote rfl
    (show ∀ k, k < 16 → bit (orN groupCfgRow.rw groupCfgRow.rwl) (16 + k) = true by decide)
  obtain ⟨kept, pwm, -, -, mem, same, -⟩ := wrote
  have cfg : (u.enWritten g).sampled.rd (groupAddr g) = u.rd (groupAddr g) :=
    (State.sampled_same _ _ trips).trans (u.enWritten_sameForce g _ en)
  refine ⟨(u.enWritten g).sampled, by rw [run, if_pos g.isLt, taken], (State.f_of_rd cfg).trans rate,
    (State.f_of_rd (x := F.PWM_G_CFG_PHASE g) cfg).trans phase, ?_, fun he hc => ?_, ?_⟩
  · rw [State.runsAt_of_pwm (State.sampled_pwm _), State.runsAt_enWritten, State.runsAt_of_pwm pwm]
  · have enabled : u.on (F.PWM_G_CFG_EN g) = true := (State.on_of_rd (x := F.PWM_G_CFG_EN g) cfg).symm.trans he
    have clock : u.on F.PWM_CTL_EN = true :=
      (State.on_of_rd (x := F.PWM_CTL_EN) (same _ fun e => ctl (List.mem_singleton.mp e))).trans hc
    rw [State.sampled_pwm, State.enWritten_enabled g.isLt enabled clock, State.carryWritten_pwm, pwm]
  · exact pwmFrame_sampled (State.enWritten_kept g kept).1
      ((same.mono fun _ => mem_cons_of_mem_single).trans
        ((u.enWritten_sameForce g).mono fun _ => List.mem_cons_of_mem _))
      ((u.enWritten_pwmOnly g).mem.trans mem) apart

/-! RATE and PHASE of a general channel. -/

theorem State.gpc_setGpc_field {β : Type} {p : GpChan → β} {f : GpChan → GpChan} (hf : ∀ q, p (f q) = p q) (s : State)
    (k c : Nat) : p ((s.setGpc k f).gpc c) = p (s.gpc c) := by
  by_cases h : c = k
  · subst h
    by_cases len : c < s.pwm.gps.length
    · rw [State.gpc_setGpc_same len, hf]
    · unfold State.gpc State.setGpc updAt
      simp [List.getElem?_eq_none (Nat.le_of_not_lt len)]
  · rw [State.gpc_setGpc_ne h]

theorem State.gpc_of_pwm (h : t.pwm = s.pwm) (c : Nat) : t.gpc c = s.gpc c := by
  unfold State.gpc
  rw [h]

/-- The rate and phase that channel `c` runs at. -/
def State.channelAt (s : State) (c : Nat) : Nat × Nat := ((s.gpc c).rate, (s.gpc c).phase)

theorem State.channelAt_gpEnWritten (hc : c < s.pwm.gps.length) : (s.gpEnWritten c).channelAt c = s.channelAt c := by
  unfold State.gpEnWritten
  split
  · exact State.gpc_setGpc_field (p := fun q => (q.rate, q.phase)) (f := fun q =>
      { q with live := false, safe := false, pin := false }) (fun _ => rfl) s c c
  · split
    · unfold State.channelAt
      rw [State.gpc_gpShow hc]
    · rfl

theorem State.gpEnWritten_disabled (h : s.gpEnabled c = false) : s.gpEnWritten c =
    s.setGpc c (fun q => { q with live := false, safe := false, pin := false }) := if_pos (by rw [h]; rfl)

theorem State.gpEnWritten_enabled (h : s.gpEnabled c = true) (hb : s.safe.held = false) (hc : (s.gpc c).safe = false) :
    s.gpEnWritten c = s := by
  unfold State.gpEnWritten
  rw [h, hb, hc]
  rfl

theorem State.gpEnWritten_pwmOnly (s : State) (c : Nat) : pwmOnly s (s.gpEnWritten c) := by
  unfold State.gpEnWritten
  exact sameIn.ite rfl (sameIn.ite (s.gpShow_pwmOnly c) (sameIn.refl s))

/-- What enables a channel stands when the trip inputs are sampled. -/
theorem State.gpEnabled_sampled (hc : c < 32) (s : State) : s.sampled.gpEnabled c = s.gpEnabled c := by
  have mem : ∀ a, a ∈ sampledRegs → a ∈ safeRegs := by decide +kernel
  exact (ChanKept.same (c := c) (s.sampled_same.mono mem) s.sampled_boot (by rw [s.sampled_pwm])).gpEnabled hc

theorem pwmChannel_apart : ∀ c, c < 32 → (F.PWM_GP_CFG_RATE c).addr ∉ sampledRegs ∧
    (F.PWM_GP_CFG_RATE c).addr ∉ tripRegs ∧ blockOf (F.PWM_GP_CFG_RATE c).addr = 4 ∧
    counterList (F.PWM_GP_CFG_RATE c).addr = [] ∧ inMem (F.PWM_GP_CFG_RATE c).addr = false := by decide +kernel

theorem State.pwmReg_channel (hc : c < 32) (w : Nat) : s.pwmReg (F.PWM_GP_CFG_RATE c).addr w =
    onWrite (s.plainWrite (F.PWM_GP_CFG_RATE c).addr w) (·.gpEnWritten c) := by
  have addr : (F.PWM_GP_CFG_RATE c).addr = 0x40040400 + 0x10 * c := rfl
  have ctl : F.PWM_CTL_EN.addr = 0x40040000 := rfl
  have channel : (0x40040400 + 0x10 * c - 0x40040400) / 16 = c := by omega
  unfold State.pwmReg
  rw [addr, ctl, if_neg (by omega), if_neg (by omega), if_pos (by omega), channel]

/-- CARRIER_RATE_PHASE_CHANGE of a general channel (R629). -/
theorem ratePhaseChange_channel {c : Fin 32} {w : Word} (hs : s.wf = true) (hl : s.pwm.gps.length = 32)
    (ha : s.admits m (F.PWM_GP_CFG_RATE c).addr = true)
    (ok : (s.plainWrite (F.PWM_GP_CFG_RATE c).addr w.toNat).2 = true) :
    ∃ t, exec (.carrierRatePhaseChange m ⟨c.val + 6, by omega⟩ w) s = .next t ∧
      t.f (F.PWM_GP_CFG_RATE c) = getBits w.toNat (F.PWM_GP_CFG_RATE c).lo (F.PWM_GP_CFG_RATE c).width ∧
      t.f (F.PWM_GP_CFG_PHASE c) = getBits w.toNat (F.PWM_GP_CFG_PHASE c).lo (F.PWM_GP_CFG_PHASE c).width ∧
      t.channelAt c = s.channelAt c ∧
      (t.gpEnabled c = true → s.safe.held = false → (s.gpc c).safe = false → t.pwm = s.pwm) ∧
      pwmFrame s t [(F.PWM_GP_CFG_RATE c).addr] := by
  have run : exec (.carrierRatePhaseChange m ⟨c.val + 6, by omega⟩ w) s = .next (s.masterOp m
      (if c.val + 6 < 6 then groupAddr (c.val + 6) else 0x40040400 + 16 * (c.val + 6 - 6)) w.toNat) := rfl
  have addr : 0x40040400 + 16 * (c.val + 6 - 6) = (F.PWM_GP_CFG_RATE c).addr := by rw [Nat.add_sub_cancel]; rfl
  obtain ⟨trips, apart, block, counters, inmem⟩ := pwmChannel_apart c c.isLt
  have wrote := State.plainWrite_written hs (findReg_channel c c.isLt) rfl ok
  have taken : s.masterOp m (F.PWM_GP_CFG_RATE c).addr w.toNat =
      ((s.plainWrite (F.PWM_GP_CFG_RATE c).addr w.toNat).1.gpEnWritten c).sampled := by
    rw [State.masterOp_pwm ha block counters inmem, State.pwmReg_channel c.isLt, State.report, onWrite, onWrite, ok,
      if_pos rfl]
  generalize (s.plainWrite (F.PWM_GP_CFG_RATE c).addr w.toNat).1 = u at wrote taken
  have rate := wrote.f (x := F.PWM_GP_CFG_RATE c) rfl
    (show ∀ k, k < 2 → bit (orN channelCfgRow.rw channelCfgRow.rwl) (0 + k) = true by decide)
  have phase := Written.f (x := F.PWM_GP_CFG_PHASE c) wrote rfl
    (show ∀ k, k < 16 → bit (orN channelCfgRow.rw channelCfgRow.rwl) (16 + k) = true by decide)
  obtain ⟨kept, pwm, safe, -, mem, same, -⟩ := wrote
  have effect : sameRegs u (u.gpEnWritten c) [] := u.gpEnWritten_same c []
  have cfg : (u.gpEnWritten c).sampled.rd (F.PWM_GP_CFG_RATE c).addr = u.rd (F.PWM_GP_CFG_RATE c).addr :=
    (State.sampled_same _ _ trips).trans (effect _ List.not_mem_nil)
  refine ⟨(u.gpEnWritten c).sampled, by rw [run, if_neg (by omega), addr, taken], (State.f_of_rd cfg).trans rate,
    (State.f_of_rd (x := F.PWM_GP_CFG_PHASE c) cfg).trans phase, ?_, fun he hb hc => ?_, ?_⟩
  · unfold State.channelAt
    rw [State.gpc_of_pwm (State.sampled_pwm _), ← State.gpc_of_pwm pwm]
    exact State.channelAt_gpEnWritten (by rw [pwm, hl]; exact c.isLt)
  · rw [State.gpEnabled_sampled c.isLt] at he
    cases en : u.gpEnabled c with
    | false =>
      rw [State.gpEnWritten_disabled en] at he
      have off : u.gpEnabled c = true := he
      exact absurd off (by rw [en]; decide)
    | true =>
      rw [State.sampled_pwm, State.gpEnWritten_enabled en (by rw [safe, hb]) (by rw [State.gpc_of_pwm pwm, hc]), pwm]
  · exact pwmFrame_sampled (State.gpEnWritten_kept c kept).1
      (same.trans (effect.mono fun _ h => absurd h List.not_mem_nil))
      ((u.gpEnWritten_pwmOnly c).mem.trans mem) fun a ha => by rwa [List.mem_singleton.mp ha]

/-! A group takes its new RATE and PHASE over (R629). -/

theorem State.runsAt_setWidth (s : State) (g x w k : Nat) : (s.setWidth g x w).runsAt k = s.runsAt k := by
  unfold State.setWidth State.setPh
  dsimp only
  rw [State.runsAt_setGrp, State.runsAt_of_pwm (State.setF_pwm ..)]
  exact fun _ => ⟨rfl, rfl⟩

theorem State.runsAt_each {α : Type} {f : State → α → State} (h : ∀ t x, (f t x).runsAt g = t.runsAt g) (l : List α)
    (s : State) : (s.each l f).runsAt g = s.runsAt g :=
  sameIn.each (p := fun t => t.runsAt g) h l s

theorem State.regroup_runsAt (hg : g < s.pwm.groups.length) :
    (s.regroup g).runsAt g = (s.f (F.PWM_G_CFG_RATE g), s.f (F.PWM_G_CFG_PHASE g)) := by
  unfold State.regroup
  dsimp only
  split
  next same => exact Prod.ext same.1.symm same.2.symm
  next =>
    rw [State.runsAt_each fun t x => t.runsAt_setWidth g x _ g, State.runsAt_of_pwm (State.zeroCarry_regsOnly _ g).pwm]
    unfold State.runsAt
    rw [State.grp_setGrp_same hg]

end RatePhase

/-- Settles O30: a compare buffer, OFF, COAST, ANGLE, RATE and PHASE of a group and of a channel, and their
take-over. -/
theorem driveGroupWritesAct : Obligations.DriveGroupWritesAct := by
  refine ⟨fun s m g x w hs ha => compareWrite_acts hs ha, fun s m g w hs hl ha => ?_, fun s m g hs hl ha =>
    ⟨coastEnable_acts hs ha, coastDisable_acts hs hl ha⟩, fun s m g w hs hl ha =>
    ⟨coastAngleWrite_refused ha, coastAngleWrite_acts hs hl ha⟩, fun s m g w hs _ ha ok => ?_,
    fun s m c w hs hl ha ok => ?_, fun s g _ hl => ?_⟩
  · obtain ⟨t, run, off, forced, free, frame⟩ := groupOffWrite_acts (w := w) hs hl ha
    refine ⟨t, run, off, fun h => ?_, free, frame⟩
    obtain ⟨shown, live, carry, switches⟩ := forced h
    exact ⟨shown, live, carry, switches⟩
  · obtain ⟨t, run, rate, phase, runs, free, frame⟩ := ratePhaseChange_group hs ha ok
    exact ⟨t, run, rate, phase, congrArg Prod.fst runs, congrArg Prod.snd runs, free, frame⟩
  · obtain ⟨t, run, rate, phase, runs, free, frame⟩ := ratePhaseChange_channel hs hl ha ok
    exact ⟨t, run, rate, phase, congrArg Prod.fst runs, congrArg Prod.snd runs, free, frame⟩
  · have runs := State.regroup_runsAt (s := s) (g := g) (by rw [hl]; exact g.isLt)
    exact ⟨congrArg Prod.fst runs, congrArg Prod.snd runs⟩

end Sys2Proof.Machine

namespace Sys2Proof.Machine

/-! ### Steps that write named fields, counters and the PWM array -/

/-- `t` is `s` but for the fields in `l`, the Ledger's counters and the PWM array. -/
structure Fields (l : List Fld) (s t : State) : Prop where
  wf : regsWf s.regs = true → regsWf t.regs = true
  apart : regsWf s.regs = true → ∀ y : Fld, l.all (·.apart y) = true → y.addr ∉ countRegs → t.f y = s.f y
  regs : sameRegs s t (l.map Fld.addr ++ countRegs)
  rest : pwmOnly s t

/-- Writing the fields in `l` and counting leave field `y`. -/
def keeps (l : List Fld) (y : Fld) : Bool := l.all (·.apart y) && !countRegs.contains y.addr

section Fields

variable {s t u : State} {l m : List Fld} {x y : Fld}

theorem Fields.refl (l : List Fld) (s : State) : Fields l s s :=
  ⟨id, fun _ _ _ _ => rfl, sameRegs.refl s _, sameIn.refl s⟩

theorem Fields.trans (h : Fields l s t) (k : Fields l t u) : Fields l s u where
  wf w := k.wf (h.wf w)
  apart w y hy hc := (k.apart (h.wf w) y hy hc).trans (h.apart w y hy hc)
  regs := h.regs.trans k.regs
  rest := sameIn.trans h.rest k.rest

theorem Fields.mono (h : Fields l s t) (hl : ∀ x, x ∈ l → x ∈ m) : Fields m s t where
  wf := h.wf
  apart w y hy hc := h.apart w y (List.all_eq_true.mpr fun x hx => List.all_eq_true.mp hy x (hl x hx)) hc
  regs := h.regs.mono fun a ha => by
    simp only [List.mem_append, List.mem_map] at ha ⊢
    exact ha.imp_left fun ⟨x, hx, e⟩ => ⟨x, hl x hx, e⟩
  rest := h.rest

theorem Fields.setF (hx : x ∈ l) (fits : x.fits = true) (s : State) (v : Nat) : Fields l s (s.setF x v) where
  wf w := State.setF_regsWf w x v
  apart w _ hy _ := State.f_setF_apart w fits (List.all_eq_true.mp hy x hx) v
  regs := sameRegs.setF s v (List.mem_append_left _ (List.mem_map_of_mem hx))
  rest := pwmOnly.setF s x v

theorem Fields.ledger (l : List Fld) (s : State) (src : Nat) : Fields l s (s.ledger src) where
  wf w := State.ledger_regsWf w src
  apart _ _ _ hc := State.f_ledger s src hc
  regs := (s.ledger_same src).mono fun _ => List.mem_append_right _
  rest := s.ledger_pwmOnly src

theorem Fields.count (hx : x ∈ l) (fits : x.fits = true) (s : State) (src : Nat) : Fields l s (s.count x src) :=
  (Fields.setF hx fits s _).trans (Fields.ledger l _ src)

theorem Fields.setGrp (l : List Fld) (s : State) (g : Nat) (f : Group → Group) : Fields l s (s.setGrp g f) :=
  ⟨id, fun _ _ _ _ => rfl, sameRegs.ofRegs rfl, rfl⟩

theorem Fields.cond {f : State → State} (b : Bool) (h : Fields l s (f s)) : Fields l s (s.cond b f) := by
  cases b
  · exact Fields.refl l s
  · exact h

theorem Fields.ite {c : Prop} [Decidable c] (ht : Fields l s t) (hu : Fields l s u) :
    Fields l s (if c then t else u) := by
  split
  · exact ht
  · exact hu

theorem Fields.each {α : Type} {f : State → α → State} {xs : List α} (h : ∀ a, a ∈ xs → ∀ s, Fields l s (f s a))
    (s : State) : Fields l s (s.each xs f) := by
  induction xs generalizing s with
  | nil => exact Fields.refl l s
  | cons a xs ih =>
    exact (h a List.mem_cons_self s).trans (ih (fun b hb => h b (List.mem_cons_of_mem _ hb)) (f s a))

theorem Fields.f (h : Fields l s t) (w : regsWf s.regs = true) (hy : keeps l y = true) : t.f y = s.f y := by
  rw [keeps, Bool.and_eq_true, Bool.not_eq_true', List.contains_eq_mem, decide_eq_false_iff_not] at hy
  exact h.apart w y hy.1 hy.2

theorem Fields.on (h : Fields l s t) (w : regsWf s.regs = true) (hy : keeps l y = true) : t.on y = s.on y := by
  unfold State.on
  rw [h.f w hy]

end Fields

/-! ### The order of a valley -/

/-- The trip inputs' bits and the sticky bits of the groups (R189). -/
def tripFields : List Fld := F.PWM_STAT_TRIPIN :: F.PWM_TRIPFLAG_FLAG :: (List.range 6).map F.PWM_G_STAT_TRIP

/-- What the rotator writes (R197, R198). -/
def rotatorFields (g : Nat) : List Fld :=
  [F.PWM_G_CMP_WIDTH g 0, F.PWM_G_CMP_WIDTH g 1, F.PWM_G_CMP_WIDTH g 2, F.PWM_G_ANGLE g, F.PWM_G_STAT_COASTING g]

/-- What the release sample writes (R187, R188). -/
def releaseFields (g : Nat) : List Fld := [F.PWM_G_STAT_CUT g, F.PWM_G_STAT_TCARRIED g, F.PWM_G_TCARCNT g]

/-- What the load of a phase writes (R178, R181, R182). -/
def loadFields (g x : Nat) : List Fld :=
  [F.PWM_G_ACT_WIDTH g x, F.PWM_G_ACT_CARRY g x, F.PWM_G_STAT_DROPH g, F.PWM_G_STAT_DROPL g, F.PWM_G_DROPCNT g]

/-- What the loads of all phases write. -/
def loadsFields (g : Nat) : List Fld := [0, 1, 2].flatMap (loadFields g)

/-- What a valley writes. -/
def valleyFields (g : Nat) : List Fld :=
  F.PWM_G_STAT_FORCED g :: tripFields ++ rotatorFields g ++ releaseFields g ++ loadsFields g

section Valley

variable {s t u : State} {g x lv : Nat}

/-- The phases of group `g` count from the valley that comes. -/
def State.turned (s : State) (g : Nat) : State :=
  s.setGrp g (fun q => { q with ph := q.ph.map (·.shift (s.np g)) })

/-- A valley before its loads. -/
def State.valleySampled (s : State) (g lv : Nat) : State := (((s.turned g).tripLevels lv).rotate g).releaseSample g

/-- The loads of a valley (R178, R181, R182, R190, R194). -/
def State.valleyLoaded (s : State) (g : Nat) : State :=
  s.each [0, 1, 2] (fun t x => t.valleyLoad g x (s.groupQuiet g || s.on (F.PWM_G_STAT_CUT g)))

/-- What holds the group after the valley, `held`, and FORCED, which shows it (R192, R195). -/
def State.valleyHeld (s : State) (g : Nat) (held : Bool) : State :=
  (s.setGrp g (fun q => { q with live := !held })).setB (F.PWM_G_STAT_FORCED g) held

theorem State.valley_eq (s : State) (g lv : Nat) : s.valley g lv =
    ((s.valleySampled g lv).valleyLoaded g).valleyHeld g ((s.valleySampled g lv).groupHeld g) := rfl

/-- The stages of a valley write their fields. -/
theorem State.tripLevels_fields (s : State) (lv : Nat) : Fields tripFields s (s.tripLevels lv) := by
  have live : F.PWM_STAT_TRIPIN ∈ tripFields := List.mem_cons_self
  have sticky : F.PWM_TRIPFLAG_FLAG ∈ tripFields := List.mem_cons_of_mem _ List.mem_cons_self
  have flag : ∀ g, g ∈ List.range 6 → F.PWM_G_STAT_TRIP g ∈ tripFields := fun g hg =>
    List.mem_cons_of_mem _ (List.mem_cons_of_mem _ (List.mem_map_of_mem hg))
  unfold State.tripLevels
  exact ((Fields.setF live rfl s _).trans (Fields.setF sticky rfl _ _)).trans
    (Fields.each (fun g hg t => Fields.cond _ (Fields.setF (flag g hg) rfl t 1)) _)

theorem State.rotate_fields (s : State) (g : Nat) : Fields (rotatorFields g) s (s.rotate g) := by
  have width : ∀ x, x ∈ [0, 1, 2] → F.PWM_G_CMP_WIDTH g x ∈ rotatorFields g := by simp [rotatorFields]
  have angle : F.PWM_G_ANGLE g ∈ rotatorFields g := by simp [rotatorFields]
  have coasting : F.PWM_G_STAT_COASTING g ∈ rotatorFields g := by simp [rotatorFields]
  unfold State.rotate
  exact Fields.ite ((((Fields.each (fun x hx t => Fields.setF (width x hx) rfl t _) s).trans
    (Fields.setF angle rfl _ _)).trans (Fields.setF coasting rfl _ _)).trans (Fields.setGrp _ _ g _)) (Fields.refl _ s)

theorem State.releaseSample_fields (s : State) (g : Nat) : Fields (releaseFields g) s (s.releaseSample g) := by
  have cut : F.PWM_G_STAT_CUT g ∈ releaseFields g := by simp [releaseFields]
  have carried : F.PWM_G_STAT_TCARRIED g ∈ releaseFields g := by simp [releaseFields]
  have counted : F.PWM_G_TCARCNT g ∈ releaseFields g := by simp [releaseFields]
  unfold State.releaseSample
  refine (Fields.setGrp _ s g (fun q => { q with fresh := false })).trans ?_
  exact Fields.ite (Fields.refl _ _) (Fields.ite (Fields.setF cut rfl _ 0)
    ((Fields.count counted rfl _ _).trans (Fields.setF carried rfl _ 1)))

end Valley

/-! ### The load of a phase (R174, R178, R181, R182) -/

/-- What a valley loads into a phase: the width, its carry and the drops. -/
structure Load where
  w : Nat
  carry : Nat
  dropH : Bool
  dropL : Bool

/-- The load without a drop test (R190, R194). -/
def Load.plain (w np : Nat) : Load := ⟨min w np, 0, false, false⟩

/-- The load of a width `w` that the carry has been added to, with the drop test: `th` is the least pulse (R181), and
`carryOn` says that the dropped width is carried (R182). -/
def Load.tested (w np th : Nat) (carryOn : Bool) : Load :=
  let dropH := decide (0 < w) && decide (w < th)
  let dropL := !dropH && decide ((np : Int) - th < w) && decide (w < np)
  ⟨w, ofI 12 (if !carryOn then 0 else if dropH then w else if dropL then (w : Int) - np else 0), dropH, dropL⟩

/-- The width of phase `x` of group `g` with the carry of the last valley (R182). -/
def State.widthDue (s : State) (g x : Nat) : Nat :=
  (clampI 0 (s.np g) ((min (s.f (F.PWM_G_CMP_WIDTH g x)) (s.np g) : Nat) +
    (if s.on (F.PWM_G_CFG_CARRY g) then s.carry g x else 0))).toNat

/-- The load of phase `x` of group `g` that is due. -/
def State.loadDue (s : State) (g x : Nat) (quiet : Bool) : Load :=
  if quiet then .plain (s.f (F.PWM_G_CMP_WIDTH g x)) (s.np g)
  else .tested (s.widthDue g x) (s.np g) (s.f (F.PWM_G_DEADTIME_DT g) + s.f (F.PWM_G_DEADTIME_MINP g))
    (s.on (F.PWM_G_CFG_CARRY g))

/-- The phase with width `l.w` of a period `np` (R174) and the drops of `l`. -/
def Phase.loaded (p : Phase) (l : Load) (np : Nat) : Phase :=
  { p with r := (np / 2 : Nat) - ((l.w + 1) / 2 : Nat), f := (np / 2 : Nat) + (l.w / 2 : Nat), dropH := l.dropH,
           dropL := l.dropL }

/-- The width and carry of load `l` in the registers, the phase loaded. -/
def State.widthLoaded (s : State) (g x : Nat) (l : Load) : State :=
  ((s.setWidth g x l.w).setF (F.PWM_G_ACT_CARRY g x) l.carry).setPh g x
    (fun p => { p with dropH := l.dropH, dropL := l.dropL })

/-- The drops of load `l` shown and counted. -/
def State.dropsShown (s : State) (g x : Nat) (l : Load) : State :=
  ((s.cond l.dropH (·.setBit (F.PWM_G_STAT_DROPH g) x)).cond l.dropL (·.setBit (F.PWM_G_STAT_DROPL g) x)).cond
    (l.dropH || l.dropL) (·.count (F.PWM_G_DROPCNT g) (22 + g))

theorem State.valleyLoad_eq (s : State) (g x : Nat) (quiet : Bool) :
    s.valleyLoad g x quiet = (s.widthLoaded g x (s.loadDue g x quiet)).dropsShown g x (s.loadDue g x quiet) := by
  cases quiet with
  | true =>
    unfold State.valleyLoad State.loadDue Load.plain State.widthLoaded State.dropsShown State.cond
    simp only [if_true, Bool.or_self, Bool.false_eq_true, if_false]
  | false =>
    unfold State.valleyLoad State.loadDue Load.tested State.widthLoaded State.dropsShown State.widthDue
    simp only [Bool.false_eq_true, if_false]

section Load

variable {s t u : State} {g x : Nat} {l : Load}

/-- The fields of a phase that its load writes. -/
theorem mem_loadFields (g x : Nat) : F.PWM_G_ACT_WIDTH g x ∈ loadFields g x ∧ F.PWM_G_ACT_CARRY g x ∈ loadFields g x ∧
    F.PWM_G_STAT_DROPH g ∈ loadFields g x ∧ F.PWM_G_STAT_DROPL g ∈ loadFields g x ∧
    F.PWM_G_DROPCNT g ∈ loadFields g x := by
  simp [loadFields]

theorem State.widthLoaded_fields (s : State) (g x : Nat) (l : Load) :
    Fields [F.PWM_G_ACT_WIDTH g x, F.PWM_G_ACT_CARRY g x] s (s.widthLoaded g x l) := by
  unfold State.widthLoaded State.setWidth State.setPh
  exact (((Fields.setF List.mem_cons_self rfl s _).trans (Fields.setGrp _ _ g _)).trans
    (Fields.setF (List.mem_cons_of_mem _ List.mem_cons_self) rfl _ _)).trans (Fields.setGrp _ _ g _)

theorem State.dropsShown_fields (s : State) (g x : Nat) (l : Load) :
    Fields [F.PWM_G_STAT_DROPH g, F.PWM_G_STAT_DROPL g, F.PWM_G_DROPCNT g] s (s.dropsShown g x l) := by
  unfold State.dropsShown
  exact ((Fields.cond _ (Fields.setF List.mem_cons_self rfl s _)).trans
    (Fields.cond _ (Fields.setF (List.mem_cons_of_mem _ List.mem_cons_self) rfl _ _))).trans
    (Fields.cond _ (Fields.count (List.mem_cons_of_mem _ (List.mem_cons_of_mem _ List.mem_cons_self)) rfl _ _))

theorem State.valleyLoad_fields (s : State) (g x : Nat) (quiet : Bool) :
    Fields (loadFields g x) s (s.valleyLoad g x quiet) := by
  rw [State.valleyLoad_eq]
  refine ((s.widthLoaded_fields g x _).mono ?_).trans ((State.dropsShown_fields _ g x _).mono ?_) <;>
    simp [loadFields]

theorem State.dropsShown_pwm (s : State) (g x : Nat) (l : Load) : (s.dropsShown g x l).pwm = s.pwm := by
  have shown : regsOnly s (s.dropsShown g x l) := by
    have bit : ∀ (t : State) (b : Bool) (y : Fld), regsOnly t (t.cond b (·.setBit y x)) := fun t b y =>
      sameIn.cond b (regsOnly.setF t y _)
    have count : ∀ (t : State) (b : Bool), regsOnly t (t.cond b (·.count (F.PWM_G_DROPCNT g) (22 + g))) := fun t b =>
      sameIn.cond b (t.count_regsOnly _ _)
    exact ((bit _ _ _).trans (bit _ _ _)).trans (count _ _)
  exact shown.pwm

theorem updAt_updAt {α : Type} (xs : List α) (n : Nat) (f h : α → α) :
    updAt (updAt xs n f) n h = updAt xs n (h ∘ f) := by
  unfold updAt
  cases e : xs[n]? with
  | none => simp [e]
  | some a =>
    have small : n < xs.length := (List.getElem?_eq_some_iff.mp e).1
    simp [small]

theorem State.setPh_setPh (s : State) (g x : Nat) (f h : Phase → Phase) :
    (s.setPh g x f).setPh g x h = s.setPh g x (h ∘ f) := by
  unfold State.setPh State.setGrp
  dsimp only
  rw [updAt_updAt]
  simp only [Function.comp_def, updAt_updAt]

theorem State.pwm_setPh_congr (h : t.pwm = u.pwm) (g x : Nat) (f : Phase → Phase) :
    (t.setPh g x f).pwm = (u.setPh g x f).pwm := by
  unfold State.setPh State.setGrp
  dsimp only
  rw [h]

/-- The load of a phase changes that phase of the array and no other. -/
theorem State.valleyLoad_pwm (s : State) (g x : Nat) (quiet : Bool) : (s.valleyLoad g x quiet).pwm =
    (s.setPh g x (·.loaded (s.loadDue g x quiet) (s.np g))).pwm := by
  rw [State.valleyLoad_eq, State.dropsShown_pwm]
  generalize s.loadDue g x quiet = l
  unfold State.widthLoaded State.setWidth
  dsimp only
  rw [State.pwm_setPh_congr (State.setF_pwm ..), State.setPh_setPh, State.pwm_setPh_congr (State.setF_pwm ..)]
  rfl

/-- The fields that a load reads, besides the phase's own. -/
def loadReads (g x : Nat) : List Fld :=
  [F.PWM_G_CMP_WIDTH g x, F.PWM_G_CFG_CARRY g, F.PWM_G_DEADTIME_DT g, F.PWM_G_DEADTIME_MINP g, F.CRT_FRAMECFG_NF]

end Load

section LoadEffect

variable {s t u : State} {g x y : Nat} {l : Load}

/-- What the loads of the other phases write. -/
def otherLoads (g x : Nat) : List Fld := ([0, 1, 2].filter (· != x)).flatMap (loadFields g)

/-- From `s` to `t` phase `x` of group `g` is not loaded. -/
structure PhaseKept (g x : Nat) (s t : State) : Prop where
  regs : Fields (otherLoads g x) s t
  drops : regsWf s.regs = true → bit (t.f (F.PWM_G_STAT_DROPH g)) x = bit (s.f (F.PWM_G_STAT_DROPH g)) x ∧
    bit (t.f (F.PWM_G_STAT_DROPL g)) x = bit (s.f (F.PWM_G_STAT_DROPL g)) x
  phase : (t.grp g).ph[x]? = (s.grp g).ph[x]?
  runs : t.runsAt g = s.runsAt g
  len : t.pwm.groups.length = s.pwm.groups.length

theorem PhaseKept.refl (g x : Nat) (s : State) : PhaseKept g x s s :=
  ⟨Fields.refl _ s, fun _ => ⟨rfl, rfl⟩, rfl, rfl, rfl⟩

theorem PhaseKept.trans (h : PhaseKept g x s t) (k : PhaseKept g x t u) : PhaseKept g x s u where
  regs := h.regs.trans k.regs
  drops w := ⟨(k.drops (h.regs.wf w)).1.trans (h.drops w).1, (k.drops (h.regs.wf w)).2.trans (h.drops w).2⟩
  phase := k.phase.trans h.phase
  runs := k.runs.trans h.runs
  len := k.len.trans h.len

theorem State.np_eq (s : State) (g : Nat) : s.np g = s.nf / 2 ^ (s.runsAt g).1 := rfl

theorem State.np_of (hn : t.nf = s.nf) (hr : t.runsAt g = s.runsAt g) : t.np g = s.np g := by
  rw [State.np_eq, State.np_eq, hn, hr]

/-- The other loads leave what the load of phase `x` reads and writes. -/
theorem otherLoads_keep : ∀ g, g < 6 → ∀ x, x < 3 → ∀ y,
    y ∈ F.PWM_G_ACT_WIDTH g x :: F.PWM_G_ACT_CARRY g x :: loadReads g x → keeps (otherLoads g x) y = true := by
  decide +kernel

theorem State.loadDue_of (hn : t.np g = s.np g) (hr : ∀ y, y ∈ F.PWM_G_ACT_CARRY g x :: loadReads g x → t.f y = s.f y)
    (quiet : Bool) : t.loadDue g x quiet = s.loadDue g x quiet := by
  simp only [loadReads, List.mem_cons, List.not_mem_nil, or_false, forall_eq_or_imp, forall_eq] at hr
  obtain ⟨carry, width, carryOn, dead, pulse, -⟩ := hr
  unfold State.loadDue State.widthDue State.carry State.on
  rw [hn, carry, width, carryOn, dead, pulse]

theorem PhaseKept.np (h : PhaseKept g x s t) (w : regsWf s.regs = true) (hg : g < 6) (hx : x < 3) : t.np g = s.np g :=
  State.np_of (h.regs.f w (otherLoads_keep g hg x hx _ (by simp [loadReads]))) h.runs

theorem PhaseKept.loadDue (h : PhaseKept g x s t) (w : regsWf s.regs = true) (hg : g < 6) (hx : x < 3) (quiet : Bool) :
    t.loadDue g x quiet = s.loadDue g x quiet :=
  State.loadDue_of (h.np w hg hx)
    (fun y hy => h.regs.f w (otherLoads_keep g hg x hx y (List.mem_cons_of_mem _ hy))) quiet

/-! The drop bits and the count of a load. -/

theorem State.bit_setBit_eq {z : Fld} (w : regsWf s.regs = true) (hz : z.fits = true) (hx : x < z.width) (y : Nat) :
    bit ((s.setBit z x).f z) y = (bit (s.f z) y || decide (x = y)) := by
  unfold State.setBit State.orF
  have small : orN (s.f z) (2 ^ x) < 2 ^ z.width := Nat.or_lt_two_pow (s.f_lt z) (Nat.pow_lt_pow_right (by decide) hx)
  rw [State.f_setF_same w hz, Nat.mod_eq_of_lt small, bit_orN, bit_eq_testBit (2 ^ x), Nat.testBit_two_pow]

theorem State.bit_cond_setBit {z : Fld} (w : regsWf s.regs = true) (hz : z.fits = true) (hx : x < z.width) (b : Bool)
    (y : Nat) : bit ((s.cond b (·.setBit z x)).f z) y = (bit (s.f z) y || (b && decide (x = y))) := by
  cases b with
  | false => simp [State.cond]
  | true => simpa [State.cond] using State.bit_setBit_eq w hz hx y

theorem State.f_cond_count {z : Fld} (w : regsWf s.regs = true) (hz : z.fits = true) (hc : z.addr ∉ countRegs)
    (b : Bool) (src : Nat) : (s.cond b (·.count z src)).f z = min (s.f z + b2n b) (2 ^ z.width - 1) := by
  cases b with
  | false => exact (Nat.min_eq_left (Nat.le_sub_one_of_lt (s.f_lt z))).symm
  | true => exact State.f_count w hz hc src

/-- The drop fields of a group are apart from each other and from the Ledger. -/
theorem drops_apart : ∀ g, g < 6 → keeps [F.PWM_G_STAT_DROPL g, F.PWM_G_DROPCNT g] (F.PWM_G_STAT_DROPH g) = true ∧
    keeps [F.PWM_G_STAT_DROPH g] (F.PWM_G_STAT_DROPL g) = true ∧
    keeps [F.PWM_G_DROPCNT g] (F.PWM_G_STAT_DROPL g) = true ∧
    keeps [F.PWM_G_STAT_DROPH g, F.PWM_G_STAT_DROPL g] (F.PWM_G_DROPCNT g) = true ∧
    (F.PWM_G_DROPCNT g).addr ∉ countRegs := by decide +kernel

theorem State.dropsShown_drops (w : regsWf s.regs = true) (hg : g < 6) (hx : x < 3) (l : Load) :
    (∀ y, bit ((s.dropsShown g x l).f (F.PWM_G_STAT_DROPH g)) y =
      (bit (s.f (F.PWM_G_STAT_DROPH g)) y || (l.dropH && decide (x = y)))) ∧
    (∀ y, bit ((s.dropsShown g x l).f (F.PWM_G_STAT_DROPL g)) y =
      (bit (s.f (F.PWM_G_STAT_DROPL g)) y || (l.dropL && decide (x = y)))) ∧
    (s.dropsShown g x l).f (F.PWM_G_DROPCNT g) =
      min (s.f (F.PWM_G_DROPCNT g) + b2n (l.dropH || l.dropL)) (2 ^ 32 - 1) := by
  obtain ⟨keepH, keepL, keepL', keepN, outside⟩ := drops_apart g hg
  have high : ∀ (l : List Fld) (t : State) (b : Bool), F.PWM_G_STAT_DROPH g ∈ l →
      Fields l t (t.cond b (·.setBit (F.PWM_G_STAT_DROPH g) x)) := fun l t b hl =>
    Fields.cond b (Fields.setF hl rfl t _)
  have low : ∀ (l : List Fld) (t : State) (b : Bool), F.PWM_G_STAT_DROPL g ∈ l →
      Fields l t (t.cond b (·.setBit (F.PWM_G_STAT_DROPL g) x)) := fun l t b hl =>
    Fields.cond b (Fields.setF hl rfl t _)
  have count : ∀ (l : List Fld) (t : State) (b : Bool), F.PWM_G_DROPCNT g ∈ l →
      Fields l t (t.cond b (·.count (F.PWM_G_DROPCNT g) (22 + g))) := fun l t b hl =>
    Fields.cond b (Fields.count hl rfl t _)
  unfold State.dropsShown
  have w₁ := (high [_] s l.dropH List.mem_cons_self).wf w
  have w₂ := (low [_] _ l.dropL List.mem_cons_self).wf w₁
  refine ⟨fun y => ?_, fun y => ?_, ?_⟩
  · rw [((low _ _ _ List.mem_cons_self).trans (count _ _ _ (List.mem_cons_of_mem _ List.mem_cons_self))).f w₁ keepH]
    exact State.bit_cond_setBit w rfl hx _ y
  · rw [(count _ _ _ List.mem_cons_self).f w₂ keepL', State.bit_cond_setBit w₁ rfl hx,
      (high _ _ _ List.mem_cons_self).f w keepL]
  · rw [State.f_cond_count w₂ rfl outside, ((high _ s l.dropH List.mem_cons_self).trans
      (low _ _ l.dropL (List.mem_cons_of_mem _ List.mem_cons_self))).f w keepN]
    rfl

/-! What a load does to its phase, and that it leaves the others. -/

/-- Phase `x` of group `g` is loaded with `l` from `s` to `t`. -/
structure Loaded (g x : Nat) (l : Load) (s t : State) : Prop where
  width : t.f (F.PWM_G_ACT_WIDTH g x) = l.w % 65536
  carry : t.f (F.PWM_G_ACT_CARRY g x) = l.carry % 4096
  dropH : l.dropH = true → bit (t.f (F.PWM_G_STAT_DROPH g)) x = true
  dropL : l.dropL = true → bit (t.f (F.PWM_G_STAT_DROPL g)) x = true
  phase : (t.grp g).ph[x]? = (s.grp g).ph[x]?.map (·.loaded l (s.np g))

theorem getElem?_updAt {α : Type} (xs : List α) (n k : Nat) (f : α → α) :
    (updAt xs n f)[k]? = if n = k then xs[k]?.map f else xs[k]? := by
  unfold updAt
  by_cases h : n = k
  · subst h
    cases e : xs[n]? with
    | none => simp [e]
    | some a =>
      have small : n < xs.length := (List.getElem?_eq_some_iff.mp e).1
      simp [small]
  · cases e : xs[n]? with
    | none => simp [h]
    | some a => simp [h]

theorem State.valleyLoad_phase (len : g < s.pwm.groups.length) (x : Nat) (quiet : Bool) :
    ((s.valleyLoad g x quiet).grp g).ph[x]? = (s.grp g).ph[x]?.map (·.loaded (s.loadDue g x quiet) (s.np g)) := by
  rw [State.grp_of_pwm (State.valleyLoad_pwm s g x quiet), State.setPh, State.grp_setGrp_same len]
  exact (getElem?_updAt _ _ _ _).trans (if_pos rfl)

theorem State.valleyLoad_runsAt (s : State) (g x : Nat) (quiet : Bool) :
    (s.valleyLoad g x quiet).runsAt g = s.runsAt g := by
  rw [State.runsAt_of_pwm (State.valleyLoad_pwm s g x quiet), State.setPh, State.runsAt_setGrp]
  exact fun _ => ⟨rfl, rfl⟩

theorem State.valleyLoad_length (s : State) (g x : Nat) (quiet : Bool) :
    (s.valleyLoad g x quiet).pwm.groups.length = s.pwm.groups.length := by
  rw [State.valleyLoad_pwm]
  exact State.setGrp_len s g _

/-- The width and the carry do not meet, nor do they meet what shows a drop. -/
theorem widths_apart : ∀ g, g < 6 → ∀ x, x < 3 →
    (F.PWM_G_ACT_CARRY g x).apart (F.PWM_G_ACT_WIDTH g x) = true ∧
    (∀ y, y ∈ [F.PWM_G_ACT_WIDTH g x, F.PWM_G_ACT_CARRY g x] →
      keeps [F.PWM_G_STAT_DROPH g, F.PWM_G_STAT_DROPL g, F.PWM_G_DROPCNT g] y = true) ∧
    ∀ y, y ∈ [F.PWM_G_STAT_DROPH g, F.PWM_G_STAT_DROPL g, F.PWM_G_DROPCNT g] →
      keeps [F.PWM_G_ACT_WIDTH g x, F.PWM_G_ACT_CARRY g x] y = true := by decide +kernel

theorem State.widthLoaded_width (w : regsWf s.regs = true) (hg : g < 6) (hx : x < 3) (l : Load) :
    (s.widthLoaded g x l).f (F.PWM_G_ACT_WIDTH g x) = l.w % 65536 ∧
    (s.widthLoaded g x l).f (F.PWM_G_ACT_CARRY g x) = l.carry % 4096 := by
  have wf : regsWf (s.setWidth g x l.w).regs = true := by
    unfold State.setWidth State.setPh
    rw [State.setGrp_regs]
    exact State.setF_regsWf w _ _
  have width : (s.setWidth g x l.w).f (F.PWM_G_ACT_WIDTH g x) = l.w % 65536 := by
    unfold State.setWidth State.setPh
    rw [State.setGrp_f]
    exact State.f_setF_same w rfl _
  unfold State.widthLoaded State.setPh
  rw [State.setGrp_f, State.setGrp_f, State.f_setF_apart wf rfl (widths_apart g hg x hx).1, width]
  exact ⟨rfl, State.f_setF_same wf rfl _⟩

theorem State.valleyLoad_drops (w : regsWf s.regs = true) (hg : g < 6) (hx : x < 3) (quiet : Bool) :
    (∀ y, bit ((s.valleyLoad g x quiet).f (F.PWM_G_STAT_DROPH g)) y =
      (bit (s.f (F.PWM_G_STAT_DROPH g)) y || ((s.loadDue g x quiet).dropH && decide (x = y)))) ∧
    (∀ y, bit ((s.valleyLoad g x quiet).f (F.PWM_G_STAT_DROPL g)) y =
      (bit (s.f (F.PWM_G_STAT_DROPL g)) y || ((s.loadDue g x quiet).dropL && decide (x = y)))) ∧
    (s.valleyLoad g x quiet).f (F.PWM_G_DROPCNT g) = min (s.f (F.PWM_G_DROPCNT g) +
      b2n ((s.loadDue g x quiet).dropH || (s.loadDue g x quiet).dropL)) (2 ^ 32 - 1) := by
  rw [State.valleyLoad_eq]
  generalize s.loadDue g x quiet = l
  obtain ⟨-, -, keep⟩ := widths_apart g hg x hx
  have step := s.widthLoaded_fields g x l
  have shown := State.dropsShown_drops (step.wf w) hg hx l
  rwa [step.f w (keep _ (by simp)), step.f w (keep _ (by simp)), step.f w (keep _ (by simp))] at shown

theorem State.valleyLoad_loaded (w : regsWf s.regs = true) (len : g < s.pwm.groups.length) (hg : g < 6) (hx : x < 3)
    (quiet : Bool) : Loaded g x (s.loadDue g x quiet) s (s.valleyLoad g x quiet) := by
  obtain ⟨-, keep, -⟩ := widths_apart g hg x hx
  obtain ⟨high, low, -⟩ := State.valleyLoad_drops w hg hx quiet
  obtain ⟨width, carry⟩ := State.widthLoaded_width w hg hx (s.loadDue g x quiet)
  have shown := (s.widthLoaded g x (s.loadDue g x quiet)).dropsShown_fields g x (s.loadDue g x quiet)
  have w₁ := (s.widthLoaded_fields g x (s.loadDue g x quiet)).wf w
  refine ⟨?_, ?_, fun h => ?_, fun h => ?_, State.valleyLoad_phase len x quiet⟩
  · rw [State.valleyLoad_eq, shown.f w₁ (keep _ (by simp)), width]
  · rw [State.valleyLoad_eq, shown.f w₁ (keep _ (by simp)), carry]
  · rw [high, h]; simp
  · rw [low, h]; simp

theorem State.valleyLoad_other (hg : g < 6) (hx : x < 3) (h : x ≠ y) (s : State) (quiet : Bool) :
    PhaseKept g y s (s.valleyLoad g x quiet) where
  regs := (s.valleyLoad_fields g x quiet).mono fun z hz => by
    have mem : x ∈ [0, 1, 2].filter (· != y) := by
      rw [List.mem_filter]
      refine ⟨?_, by simpa using h⟩
      simp only [List.mem_cons, List.not_mem_nil, or_false]
      omega
    exact List.mem_flatMap.mpr ⟨x, mem, hz⟩
  drops w := by
    obtain ⟨high, low, -⟩ := State.valleyLoad_drops w hg hx quiet
    rw [high, low]
    simp [h]
  phase := by
    rw [State.grp_of_pwm (State.valleyLoad_pwm s g x quiet), State.setPh]
    exact State.grp_setGrp_field (p := fun q => q.ph[y]?) (fun q => (getElem?_updAt _ _ _ _).trans (if_neg h)) s g g
  runs := s.valleyLoad_runsAt g x quiet
  len := s.valleyLoad_length g x quiet

end LoadEffect

section Loads

variable {s t u : State} {g x y : Nat} {l : Load}

/-- No drop test is made at a valley of group `g` in this state (R190, R194). -/
def State.untested (s : State) (g : Nat) : Bool := s.groupQuiet g || s.on (F.PWM_G_STAT_CUT g)

/-- The group but for its phases. -/
def Group.noPh (q : Group) : Group := { q with ph := [] }

theorem State.valleyLoaded_eq (s : State) (g : Nat) :
    s.valleyLoaded g = s.each [0, 1, 2] (fun t x => t.valleyLoad g x (s.untested g)) := rfl

theorem State.valleyLoaded_fields (s : State) (g : Nat) : Fields (loadsFields g) s (s.valleyLoaded g) :=
  Fields.each (fun x hx t => (t.valleyLoad_fields g x _).mono fun _ hz => List.mem_flatMap.mpr ⟨x, hx, hz⟩) s

theorem State.valleyLoaded_noPh (s : State) (g : Nat) : ((s.valleyLoaded g).grp g).noPh = (s.grp g).noPh :=
  sameIn.each (p := fun t => (t.grp g).noPh) (fun t x => by
    unfold sameIn
    dsimp only
    rw [State.grp_of_pwm (State.valleyLoad_pwm t g x _), State.setPh]
    exact State.grp_setGrp_field (p := Group.noPh) (f := fun q => { q with ph := updAt q.ph x _ })
      (fun _ => rfl) t g g) [0, 1, 2] s

theorem State.valleyLoaded_phases (s : State) (g : Nat) :
    ((s.valleyLoaded g).grp g).ph.length = (s.grp g).ph.length :=
  sameIn.each (p := fun t => (t.grp g).ph.length) (fun t x => by
    unfold sameIn
    dsimp only
    rw [State.grp_of_pwm (State.valleyLoad_pwm t g x _), State.setPh]
    exact State.grp_setGrp_field (p := fun q => q.ph.length) (f := fun q => { q with ph := updAt q.ph x _ })
      (fun _ => length_updAt _ _ _) t g g) [0, 1, 2] s

theorem mem_phases (hx : x < 3) : x ∈ [0, 1, 2] := by
  simp only [List.mem_cons, List.not_mem_nil, or_false]
  omega

theorem lt_of_mem_phases (h : x ∈ [0, 1, 2]) : x < 3 := by
  simp only [List.mem_cons, List.not_mem_nil, or_false] at h
  omega

theorem Loaded.between (h : Loaded g x l t u) (before : PhaseKept g x s t) (after : PhaseKept g x u v)
    (w : regsWf s.regs = true) (wu : regsWf u.regs = true) (hg : g < 6) (hx : x < 3) : Loaded g x l s v where
  width := (after.regs.f wu (otherLoads_keep g hg x hx _ (by simp))).trans h.width
  carry := (after.regs.f wu (otherLoads_keep g hg x hx _ (by simp))).trans h.carry
  dropH d := (after.drops wu).1.trans (h.dropH d)
  dropL d := (after.drops wu).2.trans (h.dropL d)
  phase := by rw [after.phase, h.phase, before.phase, before.np w hg hx]

/-- A valley loads each phase with the load that is due when the loads begin. -/
theorem State.valleyLoaded_loaded (w : regsWf s.regs = true) (len : g < s.pwm.groups.length) (hg : g < 6) (hx : x < 3) :
    Loaded g x (s.loadDue g x (s.untested g)) s (s.valleyLoaded g) := by
  obtain ⟨u, before, after⟩ := State.each_visit (R := PhaseKept g x) (PhaseKept.refl g x) (fun _ _ _ => PhaseKept.trans)
    (f := fun t x => t.valleyLoad g x (s.untested g)) (mem_phases hx) (by decide)
    (fun t k hk h => State.valleyLoad_other hg (lt_of_mem_phases hk) h t _) s
  have wu := before.regs.wf w
  have load := State.valleyLoad_loaded wu (by rwa [before.len]) hg hx (s.untested g)
  rw [before.loadDue w hg hx] at load
  exact load.between before after w ((u.valleyLoad_fields g x _).wf wu) hg hx

/-- A load drops a pulse. -/
def Load.drops (l : Load) : Nat := b2n (l.dropH || l.dropL)

/-- The drops of the three phases are counted (R181). -/
theorem State.valleyLoaded_count (w : regsWf s.regs = true) (hg : g < 6) : (s.valleyLoaded g).f (F.PWM_G_DROPCNT g) =
    min (s.f (F.PWM_G_DROPCNT g) + ((s.loadDue g 0 (s.untested g)).drops + (s.loadDue g 1 (s.untested g)).drops +
      (s.loadDue g 2 (s.untested g)).drops)) (2 ^ 32 - 1) := by
  rw [State.valleyLoaded_eq]
  generalize s.untested g = quiet
  have other : ∀ (x y : Nat) (t : State), x < 3 → x ≠ y → PhaseKept g y t (t.valleyLoad g x quiet) := fun x y t hx h =>
    State.valleyLoad_other hg hx h t quiet
  have wf : ∀ (t : State) (x : Nat), regsWf t.regs = true → regsWf (t.valleyLoad g x quiet).regs = true := fun t x =>
    (t.valleyLoad_fields g x quiet).wf
  have counted : ∀ (t : State) (x : Nat), regsWf t.regs = true → x < 3 →
      (t.valleyLoad g x quiet).f (F.PWM_G_DROPCNT g) =
        min (t.f (F.PWM_G_DROPCNT g) + (t.loadDue g x quiet).drops) (2 ^ 32 - 1) := fun t x wt hx =>
    (State.valleyLoad_drops wt hg hx quiet).2.2
  have second := (other 0 1 s (by decide) (by decide)).loadDue w hg (by decide) quiet
  have third := ((other 0 2 s (by decide) (by decide)).trans (other 1 2 _ (by decide) (by decide))).loadDue w hg
    (by decide) quiet
  change (((s.valleyLoad g 0 quiet).valleyLoad g 1 quiet).valleyLoad g 2 quiet).f (F.PWM_G_DROPCNT g) = _
  rw [counted _ 2 (wf _ 1 (wf s 0 w)) (by decide), counted _ 1 (wf s 0 w) (by decide), counted s 0 w (by decide),
    second, third]
  omega

end Loads

/-! ### A valley before its loads (R187 to R189, R197, R198) -/

section Sampling

variable {s t u : State} {g x lv : Nat}

/-- The rotator supplies the widths of the period that begins. -/
def State.rotated (s : State) (g : Nat) : State :=
  (((s.each [0, 1, 2] (fun t x => t.setF (F.PWM_G_CMP_WIDTH g x) ((rotatorWidths (s.grp g).nextAngle
    (s.fi (F.PWM_G_VDQ_VD g)) (s.fi (F.PWM_G_VDQ_VQ g)) (s.np g)).1.getD x 0))).setF (F.PWM_G_ANGLE g)
    (s.grp g).nextAngle).setF (F.PWM_G_STAT_COASTING g) 1)

theorem State.rotate_off (h : s.on (F.PWM_G_COAST_EN g) = false) : s.rotate g = s := if_neg (by rw [h]; decide)

theorem State.rotate_on (h : s.on (F.PWM_G_COAST_EN g) = true) : s.rotate g = (s.rotated g).setGrp g (fun q =>
    { q with coasting := true, nextAngle := ((s.grp g).nextAngle + (s.rotated g).f (F.PWM_G_INC g)) % 2 ^ 32 }) := by
  unfold State.rotate
  rw [if_pos h]
  rfl

/-- The fields of the rotator do not meet, and it leaves INC. -/
theorem rotator_apart : ∀ g, g < 6 →
    (∀ x, x < 3 → keeps [F.PWM_G_ANGLE g, F.PWM_G_STAT_COASTING g] (F.PWM_G_CMP_WIDTH g x) = true) ∧
    (F.PWM_G_STAT_COASTING g).apart (F.PWM_G_ANGLE g) = true ∧ keeps (rotatorFields g) (F.PWM_G_INC g) = true := by
  decide +kernel

theorem compares_apart : ∀ g, g < 6 → ∀ x, x < 3 →
    keeps (([0, 1, 2].filter (· != x)).map (F.PWM_G_CMP_WIDTH g)) (F.PWM_G_CMP_WIDTH g x) = true := by decide +kernel

theorem State.rotated_fields (s : State) (g : Nat) : Fields (rotatorFields g) s (s.rotated g) := by
  have width : ∀ x, x ∈ [0, 1, 2] → F.PWM_G_CMP_WIDTH g x ∈ rotatorFields g := by simp [rotatorFields]
  have angle : F.PWM_G_ANGLE g ∈ rotatorFields g := by simp [rotatorFields]
  have coasting : F.PWM_G_STAT_COASTING g ∈ rotatorFields g := by simp [rotatorFields]
  unfold State.rotated
  exact ((Fields.each (fun x hx t => Fields.setF (width x hx) rfl t _) s).trans
    (Fields.setF angle rfl _ _)).trans (Fields.setF coasting rfl _ _)

theorem State.rotated_pwm (s : State) (g : Nat) : (s.rotated g).pwm = s.pwm := by
  unfold State.rotated
  rw [State.setF_pwm, State.setF_pwm]
  exact regsOnly.pwm (sameIn.each (fun t _ => regsOnly.setF t _ _) _ s)

theorem State.rotate_length (s : State) (g : Nat) : (s.rotate g).pwm.groups.length = s.pwm.groups.length := by
  cases en : s.on (F.PWM_G_COAST_EN g) with
  | false => rw [State.rotate_off en]
  | true => rw [State.rotate_on en, State.setGrp_len, State.rotated_pwm]

theorem State.compares_fields (s : State) (g : Nat) {xs : List Nat} (v : Nat → Nat) :
    Fields (xs.map (F.PWM_G_CMP_WIDTH g)) s (s.each xs (fun t x => t.setF (F.PWM_G_CMP_WIDTH g x) (v x))) :=
  Fields.each (fun _ hx t => Fields.setF (List.mem_map_of_mem hx) rfl t _) s

/-- Three compare buffers are written in turn. -/
theorem State.f_compares (w : regsWf s.regs = true) (hg : g < 6) (hx : x < 3) (v : Nat → Nat) :
    (s.each [0, 1, 2] (fun t x => t.setF (F.PWM_G_CMP_WIDTH g x) (v x))).f (F.PWM_G_CMP_WIDTH g x) = v x % 65536 := by
  obtain ⟨u, before, after⟩ := State.each_visit
    (R := Fields (([0, 1, 2].filter (· != x)).map (F.PWM_G_CMP_WIDTH g))) (Fields.refl _) (fun _ _ _ => Fields.trans)
    (f := fun t x => t.setF (F.PWM_G_CMP_WIDTH g x) (v x)) (mem_phases hx) (by decide)
    (fun t k hk h => Fields.setF (List.mem_map_of_mem (List.mem_filter.mpr ⟨hk, by simpa using h⟩)) rfl t _) s
  have wu := before.wf w
  have apart : keeps (([0, 1, 2].filter (· != x)).map (F.PWM_G_CMP_WIDTH g)) (F.PWM_G_CMP_WIDTH g x) = true :=
    compares_apart g hg x hx
  rw [after.f (State.setF_regsWf wu _ _) apart]
  exact State.f_setF_same wu rfl _

/-- R197, R198. -/
theorem State.rotated_shows (w : regsWf s.regs = true) (hg : g < 6) :
    (s.rotated g).on (F.PWM_G_STAT_COASTING g) = true ∧
    (s.rotated g).f (F.PWM_G_ANGLE g) = (s.grp g).nextAngle % 2 ^ 32 ∧
    (s.rotated g).f (F.PWM_G_INC g) = s.f (F.PWM_G_INC g) ∧
    ∀ x, x < 3 → (s.rotated g).f (F.PWM_G_CMP_WIDTH g x) = (rotatorWidths (s.grp g).nextAngle (s.fi (F.PWM_G_VDQ_VD g))
      (s.fi (F.PWM_G_VDQ_VQ g)) (s.np g)).1.getD x 0 % 65536 := by
  obtain ⟨compare, angle, inc⟩ := rotator_apart g hg
  refine ⟨?_, ?_, (s.rotated_fields g).f w inc, fun x hx => ?_⟩
  all_goals
    have compares := fun v => (State.compares_fields s g (xs := [0, 1, 2]) v).wf w
  · exact State.on_setF_same (State.setF_regsWf (compares _) _ _) rfl rfl 1
  · exact (State.f_setF_apart (State.setF_regsWf (compares _) _ _) rfl angle _).trans
      (State.f_setF_same (compares _) rfl _)
  · have shown : ∀ (t : State) (a : Nat), Fields [F.PWM_G_ANGLE g, F.PWM_G_STAT_COASTING g] t
        ((t.setF (F.PWM_G_ANGLE g) a).setF (F.PWM_G_STAT_COASTING g) 1) := fun t a =>
      (Fields.setF List.mem_cons_self rfl t _).trans (Fields.setF (List.mem_cons_of_mem _ List.mem_cons_self) rfl _ _)
    exact ((shown _ _).f (compares _) (compare x hx)).trans (State.f_compares w hg hx _)

/-! The release sample. -/

/-- The cut of group `g` is not sampled yet. -/
def State.released (s : State) (g : Nat) : State := s.setGrp g (fun q => { q with fresh := false })

theorem State.released_rd (s : State) (g a : Nat) : (s.released g).rd a = s.rd a := rfl

theorem State.released_on (s : State) (g : Nat) (y : Fld) : (s.released g).on y = s.on y := rfl

theorem State.releaseSample_eq (s : State) (g : Nat) : s.releaseSample g =
    if !s.on (F.PWM_G_STAT_CUT g) || (s.grp g).fresh then s.released g
    else if andN (s.f (F.PWM_G_TRIPMAP_MAP g)) (s.f F.PWM_STAT_TRIPIN) = 0 then
      (s.released g).setF (F.PWM_G_STAT_CUT g) 0
    else ((s.released g).count (F.PWM_G_TCARCNT g) (28 + g)).setF (F.PWM_G_STAT_TCARRIED g) 1 := rfl

theorem State.releaseSample_pwm (s : State) (g : Nat) : (s.releaseSample g).pwm = (s.released g).pwm := by
  have sampled : regsOnly (s.released g) (s.releaseSample g) := by
    rw [State.releaseSample_eq]
    exact sameIn.ite (sameIn.refl _) (sameIn.ite (regsOnly.setF _ _ _)
      ((State.count_regsOnly _ _ _).trans (regsOnly.setF _ _ _)))
  exact sampled.pwm

/-- The group when the loads of its valley begin: coasting if it is, at the angle that comes next. -/
def Group.sampled (q : Group) (np : Nat) (coasting : Bool) (angle : Nat) : Group :=
  { q with ph := q.ph.map (·.shift np), fresh := false, coasting := coasting, nextAngle := angle }

/-- The state when the trips of a valley are sampled. -/
def State.tripsSampled (s : State) (g lv : Nat) : State := (s.turned g).tripLevels lv

theorem State.tripsSampled_fields (s : State) (g lv : Nat) : Fields tripFields s (s.tripsSampled g lv) :=
  (Fields.setGrp _ s g (fun q => { q with ph := q.ph.map (·.shift (s.np g)) })).trans (State.tripLevels_fields _ lv)

theorem State.tripsSampled_grp (len : g < s.pwm.groups.length) (lv : Nat) : (s.tripsSampled g lv).grp g =
    { s.grp g with ph := (s.grp g).ph.map (·.shift (s.np g)) } := by
  rw [State.tripsSampled, State.grp_of_pwm (State.tripLevels_regsOnly _ lv).pwm, State.turned,
    State.grp_setGrp_same len]

theorem State.tripsSampled_length (s : State) (g lv : Nat) :
    (s.tripsSampled g lv).pwm.groups.length = s.pwm.groups.length := by
  rw [State.tripsSampled, (State.tripLevels_regsOnly _ lv).pwm]
  exact State.setGrp_len s g _

end Sampling

section Sampled

variable {s t u : State} {g x lv : Nat} {y : Fld}

/-- What a valley reads, besides what its earlier stages write. -/
def valleyReads (g : Nat) : List Fld :=
  [F.PWM_G_COAST_EN g, F.PWM_G_INC g, F.PWM_G_VDQ_VD g, F.PWM_G_VDQ_VQ g, F.CRT_FRAMECFG_NF, F.PWM_G_TRIPMAP_MAP g,
   F.PWM_G_CFG_CARRY g, F.PWM_G_CFG_EN g, F.PWM_G_CTL_OFF g, F.PWM_CTL_EN, F.PWM_G_DEADTIME_DT g,
   F.PWM_G_DEADTIME_MINP g, F.PAIR_STAT_STATE, F.BOOT_STAT_RECOVERY, F.PAIR_CFG_MODE]

theorem valleyReads_keep : ∀ g, g < 6 → ∀ y, y ∈ valleyReads g → keeps (valleyFields g) y = true := by decide +kernel

theorem keeps_mono {l m : List Fld} (hl : ∀ x, x ∈ l → x ∈ m) (h : keeps m y = true) : keeps l y = true := by
  rw [keeps, Bool.and_eq_true, List.all_eq_true] at h ⊢
  exact ⟨fun x hx => h.1 x (hl x hx), h.2⟩

/-- What the stages of a valley write before the loads. -/
def sampledFields (g : Nat) : List Fld := tripFields ++ rotatorFields g ++ releaseFields g

theorem sampledFields_valley {z : Fld} (h : z ∈ sampledFields g) : z ∈ valleyFields g := by
  simp only [sampledFields, valleyFields, List.mem_cons, List.mem_append] at h ⊢
  tauto

theorem tripFields_sampled {z : Fld} (h : z ∈ tripFields) : z ∈ sampledFields g := by
  simp only [sampledFields, List.mem_append]
  tauto

theorem rotatorFields_sampled {z : Fld} (h : z ∈ rotatorFields g) : z ∈ sampledFields g := by
  simp only [sampledFields, List.mem_append]
  tauto

theorem releaseFields_sampled {z : Fld} (h : z ∈ releaseFields g) : z ∈ sampledFields g := by
  simp only [sampledFields, List.mem_append]
  tauto

theorem Fields.reads (h : Fields (sampledFields g) s t) (w : regsWf s.regs = true) (hg : g < 6)
    (hy : y ∈ valleyReads g) : t.f y = s.f y :=
  h.f w (keeps_mono (fun _ => sampledFields_valley) (valleyReads_keep g hg y hy))

theorem Fields.readsOn (h : Fields (sampledFields g) s t) (w : regsWf s.regs = true) (hg : g < 6)
    (hy : y ∈ valleyReads g) : t.on y = s.on y := by
  unfold State.on
  rw [h.reads w hg hy]

theorem State.tripsSampled_sampled (s : State) (g lv : Nat) : Fields (sampledFields g) s (s.tripsSampled g lv) :=
  (s.tripsSampled_fields g lv).mono fun _ => tripFields_sampled

/-- The trips are sampled and the rotator has written. -/
def State.rotatedSample (s : State) (g lv : Nat) : State := (s.tripsSampled g lv).rotate g

theorem State.valleySampled_eq (s : State) (g lv : Nat) :
    s.valleySampled g lv = (s.rotatedSample g lv).releaseSample g := rfl

theorem State.rotatedSample_sampled (s : State) (g lv : Nat) : Fields (sampledFields g) s (s.rotatedSample g lv) :=
  (s.tripsSampled_sampled g lv).trans ((State.rotate_fields _ g).mono fun _ => rotatorFields_sampled)

theorem State.valleySampled_fields (s : State) (g lv : Nat) : Fields (sampledFields g) s (s.valleySampled g lv) :=
  (s.rotatedSample_sampled g lv).trans ((State.releaseSample_fields _ g).mono fun _ => releaseFields_sampled)

theorem State.tripsSampled_np (w : regsWf s.regs = true) (hg : g < 6) (lv : Nat) :
    (s.tripsSampled g lv).np g = s.np g := by
  refine State.np_of ((s.tripsSampled_sampled g lv).reads w hg (by simp [valleyReads])) ?_
  rw [State.tripsSampled, State.runsAt_of_pwm (State.tripLevels_regsOnly _ lv).pwm, State.turned, State.runsAt_setGrp]
  exact fun _ => ⟨rfl, rfl⟩

/-- COAST.EN lets the group coast at a valley, at the angle that follows (R197, R198). -/
theorem State.rotatedSample_grp (w : regsWf s.regs = true) (len : g < s.pwm.groups.length) (hg : g < 6) (lv : Nat) :
    (s.rotatedSample g lv).grp g = { s.grp g with
      ph := (s.grp g).ph.map (·.shift (s.np g)), coasting := s.on (F.PWM_G_COAST_EN g) || (s.grp g).coasting,
      nextAngle := if s.on (F.PWM_G_COAST_EN g) then ((s.grp g).nextAngle + s.f (F.PWM_G_INC g)) % 2 ^ 32
        else (s.grp g).nextAngle } := by
  have trips := s.tripsSampled_sampled g lv
  have coast := trips.readsOn w hg (y := F.PWM_G_COAST_EN g) (by simp [valleyReads])
  unfold State.rotatedSample
  cases en : s.on (F.PWM_G_COAST_EN g) with
  | false =>
    rw [State.rotate_off (coast.trans en), State.tripsSampled_grp len]
    rfl
  | true =>
    have inc := ((State.rotated_shows (trips.wf w) hg).2.2.1).trans (trips.reads w hg (by simp [valleyReads]))
    have pwm := State.rotated_pwm (s.tripsSampled g lv) g
    have same := State.grp_of_pwm pwm g
    rw [State.rotate_on (coast.trans en), State.grp_setGrp_same (by rwa [pwm, State.tripsSampled_length]), inc, same,
      State.tripsSampled_grp len]
    rfl

theorem State.rotatedSample_length (s : State) (g lv : Nat) :
    (s.rotatedSample g lv).pwm.groups.length = s.pwm.groups.length :=
  (State.rotate_length _ g).trans (s.tripsSampled_length g lv)

theorem State.valleySampled_grp (w : regsWf s.regs = true) (len : g < s.pwm.groups.length) (hg : g < 6) (lv : Nat) :
    (s.valleySampled g lv).grp g = { s.grp g with
      ph := (s.grp g).ph.map (·.shift (s.np g)), fresh := false,
      coasting := s.on (F.PWM_G_COAST_EN g) || (s.grp g).coasting,
      nextAngle := if s.on (F.PWM_G_COAST_EN g) then ((s.grp g).nextAngle + s.f (F.PWM_G_INC g)) % 2 ^ 32
        else (s.grp g).nextAngle } := by
  rw [State.valleySampled_eq, State.grp_of_pwm (State.releaseSample_pwm _ g), State.released,
    State.grp_setGrp_same (by rwa [State.rotatedSample_length]), State.rotatedSample_grp w len hg]

theorem State.valleySampled_length (s : State) (g lv : Nat) :
    (s.valleySampled g lv).pwm.groups.length = s.pwm.groups.length := by
  rw [State.valleySampled_eq, State.releaseSample_pwm]
  exact (State.setGrp_len _ g _).trans (s.rotatedSample_length g lv)

theorem State.valleySampled_np (w : regsWf s.regs = true) (len : g < s.pwm.groups.length) (hg : g < 6) (lv : Nat) :
    (s.valleySampled g lv).np g = s.np g :=
  State.np_of ((s.valleySampled_fields g lv).reads w hg (by simp [valleyReads])) (by
    unfold State.runsAt
    rw [State.valleySampled_grp w len hg])

theorem State.groupHeld_valleySampled (w : regsWf s.regs = true) (hg : g < 6) (lv : Nat) :
    (s.valleySampled g lv).groupHeld g = s.groupHeld g := by
  have fields := s.valleySampled_fields g lv
  unfold State.groupHeld State.drivesPins State.unitKnown State.unitCode
  rw [fields.rest.safe, fields.rest.boot, fields.readsOn w hg (y := F.PWM_G_CTL_OFF g) (by simp [valleyReads]),
    fields.readsOn w hg (y := F.PWM_G_CFG_EN g) (by simp [valleyReads]),
    fields.readsOn w hg (y := F.PWM_CTL_EN) (by simp [valleyReads]),
    fields.readsOn w hg (y := F.BOOT_STAT_RECOVERY) (by simp [valleyReads]),
    fields.reads w hg (y := F.PAIR_STAT_STATE) (by simp [valleyReads]),
    fields.reads w hg (y := F.PAIR_CFG_MODE) (by simp [valleyReads])]

theorem State.groupQuiet_valleySampled (w : regsWf s.regs = true) (hg : g < 6) (lv : Nat) :
    (s.valleySampled g lv).groupQuiet g = s.groupQuiet g := by
  have fields := s.valleySampled_fields g lv
  unfold State.groupQuiet
  rw [fields.rest.safe, fields.readsOn w hg (y := F.PWM_G_CTL_OFF g) (by simp [valleyReads]),
    fields.readsOn w hg (y := F.PWM_G_CFG_EN g) (by simp [valleyReads])]

/-! The trips, the rotator and the release sample. -/

/-- The fields that one stage writes and no later one before the loads. -/
theorem sampled_keep : ∀ g, g < 6 →
    (∀ y, y ∈ [F.PWM_STAT_TRIPIN, F.PWM_TRIPFLAG_FLAG] → keeps (rotatorFields g ++ releaseFields g) y = true) ∧
    (∀ y, y ∈ rotatorFields g → keeps (releaseFields g) y = true) ∧
    (∀ y, y ∈ releaseFields g → keeps (tripFields ++ rotatorFields g) y = true) ∧
    (F.PWM_G_TCARCNT g).addr ∉ (tripFields ++ rotatorFields g).map Fld.addr ++ countRegs ∧
    (∀ x, x < 3 → keeps (sampledFields g) (F.PWM_G_ACT_CARRY g x) = true) ∧
    keeps (sampledFields g) (F.PWM_G_DROPCNT g) = true ∧
    (∀ x, x < 3 → keeps (tripFields ++ releaseFields g) (F.PWM_G_CMP_WIDTH g x) = true) := by decide +kernel

/-- R189. -/
theorem State.valleySampled_trips (w : regsWf s.regs = true) (hg : g < 6) (hl : lv < 2 ^ 8) :
    (s.valleySampled g lv).f F.PWM_STAT_TRIPIN = lv ∧
    (s.valleySampled g lv).f F.PWM_TRIPFLAG_FLAG = orN (s.f F.PWM_TRIPFLAG_FLAG) lv := by
  obtain ⟨keep, -⟩ := sampled_keep g hg
  have wt := (s.tripsSampled_fields g lv).wf w
  have later : Fields (rotatorFields g ++ releaseFields g) (s.tripsSampled g lv) (s.valleySampled g lv) :=
    ((State.rotate_fields _ g).mono fun _ => List.mem_append_left _).trans
      ((State.releaseSample_fields _ g).mono fun _ => List.mem_append_right _)
  have wt' : regsWf (s.turned g).regs = true := w
  obtain ⟨live, sticky, -⟩ := State.tripLevels_bits wt' hl
  exact ⟨(later.f wt (keep _ (by simp))).trans live, (later.f wt (keep _ (by simp))).trans sticky⟩

end Sampled

section Held

variable {s t u : State} {g x lv : Nat} {y : Fld}

/-! The release sample (R187, R188). -/

theorem State.releaseSample_still (h : s.on (F.PWM_G_STAT_CUT g) = false ∨ (s.grp g).fresh = true) :
    s.releaseSample g = s.released g := by
  rw [State.releaseSample_eq]
  refine if_pos ?_
  rcases h with h | h <;> simp [h]

theorem State.releaseSample_ends (hc : s.on (F.PWM_G_STAT_CUT g) = true) (hf : (s.grp g).fresh = false)
    (ht : andN (s.f (F.PWM_G_TRIPMAP_MAP g)) (s.f F.PWM_STAT_TRIPIN) = 0) :
    s.releaseSample g = (s.released g).setF (F.PWM_G_STAT_CUT g) 0 := by
  rw [State.releaseSample_eq, hc, hf, if_neg (by decide), if_pos ht]

theorem State.releaseSample_carries (hc : s.on (F.PWM_G_STAT_CUT g) = true) (hf : (s.grp g).fresh = false)
    (ht : andN (s.f (F.PWM_G_TRIPMAP_MAP g)) (s.f F.PWM_STAT_TRIPIN) ≠ 0) : s.releaseSample g =
    ((s.released g).count (F.PWM_G_TCARCNT g) (28 + g)).setF (F.PWM_G_STAT_TCARRIED g) 1 := by
  rw [State.releaseSample_eq, hc, hf, if_neg (by decide), if_neg ht]

/-- The fields of the release sample are apart. -/
theorem release_apart : ∀ g, g < 6 → keeps [F.PWM_G_TCARCNT g, F.PWM_G_STAT_TCARRIED g] (F.PWM_G_STAT_CUT g) = true ∧
    keeps [F.PWM_G_STAT_CUT g] (F.PWM_G_STAT_TCARRIED g) = true ∧
    (F.PWM_G_STAT_TCARRIED g).apart (F.PWM_G_TCARCNT g) = true ∧ (F.PWM_G_TCARCNT g).addr ∉ countRegs ∧
    (F.PWM_G_TCARCNT g).addr ≠ (F.PWM_G_STAT_CUT g).addr := by decide +kernel

/-- What the first valley after a cut does to it: without an input of its map active the cut ends, with one it is
carried over. -/
theorem State.releaseSample_cut (w : regsWf s.regs = true) (hg : g < 6) (hc : s.on (F.PWM_G_STAT_CUT g) = true)
    (hf : (s.grp g).fresh = false) :
    (andN (s.f (F.PWM_G_TRIPMAP_MAP g)) (s.f F.PWM_STAT_TRIPIN) = 0 →
      (s.releaseSample g).on (F.PWM_G_STAT_CUT g) = false ∧
      (s.releaseSample g).rd (F.PWM_G_TCARCNT g).addr = s.rd (F.PWM_G_TCARCNT g).addr ∧
      (s.releaseSample g).on (F.PWM_G_STAT_TCARRIED g) = s.on (F.PWM_G_STAT_TCARRIED g)) ∧
    (andN (s.f (F.PWM_G_TRIPMAP_MAP g)) (s.f F.PWM_STAT_TRIPIN) ≠ 0 →
      (s.releaseSample g).on (F.PWM_G_STAT_CUT g) = true ∧ (s.releaseSample g).on (F.PWM_G_STAT_TCARRIED g) = true ∧
      (s.releaseSample g).f (F.PWM_G_TCARCNT g) = min (s.f (F.PWM_G_TCARCNT g) + 1) (2 ^ 32 - 1)) := by
  obtain ⟨cut, carried, counter, outside, other⟩ := release_apart g hg
  have wr : regsWf (s.released g).regs = true := w
  constructor
  · intro ht
    rw [State.releaseSample_ends hc hf ht]
    have ends : Fields [F.PWM_G_STAT_CUT g] (s.released g) ((s.released g).setF (F.PWM_G_STAT_CUT g) 0) :=
      Fields.setF List.mem_cons_self rfl _ 0
    exact ⟨State.on_setF_same wr rfl rfl 0, State.rd_setF_ne _ _ other, ends.on wr carried⟩
  · intro ht
    rw [State.releaseSample_carries hc hf ht]
    have counts : Fields [F.PWM_G_TCARCNT g, F.PWM_G_STAT_TCARRIED g] (s.released g)
        ((s.released g).count (F.PWM_G_TCARCNT g) (28 + g)) := Fields.count List.mem_cons_self rfl _ _
    have shows : Fields [F.PWM_G_TCARCNT g, F.PWM_G_STAT_TCARRIED g] _
        (((s.released g).count (F.PWM_G_TCARCNT g) (28 + g)).setF (F.PWM_G_STAT_TCARRIED g) 1) :=
      Fields.setF (List.mem_cons_of_mem _ List.mem_cons_self) rfl _ 1
    exact ⟨((counts.trans shows).on wr cut).trans hc, State.on_setF_same (counts.wf wr) rfl rfl 1,
      (State.f_setF_apart (counts.wf wr) rfl counter 1).trans (State.f_count wr rfl outside _)⟩

/-! The state that a valley leaves. -/

/-- What a valley writes from its loads on. -/
def loadedFields (g : Nat) : List Fld := F.PWM_G_STAT_FORCED g :: loadsFields g

/-- The loads and FORCED leave what was sampled, and FORCED what was loaded. -/
theorem loaded_keep : ∀ g, g < 6 →
    (∀ y, y ∈ F.PWM_STAT_TRIPIN :: F.PWM_TRIPFLAG_FLAG :: rotatorFields g ++ releaseFields g →
      keeps (loadedFields g) y = true) ∧
    (∀ y, y ∈ loadsFields g → keeps [F.PWM_G_STAT_FORCED g] y = true) ∧
    (F.PWM_G_TCARCNT g).addr ∉ (loadedFields g).map Fld.addr ++ countRegs := by decide +kernel

theorem State.valleyHeld_fields (s : State) (g : Nat) (held : Bool) :
    Fields [F.PWM_G_STAT_FORCED g] s (s.valleyHeld g held) :=
  (Fields.setGrp _ s g (fun q => { q with live := !held })).trans (Fields.setF List.mem_cons_self rfl _ _)

theorem State.valleyHeld_pwm (s : State) (g : Nat) (held : Bool) :
    (s.valleyHeld g held).pwm = (s.setGrp g (fun q => { q with live := !held })).pwm := State.setF_pwm ..

theorem State.valley_after (s : State) (g lv : Nat) :
    Fields (loadedFields g) (s.valleySampled g lv) (s.valley g lv) := by
  rw [State.valley_eq]
  exact ((State.valleyLoaded_fields _ g).mono fun _ => List.mem_cons_of_mem _).trans
    ((State.valleyHeld_fields _ g _).mono fun _ h => List.mem_singleton.mp h ▸ List.mem_cons_self)

theorem loadedFields_valley {z : Fld} (h : z ∈ loadedFields g) : z ∈ valleyFields g := by
  simp only [loadedFields, valleyFields, List.mem_cons, List.mem_append] at h ⊢
  tauto

theorem State.valley_fields (s : State) (g lv : Nat) : Fields (valleyFields g) s (s.valley g lv) :=
  ((s.valleySampled_fields g lv).mono fun _ => sampledFields_valley).trans
    ((s.valley_after g lv).mono fun _ => loadedFields_valley)

theorem State.valleyLoaded_length (s : State) (g : Nat) :
    (s.valleyLoaded g).pwm.groups.length = s.pwm.groups.length :=
  sameIn.each (p := fun t => t.pwm.groups.length) (fun t x => t.valleyLoad_length g x _) [0, 1, 2] s

/-- R192, R195. -/
theorem State.valley_forced (w : regsWf s.regs = true) (hg : g < 6) (lv : Nat) :
    (s.valley g lv).on (F.PWM_G_STAT_FORCED g) = s.groupHeld g := by
  have wv := (State.valleyLoaded_fields _ g).wf ((s.valleySampled_fields g lv).wf w)
  have wl : regsWf (((s.valleySampled g lv).valleyLoaded g).setGrp g
      (fun q => { q with live := !(s.valleySampled g lv).groupHeld g })).regs = true := wv
  rw [State.valley_eq, State.valleyHeld, State.setB, State.on_setF_same wl rfl rfl, State.groupHeld_valleySampled w hg]
  cases s.groupHeld g <;> rfl

theorem State.valley_grp (len : g < s.pwm.groups.length) (lv : Nat) : (s.valley g lv).grp g =
    { ((s.valleySampled g lv).valleyLoaded g).grp g with live := !(s.valleySampled g lv).groupHeld g } := by
  rw [State.valley_eq, State.grp_of_pwm (State.valleyHeld_pwm _ g _),
    State.grp_setGrp_same (by rwa [State.valleyLoaded_length, State.valleySampled_length])]

theorem State.valley_length (s : State) (g lv : Nat) : (s.valley g lv).pwm.groups.length = s.pwm.groups.length := by
  rw [State.valley_eq, State.valleyHeld_pwm, State.setGrp_len, State.valleyLoaded_length, State.valleySampled_length]

/-- The group's own state after a valley, but for its phases. -/
theorem State.valley_noPh (w : regsWf s.regs = true) (len : g < s.pwm.groups.length) (hg : g < 6) (lv : Nat) :
    ((s.valley g lv).grp g).noPh = { (s.grp g).noPh with
      live := !s.groupHeld g, fresh := false, coasting := s.on (F.PWM_G_COAST_EN g) || (s.grp g).coasting,
      nextAngle := if s.on (F.PWM_G_COAST_EN g) then ((s.grp g).nextAngle + s.f (F.PWM_G_INC g)) % 2 ^ 32
        else (s.grp g).nextAngle } := by
  have loaded := State.valleyLoaded_noPh (s.valleySampled g lv) g
  rw [State.valleySampled_grp w len hg] at loaded
  rw [State.valley_grp len, State.groupHeld_valleySampled w hg]
  exact congrArg (fun q : Group => { q with live := !s.groupHeld g }) loaded

/-- Each phase is loaded as is due when the loads begin. -/
theorem State.valley_loaded (w : regsWf s.regs = true) (len : g < s.pwm.groups.length) (hg : g < 6) (hx : x < 3)
    (lv : Nat) : Loaded g x ((s.valleySampled g lv).loadDue g x ((s.valleySampled g lv).untested g))
      (s.valleySampled g lv) (s.valley g lv) := by
  obtain ⟨-, keep, -⟩ := loaded_keep g hg
  have wu := (s.valleySampled_fields g lv).wf w
  have load := State.valleyLoaded_loaded wu (by rwa [State.valleySampled_length]) hg hx
  have held := State.valleyHeld_fields ((s.valleySampled g lv).valleyLoaded g) g ((s.valleySampled g lv).groupHeld g)
  have wv := (State.valleyLoaded_fields _ g).wf wu
  have mem : ∀ y, y ∈ loadFields g x → y ∈ loadsFields g := fun y hy => List.mem_flatMap.mpr ⟨x, mem_phases hx, hy⟩
  obtain ⟨width, carry, high, low, -⟩ := mem_loadFields g x
  exact {
    width := (held.f wv (keep _ (mem _ width))).trans load.width
    carry := (held.f wv (keep _ (mem _ carry))).trans load.carry
    dropH := fun h => (congrArg (bit · x) (held.f wv (keep _ (mem _ high)))).trans (load.dropH h)
    dropL := fun h => (congrArg (bit · x) (held.f wv (keep _ (mem _ low)))).trans (load.dropL h)
    phase := by rw [State.valley_grp len]; exact load.phase }

theorem State.valley_count (w : regsWf s.regs = true) (hg : g < 6) (lv : Nat) :
    (s.valley g lv).f (F.PWM_G_DROPCNT g) = ((s.valleySampled g lv).valleyLoaded g).f (F.PWM_G_DROPCNT g) := by
  obtain ⟨-, keep, -⟩ := loaded_keep g hg
  have wv := (State.valleyLoaded_fields _ g).wf ((s.valleySampled_fields g lv).wf w)
  obtain ⟨-, -, -, -, count⟩ := mem_loadFields g 0
  exact (State.valleyHeld_fields _ g _).f wv (keep _ (List.mem_flatMap.mpr ⟨0, List.mem_cons_self, count⟩))

end Held

/-! ### What a valley loads -/

section Shown

variable {s t u : State} {g x lv : Nat} {y : Fld}

theorem ofI_small (i : Int) : ofI 12 i % 4096 = ofI 12 i := by
  unfold ofI
  omega

theorem State.valley_trips (w : regsWf s.regs = true) (hg : g < 6) (hl : lv < 2 ^ 8) :
    (s.valley g lv).f F.PWM_STAT_TRIPIN = lv ∧
    (s.valley g lv).f F.PWM_TRIPFLAG_FLAG = orN (s.f F.PWM_TRIPFLAG_FLAG) lv := by
  obtain ⟨keep, -⟩ := loaded_keep g hg
  have wu := (s.valleySampled_fields g lv).wf w
  obtain ⟨live, sticky⟩ := State.valleySampled_trips w hg hl
  exact ⟨((s.valley_after g lv).f wu (keep _ (by simp))).trans live,
    ((s.valley_after g lv).f wu (keep _ (by simp))).trans sticky⟩

/-- The loads leave the cut. -/
theorem State.valley_on (w : regsWf s.regs = true) (hg : g < 6) (lv : Nat)
    (hy : y ∈ rotatorFields g ++ releaseFields g) :
    (s.valley g lv).on y = (s.valleySampled g lv).on y ∧ (s.valley g lv).f y = (s.valleySampled g lv).f y := by
  obtain ⟨keep, -⟩ := loaded_keep g hg
  have wu := (s.valleySampled_fields g lv).wf w
  have kept := keep y (List.mem_cons_of_mem _ (List.mem_cons_of_mem _ hy))
  exact ⟨(s.valley_after g lv).on wu kept, (s.valley_after g lv).f wu kept⟩

theorem cut_mem (g : Nat) : F.PWM_G_STAT_CUT g ∈ rotatorFields g ++ releaseFields g := by simp [releaseFields]

theorem State.valley_untested (w : regsWf s.regs = true) (hg : g < 6) (lv : Nat) :
    (s.valleySampled g lv).untested g = (s.groupQuiet g || (s.valley g lv).on (F.PWM_G_STAT_CUT g)) := by
  rw [State.untested, State.groupQuiet_valleySampled w hg, (State.valley_on w hg lv (cut_mem g)).1]

/-- No drop test: the carries are 0 (R190, R194). -/
theorem State.valley_carry (w : regsWf s.regs = true) (len : g < s.pwm.groups.length) (hg : g < 6) (hx : x < 3)
    (h : (s.groupQuiet g || (s.valley g lv).on (F.PWM_G_STAT_CUT g)) = true) : (s.valley g lv).carry g x = 0 := by
  have load := State.valley_loaded w len hg hx lv
  rw [State.valley_untested w hg, h] at load
  unfold State.carry
  rw [load.carry]
  rfl

/-- Without the rotator the compare buffer is as the masters left it. -/
theorem State.valleySampled_compare (w : regsWf s.regs = true) (hg : g < 6) (hx : x < 3)
    (hc : s.on (F.PWM_G_COAST_EN g) = false) (lv : Nat) :
    (s.valleySampled g lv).f (F.PWM_G_CMP_WIDTH g x) = s.f (F.PWM_G_CMP_WIDTH g x) := by
  obtain ⟨-, -, -, -, -, -, keep⟩ := sampled_keep g hg
  have coast := ((s.tripsSampled_sampled g lv).readsOn w hg (y := F.PWM_G_COAST_EN g) (by simp [valleyReads])).trans hc
  have trips : Fields (tripFields ++ releaseFields g) s (s.tripsSampled g lv) :=
    (s.tripsSampled_fields g lv).mono fun _ => List.mem_append_left _
  have release : Fields (tripFields ++ releaseFields g) (s.tripsSampled g lv) (s.valleySampled g lv) := by
    rw [State.valleySampled_eq, State.rotatedSample, State.rotate_off coast]
    exact (State.releaseSample_fields _ g).mono fun _ => List.mem_append_right _
  exact (trips.trans release).f w (keep x hx)

theorem State.valleySampled_loadDue (w : regsWf s.regs = true) (len : g < s.pwm.groups.length) (hg : g < 6) (hx : x < 3)
    (hc : s.on (F.PWM_G_COAST_EN g) = false) (lv : Nat) (quiet : Bool) :
    (s.valleySampled g lv).loadDue g x quiet = s.loadDue g x quiet := by
  obtain ⟨-, -, -, -, keep, -⟩ := sampled_keep g hg
  have fields := s.valleySampled_fields g lv
  refine State.loadDue_of (State.valleySampled_np w len hg lv) (fun y hy => ?_) quiet
  simp only [loadReads, List.mem_cons, List.not_mem_nil, or_false] at hy
  rcases hy with rfl | rfl | rfl | rfl | rfl | rfl
  · exact fields.f w (keep x hx)
  · exact State.valleySampled_compare w hg hx hc lv
  all_goals exact fields.reads w hg (by simp [valleyReads])

/-- Without the rotator a valley loads what was due when it came. -/
theorem State.valley_loadedDue (w : regsWf s.regs = true) (len : g < s.pwm.groups.length) (hg : g < 6) (hx : x < 3)
    (hc : s.on (F.PWM_G_COAST_EN g) = false) (lv : Nat) :
    Loaded g x (s.loadDue g x (s.groupQuiet g || (s.valley g lv).on (F.PWM_G_STAT_CUT g))) (s.valleySampled g lv)
      (s.valley g lv) := by
  have load := State.valley_loaded w len hg hx lv
  rwa [State.valley_untested w hg, State.valleySampled_loadDue w len hg hx hc] at load

theorem clampI_toNat_of_le {n m : Nat} (h : n ≤ m) : (clampI 0 m n).toNat = n := by
  unfold clampI
  split_ifs <;> omega

/-- Nothing is carried: the width is the compare buffer's, limited to the period (R178). -/
theorem State.loadDue_plain {quiet : Bool} (h : quiet = true ∨ s.on (F.PWM_G_CFG_CARRY g) = false) :
    (s.loadDue g x quiet).w = min (s.f (F.PWM_G_CMP_WIDTH g x)) (s.np g) := by
  cases quiet with
  | true => rfl
  | false =>
    have off := h.resolve_left Bool.false_ne_true
    have due : (s.loadDue g x false).w = s.widthDue g x := rfl
    rw [due, State.widthDue, off, if_neg Bool.false_ne_true, Int.add_zero]
    exact clampI_toNat_of_le (Nat.min_le_right _ _)

theorem State.valley_width (w : regsWf s.regs = true) (len : g < s.pwm.groups.length) (hg : g < 6) (hx : x < 3)
    (hc : s.on (F.PWM_G_COAST_EN g) = false) (h : s.groupQuiet g = true ∨ s.on (F.PWM_G_CFG_CARRY g) = false)
    (lv : Nat) :
    (s.valley g lv).f (F.PWM_G_ACT_WIDTH g x) = min (s.f (F.PWM_G_CMP_WIDTH g x)) (s.np g) % 65536 := by
  rw [(State.valley_loadedDue w len hg hx hc lv).width, State.loadDue_plain]
  exact h.imp_left fun quiet => by rw [quiet, Bool.true_or]

/-- The drop test of R181 for a pulse and a gap that the period holds. -/
theorem Load.tested_drops {w np th : Nat} {carryOn : Bool} (h : 2 * th ≤ np) :
    (Load.tested w np th carryOn).dropH = decide (0 < w ∧ w < th) ∧
    (Load.tested w np th carryOn).dropL = decide (np < w + th ∧ w < np) ∧
    (Load.tested w np th carryOn).carry = ofI 12 (if carryOn = false then 0
      else if (Load.tested w np th carryOn).dropH then w
      else if (Load.tested w np th carryOn).dropL then (w : Int) - np else 0) := by
  refine ⟨(Bool.decide_and _ _).symm, ?_, ?_⟩
  · unfold Load.tested
    dsimp only
    rw [Bool.eq_iff_iff]
    simp only [Bool.and_eq_true, Bool.not_eq_true', Bool.and_eq_false_iff, decide_eq_true_eq, decide_eq_false_iff_not]
    omega
  · cases carryOn <;> rfl

/-- A width too short or too long drops its pulse and is carried (R181, R182). -/
theorem State.valley_tested (w : regsWf s.regs = true) (len : g < s.pwm.groups.length) (hg : g < 6) (hx : x < 3)
    (hc : s.on (F.PWM_G_COAST_EN g) = false) (hq : s.groupQuiet g = false)
    (hcut : (s.valley g lv).on (F.PWM_G_STAT_CUT g) = false) :
    Loaded g x (.tested (s.widthDue g x) (s.np g) (s.f (F.PWM_G_DEADTIME_DT g) + s.f (F.PWM_G_DEADTIME_MINP g))
      (s.on (F.PWM_G_CFG_CARRY g))) (s.valleySampled g lv) (s.valley g lv) := by
  have load := State.valley_loadedDue w len hg hx hc lv
  rw [hq, hcut] at load
  exact load

/-- The phase as the drop test leaves it. -/
theorem State.valley_phase (w : regsWf s.regs = true) (len : g < s.pwm.groups.length) (hg : g < 6) (hx : x < 3)
    (hc : s.on (F.PWM_G_COAST_EN g) = false) (hq : s.groupQuiet g = false)
    (hcut : (s.valley g lv).on (F.PWM_G_STAT_CUT g) = false) {p : Phase} (hp : (s.grp g).ph[x]? = some p) {weff : Nat}
    (hw : weff = s.widthDue g x) {th : Nat} (ht : th = s.f (F.PWM_G_DEADTIME_DT g) + s.f (F.PWM_G_DEADTIME_MINP g))
    (hth : 2 * th ≤ s.np g) :
    ∃ q, ((s.valley g lv).grp g).ph[x]? = some q ∧ (s.valley g lv).f (F.PWM_G_ACT_WIDTH g x) = weff % 65536 ∧
      q.r = (s.np g / 2 : Nat) - ((weff + 1) / 2 : Nat) ∧ q.f = (s.np g / 2 : Nat) + (weff / 2 : Nat) ∧
      q.dropH = decide (0 < weff ∧ weff < th) ∧ q.dropL = decide (s.np g < weff + th ∧ weff < s.np g) ∧
      (q.dropH = true → bit ((s.valley g lv).f (F.PWM_G_STAT_DROPH g)) x = true) ∧
      (q.dropL = true → bit ((s.valley g lv).f (F.PWM_G_STAT_DROPL g)) x = true) ∧
      (s.valley g lv).f (F.PWM_G_ACT_CARRY g x) = ofI 12 (if s.on (F.PWM_G_CFG_CARRY g) = false then 0
        else if q.dropH then weff else if q.dropL then (weff : Int) - s.np g else 0) := by
  obtain ⟨high, low, carry⟩ := Load.tested_drops (w := weff) (carryOn := s.on (F.PWM_G_CFG_CARRY g)) hth
  have load := State.valley_tested (lv := lv) w len hg hx hc hq hcut
  rw [← hw, ← ht] at load
  have phase := load.phase
  rw [State.valleySampled_grp w len hg, State.valleySampled_np w len hg] at phase
  dsimp only at phase
  rw [List.getElem?_map, hp] at phase
  refine ⟨_, phase, load.width, rfl, rfl, high, low, load.dropH, load.dropL, ?_⟩
  rw [load.carry, carry, ofI_small]
  rfl

end Shown

/-! ### The cut, the drops and the rotator at a valley -/

section Outcome

variable {s t u : State} {g x lv : Nat} {y : Fld}

/-- What the release sample of a valley finds. -/
theorem State.rotatedSample_found (w : regsWf s.regs = true) (len : g < s.pwm.groups.length) (hg : g < 6)
    (hl : lv < 2 ^ 8) :
    Fields (tripFields ++ rotatorFields g) s (s.rotatedSample g lv) ∧
    ((s.rotatedSample g lv).grp g).fresh = (s.grp g).fresh ∧
    andN ((s.rotatedSample g lv).f (F.PWM_G_TRIPMAP_MAP g)) ((s.rotatedSample g lv).f F.PWM_STAT_TRIPIN) =
      andN (s.f (F.PWM_G_TRIPMAP_MAP g)) lv := by
  obtain ⟨keep, -⟩ := sampled_keep g hg
  have map := (s.rotatedSample_sampled g lv).reads w hg (y := F.PWM_G_TRIPMAP_MAP g) (by simp [valleyReads])
  have wt : regsWf (s.turned g).regs = true := w
  obtain ⟨live, -⟩ := State.tripLevels_bits wt hl
  have levels := ((State.rotate_fields (s.tripsSampled g lv) g).f ((s.tripsSampled_fields g lv).wf w)
    (keeps_mono (fun _ => List.mem_append_left _) (keep F.PWM_STAT_TRIPIN (by simp)))).trans live
  refine ⟨((s.tripsSampled_fields g lv).mono fun _ => List.mem_append_left _).trans
    ((State.rotate_fields _ g).mono fun _ => List.mem_append_right _), ?_, ?_⟩
  · rw [State.rotatedSample_grp w len hg]
  · exact congrArg₂ andN map levels

theorem State.valley_tcarcnt (hg : g < 6) : (s.valley g lv).rd (F.PWM_G_TCARCNT g).addr =
    (s.valleySampled g lv).rd (F.PWM_G_TCARCNT g).addr :=
  (s.valley_after g lv).regs _ (loaded_keep g hg).2.2

/-- A cut that begins in this clock, or none, stays as it is (R188). -/
theorem State.valley_cutStill (w : regsWf s.regs = true) (len : g < s.pwm.groups.length) (hg : g < 6) (hl : lv < 2 ^ 8)
    (h : s.on (F.PWM_G_STAT_CUT g) = false ∨ (s.grp g).fresh = true) :
    (s.valley g lv).on (F.PWM_G_STAT_CUT g) = s.on (F.PWM_G_STAT_CUT g) ∧
    (s.valley g lv).rd (F.PWM_G_TCARCNT g).addr = s.rd (F.PWM_G_TCARCNT g).addr := by
  obtain ⟨fields, fresh, -⟩ := State.rotatedSample_found w len hg hl
  obtain ⟨-, -, keep, counter, -⟩ := sampled_keep g hg
  have cut := fields.on w (keep (F.PWM_G_STAT_CUT g) (by simp [releaseFields]))
  have still := State.releaseSample_still (s := s.rotatedSample g lv) (g := g) (by rwa [cut, fresh])
  rw [(State.valley_on w hg lv (cut_mem g)).1, State.valley_tcarcnt hg, State.valleySampled_eq, still,
    State.released_on, State.released_rd]
  exact ⟨cut, fields.regs _ counter⟩

/-- R187, R188, R190. -/
theorem State.valley_cut (w : regsWf s.regs = true) (len : g < s.pwm.groups.length) (hg : g < 6) (hl : lv < 2 ^ 8)
    (hc : s.on (F.PWM_G_STAT_CUT g) = true) (hf : (s.grp g).fresh = false) :
    (andN (s.f (F.PWM_G_TRIPMAP_MAP g)) lv = 0 → (s.valley g lv).on (F.PWM_G_STAT_CUT g) = false ∧
      (s.valley g lv).rd (F.PWM_G_TCARCNT g).addr = s.rd (F.PWM_G_TCARCNT g).addr ∧
      (s.valley g lv).on (F.PWM_G_STAT_TCARRIED g) = s.on (F.PWM_G_STAT_TCARRIED g)) ∧
    (andN (s.f (F.PWM_G_TRIPMAP_MAP g)) lv ≠ 0 → (s.valley g lv).on (F.PWM_G_STAT_CUT g) = true ∧
      (s.valley g lv).on (F.PWM_G_STAT_TCARRIED g) = true ∧
      (s.valley g lv).f (F.PWM_G_TCARCNT g) = min (s.f (F.PWM_G_TCARCNT g) + 1) (2 ^ 32 - 1)) := by
  obtain ⟨fields, fresh, trips⟩ := State.rotatedSample_found w len hg hl
  obtain ⟨-, -, keep, counter, -⟩ := sampled_keep g hg
  have cut := fields.on w (keep (F.PWM_G_STAT_CUT g) (by simp [releaseFields]))
  have carried := fields.on w (keep (F.PWM_G_STAT_TCARRIED g) (by simp [releaseFields]))
  have count := fields.f w (keep (F.PWM_G_TCARCNT g) (by simp [releaseFields]))
  have sample := State.releaseSample_cut (fields.wf w) hg (cut.trans hc) (fresh.trans hf)
  rwa [trips, carried, count, fields.regs _ counter, ← State.valleySampled_eq,
    ← (State.valley_on w hg lv (cut_mem g)).1, ← State.valley_tcarcnt hg,
    ← (State.valley_on w hg lv (y := F.PWM_G_STAT_TCARRIED g) (by simp [releaseFields])).1,
    ← (State.valley_on w hg lv (y := F.PWM_G_TCARCNT g) (by simp [releaseFields])).2] at sample

/-- The rotator's widths at a valley (R197, R198). -/
theorem State.valley_rotated (w : regsWf s.regs = true) (len : g < s.pwm.groups.length) (hg : g < 6)
    (hc : s.on (F.PWM_G_COAST_EN g) = true) (lv : Nat) :
    (s.valley g lv).on (F.PWM_G_STAT_COASTING g) = true ∧
    (s.valley g lv).f (F.PWM_G_ANGLE g) = (s.grp g).nextAngle % 2 ^ 32 ∧
    ∀ x, x < 3 → (s.valley g lv).f (F.PWM_G_CMP_WIDTH g x) = (rotatorWidths (s.grp g).nextAngle
      (s.fi (F.PWM_G_VDQ_VD g)) (s.fi (F.PWM_G_VDQ_VQ g)) (s.np g)).1.getD x 0 % 65536 := by
  obtain ⟨-, keep, -⟩ := sampled_keep g hg
  have trips := s.tripsSampled_sampled g lv
  have coast := (trips.readsOn w hg (y := F.PWM_G_COAST_EN g) (by simp [valleyReads])).trans hc
  have vd := trips.reads w hg (y := F.PWM_G_VDQ_VD g) (by simp [valleyReads])
  have vq := trips.reads w hg (y := F.PWM_G_VDQ_VQ g) (by simp [valleyReads])
  obtain ⟨coasting, angle, -, widths⟩ := State.rotated_shows (trips.wf w) hg
  have rotated : (s.rotatedSample g lv).regs = ((s.tripsSampled g lv).rotated g).regs := by
    unfold State.rotatedSample
    rw [State.rotate_on coast, State.setGrp_regs]
  have wr := (s.rotatedSample_sampled g lv).wf w
  have mem : ∀ y, y ∈ rotatorFields g → y ∈ rotatorFields g ++ releaseFields g := fun y => List.mem_append_left _
  have kept : ∀ y, y ∈ rotatorFields g → (s.valley g lv).f y = ((s.tripsSampled g lv).rotated g).f y := fun y hy =>
    ((State.valley_on w hg lv (mem y hy)).2.trans
      ((State.releaseSample_fields (s.rotatedSample g lv) g).f wr (keep y hy))).trans (State.f_of_regs rotated y)
  refine ⟨?_, ?_, fun x hx => ?_⟩
  · unfold State.on at coasting ⊢
    rwa [kept _ (by simp [rotatorFields])]
  · rw [kept _ (by simp [rotatorFields]), angle, State.tripsSampled_grp len]
  · have width : F.PWM_G_CMP_WIDTH g x ∈ rotatorFields g := by
      have := mem_phases hx
      simp only [List.mem_cons, List.not_mem_nil, or_false] at this
      rcases this with rfl | rfl | rfl <;> simp [rotatorFields]
    rw [kept _ width, widths x hx, State.tripsSampled_grp len, State.tripsSampled_np w hg]
    unfold State.fi
    rw [vd, vq]

/-- A phase drops a pulse. -/
def Phase.drops (q : Phase) : Nat := b2n (q.dropH || q.dropL)

theorem Phase.drops_loaded (p : Phase) (l : Load) (np : Nat) : (p.loaded l np).drops = l.drops := rfl

theorem sum_three {f : Phase → Nat} {qs : List Phase} {a b c : Nat} (len : qs.length = 3)
    (h₀ : qs[0]?.map f = some a) (h₁ : qs[1]?.map f = some b) (h₂ : qs[2]?.map f = some c) :
    (qs.map f).sum = a + b + c := by
  obtain ⟨p, q, r, rfl⟩ := List.length_eq_three.mp len
  simp only [List.getElem?_cons_zero, List.getElem?_cons_succ, Option.map_some, Option.some.injEq] at h₀ h₁ h₂
  subst h₀ h₁ h₂
  simp [Nat.add_assoc]

/-- The drops of a valley are counted, one for each phase that has one (R181). -/
theorem State.valley_drops (w : regsWf s.regs = true) (len : g < s.pwm.groups.length) (hg : g < 6)
    (phases : (s.grp g).ph.length = 3) (lv : Nat) : (s.valley g lv).f (F.PWM_G_DROPCNT g) =
      min (s.f (F.PWM_G_DROPCNT g) + (((s.valley g lv).grp g).ph.map Phase.drops).sum) (2 ^ 32 - 1) := by
  have wu := (s.valleySampled_fields g lv).wf w
  obtain ⟨-, -, -, -, -, keep, -⟩ := sampled_keep g hg
  have count := (s.valleySampled_fields g lv).f w keep
  have each : ∀ x, x < 3 → ((s.valley g lv).grp g).ph[x]?.map Phase.drops =
      some ((s.valleySampled g lv).loadDue g x ((s.valleySampled g lv).untested g)).drops := fun x hx => by
    have phase := (State.valley_loaded w len hg hx lv).phase
    have some : x < ((s.valleySampled g lv).grp g).ph.length := by
      rw [State.valleySampled_grp w len hg, List.length_map, phases]
      exact hx
    rw [phase, List.getElem?_eq_getElem some, Option.map_map]
    exact congrArg Option.some (Phase.drops_loaded _ _ _)
  have three : ((s.valley g lv).grp g).ph.length = 3 := by
    rw [State.valley_grp len]
    exact (State.valleyLoaded_phases _ g).trans (by rw [State.valleySampled_grp w len hg, List.length_map, phases])
  rw [State.valley_count w hg, State.valleyLoaded_count wu hg, count,
    sum_three three (each 0 (by decide)) (each 1 (by decide)) (each 2 (by decide))]

end Outcome

/-! ### CARRIER_VALLEY -/

section ValleyCommand

variable {s t u : State} {g x lv : Nat} {y : Fld} {p : Nat → Bool} {e : Option Nat}

theorem State.trigRaise_pwm : (s.trigRaise p e).pwm = s.pwm := rfl

/-- The valley of group `g` raises the triggers that name it (R150). -/
def State.valleyRaised (s : State) (g : Nat) : State :=
  s.trigRaise (s.carrierSrc g 2) (some (s.carrierClock g 0 (s.grp g).valleys))

/-- The valley is counted, and cuts at PWM clock 0 follow it (R288). -/
def State.valleyCounted (s : State) (g : Nat) (zero : Bool) : State :=
  if zero then (s.setGrp g (fun q => { q with clk0 := false, valleys := q.valleys + 1 })).cutAtZero g
  else s.setGrp g (fun q => { q with clk0 := false, valleys := q.valleys + 1 })

theorem exec_carrierValley {g : Fin 6} {trips : BitVec 8} (on : s.pwmOn = true) : exec (.carrierValley g trips) s =
    .next (((s.valleyRaised g).valley g trips.toNat).valleyCounted g ((s.grp g).clk0 && (s.grp g).phase == 0)) := by
  change Host.Outcome.next (if s.pwmOn then _ else s) = _
  rw [if_pos on]
  rfl

theorem State.valleyCounted_regs (s : State) (g : Nat) (zero : Bool) : (s.valleyCounted g zero).regs = s.regs := by
  unfold State.valleyCounted
  cases zero <;> rfl

theorem State.valleyCounted_mem (s : State) (g : Nat) (zero : Bool) : (s.valleyCounted g zero).mem = s.mem := by
  unfold State.valleyCounted
  cases zero <;> rfl

theorem State.valleyCounted_adc (s : State) (g : Nat) (zero : Bool) : (s.valleyCounted g zero).adc = s.adc := by
  unfold State.valleyCounted
  cases zero <;> rfl

theorem State.valleyCounted_rd (s : State) (g : Nat) (zero : Bool) (a : Nat) :
    (s.valleyCounted g zero).rd a = s.rd a := by
  rw [State.rd_eq, State.rd_eq, State.valleyCounted_regs]

theorem State.valleyCounted_f (s : State) (g : Nat) (zero : Bool) (y : Fld) :
    (s.valleyCounted g zero).f y = s.f y := State.f_of_regs (s.valleyCounted_regs g zero) y

theorem State.valleyCounted_on (s : State) (g : Nat) (zero : Bool) (y : Fld) :
    (s.valleyCounted g zero).on y = s.on y := State.on_of_regs (s.valleyCounted_regs g zero) y

theorem State.valleyCounted_carry (s : State) (g : Nat) (zero : Bool) (x : Nat) :
    (s.valleyCounted g zero).carry g x = s.carry g x := congrArg (toS 12) (s.valleyCounted_f g zero _)

theorem State.valleyCounted_grp (len : g < s.pwm.groups.length) (zero : Bool) : (s.valleyCounted g zero).grp g =
    { s.grp g with clk0 := false, valleys := (s.grp g).valleys + 1 } := by
  have counted := State.grp_setGrp_same len (fun q => { q with clk0 := false, valleys := q.valleys + 1 })
  unfold State.valleyCounted
  cases zero
  · exact counted
  · exact counted

theorem pwmOnly.adc (h : pwmOnly s t) : t.adc = s.adc := sameIn.field h State.adc

/-- Where a valley writes: in PWM and the Ledger, and no width of another group. -/
theorem valleyFields_inside : ∀ g, g < 6 → ∀ a, a ∈ (valleyFields g).map Fld.addr ++ countRegs →
    0x40040000 ≤ a ∧ a < 0x40050000 ∨ a ∈ countRegs := by decide +kernel

theorem valleyFields_other : ∀ g, g < 6 → ∀ h, h < 6 → h = g ∨ ∀ x, x < 3 →
    (F.PWM_G_CMP_WIDTH h x).addr ∉ (valleyFields g).map Fld.addr ++ countRegs ∧
    (F.PWM_G_ACT_WIDTH h x).addr ∉ (valleyFields g).map Fld.addr ++ countRegs := by decide +kernel

/-- A valley writes nothing outside PWM and the Ledger. -/
theorem State.valley_outside (hg : g < 6) (s : State) (lv : Nat) : outsidePwm s (s.valley g lv) := by
  refine ⟨fun a ha hc => (s.valley_fields g lv).regs a fun h => ?_, sameMem.ofMem (s.valley_fields g lv).rest.mem⟩
  rcases valleyFields_inside g hg a h with inside | counter
  · omega
  · exact hc counter

/-- The triggers that name the valley, and no other, are raised (R150). -/
theorem State.valley_triggers {n : Nat} (seqs : s.adc.seqs.length = 8) (hn : n < 8) (g lv : Nat) :
    (((s.valleyRaised g).valley g lv).iseq n).req = if s.carrierSrc g 2 n = true then (s.iseq n).req ++
      [some ((s.carrierClock g 0 (s.grp g).valleys + s.f (F.SEQ_IS_CFG_DELAY n) : Nat) : Int)] else (s.iseq n).req := by
  have raised := State.iseq_trigRaise seqs hn (s.carrierSrc g 2) (s.carrierClock g 0 (s.grp g).valleys)
  rw [State.iseq_of_adc (State.valley_fields _ g lv).rest.adc, State.valleyRaised, raised]
  split <;> rfl

end ValleyCommand

/-! ### CARRIER_PEAK, PEAK_WIDTH_COPY and GP_PERIOD_START -/

section Peak

variable {s t u : State} {g x v : Nat} {l m : List Fld}

/-- The load of a phase at a peak (R178). -/
def State.peakLoad (s : State) (g x : Nat) : State :=
  (s.setF (F.PWM_G_ACT_WIDTH g x) (min (s.f (F.PWM_G_CMP_WIDTH g x)) (s.np g))).setPh g x (fun p =>
    { p with f := ((s.np g / 2 : Nat) : Int) + (min (s.f (F.PWM_G_CMP_WIDTH g x)) (s.np g) / 2 : Nat) })

/-- From `s` to `t` no phase of group `g` but `x` is loaded at a peak. -/
structure PeakKept (g x : Nat) (s t : State) : Prop where
  regs : Fields (([0, 1, 2].filter (· != x)).map (F.PWM_G_ACT_WIDTH g)) s t
  runs : t.runsAt g = s.runsAt g

theorem PeakKept.refl (g x : Nat) (s : State) : PeakKept g x s s := ⟨Fields.refl _ s, rfl⟩

theorem PeakKept.trans (h : PeakKept g x s t) (k : PeakKept g x t u) : PeakKept g x s u :=
  ⟨h.regs.trans k.regs, k.runs.trans h.runs⟩

theorem peak_keep : ∀ g, g < 6 → ∀ x, x < 3 → ∀ y,
    y ∈ [F.PWM_G_ACT_WIDTH g x, F.PWM_G_CMP_WIDTH g x, F.CRT_FRAMECFG_NF] →
    keeps (([0, 1, 2].filter (· != x)).map (F.PWM_G_ACT_WIDTH g)) y = true := by decide +kernel

theorem State.peakLoad_fields (s : State) (g x : Nat) : Fields [F.PWM_G_ACT_WIDTH g x] s (s.peakLoad g x) := by
  unfold State.peakLoad State.setPh
  exact (Fields.setF List.mem_cons_self rfl s _).trans (Fields.setGrp _ _ g _)

theorem State.peakLoad_runsAt (s : State) (g x : Nat) : (s.peakLoad g x).runsAt g = s.runsAt g := by
  unfold State.peakLoad State.setPh
  rw [State.runsAt_setGrp, State.runsAt_of_pwm (State.setF_pwm ..)]
  exact fun _ => ⟨rfl, rfl⟩

theorem State.peakLoad_width (w : regsWf s.regs = true) (g x : Nat) : (s.peakLoad g x).f (F.PWM_G_ACT_WIDTH g x) =
    min (s.f (F.PWM_G_CMP_WIDTH g x)) (s.np g) % 65536 := by
  unfold State.peakLoad State.setPh
  rw [State.setGrp_f]
  exact State.f_setF_same w rfl _

/-- The loads of a peak, limited to the period (R178). -/
theorem State.peakLoads_width (w : regsWf s.regs = true) (hg : g < 6) (hx : x < 3) :
    (s.each [0, 1, 2] (fun t x => t.peakLoad g x)).f (F.PWM_G_ACT_WIDTH g x) =
      min (s.f (F.PWM_G_CMP_WIDTH g x)) (s.np g) % 65536 := by
  obtain ⟨u, before, after⟩ := State.each_visit (R := PeakKept g x) (PeakKept.refl g x) (fun _ _ _ => PeakKept.trans)
    (f := fun t x => t.peakLoad g x) (mem_phases hx) (by decide)
    (fun t k hk h => ⟨(t.peakLoad_fields g k).mono fun z hz => List.mem_singleton.mp hz ▸
      List.mem_map_of_mem (List.mem_filter.mpr ⟨hk, by simpa using h⟩), t.peakLoad_runsAt g k⟩) s
  have keep := peak_keep g hg x hx
  have wu := before.regs.wf w
  have np := State.np_of (before.regs.f w (keep F.CRT_FRAMECFG_NF (by simp))) before.runs
  rw [after.regs.f ((u.peakLoad_fields g x).wf wu) (keep _ (by simp)), State.peakLoad_width wu,
    before.regs.f w (keep (F.PWM_G_CMP_WIDTH g x) (by simp)), np]

theorem State.peakLoad_same (s : State) (g x : Nat) : sameRegs s (s.peakLoad g x) [(F.PWM_G_ACT_WIDTH g x).addr] := by
  unfold State.peakLoad State.setPh
  exact (sameRegs.setF s _ List.mem_cons_self).trans (sameRegs.ofRegs (State.setGrp_regs ..))

theorem State.peakLoads_same (s : State) (g : Nat) : sameRegs s (s.each [0, 1, 2] (fun t x => t.peakLoad g x))
    [(F.PWM_G_ACT_WIDTH g 0).addr, (F.PWM_G_ACT_WIDTH g 1).addr, (F.PWM_G_ACT_WIDTH g 2).addr] := by
  refine sameRegs.each_of_mem (fun x hx t => (t.peakLoad_same g x).mono fun a ha => ?_) s
  rw [List.mem_singleton.mp ha]
  exact List.mem_map_of_mem (f := fun x => (F.PWM_G_ACT_WIDTH g x).addr) hx

theorem State.peakLoads_rest (s : State) (g : Nat) : pwmOnly s (s.each [0, 1, 2] (fun t x => t.peakLoad g x)) :=
  sameIn.each (fun t x => (t.peakLoad_fields g x).rest) _ s

/-- The peak of group `g` raises the triggers that name it (R150), and is counted. -/
def State.peakRaised (s : State) (g : Nat) : State :=
  (s.trigRaise (s.carrierSrc g 3) (some (s.carrierClock g (s.np g / 2) (s.grp g).peaks))).setGrp g
    (fun q => { q with peaks := q.peaks + 1 })

theorem exec_carrierPeak {g : Fin 6} (on : s.pwmOn = true) : exec (.carrierPeak g) s =
    .next (if (s.peakRaised g).on (F.PWM_G_CFG_LOAD g) then (s.peakRaised g).each [0, 1, 2] (fun t x => t.peakLoad g x)
      else s.peakRaised g) := by
  change Host.Outcome.next (if s.pwmOn then _ else s) = _
  rw [if_pos on]
  rfl

theorem State.peakRaised_np (s : State) (g : Nat) : (s.peakRaised g).np g = s.np g :=
  State.np_of rfl (by
    unfold State.peakRaised
    rw [State.runsAt_setGrp]
    · rfl
    · exact fun _ => ⟨rfl, rfl⟩)

/-- CARRIER_PEAK (R150, R178). -/
theorem carrierPeak_acts {g : Fin 6} (hs : s.wf = true) (seqs : s.adc.seqs.length = 8) (on : s.pwmOn = true) :
    ∃ t, exec (.carrierPeak g) s = .next t ∧
      (s.on (F.PWM_G_CFG_LOAD g) = true →
        ∀ x, x < 3 → t.f (F.PWM_G_ACT_WIDTH g x) = min (s.f (F.PWM_G_CMP_WIDTH g x)) (s.np g) % 65536) ∧
      (s.on (F.PWM_G_CFG_LOAD g) = false → sameRegs s t []) ∧
      (∀ n, n < 8 → (t.iseq n).req = if s.carrierSrc g 3 n = true then (s.iseq n).req ++
        [some ((s.carrierClock g (s.np g / 2) (s.grp g).peaks + s.f (F.SEQ_IS_CFG_DELAY n) : Nat) : Int)]
        else (s.iseq n).req) ∧
      sameRegs s t [(F.PWM_G_ACT_WIDTH g 0).addr, (F.PWM_G_ACT_WIDTH g 1).addr, (F.PWM_G_ACT_WIDTH g 2).addr] ∧
      sameMem s t := by
  have w : regsWf (s.peakRaised g).regs = true := State.wf_regs hs
  have raised : ∀ n, n < 8 → ((s.peakRaised g).iseq n).req = if s.carrierSrc g 3 n = true then (s.iseq n).req ++
      [some ((s.carrierClock g (s.np g / 2) (s.grp g).peaks + s.f (F.SEQ_IS_CFG_DELAY n) : Nat) : Int)]
      else (s.iseq n).req := fun n hn => by
    have seq := State.iseq_trigRaise seqs hn (s.carrierSrc g 3) (s.carrierClock g (s.np g / 2) (s.grp g).peaks)
    rw [State.peakRaised, State.iseq_of_adc (State.setGrp_adc ..), seq]
    split <;> rfl
  have regs : ∀ l, sameRegs s (s.peakRaised g) l := fun l => sameRegs.ofRegs rfl
  have mem : (s.peakRaised g).mem = s.mem := rfl
  refine ⟨_, exec_carrierPeak on, ?_⟩
  cases load : s.on (F.PWM_G_CFG_LOAD g) with
  | false =>
    rw [if_neg (by rw [show (s.peakRaised g).on _ = _ from load]; decide)]
    exact ⟨fun h => absurd h Bool.false_ne_true, fun _ => regs _, raised, regs _, sameMem.ofMem mem⟩
  | true =>
    rw [if_pos (show (s.peakRaised g).on _ = _ from load)]
    have rest := (s.peakRaised g).peakLoads_rest g
    refine ⟨fun _ x hx => ?_, fun h => absurd h.symm Bool.false_ne_true, fun n hn => ?_,
      (regs _).trans (State.peakLoads_same _ g), sameMem.ofMem (rest.mem.trans mem)⟩
    · rw [State.peakLoads_width w g.isLt hx, State.peakRaised_np]
      rfl
    · rw [State.iseq_of_adc rest.adc, raised n hn]

end Peak

section Copy

variable {s t u : State} {d x v : Nat}

/-- The pattern of a peak is taken. -/
def State.patternTaken (s : State) (d : Nat) : State := s.setDrv d (fun x => { x with peakWait := none })

theorem exec_peakWidthCopy {d : Fin 6} {ws : List Nat} (h : (s.drv d).peakWait = some ws) :
    exec (.peakWidthCopy d) s =
      .next ((s.patternTaken d).each [0, 1, 2] (fun t x => t.writeCompare d x (ws.getD x 0))) := by
  change execPeakWidthCopy d s = _
  unfold execPeakWidthCopy
  rw [h]
  rfl

theorem regsOnly.drv (h : regsOnly s t) (d : Nat) : t.drv d = s.drv d := by
  have ce : t.ce = s.ce := sameIn.field h State.ce
  unfold State.drv
  rw [ce]

theorem State.drv_patternTaken (h : d < s.ce.drives.length) : ((s.patternTaken d).drv d).peakWait = none := by
  unfold State.patternTaken State.drv State.setDrv
  dsimp only
  rw [getD_updAt_lt h]

/-- From `s` to `t` no compare buffer of the group but that of phase `x` is written. -/
structure CompareKept (d x : Nat) (s t : State) : Prop where
  regs : Fields (([0, 1, 2].filter (· != x)).map (F.PWM_G_CMP_WIDTH d)) s t
  pwm : t.pwm = s.pwm

theorem CompareKept.refl (d x : Nat) (s : State) : CompareKept d x s s := ⟨Fields.refl _ s, rfl⟩

theorem CompareKept.trans (h : CompareKept d x s t) (k : CompareKept d x t u) : CompareKept d x s u :=
  ⟨h.regs.trans k.regs, k.pwm.trans h.pwm⟩

theorem State.writeCompare_fields (s : State) (d x v : Nat) :
    Fields [F.PWM_G_CMP_WIDTH d x] s (s.writeCompare d x v) := by
  unfold State.writeCompare
  exact Fields.ite (Fields.refl _ s) (Fields.setF List.mem_cons_self rfl s v)

/-- Only a group that does not coast takes the pattern's widths (R197, R297). -/
theorem State.f_copied (w : regsWf s.regs = true) (hd : d < 6) (hx : x < 3) (ws : Nat → Nat) :
    (s.each [0, 1, 2] (fun t x => t.writeCompare d x (ws x))).f (F.PWM_G_CMP_WIDTH d x) =
      if (s.grp d).coasting then s.f (F.PWM_G_CMP_WIDTH d x) else ws x % 65536 := by
  obtain ⟨u, before, after⟩ := State.each_visit (R := CompareKept d x) (CompareKept.refl d x)
    (fun _ _ _ => CompareKept.trans) (f := fun t x => t.writeCompare d x (ws x)) (mem_phases hx) (by decide)
    (fun t k hk h => ⟨(t.writeCompare_fields d k _).mono fun z hz => List.mem_singleton.mp hz ▸
      List.mem_map_of_mem (List.mem_filter.mpr ⟨hk, by simpa using h⟩), (t.writeCompare_regsOnly d k _).pwm⟩) s
  have keep := compares_apart d hd x hx
  have wu := before.regs.wf w
  rw [after.regs.f ((u.writeCompare_fields d x _).wf wu) keep, State.f_writeCompare wu, State.grp_of_pwm before.pwm,
    before.regs.f w keep]

theorem State.copied_same (s : State) (d : Nat) (ws : Nat → Nat) :
    sameRegs s (s.each [0, 1, 2] (fun t x => t.writeCompare d x (ws x)))
      [(F.PWM_G_CMP_WIDTH d 0).addr, (F.PWM_G_CMP_WIDTH d 1).addr, (F.PWM_G_CMP_WIDTH d 2).addr] := by
  refine sameRegs.each_of_mem (fun x hx t => (t.writeCompare_same).mono fun a ha => ?_) s
  rw [List.mem_singleton.mp ha]
  exact List.mem_map_of_mem (f := fun x => (F.PWM_G_CMP_WIDTH d x).addr) hx

/-- PEAK_WIDTH_COPY (R297). -/
theorem peakWidthCopy_acts {d : Fin 6} {ws : List Nat} (hs : s.wf = true) (drives : s.ce.drives.length = 6)
    (h : (s.drv d).peakWait = some ws) : ∃ t, exec (.peakWidthCopy d) s = .next t ∧ (t.drv d).peakWait = none ∧
      (∀ x, x < 3 → t.f (F.PWM_G_CMP_WIDTH d x) =
        if (s.grp d).coasting then s.f (F.PWM_G_CMP_WIDTH d x) else ws.getD x 0 % 65536) ∧
      sameRegs s t [(F.PWM_G_CMP_WIDTH d 0).addr, (F.PWM_G_CMP_WIDTH d 1).addr, (F.PWM_G_CMP_WIDTH d 2).addr] ∧
      sameMem s t := by
  have w : regsWf (s.patternTaken d).regs = true := State.wf_regs hs
  have copied : regsOnly (s.patternTaken d)
      ((s.patternTaken d).each [0, 1, 2] (fun t x => t.writeCompare d x (ws.getD x 0))) :=
    sameIn.each (fun t x => t.writeCompare_regsOnly d x _) _ _
  refine ⟨_, exec_peakWidthCopy h, ?_, fun x hx => State.f_copied w d.isLt hx (fun x => ws.getD x 0),
    (sameRegs.ofRegs (State.setDrv_regs ..)).trans (State.copied_same _ d _),
    sameMem.ofMem (copied.pwmOnly.mem.trans (State.setDrv_mem ..))⟩
  have small : d.val < s.ce.drives.length := by
    rw [drives]
    exact d.isLt
  rw [copied.drv]
  exact State.drv_patternTaken small

end Copy

section Channel

variable {s t : State} {c : Nat}

/-- What a period's start reads besides DUTY. -/
def channelReads (c : Nat) : List Fld :=
  [F.PWM_GP_CFG_EN c, F.PWM_CTL_EN, F.PAIR_STAT_STATE, F.BOOT_STAT_RECOVERY, F.PAIR_CFG_MODE, F.PWM_GP_CFG_SAFE c,
   F.PWM_GP_DUTY_SAFEDUTY c]

theorem channelReads_apart : ∀ c, c < 32 → ∀ y, y ∈ channelReads c → y.addr ∉ [(F.PWM_GP_ACT_DUTY c).addr] := by
  decide +kernel

/-- The channel's width in use is loaded (R200). -/
def State.dutyLoaded (s : State) (c : Nat) : State := s.setF (F.PWM_GP_ACT_DUTY c) (s.f (F.PWM_GP_DUTY_DUTY c))

/-- The channel runs, shows its safe value, or is idle (R193, R195). -/
def State.channelStarted (s : State) (c : Nat) : State :=
  s.setGpc c (fun q => { q with live := s.gpEnabled c && !s.safe.held, safe := s.gpEnabled c && s.safe.held })

theorem exec_gpPeriodStart {c : Fin 32} (on : s.pwmOn = true) : exec (.gpPeriodStart c) s =
    .next (((s.dutyLoaded c).channelStarted c).setGpc c
      (fun q => { q with pin := ((s.dutyLoaded c).channelStarted c).gpPin c 0 })) := by
  change Host.Outcome.next (if s.pwmOn then _ else s) = _
  rw [if_pos on]
  rfl

theorem State.dutyLoaded_same (s : State) (c : Nat) : sameRegs s (s.dutyLoaded c) [(F.PWM_GP_ACT_DUTY c).addr] :=
  sameRegs.setF s _ List.mem_cons_self

theorem State.dutyLoaded_rd (hc : c < 32) (s : State) (y : Fld) (hy : y ∈ channelReads c) :
    (s.dutyLoaded c).rd y.addr = s.rd y.addr :=
  s.dutyLoaded_same c _ (channelReads_apart c hc y hy)

theorem State.gpEnabled_dutyLoaded (hc : c < 32) (s : State) : (s.dutyLoaded c).gpEnabled c = s.gpEnabled c := by
  have same := s.dutyLoaded_rd hc
  have boot : (s.dutyLoaded c).boot = s.boot := State.setF_boot ..
  unfold State.gpEnabled State.drivesPins State.unitKnown State.unitCode
  rw [State.on_of_rd (same (F.PWM_GP_CFG_EN c) (by simp [channelReads])),
    State.on_of_rd (same F.PWM_CTL_EN (by simp [channelReads])),
    State.f_of_rd (same F.PAIR_STAT_STATE (by simp [channelReads])),
    State.on_of_rd (same F.BOOT_STAT_RECOVERY (by simp [channelReads])),
    State.f_of_rd (same F.PAIR_CFG_MODE (by simp [channelReads])), boot]

theorem State.gpSafeLevel_dutyLoaded (hc : c < 32) (s : State) (n : Nat) :
    (s.dutyLoaded c).gpSafeLevel c n = s.gpSafeLevel c n := by
  have same := s.dutyLoaded_rd hc
  unfold State.gpSafeLevel
  rw [State.f_of_rd (same (F.PWM_GP_CFG_SAFE c) (by simp [channelReads])),
    State.f_of_rd (same (F.PWM_GP_DUTY_SAFEDUTY c) (by simp [channelReads]))]

theorem State.gpc_channelStarted (len : c < s.pwm.gps.length) : (s.channelStarted c).gpc c =
    { s.gpc c with live := s.gpEnabled c && !s.safe.held, safe := s.gpEnabled c && s.safe.held } := by
  rw [State.channelStarted, State.gpc_setGpc_same len]

/-- The pin at the start of a period (R193, R195, R200). -/
theorem State.gpPin_channelStarted (len : c < s.pwm.gps.length) : (s.channelStarted c).gpPin c 0 = (s.gpEnabled c &&
    (if s.safe.held then s.gpSafeLevel c 0 else decide (0 < s.f (F.PWM_GP_ACT_DUTY c)))) := by
  have started := State.gpc_channelStarted len
  have enabled : (s.channelStarted c).gpEnabled c = s.gpEnabled c := rfl
  cases en : s.gpEnabled c with
  | false => exact State.gpPin_off (enabled.trans en) 0
  | true =>
    cases held : s.safe.held with
    | true => exact State.gpPin_safe (enabled.trans en) (by rw [started, en, held]; rfl) 0
    | false =>
      exact State.gpPin_live (enabled.trans en) (by rw [started, en, held]; rfl) (by rw [started, en, held]; rfl) 0

/-- GP_PERIOD_START (R193, R195, R200). -/
theorem gpPeriodStart_acts {c : Fin 32} (hs : s.wf = true) (channels : s.pwm.gps.length = 32) (on : s.pwmOn = true) :
    ∃ t, exec (.gpPeriodStart c) s = .next t ∧ t.f (F.PWM_GP_ACT_DUTY c) = s.f (F.PWM_GP_DUTY_DUTY c) ∧
      (t.gpc c).pin = (s.gpEnabled c &&
        (if s.safe.held then s.gpSafeLevel c 0 else decide (0 < s.f (F.PWM_GP_DUTY_DUTY c)))) ∧
      (t.gpc c).live = (s.gpEnabled c && !s.safe.held) ∧ (t.gpc c).safe = (s.gpEnabled c && s.safe.held) ∧
      sameRegs s t [(F.PWM_GP_ACT_DUTY c).addr] ∧ sameMem s t := by
  have duty : (s.dutyLoaded c).f (F.PWM_GP_ACT_DUTY c) = s.f (F.PWM_GP_DUTY_DUTY c) :=
    (State.f_setF_same (State.wf_regs hs) rfl _).trans (Nat.mod_eq_of_lt (s.f_lt (F.PWM_GP_DUTY_DUTY c)))
  have len : c.val < (s.dutyLoaded c).pwm.gps.length := by
    rw [State.dutyLoaded, State.setF_pwm, channels]
    exact c.isLt
  have started := State.gpc_channelStarted len
  have pin := State.gpPin_channelStarted len
  have len' : c.val < ((s.dutyLoaded c).channelStarted c).pwm.gps.length := (length_updAt _ _ _).symm ▸ len
  have enabled := State.gpEnabled_dutyLoaded c.isLt s
  have safe : (s.dutyLoaded c).safe = s.safe := State.setF_safe ..
  rw [enabled, safe] at started
  rw [enabled, safe, duty, State.gpSafeLevel_dutyLoaded c.isLt] at pin
  have regs : ∀ f, (((s.dutyLoaded c).channelStarted c).setGpc c f).regs = (s.dutyLoaded c).regs := fun f => by
    rw [State.setGpc_regs, State.channelStarted, State.setGpc_regs]
  have mem : ∀ f, (((s.dutyLoaded c).channelStarted c).setGpc c f).mem = s.mem := fun f => by
    rw [State.setGpc_mem, State.channelStarted, State.setGpc_mem, State.dutyLoaded, State.setF_mem]
  refine ⟨_, exec_gpPeriodStart on, (State.f_of_regs (regs _) _).trans duty, ?_, ?_, ?_,
    (s.dutyLoaded_same c).trans (sameRegs.ofRegs (regs _)), sameMem.ofMem (mem _)⟩
  all_goals rw [State.gpc_setGpc_same len']
  · exact pin
  all_goals rw [started]

end Channel

/-- Settles O31: a valley samples, rotates, releases and loads in that order; a peak loads; a pattern is copied; a
channel's period starts. -/
theorem carrierEventsLoad : Obligations.CarrierEventsLoad := by
  refine ⟨fun s g trips hs groups seqs phases on => ⟨_, exec_carrierValley on, ?_⟩,
    fun s g hs seqs on => carrierPeak_acts hs seqs on, fun s d ws hs drives wait => peakWidthCopy_acts hs drives wait,
    fun s c hs channels on => gpPeriodStart_acts hs channels on⟩
  · have w : regsWf (s.valleyRaised g).regs = true := State.wf_regs hs
    have len : g.val < (s.valleyRaised g).pwm.groups.length := by
      rw [State.valleyRaised, State.trigRaise_pwm, groups]
      exact g.isLt
    have lv : trips.toNat < 2 ^ 8 := trips.isLt
    obtain ⟨live, sticky⟩ := State.valley_trips w g.isLt lv
    obtain ⟨outside, -⟩ := State.valley_outside g.isLt (s.valleyRaised g) trips.toNat
    have noPh := State.valley_noPh w len g.isLt trips.toNat
    have grp := State.valleyCounted_grp (s := (s.valleyRaised g).valley g trips.toNat) (by rwa [State.valley_length])
      ((s.grp g).clk0 && (s.grp g).phase == 0)
    simp only [State.valleyCounted_f, State.valleyCounted_on, State.valleyCounted_rd, State.valleyCounted_carry, grp]
    refine ⟨State.valley_forced w g.isLt _, congrArg Group.live noPh, trivial, live, sticky, fun quiet x hx => ?_,
      fun coast h x hx => State.valley_width w len g.isLt hx coast h _, fun cut => ⟨fun fresh => ?_,
        (State.valley_cut w len g.isLt lv cut · |>.1), (State.valley_cut w len g.isLt lv cut · |>.2)⟩,
      fun cut => ((State.valley_cutStill w len g.isLt lv (.inl cut)).1).trans cut, congrArg Group.fresh noPh,
      fun cut x hx => ?_, fun quiet cut coast x hx p hp weff hw th ht hth => ?_, fun _ _ => ?_, fun coast => ?_,
      fun n hn => ?_, fun h x hx hne => ?_, fun a ha hc => ?_, ?_⟩
    · exact State.valley_carry w len g.isLt hx (by rw [show (s.valleyRaised g).groupQuiet g = true from quiet]; rfl)
    · have still := State.valley_cutStill w len g.isLt lv (.inr fresh)
      exact ⟨still.1.trans cut, still.2⟩
    · exact State.valley_carry w len g.isLt hx (by rw [cut, Bool.or_true])
    · exact State.valley_phase w len g.isLt hx coast quiet cut hp hw ht hth
    · exact State.valley_drops w len g.isLt phases _
    · obtain ⟨coasting, angle, widths⟩ := State.valley_rotated w len g.isLt coast trips.toNat
      have en : (s.valleyRaised g).on (F.PWM_G_COAST_EN g) = true := coast
      rw [en] at noPh
      exact ⟨coasting, congrArg Group.coasting noPh, angle, congrArg Group.nextAngle noPh, widths⟩
    · rw [State.iseq_of_adc (State.valleyCounted_adc ..)]
      exact State.valley_triggers seqs hn g _
    · obtain ⟨compare, active⟩ := (valleyFields_other g g.isLt h h.isLt).resolve_left (fun e => hne (Fin.ext e)) x hx
      exact ⟨(State.valley_fields _ g _).regs _ compare, (State.valley_fields _ g _).regs _ active⟩
    · exact (State.valleyCounted_rd ..).trans (outside a ha hc)
    · exact sameMem.ofMem ((State.valleyCounted_mem ..).trans (State.valley_fields _ g _).rest.mem)

end Sys2Proof.Machine
